-- ==== Sys2Proof/Word.lean ====
section
/-! DEFINITION. Sys2Proof/Word.lean: the word types of the DVX4 model. A parameter register is at most 32 bits wide (R427), a
packet is a list of bytes (R321), and the port registers of the protection island hold one bit for each of the 36 gate ports. -/

namespace Sys2Proof

/-- One byte of a packet, tile or record. -/
abbrev Byte := BitVec 8

/-- One parameter register (R427: at most 32 bits in one ID). -/
abbrev Word := BitVec 32

/-- One bit for each gate port GP00 to GP35 (R1, R22). -/
abbrev Ports := BitVec 36

end Sys2Proof
end

