-- ==== Sys2Proof/Syntax.lean ====
section
/-! DEFINITION. Sys2Proof/Syntax.lean: the commands of the DVX4, one constructor for each row of spec/opcode_table.json, with
the operands each row carries. Host commands carry the header fields of R321 that their service reads; events carry what the
outside world brings with them (a port, a bit stream, a measured value). -/

namespace Sys2Proof

/-- The four planes of R1. -/
inductive Plane where
  | g | m | d | b
  deriving DecidableEq, Repr

/-- The plane code p of R130. -/
def Plane.code : Plane → Nat
  | .g => 0 | .m => 1 | .d => 2 | .b => 3

/-- The six clock islands of R15. -/
inductive Island where
  | ctl | app | sys | acq | aon | prt
  deriving DecidableEq, Repr

/-- A channel of R327: the SPI port, or one UDP source. -/
inductive Chan where
  | spi
  | udp (ip port : Nat)
  deriving DecidableEq, Repr

/-- The header fields of R321 that a command's service reads, beside CLASS and OPCODE, which the row fixes: the channel it
came on, SEQ, HANDLE, FLAGS, the stamp, and the trailer, which R329 compares. -/
structure Env where
  chan   : Chan
  seq    : Nat
  handle : Nat := 0
  flags  : Nat := 0
  stamp  : Nat := 0
  crc    : Nat := 0
  deriving DecidableEq, Repr

/-- The 8-byte payload of an URGENT command (R331): byte 0, bytes 1 to 3, bytes 4 to 7. -/
structure UPay where
  b0    : Nat
  resv  : Nat := 0
  group : Nat := 0
  deriving DecidableEq, Repr

/-- The 4-byte payload of a plane command (R336): the plane code and the reserved bytes. -/
structure PPay where
  code : Nat
  resv : Nat := 0
  deriving DecidableEq, Repr

/-- One entry of SET_PARAM (R350). -/
structure PEntry where
  id   : Nat
  val  : Word
  grp  : Nat := 0
  resv : Nat := 0
  deriving DecidableEq, Repr

/-- The 8-byte prefix of BULK data packets (R339). -/
structure Pre where
  unit   : Nat
  offset : Nat
  b6     : Nat := 0
  grp    : Nat := 0
  deriving DecidableEq, Repr

/-- The three supply monitors of a gate port (R169). -/
inductive Mon where
  | vcc | vboot | vee
  deriving DecidableEq, Repr

/-- A vector of the αβ frame (R11), held as a and √3·β, so that the Clarke transform is exact. -/
structure AB where
  a  : Rat := 0
  b3 : Rat := 0
  deriving DecidableEq, Repr

/-- A reference set as Teasel publishes it (R121). -/
structure RefSet where
  iRef   : AB := {}
  uQ     : AB := {}
  vFf    : AB := {}
  f      : Rat := 0
  scalar : Rat := 0
  theta  : Rat := 0
  deriving DecidableEq, Repr

/-- A write that lands in the cycle of a reload (R139): none, a shadow word, or SET_VALID. -/
inductive RaceWrite where
  | none | word | valid
  deriving DecidableEq, Repr

/-- The measurements of one 10 ms window (R255): errors in 0.1 ppm, YCLK's when present, a clamp reached (R256), and the length of
a cycle of the FBO in ns (R259). -/
structure FreqWin where
  pllm  : Int
  xref  : Int
  yclk  : Option Int
  clamp : Bool
  fbo   : Rat
  deriving DecidableEq, Repr

/-- How a replay ends, other than by a command (R316, R317): after its last loop, at a tile (by its sequence number in the record) that
fails its CRC as it is read, when INJ_TMAX passes. -/
inductive RpEnd where
  | last
  | tileBad (tile : Nat)
  | tmax
  deriving DecidableEq, Repr

/-- The 16-byte payload of ACQ_READ (R340). -/
structure ReadPay where
  src   : Nat
  slot  : Nat := 0
  resv  : Nat := 0
  num   : Nat := 0
  first : Nat := 0
  count : Nat := 0
  deriving DecidableEq, Repr

/-- The payload of a data packet of BULK: prefix and data (R339). -/
structure DataPay where
  pre  : Pre
  data : List Byte := []
  deriving DecidableEq, Repr

/-- A 4-byte payload of a slot and reserved bytes (R340). -/
structure SlotPay where
  slot : Nat
  resv : Nat := 0
  deriving DecidableEq, Repr

/-- A Sync of the chosen master (R274, R276): the port, its domain and whether it came by IEEE 802.3 (R271), the master, T_NET minus
the master's time with the mean path delay removed (ns), the servo's frequency term and offset term (2⁻⁴⁰ per step), and its bound on
the offset (ns). -/
structure PtpSync where
  port   : Nat
  domain : Nat := 0
  ieee   : Bool := false
  master : Nat
  offset : Int
  freq   : Int
  slew   : Int
  err    : Nat
  deriving DecidableEq, Repr

/-- A PTP message to forward (R272). A two-step Sync and its Follow_Up carry the same key, which stands for their port identity and
sequence number. -/
inductive PtpMsg where
  | syncOne
  | syncTwo (key : Nat)
  | followUp (key : Nat)
  | other
  deriving DecidableEq, Repr

/-- The payload of FRAME_SEND (R287, R338). -/
structure FramePay where
  port   : Nat
  resv   : Nat := 0
  launch : Nat := 0
  base   : Nat := 0
  queue  : Nat := 0
  hp     : Bool := false
  bytes  : List Byte := []
  deriving DecidableEq, Repr

/-- What a survey gives a module (R310, R311): its position, the delays d_i of every position in 10 ps, the head's T_BUS at the
mark, ns. -/
structure Survey where
  pos    : Nat
  delays : List Nat
  bus    : Rat
  deriving DecidableEq, Repr

/-- What comes to Campion from outside the modelled state at an outer boundary: the back-EMF observer (R223), the two encoders (turns,
turns per second), the mean air-gap power in W (R227), and the count of CLK_AON (R376). -/
structure OuterIn where
  thObs : Rat := 0
  fObs  : Rat := 0
  enc   : List (Rat × Rat) := []
  pAg   : Rat := 0
  /-- the count of CLK_AON at this strobe (R376) -/
  aon   : Nat := 0
  deriving DecidableEq, Repr

/-- Something that happens at a cycle of CLK_CTL after the last strobe. -/
structure Timed (α : Type) where
  what  : α
  cycle : Nat
  deriving DecidableEq, Repr

/-- The averages over 100 ms, in mW: of SYS.P_GATE (R43) and of SYS.P_IN (R44). -/
structure PowerMean where
  gate  : Nat
  input : Nat
  deriving DecidableEq, Repr

/-- The stretch of a TRIP window (R176): per measurement port the MDAT line level at each sample of CLK_PRT, and the samples at which
MDCLK rises. -/
structure LineWindow where
  lines : List Nat
  edges : List Nat
  deriving DecidableEq, Repr

/-- An island that is restarted (R419), and the entries of the DRAM tables that then fail their CRC: by handle, with whether the channel's
address is among what they held (R346). -/
structure Restart where
  island : Island
  lost   : List (Nat × Bool)
  deriving DecidableEq, Repr

/-- A change of an MDCLK pair (R84): the instant after the last strobe, and whether the load is faulty. -/
structure PairLoad where
  instant : Int
  faulty  : Bool
  deriving DecidableEq, Repr

/-- A measured path delay in ns (R279): whether the peer mechanism gave it. -/
structure DelayMeasured where
  peer  : Bool
  delay : Int
  deriving DecidableEq, Repr

/-- A frame as a Vorula link brings it: the count of CLK_AON at its start, and its bytes with the CRC. -/
structure LinkFrame where
  aon   : Nat
  bytes : List Byte
  deriving DecidableEq, Repr

/-- Instructions of the JTAG port (R63). -/
inductive JtagIns where
  | idcode | bypass | extest | debug
  deriving DecidableEq, Repr

/-- When the new Campion image first writes its groups after a swap at k_h (R406): at k_h+1, at k_h+2, or not by then. -/
inductive SwapWrite where
  | first | second | never
  deriving DecidableEq, Repr

/-- What MIGRATE gives (R402): the parameter words and the images of the RGT tiles that it converts, or that it stops, with the
parameter it stops at and its status. -/
inductive Migr where
  | words (ws : List (Nat × Word)) (ts : List (Nat × List Byte))
  | fails (id status : Nat)
  deriving DecidableEq, Repr

/-! ## What the operands of events say

- `bs` of CONTROL_STROBE, CARRIER_RELOAD and METER_OUTPUT: for each measurement port the level of its line in each cycle of CLK_CTL since
  the last strobe, the first cycle in bit 0. The model samples it at the point of R69 and decodes it by R71.
- `bs` and `edges` of TRIP_OUTPUT: for each port the level at each cycle of CLK_PRT of the window, and its rising edges of MDCLK.
- `at'` of CUT_ARRIVAL, ENCODER_INDEX, TC_FIRE and the criteria of R84: cycles of CLK_CTL after the last strobe (negative: before it);
  of ALIGNMENT_MARK: ns after the last strobe. `x` of CARRIER_MARK: 1/64 cycles after it.
- `aon`: the count of CLK_AON at the event (R376). `da` of HEARTBEAT_SEND: the d_a of R370 for a fragment 7.
- `missed` of HEARTBEAT_RECEIVE and PATH_DOWN: the windows that passed without a frame before this event.
- `b` of a Vorula frame: the whole frame, its type first and its CRC last (R368).
- `lost` of ISLAND_RESET: the handles whose entry in DRAM fails its CRC, each with whether the channel's address is lost too (R419).
- `hw` of SETTINGS_LOADED and SELF_TEST_COMPLETE: what the hardware found, the bits of R418 or R424 that fail.
-/

/-- The commands of the block, one constructor for each row of the table. -/
inductive Instr where
  /-- STOP (R331): URGENT STOP puts every targeted plane that is READY, RUNNING, SAFE or TEST into SAFE with cause 0x0E and a chosen
  sub-state. -/
  | stop (e : Env) (u : UPay)
  /-- PULSE_BLOCK (R331): URGENT PULSE_BLOCK puts targeted active planes into SAFE with PULSE_BLOCK forced, cause 0x0F. -/
  | pulseBlock (e : Env) (u : UPay)
  /-- ASC (R331): URGENT ASC forces an active short on plane M and PULSE_BLOCK on the other targeted planes, cause 0x10. -/
  | asc (e : Env) (u : UPay)
  /-- TRIP_GROUP (R334): URGENT TRIP_GROUP for the module's own group ID takes targeted planes to SAFE and, when not yet FORWARDED,
  propagates the packet to the group address. -/
  | tripGroup (e : Env) (u : UPay)
  /-- PLANE_ENABLE (R89): Takes a plane from OFF to STOPPED, clears the lane context and sets the region bins without hysteresis. -/
  | planeEnable (e : Env) (p : PPay)
  /-- PLANE_ARM (R89): Long operation that checks the arm conditions and switches on the plane's gate supplies to go from STOPPED to
  READY. -/
  | planeArm (e : Env) (p : PPay)
  /-- PLANE_ARM_READY (R89): When every port of an arming plane has released UVLO, the plane enters READY and Sorrel releases
  prt_override of its ports. -/
  | planeArmReady (p : Plane)
  /-- PLANE_ARM_TIMEOUT (R89): When UVLO has not released within 10 ms of PLANE_ARM, the supplies go off again, the plane stays STOPPED
  and the operation completes with WRONG_STATE. -/
  | planeArmTimeout (p : Plane)
  /-- PLANE_START (R89): Takes a READY plane to RUNNING at the next strobe, with BAND_SCALE set to 1.0 and every dwell counted as
  expired. -/
  | planeStart (e : Env) (p : PPay)
  /-- PLANE_STOP (R90): Long operation that ramps a RUNNING plane's reference to zero and blocks pulses, returning the plane to READY. -/
  | planeStop (e : Env) (p : PPay)
  /-- STOP_LIMIT (R90): When STOP_LIMIT has passed since PLANE_STOP, the lane blocks pulses at the next strobe whatever the current. -/
  | stopLimit (p : Plane)
  /-- PLANE_DISARM (R89): Takes a READY plane to STOPPED, switches its gate supplies off and has Sorrel set prt_override again. -/
  | planeDisarm (e : Env) (p : PPay)
  /-- PLANE_DISABLE (R89): Takes a STOPPED plane to OFF. -/
  | planeDisable (e : Env) (p : PPay)
  /-- CLEAR_SAFE (R185): Takes a plane from SAFE to READY at the next strobe when every clearing condition holds there and at the
  command check. -/
  | clearSafe (e : Env) (p : PPay)
  /-- TEST_ENTER (R186): Takes a READY plane to TEST with the kind in PROT.TEST_KIND, after the kind's entry condition. -/
  | testEnter (e : Env) (p : PPay)
  /-- TEST_EXIT (R89): Takes a plane from TEST to READY and has Sorrel release prt_override. -/
  | testExit (e : Env) (p : PPay)
  /-- TEST_GO (R186): Write of PROT.TEST_GO starts a double pulse or a self-check on the plane in TEST. -/
  | testGo (e : Env) (v : Word)
  /-- TEST_SEQUENCE_END (R186): End of a double pulse or self-check sequence sets SELF_OK or SELF_FAIL where applicable and raises
  TEST_DONE. -/
  | testSequenceEnd (fail : List Nat)
  /-- GFM_SYNC (R215): Long operation that starts pre-synchronisation of plane G in FORM onto a live bus behind an open breaker. -/
  | gfmSync (e : Env) (p : PPay)
  /-- SYNC_TIMEOUT (R216): Expiry of GFM.SYNC_TIMEOUT completes GFM_SYNC with CANCELLED and withdraws any permit. -/
  | syncTimeout
  /-- DC_PRECHARGE (R233): Long operation in which Campion closes the precharge bypass once the DC link has charged to PRE_FRAC of the
  storage voltage. -/
  | dcPrecharge (e : Env) (p : PPay)
  /-- PRE_FAIL (R233): Expiry of CTL.B.PRE_TIME before the bypass closes completes DC_PRECHARGE with CANCELLED and raises PRE_FAIL. -/
  | preFail
  /-- DC_DISCHARGE (R234): Long operation in which Campion switches on the discharge resistor until V_DC falls below DIS_V. -/
  | dcDischarge (e : Env) (p : PPay)
  /-- DIS_TIME (R234): Expiry of CTL.B.DIS_TIME clears AUX [1] and completes DC_DISCHARGE with CANCELLED. -/
  | disTime
  /-- SET_PARAM_CONTROL (R350): CONTROL-class SET_PARAM that writes only LIVE and BOUNDARY parameters after the two-pass checks. -/
  | setParamControl (e : Env) (es : List PEntry) (resv : Nat)
  /-- SET_PARAM (R350): Checks every entry in two passes and then applies each parameter by its commit class, or stages it inside a
  transaction. -/
  | setParam (e : Env) (es : List PEntry) (resv : Nat)
  /-- MODE_WRITE (R156): A write of CTL.x.MODE moves the plane to BAND at the next strobe or arms an exit to CARRIER. -/
  | modeWrite (e : Env) (p : Plane) (v : Word)
  /-- GET_PARAM (R349): Returns the values of up to 64 parameter IDs, read coherently within each island. -/
  | getParam (e : Env) (ids : List Nat)
  /-- ACQ_TRIGGER (R303): Fires every enabled trigger unit of kind COMMAND. -/
  | acqTrigger (e : Env)
  /-- ACQ_RELEASE (R305): Frees a CLOSED capture slot, resuming capture there when the state was FULL and cancelling a read of that slot. -/
  | acqRelease (e : Env) (p : SlotPay)
  /-- REPLAY_START (R314): Long operation that holds the replay slot, prefetches two tiles and arms the replay for its start condition. -/
  | replayStart (e : Env)
  /-- REPLAY_STOP (R317): Ends a replay with CANCELLED and returns the plane to live samples without a ramp. -/
  | replayStop (e : Env)
  /-- STEP_BACK (R277): Steps T_NET back by the present offset and clears TIME_SUSPECT. -/
  | stepBack (e : Env)
  /-- HANDLE_QUERY (R347): Returns the state of a handle and, for a completed one, its COMPLETE payload from the log. -/
  | handleQuery (e : Env) (h : Nat)
  /-- HANDLE_CANCEL (R348): Requests cancellation of the operation on a handle, which then completes by R361. -/
  | handleCancel (e : Env) (h : Nat)
  /-- TXN_OPEN (R353): Opens the single configuration transaction, optionally SEQUENTIAL, and returns its handle. -/
  | txnOpen (e : Env)
  /-- TXN_PREPARE (R355): Hands each island its staged part to check joining rules and state conditions, load shadows and copy tiles
  into spares. -/
  | txnPrepare (e : Env)
  /-- PREPARED (R355): The islands report the outcome of preparation, moving the transaction to PREPARED or ending it with the failing
  status. -/
  | prepared
  /-- TXN_COMMIT (R356): Fixes the commit sample k_c of a PREPARED transaction. -/
  | txnCommit (e : Env) (kc : Nat)
  /-- TXN_ABORT (R353): Ends the transaction with CANCELLED, freeing its spares, or stops a SEQUENTIAL sequence between groups. -/
  | txnAbort (e : Env)
  /-- TXN_TIMEOUT (R353): Expiry of SYS.TXN_TIMEOUT ends an OPEN, PREPARING or PREPARED transaction with CANCELLED, cause TIMEOUT. -/
  | txnTimeout
  /-- TXN_SWITCH (R357): At k_c each island switches to its staged part, the RGT pointers swap, and the transaction completes when all
  have reported. -/
  | txnSwitch
  /-- TXN_GROUP_SWITCH (R359): A later group of a SEQUENTIAL transaction is copied, verified and switched at an outer boundary, reported
  by PROGRESS. -/
  | txnGroupSwitch (ok : Bool)
  /-- SELF_TEST (R424): Long operation that runs the masked self-tests in bit order and reports pass and fail masks. -/
  | selfTest (e : Env) (mask : Nat)
  /-- RESET (R416): Replies OK and starts a COMMAND system reset, or a reset into recovery. -/
  | reset (e : Env) (sel resv : Nat)
  /-- SAVE_SETTINGS (R401): Writes the settings in force into the copy not loaded, as COMMITTED, or as STAGED while the slot is TRIAL. -/
  | saveSettings (e : Env)
  /-- FW_UPDATE (R394): Starts the transfer of a FULL, DELTA, OWNER_KEY or REVOKE package into the non-running slot. -/
  | fwUpdate (e : Env) (len kind resv : Nat) (base : List Byte)
  /-- FW_DATA (R394): Delivers a block of a firmware package, processed in ascending order with up to 16 blocks held ahead. -/
  | fwData (e : Env) (p : DataPay)
  /-- FW_ACTIVATE (R404): In RESET mode completes the handle and performs a reset that boots the PENDING slot. -/
  | fwActivate (e : Env) (resv kh : Nat)
  /-- FW_ACTIVATE_HITLESS (R405): In HITLESS mode loads the new Teasel, Campion and Tansy images and migrates settings for a swap at
  outer boundary k_h. -/
  | fwActivateHitless (e : Env) (resv kh : Nat)
  /-- HITLESS_READY (R405): When loading and migration have ended, k_h is fixed or the activation completes with LATE or
  MIGRATION_FAILED. -/
  | hitlessReady (mig : Migr)
  /-- HITLESS_SWAP (R405): At boundary k_h the old Campion writes its handover record, Teasel switches banks at the commit point and the
  new Campion starts. -/
  | hitlessSwap (w : SwapWrite)
  /-- TANSY_RESTART (R405): Once the new Campion has written its first group, Tansy announces the restart, writes its handover record
  and restarts from the new image. -/
  | tansyRestart
  /-- TANSY_RESTART_DONE (R408): The new Tansy restores its record, sends deferred replies and completes the activation with OK, leaving
  the slot TRIAL. -/
  | tansyRestartDone
  /-- RESTART_MAX (R408): A Tansy restart that outlasts FW.RESTART_MAX makes ISL_SYS count as stopped. -/
  | restartMax
  /-- ATTEST (R412): Returns the signed attestation statement for the given nonce. -/
  | attest (e : Env) (nonce : List Byte)
  /-- DEBUG_UNLOCK (R393): Checks a signed single-use token and enters DEBUG_UNLOCKED, drawing a new nonce after every attempt. -/
  | debugUnlock (e : Env) (t : List Byte)
  /-- GROUP_ACTION (R382): Accepts a MODE, ILV or ACTIVATE group action, runs its own verdict and publishes READY or REFUSE. -/
  | groupAction (e : Env) (p : List Byte)
  /-- GROUP_DECIDE (R383): At t_decide the member evaluates the descriptors of all members and publishes GO or NOGO. -/
  | groupDecide
  /-- GROUP_CONFIRM (R383): At t_apply minus 10 ms a member that published GO checks that every member shows GO, or publishes NOGO. -/
  | groupConfirm
  /-- GROUP_APPLY (R383): The member applies the action at the apply instant, publishes APPLIED and completes the handle. -/
  | groupApply
  /-- RGT_WRITE (R110): Delivers a fragment of an RGT tile image; a completed tile is checked and written or staged. -/
  | rgtWrite (e : Env) (p : DataPay)
  /-- RGT_READ (R339): Returns up to 1,432 bytes of a tile in force from the stated offset. -/
  | rgtRead (e : Env) (p : Pre)
  /-- ACQ_READ (R308): Long operation that sends the tiles of a slot, the slow stream or an archived record as BULK_DATA events after
  re-verifying each. -/
  | acqRead (e : Env) (p : ReadPay)
  /-- ACQ_ARCHIVE (R387): Long operation that copies a CLOSED slot to the flash archive, erasing oldest records or truncating when
  needed. -/
  | acqArchive (e : Env) (p : SlotPay)
  /-- REPLAY_LOAD (R314): Long operation that writes a host record into a FREE slot from REPLAY_DATA tiles. -/
  | replayLoad (e : Env) (p : SlotPay) (tiles : Nat)
  /-- REPLAY_DATA (R339): Delivers a fragment of a record tile for REPLAY_LOAD. -/
  | replayData (e : Env) (p : DataPay)
  /-- FRAME_SEND (R338): Queues a host frame with its launch descriptor on an Ethernet port, optionally under a handle. -/
  | frameSend (e : Env) (p : FramePay)
  /-- PACKET_WRITE (R324): SPI frame carrying one command packet into the DVX4, examined also by the URGENT decoder. -/
  | packetWrite (ready : Bool) (b : List Byte)
  /-- PACKET_READ (R324): SPI frame that reads the head packet of the outbound queue and removes it when fully clocked. -/
  | packetRead (n : Nat)
  /-- WINDOW_READ (R324): SPI frame that reads one host-window register with a CRC. -/
  | windowRead (addr : Nat)
  /-- WINDOW_WRITE (R324): SPI frame that writes a host-window register after its CRC check. -/
  | windowWrite (addr v crc : Nat)
  /-- SET_VALID (R139): A write of MOD.x.SET_VALID arms the shadow period set for the next reload. -/
  | setValid (e : Env) (p : Plane) (v : Word)
  /-- TIME_LATCH (R269): A write of TIME.LATCH copies all four time bases into the snapshot registers at one CLK_ACQ edge. -/
  | timeLatch (e : Env) (v : Word)
  /-- COMPARATOR_ARM (R284): Arming a time comparator with its base and event time, firing at once with LATE_ARM when already past. -/
  | comparatorArm (e : Env) (tc base : Nat) (t : BitVec 48)
  /-- COMPARATOR_DISARM (R284): A write of CTRL [2] = 0 disarms a comparator without firing. -/
  | comparatorDisarm (e : Env) (tc base : Nat)
  /-- PHASE_STEP (R262): A write of CLK.PHASE_STEP adds a signed count of phase steps to PHASE_PEND. -/
  | phaseStep (e : Env) (v : Word)
  /-- PHASE_STEP_APPLY (R261): The stepper moves the tap selector by one tap, at most once per 16 cycles of CLK_CTL, and counts it in
  PHASE_ACC. -/
  | phaseStepApply
  /-- REF_SEL_WRITE (R252): A write of CLK.REF_SEL leads PLL_M through HOLDOVER to RELOCK on the new reference. -/
  | refSelWrite (e : Env) (v : Word)
  /-- REF_MODE_WRITE (R265): A write of CLK.REF_MODE or PLLM_BW with all planes OFF or STOPPED leads PLL_M through HOLDOVER to RELOCK. -/
  | refModeWrite (e : Env) (bw : Bool) (v : Word)
  /-- YBUS_SURVEY (R310): A write of YBUS.SURVEY at the head starts a Yarrow survey. -/
  | ybusSurvey (e : Env) (v : Word)
  /-- GO_COLD (R367): A write of RED.CTRL GO_COLD in WARM powers down every island except ISL_AON once Sorrel grants it. -/
  | goCold (e : Env)
  /-- TAKE (R374): A write of RED.CTRL TAKE in WARM begins a takeover. -/
  | take (e : Env)
  /-- RELEASE (R373): A write of RED.CTRL RELEASE makes the ACTIVE module send FAIL, cause 0x04. -/
  | release (e : Env)
  /-- CONFIRM (R398): A write of FW.CTRL CONFIRM makes the running TRIAL slot GOOD and commits the staged settings. -/
  | confirm (e : Env)
  /-- CONFIRM_TIME (R398): Expiry of FW.CONFIRM_TIME with no island stopped makes the running TRIAL slot GOOD. -/
  | confirmTime
  /-- CAPTURE_ENABLE (R301): Setting ACQ.CTRL [0] checks the slot capacity and makes the lowest FREE slot FILLING. -/
  | captureEnable (e : Env) (v : Word)
  /-- CAPTURE_STOP (R306): Clearing ACQ.CTRL [0] closes the open record as TRUNCATED at the next bundle. -/
  | captureStop (e : Env) (v : Word)
  /-- QUEUE_DISABLE (R290): Clearing a bit of NET.ETHn.Q_EN discards the queue's frames, completing handled ones with CANCELLED. -/
  | queueDisable (e : Env) (port : Nat) (v : Word)
  /-- HALT_N_FALL (R31): HALT_N low for over 20 ns withdraws ENABLE at every port and holds every active plane in SAFE with cause 0x0B. -/
  | haltNFall
  /-- HALT_N_RISE (R31): HALT_N high for over 20 ns ends the withdrawal and the command refusals without turning any port on. -/
  | haltNRise
  /-- STO_LOW (R187): An STO channel low for 5 µs removes the gate-supply enables by hardware and has Sorrel withdraw ENABLE and apply
  cause 0x0C. -/
  | stoLow (second : Bool)
  /-- STO_HIGH (R187): Both STO channels high for 5 µs restore the gate supplies of planes in READY, SAFE and TEST and end cause 0x0C. -/
  | stoHigh
  /-- RESET_N_LOW (R58): RESET_N low for 10 µs takes every active plane to its safe state and starts an external reset; an ACTIVE module
  sends FAIL. -/
  | resetNLow
  /-- EXTERNAL_RESET_ENTRY (R58): 20 ms after a reset begins, every island except the hold-up supervisor enters reset, gate ports go
  passive-off and both BRK relays drop. -/
  | externalResetEntry
  /-- SUPPLY_LOW (R40): An input excursion between 16.0 V and 18 V raises SUPPLY_LOW once. -/
  | supplyLow (v : Nat)
  /-- SUPPLY_LOSS (R41): Input below 16.0 V for 200 µs takes every active plane to SAFE, drops the HOLD relay, stops HEALTH and sends
  the FAIL request. -/
  | supplyLoss
  /-- POWER_FAIL_RECORD (R41): Tansy writes the 256-byte power-fail record to the reserved flash page. -/
  | powerFailRecord
  /-- CORE_POWER_DOWN (R41): 2 ms after input loss the core islands power down and ISL_PRT takes over driving MDCLK. -/
  | corePowerDown
  /-- MC_RELAY_DROP (R189): 40 ms after input loss the machine-contactor relay is de-energised. -/
  | mcRelayDrop
  /-- POWER_UP (R420): After the input has stayed at or above 17.5 V for 100 ms, a POWER_UP system reset starts the power-up sequence. -/
  | powerUp (keep : Bool)
  /-- PLLM_LOCKED (R250): PLL_M reaches LOCKED after 4,096 consecutive good comparisons and the islands it feeds leave reset. -/
  | pllmLocked
  /-- FAST_START_LOADED (R420): The fast-start image is verified and loaded and Sorrel's firmware takes over from its state machines. -/
  | fastStartLoaded (lockstep : Bool)
  /-- SETTINGS_LOADED (R401): The image loads the newest eligible settings record, hands it to the islands, starts MDCLK and sets SYS_UP. -/
  | settingsLoaded (aon : Nat) (mig : Migr) (hw : Nat)
  /-- TANSY_EXT_RUNNING (R388): TANSY_EXT is verified and running, enabling its commands and group descriptors. -/
  | tansyExtRunning
  /-- ISLAND_STOPPED (R17): Detection that an island's clock or heartbeat stopped, its lockstep failed or it is held in reset, with the
  consequence of R17. -/
  | islandStopped (x : Island)
  /-- SUPERVISOR_RESET (R417): With AUTO_RESET at 1, ISL_CTL or ISL_APP stopped for AUTO_RESET_T makes Sorrel perform a system reset. -/
  | supervisorReset
  /-- ISLAND_RESET (R419): ISL_SYS, ISL_ACQ or ISL_AON is restarted alone, with the effects and limit of R419. -/
  | islandReset (x : Restart)
  /-- KEEP_ALIVE_LOSS (R23): A gate block that sees no keep-alive edge for 1 µs withdraws ENABLE until the keep-alive returns and the
  permission is rewritten. -/
  | keepAliveLoss (ports : List Nat)
  /-- UVLO_DECLARE (R169): A gate supply past its falling threshold for 200 ns turns the affected switches off and, for an active plane,
  is a cause for SAFE. -/
  | uvloDeclare (n : Nat) (m : Mon)
  /-- UVLO_RELEASE (R169): A gate supply past its rising threshold for 10 µs ends the port's hold and makes the switch available again. -/
  | uvloRelease (n : Nat) (m : Mon)
  /-- SHORT_DESAT (R171): Four samples above DESAT_TH after blanking start soft turn-off, latch the fault bit, count FAULT_CNT and cause
  SAFE. -/
  | shortDesat (l : List (Nat × Bool))
  /-- SHORT_HARD (R172): Two samples above HS_TH after the fixed blanking start soft turn-off within 6 cycles and latch the fault. -/
  | shortHard (n : Nat) (up : Bool)
  /-- SHORT_STAGGER (R175): After SHORT_STAGGER cycles the other ports of a desaturation group start their soft turn-off. -/
  | shortStagger
  /-- DEFERRED_TURN_OFF (R173): A Sorrel turn-off deferred during blanking starts soft turn-off at the end of blanking or 250 ns after
  the command. -/
  | deferredTurnOff (n : Nat)
  /-- GATE_PWR_HIGH (R43): A port's output averaged over 10 ms above 4.0 W raises GATE_PWR_HIGH. -/
  | gatePwrHigh (n : Nat) (mw : Nat)
  /-- GATE_BUDGET (R43): SYS.P_GATE averaged over 100 ms above the R39 limit takes every RUNNING plane to SAFE. -/
  | gateBudget (p : PowerMean)
  /-- T_BASE_UPDATE (R65): Each 10 ms baseplate temperature update raises OVERTEMP at +87 °C, applies cause 0x09 at +95 °C and sets the
  gate-power derating. -/
  | tBaseUpdate (t : Int)
  /-- MP_SUPPLY (R51): A measurement-port M5V supply entering its current limit raises MP_SUPPLY. -/
  | mpSupply (n : Nat)
  /-- BUS_PRESENT_CHANGE (R62): A filtered change of the BUS_PRESENT input is reported. -/
  | busPresentChange (on : Bool)
  /-- BRK_AUX_CHANGE (R62): A debounced change of the breaker auxiliary input, which Campion uses for permits and BRK_OPENED. -/
  | brkAuxChange (on : Bool)
  /-- MC_AUX_CHANGE (R62): A debounced change of the machine-contactor auxiliary input. -/
  | mcAuxChange (on : Bool)
  /-- BRK_MISMATCH (R190): A relay de-energised for 200 ms whose auxiliary reads closed raises BRK_MISMATCH or MC_MISMATCH once. -/
  | brkMismatch (mc : Bool)
  /-- BRK_DELAY (R188): Plane G in SAFE continuously for PROT.G.BRK_DELAY makes Sorrel de-energise the HOLD relay pair. -/
  | brkDelay
  /-- TRIP_OUTPUT (R176): At the end of each TRIP window every comparator evaluates its source and acts by its class, and protective
  chopping is evaluated. -/
  | tripOutput (w : LineWindow)
  /-- ASC_STEP (R183): After ASC_GAP the next step of a move into an ASC pattern sets its named ports. -/
  | ascStep
  /-- FORCED_ASC_END (R179): A forced ASC ends when ASC_WANTED has stayed 0 for 1 s, and Sorrel chooses the sub-state again. -/
  | forcedAscEnd
  /-- CUT_ARRIVAL (R146): A cut arriving in ISL_CTL sets the cut latch if its tag names the period in force, and is acknowledged on
  COL10. -/
  | cutArrival (p : Timed Plane)
  /-- CUT_ACK (R146): When the acknowledgements of every cut of a port have arrived, Sorrel restores its prt_permit. -/
  | cutAck (p : Plane)
  /-- BOUNDARY_COUNT (R147): Sorrel receives a boundary count and updates TRIP_RUN, latching SAFE at TRIP_LIMIT. -/
  | boundaryCount (p : Plane)
  /-- CONTROL_STROBE (R26): At strobe S_k the pulse interface takes the previous decisions and the lanes compute the decisions of sample
  k. -/
  | controlStrobe (bs : List Nat)
  /-- COMMIT_POINT (R26): At cycle N − 4 the lanes' decisions and Teasel sets are latched, Teasel is pre-empted and the capture bundle
  is written. -/
  | commitPoint (late : List Plane)
  /-- ADAPT_WINDOW_END (R94): At the end of each ADAPT_N window the lane adapts the band scale from the counted switching frequency. -/
  | adaptWindowEnd (p : Plane)
  /-- SRE_CHECK (R112): Once per 1 ms the Safe Region Entry is re-checked, raising SRE_BAD and requesting SAFE on failure. -/
  | sreCheck
  /-- CARRIER_RELOAD (R137): At a carrier valley or peak selected by RELOAD the shadow set becomes active as R139 decides. -/
  | carrierReload (p : Plane) (bs : List Nat) (w : RaceWrite)
  /-- FEED_GAP_STEP (R143): After FEED_GAP the next step of a phase's mode change applies OUT or the other feeder. -/
  | feedGapStep (p : Plane)
  /-- PUBLISH (R121): A Teasel PUBLISH hands the reference set for sample k+1 to the lane. -/
  | publish (p : Plane) (user : Option RefSet)
  /-- TEASEL_READ (R123): A Teasel read of the reference FIFO takes an item or stalls until one is readable. -/
  | teaselRead (p : Plane)
  /-- REF_ITEM_WRITE (R122): A reference item is written into a plane's FIFO, waiting in COL01 when all stages are full. -/
  | refItemWrite (p : Plane) (w : BitVec 64)
  /-- OUTER_BOUNDARY (R197): At each outer boundary Campion runs the outer laws on the latched state vectors and writes new reference
  groups. -/
  | outerBoundary (o : OuterIn)
  /-- ENC_LOST (R223): Encoder frame or index faults declare ENC_LOST, leading to sensorless fallback or PLANE_STOP. -/
  | encLost (enc : Nat)
  /-- ENCODER_INDEX (R150): An index edge of the selected encoder advances the mask pointer under INDEX. -/
  | encoderIndex (enc : Timed Nat)
  /-- STUCK (R84): No transition of the recovered NRZ bits for 2 µs declares the stream lost as STUCK. -/
  | stuck (n : Nat) (inPrt : Bool) (at' : Int)
  /-- CLK_FAULT (R84): An MDCLK pair load fault for 1 µs declares the stream lost in ISL_CTL. -/
  | clkFault (n : Nat) (c : PairLoad)
  /-- MANCHESTER_LOCK_LOST (R84): No valid mid-bit transition in 8 bit periods declares the Manchester stream lost as CLK_FAULT. -/
  | manchesterLockLost (n : Nat) (inPrt : Bool) (at' : Int)
  /-- MANCH_ERR (R84): The fourth code violation within 64 bits declares the stream lost as MANCH_ERR. -/
  | manchErr (n : Nat) (inPrt : Bool) (at' : Int)
  /-- FROZEN (R84): An identical comb output for FRZ_N strobes declares the stream lost as FROZEN. -/
  | frozen (n : Nat)
  /-- STREAM_VALID (R87): A stream running 64 samples without a loss criterion becomes valid and its mask is lifted. -/
  | streamValid (n : Nat) (inPrt : Bool)
  /-- SKEW_AUTO (R70): After 4,096 bits the skew calibration writes SKEW or sets EYE. `up` is how the hardware rounds a
  phase that falls between two cycles. -/
  | skewAuto (n : Nat) (up : Bool)
  /-- METER_OUTPUT (R82): Each METER output updates the moving averages and forms mean, RMS, p and q. -/
  | meterOutput (bs : List Nat)
  /-- CLK_HOLDOVER (R251): Repeated faulty comparisons or a reference beyond ±200 ppm put PLL_M into HOLDOVER with a frozen mean tuning
  word. -/
  | clkHoldover
  /-- REF_QUALIFIED (R252): The primary reference qualifying in HOLDOVER starts RELOCK. -/
  | refQualified (alt : Bool)
  /-- CLK_ALT_USED (R252): After REF_WAIT in HOLDOVER PLL_M relocks onto a qualified alternate. -/
  | clkAltUsed
  /-- FREQ_WINDOW (R255): Each 10 ms window ISL_PRT updates the frequency errors and evaluates CLK_DISAGREE and the frequency fallback
  criterion. -/
  | freqWindow (w : FreqWin)
  /-- HOLDOVER_MAX (R257): PLL_M in HOLDOVER for HOLDOVER_MAX triggers the move of ISL_CTL to the fallback oscillator. -/
  | holdoverMax
  /-- CLK_FALLBACK (R258): The switch request arrives and ISL_CTL's clock selector moves to the FBO. -/
  | clkFallback
  /-- CLK_RETURN (R260): PLL_M LOCKED for RETURN_HOLD within ±50 ppm returns ISL_CTL to PLL_M. -/
  | clkReturn
  /-- CLK_PRT_HOLD (R264): PLL_P entering HOLDOVER raises CLK_PRT_HOLD while every plane runs on. -/
  | clkPrtHold
  /-- PTP_SYNC (R276): A Sync from the chosen master yields an offset that is slewed, stepped or marked suspect, and advances the servo
  state. -/
  | ptpSync (m : PtpSync)
  /-- PATH_DELAY_MEASURE (R279): A new path-delay measurement is compared with the accepted delay, entering or resolving PD_HOLD. -/
  | pathDelayMeasure (port : Nat) (d : DelayMeasured)
  /-- PD_HOLD_TIMEOUT (R279): PD_HOLD lasting 60 s puts the servo in HOLDOVER. -/
  | pdHoldTimeout
  /-- PTP_HOLDOVER (R274): No Sync for 3 intervals or announce timeout puts the servo in HOLDOVER. -/
  | ptpHoldover
  /-- PTP_FORWARD (R272): A PTP message is forwarded between the ports as a transparent clock with its residence time added. -/
  | ptpForward (port : Nat) (m : PtpMsg) (res : Int)
  /-- REPLICA_REALIGN (R268): Once per 1 ms each time-base replica is realigned to its master. -/
  | replicaRealign (found : List Rat)
  /-- TC_FIRE (R285): A comparator's base reaching its event time fires it, raises TC_FIRE and toggles its bit on COL09. -/
  | tcFire (tc : Timed Nat)
  /-- LAUNCH (R288): A frame with a launch time at the head of its queue waits, is sent or is discarded as LATE. -/
  | launch (port : Nat) (dt : Nat)
  /-- LINK_DOWN (R290): A link going down discards every queue of its port and stops forwarding. -/
  | linkDown (port : Nat)
  /-- RECORD_CLOSE (R301): After POST samples the slot is CLOSED, its header finalised, ACQ_CLOSED raised and the next slot filled. -/
  | recordClose
  /-- SLOW_STREAM_ENTRY (R307): The slow stream writes one entry at every SLOW_DIV-th T_GRID cycle or every 20 ms when stalled. -/
  | slowStreamEntry
  /-- REPLAY_END (R317): A replay ending by its last loop, a cause of R316 or a tile failure completes and returns the plane to live
  samples. -/
  | replayEnd (r : RpEnd)
  /-- YARROW_HEAD (R309): A module that sees no YPRS on YIN for 10 ms becomes head of the chain. -/
  | yarrowHead
  /-- YCLK_REQUEST_PULSE (R309): YCLK returning after over 1 µs absence makes the module drive a 1,000 ns request pulse. -/
  | yclkRequestPulse
  /-- SURVEY_START (R310): The head starts a survey 20 ms after the chain settles or after the last request pulse. -/
  | surveyStart
  /-- SURVEY_DONE (R310): A survey ends with delays and L distributed, or SURVEY_FAIL, and T_BUS is set at a mark. -/
  | surveyDone (v : Survey)
  /-- ALIGNMENT_MARK (R281): Each once-per-second mark is stamped in T_NET and compared with the other members, raising TIME_XCHK or
  TIME_XCHK_FAIL. `ns` and
  `part` are the whole ns from the last strobe to its arrival and the rest of a ns. -/
  | alignmentMark (ns : Int) (part : Rat)
  /-- CARRIER_MARK (R153): A carrier mark delivers its compensated instant to ISL_CTL for valley alignment. -/
  | carrierMark (x : Int)
  /-- GROUP_TRIGGER (R312): A YTRG pulse is decoded to its origin position and the application instant t_a computed. -/
  | groupTrigger (tr : Rat) (width : Nat)
  /-- GROUP_TRIGGER_APPLY (R312): At t_a every enabled unit of kind YTRG fires. -/
  | groupTriggerApply
  /-- PRESENCE_CHANGE (R55): A change of module presence switches the Yarrow bypass relays. -/
  | presenceChange (on : Bool)
  /-- BULK_DATA (R344): A BULK_DATA event is sent when its queue has room. -/
  | bulkData (bad : Bool)
  /-- EVENTS_LOST (R344): Once the outbound queue has room after discards, an EVENTS_LOST event is sent. -/
  | eventsLost
  /-- HEARTBEAT_SEND (R369): Every 100 µs Betony sends an HB on each link and at most one SNAP fragment, or FAIL. `aon` is the count of
  CLK_AON in the slot, `edge` its count at the tick that begins the slot. -/
  | heartbeatSend (da aon edge : Nat)
  /-- HEARTBEAT_RECEIVE (R372): A valid HB or FAIL frame counts for the path and raises PATH_UP after four. -/
  | heartbeatReceive (link missed : Nat) (f : LinkFrame)
  /-- SNAP_FRAGMENT (R370): A received snapshot fragment is assembled, and a complete snapshot kept or discarded with SNAP_BAD. `data` is
  what follows d_a in the frame: 512 bytes of the snapshot and the CRC. -/
  | snapFragment (link part seq da aon : Nat) (data : List Byte)
  /-- PATH_DOWN (R372): Eight consecutive missed heartbeat windows take a path down. -/
  | pathDown (link missed : Nat)
  /-- FAIL (R373): An ACTIVE module sends FAIL on a cause of R373 and enters FAILED. -/
  | fail
  /-- ROLE_WINDOW (R366): 2 ms after settings load the module takes its starting role from RED.ROLE and the partner's heartbeats. -/
  | roleWindow
  /-- TAKEOVER (R374): A standby begins a takeover on FAIL or on both paths down with the bus dead for 2 ms. -/
  | takeover (aon : Nat)
  /-- TAKE_FAIL (R375): A takeover step that cannot complete, such as V_DC not reaching V_take in 20 ms, raises TAKE_FAIL. -/
  | takeFail (step : Nat)
  /-- DESCRIPTOR_SEND (R381): Each GRP_PERIOD, or on a change, the member sends its group descriptor. -/
  | descriptorSend
  /-- DESCRIPTOR_RECEIVE (R381): A received group descriptor of the own group updates the member's view of that position. -/
  | descriptorReceive (src : Nat) (b : List Byte)
  /-- GRP_MEMBER_LOST (R381): No descriptor from a member for 3 × GRP_PERIOD counts it missing. -/
  | grpMemberLost (pos : Nat)
  /-- DEBUG_HALT (R152): A debug halt of ISL_CTL in an open session freezes every modulator's counter, outputs, cut latches and mask
  pointer, and stops boundary counts while the heartbeat carries HALTED. -/
  | debugHalt
  /-- DEBUG_RESUME (R152): When a halted ISL_CTL resumes, the counters continue from their frozen values and planes with SYNC at YMRK
  clear ALIGNED and realign. -/
  | debugResume
  /-- JTAG_INSTRUCTION (R63): An instruction loaded at the JTAG port is executed or refused by lifecycle state and plane states, opening
  a debug session when permitted. -/
  | jtagInstruction (x : JtagIns)
  /-- PLL_P_LOCKED (R263): PLL_P leaves HOLDOVER for LOCKED, with BUILD_OUT and slew limiting, when the MEMS reference returns, and
  reaches LOCKED at power-up. -/
  | pllPLocked
  /-- LINK_UP (R272): An Ethernet link comes up after auto-negotiation, so that forwarding between the ports, PTP and the Ethernet
  URGENT path can resume. -/
  | linkUp (port : Nat) (gig : Bool)
  /-- FRAME_FORWARD (R272): A frame not addressed to the DVX4, including a TRIP_GROUP frame to NET.TRIP_ADDR, is forwarded
  store-and-forward to the other port by its priority code point. -/
  | frameForward (port : Nat) (pcp : Option Nat) (bytes : List Byte)
  /-- HEAD_CHANGE (R309): A module that is head of the Yarrow chain and sees YPRS on YIN again loses the head role and raises
  HEAD_CHANGE. -/
  | headChange
  /-- YCLK_LOST (R282): When YCLK is absent, T_BUS counts on from CLK_ACQ, TIME.STATE shows T_BUS invalid, and the absence is timed for
  the later request pulse. -/
  | yclkLost
  /-- ARCHIVE_COMPLETE (R387): The copy of a slot to the flash archive ends, possibly truncated, and ACQ_ARCHIVE completes on its handle. -/
  | archiveComplete
  /-- SETTINGS_SAVED (R401): The flash write of SAVE_SETTINGS ends, and the operation completes with the new record COMMITTED or STAGED. -/
  | settingsSaved
  /-- SELF_TEST_COMPLETE (R424): A self-test in progress ends, the next masked test starts or the operation completes with its pass and
  fail masks written to SYS.SELFTEST. -/
  | selfTestComplete (hw : Nat)
  deriving DecidableEq, Repr

end Sys2Proof
end

