-- ==== Sys2Proof/Config.lean ====
section
/-! DEFINITION. Sys2Proof/Config.lean: what the manual leaves open, as constants without a body (log entry 3). No value of
them can be proved, so a claim about the model holds for every choice of them. -/

namespace Sys2Proof.Config

/-- A free rational value, applied to the state's counter of free values. -/
opaque freeRat : Nat → Rat

/-- A free natural number, applied to the state's counter of free values. -/
opaque freeNat : Nat → Nat

/-- A free truth value, applied to the state's counter of free values. -/
opaque freeBool : Nat → Bool

/-- A free bit of a bit stream, applied to the counter, the port and the bit's place (R71). -/
opaque freeBit : Nat → Nat → Nat → Bool

/-- Free bytes, applied to the state's counter of free values. -/
opaque freeBytes : Nat → List Byte

/-- The square root as the hardware rounds it; the manual states no rounding. -/
opaque sqrt : Rat → Rat

/-- √3 as the hardware holds it. -/
opaque sqrt3 : Rat

/-- π as the hardware holds it. -/
opaque pi : Rat

/-- The cosine of an angle in turns, as the hardware rounds it. -/
opaque cosTurn : Rat → Rat

/-- The sine of an angle in turns, as the hardware rounds it. -/
opaque sinTurn : Rat → Rat

/-- The angle, in turns in [0, 1), of a vector (x, y), as the hardware rounds it. -/
opaque angleTurn : Rat → Rat → Rat

/-- The coefficients of a second-order generalised integrator over one outer period, as a function of its frequency times that period:
in-phase from in-phase, quadrature and input, then quadrature from the same. R201 names the estimator and no gain or discretisation. -/
opaque sogi : Nat → Rat → Rat

/-- The proportional and the integral gain of a PLL of a bandwidth in Hz (R201, R217), in Hz per turn and Hz per turn and second. -/
opaque pllKp : Nat → Rat
opaque pllKi : Nat → Rat

/-- Bytes on the line of a PTP event message of the DVX4's own clock, by its kind and the transport (R271). -/
opaque ptpLength : Nat → Nat → Nat

/-- How the results of a completion with cause CONDITION name the condition (R343), by the operation's opcode and the counter. -/
opaque conditionName : Nat → Nat → List Byte

/-- The vendor root public keys in OTP (R391). -/
opaque rootKey : Nat → List Byte

/-- The identity public key of the module (R411). -/
opaque idPub : List Byte

/-- SHA-512 of a byte string (R389, R412): 64 bytes of a standard function the manual names and does not define. -/
opaque sha512 : List Byte → List Byte

/-- Ed25519 verification (R391): public key, message, signature. -/
opaque ed25519Verify : List Byte → List Byte → List Byte → Bool

/-- Ed25519 signing with the module's own identity key (R412). -/
opaque ed25519Sign : List Byte → List Byte

end Sys2Proof.Config
end

