-- ==== Sys2Proof/Machine/State.lean ====
section
/-! DEFINITION. Sys2Proof/Machine/State.lean: the state of the DVX4 as plain data: registers, FIFOs, buffers, counters, modes
and pins the manual names, the queue of waiting commands, and the state right after reset (INVENTORY.md, ## State). -/

namespace Sys2Proof.Machine

/-! ## Plain containers -/

/-- A sparse table: pairs of a key and a value, keys strictly rising, no entry equal to the default of its key (log entry 2). -/
abbrev Tab (α : Type) := List (Nat × α)

/-! ## Planes and lanes (chapter 04) -/

/-- The plane states of R88. -/
inductive PState where
  | off | stopped | ready | running | safe | test
  deriving DecidableEq, Repr

/-- The SAFE sub-states of R130 and R182. -/
inductive SafeSub where
  | pulseBlock | ascLow | ascMid | ascHigh
  deriving DecidableEq, Repr

/-- An output pattern of a plane: one PULSE and one ENABLE bit for each port index n (R133). -/
structure Pat where
  pulse : BitVec 18 := 0
  en    : BitVec 18 := 0
  deriving DecidableEq, Repr

/-- One phase leg of a three-level plane (R95): its level (0 N, 1 O, 2 P) and whether its feeder mode is POS. -/
structure Phase where
  lvl : Nat := 1
  pos : Bool := true
  /-- the sign its voltage has taken, which the mode follows at P or N -/
  sgn : Bool := true
  deriving DecidableEq, Repr

/-- A period set word of one port (R135): ACT and CMP. -/
structure PortWord where
  act : Nat := 3
  cmp : Nat := 0
  deriving DecidableEq, Repr

/-- A period set: PER and one word for each port. -/
structure PeriodSet where
  per   : Nat := 12500
  ports : List PortWord := []
  deriving DecidableEq, Repr

/-- What a lane decides at a sample (R26): a pattern in BAND, a period set in CARRIER, a pulse block, an entry to BAND
(R157), or the seeded set of an exit (R158). -/
structure Dec where
  pat    : Pat := {}
  set    : Option PeriodSet := none
  block  : Bool := false
  toBand : Bool := false
  seed   : Bool := false
  /-- what the lane's context becomes when the decision is applied: phases, legs, chopper -/
  phases : List Phase := []
  legs   : List (Option Bool) := [none, none, none, none, none, none]
  chop   : Bool := false
  deriving DecidableEq, Repr

/-- The fields of the Region Gain Table entry in force (R109). -/
structure Entry where
  h0   : Rat := 0
  ka   : Rat := 0
  dwell : Nat := 0
  ilim : Rat := 0
  feLim : Rat := 0
  feT  : Nat := 0
  kpv  : Rat := 0
  krv  : Rat := 0
  wff  : Rat := 0
  kc   : Rat := 0
  tag  : Nat := 0
  deriving DecidableEq, Repr

/-- A group of reference items held by a Teasel thread (R124, R125). -/
structure Group where
  d      : Rat := 0
  q      : Rat := 0
  vd     : Rat := 0
  vq     : Rat := 0
  freq   : Rat := 0
  theta  : Rat := 0
  scalar : Rat := 0
  mark   : Nat := 0
  deriving DecidableEq, Repr

/-- What a lane has measured and formed at the last sample: the state vector it latches on COL02 (R21). -/
structure Meas where
  i1   : AB := {}
  i2   : AB := {}
  e1   : AB := {}
  e2   : AB := {}
  v    : AB := {}
  vdc  : Rat := 0
  dv   : Rat := 0
  iLeg : List Rat := []
  eLeg : List Rat := []
  uCmd : List Rat := []
  cls  : Nat := 0
  sect : Nat := 0
  ilimAct : Bool := false
  pG   : Rat := 0
  iRef : AB := {}
  feHit : Bool := false
  /-- the feed-forward term of R118 or R119 -/
  ff   : Rat := 0
  deriving DecidableEq, Repr

/-- The context of one plane's lane (R91) and of its Teasel thread (R121). -/
structure Lane where
  /-- the state of R88 and the sub-state of R130 -/
  st        : PState := .off
  sub       : SafeSub := .pulseBlock
  /-- PLANE_START accepted, effective at the next strobe (R89) -/
  startPend : Bool := false
  /-- the handle of a PLANE_ARM in progress, and whether the supplies have been on for it (R89) -/
  arming    : Option Nat := none
  /-- the handle of a PLANE_STOP in progress (R90) -/
  stopping  : Option Nat := none
  /-- samples since PLANE_STOP, which give the ramp factor r (R90) -/
  rampN     : Nat := 0
  /-- the STOP_LIMIT instant has passed: block at the next strobe (R90) -/
  stopNow   : Bool := false
  /-- consecutive samples below 2 % of ILIM (R90) -/
  quiet     : Nat := 0
  /-- a CLEAR_SAFE accepted at its check and waiting for the strobe (R185): the command it answers, or the handle it was queued under -/
  clearPend : List (Option Env × Nat) := []
  /-- plane commands queued behind PLANE_ARM or PLANE_STOP (R337): handle and opcode -/
  queued    : List (Nat × Nat) := []
  /-- the kind read at TEST_ENTER, a sequence in progress, and the cycles of CLK_CTL, counted at TRIP outputs, since its TEST_GO (R186) -/
  testKind  : Nat := 0
  testBusy  : Bool := false
  testAge   : Nat := 0
  /-- switching transitions and periods of the adaptation window (R94) -/
  nsw       : Nat := 0
  win       : Nat := 0
  /-- the next decision is the first after PLANE_START (*The first decision*) -/
  first     : Bool := false
  phases    : List Phase := []
  /-- plane D: the state of each leg, none before its error first reaches h (R102) -/
  legs      : List (Option Bool) := [none, none, none, none, none, none]
  /-- plane B: the chopper conducts (R103) -/
  chop      : Bool := false
  /-- plane G: the phase current being reconstructed (R128) -/
  recon     : Option Nat := none
  /-- plane D: legs dropped until READY to STOPPED (R128) -/
  dropped   : BitVec 6 := 0
  /-- following-error counters: one, or one for each leg (R126) -/
  feRun     : List Nat := [0, 0, 0, 0, 0, 0]
  /-- consecutive overruns (R127) -/
  ovrRun    : Nat := 0
  binV      : Nat := 0
  binI      : Nat := 0
  binF      : Nat := 0
  /-- the entry in force, and whether it is the Safe Region Entry (R113) -/
  entry     : Entry := {}
  onSre     : Bool := false
  /-- logical tiles in the cache, most recently used first (R111) -/
  cache     : List Nat := []
  /-- the rotated integrator of R115 -/
  z         : AB := {}
  /-- what the carrier law demands at this sample: words, and phases with their modes (R104, R142) -/
  demand    : List PortWord := []
  demandPh  : List Phase := []
  /-- the lane's own weight of the last sample, before rescaling (R120) -/
  weight    : Rat := 0
  /-- the reference set in force, and the set published for the next sample (R121) -/
  ref       : RefSet := {}
  next      : Option RefSet := none
  /-- the thread: groups k0 and k1, the group being read, and whether it stalled in this period (R121 to R125) -/
  k0        : Option Group := none
  k1        : Option Group := none
  part      : Option Group := none
  stalled   : Bool := false
  /-- the reference FIFO of 16 stages, oldest first, the items waiting in COL01, at most 4, and those whose write waits (R19, R21, R122) -/
  fifo      : List (BitVec 64) := []
  col01     : List (BitVec 64) := []
  colWait   : List (BitVec 64) := []
  meas      : Meas := {}
  /-- the decision of sample k before and after its commit (R26) -/
  dec       : Option Dec := none
  latched   : Option Dec := none
  /-- the lane requests SAFE (R126 to R128) -/
  safeReq   : Bool := false
  /-- plane M: ASC_WANTED as sent on COL10, and samples with |F| below ASC_FREQ (R182) -/
  ascWanted : Bool := false
  ascBelow  : Nat := 0
  /-- flags of the present sample (R297, R434) -/
  refLate   : Bool := false
  tslLate   : Bool := false
  overrun   : Bool := false
  dwellHold : Bool := false
  /-- a carrier-aligned sample was taken in this period (R80) -/
  casTaken  : Bool := false
  deriving DecidableEq, Repr

/-- The four lanes. -/
structure Planes where
  g : Lane := {}
  m : Lane := {}
  d : Lane := {}
  b : Lane := {}
  deriving DecidableEq, Repr

/-! ## Modulators (chapter 05) -/

/-- A feeder change of R143 in progress: the phase, its new mode, the next step (2 or 3), and the cycle of that step relative to
the last strobe. -/
structure FeedStep where
  phase : Nat
  toPos : Bool
  step  : Nat
  due   : Int
  deriving DecidableEq, Repr

/-- One modulator (R132). -/
structure Mod where
  /-- the mode in force: CARRIER when true (R132) -/
  carrier : Bool := false
  aligned : Bool := false
  ramp    : Bool := false
  exitWait : Bool := false
  /-- the carrier counter: counting up, and the cycle of its last turning point relative to the last strobe (R134) -/
  up      : Bool := true
  turnAt  : Int := 0
  active  : PeriodSet := {}
  shadow  : PeriodSet := {}
  armed   : Bool := false
  dirty   : Bool := false
  /-- the words in use at the ports, which differ from the active set while a feeder step is pending (R143) -/
  inUse   : List PortWord := []
  steps   : List FeedStep := []
  /-- the cut latch (R146) and the 8-bit boundary count (R145) -/
  cut     : BitVec 18 := 0
  bnd     : BitVec 8 := 0
  /-- the cycle of the last period end relative to the last strobe, so that one instant ends one period (R145) -/
  lastEnd : Option Int := none
  /-- consecutive samples with c = 0, and an exit armed by a write of MODE (R158) -/
  exitCnt : Nat := 0
  exitCmd : Bool := false
  /-- the seeded set is written and waits for the valley V (R158) -/
  seedWait : Bool := false
  /-- an entry to BAND asked by a write of MODE or by a following error (R157) -/
  entryReq : Bool := false
  /-- the ramp of R159: Δ of each phase or leg, and reloads since V -/
  delta   : List Int := []
  rampR   : Nat := 0
  /-- PER when Δ was formed (R160) -/
  rampPer : Nat := 0
  /-- patterns at the pulse interface with their lengths in cycles, newest first, for the dwell of R100 and the seed of R158, and the
  cycle up to which they are kept, relative to the last strobe -/
  past    : List (Pat × Nat) := []
  accTo   : Int := 0
  /-- the change of the next up-count by the alignment of R153, and the whole cycles a change of PHASE still has to move -/
  adj     : Int := 0
  slew    : Int := 0
  /-- the mask entry that SECTOR selected for the next strobe (R150) -/
  maskNext : Option Nat := none
  /-- the initial set waits for the end of a debug halt (R138, R152) -/
  stale   : Bool := false
  /-- the output of the mode source, whether it changed at the last strobe, and the output at the pulse interface after mask and cut -/
  src     : Pat := {}
  srcNew  : Bool := false
  out     : Pat := {}
  /-- the last carrier mark relative to the last strobe, and the interval of the last two marks, in 1/64 cycle (R153, R154) -/
  mark    : Option Int := none
  markGap : Nat := 0
  deriving DecidableEq, Repr

/-- The four modulators. -/
structure Mods where
  g : Mod := {}
  m : Mod := {}
  d : Mod := {}
  b : Mod := {}
  deriving DecidableEq, Repr

/-! ## Measurement (chapter 03) -/

/-- A control or METER result with its validity. -/
structure Sample where
  val   : Int := 0
  valid : Bool := false
  deriving DecidableEq, Repr

/-- The loss conditions of R84. -/
inductive Loss where
  | stuck | clkFault | manchErr | frozen
  deriving DecidableEq, Repr

/-- The receiver of one stream in one island (R69, R71, R84): the line's level at the last instant seen, the last recovered bit, the
time since the last transition of the recovered bits, the Manchester bit timing with the bit periods in a row without a mid-bit
transition and the violations of the last 64 (newest in bit 0), and whether a criterion of R84 was met since the last control sample. -/
structure Rx where
  line : Bool := false
  bit  : Bool := false
  edge : Nat := 0
  phi  : Option Nat := none
  miss : Nat := 0
  viol : Nat := 0
  crit : Bool := false
  deriving DecidableEq, Repr

/-- The filters and supervision of one measurement port (R67, R75, R84 to R87). -/
structure MPort where
  /-- the receivers in ISL_CTL and in ISL_PRT; the MDCLK pair is faulty (R84) -/
  rx    : Rx := {}
  rxPrt : Rx := {}
  pair  : Bool := false
  /-- the skew calibration (R70): bits still to record, and the transitions seen at each phase of the MDCLK period -/
  skewLeft : Nat := 0
  skewHist : List Nat := []
  /-- control filter: three integrators and three comb registers of 32 bits -/
  i1 : BitVec 32 := 0
  i2 : BitVec 32 := 0
  i3 : BitVec 32 := 0
  c1 : BitVec 32 := 0
  c2 : BitVec 32 := 0
  c3 : BitVec 32 := 0
  /-- the last bits received, newest in bit 0, for the carrier-aligned taps (R80) -/
  hist : Nat := 0
  /-- last comb output, and how many strobes it has repeated (R84 Frozen) -/
  y    : Nat := 0
  same : Nat := 0
  /-- consecutive samples without a loss, up to 64 (R87), and the loss declared since the last strobe -/
  run  : Nat := 0
  loss : Option Loss := none
  /-- the held value of a lost signal (R85) -/
  held : Int := 0
  /-- what is delivered: the value of sample k, held when invalid, and the history of 8 samples, newest first, each with the cycles of
  CLK_CTL from its window's end to the last strobe (R85) -/
  val   : Int := 0
  valid : Bool := false
  past  : List (Nat × Int) := []
  /-- carrier-aligned samples for planes G, M, D: one for each plane (R80) -/
  casG : Option Int := none
  casM : Option Int := none
  casD : Option Int := none
  /-- TRIP filter of ISL_PRT: registers of 10 bits, and the last two outputs (R176) -/
  t1 : BitVec 10 := 0
  t2 : BitVec 10 := 0
  t3 : BitVec 10 := 0
  d1 : BitVec 10 := 0
  d2 : BitVec 10 := 0
  d3 : BitVec 10 := 0
  trip  : Int := 0
  trip0 : Int := 0
  /-- ISL_PRT's validity, and its run of control samples without a loss (R87) -/
  prtValid : Bool := false
  prtRun   : Nat := 0
  /-- TRIP windows ended since ISL_PRT declared the loss (R178) -/
  prtSince : Nat := 0
  /-- RECORD filter: registers of 25 bits, and the last output -/
  r1 : BitVec 25 := 0
  r2 : BitVec 25 := 0
  r3 : BitVec 25 := 0
  r4 : BitVec 25 := 0
  q1 : BitVec 25 := 0
  q2 : BitVec 25 := 0
  q3 : BitVec 25 := 0
  q4 : BitVec 25 := 0
  recV : Int := 0
  /-- METER filter: registers of 41 bits -/
  m1 : BitVec 41 := 0
  m2 : BitVec 41 := 0
  m3 : BitVec 41 := 0
  m4 : BitVec 41 := 0
  m5 : BitVec 41 := 0
  n1 : BitVec 41 := 0
  n2 : BitVec 41 := 0
  n3 : BitVec 41 := 0
  n4 : BitVec 41 := 0
  n5 : BitVec 41 := 0
  deriving DecidableEq, Repr

/-- One moving average of R82: the running sum in 40 bits and the inputs it holds, newest first. -/
structure Avg where
  sum : BitVec 40 := 0
  win : List Int := []
  deriving DecidableEq, Repr

/-- The metering of R82 and R83. -/
structure Meter where
  /-- for each port n, and 24 + n its n² -/
  avgs : Tab Avg := []
  /-- the nine products of G.VC with G.I -/
  prods : Tab Avg := []
  /-- for each port, the outputs since the last fault of its signal (R83) -/
  good : Tab Nat := []
  /-- MDCLK bits since the last end of a RECORD window, and T_MONO (ns) of the last ends of a RECORD and of a METER window (R79) -/
  recN  : Nat := 0
  recAt : Rat := 0
  endAt : Rat := 0
  mean : Tab Int := []
  rms  : Tab Rat := []
  p    : Rat := 0
  q    : Rat := 0
  /-- T_MONO (ns) at the last increment of the T_GRID cycle count -/
  cycAt : Rat := 0
  /-- the length computed and not yet reached (R83) -/
  want : Nat := 3125
  deriving DecidableEq, Repr

/-! ## The Region Gain Table (R105 to R114) -/

/-- One physical tile: its 2,048 bytes and stored CRC, or unwritten (R436). -/
structure Tile where
  written : Bool := false
  data    : List Byte := []
  crc     : Nat := 0
  deriving DecidableEq, Repr

/-- A unit being assembled from fragments (R339): the bytes that have arrived, by offset. -/
structure Frag where
  unit  : Nat
  grp   : Nat := 0
  owner : Nat := 0
  bytes : Tab Byte := []
  got   : List Nat := []
  deriving DecidableEq, Repr

/-- The table's memory: physical tiles, the pointer table where it departs from rest (R358), free spares, fragments. -/
structure Rgt where
  tiles  : Tab Tile := []
  ptr    : Tab Nat := []
  spares : List Nat := (List.range 32).map (· + 192)
  bad    : BitVec 192 := 0
  /-- cached tiles as plane code and tile, the one verified longest ago first (R112) -/
  scrubQ : List (Nat × Nat) := []
  frags  : List Frag := []
  deriving DecidableEq, Repr

/-! ## Gate blocks, Sorrel and the pins (chapters 01, 02, 06) -/

/-- A cut made by Sorrel and not yet fully acknowledged (R146). -/
structure Cut where
  plane : Nat
  ports : Ports
  tag   : BitVec 8
  /-- 0 made, 1 written to COL11, 2 arrived and acknowledged on COL10 -/
  stage : Nat := 0
  deriving DecidableEq, Repr

/-- ISL_PRT: Sorrel's registers, the gate blocks beyond the barrier, and the supervision of R179. -/
structure Prt where
  /-- the registers of R22 -/
  ovr    : Ports := BitVec.allOnes 36
  pulse  : Ports := 0
  enable : Ports := 0
  permit : Ports := 0
  /-- mod_pulse and mod_enable as the gate blocks see them -/
  modPulse  : Ports := 0
  modEnable : Ports := 0
  /-- ENABLE withdrawn by a lost keep-alive until the permission is rewritten (R23) -/
  kaHold : Ports := 0
  /-- gate supplies commanded on (R89); the STO hardware path acts on top (R32) -/
  supOn  : Ports := 0
  uvVcc   : Ports := 0
  uvVboot : Ports := 0
  uvVee   : Ports := 0
  /-- latched faults of the upper and lower switch, and LOCKED ports (R174) -/
  faultH : Ports := 0
  faultL : Ports := 0
  locked : Ports := 0
  /-- the switches that are on, their turn-on begun: upper, lower (R162, R163) -/
  upper : Ports := 0
  lower : Ports := 0
  /-- PULSE and ENABLE as every port last saw them, and for each port the cycles of CLK_CTL, counted at TRIP outputs, since either
  changed or a deferred turn-off began (R163), and since the turn-on of the switch that is on began (log entry 12) -/
  inPulse  : Ports := 0
  inEnable : Ports := 0
  inAge : Tab Nat := []
  onAge : Tab Nat := []
  /-- turn-offs deferred by R173, for the upper and the lower switch -/
  deferUp : Ports := 0
  deferLo : Ports := 0
  /-- ports whose last turn-off used ISNK_SOFT (R167) -/
  soft  : Ports := 0
  /-- groups of desaturation turn-offs that wait for SHORT_STAGGER, oldest first: upper and lower switches (R175) -/
  stagger : List (Ports × Ports) := []
  /-- plane D legs whose permission is withdrawn until READY to STOPPED (R178) -/
  legOff : Ports := 0
  /-- TRIP windows ended since G.IA, G.IB and G.IC were unrouted (R178) -/
  noRoute : List Nat := [0, 0, 0]
  /-- comparators in the tripped state, index 8·p + f (R176) -/
  tripped : BitVec 26 := 0
  cuts    : List Cut := []
  /-- last boundary count received for each plane, and whether a cut carries the present period's tag (R147) -/
  seen    : List (BitVec 8) := [0, 0, 0, 0]
  cutNow  : BitVec 4 := 0
  /-- forced states (R179), by plane code; mc_fallback; ASC_WANTED as last received (R182) -/
  forcedBlock : BitVec 4 := 0
  forcedAsc   : Bool := false
  mcFallback  : Bool := false
  ascWanted   : Bool := false
  /-- the ASC pattern plane M moves to and the next step (R183) -/
  ascStep : Nat := 0
  /-- protective chopping: it drives GP33, GP33 conducts, and the age of that state in cycles of CLK_CTL (R184) -/
  chopAct : Bool := false
  chopOn  : Bool := false
  chopAge : Nat := 1000000
  /-- causes that hold: OVERTEMP raised and not re-armed, the last T_BASE update at or above +80 °C is in SYS.T_BASE -/
  overtemp : Bool := false
  /-- SUPPLY_LOSS has been declared, and SUPPLY_LOW raised in the present excursion of the input (R40) -/
  supplyLoss : Bool := false
  supplyLow  : Bool := false
  /-- relay mismatch raised in this period of de-energising (R190): HOLD, MC -/
  holdMis : Bool := false
  mcMis   : Bool := false
  /-- the M5V supply of each measurement port, off at an unrouted port (R67), and its current-limit flag (R51) -/
  m5v     : BitVec 24 := 0
  mpLimit : BitVec 24 := 0
  /-- a reset has begun (R58, R415): its kind, until the islands enter reset -/
  resetting : Option Nat := none
  /-- hold-up: the core islands are powered down, ISL_PRT drives MDCLK; the machine-contactor relay has dropped by R189 (R41) -/
  holdUp  : Bool := false
  mcGone  : Bool := false
  deriving DecidableEq, Repr

/-- The input pins as ISL_PRT and ISL_AON see them after their filters (R31, R32, R58, R62). -/
structure Pins where
  haltLow    : Bool := false
  sto1       : Bool := true
  sto2       : Bool := true
  busPresent : Bool := false
  brkAux     : Bool := false
  mcAux      : Bool := false
  /-- RESET_N is low -/
  resetLow   : Bool := false
  deriving DecidableEq, Repr

/-- The islands (R15, R17). -/
structure Isl where
  /-- ISL_PRT and the core have their supply: not in COLD, and not once hold-up has ended (R41, R367); every island is held in reset (R58) -/
  power   : Bool := true
  inReset : Bool := false
  ctl : Bool := false
  app : Bool := false
  sys : Bool := false
  acq : Bool := false
  aon : Bool := true
  prt : Bool := true
  /-- SYS_UP and HEALTH (R325, R420) -/
  sysUp  : Bool := false
  health : Bool := false
  /-- Yarrow relays open (R55) -/
  yOpen  : Bool := false
  /-- MDCLK is commanded on (R420), and its first bit period has begun, at a strobe (R24) -/
  mdclk  : Bool := false
  mdRun  : Bool := false
  /-- the encoder supplies ESUP are on (R41, R59, R66) -/
  esup   : Bool := false
  /-- the JTAG instruction in force; none where it was refused or TDO is high impedance (R63, R66) -/
  jtagIns : Option JtagIns := none
  /-- TANSY_EXT runs (R388) -/
  ext    : Bool := false
  /-- boot: recovery mode, and recovery asked by RESET (R399, R416) -/
  recovery : Bool := false
  askRecovery : Bool := false
  /-- the last island reset of each island: its number and T_MONO, ns (R419) -/
  rstAt : List (Nat × Rat) := []
  /-- Tansy restarts, announced to Sorrel (R408) -/
  restart : Bool := false
  /-- a SELF_TEST in progress: handle and mask (R424) -/
  selfTest : Option (Nat × Nat) := none
  /-- a debug session is open (R63), and ISL_CTL is halted by debug (R152) -/
  session : Bool := false
  halted : Bool := false
  deriving DecidableEq, Repr

/-! ## Host interface, handles, transactions (chapter 12) -/

/-- A packet of R321: KIND, CLASS, OPCODE, SEQ, HANDLE, FLAGS, STATUS, stamp and payload. -/
structure Packet where
  kind    : Nat := 1
  cls     : Nat := 1
  opcode  : Nat := 0
  seq     : Nat := 0
  handle  : Nat := 0
  flags   : Nat := 0
  status  : Nat := 0
  stamp   : Nat := 0
  payload : List Byte := []
  deriving DecidableEq, Repr

/-- The state of one channel (R327, R329): the last accepted SEQ, the last 16 commands with their replies, and the event
sequence number (R342). -/
structure ChanSt where
  started : Bool := false
  last    : Nat := 0
  replies : List (Nat × Nat × Packet) := []
  evSeq   : Nat := 0
  deriving DecidableEq, Repr

/-- One outstanding handle (R345): the handle, the opcode, the channel. -/
structure Op where
  handle : Nat
  opcode : Nat
  chan   : Chan
  /-- its entry of the DRAM tables has failed its CRC: it completes without results -/
  bare   : Bool := false
  deriving DecidableEq, Repr

/-- A completion in the log of R344. -/
structure Done where
  handle  : Nat
  status  : Nat
  payload : List Byte
  deriving DecidableEq, Repr

/-- The host side: the host window (R325), the outbound SPI queue (R344), the channels, the handles and their generations. -/
structure HostSt where
  irq    : BitVec 6 := 0
  irqEn  : BitVec 6 := 0x0F
  urgent : BitVec 32 := 0
  spiSeq : Nat := 0
  inReady : Bool := true
  /-- the outbound queue, oldest first -/
  out    : List Packet := []
  /-- events discarded since the last EVENTS_LOST -/
  lost   : Nat := 0
  spi    : ChanSt := {}
  /-- UDP channels, most recently used first -/
  udps   : List (Nat × Nat × ChanSt) := []
  /-- event sequence numbers of the four destinations NET.EVT_DSTn -/
  dstSeq : List Nat := [0, 0, 0, 0]
  ops    : List Op := []
  gens   : Tab Nat := []
  /-- replies held back by a restart of Tansy (R408) -/
  held   : List (Chan × Packet) := []
  /-- URGENT_DONE events held back by the same (R408) -/
  heldEv : List Packet := []
  /-- completions that wait for Tansy, which is stopped or restarts: handle, status, cause, results (R346, R408) -/
  late   : List (Nat × Nat × Nat × List Byte) := []
  /-- code and T_MONO of the last 16 events, newest first (R41) -/
  recent : List (Nat × Nat) := []
  /-- the completion log, newest first, at most 256 -/
  log    : List Done := []
  /-- bytes of the last SPI frame on MISO from byte 0 -/
  miso   : List Byte := []
  deriving DecidableEq, Repr

/-- The states of a transaction (R353). -/
inductive TxnState where
  | openT | preparing | prepared | committing
  deriving DecidableEq, Repr

/-- The one transaction (R353 to R359). -/
structure Txn where
  handle  : Nat
  st      : TxnState := .openT
  seqT    : Bool := false
  entries : List PEntry := []
  /-- staged tiles: group, logical tile, image -/
  tiles   : List (Nat × Nat × List Byte) := []
  /-- spares holding the copied tiles of the group in work: logical tile, physical spare -/
  copies  : List (Nat × Nat) := []
  kc      : Nat := 0
  /-- the sample of the next switch -/
  due     : Nat := 0
  /-- the group that switches next, and whether TXN_ABORT waits between groups -/
  grp     : Nat := 0
  abort   : Bool := false
  /-- ISL_CTL has switched to the group in work, at its strobe (R357) -/
  ctlDone : Bool := false
  deriving DecidableEq, Repr

/-- Something that leaves the module at a port: a UDP packet, an Ethernet frame, a Vorula frame (whole, its type first and its CRC last),
a Yarrow pulse or mark. -/
inductive Wire where
  | udp   (ip port : Nat) (p : Packet)
  | eth   (port : Nat) (bytes : List Byte)
  | trip  (port mask group : Nat)
  | vorula (link kind : Nat) (bytes : List Byte)
  | yarrow (kind : Nat) (val : Nat)
  | ptp   (port kind : Nat) (corr : Int)
  | descr (port : Nat) (bytes : List Byte)
  deriving DecidableEq, Repr

/-! ## Time bases (chapter 10) -/

/-- A replica of a time base (R268), against its master: the count below which it does not go, which also holds one found ahead, and
how far it was found behind at the last realignment, with the time since then, ns. -/
structure Rep where
  floor : Rat := 0
  lag   : Rat := 0
  age   : Rat := 0
  deriving DecidableEq, Repr

/-- The time bases (R267), the replicas (R268) and the servo of T_NET (R274 to R279). -/
structure Time where
  /-- T_MONO in ns, with the fraction that the phase steps and the FBO leave -/
  mono  : Rat := 0
  /-- a strobe has occurred: the first gives sample index 0 (R124) -/
  began : Bool := false
  /-- N and the MDCLK divisor in force, which follow CLK.TC_CYCLES and MEAS.MDCLK_DIV at a strobe (R435) -/
  nNow  : Nat := 400
  divNow : Nat := 10
  /-- T_NET: ns since its origin, seconds and ns together -/
  net   : Rat := 0
  /-- T_BUS in ns of its 64-bit view, and whether a survey has set it -/
  bus   : Rat := 0
  busOk : Bool := false
  /-- T_GRID: angle per R7 and cycle count; stalled (R283) -/
  angle : Nat := 0
  cyc   : Nat := 0
  stall : Bool := false
  /-- the increment of T_MONO for one cycle of the FBO, ns (R259) -/
  fboInc : Rat := 5 / 2
  /-- the replicas, in units of the base: T_MONO in SYS, ACQ, APP; T_NET in ACQ, APP; T_BUS in CTL, SYS; T_GRID in ACQ, APP -/
  reps  : List Rep := [{}, {}, {}, {}, {}, {}, {}, {}, {}]
  /-- the servo state of R274: 0 FREE, 1 ACQUIRE, 2 LOCKED, 3 HOLDOVER, 4 PD_HOLD -/
  servo : Nat := 0
  /-- the state before PD_HOLD -/
  before : Nat := 0
  suspect : Bool := false
  outlier : Bool := false
  /-- consecutive Syncs within 200 ns (R274) -/
  good  : Nat := 0
  /-- the last measured offset, ns (R276) -/
  offset : Int := 0
  /-- the accepted path delay of each port, once one has been accepted, and the candidate's measurements of PD_HOLD (R279) -/
  pd    : List (Option Int) := [none, none]
  pdPort : Nat := 0
  cand  : List Int := []
  /-- the frequency term of R274, 2⁻⁴⁰ per step, and the chosen master -/
  freq  : Int := 0
  master : Option Nat := none
  /-- the port of the chosen master -/
  port   : Nat := 0
  /-- the two-step Syncs whose Follow_Up is still to be forwarded: ingress port, key and the sum for its correctionField (R272), ns -/
  tcSum : List (Nat × Nat × Int) := []
  /-- T_MONO of the entry into HOLDOVER, ns (R274) -/
  holdAt : Rat := 0
  /-- the ordinary clock has found no master within the announce receipt timeout (R271), and T_MONO of its next event message and of
  its next Announce, ns -/
  alone : Bool := false
  msgAt : Rat := 0
  annAt : Rat := 0
  /-- T_NET of the last alignment mark (R281), ns -/
  stamp : Nat := 0
  /-- the T_BUS count of that mark -/
  stampBus : Nat := 0
  /-- the master has been chosen and T_NET has once been synchronised (R271) -/
  synced : Bool := false
  deriving DecidableEq, Repr

/-- What the clocks need beside CLK.PLLM_STATUS and CLK.PLLP_STATUS (chapter 09). -/
structure Clk where
  /-- CLK_DISAGREE was raised in the last window (R257) -/
  disagree : Bool := false
  /-- the cause 0x11 has been applied and the switch request is under way (R258) -/
  fbReq  : Bool := false
  deriving DecidableEq, Repr

/-- A frame queued at an Ethernet port (R286, R287). -/
structure Frame where
  /-- a PTP event message of the DVX4's own clock (R286): 0 Sync, 1 Delay_Req, 2 Pdelay_Req -/
  ptp    : Option Nat := none
  launch : Nat := 0
  base   : Nat := 0
  handle : Option Nat := none
  bytes  : List Byte := []
  deriving DecidableEq, Repr

/-- An Ethernet port: link, and queues 0 to 7, oldest first (R286). -/
structure Eth where
  up     : Bool := false
  /-- 1000BASE-T when true, else 100BASE-TX -/
  gig    : Bool := true
  queues : List (List Frame) := [[], [], [], [], [], [], [], []]
  deriving DecidableEq, Repr

/-! ## Acquisition and replay (chapter 11) -/

/-- One stored bundle (R295, R299): sample index, T_MONO of its strobe in ns, a word for each channel that is not OFF. -/
structure Bundle where
  k     : Nat := 0
  mono  : Nat := 0
  words : List Nat := []
  deriving DecidableEq, Repr

/-- The states of a slot (R301); a HELD slot is a CLOSED one with a reader. `loading` is a slot that REPLAY_LOAD fills. -/
inductive SlotSt where
  | free | filling | post | closed | loading
  deriving DecidableEq, Repr

/-- A slot of the capture area with its record (R298 to R302). -/
structure Slot where
  st     : SlotSt := .free
  /-- operations that hold it (R305) -/
  held   : Nat := 0
  loaded : Bool := false
  num    : Nat := 0
  /-- 0 OPEN, 1 COMPLETE, 2 TRUNCATED -/
  status : Nat := 0
  cause  : Nat := 0
  /-- k_t, and the position of the trigger among the stored samples -/
  kt     : Option Nat := none
  pos    : Nat := 0
  /-- samples stored in all, those retained in the ring with the newest first, and samples still to be stored in POST -/
  count  : Nat := 0
  ring   : List Bundle := []
  left   : Nat := 0
  firstK : Nat := 0
  /-- the settings at the opening: N, DECIM, PRE, POST, channel sources, routes -/
  tc     : Nat := 400
  decim  : Nat := 1
  pre    : Nat := 0
  post   : Nat := 0
  srcs   : List Nat := []
  routes : List Nat := []
  /-- the trigger instant on T_MONO, T_NET and T_BUS, ns, with TIME.STATE -/
  tMono  : Nat := 0
  tNet   : Nat := 0
  tBus   : Rat := 0
  tState : Nat := 0
  hash   : List Nat := []
  fw     : Nat := 0
  /-- extra triggers: k − k_t and the cause mask; their count -/
  extra  : List (Int × Nat) := []
  extraN : Nat := 0
  /-- time discontinuities: T_MONO and the step in ns; their count -/
  disc   : List (Nat × Int) := []
  discN  : Nat := 0
  /-- the tiles of a host-loaded record, by sequence, as they came -/
  raw    : Tab (List Byte) := []
  deriving DecidableEq, Repr

/-- An ACQ_READ in progress (R308): the tiles left with their unit numbers, the offset in the first, bad tiles so far. -/
structure ReadOp where
  handle : Nat
  /-- the slot it holds, if it reads one -/
  slot   : Option Nat := none
  tiles  : List (Nat × List Byte) := []
  off    : Nat := 0
  isBad  : Bool := false
  bad    : Nat := 0
  deriving DecidableEq, Repr

/-- A REPLAY_LOAD in progress (R314). -/
structure LoadOp where
  handle : Nat
  slot   : Nat
  total  : Nat
  frags  : List Frag := []
  deriving DecidableEq, Repr

/-- ISL_ACQ (R294 to R308). -/
structure Acq where
  slots  : List Slot := [{}, {}, {}, {}, {}, {}, {}, {}]
  /-- the slot that is FILLING or POST -/
  active : Option Nat := none
  /-- the units that are armed (R303), and the last bundles for SLOPE and PROT: words by channel, newest first -/
  armed  : BitVec 32 := BitVec.allOnes 32
  hist   : List (List (Nat × Nat)) := []
  reads  : List ReadOp := []
  load   : Option LoadOp := none
  /-- an ACQ_ARCHIVE in progress: handle and slot; the archived records in flash, oldest first, with their tiles (R387) -/
  arch   : Option (Nat × Nat) := none
  archive : List (Nat × List (Nat × List Byte)) := []
  /-- the slow stream: entries of 256 bytes, newest first, and how many have been written -/
  slow   : List (Nat × List Byte) := []
  slowN  : Nat := 0
  /-- T_GRID's cycle count and T_MONO at the last entry (R307) -/
  slowCyc : Nat := 0
  slowAt : Rat := 0
  /-- the sample index of the last bundle -/
  lastK  : Option Nat := none
  deriving DecidableEq, Repr

/-- A replay (R314 to R317) with the settings it started on. -/
structure Replay where
  handle : Option Nat := none
  slot   : Nat := 0
  /-- the plane under SUBSTITUTE; none under INJECT -/
  sub    : Option Nat := none
  /-- Campion runs the plane's outer law in the dry run -/
  outer  : Bool := false
  start  : Nat := 0
  len    : Nat := 1
  loops  : Nat := 1
  /-- 0 COMMAND, 1 COMPARATOR, 2 TRIGGER, and the comparator; the condition has come -/
  trig   : Nat := 0
  comp   : Nat := 0
  go     : Bool := false
  /-- enabled map entries: output, source channel, target code -/
  map    : List (Nat × Nat × Nat) := []
  /-- samples are being played, and how many have been -/
  active : Bool := false
  pos    : Nat := 0
  /-- every sample of the last loop has been played -/
  played : Bool := false
  /-- a tile has failed its CRC: the samples played before it (R317) -/
  bad    : Option Nat := none
  /-- the signals of the sample being played, by signal code -/
  cur    : List (Nat × Sample) := []
  /-- the term added to v_ref under INJECT -/
  inj    : AB := {}
  deriving DecidableEq, Repr

/-- The Yarrow bus (R309 to R313). -/
structure Ybus where
  /-- d_i of every position, 10 ps per step -/
  d      : List Nat := []
  /-- T_BUS of the last YTRG edge seen, ns -/
  edge   : Option Rat := none
  /-- group triggers waiting for their application instant: t_a on T_BUS in ns, and the originating units -/
  apply  : List (Rat × Nat) := []
  /-- YCLK has been absent for more than 1 µs -/
  absent : Bool := false
  /-- the last carrier-mark and group-trigger instants on COL09, ns of T_BUS -/
  mark   : Rat := 0
  trig   : Rat := 0
  deriving DecidableEq, Repr

/-- Sums of the lanes' state vectors since the last outer boundary (R235): samples, p_G, D.VS · Σi, V_DC · B.ICH. -/
structure Sums where
  n : Nat := 0
  /-- LIM_N: samples of plane G with ILIM_ACT (R197) -/
  lim : Nat := 0
  g : Rat := 0
  d : Rat := 0
  b : Rat := 0
  deriving DecidableEq, Repr
/-- A double second-order generalised integrator (R201): its in-phase and quadrature outputs. -/
structure Seq where
  d : AB := {}
  q : AB := {}
  deriving DecidableEq, Repr

/-- A synchronous-frame PLL (R201, R217, R218): angle in turns, frequency and integrator in Hz, and the last phase error in turns. Its
frequency before the first boundary is the model's choice (log entry 81). -/
structure Pll where
  th    : Rat := 0
  f     : Rat := 50
  integ : Rat := 50
  err   : Rat := 0
  deriving DecidableEq, Repr

/-- Plane G's law on Campion (chapter 07), beside GFM.STATE and GFM.FLAGS: times in seconds, angles in turns, pu values by R200. -/
structure Gfm where
  /-- sample of the last boundary handled -/
  last   : Option Nat := none
  /-- the estimators of the capacitor voltages, the converter currents and the bus, the monitor PLL, that of the bus, and the follow
  PLL; the filtered rate of change of f_mon, Hz/s (R201, R217) -/
  volt   : Seq := {}
  cur    : Seq := {}
  bus    : Seq := {}
  mon    : Pll := {}
  busPll : Pll := {}
  pll    : Pll := {}
  rocof  : Rat := 0
  /-- θ and mark of the last group written, and the rounding error fed back into F (R199) -/
  theta  : Rat := 0
  mark   : Nat := 0
  fErr   : Rat := 0
  /-- P_e and Q_e after their low-pass, pu (R201) -/
  pe     : Rat := 0
  qe     : Rat := 0
  /-- ω, P*, ω_set, E_base and the droop term of E, pu (R202, R203); E_base is on its way back after SYNC (R215) -/
  w      : Rat := 0
  pStar  : Rat := 0
  wSet   : Rat := 0
  eBase  : Rat := 0
  eDroop : Rat := 0
  eBack  : Bool := false
  /-- V2_ref, d and q (R205) -/
  v2d    : Rat := 0
  v2q    : Rat := 0
  /-- consecutive boundaries with LIM_N = 0 (R206) -/
  limOff : Nat := 0
  /-- FRT: consecutive boundaries below FRT_V1, time since it was set, times at or above its two release levels, consecutive
  boundaries below the envelope, and the clip still in force (R207 to R209) -/
  low    : Nat := 0
  frtT   : Rat := 0
  upHys  : Rat := 0
  upV1   : Rat := 0
  below  : Nat := 0
  clip   : Option Rat := none
  /-- time in RAMP (R212), below 0.5 pu in FOLLOW (R217), of the dead-bus conditions (R213), of the disagreement (R214) -/
  rampT  : Rat := 0
  lossT  : Rat := 0
  deadT  : Rat := 0
  disT   : Rat := 0
  disagree : Bool := false
  /-- boundaries in a row that meet R216, time since the permit, and the return of ω_set: time, and where it started -/
  syncN  : Nat := 0
  permT  : Rat := 0
  relT   : Option Rat := none
  relW   : Rat := 0
  /-- BLEND: n of R219, and init -/
  blendN : Nat := 0
  initD  : Rat := 0
  initQ  : Rat := 0
  /-- BRK_AUX at the last boundary; a hand-over to FORM by R217; a law written since the last boundary -/
  aux    : Bool := false
  toForm : Bool := false
  lawReq : Option Nat := none
  /-- the sample at which the lane switches CTL.G.REF_KIND, and its new value (R218) -/
  kindAt : Option (Nat × Nat) := none
  /-- after a takeover: the restored E_base, the time of its ramp once it runs, and AUTO_SYNC at its end (R377) -/
  takeTo : Option Rat := none
  takeT  : Option Rat := none
  takeSync : Bool := false
  deriving DecidableEq, Repr

/-- Planes M, D and B on Campion (chapter 08), beside MSD.STATE and MSD.FLAGS. -/
structure Msd where
  /-- the angle of the last group, turns, and the speed at the last boundary, rad/s -/
  theta : Rat := 0
  w     : Option Rat := none
  /-- ω_ref, rad/s, and the integrals of R236 and R237 -/
  wRef  : Rat := 0
  vInt  : Rat := 0
  recInt : Rat := 0
  /-- P̂_load, W (R235) -/
  load  : Rat := 0
  /-- the integral term of i_d, A (R224) -/
  idCut : Rat := 0
  /-- the frequency of an I/f start, Hz (R223), and the fallback to SENSORLESS in force -/
  ifF   : Rat := 0
  fallback : Bool := false
  /-- SIXSTEP: boundaries in a row at or above SIX_ON, and δ_v in turns (R227) -/
  sixN  : Nat := 0
  dv    : Rat := 0
  /-- P_M,T of the last boundary, W; no plane owns V_DC (R236) -/
  pmt   : Rat := 0
  noOwner : Bool := false
  /-- P_D,set, P_G,slow and the mean of p_G at the last boundary, W (R229, R235) -/
  pdSet : Rat := 0
  pSlow : Rat := 0
  pGrid : Rat := 0
  /-- boundaries in a row with V_DC below VDC_LOW (R240), and V_DC at the boundaries of the last 10 ms, newest first (R233) -/
  low   : Nat := 0
  vdc   : List Rat := []
  deriving DecidableEq, Repr

/-! ## Pairs and groups (chapter 13) -/

/-- One Vorula path (R372): up, windows missed in a row, valid heartbeats in a row. -/
structure Path where
  up   : Bool := false
  miss : Nat := 0
  good : Nat := 0
  deriving DecidableEq, Repr

/-- The last heartbeat of the partner (R368). -/
structure Hb where
  seq    : Nat := 0
  role   : Nat := 0
  health : Nat := 0
  snap   : Nat := 0
  hash   : Nat := 0
  deriving DecidableEq, Repr

/-- The calibration of CLK_AON (R369) under way: against the tick of ISL_PRT or the partner's heartbeats, the count of CLK_AON at its
start, and the periods of 100 µs since. -/
structure Cal where
  tick : Bool := true
  a0   : Nat := 0
  n    : Nat := 0
  deriving DecidableEq, Repr

/-- A snapshot in the retention SRAM (R370): its 4,096 bytes, d_a in ns, and c_r. -/
structure Snap where
  bytes : List Byte := []
  da    : Nat := 0
  cr    : Nat := 0
  deriving DecidableEq, Repr

/-- What a takeover restores into the plane G law (R371, R376): d_c and d_a in ns, c_r, then bytes 64 to 111. -/
structure Restored where
  dc     : Nat := 0
  da     : Nat := 0
  cr     : Nat := 0
  th     : Rat := 0
  f      : Rat := 0
  w      : Rat := 0
  eBase  : Rat := 0
  eDroop : Rat := 0
  pStar  : Rat := 0
  hAct   : Rat := 0
  clip   : Rat := 0
  v2d    : Rat := 0
  v2q    : Rat := 0
  qe     : Rat := 0
  pe     : Rat := 0
  deriving DecidableEq, Repr

/-- A takeover in progress (R375): begun in COLD, with ISL_PRT not yet out of reset, the CLK_AON count at the decision, the planes
given, started or waited for, the restored law, and how long BUS_PRESENT has been low (s). -/
structure Take where
  cold  : Bool := false
  dark  : Bool := false
  c0    : Nat := 0
  given : Bool := false
  r     : Option Restored := none
  low   : Rat := 0
  deriving DecidableEq, Repr

/-- What a descriptor says of a member (R381). -/
structure Desc where
  /-- the sender's IPv4 address -/
  src     : Nat := 0
  pos     : Nat := 0
  hash    : Nat := 0
  fw      : Nat := 0
  tState  : Nat := 0
  yStatus : Nat := 0
  /-- the stamp of its last alignment mark and the T_BUS count of that mark (R281) -/
  stamp   : Nat := 0
  mark    : Nat := 0
  action  : Nat := 0
  prop    : Nat := 0
  verdict : Nat := 0
  deriving DecidableEq, Repr

/-- The pending group action (R382, R383). -/
structure GAct where
  handle  : Nat
  id      : Nat
  kind    : Nat
  payload : List Byte := []
  tDecide : Nat := 0
  tApply  : Nat := 0
  /-- t_decide has passed -/
  decided : Bool := false
  /-- T_NET was stepped or became suspect since GO (R410) -/
  moved   : Bool := false
  /-- the confirmation was met -/
  begun   : Bool := false
  /-- an ILV action waits for its carrier mark -/
  waits   : Bool := false
  deriving DecidableEq, Repr

/-- Betony and the group (chapter 13). -/
structure Red where
  /-- the role state of R366, and whether the 2 ms window of R366 is open -/
  role    : Nat := 0
  window  : Bool := false
  /-- in the window: a heartbeat has come, and one has shown ACTIVE or TAKING_OVER -/
  winHb   : Bool := false
  winAct  : Bool := false
  pathA   : Path := {}
  pathB   : Path := {}
  hbSeq   : Nat := 0
  partner : Option Hb := none
  split   : Bool := false
  calibrated : Bool := false
  cal     : Option Cal := none
  /-- a cause of R373 that waits for its frame, and the FAIL that is repeated -/
  failReq : Option Nat := none
  failing : Option Nat := none
  /-- a valid FAIL frame has arrived (R374), and the own config hash as Betony keeps it in COLD -/
  failSeen : Bool := false
  coldHash : Option Nat := none
  /-- snapshots sent: the sequence, the whole ms last served, the one being sent with its next fragment, the last sent whole -/
  snapSeq : Nat := 0
  snapMs  : Nat := 0
  outSnap : Option (Nat × List Byte) := none
  sent    : Nat := 0
  /-- snapshots received: the one being assembled with its fragments, and the last two kept, newest first -/
  inSnap  : Option (Nat × List (Nat × List Byte)) := none
  /-- d_a and c_r of the fragment 7 last received -/
  inTime  : Nat × Nat := (0, 0)
  snaps   : List Snap := []
  /-- the count of CLK_AON as last read (R376) -/
  aon     : Nat := 0
  take    : Option Take := none
  /-- the takeover record: bytes 128 to 164 of the snapshot last restored (R376) -/
  record  : List Byte := []
  /-- descriptors: own sequence, the latest of each other position, positions claimed twice -/
  descSeq : Nat := 0
  descs   : List Desc := []
  clash   : List Nat := []
  act     : Option GAct := none
  /-- what bytes 64 to 85 of the descriptor show: action ID, proposal hash, verdict, status -/
  shown   : Nat × Nat × Nat × Nat := (0, 0, 0, 0)
  deriving DecidableEq, Repr

/-! ## Cols (R18 to R21) -/

/-- The cols by number, COL01 to COL17 at indices 1 to 17: words that a destination has not taken, words that wait at the source of a
full queue, and the event counters ([15:0] saturating, [31] OVF). -/
structure Cols where
  fill  : List Nat := List.replicate 18 0
  waits : List Nat := List.replicate 18 0
  cnt   : List Nat := List.replicate 18 0
  deriving DecidableEq, Repr

/-! ## Firmware and settings (chapter 14) -/

/-- A flash slot (R386, R396): its state and tries, and its bytes by offset. -/
structure FwSlot where
  st    : Nat := 0
  tries : Nat := 0
  flash : Tab Byte := []
  deriving DecidableEq, Repr

/-- A settings record (R400): header fields, the RW parameters, and the logical tiles. -/
structure Rec where
  schema : Nat := 0
  seq    : Nat := 0
  fw     : Nat := 0
  staged : Bool := false
  valid  : Bool := true
  params : Tab Word := []
  tiles  : Tab Tile := []
  /-- the settings hash of its header -/
  hash   : List Byte := []
  deriving DecidableEq, Repr

/-- An FW_UPDATE in progress (R394, R395): package length, kind, the next block, blocks held ahead, fragments, and for DELTA the
bytes of a record not yet whole. -/
structure Upd where
  handle : Nat
  len    : Nat
  kind   : Nat
  next   : Nat := 0
  ahead  : List (Nat × List Byte) := []
  frags  : List Frag := []
  rest   : List Byte := []
  deriving DecidableEq, Repr

/-- A hitless activation in progress (R405): its handle; the k_h asked for and fixed; the state of
FW.HITLESS_STATE; the first sample at which the new Campion may have written. -/
structure Hitless where
  handle : Nat
  ask    : Nat := 0
  kh     : Nat := 0
  stage  : Nat := 1
  /-- boundaries that pass without Campion after the swap, and two groups at the next one (R406); it then falls back -/
  skip   : Nat := 0
  two    : Bool := false
  back   : Bool := false
  /-- the new Campion has written its first group -/
  wrote  : Bool := false
  /-- the STAGED record that migration gave, and its copy -/
  staged : Option (Nat × Rec) := none
  /-- the law state of the old image's handover record (R406, R407) -/
  oldGfm : Option Gfm := none
  oldMsd : Option Msd := none
  deriving DecidableEq, Repr

/-- One power-fail record (R41): T_MONO, T_NET, plane states, the codes and T_MONO of the last 16 events. -/
structure FailRec where
  mono   : Nat := 0
  net    : Nat := 0
  states : List Nat := []
  events : List (Nat × Nat) := []
  deriving DecidableEq, Repr

/-- Flash, OTP, boot control and what firmware runs (chapters 14 and 15). -/
structure Fw where
  slotA : FwSlot := {}
  slotB : FwSlot := {}
  /-- boot control: the slot booted last while GOOD; the slot chosen at this boot, and the one whose image runs -/
  last   : Nat := 0
  chosen : Option Nat := none
  run    : Option Nat := none
  /-- the two settings copies, and the one loaded -/
  copy0  : Option Rec := none
  copy1  : Option Rec := none
  loaded : Option Nat := none
  /-- the settings hash of the record in force -/
  setHash : List Byte := []
  /-- a SAVE_SETTINGS in progress: handle, copy, record -/
  saving : Option (Nat × Nat × Rec) := none
  /-- OTP: revoked roots, the owner key, the lowest security version, and the lifecycle state -/
  revoked : BitVec 2 := 0
  owner   : Option (List Byte) := none
  secVer  : Nat := 0
  life    : Nat := 1
  nonce   : List Byte := []
  upd     : Option Upd := none
  hitless : Option Hitless := none
  /-- the migration failure report in boot control (R403): the firmware version, and FW.MIG_FAIL's word; and whether it has been told -/
  report  : Option (Nat × Nat) := none
  told    : Bool := false
  ring    : List FailRec := []
  /-- an island has stopped since the islands started (R398) -/
  stopped : Bool := false
  deriving DecidableEq, Repr


/-! ## The machine -/

/-- Every piece of state the manual gives the block. -/
structure State where
  /-- the commands that wait, first in, first out -/
  pending : List Instr := []
  pins    : Pins := {}
  /-- parameter words in force (R12, R427), by ID -/
  params  : Tab Word := []
  /-- BOUNDARY words waiting for their engine's boundary (R351) -/
  wait    : List (Nat × Word) := []
  /-- RESET-class words written to the settings store, in force from the next reset (R351) -/
  stored  : Tab Word := []
  planes  : Planes := {}
  mods    : Mods := {}
  meas    : Tab MPort := []
  meter   : Meter := {}
  rgt     : Rgt := {}
  prt     : Prt := {}
  isl     : Isl := {}
  host    : HostSt := {}
  txn     : Option Txn := none
  time    : Time := {}
  clk     : Clk := {}
  eth0    : Eth := {}
  eth1    : Eth := {}
  replay  : Replay := {}
  acq     : Acq := {}
  ybus    : Ybus := {}
  cols    : Cols := {}
  sums    : Sums := {}
  gfm     : Gfm := {}
  msd     : Msd := {}
  red     : Red := {}
  fw      : Fw := {}
  /-- what has left the module at its ports, oldest first (the model's own record, log entry 4) -/
  wire    : List Wire := []
  /-- the counter of free values (the model's own, log entry 3) -/
  free    : Nat := 0
  deriving DecidableEq, Repr

/-- The faults of the model: none. No rule of the manual stops the block, so every command has a next state (log entry 65). -/
inductive Fault
  deriving DecidableEq, Repr

/-- The refusals of the model. -/
inductive Refusal where
  /-- A row without a meaning, by its mnemonic. Raised by Dispatch.lean alone. Safe: the model stops. -/
  | notModelled (mnemonic : String)
  deriving DecidableEq, Repr

/-- The block right after reset. -/
def State.reset : State := {}

end Sys2Proof.Machine
end

