-- ==== Sys2Proof/Machine/Tab.lean ====
section
/-! DEFINITION. Sys2Proof/Machine/Tab.lean: sparse tables in canonical form (log entry 2). A table lists the keys whose value
differs from the default, in rising order; equal tables are equal data. The parameter store, the ports, the tiles and the
flash are held so. -/

namespace Sys2Proof.Machine

variable {α : Type}

/-- The value at a key: the listed one, else the default of that key. -/
def tabGet (d : Nat → α) : Tab α → Nat → α
  | [], k => d k
  | (i, v) :: t, k => if i = k then v else tabGet d t k

/-- Put an entry in its place in the order. -/
def tabPut (k : Nat) (v : α) : Tab α → Tab α
  | [] => [(k, v)]
  | (i, w) :: t => if k < i then (k, v) :: (i, w) :: t else (i, w) :: tabPut k v t

/-- Write a key: the default removes its entry, any other value takes its place in the order. -/
def tabSet [DecidableEq α] (d : Nat → α) (t : Tab α) (k : Nat) (v : α) : Tab α :=
  let u := t.filter fun x => decide (x.1 ≠ k)
  if v = d k then u else tabPut k v u

/-- Every key is above `lo`, keys rise strictly, and no entry holds its default. -/
def tabOk [DecidableEq α] (d : Nat → α) : Option Nat → Tab α → Bool
  | _, [] => true
  | lo, (i, v) :: t =>
    (match lo with | none => true | some l => decide (l < i)) && decide (v ≠ d i) && tabOk d (some i) t

/-- The canonical form. -/
abbrev tabWf [DecidableEq α] (d : Nat → α) (t : Tab α) : Prop := tabOk d none t = true

end Sys2Proof.Machine
end

