-- ==== Sys2Proof/Machine/Params.lean ====
section
/-! DEFINITION. Sys2Proof/Machine/Params.lean: the parameter map (chapter 16 and the parameter tables of every chapter): the
identifiers by name, and for each row of a table its bits, access, reset value, commit class and range. -/

namespace Sys2Proof.Machine

/-- The access column of R12. `w1cCnt` is a counter in the format of R130, `w1cBits` a register of sticky bits. -/
inductive Acc where
  | rw | ro | wo | w1cCnt | w1cBits
  deriving DecidableEq, Repr

/-- The commit classes of R351. -/
inductive Commit where
  | live | boundary | stopped | reset
  deriving DecidableEq, Repr

/-- The range a table states: any value, an unsigned or signed range (OUT_OF_RANGE outside), or the codes below n
(BAD_PARAM from n on). -/
inductive Chk where
  | any
  | range (lo hi : Nat)
  | srange (lo hi : Int)
  | codes (n : Nat)
  deriving DecidableEq, Repr

/-- A row of a parameter table, repeated c1 times at stride s1 and c2 times at stride s2 (R429). -/
structure PDef where
  base   : Nat
  s1     : Nat
  c1     : Nat
  s2     : Nat
  c2     : Nat
  width  : Nat
  acc    : Acc
  reset  : Nat
  commit : Commit
  chk    : Chk
  mask   : Nat
  deriving DecidableEq, Repr

/-! ## Identifiers -/

abbrev clkTcCycles : Nat := 0x0110
abbrev measMdclkDiv : Nat := 0x0502
abbrev sysVin : Nat := 0x0010
abbrev sysPIn : Nat := 0x0011
abbrev sysPGate : Nat := 0x0012
abbrev sysTBase : Nat := 0x0013
abbrev gateSupply (i : Nat) : Nat := 0x0F0E + 0x10 * i
abbrev gatePsup (i : Nat) : Nat := 0x0F0F + 0x10 * i
abbrev measLost : Nat := 0x0500
abbrev measCtlPreset : Nat := 0x0501
abbrev measOsrC : Nat := 0x0503
abbrev measMaMode : Nat := 0x0504
abbrev measMaLen : Nat := 0x0505
abbrev measMaLenNow : Nat := 0x0506
abbrev measSkewAuto : Nat := 0x0507
abbrev measRoute (i : Nat) : Nat := 0x0520 + 0x8 * i
abbrev measCoding (i : Nat) : Nat := 0x0521 + 0x8 * i
abbrev measSkew (i : Nat) : Nat := 0x0522 + 0x8 * i
abbrev measGain (i : Nat) : Nat := 0x0523 + 0x8 * i
abbrev measOffset (i : Nat) : Nat := 0x0524 + 0x8 * i
abbrev measLin (i : Nat) : Nat := 0x0525 + 0x8 * i
abbrev measFrzN (i : Nat) : Nat := 0x0526 + 0x8 * i
abbrev measStatus (i : Nat) : Nat := 0x0527 + 0x8 * i
abbrev clkSampleLo : Nat := 0x0111
abbrev clkSampleHi : Nat := 0x0112
abbrev ctlState (i : Nat) : Nat := 0x0700 + 0x100 * i
abbrev ctlMode (i : Nat) : Nat := 0x0701 + 0x100 * i
abbrev ctlFswTarget (i : Nat) : Nat := 0x0702 + 0x100 * i
abbrev ctlAdaptN (i : Nat) : Nat := 0x0703 + 0x100 * i
abbrev ctlBandScale (i : Nat) : Nat := 0x0704 + 0x100 * i
abbrev ctlFeTime (i : Nat) : Nat := 0x0705 + 0x100 * i
abbrev ctlFeAction (i : Nat) : Nat := 0x0706 + 0x100 * i
abbrev ctlFfEn (i : Nat) : Nat := 0x0707 + 0x100 * i
abbrev ctlFfScale (i : Nat) : Nat := 0x0708 + 0x100 * i
abbrev ctlFfGain (i : Nat) : Nat := 0x0709 + 0x100 * i
abbrev ctlStopRamp (i : Nat) : Nat := 0x070A + 0x100 * i
abbrev ctlStopLimit (i : Nat) : Nat := 0x070B + 0x100 * i
abbrev ctlRegion (i : Nat) : Nat := 0x070C + 0x100 * i
abbrev ctlOvrCnt (i : Nat) : Nat := 0x0710 + 0x100 * i
abbrev ctlRefLateCnt (i : Nat) : Nat := 0x0711 + 0x100 * i
abbrev ctlTslLateCnt (i : Nat) : Nat := 0x0712 + 0x100 * i
abbrev ctlFeCnt (i : Nat) : Nat := 0x0713 + 0x100 * i
abbrev ctlDwellHoldCnt (i : Nat) : Nat := 0x0714 + 0x100 * i
abbrev ctlSreCnt (i : Nat) : Nat := 0x0715 + 0x100 * i
abbrev ctlCasLostCnt (i : Nat) : Nat := 0x0716 + 0x100 * i
abbrev ctlSre (p i : Nat) : Nat := 0x0720 + 0x100 * p + 1 * i
abbrev ctlSreCrc (i : Nat) : Nat := 0x0728 + 0x100 * i
abbrev ctlGThreeWire : Nat := 0x0730
abbrev ctlNpDb (i : Nat) : Nat := 0x0731 + 0x100 * i
abbrev ctlGRefKind : Nat := 0x0732
abbrev ctlGCf : Nat := 0x0733
abbrev ctlMPhases : Nat := 0x0830
abbrev ctlMAscFreq : Nat := 0x0832
abbrev ctlDLegs : Nat := 0x0930
abbrev ctlDLegDrop : Nat := 0x0931
abbrev ctlVt0 (i : Nat) : Nat := 0x0740 + 0x100 * i
abbrev ctlVt1 (i : Nat) : Nat := 0x0741 + 0x100 * i
abbrev ctlVt2 (i : Nat) : Nat := 0x0742 + 0x100 * i
abbrev ctlVt3 (i : Nat) : Nat := 0x0743 + 0x100 * i
abbrev ctlVt4 (i : Nat) : Nat := 0x0744 + 0x100 * i
abbrev ctlVt5 (i : Nat) : Nat := 0x0745 + 0x100 * i
abbrev ctlVt6 (i : Nat) : Nat := 0x0746 + 0x100 * i
abbrev ctlVt7 (i : Nat) : Nat := 0x0747 + 0x100 * i
abbrev ctlVt8 (i : Nat) : Nat := 0x0748 + 0x100 * i
abbrev rgtBase (i : Nat) : Nat := 0x0600 + 0x10 * i
abbrev rgtSize (i : Nat) : Nat := 0x0601 + 0x10 * i
abbrev rgtVLo (i : Nat) : Nat := 0x0602 + 0x10 * i
abbrev rgtVW (i : Nat) : Nat := 0x0603 + 0x10 * i
abbrev rgtILo (i : Nat) : Nat := 0x0604 + 0x10 * i
abbrev rgtIW (i : Nat) : Nat := 0x0605 + 0x10 * i
abbrev rgtFLo (i : Nat) : Nat := 0x0606 + 0x10 * i
abbrev rgtFW (i : Nat) : Nat := 0x0607 + 0x10 * i
abbrev rgtHys (i : Nat) : Nat := 0x0608 + 0x10 * i
abbrev rgtTileBad (i : Nat) : Nat := 0x0640 + 0x1 * i
abbrev protTripLimit (i : Nat) : Nat := 0x1200 + 0x40 * i
abbrev protTripRun (i : Nat) : Nat := 0x1201 + 0x40 * i
abbrev protCutCnt (i : Nat) : Nat := 0x1202 + 0x40 * i
abbrev modPeriod (i : Nat) : Nat := 0x0B00 + 0x100 * i
abbrev modReload (i : Nat) : Nat := 0x0B01 + 0x100 * i
abbrev modPsSrc (i : Nat) : Nat := 0x0B02 + 0x100 * i
abbrev modSync (i : Nat) : Nat := 0x0B03 + 0x100 * i
abbrev modPhase (i : Nat) : Nat := 0x0B04 + 0x100 * i
abbrev modIlv (i : Nat) : Nat := 0x0B05 + 0x100 * i
abbrev modZsi (i : Nat) : Nat := 0x0B06 + 0x100 * i
abbrev modDtcomp (i : Nat) : Nat := 0x0B07 + 0x100 * i
abbrev modEntryC (i : Nat) : Nat := 0x0B08 + 0x100 * i
abbrev modExitN (i : Nat) : Nat := 0x0B09 + 0x100 * i
abbrev modSeedLim (i : Nat) : Nat := 0x0B0A + 0x100 * i
abbrev modSeedM (i : Nat) : Nat := 0x0B0B + 0x100 * i
abbrev modFeedGap (i : Nat) : Nat := 0x0B0C + 0x100 * i
abbrev modStatus (i : Nat) : Nat := 0x0B0D + 0x100 * i
abbrev modIncompleteCnt (i : Nat) : Nat := 0x0B0E + 0x100 * i
abbrev modLateWriteCnt (i : Nat) : Nat := 0x0B0F + 0x100 * i
abbrev modEntryCnt (i : Nat) : Nat := 0x0B10 + 0x100 * i
abbrev modExitCnt (i : Nat) : Nat := 0x0B11 + 0x100 * i
abbrev modAlignErr (i : Nat) : Nat := 0x0B12 + 0x100 * i
abbrev modPsPer (i : Nat) : Nat := 0x0B20 + 0x100 * i
abbrev modPsP (p i : Nat) : Nat := 0x0B21 + 0x100 * p + 1 * i
abbrev modSetValid (i : Nat) : Nat := 0x0B33 + 0x100 * i
abbrev modMaskCtrl (i : Nat) : Nat := 0x0B40 + 0x100 * i
abbrev modMaskPtr (i : Nat) : Nat := 0x0B41 + 0x100 * i
abbrev modMaskOfs (i : Nat) : Nat := 0x0B42 + 0x100 * i
abbrev modMaskLo (p i : Nat) : Nat := 0x0B48 + 0x100 * p + 2 * i
abbrev modMaskHi (p i : Nat) : Nat := 0x0B49 + 0x100 * p + 2 * i
abbrev gateVcc (i : Nat) : Nat := 0x0F00 + 0x10 * i
abbrev gateVee (i : Nat) : Nat := 0x0F01 + 0x10 * i
abbrev gateIsrcA (i : Nat) : Nat := 0x0F02 + 0x10 * i
abbrev gateTa (i : Nat) : Nat := 0x0F03 + 0x10 * i
abbrev gateIsrcB (i : Nat) : Nat := 0x0F04 + 0x10 * i
abbrev gateIsnk (i : Nat) : Nat := 0x0F05 + 0x10 * i
abbrev gateIsnkSoft (i : Nat) : Nat := 0x0F06 + 0x10 * i
abbrev gateDt (i : Nat) : Nat := 0x0F07 + 0x10 * i
abbrev gateDesatTh (i : Nat) : Nat := 0x0F08 + 0x10 * i
abbrev gateDesatBlank (i : Nat) : Nat := 0x0F09 + 0x10 * i
abbrev gateHsTh (i : Nat) : Nat := 0x0F0A + 0x10 * i
abbrev gateCtrl (i : Nat) : Nat := 0x0F0B + 0x10 * i
abbrev gateStatus (i : Nat) : Nat := 0x0F0C + 0x10 * i
abbrev gateFaultCnt (i : Nat) : Nat := 0x0F0D + 0x10 * i
abbrev gateFaultLo : Nat := 0x1140
abbrev gateFaultHi : Nat := 0x1141
abbrev gateUvloLo : Nat := 0x1142
abbrev gateUvloHi : Nat := 0x1143
abbrev protSafeCnt (i : Nat) : Nat := 0x1203 + 0x40 * i
abbrev protSafeCause (i : Nat) : Nat := 0x1204 + 0x40 * i
abbrev protGBrkDelay : Nat := 0x1207
abbrev protMAscPref : Nat := 0x1245
abbrev protMAscGap : Nat := 0x1246
abbrev protBChopOn : Nat := 0x12C8
abbrev protBChopOff : Nat := 0x12C9
abbrev protFtSrc (p f : Nat) : Nat := 0x1210 + 0x40 * p + 6 * f
abbrev protFtHi (p f : Nat) : Nat := 0x1211 + 0x40 * p + 6 * f
abbrev protFtLo (p f : Nat) : Nat := 0x1212 + 0x40 * p + 6 * f
abbrev protFtHys (p f : Nat) : Nat := 0x1213 + 0x40 * p + 6 * f
abbrev protFtAct (p f : Nat) : Nat := 0x1214 + 0x40 * p + 6 * f
abbrev protFtCnt (p f : Nat) : Nat := 0x1215 + 0x40 * p + 6 * f
abbrev protShortStagger : Nat := 0x12E0
abbrev protShortLimit : Nat := 0x12E1
abbrev protBrkCtrl : Nat := 0x12E2
abbrev protBrkStatus : Nat := 0x12E3
abbrev protTestVdc : Nat := 0x12E4
abbrev protTestKind : Nat := 0x12E5
abbrev protTestSw0 : Nat := 0x12E6
abbrev protTestSw1 : Nat := 0x12E7
abbrev protTestSw2 : Nat := 0x12E8
abbrev protTestDpPort : Nat := 0x12E9
abbrev protTestDpT1 : Nat := 0x12EA
abbrev protTestDpTgap : Nat := 0x12EB
abbrev protTestDpT2 : Nat := 0x12EC
abbrev protTestGo : Nat := 0x12ED
abbrev clkOuterPeriods : Nat := 0x0113
abbrev gfmSRated : Nat := 0x1300
abbrev gfmVRated : Nat := 0x1301
abbrev gfmFNom : Nat := 0x1302
abbrev gfmLaw : Nat := 0x1303
abbrev gfmState : Nat := 0x1304
abbrev gfmFlags : Nat := 0x1305
abbrev gfmPSet : Nat := 0x1306
abbrev gfmQSet : Nat := 0x1307
abbrev gfmVSet : Nat := 0x1308
abbrev gfmFSet : Nat := 0x1309
abbrev gfmPRate : Nat := 0x130A
abbrev gfmH : Nat := 0x130B
abbrev gfmHAct : Nat := 0x130C
abbrev gfmD : Nat := 0x130D
abbrev gfmDroopF : Nat := 0x130E
abbrev gfmDroopV : Nat := 0x130F
abbrev gfmTfPq : Nat := 0x1310
abbrev gfmRv : Nat := 0x1311
abbrev gfmXv : Nat := 0x1312
abbrev gfmNegMode : Nat := 0x1313
abbrev gfmNegKi : Nat := 0x1314
abbrev gfmNegIlim : Nat := 0x1315
abbrev gfmMonBw : Nat := 0x1316
abbrev gfmPllBw : Nat := 0x1317
abbrev gfmDfLim : Nat := 0x1318
abbrev gfmDthLim : Nat := 0x1319
abbrev gfmLimExit : Nat := 0x131A
abbrev gfmFrtV1 : Nat := 0x131B
abbrev gfmFrtHys : Nat := 0x131C
abbrev gfmFrtPramp : Nat := 0x131D
abbrev gfmFrtAction : Nat := 0x131E
abbrev gfmFrtT0 : Nat := 0x1320
abbrev gfmFrtT1 : Nat := 0x1321
abbrev gfmFrtT2 : Nat := 0x1322
abbrev gfmFrtT3 : Nat := 0x1323
abbrev gfmFrtU0 : Nat := 0x1324
abbrev gfmFrtU1 : Nat := 0x1325
abbrev gfmFrtU2 : Nat := 0x1326
abbrev gfmFrtU3 : Nat := 0x1327
abbrev gfmPjTh : Nat := 0x1328
abbrev gfmBsRamp : Nat := 0x1329
abbrev gfmBsMode : Nat := 0x132A
abbrev gfmBrkMode : Nat := 0x132B
abbrev gfmDeadClose : Nat := 0x132C
abbrev gfmDeadTime : Nat := 0x132D
abbrev gfmSyncShift : Nat := 0x132E
abbrev gfmSyncT : Nat := 0x132F
abbrev gfmSyncDf : Nat := 0x1330
abbrev gfmSyncVrate : Nat := 0x1331
abbrev gfmSyncDfOk : Nat := 0x1332
abbrev gfmSyncDvOk : Nat := 0x1333
abbrev gfmSyncDthOk : Nat := 0x1334
abbrev gfmBrkTclose : Nat := 0x1335
abbrev gfmSyncTimeout : Nat := 0x1336
abbrev gfmSyncRel : Nat := 0x1337
abbrev gfmHoDth : Nat := 0x1338
abbrev gfmHoDmag : Nat := 0x1339
abbrev gfmHoK : Nat := 0x133A
abbrev gfmAutoForm : Nat := 0x133B
abbrev gfmFollowLoss : Nat := 0x133C
abbrev gfmU1 : Nat := 0x1340
abbrev gfmFMon : Nat := 0x1341
abbrev gfmPE : Nat := 0x1342
abbrev gfmQE : Nat := 0x1343
abbrev gfmBusU1 : Nat := 0x1344
abbrev gfmBusF : Nat := 0x1345
abbrev gfmSyncDth : Nat := 0x1346
abbrev gfmRocof : Nat := 0x1347
abbrev msdLaw : Nat := 0x1400
abbrev msdMachine : Nat := 0x1401
abbrev msdFeedback : Nat := 0x1402
abbrev msdPolePairs : Nat := 0x1403
abbrev msdPsi : Nat := 0x1404
abbrev msdLd : Nat := 0x1405
abbrev msdLq : Nat := 0x1406
abbrev msdRs : Nat := 0x1407
abbrev msdJ : Nat := 0x1408
abbrev msdImId : Nat := 0x1409
abbrev msdImTr : Nat := 0x140A
abbrev msdSet2Shift : Nat := 0x140B
abbrev msdSpeedSet : Nat := 0x140C
abbrev msdSpeedMax : Nat := 0x140D
abbrev msdDwMax : Nat := 0x140E
abbrev msdBand : Nat := 0x140F
abbrev msdBandHys : Nat := 0x1410
abbrev msdTSet : Nat := 0x1411
abbrev msdTMax : Nat := 0x1412
abbrev msdVdcRef : Nat := 0x1413
abbrev msdDcCap : Nat := 0x1414
abbrev msdVdcBw : Nat := 0x1415
abbrev msdTRec : Nat := 0x1416
abbrev msdRecPmax : Nat := 0x1417
abbrev msdTLoad : Nat := 0x1418
abbrev msdDfDesign : Nat := 0x1419
abbrev msdRocofDesign : Nat := 0x141A
abbrev msdVdcLow : Nat := 0x141B
abbrev msdLowAction : Nat := 0x141C
abbrev msdFfFmin : Nat := 0x141D
abbrev msdSlFmin : Nat := 0x141E
abbrev msdIfCur : Nat := 0x141F
abbrev msdIfRate : Nat := 0x1420
abbrev msdEncFallback : Nat := 0x1421
abbrev msdSixEn : Nat := 0x1422
abbrev msdSixOn : Nat := 0x1423
abbrev msdSixOff : Nat := 0x1424
abbrev msdSixKd : Nat := 0x1425
abbrev msdState : Nat := 0x1426
abbrev msdFlags : Nat := 0x1427
abbrev msdSpeed : Nat := 0x1428
abbrev msdEDown : Nat := 0x1429
abbrev msdEUp : Nat := 0x142A
abbrev msdPLoad : Nat := 0x142B
abbrev msdEncMode (i : Nat) : Nat := 0x1430 + 0x4 * i
abbrev msdEncRes (i : Nat) : Nat := 0x1431 + 0x4 * i
abbrev msdEncSupply (i : Nat) : Nat := 0x1432 + 0x4 * i
abbrev msdEncOffset (i : Nat) : Nat := 0x1433 + 0x4 * i
abbrev ctlDOuter : Nat := 0x0940
abbrev ctlDPSet : Nat := 0x0941
abbrev ctlDPRate : Nat := 0x0942
abbrev ctlDPChgMax : Nat := 0x0943
abbrev ctlDPDisMax : Nat := 0x0944
abbrev ctlDVsMin : Nat := 0x0945
abbrev ctlDVsMax : Nat := 0x0946
abbrev ctlDTSupport : Nat := 0x0947
abbrev ctlDEDis : Nat := 0x0948
abbrev ctlDEChg : Nat := 0x0949
abbrev ctlBVChop : Nat := 0x0A30
abbrev ctlBAux : Nat := 0x0A31
abbrev ctlBPreFrac : Nat := 0x0A32
abbrev ctlBPreTime : Nat := 0x0A33
abbrev ctlBDisV : Nat := 0x0A34
abbrev ctlBDisTime : Nat := 0x0A35
abbrev clkRefSel : Nat := 0x0100
abbrev clkRefAlt : Nat := 0x0101
abbrev clkRefMode : Nat := 0x0102
abbrev clkPllmBw : Nat := 0x0103
abbrev clkHoldoverMax : Nat := 0x0104
abbrev clkRelock : Nat := 0x0105
abbrev clkRefWait : Nat := 0x0106
abbrev clkReturnHold : Nat := 0x0107
abbrev clkPllmStatus : Nat := 0x0108
abbrev clkEvents : Nat := 0x0109
abbrev clkPllmFerr : Nat := 0x010A
abbrev clkXrefFerr : Nat := 0x010B
abbrev clkPhaseStep : Nat := 0x010C
abbrev clkPhasePend : Nat := 0x010D
abbrev clkPhaseAcc : Nat := 0x010E
abbrev clkPllpStatus : Nat := 0x010F
abbrev clkHoldCnt : Nat := 0x0114
abbrev clkFallbackCnt : Nat := 0x0115
abbrev clkYclkFerr : Nat := 0x0116
abbrev timeMonoLo : Nat := 0x0200
abbrev timeMonoHi : Nat := 0x0201
abbrev timeNetNs : Nat := 0x0202
abbrev timeNetSLo : Nat := 0x0203
abbrev timeNetSHi : Nat := 0x0204
abbrev timeBusCntLo : Nat := 0x0205
abbrev timeBusCntHi : Nat := 0x0206
abbrev timeBusSub : Nat := 0x0207
abbrev timeGridAngle : Nat := 0x0208
abbrev timeGridCyc : Nat := 0x0209
abbrev timeLatch : Nat := 0x020A
abbrev timeStepLimit : Nat := 0x0210
abbrev timeSlewMax : Nat := 0x0211
abbrev timeState : Nat := 0x0212
abbrev timeEvents : Nat := 0x0213
abbrev timeOffset : Nat := 0x0214
abbrev timeErrEst : Nat := 0x0215
abbrev timeNetRate : Nat := 0x0216
abbrev timeXchkErr : Nat := 0x0217
abbrev timeStepCnt : Nat := 0x0218
abbrev timeTcCtrl (i : Nat) : Nat := 0x0220 + 0x4 * i
abbrev timeTcEvtLo (i : Nat) : Nat := 0x0221 + 0x4 * i
abbrev timeTcEvtHi (i : Nat) : Nat := 0x0222 + 0x4 * i
abbrev timeTcStatus (i : Nat) : Nat := 0x0223 + 0x4 * i
abbrev netPtpEn : Nat := 0x0300
abbrev netPtpDomain : Nat := 0x0301
abbrev netPtpDelay : Nat := 0x0302
abbrev netPtpStep : Nat := 0x0303
abbrev netPtpTransport : Nat := 0x0304
abbrev netPtpRole : Nat := 0x0305
abbrev netPtpPrio1 : Nat := 0x0306
abbrev netPtpPrio2 : Nat := 0x0307
abbrev netPtpTc : Nat := 0x0308
abbrev netPtpSyncLog : Nat := 0x0309
abbrev netPtpAnnLog : Nat := 0x030A
abbrev netPdStep : Nat := 0x030B
abbrev netEthAsym (i : Nat) : Nat := 0x0340 + 0x10 * i
abbrev netEthLateLimit (i : Nat) : Nat := 0x0341 + 0x10 * i
abbrev netEthGuard (i : Nat) : Nat := 0x0342 + 0x10 * i
abbrev netEthQEn (i : Nat) : Nat := 0x0343 + 0x10 * i
abbrev netEthPd (i : Nat) : Nat := 0x0344 + 0x10 * i
abbrev netEthLateCnt (i : Nat) : Nat := 0x0345 + 0x10 * i
abbrev acqCtrl : Nat := 0x1500
abbrev acqDecim : Nat := 0x1501
abbrev acqSlots : Nat := 0x1502
abbrev acqPre : Nat := 0x1503
abbrev acqPost : Nat := 0x1504
abbrev acqHoldoff : Nat := 0x1505
abbrev acqStatus : Nat := 0x1506
abbrev acqEvents : Nat := 0x1507
abbrev acqSlowDiv : Nat := 0x1508
abbrev acqIgnoredCnt : Nat := 0x1509
abbrev acqRecNum : Nat := 0x150A
abbrev acqTuFired : Nat := 0x150B
abbrev acqChSrc (i : Nat) : Nat := 0x1510 + 0x1 * i
abbrev acqTuCtrl (i : Nat) : Nat := 0x1540 + 0x4 * i
abbrev acqTuLevelA (i : Nat) : Nat := 0x1541 + 0x4 * i
abbrev acqTuLevelB (i : Nat) : Nat := 0x1542 + 0x4 * i
abbrev acqTuHys (i : Nat) : Nat := 0x1543 + 0x4 * i
abbrev acqRpSrc : Nat := 0x15C0
abbrev acqRpMode : Nat := 0x15C1
abbrev acqRpStart : Nat := 0x15C2
abbrev acqRpLen : Nat := 0x15C3
abbrev acqRpLoops : Nat := 0x15C4
abbrev acqRpTrig : Nat := 0x15C5
abbrev acqRpStatus : Nat := 0x15C6
abbrev acqRpMap (i : Nat) : Nat := 0x15D0 + 0x1 * i
abbrev acqInjMax : Nat := 0x15E8
abbrev acqInjRamp : Nat := 0x15E9
abbrev acqInjTmax : Nat := 0x15EA
abbrev ybusStatus : Nat := 0x0400
abbrev ybusDelay : Nat := 0x0401
abbrev ybusLat : Nat := 0x0402
abbrev ybusCmark : Nat := 0x0403
abbrev ybusSurvey : Nat := 0x0404
abbrev ybusEvents : Nat := 0x0405
abbrev sysTxnState : Nat := 0x0020
abbrev sysTxnTimeout : Nat := 0x0021
abbrev sysHandles : Nat := 0x0022
abbrev sysSpareTiles : Nat := 0x0023
abbrev sysEvtRoute : Nat := 0x0024
abbrev sysCrcErrCnt : Nat := 0x0025
abbrev sysStaleCnt : Nat := 0x0026
abbrev sysSeqGapCnt : Nat := 0x0027
abbrev sysSrcDropCnt : Nat := 0x0028
abbrev sysEvtLostCnt : Nat := 0x0029
abbrev sysTripForeignCnt : Nat := 0x002A
abbrev netUrgentSrc (i : Nat) : Nat := 0x0320 + 0x2 * i
abbrev netUrgentLen (i : Nat) : Nat := 0x0321 + 0x2 * i
abbrev netCmdSrc (i : Nat) : Nat := 0x0328 + 0x2 * i
abbrev netCmdLen (i : Nat) : Nat := 0x0329 + 0x2 * i
abbrev netTripAddr : Nat := 0x0330
abbrev netTripPorts : Nat := 0x0331
abbrev netEvtDst (i : Nat) : Nat := 0x0332 + 0x1 * i
abbrev redRole : Nat := 0x1600
abbrev redStatus : Nat := 0x1601
abbrev redEvents : Nat := 0x1602
abbrev redCtrl : Nat := 0x1603
abbrev redTakeVdc : Nat := 0x1604
abbrev redTakeLive : Nat := 0x1605
abbrev redHashPolicy : Nat := 0x1606
abbrev redSnapAgeMax : Nat := 0x1607
abbrev redTakeRamp : Nat := 0x1608
abbrev redAonRate : Nat := 0x1609
abbrev redTakeElapsed : Nat := 0x160A
abbrev redTakeTime : Nat := 0x160B
abbrev redHbMissA : Nat := 0x160C
abbrev redHbMissB : Nat := 0x160D
abbrev redSnapBadCnt : Nat := 0x160E
abbrev redGroupId : Nat := 0x1620
abbrev redGrpSize : Nat := 0x1621
abbrev redGrpAddr : Nat := 0x1622
abbrev redGrpPeriod : Nat := 0x1623
abbrev redCfgHash (i : Nat) : Nat := 0x1624 + 0x1 * i
abbrev redGrpHeard : Nat := 0x1628
abbrev redGrpAgree : Nat := 0x1629
abbrev redGrpEvents : Nat := 0x162A
abbrev fwLifecycle : Nat := 0x1700
abbrev fwSlotState : Nat := 0x1701
abbrev fwVersion : Nat := 0x1702
abbrev fwSecVer : Nat := 0x1703
abbrev fwSchema : Nat := 0x1704
abbrev fwCtrl : Nat := 0x1705
abbrev fwConfirmTime : Nat := 0x1706
abbrev fwKeyPolicy : Nat := 0x1707
abbrev fwKeys : Nat := 0x1708
abbrev fwHitlessState : Nat := 0x1709
abbrev fwRestartMax : Nat := 0x170A
abbrev fwEvents : Nat := 0x170B
abbrev fwMigFail : Nat := 0x170C
abbrev fwBootCnt : Nat := 0x170D
abbrev fwArchFree : Nat := 0x170E
abbrev fwIdPub (i : Nat) : Nat := 0x1710 + 0x1 * i
abbrev fwUnlockNonce (i : Nat) : Nat := 0x1718 + 0x1 * i
abbrev fwSetHash (i : Nat) : Nat := 0x1720 + 0x1 * i
abbrev sysResetCause : Nat := 0x0030
abbrev sysResetCnt : Nat := 0x0031
abbrev sysAutoReset : Nat := 0x0032
abbrev sysAutoResetT : Nat := 0x0033
abbrev sysSelftest : Nat := 0x0034
abbrev sysBootStage : Nat := 0x0035
abbrev sysStartEvents : Nat := 0x0036

/-! ## Rows -/

def clkDefs0 : List PDef := [
  ⟨0x0110, 0x0, 1, 0, 1, 16, .rw, 0x190, .stopped, .range 200 8000, 0xFFFF⟩,
  ⟨0x0111, 0x0, 1, 0, 1, 32, .ro, 0x0, .live, .any, 0xFFFFFFFF⟩,
  ⟨0x0112, 0x0, 1, 0, 1, 32, .ro, 0x0, .live, .any, 0xFFFFFFFF⟩,
  ⟨0x0113, 0x0, 1, 0, 1, 16, .rw, 0x32, .stopped, .any, 0xFFFF⟩,
  ⟨0x0100, 0x0, 1, 0, 1, 2, .rw, 0x0, .live, .codes 3, 0x3⟩,
  ⟨0x0101, 0x0, 1, 0, 1, 2, .rw, 0x3, .live, .any, 0x3⟩,
  ⟨0x0102, 0x0, 1, 0, 1, 2, .rw, 0x1, .stopped, .codes 3, 0x3⟩,
  ⟨0x0103, 0x0, 1, 0, 1, 3, .rw, 0x3, .stopped, .codes 5, 0x7⟩,
  ⟨0x0104, 0x0, 1, 0, 1, 16, .rw, 0x12C, .live, .range 1 3600, 0xFFFF⟩,
  ⟨0x0105, 0x0, 1, 0, 1, 1, .rw, 0x0, .live, .any, 0x1⟩,
  ⟨0x0106, 0x0, 1, 0, 1, 16, .rw, 0x3E8, .live, .range 200 60000, 0xFFFF⟩,
  ⟨0x0107, 0x0, 1, 0, 1, 16, .rw, 0x3E8, .live, .range 100 60000, 0xFFFF⟩,
  ⟨0x0108, 0x0, 1, 0, 1, 9, .ro, 0x0, .live, .any, 0x1FF⟩,
  ⟨0x0109, 0x0, 1, 0, 1, 7, .w1cBits, 0x0, .live, .any, 0x7F⟩,
  ⟨0x010A, 0x0, 1, 0, 1, 16, .ro, 0x0, .live, .any, 0xFFFF⟩,
  ⟨0x010B, 0x0, 1, 0, 1, 16, .ro, 0x0, .live, .any, 0xFFFF⟩,
  ⟨0x010C, 0x0, 1, 0, 1, 8, .wo, 0x0, .live, .any, 0xFF⟩,
  ⟨0x010D, 0x0, 1, 0, 1, 9, .ro, 0x0, .live, .any, 0x1FF⟩,
  ⟨0x010E, 0x0, 1, 0, 1, 32, .ro, 0x0, .live, .any, 0xFFFFFFFF⟩,
  ⟨0x010F, 0x0, 1, 0, 1, 2, .ro, 0x0, .live, .any, 0x3⟩,
  ⟨0x0114, 0x0, 1, 0, 1, 32, .w1cCnt, 0x0, .live, .any, 0xFFFFFFFF⟩,
  ⟨0x0115, 0x0, 1, 0, 1, 32, .w1cCnt, 0x0, .live, .any, 0xFFFFFFFF⟩,
  ⟨0x0116, 0x0, 1, 0, 1, 16, .ro, 0x8000, .live, .any, 0xFFFF⟩]

def measDefs0 : List PDef := [
  ⟨0x0502, 0x0, 1, 0, 1, 5, .rw, 0xA, .stopped, .range 8 20, 0x1F⟩,
  ⟨0x0500, 0x0, 1, 0, 1, 24, .w1cBits, 0x0, .live, .any, 0xFFFFFF⟩,
  ⟨0x0501, 0x0, 1, 0, 1, 1, .ro, 0x1, .live, .any, 0x1⟩,
  ⟨0x0503, 0x0, 1, 0, 1, 10, .ro, 0x28, .live, .any, 0x3FF⟩,
  ⟨0x0504, 0x0, 1, 0, 1, 1, .rw, 0x1, .boundary, .any, 0x1⟩,
  ⟨0x0505, 0x0, 1, 0, 1, 13, .rw, 0xC35, .boundary, .range 1 4096, 0x1FFF⟩,
  ⟨0x0506, 0x0, 1, 0, 1, 13, .ro, 0xC35, .live, .any, 0x1FFF⟩,
  ⟨0x0507, 0x0, 1, 0, 1, 1, .rw, 0x1, .stopped, .any, 0x1⟩,
  ⟨0x0520, 0x8, 24, 0, 1, 8, .rw, 0x0, .stopped, .any, 0xFF⟩,
  ⟨0x0521, 0x8, 24, 0, 1, 1, .rw, 0x0, .stopped, .any, 0x1⟩,
  ⟨0x0522, 0x8, 24, 0, 1, 5, .rw, 0x0, .stopped, .any, 0x1F⟩,
  ⟨0x0523, 0x8, 24, 0, 1, 32, .rw, 0x10000, .stopped, .any, 0xFFFFFFFF⟩,
  ⟨0x0524, 0x8, 24, 0, 1, 32, .rw, 0x0, .stopped, .any, 0xFFFFFFFF⟩,
  ⟨0x0525, 0x8, 24, 0, 1, 32, .rw, 0x0, .stopped, .any, 0xFFFFFFFF⟩,
  ⟨0x0526, 0x8, 24, 0, 1, 13, .rw, 0x40, .boundary, .any, 0x1FFF⟩,
  ⟨0x0527, 0x8, 24, 0, 1, 8, .w1cBits, 0x0, .live, .any, 0xFF⟩]

def sysDefs0 : List PDef := [
  ⟨0x0010, 0x0, 1, 0, 1, 16, .ro, 0x0, .live, .any, 0xFFFF⟩,
  ⟨0x0011, 0x0, 1, 0, 1, 16, .ro, 0x0, .live, .any, 0xFFFF⟩,
  ⟨0x0012, 0x0, 1, 0, 1, 16, .ro, 0x0, .live, .any, 0xFFFF⟩,
  ⟨0x0013, 0x0, 1, 0, 1, 16, .ro, 0x0, .live, .any, 0xFFFF⟩,
  ⟨0x0020, 0x0, 1, 0, 1, 25, .ro, 0x0, .live, .any, 0x1FFFFFF⟩,
  ⟨0x0021, 0x0, 1, 0, 1, 16, .rw, 0x2710, .live, .range 100 65535, 0xFFFF⟩,
  ⟨0x0022, 0x0, 1, 0, 1, 7, .ro, 0x0, .live, .any, 0x7F⟩,
  ⟨0x0023, 0x0, 1, 0, 1, 6, .ro, 0x20, .live, .any, 0x3F⟩,
  ⟨0x0024, 0x0, 1, 0, 1, 1, .rw, 0x1, .live, .any, 0x1⟩,
  ⟨0x0025, 0x0, 1, 0, 1, 32, .w1cCnt, 0x0, .live, .any, 0xFFFFFFFF⟩,
  ⟨0x0026, 0x0, 1, 0, 1, 32, .w1cCnt, 0x0, .live, .any, 0xFFFFFFFF⟩,
  ⟨0x0027, 0x0, 1, 0, 1, 32, .w1cCnt, 0x0, .live, .any, 0xFFFFFFFF⟩,
  ⟨0x0028, 0x0, 1, 0, 1, 32, .w1cCnt, 0x0, .live, .any, 0xFFFFFFFF⟩,
  ⟨0x0029, 0x0, 1, 0, 1, 32, .w1cCnt, 0x0, .live, .any, 0xFFFFFFFF⟩,
  ⟨0x002A, 0x0, 1, 0, 1, 32, .w1cCnt, 0x0, .live, .any, 0xFFFFFFFF⟩,
  ⟨0x0030, 0x0, 1, 0, 1, 16, .ro, 0x0, .live, .any, 0xFFFF⟩,
  ⟨0x0031, 0x0, 1, 0, 1, 32, .w1cCnt, 0x0, .live, .any, 0xFFFFFFFF⟩,
  ⟨0x0032, 0x0, 1, 0, 1, 1, .rw, 0x0, .live, .any, 0x1⟩,
  ⟨0x0033, 0x0, 1, 0, 1, 16, .rw, 0x3E8, .live, .range 100 60000, 0xFFFF⟩,
  ⟨0x0034, 0x0, 1, 0, 1, 32, .ro, 0x0, .live, .any, 0xFFFFFFFF⟩,
  ⟨0x0035, 0x0, 1, 0, 1, 4, .ro, 0x0, .live, .any, 0xF⟩,
  ⟨0x0036, 0x0, 1, 0, 1, 3, .w1cBits, 0x0, .live, .any, 0x7⟩]

def gateDefs0 : List PDef := [
  ⟨0x0F0E, 0x10, 36, 0, 1, 2, .rw, 0x2, .stopped, .codes 3, 0x3⟩,
  ⟨0x0F0F, 0x10, 36, 0, 1, 16, .ro, 0x0, .live, .any, 0xFFFF⟩,
  ⟨0x0F00, 0x10, 36, 0, 1, 6, .rw, 0x1E, .stopped, .range 0 50, 0x3F⟩,
  ⟨0x0F01, 0x10, 36, 0, 1, 6, .rw, 0x1E, .stopped, .range 0 60, 0x3F⟩,
  ⟨0x0F02, 0x10, 36, 0, 1, 5, .rw, 0xF, .stopped, .any, 0x1F⟩,
  ⟨0x0F03, 0x10, 36, 0, 1, 8, .rw, 0x0, .stopped, .any, 0xFF⟩,
  ⟨0x0F04, 0x10, 36, 0, 1, 5, .rw, 0xF, .stopped, .any, 0x1F⟩,
  ⟨0x0F05, 0x10, 36, 0, 1, 5, .rw, 0xF, .stopped, .any, 0x1F⟩,
  ⟨0x0F06, 0x10, 36, 0, 1, 5, .rw, 0x3, .stopped, .any, 0x1F⟩,
  ⟨0x0F07, 0x10, 36, 0, 1, 11, .rw, 0x28, .stopped, .range 20 2000, 0x7FF⟩,
  ⟨0x0F08, 0x10, 36, 0, 1, 6, .rw, 0x10, .stopped, .range 0 36, 0x3F⟩,
  ⟨0x0F09, 0x10, 36, 0, 1, 7, .rw, 0x10, .stopped, .range 0 116, 0x7F⟩,
  ⟨0x0F0A, 0x10, 36, 0, 1, 6, .rw, 0x18, .stopped, .range 0 36, 0x3F⟩,
  ⟨0x0F0B, 0x10, 36, 0, 1, 6, .rw, 0x3F, .stopped, .any, 0x3F⟩,
  ⟨0x0F0C, 0x10, 36, 0, 1, 11, .w1cBits, 0x0, .live, .any, 0x7FF⟩,
  ⟨0x0F0D, 0x10, 36, 0, 1, 32, .w1cCnt, 0x0, .live, .any, 0xFFFFFFFF⟩,
  ⟨0x1140, 0x0, 1, 0, 1, 32, .ro, 0x0, .live, .any, 0xFFFFFFFF⟩,
  ⟨0x1141, 0x0, 1, 0, 1, 4, .ro, 0x0, .live, .any, 0xF⟩,
  ⟨0x1142, 0x0, 1, 0, 1, 32, .ro, 0x0, .live, .any, 0xFFFFFFFF⟩,
  ⟨0x1143, 0x0, 1, 0, 1, 4, .ro, 0x0, .live, .any, 0xF⟩]

def ctlDefs0 : List PDef := [
  ⟨0x0700, 0x100, 4, 0, 1, 8, .ro, 0x0, .live, .any, 0xFF⟩,
  ⟨0x0701, 0x100, 4, 0, 1, 2, .rw, 0x0, .boundary, .codes 3, 0x3⟩,
  ⟨0x0702, 0x100, 4, 0, 1, 16, .rw, 0x3E80, .boundary, .range 1000 50000, 0xFFFF⟩,
  ⟨0x0703, 0x100, 4, 0, 1, 16, .rw, 0x3E8, .boundary, .range 100 65535, 0xFFFF⟩,
  ⟨0x0704, 0x100, 4, 0, 1, 16, .ro, 0x1000, .live, .any, 0xFFFF⟩,
  ⟨0x0705, 0x100, 4, 0, 1, 16, .rw, 0x3E8, .live, .range 1 65535, 0xFFFF⟩,
  ⟨0x0706, 0x100, 4, 0, 1, 2, .rw, 0x2, .live, .codes 3, 0x3⟩,
  ⟨0x0707, 0x100, 4, 0, 1, 1, .rw, 0x0, .boundary, .any, 0x1⟩,
  ⟨0x0708, 0x100, 4, 0, 1, 16, .rw, 0x8000, .live, .any, 0xFFFF⟩,
  ⟨0x0709, 0x100, 4, 0, 1, 32, .rw, 0x0, .live, .any, 0xFFFFFFFF⟩,
  ⟨0x070A, 0x100, 4, 0, 1, 16, .rw, 0x2710, .boundary, .any, 0xFFFF⟩,
  ⟨0x070B, 0x100, 4, 0, 1, 16, .rw, 0x4E20, .boundary, .range 100 65535, 0xFFFF⟩,
  ⟨0x070C, 0x100, 4, 0, 1, 32, .ro, 0x0, .live, .any, 0xFFFFFFFF⟩,
  ⟨0x0710, 0x100, 4, 0, 1, 32, .w1cCnt, 0x0, .live, .any, 0xFFFFFFFF⟩,
  ⟨0x0711, 0x100, 4, 0, 1, 32, .w1cCnt, 0x0, .live, .any, 0xFFFFFFFF⟩,
  ⟨0x0712, 0x100, 4, 0, 1, 32, .w1cCnt, 0x0, .live, .any, 0xFFFFFFFF⟩,
  ⟨0x0713, 0x100, 4, 0, 1, 32, .w1cCnt, 0x0, .live, .any, 0xFFFFFFFF⟩,
  ⟨0x0714, 0x100, 4, 0, 1, 32, .w1cCnt, 0x0, .live, .any, 0xFFFFFFFF⟩,
  ⟨0x0715, 0x100, 4, 0, 1, 32, .w1cCnt, 0x0, .live, .any, 0xFFFFFFFF⟩,
  ⟨0x0716, 0x100, 4, 0, 1, 32, .w1cCnt, 0x0, .live, .any, 0xFFFFFFFF⟩,
  ⟨0x0720, 0x100, 4, 1, 8, 32, .rw, 0x0, .stopped, .any, 0xFFFFFFFF⟩,
  ⟨0x0728, 0x100, 4, 0, 1, 32, .rw, 0x0, .stopped, .any, 0xFFFFFFFF⟩,
  ⟨0x0730, 0x0, 1, 0, 1, 1, .rw, 0x1, .stopped, .any, 0x1⟩,
  ⟨0x0731, 0x100, 2, 0, 1, 16, .rw, 0x140, .boundary, .any, 0xFFFF⟩,
  ⟨0x0732, 0x0, 1, 0, 1, 1, .rw, 0x1, .boundary, .any, 0x1⟩,
  ⟨0x0733, 0x0, 1, 0, 1, 16, .rw, 0x0, .stopped, .any, 0xFFFF⟩,
  ⟨0x0830, 0x0, 1, 0, 1, 1, .rw, 0x0, .stopped, .any, 0x1⟩,
  ⟨0x0832, 0x0, 1, 0, 1, 16, .rw, 0x0, .boundary, .any, 0xFFFF⟩,
  ⟨0x0930, 0x0, 1, 0, 1, 6, .rw, 0x3F, .stopped, .any, 0x3F⟩,
  ⟨0x0931, 0x0, 1, 0, 1, 1, .rw, 0x0, .boundary, .any, 0x1⟩,
  ⟨0x0740, 0x100, 2, 0, 1, 32, .rw, 0x10021101, .stopped, .any, 0xFFFFFFFF⟩,
  ⟨0x0741, 0x100, 2, 0, 1, 32, .rw, 0x2F102011, .stopped, .any, 0xFFFFFFFF⟩,
  ⟨0x0742, 0x100, 2, 0, 1, 32, .rw, 0x2E2F1F20, .stopped, .any, 0xFFFFFFFF⟩,
  ⟨0x0743, 0x100, 2, 0, 1, 32, .rw, 0xF2E1E1F, .stopped, .any, 0xFFFFFFFF⟩,
  ⟨0x0744, 0x100, 2, 0, 1, 32, .rw, 0xFF0F0E1E, .stopped, .any, 0xFFFFFFFF⟩,
  ⟨0x0745, 0x100, 2, 0, 1, 32, .rw, 0xE0FFF00E, .stopped, .any, 0xFFFFFFFF⟩,
  ⟨0x0746, 0x100, 2, 0, 1, 32, .rw, 0xF1E0E1F0, .stopped, .any, 0xFFFFFFFF⟩,
  ⟨0x0747, 0x100, 2, 0, 1, 32, .rw, 0xF2F1E2E1, .stopped, .any, 0xFFFFFFFF⟩,
  ⟨0x0748, 0x100, 2, 0, 1, 32, .rw, 0x2F201E2, .stopped, .any, 0xFFFFFFFF⟩,
  ⟨0x0940, 0x0, 1, 0, 1, 1, .rw, 0x0, .boundary, .any, 0x1⟩]

def ctlDefs1 : List PDef := [
  ⟨0x0941, 0x0, 1, 0, 1, 16, .rw, 0x0, .boundary, .any, 0xFFFF⟩,
  ⟨0x0942, 0x0, 1, 0, 1, 16, .rw, 0x64, .boundary, .range 1 65535, 0xFFFF⟩,
  ⟨0x0943, 0x0, 1, 0, 1, 16, .rw, 0x0, .boundary, .any, 0xFFFF⟩,
  ⟨0x0944, 0x0, 1, 0, 1, 16, .rw, 0x0, .boundary, .any, 0xFFFF⟩,
  ⟨0x0945, 0x0, 1, 0, 1, 16, .rw, 0x0, .boundary, .any, 0xFFFF⟩,
  ⟨0x0946, 0x0, 1, 0, 1, 16, .rw, 0x0, .boundary, .any, 0xFFFF⟩,
  ⟨0x0947, 0x0, 1, 0, 1, 16, .rw, 0x2710, .boundary, .range 100 65535, 0xFFFF⟩,
  ⟨0x0948, 0x0, 1, 0, 1, 32, .rw, 0x0, .live, .any, 0xFFFFFFFF⟩,
  ⟨0x0949, 0x0, 1, 0, 1, 32, .rw, 0x0, .live, .any, 0xFFFFFFFF⟩,
  ⟨0x0A30, 0x0, 1, 0, 1, 32, .rw, 0x0, .boundary, .any, 0xFFFFFFFF⟩,
  ⟨0x0A31, 0x0, 1, 0, 1, 2, .rw, 0x0, .live, .any, 0x3⟩,
  ⟨0x0A32, 0x0, 1, 0, 1, 16, .rw, 0x799A, .boundary, .any, 0xFFFF⟩,
  ⟨0x0A33, 0x0, 1, 0, 1, 16, .rw, 0x1388, .boundary, .range 100 65535, 0xFFFF⟩,
  ⟨0x0A34, 0x0, 1, 0, 1, 16, .rw, 0x32, .boundary, .range 10 200, 0xFFFF⟩,
  ⟨0x0A35, 0x0, 1, 0, 1, 16, .rw, 0xEA60, .boundary, .range 1000 65535, 0xFFFF⟩]

def rgtDefs0 : List PDef := [
  ⟨0x0600, 0x10, 4, 0, 1, 8, .rw, 0x0, .stopped, .range 0 191, 0xFF⟩,
  ⟨0x0601, 0x10, 4, 0, 1, 14, .rw, 0x0, .stopped, .any, 0x3FFF⟩,
  ⟨0x0602, 0x10, 4, 0, 1, 32, .rw, 0x0, .stopped, .any, 0xFFFFFFFF⟩,
  ⟨0x0603, 0x10, 4, 0, 1, 32, .rw, 0x10000, .stopped, .range 1 4294967295, 0xFFFFFFFF⟩,
  ⟨0x0604, 0x10, 4, 0, 1, 32, .rw, 0x0, .stopped, .any, 0xFFFFFFFF⟩,
  ⟨0x0605, 0x10, 4, 0, 1, 32, .rw, 0x10000, .stopped, .range 1 4294967295, 0xFFFFFFFF⟩,
  ⟨0x0606, 0x10, 4, 0, 1, 32, .rw, 0x0, .stopped, .any, 0xFFFFFFFF⟩,
  ⟨0x0607, 0x10, 4, 0, 1, 32, .rw, 0x10000, .stopped, .range 1 4294967295, 0xFFFFFFFF⟩,
  ⟨0x0608, 0x10, 4, 0, 1, 8, .rw, 0x20, .stopped, .range 0 64, 0xFF⟩,
  ⟨0x0640, 0x1, 6, 0, 1, 32, .ro, 0x0, .live, .any, 0xFFFFFFFF⟩]

def protDefs0 : List PDef := [
  ⟨0x1200, 0x40, 4, 0, 1, 8, .rw, 0x8, .live, .range 1 255, 0xFF⟩,
  ⟨0x1201, 0x40, 4, 0, 1, 8, .ro, 0x0, .live, .any, 0xFF⟩,
  ⟨0x1202, 0x40, 4, 0, 1, 32, .w1cCnt, 0x0, .live, .any, 0xFFFFFFFF⟩,
  ⟨0x1203, 0x40, 4, 0, 1, 32, .w1cCnt, 0x0, .live, .any, 0xFFFFFFFF⟩,
  ⟨0x1204, 0x40, 4, 0, 1, 8, .ro, 0x0, .live, .any, 0xFF⟩,
  ⟨0x1207, 0x0, 1, 0, 1, 10, .rw, 0x14, .live, .range 0 1000, 0x3FF⟩,
  ⟨0x1245, 0x0, 1, 0, 1, 2, .rw, 0x2, .live, .any, 0x3⟩,
  ⟨0x1246, 0x0, 1, 0, 1, 9, .rw, 0x28, .stopped, .range 20 400, 0x1FF⟩,
  ⟨0x12C8, 0x0, 1, 0, 1, 32, .rw, 0x0, .live, .any, 0xFFFFFFFF⟩,
  ⟨0x12C9, 0x0, 1, 0, 1, 32, .rw, 0x0, .live, .any, 0xFFFFFFFF⟩,
  ⟨0x1210, 0x40, 3, 6, 8, 10, .rw, 0x0, .stopped, .any, 0x3FF⟩,
  ⟨0x12D0, 0x6, 2, 0, 1, 10, .rw, 0x0, .stopped, .any, 0x3FF⟩,
  ⟨0x1211, 0x40, 3, 6, 8, 32, .rw, 0x7FFFFFFF, .live, .any, 0xFFFFFFFF⟩,
  ⟨0x12D1, 0x6, 2, 0, 1, 32, .rw, 0x7FFFFFFF, .live, .any, 0xFFFFFFFF⟩,
  ⟨0x1212, 0x40, 3, 6, 8, 32, .rw, 0x80000000, .live, .any, 0xFFFFFFFF⟩,
  ⟨0x12D2, 0x6, 2, 0, 1, 32, .rw, 0x80000000, .live, .any, 0xFFFFFFFF⟩,
  ⟨0x1213, 0x40, 3, 6, 8, 32, .rw, 0x0, .live, .any, 0xFFFFFFFF⟩,
  ⟨0x12D3, 0x6, 2, 0, 1, 32, .rw, 0x0, .live, .any, 0xFFFFFFFF⟩,
  ⟨0x1214, 0x40, 3, 6, 8, 22, .rw, 0x0, .live, .any, 0x33FFFF⟩,
  ⟨0x12D4, 0x6, 2, 0, 1, 22, .rw, 0x0, .live, .any, 0x33FFFF⟩,
  ⟨0x1215, 0x40, 3, 6, 8, 32, .w1cCnt, 0x0, .live, .any, 0xFFFFFFFF⟩,
  ⟨0x12D5, 0x6, 2, 0, 1, 32, .w1cCnt, 0x0, .live, .any, 0xFFFFFFFF⟩,
  ⟨0x12E0, 0x0, 1, 0, 1, 8, .rw, 0x0, .live, .range 0 200, 0xFF⟩,
  ⟨0x12E1, 0x0, 1, 0, 1, 8, .rw, 0x3, .live, .range 1 255, 0xFF⟩,
  ⟨0x12E2, 0x0, 1, 0, 1, 2, .rw, 0x0, .live, .any, 0x3⟩,
  ⟨0x12E3, 0x0, 1, 0, 1, 10, .w1cBits, 0x0, .live, .any, 0x3FF⟩,
  ⟨0x12E4, 0x0, 1, 0, 1, 32, .rw, 0x3C0000, .live, .any, 0xFFFFFFFF⟩,
  ⟨0x12E5, 0x0, 1, 0, 1, 2, .rw, 0x0, .live, .codes 3, 0x3⟩,
  ⟨0x12E6, 0x0, 1, 0, 1, 32, .rw, 0x0, .live, .any, 0xFFFFFFFF⟩,
  ⟨0x12E7, 0x0, 1, 0, 1, 32, .rw, 0x0, .live, .any, 0xFFFFFFFF⟩,
  ⟨0x12E8, 0x0, 1, 0, 1, 8, .rw, 0x0, .live, .any, 0xFF⟩,
  ⟨0x12E9, 0x0, 1, 0, 1, 7, .rw, 0x0, .live, .any, 0x7F⟩,
  ⟨0x12EA, 0x0, 1, 0, 1, 16, .rw, 0xC8, .live, .range 1 65535, 0xFFFF⟩,
  ⟨0x12EB, 0x0, 1, 0, 1, 16, .rw, 0xC8, .live, .any, 0xFFFF⟩,
  ⟨0x12EC, 0x0, 1, 0, 1, 16, .rw, 0x28, .live, .any, 0xFFFF⟩,
  ⟨0x12ED, 0x0, 1, 0, 1, 1, .wo, 0x0, .live, .any, 0x1⟩]

def modDefs0 : List PDef := [
  ⟨0x0B00, 0x100, 4, 0, 1, 20, .rw, 0x61A8, .boundary, .any, 0xFFFFF⟩,
  ⟨0x0B01, 0x100, 4, 0, 1, 2, .rw, 0x0, .boundary, .codes 3, 0x3⟩,
  ⟨0x0B02, 0x100, 4, 0, 1, 1, .rw, 0x0, .stopped, .any, 0x1⟩,
  ⟨0x0B03, 0x100, 4, 0, 1, 1, .rw, 0x0, .stopped, .any, 0x1⟩,
  ⟨0x0B04, 0x100, 4, 0, 1, 20, .rw, 0x0, .boundary, .any, 0xFFFFF⟩,
  ⟨0x0B05, 0x100, 4, 0, 1, 8, .rw, 0x0, .boundary, .any, 0xFF⟩,
  ⟨0x0B06, 0x100, 4, 0, 1, 1, .rw, 0x1, .boundary, .any, 0x1⟩,
  ⟨0x0B07, 0x100, 4, 0, 1, 1, .rw, 0x0, .boundary, .any, 0x1⟩,
  ⟨0x0B08, 0x100, 4, 0, 1, 2, .rw, 0x2, .live, .range 1 3, 0x3⟩,
  ⟨0x0B09, 0x100, 4, 0, 1, 16, .rw, 0x64, .live, .range 1 65535, 0xFFFF⟩,
  ⟨0x0B0A, 0x100, 4, 0, 1, 16, .rw, 0x666, .live, .range 0 32768, 0xFFFF⟩,
  ⟨0x0B0B, 0x100, 4, 0, 1, 8, .rw, 0x8, .live, .range 1 255, 0xFF⟩,
  ⟨0x0B0C, 0x100, 4, 0, 1, 16, .rw, 0x50, .boundary, .range 8 65535, 0xFFFF⟩,
  ⟨0x0B0D, 0x100, 4, 0, 1, 8, .w1cBits, 0x0, .live, .any, 0xFF⟩,
  ⟨0x0B0E, 0x100, 4, 0, 1, 32, .w1cCnt, 0x0, .live, .any, 0xFFFFFFFF⟩,
  ⟨0x0B0F, 0x100, 4, 0, 1, 32, .w1cCnt, 0x0, .live, .any, 0xFFFFFFFF⟩,
  ⟨0x0B10, 0x100, 4, 0, 1, 32, .w1cCnt, 0x0, .live, .any, 0xFFFFFFFF⟩,
  ⟨0x0B11, 0x100, 4, 0, 1, 32, .w1cCnt, 0x0, .live, .any, 0xFFFFFFFF⟩,
  ⟨0x0B12, 0x100, 4, 0, 1, 16, .ro, 0x0, .live, .any, 0xFFFF⟩,
  ⟨0x0B20, 0x100, 4, 0, 1, 20, .rw, 0x30D4, .live, .range 2000 200000, 0xFFFFF⟩,
  ⟨0x0B21, 0x100, 4, 1, 18, 32, .rw, 0x300000, .live, .any, 0x3FFFFF⟩,
  ⟨0x0B33, 0x100, 4, 0, 1, 1, .wo, 0x0, .live, .any, 0x1⟩,
  ⟨0x0B40, 0x100, 4, 0, 1, 12, .rw, 0x0, .boundary, .any, 0xFFF⟩,
  ⟨0x0B41, 0x100, 4, 0, 1, 3, .rw, 0x0, .live, .any, 0x7⟩,
  ⟨0x0B42, 0x100, 4, 0, 1, 32, .rw, 0x0, .boundary, .any, 0xFFFFFFFF⟩,
  ⟨0x0B48, 0x100, 4, 2, 8, 32, .rw, 0x0, .boundary, .any, 0xFFFFFFFF⟩,
  ⟨0x0B49, 0x100, 4, 2, 8, 4, .rw, 0x0, .boundary, .any, 0xF⟩]

def gfmDefs0 : List PDef := [
  ⟨0x1300, 0x0, 1, 0, 1, 16, .rw, 0x0, .stopped, .range 100 4000, 0xFFFF⟩,
  ⟨0x1301, 0x0, 1, 0, 1, 16, .rw, 0x0, .stopped, .range 100 1200, 0xFFFF⟩,
  ⟨0x1302, 0x0, 1, 0, 1, 1, .rw, 0x0, .stopped, .any, 0x1⟩,
  ⟨0x1303, 0x0, 1, 0, 1, 1, .rw, 0x0, .boundary, .any, 0x1⟩,
  ⟨0x1304, 0x0, 1, 0, 1, 10, .ro, 0x0, .live, .any, 0x3FF⟩,
  ⟨0x1305, 0x0, 1, 0, 1, 5, .w1cBits, 0x0, .live, .any, 0x1F⟩,
  ⟨0x1306, 0x0, 1, 0, 1, 16, .rw, 0x0, .boundary, .srange (-24576) 24576, 0xFFFF⟩,
  ⟨0x1307, 0x0, 1, 0, 1, 16, .rw, 0x0, .boundary, .srange (-16384) 16384, 0xFFFF⟩,
  ⟨0x1308, 0x0, 1, 0, 1, 16, .rw, 0x4000, .boundary, .range 13108 19660, 0xFFFF⟩,
  ⟨0x1309, 0x0, 1, 0, 1, 32, .rw, 0x320000, .boundary, .any, 0xFFFFFFFF⟩,
  ⟨0x130A, 0x0, 1, 0, 1, 16, .rw, 0x100, .boundary, .range 3 25600, 0xFFFF⟩,
  ⟨0x130B, 0x0, 1, 0, 1, 16, .rw, 0x5000, .boundary, .range 2048 49152, 0xFFFF⟩,
  ⟨0x130C, 0x0, 1, 0, 1, 16, .ro, 0x0, .live, .any, 0xFFFF⟩,
  ⟨0x130D, 0x0, 1, 0, 1, 16, .rw, 0x1400, .boundary, .range 0 51200, 0xFFFF⟩,
  ⟨0x130E, 0x0, 1, 0, 1, 16, .rw, 0x400, .boundary, .range 128 5120, 0xFFFF⟩,
  ⟨0x130F, 0x0, 1, 0, 1, 16, .rw, 0x400, .boundary, .range 0 5120, 0xFFFF⟩,
  ⟨0x1310, 0x0, 1, 0, 1, 16, .rw, 0x3E8, .boundary, .range 0 20000, 0xFFFF⟩,
  ⟨0x1311, 0x0, 1, 0, 1, 16, .rw, 0x148, .boundary, .range 0 8192, 0xFFFF⟩,
  ⟨0x1312, 0x0, 1, 0, 1, 16, .rw, 0x99A, .boundary, .range 0 8192, 0xFFFF⟩,
  ⟨0x1313, 0x0, 1, 0, 1, 2, .rw, 0x1, .boundary, .codes 3, 0x3⟩,
  ⟨0x1314, 0x0, 1, 0, 1, 16, .rw, 0x32, .boundary, .range 0 1000, 0xFFFF⟩,
  ⟨0x1315, 0x0, 1, 0, 1, 16, .rw, 0x1333, .boundary, .range 0 16384, 0xFFFF⟩,
  ⟨0x1316, 0x0, 1, 0, 1, 8, .rw, 0x14, .boundary, .range 5 100, 0xFF⟩,
  ⟨0x1317, 0x0, 1, 0, 1, 8, .rw, 0x1E, .boundary, .range 5 200, 0xFF⟩,
  ⟨0x1318, 0x0, 1, 0, 1, 16, .rw, 0x3E8, .boundary, .range 10 5000, 0xFFFF⟩,
  ⟨0x1319, 0x0, 1, 0, 1, 8, .rw, 0x3C, .boundary, .range 10 90, 0xFF⟩,
  ⟨0x131A, 0x0, 1, 0, 1, 8, .rw, 0x14, .boundary, .range 1 255, 0xFF⟩,
  ⟨0x131B, 0x0, 1, 0, 1, 16, .rw, 0x3666, .boundary, .range 8192 15564, 0xFFFF⟩,
  ⟨0x131C, 0x0, 1, 0, 1, 16, .rw, 0x148, .boundary, .range 0 1638, 0xFFFF⟩,
  ⟨0x131D, 0x0, 1, 0, 1, 16, .rw, 0x200, .boundary, .range 26 25600, 0xFFFF⟩,
  ⟨0x131E, 0x0, 1, 0, 1, 2, .rw, 0x0, .boundary, .codes 3, 0x3⟩,
  ⟨0x1320, 0x0, 1, 0, 1, 16, .rw, 0x0, .boundary, .any, 0xFFFF⟩,
  ⟨0x1321, 0x0, 1, 0, 1, 16, .rw, 0x96, .boundary, .any, 0xFFFF⟩,
  ⟨0x1322, 0x0, 1, 0, 1, 16, .rw, 0x5DC, .boundary, .any, 0xFFFF⟩,
  ⟨0x1323, 0x0, 1, 0, 1, 16, .rw, 0xBB8, .boundary, .any, 0xFFFF⟩,
  ⟨0x1324, 0x0, 1, 0, 1, 16, .rw, 0x0, .boundary, .any, 0xFFFF⟩,
  ⟨0x1325, 0x0, 1, 0, 1, 16, .rw, 0x0, .boundary, .any, 0xFFFF⟩,
  ⟨0x1326, 0x0, 1, 0, 1, 16, .rw, 0x3666, .boundary, .any, 0xFFFF⟩,
  ⟨0x1327, 0x0, 1, 0, 1, 16, .rw, 0x3666, .boundary, .any, 0xFFFF⟩,
  ⟨0x1328, 0x0, 1, 0, 1, 8, .rw, 0xA, .boundary, .range 2 90, 0xFF⟩]

def gfmDefs1 : List PDef := [
  ⟨0x1329, 0x0, 1, 0, 1, 16, .rw, 0x3E8, .boundary, .range 100 10000, 0xFFFF⟩,
  ⟨0x132A, 0x0, 1, 0, 1, 1, .rw, 0x1, .boundary, .any, 0x1⟩,
  ⟨0x132B, 0x0, 1, 0, 1, 1, .rw, 0x0, .stopped, .any, 0x1⟩,
  ⟨0x132C, 0x0, 1, 0, 1, 1, .rw, 0x0, .boundary, .any, 0x1⟩,
  ⟨0x132D, 0x0, 1, 0, 1, 16, .rw, 0x1F4, .boundary, .range 100 60000, 0xFFFF⟩,
  ⟨0x132E, 0x0, 1, 0, 1, 32, .rw, 0x0, .stopped, .any, 0xFFFFFFFF⟩,
  ⟨0x132F, 0x0, 1, 0, 1, 16, .rw, 0x200, .boundary, .range 64 15360, 0xFFFF⟩,
  ⟨0x1330, 0x0, 1, 0, 1, 16, .rw, 0x64, .boundary, .range 10 1000, 0xFFFF⟩,
  ⟨0x1331, 0x0, 1, 0, 1, 16, .rw, 0x32, .boundary, .range 1 1000, 0xFFFF⟩,
  ⟨0x1332, 0x0, 1, 0, 1, 16, .rw, 0xC8, .boundary, .range 10 1000, 0xFFFF⟩,
  ⟨0x1333, 0x0, 1, 0, 1, 16, .rw, 0x32, .boundary, .range 5 200, 0xFFFF⟩,
  ⟨0x1334, 0x0, 1, 0, 1, 8, .rw, 0x5, .boundary, .range 1 30, 0xFF⟩,
  ⟨0x1335, 0x0, 1, 0, 1, 16, .rw, 0x50, .boundary, .range 0 1000, 0xFFFF⟩,
  ⟨0x1336, 0x0, 1, 0, 1, 16, .rw, 0x3C, .boundary, .range 1 3600, 0xFFFF⟩,
  ⟨0x1337, 0x0, 1, 0, 1, 16, .rw, 0x7D0, .boundary, .range 0 60000, 0xFFFF⟩,
  ⟨0x1338, 0x0, 1, 0, 1, 8, .rw, 0x5, .boundary, .range 1 90, 0xFF⟩,
  ⟨0x1339, 0x0, 1, 0, 1, 16, .rw, 0x32, .boundary, .range 1 1000, 0xFFFF⟩,
  ⟨0x133A, 0x0, 1, 0, 1, 8, .rw, 0x14, .boundary, .range 1 255, 0xFF⟩,
  ⟨0x133B, 0x0, 1, 0, 1, 1, .rw, 0x1, .boundary, .any, 0x1⟩,
  ⟨0x133C, 0x0, 1, 0, 1, 16, .rw, 0x14, .boundary, .range 1 1000, 0xFFFF⟩,
  ⟨0x1340, 0x0, 1, 0, 1, 16, .ro, 0x0, .live, .any, 0xFFFF⟩,
  ⟨0x1341, 0x0, 1, 0, 1, 32, .ro, 0x0, .live, .any, 0xFFFFFFFF⟩,
  ⟨0x1342, 0x0, 1, 0, 1, 16, .ro, 0x0, .live, .any, 0xFFFF⟩,
  ⟨0x1343, 0x0, 1, 0, 1, 16, .ro, 0x0, .live, .any, 0xFFFF⟩,
  ⟨0x1344, 0x0, 1, 0, 1, 16, .ro, 0x0, .live, .any, 0xFFFF⟩,
  ⟨0x1345, 0x0, 1, 0, 1, 32, .ro, 0x0, .live, .any, 0xFFFFFFFF⟩,
  ⟨0x1346, 0x0, 1, 0, 1, 16, .ro, 0x0, .live, .any, 0xFFFF⟩,
  ⟨0x1347, 0x0, 1, 0, 1, 16, .ro, 0x0, .live, .any, 0xFFFF⟩]

def msdDefs0 : List PDef := [
  ⟨0x1400, 0x0, 1, 0, 1, 1, .rw, 0x0, .boundary, .any, 0x1⟩,
  ⟨0x1401, 0x0, 1, 0, 1, 1, .rw, 0x0, .stopped, .any, 0x1⟩,
  ⟨0x1402, 0x0, 1, 0, 1, 2, .rw, 0x0, .boundary, .codes 3, 0x3⟩,
  ⟨0x1403, 0x0, 1, 0, 1, 4, .rw, 0x2, .stopped, .range 1 15, 0xF⟩,
  ⟨0x1404, 0x0, 1, 0, 1, 16, .rw, 0x0, .stopped, .any, 0xFFFF⟩,
  ⟨0x1405, 0x0, 1, 0, 1, 16, .rw, 0x0, .stopped, .any, 0xFFFF⟩,
  ⟨0x1406, 0x0, 1, 0, 1, 16, .rw, 0x0, .stopped, .any, 0xFFFF⟩,
  ⟨0x1407, 0x0, 1, 0, 1, 16, .rw, 0x0, .stopped, .any, 0xFFFF⟩,
  ⟨0x1408, 0x0, 1, 0, 1, 32, .rw, 0x0, .stopped, .any, 0xFFFFFFFF⟩,
  ⟨0x1409, 0x0, 1, 0, 1, 16, .rw, 0x0, .stopped, .any, 0xFFFF⟩,
  ⟨0x140A, 0x0, 1, 0, 1, 16, .rw, 0x0, .stopped, .any, 0xFFFF⟩,
  ⟨0x140B, 0x0, 1, 0, 1, 32, .rw, 0x15555555, .stopped, .any, 0xFFFFFFFF⟩,
  ⟨0x140C, 0x0, 1, 0, 1, 16, .rw, 0x0, .boundary, .any, 0xFFFF⟩,
  ⟨0x140D, 0x0, 1, 0, 1, 16, .rw, 0x0, .stopped, .range 1 32767, 0xFFFF⟩,
  ⟨0x140E, 0x0, 1, 0, 1, 16, .rw, 0x64, .boundary, .range 1 10000, 0xFFFF⟩,
  ⟨0x140F, 0x0, 1, 0, 1, 16, .rw, 0x800, .boundary, .range 0 5120, 0xFFFF⟩,
  ⟨0x1410, 0x0, 1, 0, 1, 16, .rw, 0x80, .boundary, .range 0 1280, 0xFFFF⟩,
  ⟨0x1411, 0x0, 1, 0, 1, 16, .rw, 0x0, .boundary, .any, 0xFFFF⟩,
  ⟨0x1412, 0x0, 1, 0, 1, 16, .rw, 0x0, .boundary, .any, 0xFFFF⟩,
  ⟨0x1413, 0x0, 1, 0, 1, 16, .rw, 0x0, .boundary, .range 0 1500, 0xFFFF⟩,
  ⟨0x1414, 0x0, 1, 0, 1, 16, .rw, 0x0, .stopped, .any, 0xFFFF⟩,
  ⟨0x1415, 0x0, 1, 0, 1, 8, .rw, 0x32, .boundary, .range 5 200, 0xFF⟩,
  ⟨0x1416, 0x0, 1, 0, 1, 16, .rw, 0x1400, .boundary, .range 256 65280, 0xFFFF⟩,
  ⟨0x1417, 0x0, 1, 0, 1, 16, .rw, 0xC8, .boundary, .any, 0xFFFF⟩,
  ⟨0x1418, 0x0, 1, 0, 1, 16, .rw, 0x1F4, .boundary, .range 10 60000, 0xFFFF⟩,
  ⟨0x1419, 0x0, 1, 0, 1, 16, .rw, 0x9C4, .boundary, .range 100 5000, 0xFFFF⟩,
  ⟨0x141A, 0x0, 1, 0, 1, 16, .rw, 0x3E8, .boundary, .range 100 10000, 0xFFFF⟩,
  ⟨0x141B, 0x0, 1, 0, 1, 16, .rw, 0x0, .live, .any, 0xFFFF⟩,
  ⟨0x141C, 0x0, 1, 0, 1, 2, .rw, 0x0, .live, .codes 3, 0x3⟩,
  ⟨0x141D, 0x0, 1, 0, 1, 16, .rw, 0x1E0, .boundary, .any, 0xFFFF⟩,
  ⟨0x141E, 0x0, 1, 0, 1, 16, .rw, 0x190, .boundary, .any, 0xFFFF⟩,
  ⟨0x141F, 0x0, 1, 0, 1, 16, .rw, 0x0, .boundary, .any, 0xFFFF⟩,
  ⟨0x1420, 0x0, 1, 0, 1, 16, .rw, 0xA, .boundary, .range 1 1000, 0xFFFF⟩,
  ⟨0x1421, 0x0, 1, 0, 1, 1, .rw, 0x0, .boundary, .any, 0x1⟩,
  ⟨0x1422, 0x0, 1, 0, 1, 1, .rw, 0x0, .stopped, .any, 0x1⟩,
  ⟨0x1423, 0x0, 1, 0, 1, 16, .rw, 0x7C29, .boundary, .any, 0xFFFF⟩,
  ⟨0x1424, 0x0, 1, 0, 1, 16, .rw, 0x75C3, .boundary, .any, 0xFFFF⟩,
  ⟨0x1425, 0x0, 1, 0, 1, 16, .rw, 0x200, .boundary, .any, 0xFFFF⟩,
  ⟨0x1426, 0x0, 1, 0, 1, 8, .ro, 0x0, .live, .any, 0xFF⟩,
  ⟨0x1427, 0x0, 1, 0, 1, 5, .w1cBits, 0x0, .live, .any, 0x1F⟩]

def msdDefs1 : List PDef := [
  ⟨0x1428, 0x0, 1, 0, 1, 32, .ro, 0x0, .live, .any, 0xFFFFFFFF⟩,
  ⟨0x1429, 0x0, 1, 0, 1, 32, .ro, 0x0, .live, .any, 0xFFFFFFFF⟩,
  ⟨0x142A, 0x0, 1, 0, 1, 32, .ro, 0x0, .live, .any, 0xFFFFFFFF⟩,
  ⟨0x142B, 0x0, 1, 0, 1, 16, .ro, 0x0, .live, .any, 0xFFFF⟩,
  ⟨0x1430, 0x4, 2, 0, 1, 1, .rw, 0x0, .stopped, .any, 0x1⟩,
  ⟨0x1431, 0x4, 2, 0, 1, 16, .rw, 0x0, .stopped, .any, 0xFFFF⟩,
  ⟨0x1432, 0x4, 2, 0, 1, 2, .rw, 0x0, .stopped, .codes 3, 0x3⟩,
  ⟨0x1433, 0x4, 2, 0, 1, 32, .rw, 0x0, .stopped, .any, 0xFFFFFFFF⟩]

def timeDefs0 : List PDef := [
  ⟨0x0200, 0x0, 1, 0, 1, 32, .ro, 0x0, .live, .any, 0xFFFFFFFF⟩,
  ⟨0x0201, 0x0, 1, 0, 1, 32, .ro, 0x0, .live, .any, 0xFFFFFFFF⟩,
  ⟨0x0202, 0x0, 1, 0, 1, 32, .ro, 0x0, .live, .any, 0xFFFFFFFF⟩,
  ⟨0x0203, 0x0, 1, 0, 1, 32, .ro, 0x0, .live, .any, 0xFFFFFFFF⟩,
  ⟨0x0204, 0x0, 1, 0, 1, 16, .ro, 0x0, .live, .any, 0xFFFF⟩,
  ⟨0x0205, 0x0, 1, 0, 1, 32, .ro, 0x0, .live, .any, 0xFFFFFFFF⟩,
  ⟨0x0206, 0x0, 1, 0, 1, 32, .ro, 0x0, .live, .any, 0xFFFFFFFF⟩,
  ⟨0x0207, 0x0, 1, 0, 1, 14, .ro, 0x0, .live, .any, 0x3FFF⟩,
  ⟨0x0208, 0x0, 1, 0, 1, 32, .ro, 0x0, .live, .any, 0xFFFFFFFF⟩,
  ⟨0x0209, 0x0, 1, 0, 1, 32, .ro, 0x0, .live, .any, 0xFFFFFFFF⟩,
  ⟨0x020A, 0x0, 1, 0, 1, 1, .wo, 0x0, .live, .any, 0x1⟩,
  ⟨0x0210, 0x0, 1, 0, 1, 32, .rw, 0xF4240, .live, .range 1000 100000000, 0xFFFFFFFF⟩,
  ⟨0x0211, 0x0, 1, 0, 1, 16, .rw, 0xC8, .live, .range 1 500, 0xFFFF⟩,
  ⟨0x0212, 0x0, 1, 0, 1, 9, .ro, 0x0, .live, .any, 0x1FF⟩,
  ⟨0x0213, 0x0, 1, 0, 1, 8, .w1cBits, 0x0, .live, .any, 0xFF⟩,
  ⟨0x0214, 0x0, 1, 0, 1, 32, .ro, 0x0, .live, .any, 0xFFFFFFFF⟩,
  ⟨0x0215, 0x0, 1, 0, 1, 32, .ro, 0xFFFFFFFF, .live, .any, 0xFFFFFFFF⟩,
  ⟨0x0216, 0x0, 1, 0, 1, 32, .ro, 0x0, .live, .any, 0xFFFFFFFF⟩,
  ⟨0x0217, 0x0, 1, 0, 1, 32, .ro, 0x0, .live, .any, 0xFFFFFFFF⟩,
  ⟨0x0218, 0x0, 1, 0, 1, 32, .w1cCnt, 0x0, .live, .any, 0xFFFFFFFF⟩,
  ⟨0x0220, 0x4, 16, 0, 1, 3, .rw, 0x0, .live, .any, 0x7⟩,
  ⟨0x0221, 0x4, 16, 0, 1, 32, .rw, 0x0, .live, .any, 0xFFFFFFFF⟩,
  ⟨0x0222, 0x4, 16, 0, 1, 16, .rw, 0x0, .live, .any, 0xFFFF⟩,
  ⟨0x0223, 0x4, 16, 0, 1, 3, .w1cBits, 0x0, .live, .any, 0x7⟩]

def netDefs0 : List PDef := [
  ⟨0x0300, 0x0, 1, 0, 1, 2, .rw, 0x3, .live, .any, 0x3⟩,
  ⟨0x0301, 0x0, 1, 0, 1, 7, .rw, 0x0, .live, .any, 0x7F⟩,
  ⟨0x0302, 0x0, 1, 0, 1, 1, .rw, 0x0, .live, .any, 0x1⟩,
  ⟨0x0303, 0x0, 1, 0, 1, 1, .rw, 0x0, .live, .any, 0x1⟩,
  ⟨0x0304, 0x0, 1, 0, 1, 1, .rw, 0x0, .live, .any, 0x1⟩,
  ⟨0x0305, 0x0, 1, 0, 1, 1, .rw, 0x0, .live, .any, 0x1⟩,
  ⟨0x0306, 0x0, 1, 0, 1, 8, .rw, 0x80, .live, .any, 0xFF⟩,
  ⟨0x0307, 0x0, 1, 0, 1, 8, .rw, 0x80, .live, .any, 0xFF⟩,
  ⟨0x0308, 0x0, 1, 0, 1, 1, .rw, 0x1, .live, .any, 0x1⟩,
  ⟨0x0309, 0x0, 1, 0, 1, 8, .rw, 0xFD, .live, .srange (-7) 0, 0xFF⟩,
  ⟨0x030A, 0x0, 1, 0, 1, 8, .rw, 0x0, .live, .srange (-3) 3, 0xFF⟩,
  ⟨0x030B, 0x0, 1, 0, 1, 16, .rw, 0x96, .live, .range 20 10000, 0xFFFF⟩,
  ⟨0x0340, 0x10, 2, 0, 1, 32, .rw, 0x0, .live, .srange (-1000000) 1000000, 0xFFFFFFFF⟩,
  ⟨0x0341, 0x10, 2, 0, 1, 32, .rw, 0x2710, .live, .range 0 1000000, 0xFFFFFFFF⟩,
  ⟨0x0342, 0x10, 2, 0, 1, 1, .rw, 0x1, .live, .any, 0x1⟩,
  ⟨0x0343, 0x10, 2, 0, 1, 8, .rw, 0xFF, .live, .any, 0xFF⟩,
  ⟨0x0344, 0x10, 2, 0, 1, 32, .ro, 0x0, .live, .any, 0xFFFFFFFF⟩,
  ⟨0x0345, 0x10, 2, 0, 1, 32, .w1cCnt, 0x0, .live, .any, 0xFFFFFFFF⟩,
  ⟨0x0320, 0x2, 4, 0, 1, 32, .rw, 0x0, .live, .any, 0xFFFFFFFF⟩,
  ⟨0x0321, 0x2, 4, 0, 1, 6, .rw, 0x20, .live, .range 1 32, 0x3F⟩,
  ⟨0x0328, 0x2, 4, 0, 1, 32, .rw, 0x0, .live, .any, 0xFFFFFFFF⟩,
  ⟨0x0329, 0x2, 4, 0, 1, 6, .rw, 0x20, .live, .range 1 32, 0x3F⟩,
  ⟨0x0330, 0x0, 1, 0, 1, 32, .rw, 0x0, .live, .any, 0xFFFFFFFF⟩,
  ⟨0x0331, 0x0, 1, 0, 1, 2, .rw, 0x3, .live, .any, 0x3⟩,
  ⟨0x0332, 0x1, 4, 0, 1, 32, .rw, 0x0, .live, .any, 0xFFFFFFFF⟩]

def acqDefs0 : List PDef := [
  ⟨0x1500, 0x0, 1, 0, 1, 3, .rw, 0x0, .live, .any, 0x7⟩,
  ⟨0x1501, 0x0, 1, 0, 1, 8, .rw, 0x1, .live, .range 1 255, 0xFF⟩,
  ⟨0x1502, 0x0, 1, 0, 1, 2, .rw, 0x0, .live, .any, 0x3⟩,
  ⟨0x1503, 0x0, 1, 0, 1, 32, .rw, 0x0, .live, .any, 0xFFFFFFFF⟩,
  ⟨0x1504, 0x0, 1, 0, 1, 32, .rw, 0x10000, .live, .range 1 4294967295, 0xFFFFFFFF⟩,
  ⟨0x1505, 0x0, 1, 0, 1, 32, .rw, 0x0, .live, .any, 0xFFFFFFFF⟩,
  ⟨0x1506, 0x0, 1, 0, 1, 24, .ro, 0x0, .live, .any, 0xFFFFFF⟩,
  ⟨0x1507, 0x0, 1, 0, 1, 6, .w1cBits, 0x0, .live, .any, 0x3F⟩,
  ⟨0x1508, 0x0, 1, 0, 1, 8, .rw, 0x1, .live, .range 1 255, 0xFF⟩,
  ⟨0x1509, 0x0, 1, 0, 1, 32, .w1cCnt, 0x0, .live, .any, 0xFFFFFFFF⟩,
  ⟨0x150A, 0x0, 1, 0, 1, 32, .ro, 0x0, .live, .any, 0xFFFFFFFF⟩,
  ⟨0x150B, 0x0, 1, 0, 1, 32, .w1cBits, 0x0, .live, .any, 0xFFFFFFFF⟩,
  ⟨0x1510, 0x1, 48, 0, 1, 8, .rw, 0x0, .live, .any, 0xFF⟩,
  ⟨0x1540, 0x4, 32, 0, 1, 21, .rw, 0x0, .live, .any, 0x1FFFFF⟩,
  ⟨0x1541, 0x4, 32, 0, 1, 32, .rw, 0x0, .live, .any, 0xFFFFFFFF⟩,
  ⟨0x1542, 0x4, 32, 0, 1, 32, .rw, 0x0, .live, .any, 0xFFFFFFFF⟩,
  ⟨0x1543, 0x4, 32, 0, 1, 32, .rw, 0x0, .live, .any, 0xFFFFFFFF⟩,
  ⟨0x15C0, 0x0, 1, 0, 1, 3, .rw, 0x0, .live, .any, 0x7⟩,
  ⟨0x15C1, 0x0, 1, 0, 1, 4, .rw, 0x0, .live, .any, 0xF⟩,
  ⟨0x15C2, 0x0, 1, 0, 1, 32, .rw, 0x0, .live, .any, 0xFFFFFFFF⟩,
  ⟨0x15C3, 0x0, 1, 0, 1, 32, .rw, 0x1, .live, .range 1 4294967295, 0xFFFFFFFF⟩,
  ⟨0x15C4, 0x0, 1, 0, 1, 8, .rw, 0x1, .live, .range 1 255, 0xFF⟩,
  ⟨0x15C5, 0x0, 1, 0, 1, 6, .rw, 0x0, .live, .any, 0x3F⟩,
  ⟨0x15C6, 0x0, 1, 0, 1, 2, .ro, 0x0, .live, .any, 0x3⟩,
  ⟨0x15D0, 0x1, 24, 0, 1, 17, .rw, 0x0, .live, .any, 0x1FF3F⟩,
  ⟨0x15E8, 0x0, 1, 0, 1, 32, .rw, 0x0, .live, .any, 0xFFFFFFFF⟩,
  ⟨0x15E9, 0x0, 1, 0, 1, 16, .rw, 0x3E8, .live, .any, 0xFFFF⟩,
  ⟨0x15EA, 0x0, 1, 0, 1, 16, .rw, 0x3E8, .live, .range 1 10000, 0xFFFF⟩]

def ybusDefs0 : List PDef := [
  ⟨0x0400, 0x0, 1, 0, 1, 14, .ro, 0x0, .live, .any, 0x3FFF⟩,
  ⟨0x0401, 0x0, 1, 0, 1, 32, .ro, 0x0, .live, .any, 0xFFFFFFFF⟩,
  ⟨0x0402, 0x0, 1, 0, 1, 16, .ro, 0x0, .live, .any, 0xFFFF⟩,
  ⟨0x0403, 0x0, 1, 0, 1, 20, .rw, 0x0, .live, .any, 0xFFFFF⟩,
  ⟨0x0404, 0x0, 1, 0, 1, 1, .wo, 0x0, .live, .any, 0x1⟩,
  ⟨0x0405, 0x0, 1, 0, 1, 5, .w1cBits, 0x0, .live, .any, 0x1F⟩]

def redDefs0 : List PDef := [
  ⟨0x1600, 0x0, 1, 0, 1, 2, .rw, 0x0, .reset, .codes 3, 0x3⟩,
  ⟨0x1601, 0x0, 1, 0, 1, 11, .ro, 0x0, .live, .any, 0x7FF⟩,
  ⟨0x1602, 0x0, 1, 0, 1, 12, .w1cBits, 0x0, .live, .any, 0xFFF⟩,
  ⟨0x1603, 0x0, 1, 0, 1, 3, .wo, 0x0, .live, .any, 0x7⟩,
  ⟨0x1604, 0x0, 1, 0, 1, 16, .rw, 0x0, .live, .any, 0xFFFF⟩,
  ⟨0x1605, 0x0, 1, 0, 1, 1, .rw, 0x0, .live, .any, 0x1⟩,
  ⟨0x1606, 0x0, 1, 0, 1, 1, .rw, 0x0, .live, .any, 0x1⟩,
  ⟨0x1607, 0x0, 1, 0, 1, 16, .rw, 0x64, .live, .range 1 1000, 0xFFFF⟩,
  ⟨0x1608, 0x0, 1, 0, 1, 16, .rw, 0x14, .live, .range 0 1000, 0xFFFF⟩,
  ⟨0x1609, 0x0, 1, 0, 1, 32, .ro, 0x0, .live, .any, 0xFFFFFFFF⟩,
  ⟨0x160A, 0x0, 1, 0, 1, 32, .ro, 0x0, .live, .any, 0xFFFFFFFF⟩,
  ⟨0x160B, 0x0, 1, 0, 1, 16, .ro, 0x0, .live, .any, 0xFFFF⟩,
  ⟨0x160C, 0x0, 1, 0, 1, 32, .w1cCnt, 0x0, .live, .any, 0xFFFFFFFF⟩,
  ⟨0x160D, 0x0, 1, 0, 1, 32, .w1cCnt, 0x0, .live, .any, 0xFFFFFFFF⟩,
  ⟨0x160E, 0x0, 1, 0, 1, 32, .w1cCnt, 0x0, .live, .any, 0xFFFFFFFF⟩,
  ⟨0x1620, 0x0, 1, 0, 1, 32, .rw, 0x0, .stopped, .any, 0xFFFFFFFF⟩,
  ⟨0x1621, 0x0, 1, 0, 1, 5, .rw, 0x1, .live, .range 1 16, 0x1F⟩,
  ⟨0x1622, 0x0, 1, 0, 1, 32, .rw, 0x0, .live, .any, 0xFFFFFFFF⟩,
  ⟨0x1623, 0x0, 1, 0, 1, 16, .rw, 0x64, .live, .range 10 1000, 0xFFFF⟩,
  ⟨0x1624, 0x1, 4, 0, 1, 32, .ro, 0x0, .live, .any, 0xFFFFFFFF⟩,
  ⟨0x1628, 0x0, 1, 0, 1, 16, .ro, 0x0, .live, .any, 0xFFFF⟩,
  ⟨0x1629, 0x0, 1, 0, 1, 16, .ro, 0x0, .live, .any, 0xFFFF⟩,
  ⟨0x162A, 0x0, 1, 0, 1, 6, .w1cBits, 0x0, .live, .any, 0x3F⟩]

def fwDefs0 : List PDef := [
  ⟨0x1700, 0x0, 1, 0, 1, 2, .ro, 0x1, .live, .any, 0x3⟩,
  ⟨0x1701, 0x0, 1, 0, 1, 13, .ro, 0x0, .live, .any, 0x1FFF⟩,
  ⟨0x1702, 0x0, 1, 0, 1, 32, .ro, 0x0, .live, .any, 0xFFFFFFFF⟩,
  ⟨0x1703, 0x0, 1, 0, 1, 32, .ro, 0x0, .live, .any, 0xFFFFFFFF⟩,
  ⟨0x1704, 0x0, 1, 0, 1, 16, .ro, 0x0, .live, .any, 0xFFFF⟩,
  ⟨0x1705, 0x0, 1, 0, 1, 1, .wo, 0x0, .live, .any, 0x1⟩,
  ⟨0x1706, 0x0, 1, 0, 1, 16, .rw, 0x258, .live, .range 0 3600, 0xFFFF⟩,
  ⟨0x1707, 0x0, 1, 0, 1, 1, .rw, 0x0, .reset, .any, 0x1⟩,
  ⟨0x1708, 0x0, 1, 0, 1, 3, .ro, 0x0, .live, .any, 0x7⟩,
  ⟨0x1709, 0x0, 1, 0, 1, 3, .ro, 0x0, .live, .any, 0x7⟩,
  ⟨0x170A, 0x0, 1, 0, 1, 8, .rw, 0xC8, .live, .range 10 250, 0xFF⟩,
  ⟨0x170B, 0x0, 1, 0, 1, 6, .w1cBits, 0x0, .live, .any, 0x3F⟩,
  ⟨0x170C, 0x0, 1, 0, 1, 32, .ro, 0x0, .live, .any, 0xFFFFFFFF⟩,
  ⟨0x170D, 0x0, 1, 0, 1, 32, .ro, 0x0, .live, .any, 0xFFFFFFFF⟩,
  ⟨0x170E, 0x0, 1, 0, 1, 12, .ro, 0xE00, .live, .any, 0xFFF⟩,
  ⟨0x1710, 0x1, 8, 0, 1, 32, .ro, 0x0, .live, .any, 0xFFFFFFFF⟩,
  ⟨0x1718, 0x1, 4, 0, 1, 32, .ro, 0x0, .live, .any, 0xFFFFFFFF⟩,
  ⟨0x1720, 0x1, 16, 0, 1, 32, .ro, 0x0, .live, .any, 0xFFFFFFFF⟩]

/-- Every row of every parameter table. -/
def allDefs : List PDef :=
  clkDefs0 ++
  measDefs0 ++
  sysDefs0 ++
  gateDefs0 ++
  ctlDefs0 ++
  ctlDefs1 ++
  rgtDefs0 ++
  protDefs0 ++
  modDefs0 ++
  gfmDefs0 ++
  gfmDefs1 ++
  msdDefs0 ++
  msdDefs1 ++
  timeDefs0 ++
  netDefs0 ++
  acqDefs0 ++
  ybusDefs0 ++
  redDefs0 ++
  fwDefs0

/-- The highest ID a row can assign. -/
def rowTop (d : PDef) : Nat := d.base + d.s1 * (d.c1 - 1) + d.s2 * (d.c2 - 1)

/-- A row assigns an ID (R429). -/
def rowCovers (d : PDef) (id : Nat) : Bool :=
  Nat.ble d.base id && Nat.ble id (rowTop d) &&
    (List.range d.c1).any fun i =>
      let r := id - d.base
      decide (d.s1 * i ≤ r) &&
        (let q := r - d.s1 * i
         if d.c2 ≤ 1 then decide (q = 0) else decide (q % d.s2 = 0) && decide (q / d.s2 < d.c2))

/-- The first row that assigns an ID. -/
def findRow : List PDef → Nat → Option PDef
  | [], _ => none
  | d :: t, id => if rowCovers d id then some d else findRow t id

/-- IDs inside a row's pattern that R161 leaves out: MOD.B holds only its status and mask rows, and PS_P rows exist below the
plane's port count. -/
def notAssigned (id : Nat) : Bool :=
  (decide (0x0E00 ≤ id) && decide (id < 0x0F00) &&
    !(decide (id = 0x0E0D) || (decide (0x0E40 ≤ id) && decide (id ≤ 0x0E57)))) ||
  (decide (0x0B2A ≤ id) && decide (id ≤ 0x0B32)) ||
  (decide (0x0D27 ≤ id) && decide (id ≤ 0x0D32))

/-- The row of a defined ID (R427), none for an undefined one. -/
def paramRow (id : Nat) : Option PDef :=
  if notAssigned id then none else findRow allDefs id

/-- The reset value of a parameter; 0 for an undefined ID. -/
def paramReset (id : Nat) : Word :=
  match paramRow id with
  | some d => BitVec.ofNat 32 d.reset
  | none => 0

end Sys2Proof.Machine
end

