-- ==== Sys2Proof/Machine/Ops.lean ====
section
/-! DEFINITION. Sys2Proof/Machine/Ops.lean: the named operations over the state: parameter words, counters, planes, ports,
events, flags and handles. Every meaning is written over these. -/

namespace Sys2Proof.Machine

/-! ## Numbers and bytes (R4, R5) -/

/-- A word of n bits read as two's complement. -/
def signedOf (n w : Nat) : Int := if w % 2 ^ n < 2 ^ (n - 1) then (w % 2 ^ n : Nat) else (w % 2 ^ n : Nat) - (2 ^ n : Nat)

/-- A number written as two's complement in n bits. -/
def toBits (n : Nat) (i : Int) : Nat := (i % (2 ^ n : Nat)).toNat

/-- Clamp to an interval. -/
def clampI (lo hi x : Int) : Int := if x < lo then lo else if hi < x then hi else x

def clampR (lo hi x : Rat) : Rat := if x < lo then lo else if hi < x then hi else x

/-- Nearest whole number, halves away from zero (R142). -/
def roundAway (x : Rat) : Int := if 0 ≤ x then (x + 1 / 2).floor else -((-x + 1 / 2).floor)

/-- The nearest step of sQ16.16, saturating (R76). -/
def toQ16 (x : Rat) : Int := clampI (-2147483648) 2147483647 (roundAway (x * 65536))

/-- The value of a raw sQ16.16 number. -/
def ofQ16 (i : Int) : Rat := (i : Rat) / 65536

/-- |x|. -/
def absR (x : Rat) : Rat := if x < 0 then -x else x

/-- n bytes of a number, least significant first (R5). -/
def le : Nat → Nat → List Byte
  | 0, _ => []
  | n + 1, w => BitVec.ofNat 8 w :: le n (w / 256)

/-- The number that bytes hold, least significant first. -/
def ofLe : List Byte → Nat
  | [] => 0
  | b :: t => b.toNat + 256 * ofLe t

/-- Bits [lo + n − 1 : lo] of a number. -/
def bits (w lo n : Nat) : Nat := w / 2 ^ lo % 2 ^ n

/-- One step of the reflected CRC-32C (R110). -/
def crcBit (c : Nat) : Nat := if c % 2 = 1 then Nat.xor (c / 2) 0x82F63B78 else c / 2

/-- One byte of the CRC-32C. -/
def crcByte (c : Nat) (b : Byte) : Nat :=
  crcBit (crcBit (crcBit (crcBit (crcBit (crcBit (crcBit (crcBit (Nat.xor c b.toNat))))))))

/-- CRC-32C with the parameters of R110. -/
def crc32c (bs : List Byte) : Nat := Nat.xor (bs.foldl crcByte 0xFFFFFFFF) 0xFFFFFFFF

/-! ## Status codes (R13) -/

abbrev stOk : Nat := 0x00
abbrev stAccepted : Nat := 0x01
abbrev stBadOpcode : Nat := 0x10
abbrev stBadLength : Nat := 0x11
abbrev stBadCrc : Nat := 0x12
abbrev stBadParam : Nat := 0x20
abbrev stReadOnly : Nat := 0x21
abbrev stWrongState : Nat := 0x22
abbrev stOutOfRange : Nat := 0x23
abbrev stBusy : Nat := 0x30
abbrev stNoHandle : Nat := 0x31
abbrev stAuthFail : Nat := 0x40
abbrev stCancelled : Nat := 0x50
abbrev stTruncated : Nat := 0x51
abbrev stLate : Nat := 0x52
abbrev stMigFailed : Nat := 0x60
abbrev stGroupDisagree : Nat := 0x61
abbrev stNotAtomic : Nat := 0x62

/-! ## Causes of R343 -/

abbrev cNone : Nat := 0
abbrev cHost : Nat := 1
abbrev cQueue : Nat := 2
abbrev cSafe : Nat := 3
abbrev cTimeout : Nat := 4
abbrev cSignal : Nat := 5
abbrev cRelease : Nat := 6
abbrev cCondition : Nat := 7
abbrev cIsland : Nat := 8

/-! ## Parameter words -/

/-- The word in force at an ID. -/
def par (s : State) (id : Nat) : Nat := (tabGet paramReset s.params id).toNat

/-- One bit of a parameter. -/
def parBit (s : State) (id b : Nat) : Bool := (par s id).testBit b

/-- Bits [lo + n − 1 : lo] of a parameter. -/
def parBits (s : State) (id lo n : Nat) : Nat := bits (par s id) lo n

/-- A parameter in sQ16.16. -/
def parQ (s : State) (id : Nat) : Rat := ofQ16 (signedOf 32 (par s id))

/-- Write the word in force at an ID. -/
def setPar (id v : Nat) (s : State) : State :=
  { s with params := tabSet paramReset s.params id (BitVec.ofNat 32 v) }

/-- Set or clear one bit of a parameter. -/
def setParBit (id b : Nat) (on : Bool) (s : State) : State :=
  setPar id (if on then par s id ||| 2 ^ b else if (par s id).testBit b then par s id - 2 ^ b else par s id) s

/-- Write bits [lo + n − 1 : lo] of a parameter. -/
def setParBits (id lo n v : Nat) (s : State) : State :=
  let w := par s id
  setPar id (w - 2 ^ lo * bits w lo n + 2 ^ lo * (v % 2 ^ n)) s

/-- Count one event in the format of R130: [15:0] saturates at 0xFFFF, and [31] OVF is then sticky. -/
def count (id : Nat) (s : State) : State :=
  setPar id (if par s id % 65536 = 65535 then par s id ||| 2 ^ 31 else par s id + 1) s

/-- Count n events. -/
def countN (id : Nat) : Nat → State → State
  | 0, s => s
  | n + 1, s => countN id n (count id s)

/-- N, the control period in force in cycles of CLK_CTL (R24, R435). -/
def nCyc (s : State) : Nat := s.time.nNow

/-- The MDCLK divisor in force (R24, R435). -/
def mdDiv (s : State) : Nat := s.time.divNow

/-- One bit period of MDCLK in cycles of CLK_CTL (2.5 ns): the divisor, and ⌈divisor / 2⌉ cycles of CLK_PRT while ISL_PRT drives
MDCLK in hold-up (R24, R41). -/
def mdBit (s : State) : Nat := if s.prt.holdUp then 2 * ((mdDiv s + 1) / 2) else mdDiv s

/-! ## Planes and ports (R1, R133) -/

/-- The plane of a code p (R130). -/
def planeOf : Nat → Option Plane
  | 0 => some .g | 1 => some .m | 2 => some .d | 3 => some .b | _ => none

def allPlanes : List Plane := [.g, .m, .d, .b]

/-- The first gate port of a plane. -/
def basePort : Plane → Nat
  | .g => 0 | .m => 9 | .d => 27 | .b => 33

/-- The number of gate ports of a plane. -/
def portCount : Plane → Nat
  | .g => 9 | .m => 18 | .d => 6 | .b => 3

/-- The gate ports of a plane, one bit each. -/
def planeMask : Plane → Ports
  | .g => 0x1FF#36 | .m => 0x7FFFE00#36 | .d => 0x1F8000000#36 | .b => 0xE00000000#36

/-- The plane that owns a gate port. -/
def planeOfPort (n : Nat) : Plane := if n < 9 then .g else if n < 27 then .m else if n < 33 then .d else .b

/-- Port-index bits of a plane as gate-port bits. -/
def toPorts (p : Plane) (m : BitVec 18) : Ports := (m.zeroExtend 36 <<< basePort p) &&& planeMask p

/-- Gate-port bits as port-index bits of a plane. -/
def ofPorts (p : Plane) (m : Ports) : BitVec 18 := ((m &&& planeMask p) >>> basePort p).truncate 18

/-- One gate port. -/
def portBit (n : Nat) : Ports := 1#36 <<< n

/-- The gate ports of a list. -/
def portsOf (l : List Nat) : Ports := l.foldl (fun m n => m ||| portBit n) 0

/-- The lane of a plane. -/
def lane (s : State) : Plane → Lane
  | .g => s.planes.g | .m => s.planes.m | .d => s.planes.d | .b => s.planes.b

/-- Replace the lane of a plane. -/
def setLane (p : Plane) (l : Lane) (s : State) : State :=
  { s with planes := match p with
      | .g => { s.planes with g := l } | .m => { s.planes with m := l }
      | .d => { s.planes with d := l } | .b => { s.planes with b := l } }

/-- Change the lane of a plane. -/
def updLane (p : Plane) (f : Lane → Lane) (s : State) : State := setLane p (f (lane s p)) s

/-- The modulator of a plane. -/
def modr (s : State) : Plane → Mod
  | .g => s.mods.g | .m => s.mods.m | .d => s.mods.d | .b => s.mods.b

/-- ISL_CTL runs on the FBO (R259). -/
def onFbo (s : State) : Bool := parBit s clkPllmStatus 5

/-- One cycle of ISL_CTL's clock on T_MONO, ns: 2.5, or the FBO's increment (R259, R267). -/
def ctlNs (s : State) : Rat := if onFbo s then s.time.fboInc else 5 / 2

/-- The module is powered and out of reset: what R66 gives for an absent, unpowered or reset module does not hold. -/
def alive (s : State) : Bool := s.isl.power && !s.isl.inReset

/-- The islands held by RESET_N, or by a takeover from COLD, leave reset (R58, R375, R420); the command that shows it is the first lock of a PLL (log entry 74). -/
def leaveReset (s : State) : State :=
  if s.isl.inReset then
    { s with pins := { s.pins with resetLow := false }, isl := { s.isl with inReset := false, prt := true, aon := true } }
  else match s.red.take with
    | some t =>
      if t.dark then { s with isl := { s.isl with prt := true }, red := { s.red with take := some { t with dark := false } } } else s
    | none => s

/-- Replace the modulator of a plane. -/
def setMod (p : Plane) (m : Mod) (s : State) : State :=
  { s with mods := match p with
      | .g => { s.mods with g := m } | .m => { s.mods with m := m }
      | .d => { s.mods with d := m } | .b => { s.mods with b := m } }

/-- Change the modulator of a plane. -/
def updMod (p : Plane) (f : Mod → Mod) (s : State) : State := setMod p (f (modr s p)) s

/-- Change ISL_PRT. -/
def updPrt (f : Prt → Prt) (s : State) : State := { s with prt := f s.prt }

/-- Change the host side. -/
def updHost (f : HostSt → HostSt) (s : State) : State := { s with host := f s.host }

/-- READY, RUNNING or TEST: the planes "every" names (R179). -/
def activeSt : PState → Bool
  | .ready | .running | .test => true
  | _ => false

/-- Any state but OFF and STOPPED. -/
def poweredSt : PState → Bool
  | .off | .stopped => false
  | _ => true

/-- Every plane is OFF or STOPPED. -/
def allStopped (s : State) : Bool := allPlanes.all fun p => !poweredSt (lane s p).st

/-- Every plane is OFF. -/
def allOff (s : State) : Bool := allPlanes.all fun p => (lane s p).st == .off

/-- The state code of R88. -/
def stCode : PState → Nat
  | .off => 0 | .stopped => 1 | .ready => 2 | .running => 3 | .safe => 4 | .test => 5

/-- The sub-state code of R130. -/
def subCode : SafeSub → Nat
  | .pulseBlock => 0 | .ascLow => 1 | .ascMid => 2 | .ascHigh => 3

/-- CTL.x.STATE (R130); the sub-state bits are 0 outside SAFE (log entry 20). -/
def ctlStateWord (l : Lane) : Nat := stCode l.st + (if l.st = .safe then 16 * subCode l.sub else 0)

/-! ## Cols (R19, R21) -/

/-- The kinds of R19. -/
inductive ColKind where
  | queue | state | event | stream
  deriving DecidableEq, Repr

/-- Kind and depth of a col, by number (R21); a state col has no depth. -/
def colRow : Nat → ColKind × Nat
  | 1 | 15 | 16 => (.queue, 4)
  | 3 | 5 | 8 | 12 => (.queue, 16)
  | 4 | 14 => (.event, 64)
  | 13 => (.event, 4)
  | 6 | 7 => (.stream, 8)
  | _ => (.state, 0)

/-- One event more in a col's counter: it saturates with a sticky OVF (R19). The width is that of R130 (log entry 72). -/
def colCount (w : Nat) : Nat := if w % 65536 = 65535 then w ||| 2 ^ 31 else w + 1

/-- A word for a destination that takes none at present (R19): it fills the col; at a full queue the source's write waits, at a full
event col the event is discarded and counted. -/
def colPut (c : Nat) (s : State) : State :=
  let x := s.cols
  let n := x.fill.getD c 0
  match colRow c with
  | (.queue, d) =>
    { s with cols := if n < d then { x with fill := x.fill.set c (n + 1) } else { x with waits := x.waits.set c (x.waits.getD c 0 + 1) } }
  | (.event, d) =>
    { s with cols := if n < d then { x with fill := x.fill.set c (n + 1) } else { x with cnt := x.cnt.set c (colCount (x.cnt.getD c 0)) } }
  | _ => s

/-- The destination of cols restarts: it takes what waits, or its reset clears it (log entry 72). -/
def colClear (cs : List Nat) (s : State) : State :=
  { s with cols := cs.foldl (fun x c => { x with fill := x.fill.set c 0, waits := x.waits.set c 0 }) s.cols }

/-! ## What leaves the module -/

/-- Something leaves at a port. -/
def emit (w : Wire) (s : State) : State := { s with wire := s.wire ++ [w] }

/-- The cosine and the sine of an angle in turns: exact at the quarter turns, and free elsewhere (log entry 3). -/
def cosT (t : Rat) : Rat :=
  if (4 * t).den = 1 then (match (4 * t).num % 4 with | 0 => 1 | 2 => -1 | _ => 0) else Config.cosTurn t
def sinT (t : Rat) : Rat :=
  if (4 * t).den = 1 then (match (4 * t).num % 4 with | 1 => 1 | 3 => -1 | _ => 0) else Config.sinTurn t

/-- A quotient that is 0 where its dividend is. -/
def quotOr0 (x d : Rat) : Rat := if x = 0 then 0 else x / d

/-- Advance the counter of free values. -/
def bumpFree (s : State) : State := { s with free := s.free + 1 }

/-- T_MONO in whole ns, 64 bits (R267). -/
def monoNs (s : State) : Nat := s.time.mono.floor.toNat % 2 ^ 64

/-- The 64-bit view of T_NET (R267). -/
def netNs (s : State) : Nat := s.time.net.floor.toNat % 2 ^ 64

/-- Events carry T_NET while the servo is LOCKED or in HOLDOVER (R342). -/
def netStamped (s : State) : Bool := s.time.servo = 2 || s.time.servo = 3

/-- An event packet (R342): T_MONO, then the body. -/
def eventPacket (s : State) (cls code handle flags status : Nat) (body : List Byte) : Packet :=
  { kind := 2, cls := cls, opcode := code, handle := handle,
    flags := flags + (if netStamped s then 1 else 0), status := status,
    stamp := if netStamped s then netNs s else 0, payload := le 8 (monoNs s) ++ body }

/-- Put an event in the SPI outbound queue: with 64 packets there it is discarded and counted (R344). -/
def pushSpi (p : Packet) (s : State) : State :=
  if s.host.out.length < 64 then
    updHost (fun h => { h with out := h.out ++ [{ p with seq := h.spi.evSeq }],
                               spi := { h.spi with evSeq := (h.spi.evSeq + 1) % 65536 } }) s
  else updHost (fun h => { h with lost := h.lost + 1 }) (count sysEvtLostCnt s)

/-- The state of a channel, a fresh one for an unknown UDP source (R327). -/
def chanSt (s : State) : Chan → ChanSt
  | .spi => s.host.spi
  | .udp ip port =>
    match s.host.udps.find? (fun x => x.1 = ip && x.2.1 = port) with
    | some x => x.2.2
    | none => {}

/-- Store the state of a channel; of 8 UDP channels the one idle longest gives way to a ninth source (R327). -/
def setChan (c : Chan) (k : ChanSt) (s : State) : State :=
  match c with
  | .spi => updHost (fun h => { h with spi := k }) s
  | .udp ip port =>
    updHost (fun h => { h with
      udps := ((ip, port, k) :: h.udps.filter (fun x => !(x.1 = ip && x.2.1 = port))).take 8 }) s

/-- A packet from a UDP source: the channel is in use from now, as a new one where it has no state yet (R327). -/
def touchChan (c : Chan) (s : State) : State :=
  match c with
  | .spi => s
  | _ => setChan c (chanSt s c) s

/-- Change the state of a channel that has one. -/
def keepChan (c : Chan) (k : ChanSt) (s : State) : State :=
  match c with
  | .spi => updHost (fun h => { h with spi := k }) s
  | .udp ip port => updHost (fun h => { h with
      udps := h.udps.map fun x => if x.1 = ip && x.2.1 = port then (ip, port, k) else x }) s

/-- Tansy works: ISL_SYS runs and no restart of a hitless activation is under way (R408). -/
def tansyUp (s : State) : Bool := s.isl.sys && !s.isl.restart

/-- The last 16 events, for the power-fail record (R41). -/
def noteEvent (code : Nat) (s : State) : State :=
  updHost (fun h => { h with recent := ((code, monoNs s) :: h.recent).take 16 }) s

/-- An event to the channel that issued a handle (R344). -/
def sendTo (c : Chan) (p : Packet) (s0 : State) : State :=
  if !s0.isl.sys then s0 else
  let s := noteEvent p.opcode s0
  match c with
  | .spi => pushSpi p s
  | .udp ip port =>
    let k := chanSt s c
    emit (.udp ip port { p with seq := k.evSeq }) (keepChan c { k with evSeq := (k.evSeq + 1) % 65536 } s)

/-- An event to the destination NET.EVT_DSTn, unless the entry is empty (R344). -/
def sendDst (p : Packet) (n : Nat) (s : State) : State :=
  if par s (netEvtDst n) = 0 then s
  else
    let q := s.host.dstSeq.getD n 0
    emit (.udp (par s (netEvtDst n)) 47212 { p with seq := q })
      (updHost (fun h => { h with dstSeq := h.dstSeq.set n ((q + 1) % 65536) }) s)

/-- An asynchronous event: to the SPI queue while SYS.EVT_ROUTE is 1, and to each event destination (R344). -/
def routeAsync (p : Packet) (s0 : State) : State :=
  let s := noteEvent p.opcode s0
  let s1 := if parBit s sysEvtRoute 0 then pushSpi p s else s
  sendDst p 3 (sendDst p 2 (sendDst p 1 (sendDst p 0 s1)))

/-- The col on which the report behind a FLAG event reaches ISL_SYS, by the parameter of its sticky bit, or by its number of R433;
none for a flag of ISL_SYS itself. -/
def flagCol (id bit : Nat) : Option Nat :=
  let blk := id / 256
  if id = 0xFFFF then
    if bit ≤ 5 ∨ bit = 0x0D ∨ bit = 0x0E then some 14 else if bit = 0x10 then some 5 else if bit = 0x0C then some 8 else some 4
  else if 0x05 ≤ blk ∧ blk ≤ 0x0E then some 4
  else if 0x0F ≤ blk ∧ blk ≤ 0x12 then some 14
  else if blk = 0x13 ∨ blk = 0x14 then some 5
  else if blk = 0x15 then some 8
  else if blk = 0x16 then some 16
  else none

/-- Send an asynchronous event of class CONTROL, whose report comes over a col. While ISL_SYS is stopped none is sent (R332), and the
report stays in the col or is counted there (R19); during a restart of Tansy it waits (R408). -/
def sendAsync (col : Option Nat) (code : Nat) (body : List Byte) (s : State) : State :=
  if tansyUp s then routeAsync (eventPacket s 1 code 0 0 0 body) s
  else if s.isl.sys then updHost (fun h => { h with heldEv := h.heldEv ++ [eventPacket s 1 code 0 0 0 body] }) s
  else match col with
    | some c => colPut c s
    | none => s

/-- A FLAG event of a sticky bit (R342, R432). -/
def flagEvent (id bit detail : Nat) (s : State) : State :=
  sendAsync (flagCol id bit) 0x0020 (le 2 id ++ le 1 bit ++ [0] ++ le 4 detail) s

/-- Raise a flag with a sticky bit: set it and send FLAG. -/
def raiseFlag (id bit detail : Nat) (s : State) : State :=
  flagEvent id bit detail (setParBit id bit true s)

/-- Raise a flag without a sticky bit, by its number (R433). -/
def raiseNum (num detail : Nat) (s : State) : State := flagEvent 0xFFFF num detail s

/-- A step of a takeover cannot be completed: ACTIVE with every plane as far as it got (R375). The detail is the row of R375's table
(log entry 31). -/
def takeFails (step : Nat) (s : State) : State :=
  if s.red.role = 4 then raiseFlag redEvents 4 step { s with red := { s.red with role := 1, take := none } } else s

/-! ## The breaker relays and plane G's activity (R188 to R190, R216, R221) -/

/-- Energise or release a relay of BRK_CTRL; a new period of de-energising may raise its mismatch again (R190). With HOLD released no
permit stands (R213). -/
def setBrk (b : Nat) (on : Bool) (s : State) : State :=
  let s1 := setParBit protBrkCtrl b on s
  if on then updPrt (fun r => { r with holdMis := r.holdMis && decide (b ≠ 0), mcMis := r.mcMis && decide (b ≠ 1) }) s1
  else if b = 0 then setParBit gfmState 7 false s1 else s1

/-- The law of plane G has ended with its activity (R220): bits [6:1] of GFM.STATE. In SYNC a permit that no closed breaker uses is
withdrawn, but not at a PLANE_STOP (R216, R220). -/
def leaveLaw (withdraw : Bool) (s : State) : State :=
  let s1 := if withdraw && decide (parBits s gfmState 2 2 = 3) && parBit s gfmState 7 && !s.pins.brkAux then setBrk 0 false s else s
  setParBits gfmState 1 6 0 s1

/-- Enter a plane state: PLANE_STATE reports the old and the new CTL.x.STATE (R342). -/
def enterState (p : Plane) (st : PState) (sub : SafeSub) (s : State) : State :=
  let l := lane s p
  let l' := { l with st := st, sub := sub }
  let s1 := setLane p l' s
  if ctlStateWord l = ctlStateWord l' then s1
  else sendAsync (some 4) 0x0010 (le 1 p.code ++ le 1 (ctlStateWord l) ++ le 1 (ctlStateWord l') ++
    le 1 (par s (protSafeCause p.code))) s1

/-! ## Handles (R345, R346) -/

/-- The slots in use. -/
def slotUsed (s : State) (n : Nat) : Bool := s.host.ops.any fun o => o.handle % 64 = n

/-- The lowest free slot (log entry 5). -/
def freeSlot (s : State) : Option Nat := (List.range 64).find? fun n => !slotUsed s n

/-- The generation after g at a slot: it wraps, and skips the value that would make the handle 0 (R345). -/
def nextGen (slot g : Nat) : Nat :=
  let g1 := (g + 1) % 2 ^ 26
  if slot = 0 ∧ g1 = 0 then 1 else g1

/-- The handle the next allocation gives. -/
def nextHandle (s : State) : Nat :=
  match freeSlot s with
  | some n => nextGen n (tabGet (fun _ => 0) s.host.gens n) * 64 + n
  | none => 0

/-- Allocate a handle for an operation: the table, the handle register and the generation (R345, R346). -/
def allocHandle (opcode : Nat) (c : Chan) (s : State) : State :=
  match freeSlot s with
  | some n =>
    updHost (fun h => { h with
      ops := h.ops ++ [{ handle := nextHandle s, opcode := opcode, chan := c }],
      gens := tabSet (fun _ => 0) h.gens n (nextHandle s / 64) }) s
  | none => s

/-- The operation behind a handle. -/
def findOp (s : State) (h : Nat) : Option Op := s.host.ops.find? fun o => o.handle = h

/-- Complete a handle: COMPLETE to its channel, the entry cleared, the completion logged (R342, R344). While Tansy does not work the
completion waits for it (R346, R408). The results of cause CONDITION name the condition, in a form the manual does not give (R343, log
entry 3). -/
def complete (h status cause : Nat) (results : List Byte) (s : State) : State :=
  match findOp s h with
  | none => s
  | some o =>
    if !tansyUp s then updHost (fun x => { x with late := x.late ++ [(h, status, cause, results)] }) s else
    let body := le 2 o.opcode ++ le 1 cause ++ [0] ++ (if o.bare then [] else results) ++
      (if cause = cCondition ∧ !o.bare then Config.conditionName o.opcode s.free else [])
    let p := eventPacket s 1 0x0001 h 0 status body
    let s1 := updHost (fun x => { x with
      ops := x.ops.filter (fun y => y.handle ≠ h),
      log := ({ handle := h, status := status, payload := p.payload } :: x.log).take 256 }) s
    sendTo o.chan p s1

/-- A PROGRESS event (R342). -/
def progress (h v : Nat) (s : State) : State :=
  match findOp s h with
  | none => s
  | some o => sendTo o.chan (eventPacket s 1 0x0003 h 0 0 (le 2 o.opcode ++ [0, 0] ++ le 8 v)) s

/-- Complete what waits for Tansy, of the opcodes that a test names; the rest of it is void. -/
def flushLate (keep : Nat → Bool) (s : State) : State :=
  s.host.late.foldl (fun s x => match findOp s x.1 with
    | some o => if keep o.opcode then complete x.1 x.2.1 x.2.2.1 x.2.2.2 s else s
    | none => s) (updHost (fun h => { h with late := [] }) s)

/-- Outstanding handles of an opcode whose operation goes on. -/
def opsOf (s : State) (opcode : Nat) : List Nat :=
  (s.host.ops.filter fun o => decide (o.opcode = opcode) && !s.host.late.any fun x => x.1 = o.handle).map (·.handle)

end Sys2Proof.Machine
end

