-- ==== Sys2Proof/Machine/Line.lean ====
section
/-! DEFINITION. Sys2Proof/Machine/Line.lean: from the level of an MDAT line to its bits: NRZ sampling (R68, R69), Manchester decoding
(R71), the criteria of R84 that the bits show, and the phase of the transitions for the skew calibration (R70). -/

namespace Sys2Proof.Machine

/-! ## Levels and transitions -/

/-- The level of a line at a sample; before sample 0 it is the level last seen. -/
def levelAt (w : Nat) (before : Bool) (c : Int) : Bool := if c < 0 then before else w.testBit c.toNat

/-- The transition into a sample: to high, to low, or none. -/
def edgeAt (w : Nat) (before : Bool) (c : Int) : Option Bool :=
  if levelAt w before (c - 1) = levelAt w before c then none else some (levelAt w before c)

/-! ## One bit period -/

/-- A criterion that the bits of a receiver meet (R84): STUCK is 800 units of 2.5 ns without a transition. -/
def rxCrit (man : Bool) (r : Rx) : Bool :=
  if man then decide (8 ≤ r.miss) || decide (4 ≤ ((List.range 64).filter r.viol.testBit).length) else decide (800 ≤ r.edge)

/-- The receiver after an NRZ bit, `unit` being the bit period in 2.5 ns. -/
def nrzStep (unit : Nat) (b : Bool) (r : Rx) : Rx :=
  let r1 := { r with bit := b, edge := if b = r.bit then min 1000000 (r.edge + unit) else 0 }
  { r1 with crit := r.crit || rxCrit false r1 }

/-- The margin of a transition around its place: an eighth of a bit period (log entry 76). -/
def manMargin (per : Nat) : Nat := max 1 (per / 8)

/-- Transitions within the margin of a place. -/
def edgesNear (w : Nat) (before : Bool) (at' : Int) (q : Nat) : List (Int × Bool) :=
  (List.range (2 * q + 1)).filterMap fun i => (edgeAt w before (at' + i - q)).map fun d => (at' + i - q, d)

/-- A transition lies at an impossible position of the bit period around a mid-bit place: neither mid-bit nor at a bit boundary. -/
def oddEdge (w : Nat) (before : Bool) (mid : Int) (per q : Nat) : Bool :=
  (List.range per).any fun i =>
    let c := mid + i - (per / 2 : Nat)
    decide ((q : Int) < (c - mid).natAbs) && decide ((c - mid).natAbs + q < per / 2) && (edgeAt w before c).isSome

/-- The receiver after a Manchester bit period that starts at a sample: the bit, free at a code violation, and the bit timing, which
follows the mid-bit transition (R71). -/
def manStep (w : Nat) (before : Bool) (st per phi : Nat) (free : Bool) (r : Rx) : Rx :=
  let mid : Int := st + phi
  let q := manMargin per
  let put (b : Bool) (phi : Option Nat) (miss v : Nat) : Rx :=
    let r1 := { r with bit := b, phi := phi, miss := miss, viol := (2 * r.viol + v) % 2 ^ 64 }
    { r1 with crit := r.crit || rxCrit true r1 }
  match edgesNear w before mid q with
  | [(c, d)] => put d (some ((c - st).toNat % (2 * per))) 0 (if oddEdge w before mid per q then 1 else 0)
  | _ => put free (if r.miss + 1 < 8 then some phi else none) (r.miss + 1) 1

/-- The bit timing found where two transitions in a row lie at least three quarters of a bit apart: both are mid-bit. -/
def manLock (w : Nat) (before : Bool) (len st per : Nat) : Option Nat :=
  let es : List Nat := (List.range len).filter fun (c : Nat) => (edgeAt w before c).isSome
  ((es.zip (es.drop 1)).find? fun x => decide (3 * per ≤ 4 * (x.2 - x.1))).map fun x => (x.2 + per - st % per) % per

/-! ## A stretch of bits -/

/-- Recover the bits of the periods that start at the samples listed, from `len` samples of the line: the number whose bit i is the
i-th bit, and the receiver after them. `skew` is the sampling delay in samples, `per` the bit period in samples, `unit` in 2.5 ns. -/
def recover (man : Bool) (skew per unit : Nat) (free : Nat → Bool) (w len : Nat) (starts : List Nat) (r : Rx) : Nat × Rx :=
  let r0 := if man && r.phi.isNone then { r with phi := manLock w r.line len (starts.headD 0) per } else r
  let step (a : Nat × Rx) (x : Nat × Nat) : Nat × Rx :=
    let r1 := if man then manStep w r.line x.1 per (a.2.phi.getD 0) (free x.2) a.2 else nrzStep unit (w.testBit (x.1 + skew)) a.2
    (a.1 + (if r1.bit then 2 ^ x.2 else 0), r1)
  let a := starts.zipIdx.foldl step (0, r0)
  (a.1, { a.2 with line := if len = 0 then r.line else w.testBit (len - 1) })

/-! ## The phase of the transitions (R70) -/

/-- Count the transitions of a stretch of cycles by their phase in the MDCLK period. -/
def countPhases (w : Nat) (before : Bool) (per len : Nat) (h : List Nat) : List Nat :=
  (List.range len).foldl (fun h (c : Nat) => if (edgeAt w before c).isSome then h.set (c % per) (h.getD (c % per) 0 + 1) else h) h

/-- The cluster of the transitions: its first phase and its spread, the arc that leaves out the largest gap; none without a
transition. -/
def cluster (h : List Nat) : Option (Nat × Nat) :=
  let d := h.length
  let ps := (List.range d).filter fun c => decide (0 < h.getD c 0)
  match ps with
  | [] => none
  | p :: _ =>
    let gaps := ps.zipIdx.map fun x => (((ps.getD (x.2 + 1) (p + d)) - x.1, (ps.getD (x.2 + 1) p)) : Nat × Nat)
    let best := gaps.foldl (fun a g => if a.1 < g.1 then g else a) (0, 0)
    some (best.2, d - best.1)

/-- What a calibration finds: the phase half a bit from the cluster's centre, which between two cycles is the later one with `up`
(log entry 76), or none for an eye that is closed. -/
def skewFound (up : Bool) (h : List Nat) : Option (Option Nat) :=
  (cluster h).map fun x =>
    if h.length < 2 * x.2 then none else some ((2 * x.1 + x.2 + h.length + (if up then 1 else 0)) / 2 % h.length)

end Sys2Proof.Machine
end

