-- ==== Sys2Proof/Machine/Sorrel.lean ====
section
/-! DEFINITION. Sys2Proof/Machine/Sorrel.lean: the gate selection of R22 and R162 with its deferrals (R173), the availability of
switches (R181), the choice of plane M's sub-state (R182, R183), and the one operation by which a plane enters SAFE (R179). -/

namespace Sys2Proof.Machine

/-! ## Gate blocks -/

/-- ENABLE is withdrawn at every port: HALT_N low (R31), an STO channel low (R32), ISL_PRT stopped (R17). -/
def withdrawn (s : State) : Bool :=
  s.pins.haltLow || !s.pins.sto1 || !s.pins.sto2 || !s.isl.prt

/-- The PULSE input of every gate block (R22). -/
def pulseIn (s : State) : Ports :=
  (s.prt.ovr &&& s.prt.pulse) ||| (~~~s.prt.ovr &&& s.prt.modPulse)

/-- The ENABLE input of every gate block (R22), withdrawn by R23, R31 and R32. -/
def enableIn (s : State) : Ports :=
  if withdrawn s then 0
  else ((s.prt.ovr &&& s.prt.enable) ||| (~~~s.prt.ovr &&& (s.prt.modEnable &&& s.prt.permit))) &&& ~~~s.prt.kaHold

/-- Upper switches the port holds off by itself: undervoltage (R169), a latched fault, LOCKED (R174), no supply (R44). -/
def heldUpper (s : State) : Ports :=
  s.prt.uvVcc ||| s.prt.uvVee ||| s.prt.uvVboot ||| s.prt.faultH ||| s.prt.locked ||| ~~~s.prt.supOn

/-- Lower switches the port holds off by itself. -/
def heldLower (s : State) : Ports :=
  s.prt.uvVcc ||| s.prt.uvVee ||| s.prt.faultL ||| s.prt.locked ||| ~~~s.prt.supOn

/-- The upper switches the inputs select (R162), but for those the port holds off. -/
def wantUpper (s : State) : Ports := pulseIn s &&& enableIn s &&& ~~~heldUpper s

/-- The lower switches the inputs select (R162), but for those the port holds off. -/
def wantLower (s : State) : Ports := ~~~pulseIn s &&& enableIn s &&& ~~~heldLower s

/-- Dead time of a port in cycles of CLK_CTL: 2.5 ns for each code (R193). -/
def deadCycles (s : State) (n : Nat) : Nat := par s (gateDt n)

/-- DESAT_BLANK of a port in cycles of CLK_CTL: 100 ns + 25 ns for each code (R193). -/
def blankCycles (s : State) (n : Nat) : Nat := 40 + 10 * par s (gateDesatBlank n)

/-- An age of a port; one that no table holds is past every limit. -/
def ageOf (t : Tab Nat) (n : Nat) : Nat := tabGet (fun _ => 1000000) t n

/-- The port's switch is within DESAT_BLANK of the start of its turn-on (R173); the age advances at TRIP outputs (log entry 12). -/
def inBlank (s : State) (n : Nat) : Bool := decide (ageOf s.prt.onAge n < blankCycles s n)

/-- The ports of a set whose switch is within blanking. -/
def blanking (s : State) (m : Ports) : Ports :=
  portsOf ((List.range 36).filter fun n => m.getLsbD n && inBlank s n)

/-- Give the listed ports an age. -/
def putAge (m : Ports) (f : Nat → Nat) (t : Tab Nat) : Tab Nat :=
  (List.range 36).foldl (fun t n => if m.getLsbD n then tabSet (fun _ => 1000000) t n (f n) else t) t

/-- The age at which a turn-on found now has begun: DT ended within the TRIP window just past, or the hold of the port ends now. -/
def turnOnAge (s : State) (t : Tab Nat) (n : Nat) : Nat :=
  let past := ageOf t n - deadCycles s n
  if past < 8 * mdBit s then past else 0

/-- Set a sticky bit of GATE.GPnn.STATUS at every port of a set. -/
def stickPorts (b : Nat) (m : Ports) (s : State) : State :=
  (List.range 36).foldl (fun s n => if m.getLsbD n then setParBit (gateStatus n) b true s else s) s

/-- The switches that wait for SHORT_STAGGER, upper and lower (R175). -/
def staggered (s : State) : Ports × Ports := s.prt.stagger.foldl (fun a g => (a.1 ||| g.1, a.2 ||| g.2)) (0, 0)

/-- Ports at which an undervoltage or a supply that is off ends a stagger; the fault and LOCKED that began it do not. -/
def starved (s : State) : Ports := s.prt.uvVcc ||| s.prt.uvVee ||| s.prt.uvVboot ||| ~~~s.prt.supOn

/-- Upper and lower switches whose turn-off waits (R173, R175). A turn-off commanded through Sorrel's registers joins them at a
switch within its blanking; a turn-off by the port itself or by the keep-alive ends the wait (R169, R173). -/
def deferred (bySorrel : Bool) (s : State) : Ports × Ports :=
  let selU := pulseIn s &&& enableIn s
  let selL := ~~~pulseIn s &&& enableIn s
  let join (on sel : Ports) : Ports := if bySorrel then blanking s (on &&& ~~~sel) else 0
  let keep := ~~~s.prt.kaHold
  ((s.prt.deferUp ||| join s.prt.upper selU) &&& s.prt.upper &&& ~~~heldUpper s &&& keep,
   (s.prt.deferLo ||| join s.prt.lower selL) &&& s.prt.lower &&& ~~~heldLower s &&& keep)

/-- Let the gate blocks follow their inputs (R162, R163). A switch turns off at once, but for a turn-off that R173 defers with
BLANK_DEFER, or that waits for SHORT_STAGGER. A switch turns on once DT has passed since the last change of PULSE or ENABLE at the
port, or since a deferred turn-off began. `soft` names the ports whose turn-off uses ISNK_SOFT (R167). -/
def settle (bySorrel : Bool) (soft : Ports) (s : State) : State :=
  let d := deferred bySorrel s
  let g := staggered s
  let waitU := d.1 ||| (g.1 &&& s.prt.upper &&& ~~~starved s &&& ~~~s.prt.kaHold)
  let waitL := d.2 ||| (g.2 &&& s.prt.lower &&& ~~~starved s &&& ~~~s.prt.kaHold)
  let stayU := (s.prt.upper &&& wantUpper s) ||| waitU
  let stayL := (s.prt.lower &&& wantLower s) ||| waitL
  let gone := (s.prt.upper &&& ~~~stayU) ||| (s.prt.lower &&& ~~~stayL)
  let late := gone &&& (s.prt.deferUp ||| s.prt.deferLo ||| g.1 ||| g.2)
  let age := putAge ((pulseIn s ^^^ s.prt.inPulse) ||| (enableIn s ^^^ s.prt.inEnable) ||| late) (fun _ => 0) s.prt.inAge
  let ready := portsOf ((List.range 36).filter fun n => deadCycles s n ≤ ageOf age n)
  let newU := wantUpper s &&& ready &&& ~~~(stayU ||| waitL)
  let newL := wantLower s &&& ready &&& ~~~(stayL ||| waitU)
  stickPorts 6 ((d.1 &&& ~~~s.prt.deferUp) ||| (d.2 &&& ~~~s.prt.deferLo))
    (updPrt (fun r => { r with
      upper := stayU ||| newU, lower := stayL ||| newL, deferUp := d.1, deferLo := d.2,
      soft := (r.soft &&& ~~~gone) ||| (gone &&& soft), inPulse := pulseIn s, inEnable := enableIn s, inAge := age,
      onAge := putAge (newU ||| newL) (turnOnAge s age) r.onAge }) s)

/-! ## Availability and the choice of plane M -/

/-- Ports whose supply parameter is OFF (R44). -/
def offPorts (s : State) : Ports := portsOf ((List.range 36).filter fun n => par s (gateSupply n) = 2)

/-- Upper switches that are unavailable (R181). -/
def unavUpper (s : State) : Ports :=
  offPorts s ||| s.prt.uvVcc ||| s.prt.uvVee ||| s.prt.uvVboot ||| s.prt.faultH ||| s.prt.locked

/-- Lower switches that are unavailable (R181). -/
def unavLower (s : State) : Ports :=
  offPorts s ||| s.prt.uvVcc ||| s.prt.uvVee ||| s.prt.faultL ||| s.prt.locked

/-- Phases of plane M in use (R95). -/
def phasesM (s : State) : Nat := if par s ctlMPhases = 1 then 6 else 3

/-- The UF (0), LF (1) or OUT (2) ports of plane M's phases in use. -/
def legPorts (s : State) (j : Nat) : Ports := portsOf ((List.range (phasesM s)).map fun i => 9 + 3 * i + j)

/-- The ports that an ASC pattern sets to PULSE 1 (R182). -/
def ascPulse (s : State) : SafeSub → Ports
  | .ascMid => legPorts s 1
  | .ascHigh => legPorts s 0 ||| legPorts s 1 ||| legPorts s 2
  | _ => 0

/-- Every switch a pattern needs is available (R182). -/
def ascPossible (s : State) (sub : SafeSub) : Bool :=
  let all := legPorts s 0 ||| legPorts s 1 ||| legPorts s 2
  (ascPulse s sub &&& unavUpper s == 0) && (all &&& ~~~ascPulse s sub &&& unavLower s == 0)

/-- PROT.M.ASC_PREF as a pattern (R194). -/
def ascPref (s : State) : SafeSub :=
  match par s protMAscPref with
  | 1 => .ascLow
  | 3 => .ascHigh
  | _ => .ascMid

/-- The choice of R182: the sub-state, and whether no pattern was available. -/
def chooseM (s : State) : SafeSub × Bool :=
  if s.prt.forcedBlock.getLsbD 1 || s.prt.mcFallback then (.pulseBlock, false)
  else if !(s.prt.ascWanted || s.prt.forcedAsc) then (.pulseBlock, false)
  else match [ascPref s, .ascMid, .ascLow, .ascHigh].find? (ascPossible s) with
    | some sub => (sub, false)
    | none => (.pulseBlock, true)

/-- The steps of R183 into a pattern. -/
def ascSteps (s : State) : SafeSub → List Ports
  | .ascLow => [legPorts s 0, legPorts s 2, legPorts s 1]
  | .ascMid => [legPorts s 0 ||| legPorts s 1, legPorts s 2]
  | .ascHigh => [legPorts s 1, legPorts s 2, legPorts s 0]
  | .pulseBlock => []

/-- Set the ports of one step to the pattern, ENABLE 1. -/
def ascApply (sub : SafeSub) (k : Nat) (s : State) : State :=
  match (ascSteps s sub)[k]? with
  | none => s
  | some m =>
    updPrt (fun r => { r with
      pulse := (r.pulse &&& ~~~m) ||| (ascPulse s sub &&& m), enable := r.enable ||| m,
      ascStep := if k + 1 < (ascSteps s sub).length then k + 1 else 0 }) s

/-- Set Sorrel's override at the ports of a set, with PULSE and ENABLE there. -/
def override (m pulse en : Ports) (s : State) : State :=
  updPrt (fun r => { r with
    ovr := r.ovr ||| m, pulse := (r.pulse &&& ~~~m) ||| (pulse &&& m),
    enable := (r.enable &&& ~~~m) ||| (en &&& m) }) s

/-- Sorrel writes the permission of ports, but for plane D legs withdrawn by R178. A written permission ends the hold of R23: no row
says when the keep-alive returns at a port, so while ISL_PRT runs it counts as back by then (DESIGN CHOICE, log entry 73). -/
def writePermit (m : Ports) (s : State) : State :=
  updPrt (fun r => { r with
    permit := r.permit ||| (m &&& ~~~r.legOff), kaHold := if s.isl.prt then r.kaHold &&& ~~~m else r.kaHold }) s

/-- Release Sorrel's override at a plane's ports and write their permission (R437), but for GP33 while protective chopping acts. That
the keep-alive is back by then is the model's choice (log entry 73). -/
def releaseOvr (p : Plane) (s : State) : State :=
  let keep : Ports := if p = .b ∧ s.prt.chopAct then portBit 33 else 0
  let m := planeMask p &&& ~~~keep
  writePermit (planeMask p) (updPrt (fun r => { r with ovr := r.ovr &&& ~~~m, permit := r.permit &&& ~~~(planeMask p &&& r.legOff) }) s)

/-- Protective chopping ends (R184): GP33 is off and the hold runs from that change; in READY its override is released (R437). -/
def chopStop (s : State) : State :=
  let s1 := updPrt (fun r => { r with chopAct := false, chopOn := false, chopAge := if r.chopOn then 0 else r.chopAge }) s
  if (lane s .b).st = .safe ∨ (lane s .b).st = .ready then
    let s2 := override (portBit 33) 0 0 s1
    settle false 0 (if (lane s .b).st = .ready then updPrt (fun r => { r with ovr := r.ovr &&& ~~~portBit 33 }) s2 else s2)
  else s1

/-- The MC relay drops by R189: plane M in SAFE with PULSE_BLOCK and ASC_WANTED, or mc_fallback. -/
def mcDrops (s : State) : Bool :=
  s.prt.mcFallback || ((lane s .m).st == .safe && (lane s .m).sub == .pulseBlock && s.prt.ascWanted)

def dropMc (s : State) : State := if mcDrops s then setParBit protBrkCtrl 1 false s else s

/-- Take plane M to a sub-state: PULSE_BLOCK in one step, or the first step of an ASC from the present state (R183). -/
def enterSub (sub : SafeSub) (s : State) : State :=
  match sub with
  | .pulseBlock => updPrt (fun r => { r with ascStep := 0 }) (override (planeMask .m) 0 0 s)
  | _ => ascApply sub 0 (override (planeMask .m) (pulseIn s) (enableIn s) s)

/-- Record the fallback of R182: mc_fallback, ASC_FALLBACK. -/
def noteFallback (fb : Bool) (s : State) : State :=
  if fb then raiseNum 0x0E 0 (updPrt (fun r => { r with mcFallback := true }) s) else s

/-- Choose plane M's sub-state again, on a change of the inputs of R182 while it is in SAFE. -/
def rechoose (s : State) : State :=
  if (lane s .m).st = .safe then
    let c := chooseM s
    let s1 := noteFallback c.2 s
    let s2 := if c.1 = (lane s .m).sub then s1 else settle true 0 (enterSub c.1 (enterState .m .safe c.1 s1))
    dropMc s2
  else s

/-! ## Entering SAFE -/

/-- Complete handles with CANCELLED and a cause. -/
def cancelAll (hs : List Nat) (cause : Nat) (s : State) : State :=
  hs.foldl (fun s h => complete h stCancelled cause [] s) s

/-- The initial set of R138. -/
def initialSet (p : Plane) (s : State) : PeriodSet :=
  { per := par s (modPeriod p.code) / 2, ports := List.replicate (portCount p) {} }

/-- The shadow's registers show a period set (R161); plane B has none. -/
def showShadow (p : Plane) (w : PeriodSet) (s : State) : State :=
  if p = .b then s
  else (w.ports.zipIdx).foldl (fun s x => setPar (modPsP p.code x.2) (x.1.cmp + 2 ^ 20 * x.1.act) s) (setPar (modPsPer p.code) w.per s)

/-- Load the initial set and discard pending hand-over state (R138, R160); the outputs are 0 outside RUNNING (R133). A modulator that a
debug halt freezes does so when it resumes (R152). -/
def initMod (p : Plane) (s : State) : State :=
  if s.isl.halted then updMod p (fun m => { m with stale := true }) s
  else
    let w := initialSet p s
    updPrt (fun r => { r with modPulse := r.modPulse &&& ~~~planeMask p, modEnable := r.modEnable &&& ~~~planeMask p })
      (updMod p (fun m => { m with
        active := w, shadow := w, inUse := w.ports, armed := false, dirty := false, steps := [], exitCnt := 0, exitCmd := false,
        seedWait := false, entryReq := false, exitWait := false, ramp := false, delta := [], rampR := 0, cut := 0, src := {},
        srcNew := false, out := {}, stale := false }) (showShadow p w s))

/-- The lane's own part of leaving for SAFE: the ramp and every pending command of the plane end (R90, R361). -/
def quitLane (p : Plane) (s : State) : State :=
  let l := lane s p
  let s1 := cancelAll l.stopping.toList cSafe s
  let s2 := cancelAll (l.queued.map (·.1)) cSafe s1
  let s3 := if p = .b then cancelAll (opsOf s2 0x0021) cSafe s2
            else if p = .g then leaveLaw true (cancelAll (opsOf s2 0x0020) cSafe s2) else s2
  updLane p (fun l => { l with
    stopping := none, queued := [], startPend := false, stopNow := false, rampN := 0, quiet := 0, safeReq := false,
    dec := none, latched := none, first := false }) s3

/-- The pattern of a plane on entering SAFE (R180, R182). -/
def safePattern (p : Plane) (old : PState) (sub : SafeSub) (s : State) : State :=
  match p with
  | .m => enterSub sub s
  | .b =>
    let keep : Ports := if old = .ready ∧ s.prt.chopOn then s.prt.enable &&& portBit 33 else 0
    override (planeMask .b) 0 keep (updPrt (fun r => { r with
      chopAct := decide (old = .ready) && r.chopAct, chopOn := decide (old = .ready) && r.chopOn }) s)
  | _ => override (planeMask p) 0 0 s

/-- The sub-state a plane takes (R180, R182). -/
def chooseSub (p : Plane) (s : State) : SafeSub × Bool := if p = .m then chooseM s else (.pulseBlock, false)

/-- A plane that is READY, RUNNING or TEST enters SAFE with a cause (R179). -/
def enterSafe (p : Plane) (code : Nat) (soft : Ports) (s : State) : State :=
  let old := (lane s p).st
  let c := chooseSub p s
  let s1 := count (protSafeCnt p.code) (setPar (protSafeCause p.code) code s)
  let s2 := updHost (fun h => { h with irq := h.irq ||| 0x04 }) s1
  let s3 := enterState p .safe c.1 (noteFallback c.2 s2)
  let s4 := initMod p (safePattern p old c.1 s3)
  dropMc (quitLane p (settle true soft s4))

/-- A cause of R179 reaches a plane: SAFE from READY, RUNNING or TEST; in SAFE the sub-state is chosen again. A stopped ISL_PRT
acts on none. -/
def causeAt (p : Plane) (code : Nat) (soft : Ports) (s : State) : State :=
  if !s.isl.prt then s else
  match (lane s p).st with
  | .ready | .running | .test => enterSafe p code soft s
  | .safe => if p = .m then rechoose s else s
  | _ => s

/-- A cause for several planes. -/
def causeEach (ps : List Plane) (code : Nat) (soft : Ports) (s : State) : State :=
  ps.foldl (fun s p => causeAt p code soft s) s

/-- A cause for every plane that is READY, RUNNING or TEST (R179). -/
def causeEvery (code : Nat) (soft : Ports) (s : State) : State := causeEach allPlanes code soft s

/-- Force PULSE_BLOCK at planes, by code; it ends a forced ASC on plane M (R179). -/
def forceBlock (ps : List Plane) (s : State) : State :=
  ps.foldl (fun s p =>
    if poweredSt (lane s p).st then
      updPrt (fun r => { r with forcedBlock := r.forcedBlock ||| (1#4 <<< p.code),
                                forcedAsc := r.forcedAsc && decide (p ≠ .m) }) s
    else s) s

/-- Force an ASC on plane M (R179); a forced PULSE_BLOCK overrides it. -/
def forceAsc (s : State) : State :=
  if poweredSt (lane s .m).st ∧ !s.prt.forcedBlock.getLsbD 1 then updPrt (fun r => { r with forcedAsc := true }) s else s

/-! ## Supplies -/

/-- Switch a plane's gate supplies on (R89): ports set to OFF stay off; each monitor stays in undervoltage until it releases. -/
def suppliesOn (p : Plane) (s : State) : State :=
  let m := planeMask p &&& ~~~offPorts s
  updPrt (fun r => { r with
    supOn := r.supOn ||| m, uvVcc := r.uvVcc ||| m, uvVboot := r.uvVboot ||| m, uvVee := r.uvVee ||| m }) s

/-- Switch a plane's gate supplies off. -/
def suppliesOff (p : Plane) (s : State) : State :=
  let m := planeMask p
  updPrt (fun r => { r with
    supOn := r.supOn &&& ~~~m, uvVcc := r.uvVcc &&& ~~~m, uvVboot := r.uvVboot &&& ~~~m, uvVee := r.uvVee &&& ~~~m }) s

/-- No monitor of the plane's powered ports declares undervoltage. -/
def uvloFree (p : Plane) (s : State) : Bool :=
  planeMask p &&& (s.prt.uvVcc ||| s.prt.uvVboot ||| s.prt.uvVee) == 0

/-- Both STO channels are high. -/
def stoHighNow (s : State) : Bool := s.pins.sto1 && s.pins.sto2

end Sys2Proof.Machine
end

