-- ==== Sys2Proof/Machine/Protect.lean ====
section
/-! DEFINITION. Sys2Proof/Machine/Protect.lean: the gate-port and protection events of chapters 01, 02 and 06: HALT_N, STO,
keep-alive, undervoltage, short circuits, gate power, temperature, the BRK inputs, cuts and the steps of an ASC. -/

namespace Sys2Proof.Machine

/-- An event at gate port n; the module has 36 of them, and no other number is a port (R37; log entry 65). -/
def onPort (n : Nat) (f : State → State) (s : State) : Host.Outcome State Fault Refusal :=
  .next (if decide (n < 36) && alive s then f s else s)

/-- When a withdrawal ends, no port turns on by itself (R31, R187): Sorrel's ENABLE registers start from 0 (log entry 13). -/
def enablesOff (s : State) : State :=
  settle false 0 (updPrt (fun r => { r with enable := 0, ascStep := 0, chopOn := false }) s)

/-! ## HALT_N and STO -/

/-- HALT_N low (R31): ENABLE withdrawn at every port, then cause 0x0B. -/
def haltFall (s : State) : State :=
  causeEvery 0x0B 0 (settle true 0 { s with pins := { s.pins with haltLow := true } })

def execHaltNFall (s : State) : Host.Outcome State Fault Refusal := .next (haltFall s)

/-- HALT_N high again (R31): the withdrawal ends and no port turns on. -/
def haltRise (s : State) : State :=
  if s.pins.haltLow then enablesOff { s with pins := { s.pins with haltLow := false } } else s

def execHaltNRise (s : State) : Host.Outcome State Fault Refusal := .next (haltRise s)

/-- An STO channel low for 5 µs (R187): ENABLE withdrawn, then cause 0x0C with PULSE_BLOCK forced. -/
def stoLow (second : Bool) (s : State) : State :=
  let s1 := { s with pins := if second then { s.pins with sto2 := false } else { s.pins with sto1 := false } }
  causeEvery 0x0C 0 (forceBlock allPlanes (settle true 0 s1))

def execStoLow (second : Bool) (s : State) : Host.Outcome State Fault Refusal := .next (stoLow second s)

/-- Both STO channels high for 5 µs (R187): the gate supplies return; no port turns on by itself. -/
def stoHigh (s : State) : State :=
  if stoHighNow s then s else enablesOff { s with pins := { s.pins with sto1 := true, sto2 := true } }

def execStoHigh (s : State) : Host.Outcome State Fault Refusal := .next (stoHigh s)

/-- Gate blocks that see no keep-alive edge withdraw ENABLE until the permission is rewritten (R23). -/
def keepAliveLoss (m : Ports) (s : State) : State :=
  settle false 0 (updPrt (fun r => { r with kaHold := r.kaHold ||| m }) s)

def execKeepAliveLoss (ports : List Nat) (s : State) : Host.Outcome State Fault Refusal :=
  .next (keepAliveLoss (portsOf ports) s)

/-! ## Undervoltage (R169, R170) -/

/-- Set or clear one monitor of one port. -/
def setMon (n : Nat) (m : Mon) (on : Bool) (s : State) : State :=
  updPrt (fun r =>
    let f (x : Ports) : Ports := if on then x ||| portBit n else x &&& ~~~portBit n
    match m with
    | .vcc => { r with uvVcc := f r.uvVcc }
    | .vboot => { r with uvVboot := f r.uvVboot }
    | .vee => { r with uvVee := f r.uvVee }) s

/-- A monitor of the port is evaluated: its supply is on and not OFF, and its plane is arming or powered (R170). -/
def monitored (n : Nat) (s : State) : Bool :=
  s.prt.supOn.getLsbD n && decide (par s (gateSupply n) ≠ 2)

/-- A declaration (R169, R170). -/
def uvloDeclare (n : Nat) (m : Mon) (s : State) : State :=
  if monitored n s then
    let s1 := settle false 0 (setMon n m true s)
    rechoose (causeAt (planeOfPort n) 0x04 0 s1)
  else s

def execUvloDeclare (n : Nat) (m : Mon) (s : State) : Host.Outcome State Fault Refusal := onPort n (uvloDeclare n m) s

/-- A release (R169): the switch is available again; the plane stays in SAFE. -/
def uvloRelease (n : Nat) (m : Mon) (s : State) : State :=
  if monitored n s then rechoose (settle false 0 (setMon n m false s)) else s

def execUvloRelease (n : Nat) (m : Mon) (s : State) : Host.Outcome State Fault Refusal := onPort n (uvloRelease n m) s

/-! ## Short circuits (R171 to R175) -/

/-- The blanking of a comparator from the start of turn-on: DESAT_BLANK (R171), or 60 ns (R172), in cycles of CLK_CTL. -/
def shortBlank (hard : Bool) (n : Nat) (s : State) : Nat := if hard then 24 else blankCycles s n

/-- The comparator can see a short: its switch is on past the comparator's blanking, and CTRL enables it: desaturation in bits [1:0],
hard short in [3:2] (R171, R172). -/
def shortSeen (hard : Bool) (n : Nat) (up : Bool) (s : State) : Bool :=
  (if up then s.prt.upper.getLsbD n else s.prt.lower.getLsbD n) && decide (shortBlank hard n s ≤ ageOf s.prt.onAge n) &&
    parBit s (gateCtrl n) ((if hard then 2 else 0) + (if up then 1 else 0))

/-- A switch that waits for a deferred turn-off is not evaluated for desaturation, and one that waits for SHORT_STAGGER has latched
its fault (R173, R175). -/
def turningOff (n : Nat) (up : Bool) (s : State) : Bool :=
  if up then (s.prt.deferUp ||| (staggered s).1).getLsbD n else (s.prt.deferLo ||| (staggered s).2).getLsbD n

/-- Latch a fault (R174): the bit of the switch, HS, FAULT_CNT, LOCKED at the limit, and the flag. -/
def latchFault (hard : Bool) (n : Nat) (up : Bool) (s : State) : State :=
  let s1 := updPrt (fun r => if up then { r with faultH := r.faultH ||| portBit n }
                             else { r with faultL := r.faultL ||| portBit n }) s
  let s2 := count (gateFaultCnt n) (setParBit (gateStatus n) 5 hard s1)
  let s3 := if par s2 protShortLimit ≤ par s2 (gateFaultCnt n) % 65536
            then updPrt (fun r => { r with locked := r.locked ||| portBit n }) s2 else s2
  raiseFlag (gateStatus n) (if up then 3 else 4) n s3

/-- The lowest port of a plane in a group of faults. -/
def lowestOf (p : Plane) (l : List (Nat × Bool)) : Nat :=
  (l.filter fun x => planeOfPort x.1 = p).foldl (fun a x => min a x.1) 36

/-- The switches of a group that wait for SHORT_STAGGER: all but the lowest port's of each plane (R175). -/
def staggerGroup (l : List (Nat × Bool)) : Ports × Ports :=
  let late := l.filter fun x => decide (x.1 ≠ lowestOf (planeOfPort x.1) l)
  (portsOf ((late.filter (·.2)).map (·.1)), portsOf ((late.filter fun x => !x.2).map (·.1)))

/-- Desaturation faults that enter Sorrel's logic in one cycle (R171, R174, R175). -/
def shortDesat (l : List (Nat × Bool)) (s : State) : State :=
  let l1 := l.filter fun x => decide (x.1 < 36) && shortSeen false x.1 x.2 s && !turningOff x.1 x.2 s
  let g := staggerGroup l1
  let s1 := if par s protShortStagger = 0 ∨ (g.1 ||| g.2) = 0 then s else updPrt (fun r => { r with stagger := r.stagger ++ [g] }) s
  let s2 := settle false (portsOf (l1.map (·.1))) (l1.foldl (fun s x => latchFault false x.1 x.2 s) s1)
  l1.foldl (fun s x => causeAt (planeOfPort x.1) 0x03 0 s) s2

def execShortDesat (l : List (Nat × Bool)) (s : State) : Host.Outcome State Fault Refusal := .next (shortDesat l s)

/-- A hard short (R172, R174): soft turn-off at once, advancing a turn-off that waits (R173). The latched fault holds the switch off,
which ends a deferral; a stagger ends with its switch taken out of its group. -/
def shortHard (n : Nat) (up : Bool) (s : State) : State :=
  if shortSeen true n up s then
    let out (g : Ports × Ports) : Ports × Ports := if up then (g.1 &&& ~~~portBit n, g.2) else (g.1, g.2 &&& ~~~portBit n)
    causeAt (planeOfPort n) 0x03 0 (settle false (portBit n) (latchFault true n up
      (updPrt (fun r => { r with stagger := r.stagger.map out }) s)))
  else s

def execShortHard (n : Nat) (up : Bool) (s : State) : Host.Outcome State Fault Refusal := onPort n (shortHard n up) s

/-- SHORT_STAGGER has passed since the oldest group that waits: its other ports start their soft turn-off (R175). -/
def shortStagger (s : State) : State :=
  match s.prt.stagger with
  | [] => s
  | g :: t => settle false (g.1 ||| g.2) (updPrt (fun r => { r with stagger := t }) s)

def execShortStagger (s : State) : Host.Outcome State Fault Refusal := .next (shortStagger s)

/-- A deferred turn-off begins (R173): soft, and carried out even when the inputs select the same switch again. Either switch of the
port then turns on only after DT from this moment. -/
def deferredTurnOff (n : Nat) (s : State) : State :=
  let pend := (s.prt.deferUp ||| s.prt.deferLo) &&& portBit n
  if pend = 0 then s
  else
    settle false 0 (updPrt (fun r => { r with
      upper := r.upper &&& ~~~pend, lower := r.lower &&& ~~~pend, soft := r.soft ||| pend,
      deferUp := r.deferUp &&& ~~~pend, deferLo := r.deferLo &&& ~~~pend, inAge := putAge pend (fun _ => 0) r.inAge }) s)

def execDeferredTurnOff (n : Nat) (s : State) : Host.Outcome State Fault Refusal := onPort n (deferredTurnOff n) s

/-! ## Gate power and temperature -/

/-- The power delivered to a port's gate circuits, averaged over 10 ms, in mW: PSUP. Above 4.0 W from its isolated supply it raises
GATE_PWR_HIGH (R43); an EXTERNAL port draws from VX and may draw more (R44). -/
def gatePwrHigh (n mw : Nat) (s : State) : State :=
  let s1 := setPar (gatePsup n) (mw % 65536) s
  if 4000 < mw ∧ par s (gateSupply n) = 0 then raiseFlag (gateStatus n) 7 n s1 else s1

def execGatePwrHigh (n mw : Nat) (s : State) : Host.Outcome State Fault Refusal := onPort n (gatePwrHigh n mw) s

/-- SYS.T_BASE as a signed number of 0.01 °C. -/
def tBase (s : State) : Int := signedOf 16 (par s sysTBase)

/-- The gate-section limit of R39 in units of 10 mW at the latest temperature: 60 W up to +75 °C, linearly to 45 W at
+85 °C, and 45 W above (log entry 14). -/
def gateLimit (s : State) : Rat :=
  if tBase s ≤ 7500 then 6000 else if 8500 ≤ tBase s then 4500 else 6000 - 3 / 2 * ((tBase s : Rat) - 7500)

/-- The input powers averaged over 100 ms, in 10 mW: SYS.P_GATE, and SYS.P_IN in all (R43, R44). Above the limit, every RUNNING plane
goes to SAFE. -/
def gateBudget (p pin : Nat) (s : State) : State :=
  if !s.isl.prt then s
  else
    let s1 := setPar sysPIn (pin % 65536) (setPar sysPGate (p % 65536) s)
    if gateLimit s1 < (p : Rat) then
      causeEach (allPlanes.filter fun q => (lane s1 q).st = .running) 0x0A 0 (raiseNum 0x03 p s1)
    else s1

def execGateBudget (p : PowerMean) (s : State) : Host.Outcome State Fault Refusal := .next (gateBudget p.gate p.input s)

/-- The 10 ms update of SYS.T_BASE (R65). -/
def tBaseUpdate (t : Int) (s : State) : State :=
  if !alive s then s else
  let s1 := setPar sysTBase (toBits 16 t) s
  let s2 := if 8700 ≤ t ∧ !s.prt.overtemp then
              raiseNum 0x04 (toBits 16 t) (updPrt (fun r => { r with overtemp := true }) s1)
            else if t < 8500 then updPrt (fun r => { r with overtemp := false }) s1 else s1
  if 9500 ≤ t then causeEvery 0x09 0 s2 else s2

def execTBaseUpdate (t : Int) (s : State) : Host.Outcome State Fault Refusal := .next (tBaseUpdate t s)

/-- A measurement port's supply enters its current limit (R51); a port whose M5V is off has none to limit (R67). -/
def mpSupply (n : Nat) (s : State) : State :=
  if s.prt.m5v.getLsbD n then raiseNum 0x05 n (updPrt (fun r => { r with mpLimit := r.mpLimit ||| (1#24 <<< n) }) s) else s

def execMpSupply (n : Nat) (s : State) : Host.Outcome State Fault Refusal := .next (if n < 24 then mpSupply n s else s)

/-! ## BRK inputs (R62, R190) -/

/-- SPLIT: a standby that is WARM or COLD, both paths down, and BUS_PRESENT high (R374). -/
def splitCheck (s : State) : State :=
  let r := s.red
  if (r.role = 2 ∨ r.role = 3) ∧ par s redRole = 2 ∧ !r.pathA.up ∧ !r.pathB.up ∧ s.pins.busPresent ∧ !r.split then
    raiseFlag redEvents 2 0 { s with red := { r with split := true } }
  else s

/-- BUS_PRESENT after its filter; Betony watches it too (R367, R374). -/
def execBusPresentChange (on : Bool) (s : State) : Host.Outcome State Fault Refusal :=
  .next (splitCheck { s with pins := { s.pins with busPresent := on } })

def execBrkAuxChange (on : Bool) (s : State) : Host.Outcome State Fault Refusal :=
  .next { s with pins := { s.pins with brkAux := on } }

def execMcAuxChange (on : Bool) (s : State) : Host.Outcome State Fault Refusal :=
  .next { s with pins := { s.pins with mcAux := on } }

/-- A relay de-energised for 200 ms with its auxiliary closed (R190), once for each period of de-energising. -/
def brkMismatch (mc : Bool) (s : State) : State :=
  if mc then
    if !parBit s protBrkCtrl 1 && s.pins.mcAux && !s.prt.mcMis then
      raiseFlag protBrkStatus 9 0 (updPrt (fun r => { r with mcMis := true }) s) else s
  else
    if !parBit s protBrkCtrl 0 && s.pins.brkAux && !s.prt.holdMis then
      raiseFlag protBrkStatus 8 0 (updPrt (fun r => { r with holdMis := true }) s) else s

def execBrkMismatch (mc : Bool) (s : State) : Host.Outcome State Fault Refusal := .next (brkMismatch mc s)

/-! ## ASC steps, forced ASC -/

/-- After ASC_GAP the next step of a move into an ASC (R183). -/
def ascNext (s : State) : State :=
  if (lane s .m).st = .safe ∧ s.prt.ascStep ≠ 0 then settle true 0 (ascApply (lane s .m).sub s.prt.ascStep s) else s

def execAscStep (s : State) : Host.Outcome State Fault Refusal := .next (ascNext s)

/-- A forced ASC ends once ASC_WANTED has stayed 0 for 1 s (R179). -/
def forcedAscEnd (s : State) : State :=
  if s.prt.forcedAsc && !s.prt.ascWanted then rechoose (updPrt (fun r => { r with forcedAsc := false }) s) else s

def execForcedAscEnd (s : State) : Host.Outcome State Fault Refusal := .next (forcedAscEnd s)

/-! ## Cuts (R146, R147) -/

/-- Drive a plane's gate blocks from its modulator's output (R132, R133): 0 outside RUNNING. -/
def drivePlane (p : Plane) (s : State) : State :=
  let o := (modr s p).out
  let run := (lane s p).st == .running
  let pm : Ports := if run then toPorts p o.pulse else 0
  let em : Ports := if run then toPorts p o.en else 0
  settle false 0 (updPrt (fun r => { r with
    modPulse := (r.modPulse &&& ~~~planeMask p) ||| pm, modEnable := (r.modEnable &&& ~~~planeMask p) ||| em }) s)

/-- The mask entry in force acts on a pattern (R149). -/
def masked (p : Plane) (s : State) (o : Pat) : Pat :=
  if !parBit s (modMaskCtrl p.code) 0 then o
  else
    let e := par s (modMaskPtr p.code)
    let w := par s (modMaskLo p.code e) + 2 ^ 32 * par s (modMaskHi p.code e)
    let sel (c : Nat) : BitVec 18 :=
      ((List.range 18).filter fun i => bits w (2 * i) 2 = c).foldl (fun m i => m ||| (1#18 <<< i)) 0
    { pulse := (o.pulse &&& sel 0) ||| sel 3, en := (o.en &&& sel 0) ||| sel 2 ||| sel 3 }

/-- The output of a modulator for an output of its mode source: mask, cut latch (R132). -/
def throughCut (p : Plane) (s : State) (o : Pat) : Pat :=
  let m := masked p s o
  { m with en := m.en &&& ~~~(modr s p).cut }

/-- The stages of R132 after the mode source: mask, cut latch, pulse interface. -/
def refreshOut (p : Plane) (s : State) : State :=
  let new := throughCut p s (modr s p).src
  drivePlane p (updMod p (fun m => { m with out := new }) s)

/-- The acknowledgements of a plane's cuts have arrived (R146): prt_permit returns at every port that no other cut names. -/
def cutAck (p : Plane) (s : State) : State :=
  let acked := (s.prt.cuts.filter fun c => c.plane = p.code ∧ c.stage = 2).foldl (fun m c => m ||| c.ports) 0
  let left := s.prt.cuts.filter fun c => !(c.plane = p.code ∧ c.stage = 2)
  let named := left.foldl (fun m c => m ||| c.ports) 0
  let back := acked &&& ~~~named &&& ~~~s.prt.legOff
  settle false 0 (writePermit back (updPrt (fun r => { r with cuts := left }) s))

def execCutAck (p : Plane) (s : State) : Host.Outcome State Fault Refusal := .next (cutAck p s)

/-- Sorrel receives a boundary count (R147). -/
def boundaryCount (p : Plane) (s : State) : State :=
  let run := if s.prt.cutNow.getLsbD p.code then min 255 (par s (protTripRun p.code) + 1) else 0
  let s1 := updPrt (fun r => { r with
    seen := r.seen.set p.code (modr s p).bnd, cutNow := r.cutNow &&& ~~~(1#4 <<< p.code) }) s
  let s2 := if s.prt.cutNow.getLsbD p.code then count (protCutCnt p.code) s1 else s1
  if par s (protTripLimit p.code) ≤ run ∧ run ≠ 0 then causeAt p 0x02 0 (setPar (protTripRun p.code) 0 s2)
  else setPar (protTripRun p.code) run s2

def execBoundaryCount (p : Plane) (s : State) : Host.Outcome State Fault Refusal := .next (boundaryCount p s)

end Sys2Proof.Machine
end

