-- ==== Sys2Proof/Machine/Measure.lean ====
section
/-! DEFINITION. Sys2Proof/Machine/Measure.lean: the measurement chain of chapter 03: the five filter presets (R75 to R79), the
engineering value (R76), the loss criteria and validity (R84 to R87), the skew calibration and the metering (R82, R83). -/

namespace Sys2Proof.Machine

/-! ## Ports and signals -/

/-- The state of measurement port n. -/
def mport (s : State) (n : Nat) : MPort := tabGet (fun _ => {}) s.meas n

/-- Replace the state of measurement port n. -/
def setMport (n : Nat) (m : MPort) (s : State) : State := { s with meas := tabSet (fun _ => {}) s.meas n m }

/-- Change the state of measurement port n. -/
def updMport (n : Nat) (f : MPort → MPort) (s : State) : State := setMport n (f (mport s n)) s

/-- The port that carries a signal code (R72). -/
def sigPort (s : State) (code : Nat) : Option Nat := (List.range 24).find? fun n => par s (measRoute n) = code

/-- A signal's delivered value in ISL_CTL (R76, R85): 0 for a signal that is not routed. -/
def sigVal (s : State) (code : Nat) : Rat :=
  match sigPort s code with
  | some n => ofQ16 (mport s n).val
  | none => 0

/-- A signal is routed and valid in ISL_CTL. -/
def sigOk (s : State) (code : Nat) : Bool :=
  match sigPort s code with
  | some n => (mport s n).valid
  | none => false

/-- A signal is routed and valid in ISL_PRT. -/
def sigPrtOk (s : State) (code : Nat) : Bool :=
  match sigPort s code with
  | some n => (mport s n).prtValid
  | none => false

/-- Legs of plane D in use (R130), without the dropped ones (R128). -/
def legUsed (s : State) (n : Nat) : Bool := parBit s ctlDLegs n && !s.planes.d.dropped.getLsbD n

/-- The signals a plane requires (R73). -/
def required (s : State) : Plane → List Nat
  | .g => [0x10, 0x11, 0x12, 0x13, 0x14, 0x15, 0x40, 0x41]
  | .m => [0x20, 0x21, 0x22, 0x40, 0x41] ++ (if par s ctlMPhases = 1 then [0x23, 0x24, 0x25] else [])
  | .d => [0x36, 0x40, 0x41] ++ ((List.range 6).filter (legUsed s)).map (· + 0x30)
  | .b => [0x40, 0x41]

/-- Every required signal is valid in both islands (R87). -/
def signalsOk (p : Plane) (s : State) : Bool := (required s p).all fun c => sigOk s c && sigPrtOk s c

/-! ## The engineering value (R76) -/

/-- 1 / R^K: exact for R a power of two, else rounded to 32 bits, its first bit being a 1 (R76; the rounding, log entry 63). -/
def recip32 (full : Nat) : Rat :=
  let e := 2 ^ (32 + Nat.log2 full)
  if 2 ^ Nat.log2 full = full then 1 / (full : Rat) else (roundAway ((e : Rat) / full) : Rat) / e

/-- n = (2y − R^K) / R^K. -/
def normalised (full y : Nat) : Rat := (2 * (y : Rat) - full) * recip32 full

/-- v = OFFSET + GAIN n + LIN n², in sQ16.16. -/
def engValue (s : State) (n : Nat) (x : Rat) : Int :=
  toQ16 (parQ s (measOffset n) + parQ s (measGain n) * x + parQ s (measLin n) * x * x)

/-! ## The filters (R75) -/

/-- One bit through the integrators of the control filter. -/
def ctlBit (p : MPort) (b : Bool) : MPort :=
  let i1 := p.i1 + (if b then 1 else 0)
  let i2 := p.i2 + i1
  { p with i1 := i1, i2 := i2, i3 := p.i3 + i2, hist := (2 * p.hist + (if b then 1 else 0)) % 2 ^ 3000 }

/-- The combs of the control filter at the end of a window. -/
def ctlComb (p : MPort) : MPort :=
  let y1 := p.i3 - p.c1
  let y2 := y1 - p.c2
  let y3 := y2 - p.c3
  { p with c1 := p.i3, c2 := y1, c3 := y2, y := y3.toNat, same := if y3.toNat = p.y then p.same + 1 else 0 }

/-- One bit through the RECORD filter; at the end of a window of 64 MDCLK bits its combs give an output (R79). -/
def recBit (s : State) (n : Nat) (p : MPort) (b last : Bool) : MPort :=
  let r1 := p.r1 + (if b then 1 else 0)
  let r2 := p.r2 + r1
  let r3 := p.r3 + r2
  let r4 := p.r4 + r3
  let p1 := { p with r1 := r1, r2 := r2, r3 := r3, r4 := r4 }
  if !last then p1
  else
    let y1 := r4 - p.q1
    let y2 := y1 - p.q2
    let y3 := y2 - p.q3
    let y4 := y3 - p.q4
    { p1 with q1 := r4, q2 := y1, q3 := y2, q4 := y3, recV := engValue s n (normalised (64 ^ 4) y4.toNat) }

/-- One bit through the TRIP filter's integrators. -/
def tripBit (p : MPort) (b : Bool) : MPort :=
  let t1 := p.t1 + (if b then 1 else 0)
  let t2 := p.t2 + t1
  { p with t1 := t1, t2 := t2, t3 := p.t3 + t2 }

/-- The TRIP filter's combs. -/
def tripComb (s : State) (n : Nat) (p : MPort) : MPort :=
  let y1 := p.t3 - p.d1
  let y2 := y1 - p.d2
  let y3 := y2 - p.d3
  { p with d1 := p.t3, d2 := y1, d3 := y2, trip0 := p.trip, trip := engValue s n (normalised (8 ^ 3) y3.toNat),
           prtSince := p.prtSince + 1 }

/-- One bit through the METER filter's integrators. -/
def meterBit (p : MPort) (b : Bool) : MPort :=
  let m1 := p.m1 + (if b then 1 else 0)
  let m2 := p.m2 + m1
  let m3 := p.m3 + m2
  let m4 := p.m4 + m3
  { p with m1 := m1, m2 := m2, m3 := m3, m4 := m4, m5 := p.m5 + m4 }

/-- The METER filter's combs: the new registers and n. -/
def meterComb (p : MPort) : MPort × Rat :=
  let y1 := p.m5 - p.n1
  let y2 := y1 - p.n2
  let y3 := y2 - p.n3
  let y4 := y3 - p.n4
  let y5 := y4 - p.n5
  ({ p with n1 := p.m5, n2 := y1, n3 := y2, n4 := y3, n5 := y4 }, normalised (256 ^ 5) y5.toNat)

/-- Feed k bits of a word, bit i being the i-th received. -/
def feed (f : MPort → Bool → MPort) (w : Nat) (k : Nat) (p : MPort) : MPort :=
  (List.range k).foldl (fun p i => f p (w.testBit i)) p

/-! ## Bits of a port (R69, R71) -/

/-- A port is Manchester-coded. -/
def isManch (s : State) (n : Nat) : Bool := decide (par s (measCoding n) = 1)

/-- The bits of ISL_CTL over k MDCLK periods of `div` cycles from the last strobe, from the line's level in each cycle of CLK_CTL
after it. -/
def ctlBits (s : State) (n w div k : Nat) (r : Rx) : Nat × Rx :=
  recover (isManch s n) (par s (measSkew n)) div div (Config.freeBit s.free n) w (div * k) ((List.range k).map (· * div)) r

/-- The bits of ISL_PRT over a TRIP window, from the line's level at each sample of CLK_PRT and the samples at which it saw the rising
edges of MDCLK. -/
def prtBits (s : State) (n w : Nat) (edges : List Nat) (r : Rx) : Nat × Rx :=
  recover (isManch s n) ((par s (measSkew n) + 1) / 2) ((mdBit s + 1) / 2) (mdBit s) (Config.freeBit s.free n) w
    (edges.getLastD 0 + (mdBit s + 1) / 2) edges r

/-- A routed port is Manchester-coded: bits at code violations are free values. -/
def anyManch (s : State) : Bool := (List.range 24).any fun n => decide (par s (measRoute n) ≠ 0) && isManch s n

/-- The counter of free values moves on where a bit may have been free. -/
def bumpManch (s : State) : State := if anyManch s then bumpFree s else s

/-! ## Control samples (R85, R87) -/

/-- A criterion of R84 is met in ISL_CTL during the period: in its bits, at the MDCLK pair, or by a frozen comb output. -/
def ctlCrit (s : State) (n : Nat) (p : MPort) : Bool :=
  p.rx.crit || p.pair || (decide (par s (measFrzN n) ≠ 0) && decide (par s (measFrzN n) ≤ p.same + 1))

/-- The transitions of the period go into a skew calibration that runs (R70). -/
def skewTake (w div k : Nat) (p : MPort) : MPort :=
  if p.skewLeft = 0 then p
  else
    let m := min p.skewLeft k
    { p with skewLeft := p.skewLeft - m, skewHist := countPhases w p.rx.line div (div * m) p.skewHist }

/-- A port at a strobe: bits, filters, history, and the delivered value, held when the signal is invalid (R85). `w` is the line over the
period of n cycles, `div` the divisor of its bits, OSR_C of them. -/
def strobePort (s : State) (len div n w : Nat) (p : MPort) : MPort :=
  let k := par s measOsrC
  let x := ctlBits s n w div k p.rx
  let fed := (List.range k).foldl (fun q i =>
    let b := x.1.testBit i
    recBit s n (ctlBit q b) b (decide ((s.meter.recN + i + 1) % 64 = 0))) (skewTake w div k p)
  let p1 := ctlComb { fed with rx := x.2 }
  let v := engValue s n (normalised (k ^ 3) p1.y)
  let lost := p.loss.isSome
  let crit := ctlCrit s n p1
  { p1 with
    valid := p.valid && !lost
    run := if lost || crit then 0 else min 64 (p.run + 1)
    prtRun := if p.rxPrt.crit then 0 else min 64 (p.prtRun + 1)
    rx := { p1.rx with crit := false }
    rxPrt := { p1.rxPrt with crit := false }
    loss := if crit then p.loss else none
    val := if p.valid && !lost then v else p.held
    past := ((0, v) :: p.past.map fun y => (y.1 + len, y.2)).take 8 }

/-- |n| of the control filter above 0.9375 sets OVERRANGE (R84). -/
def overRange (s : State) (n : Nat) : Bool :=
  decide (15 / 16 < absR (normalised ((par s measOsrC) ^ 3) (mport s n).y))

/-- The RECORD windows run on the MDCLK bit count (R79): the bits of a period, and T_MONO at the last window end in it. -/
def recCount (div : Nat) (s : State) : State :=
  let t := s.meter.recN + par s measOsrC
  { s with meter := { s.meter with
      recN := t % 64, recAt := if t < 64 then s.meter.recAt else s.time.mono - (t % 64 * div : Nat) * ctlNs s } }

/-- Every routed port at a strobe, from the lines over the period of `len` cycles, with the divisor of its bits. -/
def strobeMeas (len div : Nat) (bs : List Nat) (s : State) : State :=
  if !s.isl.mdRun then s else
  bumpManch (recCount div ((List.range 24).foldl (fun s n =>
    if par s (measRoute n) = 0 then s
    else
      let s1 := updMport n (strobePort s len div n (bs.getD n 0)) s
      if overRange s1 n then setParBit (measStatus n) 4 true s1 else s1) s))

/-- A skew calibration begins at the routed NRZ ports whose signal is named, while SKEW_AUTO is 1 (R70). -/
def startSkew (f : Nat → Bool) (s : State) : State :=
  if par s measSkewAuto = 0 ∨ !s.isl.mdRun then s
  else (List.range 24).foldl (fun s n =>
    if par s (measRoute n) ≠ 0 ∧ f (par s (measRoute n)) ∧ !isManch s n then
      updMport n (fun p => { p with skewLeft := 4096, skewHist := List.replicate s.time.divNow 0 }) s
    else s) s

/-- MDCLK starts at a strobe (R24): its first bit period begins there. -/
def startMdclk (s : State) : State :=
  if s.isl.mdclk && !s.isl.mdRun then
    startSkew (fun _ => true) { s with
      isl := { s.isl with mdRun := true }, meter := { s.meter with recN := 0, recAt := s.time.mono, endAt := s.time.mono } }
  else s

/-- M5V is on at every routed port (R67). -/
def takeM5v (s : State) : State :=
  updPrt (fun r => { r with m5v := ((List.range 24).filter fun n => par s (measRoute n) ≠ 0).foldl (fun m n => m ||| (1#24 <<< n)) 0 }) s

/-- y of the control filter over the OSR_C bits before a tap, from the bit history (R80): the order-3 window of R75. -/
def tapValue (hist k : Nat) : Nat :=
  let run := (List.range (3 * k - 2)).reverse.foldl
    (fun (a : Nat × Nat × Nat × List Nat) i =>
      let i1 := a.1 + (if hist.testBit i then 1 else 0)
      let i2 := a.2.1 + i1
      let i3 := a.2.2.1 + i2
      (i1, i2, i3, i3 :: a.2.2.2)) (0, 0, 0, [])
  let at' (j : Nat) : Int := (run.2.2.2.getD j 0 : Nat)
  (at' 0 - 3 * at' k + 3 * at' (2 * k) - at' (3 * k)).toNat

/-! ## Loss (R84 to R86, R178) -/

/-- The sticky bit of a loss in STATUS. -/
def lossBit : Loss → Nat
  | .stuck => 1 | .clkFault => 2 | .frozen => 3 | .manchErr => 5

/-- The held value of R85 for a failure at an instant in cycles of CLK_CTL from the last strobe: the latest sample whose window ended
at or before the last transition (STUCK), or before the first failing bit; the frozen value itself. With none such it is the oldest
sample held, and 0 without history. -/
def heldFor (k : Loss) (at' : Int) (p : MPort) : Int :=
  let fits (x : Nat × Int) : Bool := match k with
    | .stuck => decide (-(x.1 : Int) ≤ at')
    | .frozen => true
    | _ => decide (-(x.1 : Int) < at')
  match p.past.find? fits with
  | some x => x.2
  | none => (p.past.getLastD (0, 0)).2

/-- ISL_CTL declares a stream lost (R84, R85). A stream that is lost already keeps its held value (log entry 11). -/
def ctlLoss (n : Nat) (at' : Int) (k : Loss) (s : State) : State :=
  setParBit measLost n true (setParBit (measStatus n) (lossBit k) true
    (updMport n (fun p => { p with
      loss := some (p.loss.getD k), run := 0, held := if p.loss.isSome then p.held else heldFor k at' p }) s))

/-- Planes that require a signal. -/
def requiring (s : State) (code : Nat) : List Plane := allPlanes.filter fun p => (required s p).contains code

/-- Withdraw a plane D leg's permission (R178). -/
def withdrawLeg (n : Nat) (s : State) : State :=
  let m := portBit (27 + n)
  settle true 0 (updPrt (fun r => { r with legOff := r.legOff ||| m, permit := r.permit &&& ~~~m }) s)

/-- Sorrel's action on a stream lost in ISL_PRT (R178). -/
def lossAction (code : Nat) (s : State) : State :=
  if 0x10 ≤ code ∧ code ≤ 0x12 ∧ ([0x10, 0x11, 0x12].all fun c => c = code || sigPrtOk s c) ∧ par s ctlGThreeWire = 1 then s
  else if 0x30 ≤ code ∧ code ≤ 0x35 ∧ par s ctlDLegDrop = 1 ∧ poweredSt s.planes.d.st ∧
      ((List.range 6).any fun j => decide (j ≠ code - 0x30) && legUsed s j) then withdrawLeg (code - 0x30) s
  else if code = 0x50 ∨ code = 0x16 ∨ code = 0x17 ∨ (0x60 ≤ code ∧ code ≤ 0x63) then s
  else if code = 0x40 ∨ code = 0x41 then causeEvery 0x06 0 (chopStop s)
  else causeEach (requiring s code) 0x06 0 s

/-- ISL_PRT declares a stream lost (R86): the mask, PRT_LOST, SIG_LOST, and Sorrel's action. -/
def prtLoss (n : Nat) (k : Loss) (s : State) : State :=
  let s1 := updMport n (fun p => { p with prtValid := false, prtRun := 0, prtSince := 0 }) s
  let s2 := setParBit measLost n true (setParBit (measStatus n) (lossBit k) true s1)
  lossAction (par s (measRoute n)) (raiseFlag (measStatus n) 6 n s2)

/-- A loss at a routed port, in one island; `at'` is the instant of the failure in cycles of CLK_CTL from the last strobe. -/
def declareLoss (n : Nat) (at' : Int) (inPrt : Bool) (k : Loss) (s : State) : State :=
  if par s (measRoute n) = 0 then s else if inPrt then prtLoss n k s else ctlLoss n at' k s

/-- An event at measurement port n; no other number than 0 to 23 is a port (R37; log entry 65). -/
def onMport (n : Nat) (f : State → State) (s : State) : Host.Outcome State Fault Refusal :=
  .next (if decide (n < 24) && alive s then f s else s)

/-- STUCK is a criterion of NRZ bits (R84). -/
def execStuck (n : Nat) (inPrt : Bool) (at' : Int) (s : State) : Host.Outcome State Fault Refusal :=
  onMport n (fun s => if isManch s n then s else declareLoss n at' inPrt .stuck s) s

/-- The pair fault is ISL_CTL's alone (R84): its driver's load leaves its range, or is back in it (log entry 77). -/
def clkFault (n : Nat) (at' : Int) (faulty : Bool) (s : State) : State :=
  if par s (measRoute n) = 0 then s
  else
    let s1 := updMport n (fun p => { p with pair := faulty }) s
    if faulty then ctlLoss n at' .clkFault s1 else s1

def execClkFault (n : Nat) (c : PairLoad) (s : State) : Host.Outcome State Fault Refusal :=
  onMport n (clkFault n c.instant c.faulty) s

def execManchesterLockLost (n : Nat) (inPrt : Bool) (at' : Int) (s : State) : Host.Outcome State Fault Refusal :=
  onMport n (fun s => if isManch s n then declareLoss n at' inPrt .clkFault s else s) s

def execManchErr (n : Nat) (inPrt : Bool) (at' : Int) (s : State) : Host.Outcome State Fault Refusal :=
  onMport n (fun s => if isManch s n then declareLoss n at' inPrt .manchErr s else s) s

/-- FROZEN (R84): the comb output has been identical for FRZ_N strobes, and FRZ_N is not 0. -/
def execFrozen (n : Nat) (s : State) : Host.Outcome State Fault Refusal :=
  onMport n (fun s =>
    if par s (measFrzN n) ≠ 0 ∧ par s (measFrzN n) ≤ (mport s n).same + 1 then declareLoss n 0 false .frozen s else s) s

/-- 64 control samples without a criterion of R84 (R87): valid again, the mask lifted; EYE keeps the signal invalid (R70). -/
def streamValid (n : Nat) (inPrt : Bool) (s : State) : State :=
  if par s (measRoute n) = 0 ∨ parBit s (measStatus n) 7 then s
  else if inPrt then
    if (mport s n).prtRun = 64 then updMport n (fun p => { p with prtValid := true }) s else s
  else if (mport s n).run = 64 then updMport n (fun p => { p with valid := true }) s else s

def execStreamValid (n : Nat) (inPrt : Bool) (s : State) : Host.Outcome State Fault Refusal :=
  onMport n (streamValid n inPrt) s

/-- The end of a skew calibration after 4,096 bits (R70): SKEW, or EYE, under which the signal stays invalid in both islands. What an
invalid signal delivers without a criterion of R84 the manual does not say: the model holds its last delivered value (DESIGN CHOICE,
log entry 71). -/
def skewAuto (n : Nat) (up : Bool) (s : State) : State :=
  let p := mport s n
  if par s measSkewAuto = 0 ∨ par s (measRoute n) = 0 ∨ isManch s n ∨ p.skewHist.isEmpty ∨ p.skewLeft ≠ 0 then s
  else
    let s1 := updMport n (fun p => { p with skewHist := [] }) s
    match skewFound up p.skewHist with
    | none => s1
    | some (some k) => setPar (measSkew n) (k % 32) s1
    | some none =>
      setParBit (measStatus n) 7 true (updMport n (fun p => { p with
        valid := false, prtValid := false, run := 0, prtRun := 0, held := if p.valid then p.val else p.held }) s1)

def execSkewAuto (n : Nat) (up : Bool) (s : State) : Host.Outcome State Fault Refusal := onMport n (skewAuto n up) s

/-! ## Metering (R82, R83) -/

/-- A number truncated to sQ1.27; +1 lies above the format, and gives its largest value. -/
def trunc27 (x : Rat) : Int := clampI (-134217728) 134217727 (x * 134217728).floor

/-- One input into a moving average whose window moves from length `l0` to `l` by at most one (R83). -/
def avgStep (l : Nat) (x : Int) (a : Avg) : Avg :=
  let all := x :: a.win
  let keep := all.take l
  let gone := (all.drop l).foldl (· + ·) 0
  { sum := a.sum + BitVec.ofInt 40 x - BitVec.ofInt 40 gone, win := keep }

/-- The mean of a moving average as a number: over the inputs it holds, also while fewer than L have come, when the result is not marked
valid and the manual gives it no divisor (DESIGN CHOICE, log entry 78). -/
def avgMean (a : Avg) : Rat := if a.win.length = 0 then 0 else (a.sum.toInt : Rat) / 134217728 / a.win.length

/-- The length in force moves by one towards the one wanted. -/
def nextLen (s : State) : Nat :=
  let want := if par s measMaMode = 1 then s.meter.want else par s measMaLen
  let now := par s measMaLenNow
  if now < want then now + 1 else if want < now then now - 1 else now

/-- n of every port at a METER output, and its new filter state, from the line over the 256 bit periods of the window. -/
def meterIn (bs : List Nat) (s : State) (n : Nat) : MPort × Rat :=
  meterComb (feed meterBit (ctlBits s n (bs.getD n 0) (mdDiv s) 256 (mport s n).rx).1 256 (mport s n))

/-- The METER results of a port are valid (R83): one METER span, which is within five outputs, and then L have passed without a fault
on its signal. -/
def meterOk (s : State) (n : Nat) : Bool :=
  decide (par s (measRoute n) ≠ 0) && decide (par s measMaLenNow + 5 ≤ tabGet (fun _ => 0) s.meter.good n)

/-- p and q are valid: so are the six signals they are formed of. -/
def powerOk (s : State) : Bool :=
  [0x10, 0x11, 0x12, 0x13, 0x14, 0x15].all fun c => match sigPort s c with | some n => meterOk s n | none => false

/-- The average of a stream, by key. -/
def avgOf (t : Tab Avg) (k : Nat) : Avg := tabGet (fun _ => {}) t k

/-- Mean of v·i expanded through GAIN and OFFSET (R82), v at port a and i at port b, with the mean of the product of their n. -/
def meanProd (s : State) (a b : Nat) (m : Tab Avg) (prod : Rat) : Rat :=
  parQ s (measOffset a) * parQ s (measOffset b) +
  parQ s (measOffset a) * parQ s (measGain b) * avgMean (avgOf m b) +
  parQ s (measGain a) * parQ s (measOffset b) * avgMean (avgOf m a) +
  parQ s (measGain a) * parQ s (measGain b) * prod

/-- One METER output (R82): averages of n and n² of every routed port, the nine products of plane G, mean, RMS, p and q. -/
def meterOutput (bs : List Nat) (s : State) : State :=
  let l := nextLen s
  let ns := (List.range 24).filter fun n => par s (measRoute n) ≠ 0
  let fed := ns.map fun n => (n, meterIn bs s n)
  let avgs := fed.foldl (fun t x =>
    let n := x.2.2
    tabSet (fun _ => {}) (tabSet (fun _ => {}) t x.1 (avgStep l (trunc27 n) (avgOf t x.1))) (24 + x.1)
      (avgStep l (trunc27 (n * n)) (avgOf t (24 + x.1)))) s.meter.avgs
  let nOf (c : Nat) : Rat := match sigPort s c with
    | some k => (meterIn bs s k).2
    | none => 0
  let prods := (List.range 9).foldl (fun t k =>
    tabSet (fun _ => {}) t k (avgStep l (trunc27 (nOf (0x13 + k / 3) * nOf (0x10 + k % 3))) (avgOf t k))) s.meter.prods
  let vi (a b : Nat) : Rat := match sigPort s (0x13 + a), sigPort s (0x10 + b) with
    | some x, some y => meanProd s x y avgs (avgMean (avgOf prods (3 * a + b)))
    | _, _ => 0
  let good := ns.foldl (fun t n => tabSet (fun _ => 0) t n (if (mport s n).valid then tabGet (fun _ => 0) t n + 1 else 0)) s.meter.good
  let rms (n : Nat) : Rat :=
    let o := parQ s (measOffset n)
    let g := parQ s (measGain n)
    Config.sqrt (o * o + 2 * o * g * avgMean (avgOf avgs n) + g * g * avgMean (avgOf avgs (24 + n)))
  let meter := { s.meter with
    avgs := avgs, prods := prods, good := good, endAt := s.meter.endAt + (256 * mdDiv s : Nat) * ctlNs s
    mean := ns.foldl (fun t n => tabSet (fun _ => 0) t n
      (toQ16 (parQ s (measOffset n) + parQ s (measGain n) * avgMean (avgOf avgs n)))) s.meter.mean
    rms := ns.foldl (fun t n => tabSet (fun _ => 0) t n (rms n)) s.meter.rms
    p := vi 0 0 + vi 1 1 + vi 2 2
    q := ((vi 1 0 - vi 2 0) + (vi 2 1 - vi 0 1) + (vi 0 2 - vi 1 2)) / Config.sqrt3 }
  setPar measMaLenNow l { fed.foldl (fun s x => setMport x.1 x.2.1 s) s with meter := meter }

/-- The METER windows run while ISL_CTL drives MDCLK. -/
def execMeterOutput (bs : List Nat) (s : State) : Host.Outcome State Fault Refusal :=
  .next (if s.isl.ctl && s.isl.mdRun && !s.isl.halted then bumpManch (meterOutput bs s) else s)

/-- The METER output interval T_M on T_MONO, ns (R83). -/
def meterNs (s : State) : Rat := 256 * mdDiv s * ctlNs s

/-- The length of R83 at an increment of the T_GRID cycle count: round(T_cyc / T_M), clipped at 4,096 with MA_CLIP while MA_MODE is GRID.
Where the first cycle starts the manual does not say: the model counts it from T_MONO 0 (DESIGN CHOICE, log entry 78). -/
def meterCycle (s : State) : State :=
  let l := (roundAway ((s.time.mono - s.meter.cycAt) / meterNs s)).toNat
  let s1 := if 4096 < l ∧ par s measMaMode = 1 then raiseNum 0x0C l s else s
  { s1 with meter := { s1.meter with cycAt := s.time.mono, want := max 1 (min 4096 l) } }

end Sys2Proof.Machine
end

