-- ==== Sys2Proof/Machine/Rgt.lean ====
section
/-! DEFINITION. Sys2Proof/Machine/Rgt.lean: the Region Gain Table (R105 to R114): tiles, pointers, caches, the region lookup, the
scrubber and the Safe Region Entry. -/

namespace Sys2Proof.Machine

/-- The physical tile a logical tile maps to (R358). -/
def physTile (s : State) (t : Nat) : Nat := tabGet (fun i => i) s.rgt.ptr t

/-- A physical tile. -/
def tileAt (s : State) (p : Nat) : Tile := tabGet (fun _ => {}) s.rgt.tiles p

/-- Change the table's memory. -/
def updRgt (f : Rgt → Rgt) (s : State) : State := { s with rgt := f s.rgt }

/-- A 32-bit word of bytes. -/
def wordAt (bs : List Byte) (i : Nat) : Nat := ofLe ((bs.drop (4 * i)).take 4)

/-- The fields of R109 from the eight words of an entry. -/
def entryOf (w : Nat → Nat) : Entry :=
  { h0 := (bits (w 0) 0 16 : Rat) / 16, ka := (bits (w 0) 16 16 : Rat) / 16384,
    dwell := bits (w 1) 0 16, ilim := (bits (w 1) 16 16 : Rat) / 4,
    feLim := (bits (w 2) 0 16 : Rat) / 16, feT := bits (w 2) 16 16,
    kpv := (bits (w 3) 0 16 : Rat) / 256, krv := (bits (w 3) 16 16 : Rat) / 256,
    wff := (bits (w 4) 0 16 : Rat) / 32768, kc := (bits (w 4) 16 16 : Rat) / 256,
    tag := bits (w 7) 0 16 }

/-- Entry e of a tile. -/
def tileEntry (t : Tile) (e : Nat) : Entry := entryOf fun i => wordAt (t.data.drop (32 * e)) i

/-- The Safe Region Entry of a plane (R114). -/
def sreEntry (s : State) (p : Plane) : Entry := entryOf fun i => par s (ctlSre p.code i)

/-- The bytes of the Safe Region Entry. -/
def sreBytes (s : State) (p : Plane) : List Byte := (List.range 8).flatMap fun i => le 4 (par s (ctlSre p.code i))

/-- CTL.x.SRE_CRC matches the Safe Region Entry (R114). -/
def sreOk (s : State) (p : Plane) : Bool := decide (crc32c (sreBytes s p) = par s (ctlSreCrc p.code))

/-- A written tile's content matches its CRC. -/
def tileOk (t : Tile) : Bool := t.written && decide (crc32c t.data = t.crc)

/-- The axis sizes NV, NI, NF of a window (R131). -/
def axes (s : State) (p : Plane) : Nat × Nat × Nat :=
  let w := par s (rgtSize p.code)
  (bits w 0 5 + 1, bits w 5 5 + 1, bits w 10 4 + 1)

/-- The number of tiles of a window (R106). -/
def windowTiles (s : State) (p : Plane) : Nat :=
  let a := axes s p
  (a.1 * a.2.1 * a.2.2 + 63) / 64

/-- A tile lies in a plane's window. -/
def inWindow (s : State) (p : Plane) (t : Nat) : Bool :=
  let b := par s (rgtBase p.code)
  decide (b ≤ t) && decide (t < b + windowTiles s p)

/-- The windows of two planes share a tile. -/
def windowsMeet (s : State) (p q : Plane) : Bool :=
  let a := par s (rgtBase p.code)
  let b := par s (rgtBase q.code)
  decide (a < b + windowTiles s q) && decide (b < a + windowTiles s p)

/-- Set or clear the TILE_BAD bit of a logical tile. -/
def setBad (t : Nat) (on : Bool) (s : State) : State :=
  updRgt (fun r => { r with bad := if on then r.bad ||| (1#192 <<< t) else r.bad &&& ~~~(1#192 <<< t) }) s

/-- Remove a tile from every cache. -/
def evict (t : Nat) (s : State) : State :=
  allPlanes.foldl (fun s p => updLane p (fun l => { l with cache := l.cache.filter (· ≠ t) }) s) s

/-- A tile has failed its CRC (R113). -/
def tileFails (t : Nat) (s : State) : State := raiseNum 0x07 t (evict t (setBad t true s))

/-- The bin of an axis (R108): recomputed only past an edge with hysteresis, at PLANE_ENABLE without it, and where the axis no
longer has the bin. ge c says that the quantity is at least c, so that a magnitude is compared by its square. With W = 0 the
manual gives no quotient (log entry 3). -/
def rebin (hys : Bool) (s : State) (p : Plane) (lo w : Nat) (n b : Nat) (ge : Rat → Bool) : Nat :=
  let l := ofQ16 (signedOf 32 lo)
  let wd : Rat := (w : Rat) / 65536
  let h := if hys then wd * par s (rgtHys p.code) / 256 else 0
  if !hys || decide (n ≤ b) || !ge (l + b * wd - h) || ge (l + (b + 1) * wd + h) then
    if w = 0 then Config.freeNat (s.free + p.code) % n
    else ((List.range (n - 1)).filter fun j => ge (l + ((j : Rat) + 1) * wd)).length
  else b

/-- x is at least c, and the root of x is at least c. -/
def atLeast (x c : Rat) : Bool := decide (c ≤ x)
def rootAtLeast (x c : Rat) : Bool := decide (c ≤ 0) || decide (c * c ≤ x)

/-- The lane's bins for the axis quantities of R107; the |i| axis is given by its square. -/
def rebinLane (hys : Bool) (p : Plane) (v iSq f : Rat) (s : State) : State :=
  let a := axes s p
  updLane p (fun l => { l with
    binV := rebin hys s p (par s (rgtVLo p.code)) (par s (rgtVW p.code)) a.1 l.binV (atLeast v)
    binI := rebin hys s p (par s (rgtILo p.code)) (par s (rgtIW p.code)) a.2.1 l.binI (rootAtLeast iSq)
    binF := rebin hys s p (par s (rgtFLo p.code)) (par s (rgtFW p.code)) a.2.2 l.binF (atLeast f) }) s

/-- The address of the entry for the lane's bins (R106). -/
def regionAddr (s : State) (p : Plane) : Nat :=
  let a := axes s p
  let l := lane s p
  64 * par s (rgtBase p.code) + (l.binV * a.2.1 + l.binI) * a.2.2 + l.binF

/-- Put a tile at the head of a cache of four, least recently used last (R111). -/
def touch (t : Nat) (c : List Nat) : List Nat := (t :: c.filter (· ≠ t)).take 4

/-- Take an entry into force, with CTL.x.REGION and SRE_CNT (R113, R130). -/
def takeEntry (p : Plane) (e : Entry) (sre : Bool) (s : State) : State :=
  let l := lane s p
  let s1 := setPar (ctlRegion p.code)
    (l.binV + 32 * l.binI + 1024 * l.binF + (if sre then 16384 else 0) + 65536 * e.tag)
    (updLane p (fun l => { l with entry := e, onSre := sre }) s)
  if sre then count (ctlSreCnt p.code) s1 else s1

/-- The region lookup of R108: a bad tile gives the Safe Region Entry, a cached one its entry, and a miss reads and verifies. -/
def regionLookup (p : Plane) (s : State) : State :=
  let ad := regionAddr s p
  let t := ad / 64
  let phys := tileAt s (physTile s t)
  if s.rgt.bad.getLsbD t then takeEntry p (sreEntry s p) true s
  else if (lane s p).cache.contains t || tileOk phys then
    takeEntry p (tileEntry phys (ad % 64)) false (updLane p (fun l => { l with cache := touch t l.cache }) s)
  else takeEntry p (sreEntry s p) true (tileFails t s)

/-- The cached tiles of every lane, the one verified longest ago first; a tile that has come into a cache was verified then. -/
def scrubOrder (s : State) : List (Nat × Nat) :=
  let now := allPlanes.flatMap fun p => (lane s p).cache.map fun t => (p.code, t)
  let old := s.rgt.scrubQ.filter now.contains
  old ++ now.filter fun x => !old.contains x

/-- The scrubber re-verifies one cached tile in a period (R112): with at most 16 of them, each comes within 16 periods. -/
def scrub (s : State) : State :=
  match scrubOrder s with
  | [] => updRgt (fun r => { r with scrubQ := [] }) s
  | x :: t =>
    let s1 := updRgt (fun r => { r with scrubQ := t ++ [x] }) s
    if tileOk (tileAt s (physTile s x.2)) then s1 else tileFails x.2 s1

/-- The 1 ms check of the Safe Region Entries (R112, R114): SRE_BAD and a SAFE request while READY, RUNNING or TEST. -/
def sreCheck (s : State) : State :=
  allPlanes.foldl (fun s p =>
    if activeSt (lane s p).st && !sreOk s p then causeAt p 0x05 0 (raiseNum 0x08 p.code s) else s) s

def execSreCheck (s : State) : Host.Outcome State Fault Refusal := .next (sreCheck s)

end Sys2Proof.Machine
end

