-- ==== Sys2Proof/Machine/Band.lean ====
section
/-! DEFINITION. Sys2Proof/Machine/Band.lean: the arithmetic of the band law (R92 to R103), as functions of numbers: classes,
sectors, the voltage lattice, vectors, feeder modes and port patterns. Magnitudes are compared by their squares. -/

namespace Sys2Proof.Machine

/-! ## αβ (R11) -/

/-- The amplitude-invariant Clarke transform, with √3·β in place of β. -/
def clarke (a b c : Rat) : AB := { a := (2 * a - b - c) / 3, b3 := b - c }

/-- |x|² of an αβ vector. -/
def normSq (x : AB) : Rat := x.a * x.a + x.b3 * x.b3 / 3

def abAdd (x y : AB) : AB := { a := x.a + y.a, b3 := x.b3 + y.b3 }
def abSub (x y : AB) : AB := { a := x.a - y.a, b3 := x.b3 - y.b3 }
def abScale (k : Rat) (x : AB) : AB := { a := k * x.a, b3 := k * x.b3 }

/-- A rotation by an angle in turns. -/
def abRot (t : Rat) (x : AB) : AB :=
  { a := cosT t * x.a - quotOr0 (sinT t * x.b3) Config.sqrt3,
    b3 := Config.sqrt3 * sinT t * x.a + cosT t * x.b3 }

/-- j·x: +90° (R115). -/
def abJ (x : AB) : AB := { a := -(x.b3 / Config.sqrt3), b3 := Config.sqrt3 * x.a }

/-- The three phase values of an αβ vector. -/
def phaseVals (x : AB) : List Rat := [x.a, (x.b3 - x.a) / 2, (-x.b3 - x.a) / 2]

/-- Limit |x| to a bound and keep the direction (R116); whether the limit acts. -/
def abLimit (lim : Rat) (x : AB) : AB × Bool :=
  if normSq x ≤ lim * lim then (x, false) else (abScale (lim / Config.sqrt (normSq x)) x, true)

/-! ## Class and sector (R93) -/

/-- The magnitude class from |e|² and h. -/
def classOf (sq h : Rat) : Nat :=
  if sq < h * h then 0 else if sq < 4 * (h * h) then 1 else if sq < 9 * (h * h) then 2 else 3

/-- The 30° step within the first quadrant of (x, y), x > 0 and y ≥ 0, y given as √3·y. -/
def step30 (x y3 : Rat) : Nat := if y3 < x then 0 else if y3 < 3 * x then 1 else 2

/-- The direction sector of an αβ error (R93). -/
def sectorOf (e : AB) : Nat :=
  if 0 < e.a ∧ 0 ≤ e.b3 then step30 e.a e.b3
  else if e.a ≤ 0 ∧ 0 < e.b3 then 3 + (if -3 * e.a < e.b3 then 0 else if -e.a < e.b3 then 1 else 2)
  else if e.a < 0 ∧ e.b3 ≤ 0 then 6 + step30 (-e.a) (-e.b3)
  else if 0 ≤ e.a ∧ e.b3 < 0 then 9 + (if 3 * e.a < -e.b3 then 0 else if e.a < -e.b3 then 1 else 2)
  else 0

/-! ## The lattice (R96 to R98) -/

/-- A point of the lattice. -/
abbrev Pt := Int × Int

def absI (x : Int) : Int := if x < 0 then -x else x

/-- Inside the lattice: |g|, |h|, |g + h| at most 2. -/
def inLattice (p : Pt) : Bool := decide (absI p.1 ≤ 2) && decide (absI p.2 ≤ 2) && decide (absI (p.1 + p.2) ≤ 2)

/-- The 19 points. -/
def lattice : List Pt :=
  ([-2, -1, 0, 1, 2].flatMap fun g => [-2, -1, 0, 1, 2].map fun h => (g, h)).filter inLattice

/-- The distance form Q. -/
def distQ (g h : Rat) (p : Pt) : Rat := (p.1 - g) * (p.1 - g) + (p.1 - g) * (p.2 - h) + (p.2 - h) * (p.2 - h)

/-- One point is before another: least Q, then |g| + |h| + |g + h|, then g, then h (R96). -/
def ptBefore (g h : Rat) (p q : Pt) : Bool :=
  let s (x : Pt) : Int := absI x.1 + absI x.2 + absI (x.1 + x.2)
  if distQ g h p = distQ g h q then
    if s p = s q then (if p.1 = q.1 then decide (p.2 < q.2) else decide (p.1 < q.1)) else decide (s p < s q)
  else decide (distQ g h p < distQ g h q)

/-- The first point of a list in that order. -/
def bestPt (g h : Rat) : List Pt → Pt → Pt
  | [], b => b
  | p :: t, b => bestPt g h t (if ptBefore g h p b then p else b)

/-- The nearest point of the whole lattice. -/
def nearestPt (g h : Rat) : Pt := bestPt g h lattice (0, 0)

/-- The base point for v_ff and V_DC (R96). -/
def basePt (v : AB) (vdc : Rat) : Pt :=
  let u := vdc / 2
  let g := if u < 1 then 0 else (3 * v.a - v.b3) / 2 / u
  let h := if u < 1 then 0 else v.b3 / u
  let fg := g.floor
  let fh := h.floor
  match [(fg, fh), (fg + 1, fh), (fg, fh + 1), (fg + 1, fh + 1)].filter inLattice with
  | [] => nearestPt g h
  | p :: t => bestPt g h t p

/-- A nibble of a vector-table byte as a step. -/
def nibble (w : Nat) : Int := signedOf 4 w

/-- Entry i of a vector table (R97). -/
def vtStep (s : State) (p : Plane) (i : Nat) : Pt :=
  let b := bits (par s (ctlVt0 p.code + i / 4)) (8 * (i % 4)) 8
  (nibble (bits b 0 4), nibble (bits b 4 4))

/-- The target for class c and sector s, clipped to the lattice (R97, R98). -/
def targetPt (s : State) (p : Plane) (b : Pt) (sect cls : Nat) : Pt :=
  let d := vtStep s p (3 * sect + (cls - 1))
  let t := (b.1 + d.1, b.2 + d.2)
  if inLattice t then t else nearestPt t.1 t.2

/-- The switch vectors on a point: levels of the three phases, by rising code 9·L_a + 3·L_b + L_c (R96). -/
def codesOf (t : Pt) : List (Nat × Nat × Nat) :=
  ((List.range 27).map fun c => (c / 9, c / 3 % 3, c % 3)).filter fun l =>
    (l.1 : Int) - l.2.1 = t.1 ∧ (l.2.1 : Int) - l.2.2 = t.2

/-! ## Phases and patterns (R95) -/

/-- The sign a phase's voltage takes: it changes only past zero by NP_DB / 2. -/
def phaseSign (db v : Rat) (was : Bool) : Bool :=
  if was then !(decide (v < 0) && decide (v ≤ -(db / 2))) else decide (0 < v) && decide (db / 2 ≤ v)

/-- A phase after a decision for level l: the mode follows the sign at P and N, and is kept at O (R95). A phase that comes to O at the
decision in which a change of sign takes effect keeps its old mode, and a phase at O at the first decision has the mode of its context
in READY: the manual names neither (DESIGN CHOICE, log entry 79). -/
def phaseTo (db v : Rat) (ph : Phase) (l : Nat) : Phase :=
  let sg := phaseSign db v ph.sgn
  { lvl := l, sgn := sg, pos := if l = 1 then ph.pos else sg }

/-- UF, LF, OUT of a phase (R95). -/
def phasePorts (ph : Phase) : List Bool :=
  if ph.lvl = 2 then [true, true, true]
  else if ph.lvl = 0 then [false, false, false]
  else if ph.pos then [true, true, false] else [false, false, true]

/-- The PULSE bits of a list of phases, three ports each. -/
def phasesPulse (l : List Phase) : BitVec 18 :=
  ((l.flatMap phasePorts).zipIdx).foldl (fun m x => if x.1 then m ||| (1#18 <<< x.2) else m) 0

/-- The first n port-index bits. -/
def lowBits (n : Nat) : BitVec 18 := BitVec.ofNat 18 (2 ^ n - 1)

/-- A level read back from the three ports of a phase. -/
def levelOf (uf lf out : Bool) : Nat := if out && uf then 2 else if !out && !lf then 0 else 1

/-- Ports of a set that change between two patterns. -/
def changed (a b : BitVec 18) : BitVec 18 := Nat.xor a.toNat b.toNat |> BitVec.ofNat 18

/-- The number of ports that change. -/
def popcount (m : BitVec 18) : Nat := (List.range 18).foldl (fun k i => if m.getLsbD i then k + 1 else k) 0

/-- A change of the ports of `m` breaks the dwell rule (R100): the dwell at S_k+1 of one of them is below DWELL. -/
def breaksDwell (dwell : List (Option Nat)) (need : Nat) (m : BitVec 18) : Bool :=
  (List.range 18).any fun i => m.getLsbD i && (match dwell.getD i none with
    | none => false
    | some t => decide (t < need))

/-- The current at the neutral point: the phase currents of the phases at O (R99). -/
def iNp (lv : List Nat) (i : List Rat) : Rat :=
  ((lv.zip i).filter (·.1 = 1)).foldl (fun a x => a + x.2) 0

/-- One candidate of a selection. -/
structure Cand where
  code   : Nat
  phases : List Phase
  pulse  : BitVec 18
  weight : Rat
  moves  : Nat
  deriving DecidableEq, Repr

/-- The better of two candidates: by weight where ΔV counts, then by changes, then by code (R99). -/
def candBefore (a b : Cand) : Bool :=
  if a.weight = b.weight then (if a.moves = b.moves then decide (a.code < b.code) else decide (a.moves < b.moves))
  else decide (a.weight < b.weight)

/-- The best candidate. -/
def bestCand : List Cand → Option Cand
  | [] => none
  | c :: t => match bestCand t with
    | none => some c
    | some d => if candBefore d c then some d else some c

/-- Two-level decision with hysteresis (R102, R103): on at e ≥ h, off at e ≤ −h, else as before. -/
def hystDecide (h e : Rat) (was : Option Bool) : Option Bool :=
  if h ≤ e then some true else if e ≤ -h then some false else was

end Sys2Proof.Machine
end

