-- ==== Sys2Proof/Machine/Modulator.lean ====
section
/-! DEFINITION. Sys2Proof/Machine/Modulator.lean: the carrier counter and period sets (R134 to R143), compare words (R142), the
seed and the ramp of a hand-over (R158, R159), carrier reloads and feeder steps. -/

namespace Sys2Proof.Machine

/-- Tc in seconds. -/
def tcSec (s : State) : Rat := (nCyc s : Rat) / 400000000

/-! ## The carrier's output -/

/-- PULSE and ENABLE of one port word at counter value C (R135). -/
def wordAtCount (w : PortWord) (up : Bool) (c : Nat) : Bool × Bool :=
  match w.act with
  | 0 => (if up then decide (c < w.cmp) else decide (c ≤ w.cmp), true)
  | 1 => (false, true)
  | 2 => (true, true)
  | _ => (false, false)

/-- The pattern of a list of port words at a counter value. -/
def wordsPat (ws : List PortWord) (up : Bool) (c : Nat) : Pat :=
  (ws.zipIdx).foldl (fun o x =>
    let r := wordAtCount x.1 up c
    { pulse := if r.1 then o.pulse ||| (1#18 <<< x.2) else o.pulse,
      en := if r.2 then o.en ||| (1#18 <<< x.2) else o.en }) {}

/-- The words that hold a pattern: LOW, HIGH or OFF at each of n ports. -/
def holdWords (n : Nat) (o : Pat) : List PortWord :=
  (List.range n).map fun i => { act := if !o.en.getLsbD i then 3 else if o.pulse.getLsbD i then 2 else 1 }

/-- MOD.x.RELOAD takes a valley or a peak (R137). -/
def reloadTakes (s : State) (p : Plane) (valley : Bool) : Bool :=
  match par s (modReload p.code) with
  | 0 => valley
  | 1 => !valley
  | _ => true

/-! ## The counter and its sets as data (R134 to R139, R143) -/

/-- The idle feeder of a change: UF on POS to NEG, LF on NEG to POS (R143). -/
def firstFeeder (i : Nat) (toPos : Bool) : Nat := if toPos then 3 * i + 1 else 3 * i

def secondFeeder (i : Nat) (toPos : Bool) : Nat := if toPos then 3 * i else 3 * i + 1

/-- Phases of a three-level plane whose mode a new set changes: feeders HIGH to LOW or back (R143). -/
def modeChanges (at' : Int) (gap : Nat) (old new : List PortWord) : List FeedStep :=
  (List.range (new.length / 3)).filterMap fun i =>
    let a := (old.getD (3 * i) {}).act
    let b := (new.getD (3 * i) {}).act
    if (a = 2 ∧ b = 1) ∨ (a = 1 ∧ b = 2) then some { phase := i, toPos := decide (b = 2), step := 2, due := at' + gap }
    else none

/-- A set becomes active at a cycle: words in use change at once, but for phases that change mode, where only the idle feeder
does, and OUT holds its output of the cycle before, `was` (R143). -/
def activate (p : Plane) (at' : Int) (gap : Nat) (was : Pat) (set : PeriodSet) (m : Mod) : Mod :=
  let steps := if p = .g ∨ p = .m then modeChanges at' gap m.inUse set.ports else []
  let feeders := steps.flatMap fun f => [3 * f.phase, 3 * f.phase + 1]
  let outs := steps.map fun f => 3 * f.phase + 2
  let still := holdWords set.ports.length was
  let use0 := (List.range set.ports.length).map fun i =>
    if feeders.contains i then m.inUse.getD i {} else if outs.contains i then still.getD i {} else set.ports.getD i {}
  { m with
    active := set
    inUse := steps.foldl (fun u f => u.set (firstFeeder f.phase f.toPos)
      (set.ports.getD (firstFeeder f.phase f.toPos) {})) use0
    steps := steps }

/-- Take one word of the active set into use. -/
def takeWord (m : Mod) (i : Nat) : Mod := { m with inUse := m.inUse.set i (m.active.ports.getD i {}) }

/-- One feeder step: OUT takes its new word, or the other feeder (R143). -/
def feedStep (gap : Nat) (f : FeedStep) (m : Mod) : Mod :=
  let rest := m.steps.filter (· ≠ f)
  if f.step = 2 then
    { takeWord m (3 * f.phase + 2) with steps := rest ++ [{ f with step := 3, due := f.due + gap }] }
  else { takeWord m (secondFeeder f.phase f.toPos) with steps := rest }

/-- The cycle of the counter's next turning point, relative to the last strobe; the alignment acts on the up-count (R153). -/
def nextTurn (m : Mod) : Int := m.turnAt + m.active.per + (if m.up then m.adj else 0)

/-- The feeder step that is due first. -/
def firstStep (m : Mod) : Option FeedStep :=
  m.steps.foldl (fun a f => match a with
    | none => some f
    | some g => if f.due < g.due then some f else a) none

/-- The counter turns (R134, R137): a valley starts the up-count, a peak the down-count. -/
def turned (m : Mod) : Mod := { m with up := !m.up, turnAt := nextTurn m, adj := if m.up then 0 else m.adj }

/-- The counter value at a cycle. -/
def countAt (m : Mod) (x : Int) : Nat := (if m.up then x - m.turnAt else (m.active.per : Int) - (x - m.turnAt)).toNat

/-- The pattern of a modulator's carrier at a cycle. -/
def patAt (m : Mod) (x : Int) : Pat := wordsPat m.inUse m.up (countAt m x)

/-- The mode source's output at a cycle: the lane's decision in BAND, the carrier in CARRIER (R132). -/
def srcAt (m : Mod) (x : Int) : Pat := if m.carrier then patAt m x else m.src

/-- The mode source switches from BAND to the carrier at a turning point that has just come (R158): the words in use are those that
hold the band decision, so that a phase whose mode the seeded set changes takes the steps of R143. -/
def exitMod (p : Plane) (gap : Nat) (m : Mod) : Mod :=
  { activate p m.turnAt gap m.src m.shadow { m with inUse := holdWords m.shadow.ports.length m.src, steps := [] } with
    armed := false, seedWait := false, exitWait := false, exitCmd := false, exitCnt := 0, carrier := true, rampR := 0 }

/-- What a turning point that has just come does to the sets: the exit at V, or the reload of an armed shadow. `was` is the carrier's
output in the cycle before. -/
def turnSets (p : Plane) (gap : Nat) (takes : Bool) (was : Pat) (m : Mod) : Mod :=
  if m.seedWait then (if m.up then exitMod p gap m else m)
  else if takes && m.armed then { activate p m.turnAt gap was m.shadow m with armed := false } else m

/-- The modulator up to a cycle, for the prediction of R157: turns, reloads and feeder steps in their order. -/
def predict (s : State) (p : Plane) (x : Int) : Nat → Mod → Mod
  | 0, m => m
  | n + 1, m =>
    let gap := par s (modFeedGap p.code)
    let turn (_ : Unit) : Mod :=
      let t := turned m
      turnSets p gap (reloadTakes s p t.up) (patAt m (t.turnAt - 1)) t
    match firstStep m with
    | some f =>
      if f.due ≤ x ∧ f.due ≤ nextTurn m then predict s p x n (feedStep gap f m)
      else if nextTurn m ≤ x then predict s p x n (turn ())
      else m
    | none => if nextTurn m ≤ x then predict s p x n (turn ()) else m

/-- The mode source's output of a plane at a cycle to come, from the counter and the set that will be active then (R157). -/
def carrierPat (s : State) (p : Plane) (x : Int) : Pat := srcAt (predict s p x 32 (modr s p)) x

/-- The next valley after the last strobe, in cycles from it. -/
def nextValley (m : Mod) : Int := if m.up then nextTurn m + m.active.per else nextTurn m

/-! ## Compare words (R142) -/

/-- A quotient by a link voltage: 0 when the divisor is below 1 V (R96). -/
def quot (x d : Rat) : Rat := if d < 1 then 0 else x / d

/-- Dead-time compensation of a compare value. -/
def dtComp (s : State) (p : Plane) (port : Nat) (i ilim : Rat) (cmp : Int) : Int :=
  if par s (modDtcomp p.code) = 1 ∧ ilim / 50 ≤ absR i then
    let h := roundAway ((deadCycles s (basePort p + port) : Rat) / 2)
    if 0 < i then cmp + h else if i < 0 then cmp - h else cmp
  else cmp

/-- Clamp and minimum pulse (R142). -/
def minPulse (per dwell : Nat) (cmp : Int) : Nat :=
  let c := (clampI 0 per cmp).toNat
  if 2 * c < dwell then 0 else if 2 * (per - c) < dwell then per else c

/-- The compare value of a three-level phase before compensation, for its mode. -/
def phaseCmp (vp vn : Rat) (per : Nat) (pos : Bool) (u : Rat) : Int :=
  if pos then roundAway (quot u vp * per) else roundAway ((1 + quot u vn) * per)

/-- The three words of a phase: feeders by the mode, OUT compares. -/
def phaseWords (pos : Bool) (cmp : Nat) : List PortWord :=
  if pos then [{ act := 2 }, { act := 2 }, { act := 0, cmp := cmp }]
  else [{ act := 1 }, { act := 1 }, { act := 0, cmp := cmp }]

/-- The set words of the phases of one plane: voltage, current and mode of each. `comp` applies compensation. -/
def phaseSet (s : State) (p : Plane) (e : Entry) (vp vn : Rat) (per : Nat) (comp : Bool)
    (ps : List (Rat × Rat × Bool)) : List PortWord :=
  (ps.zipIdx).flatMap fun x =>
    let u := clampR (-vn) vp x.1.1
    let c := phaseCmp vp vn per x.1.2.2 u
    let c1 := if comp then dtComp s p (3 * x.2 + 2) x.1.2.1 e.ilim c else c
    phaseWords x.1.2.2 (minPulse per e.dwell c1)

/-- Common-mode injection of R142. -/
def withZsi (on : Bool) (l : List Rat) : List Rat :=
  if on then
    let mx := l.foldl max (l.headD 0)
    let mn := l.foldl min (l.headD 0)
    l.map (· - (mx + mn) / 2)
  else l

/-- The word of a plane D leg for a duty. -/
def legWord (s : State) (e : Entry) (per : Nat) (comp : Bool) (n : Nat) (d i : Rat) : PortWord :=
  let c := roundAway (clampR 0 1 d * per)
  let c1 := if comp then dtComp s .d n i e.ilim c else c
  { act := 0, cmp := minPulse per e.dwell c1 }

/-! ## The seed of R158 -/

/-- Cycles for which a test held within a window, from the patterns kept, newest first. -/
def cyclesWhere (f : Pat → Bool) : List (Pat × Nat) → Nat → Nat
  | [], _ => 0
  | (o, d) :: t, left => if left = 0 then 0 else (if f o then min d left else 0) + cyclesWhere f t (left - d)

/-- Add a stretch of one pattern to those kept; stretches older than the longest PERIOD are not needed. -/
def keepPat (o : Pat) (d : Nat) (l : List (Pat × Nat)) : List (Pat × Nat) :=
  match l with
  | (q, e) :: t => if q = o then (q, e + d) :: t else (o, d) :: (q, e) :: t.take 40000
  | [] => [(o, d)]

/-- The output at the pulse interface over d cycles from one, with the modulator of each cycle, put before what is kept. -/
def keepCycles (p : Plane) (s : State) (f : Int → Mod) (from' : Int) (d : Nat) (l : List (Pat × Nat)) : List (Pat × Nat) :=
  (List.range d).foldl (fun l i => keepPat (throughCut p s (srcAt (f (from' + i)) (from' + i))) 1 l) l

/-- Keep the output at the pulse interface up to a cycle after the last strobe (R100, R158). -/
def keepUntil (p : Plane) (x : Int) (s : State) : State :=
  let m := modr s p
  if (lane s p).st ≠ .running then updMod p (fun m => { m with past := [], accTo := x }) s
  else
    let d := (x - m.accTo).toNat
    let past := if m.carrier then keepCycles p s (fun _ => m) m.accTo d m.past else if d = 0 then m.past else keepPat m.out d m.past
    updMod p (fun m => { m with past := past, accTo := max m.accTo x }) s

/-- Cycles for which port i has had the output of a pattern, up to the end of what is kept; none when it has not changed since
PLANE_START, where every dwell counts as expired (R89, R100). -/
def sinceChange (i : Nat) (o : Pat) : List (Pat × Nat) → Option Nat
  | [] => none
  | (q, d) :: t =>
    if q.pulse.getLsbD i = o.pulse.getLsbD i ∧ q.en.getLsbD i = o.en.getLsbD i then (sinceChange i o t).map (· + d) else some 0

/-- The dwell of every port at S_k+1, n cycles after S_k, in BAND: the output stays as it is (R100). -/
def bandDwell (n : Nat) (p : Plane) (s : State) : List (Option Nat) :=
  (List.range 18).map fun i => (sinceChange i (modr s p).out (modr s p).past).map (· + n)

/-- The dwell of every port at S_k+1 at an entry to BAND, from the change times at the pulse interface (R157); `o` is the output
there. The cut latch clears at that strobe (R148, R160). -/
def entryDwell (n : Nat) (p : Plane) (o : Pat) (s : State) : List (Option Nat) :=
  let past := keepCycles p s (fun x => predict s p x 32 (modr s p)) (modr s p).accTo (n - (modr s p).accTo).toNat (modr s p).past
  (List.range 18).map fun i => sinceChange i o past

/-- The level of phase i in a pattern. -/
def patLevel (o : Pat) (i : Nat) : Nat :=
  levelOf (o.pulse.getLsbD (3 * i)) (o.pulse.getLsbD (3 * i + 1)) (o.pulse.getLsbD (3 * i + 2))

/-- u_seed of phase i. -/
def seedVolt (s : State) (p : Plane) (vp vn : Rat) (i : Nat) : Rat :=
  let per := par s (modPeriod p.code)
  let past := (modr s p).past
  ((cyclesWhere (fun o => o.en.getLsbD (3 * i + 2) && patLevel o i = 2) past per : Rat) * vp
    - (cyclesWhere (fun o => o.en.getLsbD (3 * i + 2) && patLevel o i = 0) past per : Rat) * vn) / per

/-- d_seed of leg n. -/
def seedDuty (s : State) (n : Nat) : Rat :=
  let per := par s (modPeriod 2)
  (cyclesWhere (fun o => o.en.getLsbD n && o.pulse.getLsbD n) (modr s .d).past per : Rat) / per

/-- The compare values of a set that ramps from the seed: CMP_dem + Δ (M − r) / M, Δ scaled to the new PER (R159, R160). -/
def rampWords (mM r : Nat) (per per0 : Nat) (delta : List Int) (ws : List PortWord) : List PortWord :=
  (ws.zipIdx).map fun x =>
    if x.1.act = 0 ∧ r < mM then
      { x.1 with cmp := (clampI 0 per (roundAway (x.1.cmp +
          (delta.getD x.2 0 : Rat) * per / max 1 per0 * ((mM : Rat) - r) / max 1 mM))).toNat }
    else x.1

/-- Δ of each word: seed less demand, 0 where the actions of the phase differ (R159). -/
def seedDelta (seed dem : List PortWord) (perPhase : Bool) : List Int :=
  (List.range seed.length).map fun i =>
    let a := seed.getD i {}
    let b := dem.getD i {}
    let same := if perPhase then (seed.getD (3 * (i / 3)) {}).act = (dem.getD (3 * (i / 3)) {}).act else true
    if a.act = 0 ∧ b.act = 0 ∧ same then (a.cmp : Int) - b.cmp else 0

/-! ## Reloads (R137 to R139, R143, R158) -/

/-- Set a sticky bit of MOD.x.STATUS and count. -/
def modSticky (p : Plane) (bit : Nat) (cnt : Option Nat) (s : State) : State :=
  let s1 := raiseFlag (modStatus p.code) bit p.code s
  match cnt with
  | some id => count id s1
  | none => s1

/-- The reload of R139 on the state of the shadow at the end of the cycle before, with the write that lands in its cycle, which
follows as its own command; `was` is the carrier's output in the cycle before. -/
def reload (p : Plane) (was : Pat) (w : RaceWrite) (s : State) : State :=
  let m := modr s p
  let late (s : State) : State := modSticky p 5 (some (modLateWriteCnt p.code)) s
  if m.armed then
    let s1 := updMod p (turnSets p (par s (modFeedGap p.code)) true was) s
    if w = .word then late s1 else s1
  else if w = .valid then late s
  else if m.dirty then modSticky p 4 (some (modIncompleteCnt p.code)) s
  else s

/-- A period ends at a cycle: the cut latch clears and the boundary count is written (R145, R146); none while halted (R152). -/
def endPeriod (p : Plane) (x : Int) (s : State) : State :=
  if s.isl.halted || decide ((modr s p).lastEnd = some x) then s
  else updMod p (fun m => { m with cut := 0, bnd := m.bnd + 1, lastEnd := some x }) s

/-- CARRIER is in force and the plane RUNNING. -/
def carrierOn (s : State) (p : Plane) : Bool := (modr s p).carrier && (lane s p).st == .running

/-- Show the carrier's output at a cycle at the pulse interface. -/
def showCarrier (p : Plane) (cyc : Int) (s : State) : State :=
  if carrierOn s p then refreshOut p (updMod p (fun m => { m with src := patAt m cyc }) s) else s

/-- Set the carrier-aligned sample of a port for a plane. -/
def putCas (p : Plane) (v : Option Int) (q : MPort) : MPort :=
  match p with
  | .g => { q with casG := v }
  | .m => { q with casM := v }
  | _ => { q with casD := v }

/-- A new spell of CARRIER, or of BAND, has no carrier-aligned sample yet. -/
def clearCas (p : Plane) (s : State) : State := (List.range 24).foldl (fun s n => updMport n (putCas p none) s) s

/-- The carrier-aligned samples of a plane at a tap (R80), from the lines since the last strobe, k bits of them by the tap; a second
tap in the period counts CAS_LOST. -/
def takeCas (p : Plane) (bs : List Nat) (k : Nat) (s : State) : State :=
  if !carrierOn s p || p = .b then s else
  let osr := par s measOsrC
  let ns := (required s p).filterMap (sigPort s)
  let s1 := ns.foldl (fun s n =>
    let q := mport s n
    let got := (ctlBits s n (bs.getD n 0) (mdDiv s) k q.rx).1
    let h := (List.range k).foldl (fun h i => (2 * h + (if got.testBit i then 1 else 0)) % 2 ^ 3000) q.hist
    updMport n (putCas p (some (engValue s n (normalised (osr ^ 3) (tapValue h osr))))) s) s
  if (lane s p).casTaken then count (ctlCasLostCnt p.code) s1
  else updLane p (fun l => { l with casTaken := true }) s1

/-- The switch from BAND to the carrier at the valley V (R158). -/
def exitAtValley (p : Plane) (s : State) : State :=
  if (modr s p).seedWait then count (modExitCnt p.code) (updMod p (exitMod p (par s (modFeedGap p.code))) s) else s

/-- The ramp of R159 counts reloads, and ends at M. -/
def rampCount (p : Plane) (s : State) : State :=
  let m := modr s p
  if m.ramp then
    if par s (modSeedM p.code) ≤ m.rampR + 1 then
      updMod p (fun m => { m with ramp := false, delta := [], rampR := 0 }) s
    else updMod p (fun m => { m with rampR := m.rampR + 1 }) s
  else s

/-! ## Changes within a period -/

/-- Keep the output up to a cycle of the present period, as far as the counter's events have come (log entry 15). -/
def keepTo (p : Plane) (x : Nat) (s : State) : State :=
  keepUntil p (if p = .b then (x : Int) else min (x : Int) (nextTurn (modr s p))) s

/-- Cuts of a plane written to COL11 arrive in ISL_CTL, `at'` cycles after the last strobe (R146): the latch is set when the tag names
the period in force, and the cut is acknowledged. A halted ISL_CTL takes none (R152). -/
def cutArrival (p : Plane) (at' : Nat) (s : State) : State :=
  if s.isl.halted || !s.isl.ctl then s else
  let here := s.prt.cuts.filter fun c => c.plane = p.code ∧ c.stage = 1
  let now := here.filter fun c => c.tag = (modr s p).bnd
  let m := now.foldl (fun m c => m ||| ofPorts p c.ports) 0
  let s1 := updPrt (fun r => { r with
    cuts := r.cuts.map fun c => if c.plane = p.code ∧ c.stage = 1 then { c with stage := 2 } else c }) (keepTo p at' s)
  refreshOut p (updMod p (fun x => { x with cut := x.cut ||| m }) s1)

def execCutArrival (p : Timed Plane) (s : State) : Host.Outcome State Fault Refusal := .next (cutArrival p.what p.cycle s)

end Sys2Proof.Machine
end

