-- ==== Sys2Proof/Machine/Clock.lean ====
section
/-! DEFINITION. Sys2Proof/Machine/Clock.lean: PLL_M, PLL_P, the fallback of ISL_CTL and phase stepping (chapter 09), and the
advance of the four time bases at a strobe (R267 to R270). -/

namespace Sys2Proof.Machine

/-! ## PLL_M (R250 to R254) -/

/-- The state of PLL_M: 0 ACQUIRE, 1 LOCKED, 2 HOLDOVER, 3 RELOCK. -/
def pllm (s : State) : Nat := parBits s clkPllmStatus 0 3

/-- The module is head of its Yarrow chain (R309). -/
def isHead (s : State) : Bool := parBit s ybusStatus 4

/-- A member of a group whose T_BUS is invalid, or which is the outlier of R281: its units act locally and its carrier marks count as
missing (R384). -/
def timeBad (s : State) : Bool := decide (par s redGroupId ≠ 0) && (!s.time.busOk || s.time.outlier)

/-- Take a state of PLL_M and a reference in use. -/
def setPllm (st ref : Nat) (s : State) : State := setParBits clkPllmStatus 3 2 ref (setParBits clkPllmStatus 0 3 st s)

/-- Enter HOLDOVER: no reference in use, CLK_HOLDOVER, HOLD_CNT (R251). -/
def enterHoldover (s : State) : State :=
  raiseFlag clkEvents 0 0 (count clkHoldCnt (setPllm 2 3 s))

/-- A reference counts as not qualified: at the head, YCLK never qualifies (R309). -/
def mayQualify (ref : Nat) (s : State) : Bool := !(ref == 1 && isHead s)

/-- Start RELOCK onto a reference (R252, R253). -/
def relock (ref : Nat) (s : State) : State := setPllm 3 ref s

/-- PLL_M loses its reference in LOCKED or RELOCK (R251). -/
def clkHoldover (s : State) : State :=
  if pllm s = 1 ∨ pllm s = 3 then
    let alt := decide (parBits s clkPllmStatus 3 2 ≠ par s clkRefSel)
    enterHoldover (setParBit clkPllmStatus (if alt then 8 else 7) false s)
  else s

def execClkHoldover (s : State) : Host.Outcome State Fault Refusal := .next (clkHoldover s)

/-- A reference qualifies (R252); the primary starts RELOCK in HOLDOVER. -/
def refQualified (alt : Bool) (s : State) : State :=
  let ref := if alt then par s clkRefAlt else par s clkRefSel
  if ref = 3 ∨ !mayQualify ref s then s
  else
    let s1 := setParBit clkPllmStatus (if alt then 8 else 7) true s
    if !alt ∧ pllm s = 2 then relock ref s1 else s1

def execRefQualified (alt : Bool) (s : State) : Host.Outcome State Fault Refusal := .next (refQualified alt s)

/-- REF_WAIT has passed in HOLDOVER and the alternate is qualified (R252). -/
def clkAltUsed (s : State) : State :=
  if pllm s = 2 ∧ par s clkRefAlt ≠ 3 ∧ parBit s clkPllmStatus 8 then
    raiseFlag clkEvents 1 0 (relock (par s clkRefAlt) s)
  else s

def execClkAltUsed (s : State) : Host.Outcome State Fault Refusal := .next (clkAltUsed s)

/-- A write of REF_SEL: through HOLDOVER to RELOCK once the new reference qualifies (R252, R265). -/
def refSelWritten (s : State) : State :=
  let s1 := setParBit clkPllmStatus 7 false s
  if pllm s = 1 ∨ pllm s = 3 then enterHoldover s1
  else if pllm s = 0 then setPllm 0 (par s clkRefSel) s1 else s1

/-- A write of REF_ALT: another alternate has to qualify for itself (R252). -/
def refAltWritten (old v : Nat) (s : State) : State := if old = v then s else setParBit clkPllmStatus 8 false s

/-- A write of REF_MODE or PLLM_BW: through HOLDOVER to RELOCK with the new setting, onto the reference in use (R265); a PLL_M that
runs on the alternate stays on it (R252). -/
def refModeWritten (s : State) : State :=
  if pllm s = 1 ∨ pllm s = 3 then
    let use := parBits s clkPllmStatus 3 2
    let s1 := enterHoldover s
    if parBit s clkPllmStatus (if use = par s clkRefSel then 7 else 8) then relock use s1 else s1
  else s

/-! ## Fallback (R257 to R260) -/

/-- The move begins: every active plane to its safe state with cause 0x11, then the switch request (R258). -/
def startFallback (s : State) : State :=
  if onFbo s || s.clk.fbReq || !s.isl.prt then s
  else { causeEvery 0x11 0 s with clk := { s.clk with fbReq := true } }

/-- PLL_M has been in HOLDOVER for HOLDOVER_MAX (R257). -/
def execHoldoverMax (s : State) : Host.Outcome State Fault Refusal :=
  .next (if pllm s = 2 then startFallback s else s)

/-- Clear ALIGNED of every modulator with SYNC = YMRK (R259, R152). -/
def unalign (s : State) : State :=
  allPlanes.foldl (fun s p => if par s (modSync p.code) = 1 then updMod p (fun m => { m with aligned := false }) s else s) s

/-- The clock selector moves to the FBO, by a request that Sorrel sends when every step of its patterns has left (R258, R259). -/
def clkFallback (s : State) : State :=
  if s.clk.fbReq && decide (s.prt.ascStep = 0) then
    let s1 := setPar clkPhasePend 0 (setParBit clkPllmStatus 5 true { s with clk := { s.clk with fbReq := false } })
    raiseFlag clkEvents 2 0 (count clkFallbackCnt (unalign s1))
  else s

def execClkFallback (s : State) : Host.Outcome State Fault Refusal := .next (clkFallback s)

/-- The return to PLL_M (R260). -/
def clkReturn (s : State) : State :=
  if onFbo s && decide (pllm s = 1) && decide (absI (signedOf 16 (par s clkPllmFerr)) ≤ 500) then
    raiseFlag clkEvents 3 0 (setParBit clkPllmStatus 5 false s)
  else s

def execClkReturn (s : State) : Host.Outcome State Fault Refusal := .next (clkReturn s)

/-! ## The frequency windows (R255, R256, R257) -/

/-- A frequency error as its register holds it, saturating. -/
def ferrWord (x : Int) : Nat := toBits 16 (clampI (-32767) 32767 x)

/-- XREF_EXT is selected: XREF_FERR measures it in place of the TCXO (R255). -/
def extSelected (s : State) : Bool := decide (par s clkRefSel = 2) || decide (parBits s clkPllmStatus 3 2 = 2)

/-- The error of a reference in a window, 0.1 ppm, where the window measures it; an absent YCLK lies beyond every limit. -/
def refError (s : State) (w : FreqWin) (ref : Nat) : Option Int :=
  if ref = 1 then some (w.yclk.getD 100000) else if (ref = 2) == extSelected s then some w.xref else none

/-- A reference lies beyond ±200 ppm in a window (R251, R252). -/
def refBeyond (s : State) (w : FreqWin) (ref : Nat) : Bool := (refError s w ref).any fun e => decide (2000 < absI e)

/-- The references that this window shows beyond ±200 ppm are qualified no more, and PLL_M leaves the one in use (R251, R252). -/
def disqualify (w : FreqWin) (s : State) : State :=
  let drop (id b : Nat) (s : State) : State :=
    if par s id ≠ 3 ∧ refBeyond s w (par s id) then setParBit clkPllmStatus b false s else s
  let use := parBits s clkPllmStatus 3 2
  let s1 := drop clkRefAlt 8 (drop clkRefSel 7 s)
  if use ≠ 3 ∧ refBeyond s w use then clkHoldover s1 else s1

/-- One 10 ms window of ISL_PRT: the errors of PLL_M, of the TCXO (or XREF_EXT in its place) and of YCLK in 0.1 ppm, whether a tuning
word reached a clamp, and the increment of T_MONO for a cycle of the FBO. -/
def freqWindow (w : FreqWin) (s : State) : State :=
  if !s.isl.prt then s
  else
    let s1 := setPar clkYclkFerr (match w.yclk with | some y => ferrWord y | none => 0x8000)
      (setPar clkXrefFerr (ferrWord w.xref) (setPar clkPllmFerr (ferrWord w.pllm) s))
    let dis := !extSelected s && decide (1500 < absI w.xref)
    let s2 := { s1 with time := { s1.time with fboInc := w.fbo }, clk := { s1.clk with disagree := dis } }
    let s3 := if dis then raiseFlag clkEvents 5 0 s2 else s2
    let s4 := disqualify w (if w.clamp then raiseFlag clkEvents 4 0 s3 else s3)
    if 5000 < absI w.pllm ∧ !dis then startFallback s4 else s4

def execFreqWindow (w : FreqWin) (s : State) : Host.Outcome State Fault Refusal := .next (freqWindow w s)

/-! ## PLL_P (R263, R264) -/

def execClkPrtHold (s : State) : Host.Outcome State Fault Refusal :=
  .next (if par s clkPllpStatus = 1 then raiseFlag clkEvents 6 0 (setPar clkPllpStatus 2 s) else s)

def execPllPLocked (s : State) : Host.Outcome State Fault Refusal :=
  .next (if s.isl.power then setPar clkPllpStatus 1 (leaveReset s) else s)

/-! ## Phase stepping (R261, R262) -/

/-- PHASE_PEND as a signed number. -/
def phasePend (s : State) : Int := signedOf 9 (par s clkPhasePend)

/-- One step of the tap selector: PHASE_PEND towards 0, PHASE_ACC, and the marks, which are counted in CLK_CTL. -/
def phaseStepApply (s : State) : State :=
  let d : Int := if 0 < phasePend s then 1 else if phasePend s < 0 then -1 else 0
  if pllm s = 0 ∨ onFbo s then s
  else
    let s1 := setPar clkPhaseAcc (toBits 32 (signedOf 32 (par s clkPhaseAcc) + d)) (setPar clkPhasePend (toBits 9 (phasePend s - d)) s)
    allPlanes.foldl (fun s p => updMod p (fun m => { m with mark := m.mark.map (· - d) }) s) s1

def execPhaseStepApply (s : State) : Host.Outcome State Fault Refusal := .next (phaseStepApply s)

/-- The comparison frequency f_pfd of R247, in Hz. -/
def fPfd (s : State) : Nat :=
  let use := parBits s clkPllmStatus 3 2
  let ref := if use = 3 then par s clkRefSel else use
  let f := if ref = 1 then 10000000 else 25000000
  match par s clkRefMode with
  | 0 => f
  | 1 => 2 * f
  | _ => f / 2

/-- SPUR_ALIGNED (R248). -/
def spurAligned (s : State) : Bool :=
  decide (fPfd s * nCyc s % 400000000 = 0) && !decide (fPfd s * mdDiv s % 400000000 = 0)

/-! ## The bases advance at a strobe -/

/-- The rate word r of T_NET (R274). -/
def netRate (s : State) : Rat := (signedOf 32 (par s timeNetRate) : Rat) / 2 ^ 40

/-- The measured frequency of a clock against its nominal one (R255), from a register of 0.1 ppm. -/
def ferrRatio (s : State) (id : Nat) : Rat := 1 + (signedOf 16 (par s id) : Rat) / 10000000

/-- What a cycle of CLK_CTL adds to a count of PLL_M's clocks, ns: T_NET and an absent YCLK run on CLK_SYS and CLK_ACQ, which stay on
PLL_M while ISL_CTL is on the FBO (R259, R274, R282; log entry 83). -/
def pllNs (s : State) : Rat := if onFbo s then s.time.fboInc * ferrRatio s clkPllmFerr else 5 / 2

/-- What a cycle of CLK_CTL adds to T_NET. -/
def netInc (s : State) : Rat := pllNs s * (1 + netRate s)

/-- What a cycle of CLK_CTL adds to T_BUS: YCLK as it is measured, CLK_ACQ at the head and while YCLK is absent; PLL_M locked to YCLK
runs at its frequency (R282; log entry 83). -/
def busInc (s : State) : Rat :=
  if !s.isl.acq then 0
  else if isHead s || !parBit s ybusStatus 13 || decide (par s clkYclkFerr = 0x8000) || decide (pllm s = 1 ∧ parBits s clkPllmStatus 3 2 = 1)
    then pllNs s
  else if onFbo s then s.time.fboInc * ferrRatio s clkYclkFerr else 5 / 2 * ferrRatio s clkYclkFerr / ferrRatio s clkPllmFerr

/-- T_GRID as one count of 2⁻³² turn, and what it gains between strobes in a cycle of CLK_CTL (R268). -/
def gridCount (s : State) : Rat := (s.time.cyc : Rat) * 2 ^ 32 + s.time.angle
def gridInc (s : State) : Rat := if s.time.stall then 0 else s.planes.g.ref.f * 2 ^ 32 * pllNs s / 1000000000

/-- The master of each replica's base, c cycles of CLK_CTL after the last strobe. -/
def masterAt (s : State) (i : Nat) (c : Rat) : Rat :=
  if i < 3 then s.time.mono + c * ctlNs s
  else if i < 5 then s.time.net + c * netInc s
  else if i < 7 then s.time.bus + c * busInc s
  else gridCount s + c * gridInc s

/-- 256 cycles of the clock of the island that holds a replica, ns (R268). -/
def repSpan (i : Nat) : Rat :=
  256 * (if [0, 6].contains i then 5 / 3 else if [1, 3, 7].contains i then 5 else if i = 5 then 5 / 2 else 5 / 4)

/-- What a replica reads: never less than it has read, and behind its master by what is left of the difference found (R268). -/
def repAt (s : State) (i : Nat) (c : Rat) : Rat :=
  let r := s.time.reps.getD i {}
  max r.floor (masterAt s i c - r.lag * max 0 (1 - (r.age + c * pllNs s) / repSpan i))

/-- The four bases at a time after the last strobe, as ISL_ACQ reads them (R268, R269): its replicas, and T_BUS itself. -/
def acqBase (s : State) (b : Nat) (c : Rat) : Rat :=
  match b with
  | 0 => repAt s 1 c
  | 1 => repAt s 3 c
  | 2 => masterAt s 5 c
  | _ => repAt s 7 c

/-- Each replica is realigned to its master (R268). The operand is how far each was found ahead, negative when behind: one found ahead
holds its count until the master reaches it, one found behind is brought forward evenly over 256 cycles of its clock, and none moves
backward. -/
def replicaRealign (found : List Rat) (s : State) : State :=
  { s with time := { s.time with reps := (List.range 9).map fun i =>
      let d := found.getD i 0
      { floor := if 0 < d then max (repAt s i 0) (masterAt s i 0 + d) else repAt s i 0, lag := max 0 (-d), age := 0 } } }

def execReplicaRealign (found : List Rat) (s : State) : Host.Outcome State Fault Refusal := .next (replicaRealign found s)

/-- The bases run for c cycles of CLK_CTL; T_MONO stands with ISL_CTL (R17, R270). -/
def advanceBases (c : Rat) (s : State) : State :=
  { s with time := { s.time with
      mono := if s.isl.ctl then s.time.mono + c * ctlNs s else s.time.mono
      net := s.time.net + c * netInc s, bus := s.time.bus + c * busInc s
      reps := s.time.reps.map fun r => { r with age := r.age + c * pllNs s } } }

/-- T_MONO, T_NET and T_BUS over one control period. -/
def advanceTime (s : State) : State := advanceBases (nCyc s) s

/-- The sample index k (R124). -/
def sampleK (s : State) : Nat := par s clkSampleLo + 2 ^ 32 * par s clkSampleHi

/-- The next strobe: the index counts on. -/
def nextIndex (s : State) : State :=
  let k := if s.time.began then (sampleK s + 1) % 2 ^ 64 else 0
  setPar clkSampleHi (k / 2 ^ 32) (setPar clkSampleLo (k % 2 ^ 32) { s with time := { s.time with began := true } })

/-- T_GRID follows the angle of plane G's reference set (R283); its cycle count rises at a wrap, and METER's length follows it. -/
def advanceGrid (s : State) : State :=
  let th := (roundAway (s.planes.g.ref.theta * 2 ^ 32)).toNat % 2 ^ 32
  let stall := s.planes.g.refLate
  if stall then { s with time := { s.time with stall := true } }
  else
    let wrap := decide (th < s.time.angle) && decide (2 ^ 31 ≤ s.time.angle - th)
    let s1 := { s with time := { s.time with angle := th, stall := false, cyc := if wrap then s.time.cyc + 1 else s.time.cyc } }
    if wrap then meterCycle s1 else s1

end Sys2Proof.Machine
end

