-- ==== Sys2Proof/Machine/Carrier.lean ====
section
/-! DEFINITION. Sys2Proof/Machine/Carrier.lean: the events of the carrier counters: turning points with their reloads (R137 to R139),
feeder steps (R143), alignment to marks (R153, R154), mask steps (R150) and the debug halt (R152). -/

namespace Sys2Proof.Machine

/-! ## Alignment (R153, R154) -/

/-- The nearest signed remainder of x modulo d. -/
def nearestMod (x d : Int) : Int := if d ≤ 0 then 0 else (x + d / 2) % d - d / 2

/-- The first plane with SYNC = YMRK in the order G, M, D, whose fraction PLL_M follows. -/
def fractionPlane (s : State) : Option Plane := [Plane.g, .m, .d].find? fun p => par s (modSync p.code) = 1

/-- The valley error in 1/64 cycle: own valley less the nearest target (R153). The planes whose fraction PLL_M does not follow round
their target to whole cycles. -/
def valleyError (s : State) (p : Plane) (valley mark : Int) : Int :=
  let per := par s (modPeriod p.code)
  let ilv := par s (modIlv p.code)
  let ofs : Rat := (bits ilv 4 4 * per : Rat) / (bits ilv 0 4 + 1)
  let exact := mark + 64 * par s (modPhase p.code) + roundAway (64 * ofs)
  let target := if fractionPlane s = some p then exact else 64 * roundAway ((exact : Rat) / 64)
  nearestMod (64 * valley - target) (64 * per)

/-- Lose the alignment: ALIGNED clears, and ALIGN_LOST is raised when it was set (R154). -/
def loseAlign (p : Plane) (s : State) : State :=
  if (modr s p).aligned then modSticky p 6 none (updMod p (fun m => { m with aligned := false }) s) else s

/-- The correction at a valley: whole cycles on the next up-count, the fraction by phase steps (R153). -/
def alignMark (p : Plane) (valley mark : Int) (s : State) : State :=
  let e := valleyError s p valley mark
  let lim : Int := par s (modPeriod p.code) / 128
  let lead := decide (fractionPlane s = some p)
  let whole := if lead then -e / 64 else roundAway (-(e : Rat) / 64)
  let s1 := setPar (modAlignErr p.code) (toBits 16 (clampI (-32768) 32767 e))
    (updMod p (fun m => { m with adj := clampI (-lim) lim whole }) s)
  let s2 := if lead ∧ !onFbo s then setPar clkPhasePend (toBits 9 (-e % 64)) s1 else s1
  let missed := decide ((modr s p).markGap ≠ 0) && decide (10 * ((modr s p).markGap : Int) ≤ 64 * valley - mark)
  if 256 < absI e ∨ missed then loseAlign p s2
  else if absI e ≤ 51 ∧ !onFbo s then updMod p (fun m => { m with aligned := true }) s2 else s2

/-- What a valley does to the alignment: marks under YMRK, a change of PHASE under LOCAL. -/
def alignValley (p : Plane) (valley : Int) (s : State) : State :=
  let m := modr s p
  if par s (modSync p.code) = 1 then
    match m.mark with
    | some k => alignMark p valley k s
    | none => s
  else
    let lim : Int := par s (modPeriod p.code) / 128
    let a := clampI (-lim) lim m.slew
    updMod p (fun m => { m with adj := a, slew := m.slew - a }) s

/-! ## Turning points and feeder steps -/

/-- The next turning point of a plane's counter: the end of the period at a valley in CARRIER, the exit at V, the reload, the
carrier-aligned samples, the alignment. -/
def turnEvent (p : Plane) (bs : List Nat) (cas : Bool) (w : RaceWrite) (s : State) : State :=
  let t := nextTurn (modr s p)
  let was := patAt (modr s p) (t - 1)
  let s1 := keepUntil p t s
  let valley := !(modr s p).up
  let s2 := updMod p turned s1
  let s3 := if valley && (carrierOn s p || ((modr s p).seedWait && (lane s p).st == .running)) then endPeriod p t s2 else s2
  let s4 := if valley && (modr s3 p).seedWait then exitAtValley p s3
            else if reloadTakes s3 p valley && !(modr s3 p).seedWait then rampCount p (reload p was w s3) else s3
  let s5 := if cas then takeCas p bs (t.toNat / mdDiv s) s4 else s4
  showCarrier p t (if valley then alignValley p t s5 else s5)

/-- The feeder step that is due first. -/
def feedEvent (p : Plane) (s : State) : State :=
  match firstStep (modr s p) with
  | none => s
  | some f => showCarrier p f.due (updMod p (feedStep (par s (modFeedGap p.code)) f) (keepUntil p f.due s))

/-- The counter runs: the plane is not OFF, and ISL_CTL runs and is not halted (R133, R152). -/
def counterRuns (p : Plane) (s : State) : Bool :=
  decide ((lane s p).st ≠ .off) && decide (p ≠ .b) && s.isl.ctl && !s.isl.halted

/-- The next turning point of a plane's counter, with the bits received up to it and the write that lands in its cycle. -/
def carrierReload (p : Plane) (bs : List Nat) (w : RaceWrite) (s : State) : State :=
  if counterRuns p s then turnEvent p bs true w s else s

def execCarrierReload (p : Plane) (bs : List Nat) (w : RaceWrite) (s : State) : Host.Outcome State Fault Refusal :=
  .next (carrierReload p bs w s)

def execFeedGapStep (p : Plane) (s : State) : Host.Outcome State Fault Refusal :=
  .next (if counterRuns p s then feedEvent p s else s)

/-- The events of a plane's counter before a cycle that no command has brought (log entry 15): feeder steps and turning points in
their order. -/
def catchUp (p : Plane) (bs : List Nat) (x : Int) : Nat → State → State
  | 0, s => s
  | n + 1, s =>
    let m := modr s p
    let due := match firstStep m with
      | some f => if f.due ≤ nextTurn m then some f.due else none
      | none => none
    match due with
    | some d => if d < x then catchUp p bs x n (feedEvent p s) else s
    | none => if nextTurn m < x then catchUp p bs x n (turnEvent p bs true .none s) else s

/-- The events that fall in the cycle of the strobe itself: they act on the state before the lane's writes (R139, R140). -/
def atStrobe (p : Plane) (x : Int) (s : State) : State :=
  let s1 := match firstStep (modr s p) with
    | some f => if f.due ≤ x then feedEvent p s else s
    | none => s
  if nextTurn (modr s1 p) ≤ x then turnEvent p [] false .none s1 else s1

/-! ## Marks -/

/-- A carrier mark's compensated instant arrives in ISL_CTL, in 1/64 cycle from the last strobe (R153, R155). -/
def carrierMark (at' : Int) (s : State) : State :=
  if s.isl.ctl && !timeBad s then
    allPlanes.foldl (fun s p => updMod p (fun m => { m with
      mark := some at', markGap := match m.mark with | some k => (at' - k).toNat | none => 0 }) s) s
  else s

/-! ## Mask steps (R150) -/

/-- L, the number of mask entries in use. -/
def maskLen (s : State) (p : Plane) : Nat := parBits s (modMaskCtrl p.code) 1 3 + 1

/-- The source that selects the entry: 0 SECTOR, 1 INDEX, 2 EXT. -/
def maskSrc (s : State) (p : Plane) : Nat := parBits s (modMaskCtrl p.code) 4 2

/-- The output of the mode source changes in a cycle of the present period. -/
def srcChanges (p : Plane) (x : Nat) (s : State) : Bool :=
  let m := modr s p
  if m.carrier then decide (patAt m x ≠ patAt m ((x : Int) - 1)) else decide (x = 0) && m.srcNew

/-- Advance the pointer of a plane by one, modulo L, in a cycle of the present period: a change of the mode source's output in that
cycle passes through the old entry. -/
def maskStep (p : Plane) (x : Nat) (s : State) : State :=
  let s1 := keepTo p (if srcChanges p x s then x + 1 else x) s
  refreshOut p (setPar (modMaskPtr p.code) ((par s (modMaskPtr p.code) + 1) % maskLen s p) s1)

/-- An index edge of an encoder under INDEX; `at'` is the cycle after the last strobe from which the new entry governs, the fourth after
the edge. A halted ISL_CTL freezes the pointer (R152). -/
def encoderIndex (enc at' : Nat) (s : State) : State :=
  if s.isl.halted || !s.isl.ctl then s else
  allPlanes.foldl (fun s p =>
    if maskSrc s p = 1 ∧ parBits s (modMaskCtrl p.code) 6 1 = enc then maskStep p at' s else s) s

def execEncoderIndex (enc : Timed Nat) (s : State) : Host.Outcome State Fault Refusal :=
  .next (if enc.what < 2 then encoderIndex enc.what enc.cycle s else s)

/-- A firing of a comparator under EXT; the new entry governs from the cycle after it reaches ISL_CTL. -/
def maskComparator (tc at' : Nat) (s : State) : State :=
  if s.isl.halted || !s.isl.ctl then s else
  allPlanes.foldl (fun s p =>
    if maskSrc s p = 2 ∧ parBits s (modMaskCtrl p.code) 7 5 = tc then maskStep p (at' + 1) s else s) s

/-- The entry that SECTOR selects from the reference angle of the sample, in force from the next strobe. -/
def maskSector (p : Plane) (s : State) : State :=
  if maskSrc s p = 0 ∧ (p = .g ∨ p = .m) then
    let th := (roundAway ((lane s p).ref.theta * 2 ^ 32) - (par s (modMaskOfs p.code) : Int)) % 2 ^ 32
    updMod p (fun m => { m with maskNext := some ((th.toNat * maskLen s p) / 2 ^ 32) }) s
  else updMod p (fun m => { m with maskNext := none }) s

/-- The selected entry comes into force at the strobe. -/
def maskApply (p : Plane) (s : State) : State :=
  match (modr s p).maskNext with
  | some e => setPar (modMaskPtr p.code) e s
  | none => s

/-! ## Debug halt (R152) -/

/-- A halt of ISL_CTL in an open debug session. -/
def debugHalt (s : State) : State :=
  if s.isl.session && s.isl.ctl then { s with isl := { s.isl with halted := true } } else s

def execDebugHalt (s : State) : Host.Outcome State Fault Refusal := .next (debugHalt s)

/-- ISL_CTL resumes: counters go on from their values, planes with SYNC = YMRK clear ALIGNED, and a modulator whose plane entered SAFE
meanwhile takes its initial set. -/
def debugResume (s : State) : State :=
  if s.isl.halted then
    allPlanes.foldl (fun s p => if (modr s p).stale then initMod p s else s) (unalign { s with isl := { s.isl with halted := false } })
  else s

def execDebugResume (s : State) : Host.Outcome State Fault Refusal := .next (debugResume s)

end Sys2Proof.Machine
end

