-- ==== Sys2Proof/Machine/Lane.lean ====
section
/-! DEFINITION. Sys2Proof/Machine/Lane.lean: what the lanes compute from the samples of one strobe (R91 to R128): lost feedback,
region lookup, reference, feed-forward, limit, errors, supervision, and the decision in BAND or CARRIER. -/

namespace Sys2Proof.Machine

/-! ## Samples as a lane sees them -/

/-- A replay substitutes the plane's samples (R315). -/
def substituted (s : State) (p : Plane) : Bool := s.replay.active && s.replay.sub == some p.code

/-- A signal's value for a lane: the replayed one under SUBSTITUTE. -/
def laneVal (s : State) (p : Plane) (c : Nat) : Rat :=
  if substituted s p then
    match s.replay.cur.find? (·.1 = c) with
    | some x => ofQ16 x.2.val
    | none => 0
  else sigVal s c

/-- A signal is valid for a lane. -/
def laneOk (s : State) (p : Plane) (c : Nat) : Bool :=
  if substituted s p then
    match s.replay.cur.find? (·.1 = c) with
    | some x => x.2.valid
    | none => false
  else sigOk s c

/-- What the carrier law uses for a signal (R80, R81): its carrier-aligned sample of the present spell of CARRIER. Before the first tap
of the spell, and at sample j of an exit, where none exists, the manual names no value: the model takes the strobe sample (DESIGN
CHOICE, log entry 79). -/
def casVal (s : State) (p : Plane) (c : Nat) : Rat :=
  if substituted s p || !laneOk s p c || !(modr s p).carrier then laneVal s p c
  else match sigPort s c with
    | none => 0
    | some n =>
      let m := mport s n
      match (match p with | .g => m.casG | .m => m.casM | _ => m.casD) with
      | some v => ofQ16 v
      | none => laneVal s p c

/-- The lane has work: a powered plane, or one under SUBSTITUTE (R88, R315). -/
def laneWorks (s : State) (p : Plane) : Bool := poweredSt (lane s p).st || substituted s p

/-- Plane G's lost phase current that R128 reconstructs; a plane that is OFF or STOPPED takes no action. -/
def reconOf (s : State) : Option Nat :=
  match [0x10, 0x11, 0x12].filter (fun c => !laneOk s .g c) with
  | [c] => if par s ctlGThreeWire = 1 ∧ laneWorks s .g then some c else none
  | _ => none

/-- Plane G's phase currents after reconstruction; `cas` takes the carrier-aligned values. -/
def gCurrents (cas : Bool) (s : State) : List Rat :=
  let v (c : Nat) : Rat := if cas then casVal s .g c else laneVal s .g c
  [0x10, 0x11, 0x12].map fun c =>
    if reconOf s = some c then -((([0x10, 0x11, 0x12].filter (· ≠ c)).map v).foldl (· + ·) 0) else v c

/-- αβ of three values of a list. -/
def abOf (l : List Rat) : AB := clarke (l.getD 0 0) (l.getD 1 0) (l.getD 2 0)

/-! ## Lost feedback (R128) -/

/-- Whether the plane must stop for a lost signal: Block or Hold, and a request of SAFE. -/
def mustStop (s : State) (p : Plane) : Bool :=
  let dc := !(laneOk s p 0x40 && laneOk s p 0x41)
  match p with
  | .g =>
    let lost := [0x10, 0x11, 0x12].filter fun c => !laneOk s .g c
    dc || !([0x13, 0x14, 0x15].all (laneOk s .g)) || decide (2 ≤ lost.length) ||
      (decide (lost.length = 1) && decide (par s ctlGThreeWire = 0))
  | .m => dc || !((required s .m).all (laneOk s .m))
  | .d => dc || !laneOk s .d 0x36 || !((List.range 6).all fun n => !legUsed s n || laneOk s .d (0x30 + n))
  | .b => dc

/-- Drop the legs of plane D whose current is lost, while LEG_DROP permits and another leg remains (R128). -/
def dropLegs (s : State) : State :=
  if par s ctlDLegDrop = 1 ∧ laneWorks s .d then
    (List.range 6).foldl (fun s n =>
      if legUsed s n ∧ !laneOk s .d (0x30 + n) ∧ ((List.range 6).any fun j => decide (j ≠ n) && legUsed s j) then
        raiseNum 0x0B n (updLane .d (fun l => { l with dropped := l.dropped ||| (1#6 <<< n) }) s)
      else s) s
  else s

/-- Note a reconstruction of plane G, raising G_RECON when it begins (R128). -/
def noteRecon (s : State) : State :=
  let r := reconOf s
  if r = (lane s .g).recon then s
  else
    let s1 := updLane .g (fun l => { l with recon := r }) s
    match r with
    | some c => raiseNum 0x0A c s1
    | none => s1

/-! ## Quantities of stage A -/

/-- V_DC and ΔV. -/
def vdcOf (s : State) (p : Plane) : Rat := laneVal s p 0x40 + laneVal s p 0x41
def dvOf (s : State) (p : Plane) : Rat := laneVal s p 0x40 - laneVal s p 0x41

/-- p_G of R117: 0 unless plane G is READY, RUNNING or TEST with every signal valid, and under SUBSTITUTE of plane G. -/
def pGrid (s : State) : Rat :=
  let ok := activeSt (lane s .g).st && !substituted s .g && ([0x13, 0x14, 0x15].all (sigOk s)) &&
    ([0x10, 0x11, 0x12].all fun c => sigOk s c || reconOf s == some c)
  if ok then
    (([0x13, 0x14, 0x15].map (sigVal s)).zip (gCurrents false s)).foldl (fun a x => a + x.1 * x.2) 0
  else 0

/-- Set 2's copy of a reference vector, rotated by MSD.SET2_SHIFT (R222). -/
def set2 (s : State) (x : AB) : AB := abRot ((par s msdSet2Shift : Rat) / 2 ^ 32) x

/-- The square of the |i| axis of R107. -/
def iAxisSq (s : State) (p : Plane) : Rat :=
  match p with
  | .g => normSq (abOf (gCurrents false s))
  | .m =>
    let a := normSq (abOf ([0x20, 0x21, 0x22].map (laneVal s .m)))
    let b := if phasesM s = 6 then normSq (abOf ([0x23, 0x24, 0x25].map (laneVal s .m))) else 0
    max a b
  | .d =>
    let t := ((List.range 6).filter (legUsed s)).foldl (fun a n => a + laneVal s .d (0x30 + n)) 0
    t * t
  | .b => laneVal s .b 0x50 * laneVal s .b 0x50

/-- The F axis of R107. -/
def fAxis (s : State) (p : Plane) : Rat :=
  match p with
  | .g | .m => absR (lane s p).ref.f
  | _ => 0

/-- Region lookup of a plane (R88: it runs in every state but OFF). -/
def laneRegion (p : Plane) (s : State) : State :=
  if (lane s p).st = .off then s
  else regionLookup p (rebinLane true p (vdcOf s p) (iAxisSq s p) (fAxis s p) s)

/-! ## Reference (R115 to R120, R90) -/

/-- The ramp factor r of R90. -/
def rampR90 (s : State) (p : Plane) : Rat :=
  let l := lane s p
  if l.stopping.isNone then 1
  else
    let ramp : Rat := (par s (ctlStopRamp p.code) : Rat) / 1000000
    if ramp ≤ l.rampN * tcSec s then 0 else 1 - l.rampN * tcSec s / ramp

/-- The weight of a plane's feed-forward before rescaling (R120). -/
def ownWeight (s : State) (p : Plane) : Rat :=
  if (p = .m ∨ p = .d) ∧ par s (ctlFfEn p.code) = 1 ∧ (lane s p).st = .running then
    clampR 0 1 ((lane s p).entry.wff * par s (ctlFfScale p.code) / 32768)
  else 0

/-- The weight applied: rescaled when the sum with the other plane's weight of the last sample exceeds 1. -/
def usedWeight (s : State) (p : Plane) : Rat :=
  let w := ownWeight s p
  let o := match p with | .m => (lane s .d).weight | .d => (lane s .m).weight | _ => 0
  if 1 < w + o then w / (w + o) else w

/-- The feed-forward current: −w · FF_GAIN · p_G (R118, R119). -/
def ffTerm (s : State) (p : Plane) : Rat :=
  -(usedWeight s p * ((signedOf 32 (par s (ctlFfGain p.code)) : Rat) / 2 ^ 28) * pGrid s)

/-- Plane G's current reference, and its next integrator (R115, R316). ILIM_ACT of a sample follows from the reference, which holds z: the
manual does not say which sample's ILIM_ACT stops the integrator, and the model takes the previous one's (DESIGN CHOICE, log entry
79). -/
def gReference (s : State) : AB × AB :=
  let l := lane s .g
  if par s ctlGRefKind = 0 then (l.ref.iRef, l.z)
  else
    let vc := abOf ([0x13, 0x14, 0x15].map (laneVal s .g))
    let vref := abAdd l.ref.iRef s.replay.inj
    let ev := abSub vref vc
    let zr := abRot (l.ref.f * tcSec s) l.z
    let z := if l.meas.ilimAct || decide (rampR90 s .g < 1) then zr
             else abAdd zr (abScale (l.entry.krv * 1000 * tcSec s) ev)
    let w := 2 * Config.pi * l.ref.f * ((par s ctlGCf : Rat) / 1000000)
    (abAdd (abAdd (abScale w (abJ vref)) (abScale l.entry.kpv ev)) z, z)

/-- The limited reference of an αβ plane for one set, and whether the limit acts (R116). -/
def abReference (s : State) (p : Plane) (x : AB) : AB × Bool :=
  abLimit (lane s p).entry.ilim (abScale (rampR90 s p) x)

/-- Plane D's total, limited, and whether the limit acts (R102, R116). -/
def dReference (s : State) : Rat × Bool :=
  let l := lane s .d
  let t := rampR90 s .d * (l.ref.scalar + ffTerm s .d)
  (clampR (-l.entry.ilim) l.entry.ilim t, decide (l.entry.ilim < absR t))

/-- Legs of plane D in use. -/
def legCount (s : State) : Nat := ((List.range 6).filter (legUsed s)).length

/-- Form errors and state vector of a plane (R92). -/
def formMeas (p : Plane) (s : State) : Meas :=
  let l := lane s p
  match p with
  | .g =>
    let i := abOf (gCurrents false s)
    let r := abReference s .g (gReference s).1
    { i1 := i, e1 := abSub r.1 i, v := abOf ([0x13, 0x14, 0x15].map (laneVal s .g)), vdc := vdcOf s .g, dv := dvOf s .g,
      ilimAct := r.2, pG := pGrid s, iRef := r.1 }
  | .m =>
    let ff := abScale (ffTerm s .m) l.ref.uQ
    let x := abAdd l.ref.iRef ff
    let i1 := abOf ([0x20, 0x21, 0x22].map (laneVal s .m))
    let i2 := abOf ([0x23, 0x24, 0x25].map (laneVal s .m))
    let r1 := abReference s .m x
    let r2 := abReference s .m (set2 s x)
    let six := decide (phasesM s = 6)
    { i1 := i1, e1 := abSub r1.1 i1, i2 := if six then i2 else {}, e2 := if six then abSub r2.1 i2 else {},
      vdc := vdcOf s .m, dv := dvOf s .m, ilimAct := r1.2 || (six && r2.2), pG := pGrid s, iRef := r1.1 }
  | .d =>
    let r := dReference s
    let k : Rat := max 1 (legCount s)
    let il := (List.range 6).map fun n => laneVal s .d (0x30 + n)
    { iLeg := il, eLeg := il.map fun i => r.1 / k - i, vdc := vdcOf s .d, dv := dvOf s .d, ilimAct := r.2, pG := pGrid s,
      iRef := { a := r.1 } }
  | .b => { vdc := vdcOf s .b, dv := dvOf s .b, eLeg := [vdcOf s .b - parQ s ctlBVChop] }

/-- The band half-width h = H0 · a (R93); a stays 1 on plane B. -/
def bandH (s : State) (p : Plane) : Rat :=
  (lane s p).entry.h0 * (if p = .b then 1 else (par s (ctlBandScale p.code) : Rat) / 4096)

/-- The larger class of a plane's αβ errors (R93). -/
def planeClass (s : State) (p : Plane) (m : Meas) : Nat :=
  match p with
  | .g => classOf (normSq m.e1) (bandH s p)
  | .m => max (classOf (normSq m.e1) (bandH s p)) (if phasesM s = 6 then classOf (normSq m.e2) (bandH s p) else 0)
  | .d => ((List.range 6).filter (legUsed s)).foldl (fun c n =>
      max c (classOf (m.eLeg.getD n 0 * m.eLeg.getD n 0) (bandH s p))) 0
  | .b => 0

/-! ## The BAND decision (R97 to R103) -/

/-- NP_DB in volts. -/
def npDb (s : State) (p : Plane) : Rat := (par s (ctlNpDb p.code) : Rat) / 16

/-- One set of a three-level plane: its first phase, its error, currents and v_ff; the chosen phases, and whether the dwell
rule held every candidate (R97 to R101). `dw` is the dwell of the ports at S_k+1, `now` the PULSE bits there without this decision. -/
def selectSet (dw : List (Option Nat)) (now : BitVec 18) (s : State) (p : Plane) (k : Nat) (e : AB) (i : List Rat) (vff : AB) (dv vdc : Rat) :
    List Phase × Bool :=
  let l := lane s p
  let old := (List.range 3).map fun j => l.phases.getD (3 * k + j) {}
  let volt := phaseVals vff
  let cls := classOf (normSq e) (bandH s p)
  let goTo (lv : List Nat) : List Phase := (List.range 3).map fun j =>
    phaseTo (npDb s p) (volt.getD j 0) (old.getD j {}) (lv.getD j 1)
  if cls = 0 ∧ !l.first then (goTo (old.map (·.lvl)), false)
  else
    let b := basePt vff vdc
    let t := if cls = 0 then b else targetPt s p b (sectorOf e) cls
    let cur := (now >>> (9 * k)) &&& lowBits 9
    let mk (c : Nat × Nat × Nat) : Cand :=
      let lv := [c.1, c.2.1, c.2.2]
      let ph := goTo lv
      let m := changed cur (phasesPulse ph)
      { code := 9 * c.1 + 3 * c.2.1 + c.2.2, phases := ph, pulse := m,
        weight := if npDb s p ≤ absR dv then dv * iNp lv i else 0, moves := popcount m }
    let ok (c : Cand) : Bool := l.first || !breaksDwell (dw.drop (9 * k)) l.entry.dwell c.pulse
    match bestCand (((codesOf t).map mk).filter ok) with
    | some c => (c.phases, false)
    | none => (goTo (old.map (·.lvl)), true)

/-- The pattern of plane D (R102): legs in use follow their hysteresis, others have ENABLE 0; R100 acts per leg. -/
def selectLegs (dw : List (Option Nat)) (s : State) (m : Meas) : List (Option Bool) × Pat × Bool :=
  let l := lane s .d
  let h := bandH s .d
  let pick (k : Nat) : Option Bool × Bool :=
    let was := if l.first then none else l.legs.getD k none
    let want := hystDecide h (m.eLeg.getD k 0) was
    if want ≠ was ∧ was ≠ none ∧ breaksDwell dw l.entry.dwell (1#18 <<< k) then (was, true) else (want, false)
  let used := List.range 6 |>.map fun k => if legUsed s k then pick k else (none, false)
  let pat := (used.zipIdx).foldl (fun (o : Pat) x => match x.1.1 with
    | some true => { pulse := o.pulse ||| (1#18 <<< x.2), en := o.en ||| (1#18 <<< x.2) }
    | some false => { o with en := o.en ||| (1#18 <<< x.2) }
    | none => o) {}
  (used.map (·.1), pat, used.any (·.2))

/-- The pattern of plane B (R103, R231, R232): conducting is PULSE 0 with ENABLE 1; R100 acts on each function. -/
def selectAux (dw : List (Option Nat)) (s : State) (m : Meas) : Bool × Pat × Bool :=
  let l := lane s .b
  let was := if l.first then false else l.chop
  let want := (hystDecide (bandH s .b) (m.eLeg.getD 0 0) (some was)).getD was
  let cur := (modr s .b).src.en
  let goal : BitVec 18 := (if want then 1 else 0) ||| (if parBit s ctlBAux 0 then 2 else 0) |||
    (if parBit s ctlBAux 1 then 4 else 0)
  let held := (List.range 3).filter fun i =>
    (changed cur goal).getLsbD i && !l.first && breaksDwell dw l.entry.dwell (1#18 <<< i)
  let en := (List.range 3).foldl (fun o i =>
    if held.contains i then (if cur.getLsbD i then o ||| (1#18 <<< i) else o &&& ~~~(1#18 <<< i)) else o) goal
  (en.getLsbD 0, { en := en }, !held.isEmpty)

/-- Phase currents of plane M's sets. -/
def mCurrents (s : State) (k : Nat) : List Rat := [0x20, 0x21, 0x22].map fun c => laneVal s .m (c + 3 * k)

/-- The BAND decision of a plane, from the dwell of its ports at S_k+1 and their PULSE bits there: its new context and the pattern. A
sample in which several sets or legs are held counts one DWELL_HOLD: the manual gives the count once for a lane (DESIGN CHOICE, log
entry 79). -/
def bandDecision (dw : List (Option Nat)) (now : BitVec 18) (p : Plane) (m : Meas) (s : State) : Lane × Pat :=
  let l := lane s p
  match p with
  | .g =>
    let r := selectSet dw now s .g 0 m.e1 (gCurrents false s) l.ref.vFf m.dv m.vdc
    ({ l with phases := r.1, dwellHold := r.2, first := false }, { pulse := phasesPulse r.1, en := lowBits 9 })
  | .m =>
    let a := selectSet dw now s .m 0 m.e1 (mCurrents s 0) l.ref.vFf m.dv m.vdc
    if phasesM s = 6 then
      let b := selectSet dw now s .m 1 m.e2 (mCurrents s 1) (set2 s l.ref.vFf) m.dv m.vdc
      ({ l with phases := a.1 ++ b.1, dwellHold := a.2 || b.2, first := false },
        { pulse := phasesPulse (a.1 ++ b.1), en := lowBits 18 })
    else ({ l with phases := a.1, dwellHold := a.2, first := false }, { pulse := phasesPulse a.1, en := lowBits 9 })
  | .d =>
    let r := selectLegs dw s m
    ({ l with legs := r.1, dwellHold := r.2.2, first := false }, r.2.1)
  | .b =>
    let r := selectAux dw s m
    ({ l with chop := r.1, dwellHold := r.2.2, first := false }, r.2.1)

/-! ## The CARRIER decision (R104, R142) -/

/-- The voltages, currents and modes of the phases of a plane in CARRIER, and the phases with their new modes. -/
def carrierPhases (s : State) (p : Plane) : List (Rat × Rat × Bool) × List Phase :=
  let l := lane s p
  let one (k : Nat) (i : List Rat) (iref vff : AB) : List (Rat × Rat × Bool) × List Phase :=
    let e := abSub iref (abOf i)
    let u := withZsi (decide (par s (modZsi p.code) = 1)) (phaseVals (abAdd vff (abScale l.entry.kc e)))
    let ph := (List.range 3).map fun j =>
      let o := l.phases.getD (3 * k + j) {}
      let sg := phaseSign (npDb s p) (u.getD j 0) o.sgn
      { o with sgn := sg, pos := sg }
    ((List.range 3).map fun j => (u.getD j 0, i.getD j 0, (ph.getD j {}).pos), ph)
  match p with
  | .g => one 0 (gCurrents true s) (abReference s .g (gReference s).1).1 l.ref.vFf
  | .m =>
    let x := abAdd l.ref.iRef (abScale (ffTerm s .m) l.ref.uQ)
    let cur (k : Nat) : List Rat := [0x20, 0x21, 0x22].map fun c => casVal s .m (c + 3 * k)
    let a := one 0 (cur 0) (abReference s .m x).1 l.ref.vFf
    if phasesM s = 6 then
      let b := one 1 (cur 1) (abReference s .m (set2 s x)).1 (set2 s l.ref.vFf)
      (a.1 ++ b.1, a.2 ++ b.2)
    else a
  | _ => ([], [])

/-- The words the carrier law demands at this sample (R104, R142), and the phases with their modes. -/
def demandWords (s : State) (p : Plane) : List PortWord × List Phase :=
  let l := lane s p
  let per := par s (modPeriod p.code) / 2
  match p with
  | .d =>
    let r := (dReference s).1 / max 1 (legCount s)
    let vdc := casVal s .d 0x40 + casVal s .d 0x41
    ((List.range 6).map fun n =>
      if legUsed s n then
        let i := casVal s .d (0x30 + n)
        legWord s l.entry per true n (quot (casVal s .d 0x36 + l.entry.kc * (r - i)) vdc) i
      else {}, [])
  | _ =>
    let c := carrierPhases s p
    (phaseSet s p l.entry (casVal s p 0x40) (casVal s p 0x41) per true c.1, c.2)

/-- The seeded words of R158: without compensation and ZSI; the mode from the phase's present mode and the sign of u_seed. -/
def seedWords (s : State) (p : Plane) : List PortWord × List Phase :=
  let l := lane s p
  let per := par s (modPeriod p.code) / 2
  let vp := laneVal s p 0x40
  let vn := laneVal s p 0x41
  match p with
  | .d => ((List.range 6).map fun n => if legUsed s n then legWord s l.entry per false n (seedDuty s n) 0 else {}, [])
  | _ =>
    let ph := (List.range l.phases.length).map fun i =>
      let o := l.phases.getD i {}
      let sg := phaseSign (npDb s p) (seedVolt s p vp vn i) o.pos
      { o with sgn := sg, pos := sg }
    (phaseSet s p l.entry vp vn per false ((List.range ph.length).map fun i =>
      (seedVolt s p vp vn i, 0, (ph.getD i {}).pos)), ph)

/-! ## Supervision (R126, R90) -/

/-- Ask Sorrel for SAFE (R126 to R128): cause 0x05 over COL10; nothing reaches COL10 under SUBSTITUTE (R315). -/
def requestSafe (p : Plane) (s : State) : State :=
  if substituted s p then s
  else updLane p (fun l => { l with safeReq := true }) (causeAt p 0x05 0 s)

/-- The squares a plane's following error is compared by, one for each supervised quantity (R126). A six-phase plane M has one counter,
on the larger of the two sets' errors: the manual does not say whether each set has its own (DESIGN CHOICE, log entry 79). -/
def feSquares (p : Plane) (m : Meas) (s : State) : List (Nat × Rat) :=
  match p with
  | .g => [(0, normSq m.e1)]
  | .m => [(0, if phasesM s = 6 then max (normSq m.e1) (normSq m.e2) else normSq m.e1)]
  | .d => ((List.range 6).filter (legUsed s)).map fun n => (n, m.eLeg.getD n 0 * m.eLeg.getD n 0)
  | .b => []

/-- The plane's following error is supervised at this sample (R126, R140). -/
def feOn (p : Plane) (s : State) : Bool :=
  (lane s p).st == .running && decide (p ≠ .b) && !(carrierOn s p && par s (modPsSrc p.code) == 1)

/-- One supervised quantity: the counter, and whether it expires at min(FE_T, FE_TIME). -/
def feStep (e : Entry) (time run : Nat) (sq : Rat) : Nat × Bool :=
  if e.feT = 0 ∨ sq ≤ e.feLim * e.feLim then (0, false)
  else if min e.feT time ≤ run + 1 then (0, true) else (run + 1, false)

/-- Act on an expiry by FE_ACTION (R126, R157). -/
def feExpire (p : Plane) (leg : Nat) (s : State) : State :=
  let s1 := raiseNum 0x06 (p.code + 256 * leg)
    (count (ctlFeCnt p.code) (updLane p (fun l => { l with meas := { l.meas with feHit := true } }) s))
  match par s (ctlFeAction p.code) with
  | 0 => s1
  | 1 => if (modr s p).carrier then updMod p (fun m => { m with entryReq := true }) s1 else requestSafe p s1
  | _ => requestSafe p s1

/-- Following-error supervision of a plane (R126). -/
def supervise (p : Plane) (m : Meas) (s : State) : State :=
  if feOn p s then
    (feSquares p m s).foldl (fun s x =>
      let r := feStep (lane s p).entry (par s (ctlFeTime p.code)) ((lane s p).feRun.getD x.1 0) x.2
      let s1 := updLane p (fun l => { l with feRun := l.feRun.set x.1 r.1 }) s
      if r.2 then feExpire p x.1 s1 else s1) s
  else updLane p (fun l => { l with feRun := [0, 0, 0, 0, 0, 0] }) s

/-- Every measured current of the plane is below 2 % of ILIM (R90). -/
def isQuiet (p : Plane) (m : Meas) (s : State) : Bool :=
  let lim := (lane s p).entry.ilim / 50
  match p with
  | .g => decide (normSq m.i1 < lim * lim)
  | .m => decide (normSq m.i1 < lim * lim) && (decide (phasesM s ≠ 6) || decide (normSq m.i2 < lim * lim))
  | .d => ((List.range 6).filter (legUsed s)).all fun n => decide (absR (m.iLeg.getD n 0) < lim / max 1 (legCount s))
  | .b => true

/-- The stop of R90: the ramp counts, and a block is decided at r = 0 with 16 quiet samples; plane B has no ramp. -/
def stopDecides (p : Plane) (m : Meas) (s : State) : Bool :=
  let l := lane s p
  l.stopping.isSome &&
    decide (rampR90 s p = 0) && decide (16 ≤ (if isQuiet p m s then l.quiet + 1 else 0))

end Sys2Proof.Machine
end

