-- ==== Sys2Proof/Machine/Service.lean ====
section
/-! DEFINITION. Sys2Proof/Machine/Service.lean: how Tansy serves a command (R327 to R330, R341): source, flags, SEQ, handle, the
operation's own checks, the reply, and the channel's record of it. -/

namespace Sys2Proof.Machine

/-- What an operation answers: a status with a payload, or nothing yet (CLEAR_SAFE answers after its strobe, R185). -/
inductive Ans where
  | now (status : Nat) (payload : List Byte)
  | later
  deriving DecidableEq, Repr

/-- OK or a failing status without a payload. -/
abbrev say (st : Nat) : Ans := .now st []

/-- The reply of R341. -/
def replyPacket (cls op : Nat) (e : Env) (st handle : Nat) (payload : List Byte) : Packet :=
  { kind := 1, cls := cls, opcode := op, seq := e.seq, handle := handle, flags := e.flags % 2, status := st,
    stamp := if e.flags % 2 = 1 then e.stamp else 0, payload := payload }

/-- A reply goes to the source of its command (R323); on SPI into the outbound queue. A restart of Tansy holds it back (R408). -/
def sendReply (c : Chan) (p : Packet) (s : State) : State :=
  if s.isl.restart then updHost (fun h => { h with held := h.held ++ [(c, p)] }) s
  else match c with
  | .spi => updHost (fun h => { h with out := h.out ++ [p] }) s
  | .udp ip port => emit (.udp ip port p) s

/-- Keep the reply of an accepted command: the last 16 of its channel (R329). -/
def keepReply (e : Env) (p : Packet) (s : State) : State :=
  let k := chanSt s e.chan
  setChan e.chan { k with replies := ((e.seq, e.crc, p) :: k.replies).take 16 } s

/-- Reply to an accepted command. -/
def answer (cls op : Nat) (e : Env) (st handle : Nat) (payload : List Byte) (s : State) : State :=
  let p := replyPacket cls op e st handle payload
  keepReply e p (sendReply e.chan p s)

/-- Reply without acceptance (checks 4 to 6 of R328). -/
def turnAway (cls op : Nat) (e : Env) (st : Nat) (s : State) : State :=
  sendReply e.chan (replyPacket cls op e st e.handle []) s

/-- An IPv4 source matches an entry: its first LEN bits equal those of the address (R333). -/
def srcMatches (ip addr len : Nat) : Bool :=
  decide (addr ≠ 0) && decide (ip / 2 ^ (32 - len) = addr / 2 ^ (32 - len))

/-- Check 2 of R328: the source of a command over UDP is listed, or every entry is empty. -/
def srcListed (s : State) : Chan → Bool
  | .spi => true
  | .udp ip _ =>
    ([0, 1, 2, 3].all fun n => par s (netCmdSrc n) = 0) ||
      [0, 1, 2, 3].any fun n => srcMatches ip (par s (netCmdSrc n)) (par s (netCmdLen n))

/-- The source of an URGENT command over Ethernet is listed; with every entry empty none is (R34). -/
def urgentListed (s : State) : Chan → Bool
  | .spi => true
  | .udp ip _ => [0, 1, 2, 3].any fun n => srcMatches ip (par s (netUrgentSrc n)) (par s (netUrgentLen n))

/-- SEQ less the last accepted SEQ, as a signed 16-bit value (R329). -/
def seqDiff (k : ChanSt) (e : Env) : Int := signedOf 16 (toBits 16 ((e.seq : Int) - k.last))

/-- The stored reply to a repeated command. -/
def repeated (k : ChanSt) (e : Env) : Option Packet :=
  (k.replies.find? fun r => r.1 = e.seq ∧ r.2.1 = e.crc).map (·.2.2)

/-- Accept a command on its channel: the last SEQ, and SEQ_GAP_CNT at a gap. -/
def acceptSeq (e : Env) (s : State) : State :=
  let k := chanSt s e.chan
  let s1 := if k.started ∧ 1 < seqDiff k e then count sysSeqGapCnt s else s
  let s2 := setChan e.chan { k with started := true, last := e.seq } s1
  match e.chan with
  | .spi => updHost (fun h => { h with spiSeq := e.seq }) s2
  | _ => s2

/-- What a channel sends is answered: by Tansy while ISL_SYS runs with SYS_UP set; in recovery by the boot ROM's loader, which answers
the HOST port only (R399). The HOST port is in ISL_PRT. -/
def answering (s : State) (c : Chan) : Bool :=
  s.isl.sys && (s.isl.prt || decide (c ≠ .spi)) && (if s.isl.recovery then decide (c = .spi) else s.isl.sysUp)

/-- A packet on a channel is served: outside a restart of Tansy (R408). -/
def serving (s : State) (c : Chan) : Bool := answering s c && !s.isl.restart

/-- The commands that recovery accepts (R399). -/
def bootOp (op : Nat) : Bool := [0x0100, 0x0121, 0x0130, 0x0132, 0x0220].contains op

/-- The commands of TANSY_EXT (R388). -/
def extOp (op : Nat) : Bool := [0x0130, 0x0131, 0x0132, 0x0133, 0x0140, 0x0210, 0x0211, 0x0212].contains op

/-- What the firmware that runs gives a command before its own checks (R388, R399). -/
def runStatus (op : Nat) (s : State) : Nat :=
  if s.isl.recovery then (if bootOp op then stOk else stWrongState) else if extOp op && !s.isl.ext then stBusy else stOk

/-- Check 7 of R328 and those after it, for a command whose earlier checks passed. -/
def serveSeq (cls op : Nat) (e : Env) (needs : State → Bool) (body : Nat → State → State × Ans) (s : State) : State :=
  let k := chanSt s e.chan
  match repeated k e with
  | some p => sendReply e.chan p (touchChan e.chan s)
  | none =>
    if k.started ∧ seqDiff k e ≤ 0 then count sysStaleCnt (touchChan e.chan s)
    else
      let s1 := acceptSeq e s
      if needs s1 ∧ (freeSlot s1).isNone then answer cls op e stNoHandle e.handle [] s1
      else
        let h := nextHandle s1
        let r := if runStatus op s1 = stOk then body h s1 else (s1, say (runStatus op s1))
        match r.2 with
        | .now st pl => answer cls op e st (if st = stAccepted then h else e.handle) pl r.1
        | .later => r.1

/-- Serve a command of a class other than URGENT: `flags` are the FLAGS bits valid for it, `needs` whether it needs a handle now.
The operation gets the handle it would be given, and its state change stands whatever it answers. -/
def serve (cls op : Nat) (e : Env) (flags : Nat) (needs : State → Bool) (body : Nat → State → State × Ans)
    (s : State) : State :=
  if !serving s e.chan then s
  else if !srcListed s e.chan then count sysSrcDropCnt s
  else if e.flags &&& flags ≠ e.flags then turnAway cls op e stBadParam (touchChan e.chan s)
  else serveSeq cls op e needs body s

/-- A command with a LENGTH that its opcode may not permit (check 5 of R328). -/
def withLength (ok : Bool) (cls op : Nat) (e : Env) (f : State → State) (s : State) : State :=
  if !ok && serving s e.chan && srcListed s e.chan then turnAway cls op e stBadLength (touchChan e.chan s) else f s

/-- A data packet carries 1 to 1,432 data bytes (R340). -/
def dataLen (d : List Byte) : Bool := decide (1 ≤ d.length) && decide (d.length ≤ 1432)

/-- A CONTROL command without flags of its own that needs no handle. -/
abbrev serveShort (cls op : Nat) (e : Env) (body : State → State × Ans) (s : State) : State :=
  serve cls op e 1 (fun _ => false) (fun _ => body) s

/-- A long operation: accepted under a handle. -/
abbrev serveLong (cls op : Nat) (e : Env) (body : Nat → State → State × Ans) (s : State) : State :=
  serve cls op e 1 (fun _ => true) body s

/-- Accept a long operation: its handle is allocated, then its work begins. -/
def accepted (op : Nat) (e : Env) (work : State → State) (s : State) : State × Ans :=
  (work (allocHandle op e.chan s), say stAccepted)

/-- Answer a failing status and change nothing (R14). -/
abbrev refuse (st : Nat) (s : State) : State × Ans := (s, say st)

/-- Answer OK after a change. -/
abbrev done (f : State → State) (s : State) : State × Ans := (f s, say stOk)

end Sys2Proof.Machine
end

