-- ==== Sys2Proof/Machine/Acquire.lean ====
section
/-! DEFINITION. Sys2Proof/Machine/Acquire.lean: capture channels and bundles (R294 to R297), slots and records (R298 to R306), the
trigger units (R303, R304), group triggers at their source (R312, R313) and the tiles as they are read out (R299, R302, R307). -/

namespace Sys2Proof.Machine

/-! ## Time at an event -/

/-- TIME.STATE (R292). -/
def timeStateWord (s : State) : Nat :=
  let b (x : Bool) (k : Nat) : Nat := if x then 2 ^ k else 0
  s.time.servo + b s.time.suspect 3 + b s.time.busOk 4 + b s.time.stall 5 + b (!s.isl.sys) 6 + b s.time.outlier 7 + b (onFbo s) 8

/-- T_BUS as its count of 100 ns and its sub-tick of 10 ps (R267). -/
def busCount (t : Rat) : Nat := (t / 100).floor.toNat % 2 ^ 64
def busSub (t : Rat) : Nat := ((t - (t / 100).floor * 100) * 100).floor.toNat % 10000

/-! ## Channel words (R294 to R297) -/

/-- The invalid marker (R296). -/
abbrev invalidWord : Nat := 0x80000000

/-- A value as a channel word in sQ16.16; a valid one never reads as the marker (R296). -/
def chanQ (x : Rat) : Nat :=
  let w := toBits 32 (toQ16 x)
  if w = invalidWord then 0x80000001 else w

/-- A raw sQ16.16 number as a channel word. -/
def chanRaw (i : Int) : Nat :=
  let w := toBits 32 i
  if w = invalidWord then 0x80000001 else w

/-- PULSE at [2n] and ENABLE at [2n + 1] of a range of port indices. -/
def patWord (o : Pat) (lo n : Nat) : Nat :=
  (List.range n).foldl (fun a i =>
    a + (if o.pulse.getLsbD (lo + i) then 4 ^ i else 0) + (if o.en.getLsbD (lo + i) then 2 * 4 ^ i else 0)) 0

/-- The pulse-interface output in force: 0 outside RUNNING (R133). -/
def outNow (s : State) (p : Plane) : Pat := if (lane s p).st = .running then (modr s p).out else {}

/-- β of an αβ vector. -/
def abB (x : AB) : Rat := x.b3 / Config.sqrt3

/-- The FLAGS word of a plane (R297). -/
def flagsWord (s : State) (p : Plane) : Nat :=
  let l := lane s p
  let b (x : Bool) (k : Nat) : Nat := if x then 2 ^ k else 0
  b l.meas.ilimAct 0 + b (decide ((modr s p).cut ≠ 0)) 1 + b l.refLate 2 + b l.tslLate 3 + b l.overrun 4 + b l.dwellHold 5 +
    b (modr s p).carrier 6 + b l.safeReq 7 + b l.meas.feHit 8 + b l.onSre 9 + b (substituted s p) 10 +
    2 ^ 12 * stCode l.st + (if l.st = .safe then 2 ^ 16 * subCode l.sub else 0)

/-- The PROT word of a plane (R297): what COL11 last carried. -/
def protWord (s : State) (p : Plane) : Nat :=
  let l := lane s p
  (ofPorts p s.prt.permit).toNat + (if s.prt.cutNow.getLsbD p.code then 2 ^ 18 else 0) +
    (if l.st = .safe then 2 ^ 19 + 2 ^ 20 * subCode l.sub else 0)

/-- A quantity q of a plane (R297); a lane quantity of a plane in OFF is 0 (R296). -/
def planeWord (s : State) (p : Plane) (q : Nat) : Nat :=
  let l := lane s p
  let m := l.meas
  let d := (l.dec.getD {}).pat
  if l.st = .off ∧ q ≠ 0xA ∧ q ≠ 0xB ∧ q ≠ 0xD then 0
  else match q with
  | 0x0 => chanQ m.iRef.a
  | 0x1 => chanQ (abB m.iRef)
  | 0x2 => match p with
    | .d | .b => chanQ (m.eLeg.getD 0 0)
    | _ => chanQ m.e1.a
  | 0x3 => match p with
    | .d => chanQ (m.eLeg.getD 1 0)
    | .b => 0
    | _ => chanQ (abB m.e1)
  | 0x4 | 0x5 => match p with
    | .g =>
      let v := if par s ctlGRefKind = 1 then abAdd l.ref.iRef s.replay.inj else l.ref.vFf
      chanQ (if q = 4 then v.a else abB v)
    | .m => chanQ (if q = 4 then l.ref.vFf.a else abB l.ref.vFf)
    | _ => 0
  | 0x6 => par s (ctlBandScale p.code)
  | 0x7 => par s (ctlRegion p.code)
  | 0x8 => patWord d 0 16
  | 0x9 => patWord d 16 2
  | 0xA => patWord (outNow s p) 0 16
  | 0xB => patWord (outNow s p) 16 2
  | 0xC => flagsWord s p
  | 0xD => protWord s p
  | 0xE => chanQ m.ff
  | _ => match p with
    | .d => ((m.uCmd.getD 0 0) * 32768).floor.toNat % 2 ^ 32
    | .b => 0
    | _ => chanQ (m.uCmd.getD 0 0)

/-- A code that R297 lists. -/
def internalCode (c : Nat) : Bool := decide (c = 0) || (decide (0x10 ≤ c) && decide (c ≤ 0x58))

/-- The word of an internal signal. -/
def internalWord (s : State) (c : Nat) : Nat :=
  if c < 0x50 then match planeOf (c / 16 - 1) with
    | some p => planeWord s p (c % 16)
    | none => 0
  else
    let dc (f : Rat → Rat → Rat) : Nat :=
      if sigOk s 0x40 && sigOk s 0x41 then chanQ (f (sigVal s 0x40) (sigVal s 0x41)) else invalidWord
    match c with
    | 0x50 => chanQ (pGrid s / 1000)
    | 0x51 => dc fun a b => a + b
    | 0x52 => dc fun a b => a - b
    | 0x53 => s.time.angle
    | 0x54 => monoNs s % 2 ^ 32
    | 0x55 => chanQ s.replay.inj.a
    | 0x56 => chanQ (abB s.replay.inj)
    | 0x57 => chanQ (lane s .g).ref.f
    | _ => chanQ (lane s .m).ref.f

/-- The word of a channel whose source is not OFF (R294). -/
def chanWord (s : State) (ch : Nat) : Nat :=
  let src := par s (acqChSrc ch)
  if ch < 24 then
    let m := mport s ch
    if par s (measRoute ch) = 0 || !m.valid then invalidWord
    else if src = 1 then chanRaw m.val else chanRaw m.recV
  else internalWord s src

/-- The channels that are not OFF, in channel order. -/
def channelsOn (s : State) : List Nat := (List.range 48).filter fun ch => par s (acqChSrc ch) ≠ 0

/-! ## Slots (R298, R301) -/

/-- Replace ISL_ACQ's state. -/
def updAcq (f : Acq → Acq) (s : State) : State := { s with acq := f s.acq }

/-- A slot of the capture area. -/
def slotAt (s : State) (n : Nat) : Slot := s.acq.slots.getD n {}

/-- Change a slot. -/
def updSlot (n : Nat) (f : Slot → Slot) (s : State) : State :=
  updAcq (fun a => { a with slots := a.slots.set n (f (a.slots.getD n {})) }) s

/-- The number of slots, and the data tiles of one (R298). -/
def slotCount (s : State) : Nat := 2 ^ par s acqSlots
def dataTiles (s : State) : Nat := 98304 / slotCount s - 1

/-- B, the bundles of a data tile, for n channels. -/
def perTile (n : Nat) : Nat := 4060 / (4 * n)

/-- PRE + POST + B ≤ C, checked at each enabling of capture (R298). -/
def captureFits (s : State) : Bool :=
  let b := perTile (channelsOn s).length
  decide (par s acqPre + par s acqPost + b ≤ dataTiles s * b)

/-- Capture is enabled. -/
def capturing (s : State) : Bool := parBit s acqCtrl 0

/-- The fresh record of a slot. -/
def openSlot (s : State) : Slot :=
  { st := .filling, num := (par s acqRecNum + 1) % 2 ^ 32, tc := par s clkTcCycles, decim := par s acqDecim, pre := par s acqPre,
    post := par s acqPost, srcs := (List.range 48).map fun c => par s (acqChSrc c),
    routes := (List.range 24).map fun n => par s (measRoute n), hash := (List.range 4).map fun i => par s (redCfgHash i),
    fw := par s fwVersion }

/-- The CLOSED slot that nothing holds with the oldest record. -/
def oldestClosed (s : State) : Option Nat :=
  ((List.range (slotCount s)).filter fun n => (slotAt s n).st = .closed ∧ (slotAt s n).held = 0).foldl (fun a n => match a with
    | none => some n
    | some m => if (slotAt s n).num < (slotAt s m).num then some n else some m) none

/-- A slot becomes FILLING (R301). -/
def fillSlot (n : Nat) (s : State) : State := updAcq (fun a => { a with active := some n }) (updSlot n (fun _ => openSlot s) s)

/-- The lowest FREE slot becomes FILLING; with OVERWRITE the oldest CLOSED one gives way; otherwise the state is FULL (R301, R305). -/
def nextRecord (s : State) : State :=
  match (List.range (slotCount s)).find? fun n => (slotAt s n).st = .free with
  | some n => fillSlot n s
  | none =>
    match (if parBit s acqCtrl 2 then oldestClosed s else none) with
    | some n => fillSlot n s
    | none => raiseFlag acqEvents 1 0 (updAcq (fun a => { a with active := none }) s)

/-- Close the open record (R301, R306): the detail of ACQ_CLOSED carries the record number and the slot. -/
def closeRecord (status : Nat) (s : State) : State :=
  match s.acq.active with
  | none => s
  | some n =>
    let num := (slotAt s n).num
    let s1 := updAcq (fun a => { a with active := none }) (updSlot n (fun r => { r with st := .closed, status := status, left := 0 }) s)
    raiseFlag acqEvents 0 (num % 2 ^ 24 + 2 ^ 24 * n) (setPar acqRecNum num s1)

/-- The open record is due to close: POST samples have been stored. -/
def closeDue (s : State) : Bool :=
  match s.acq.active with
  | some n => (slotAt s n).st == .post && decide ((slotAt s n).left = 0)
  | none => false

/-- RECORD_CLOSE (R301). -/
def recordClose (s : State) : State := if closeDue s then nextRecord (closeRecord 1 s) else s

def execRecordClose (s : State) : Host.Outcome State Fault Refusal := .next (recordClose s)

/-- Capture is enabled by a write of ACQ.CTRL. -/
def startCapture (s : State) : State := if s.isl.acq then nextRecord s else s

/-- Capture is disabled (R306): the open record closes TRUNCATED. -/
def stopCapture (s : State) : State := closeRecord 2 s

/-- Store one bundle in the open record (R299, R301): a new tile takes the place of the oldest when the ring is full. -/
def storeBundle (b : Bundle) (s : State) : State :=
  match s.acq.active with
  | none => s
  | some n =>
    let r := slotAt s n
    if r.st = .post ∧ r.left = 0 then s
    else
      let per := perTile b.words.length
      let keep := if per ≠ 0 ∧ r.count % per = 0 then r.ring.take ((dataTiles s - 1) * per) else r.ring
      updSlot n (fun r => { r with
        ring := b :: keep, count := r.count + 1, firstK := if r.count = 0 then b.k else r.firstK, left := r.left - 1 }) s

/-! ## Triggers (R303, R304) -/

/-- The units of a mask. -/
def unitsOf (m : Nat) : List Nat := (List.range 32).filter fun u => m.testBit u

/-- A mask of units. -/
def maskOf (l : List Nat) : Nat := l.foldl (fun a u => a ||| 2 ^ u) 0

/-- The bundle of the present sample is still to be stored: an event of kinds 4 to 7 comes between the strobe and the commit point. -/
def bundleDue (s : State) : Bool := decide (s.acq.lastK ≠ some (sampleK s)) && decide (sampleK s % max 1 (par s acqDecim) = 0)

/-- The open record takes its trigger at the latest sample (R301, R303): the trigger position is the stored sample at or before it. -/
def startPost (n mask : Nat) (s : State) : State :=
  let due := bundleDue s
  updSlot n (fun r =>
    let pos := if due then r.count else r.count - 1
    { r with
      st := .post, kt := some (sampleK s), pos := pos, cause := mask, left := if due then r.post + 1 else r.post, pre := min r.pre pos,
      tMono := monoNs s, tNet := netNs s, tBus := s.time.bus, tState := timeStateWord s })
    { s with replay := { s.replay with go := s.replay.go || decide (s.replay.trig = 2) } }

/-- Units fire at a sample: they trigger the open record, join its cause mask at the sample of the trigger, or are logged or counted
(R304). -/
def takeTrigger (mask : Nat) (s : State) : State :=
  if mask = 0 then s
  else
    let ignored := countN acqIgnoredCnt (unitsOf mask).length
    match s.acq.active with
    | none => if capturing s then ignored s else s
    | some n =>
      let r := slotAt s n
      if r.st = .post then
        updSlot n (fun r =>
          if r.kt = some (sampleK s) then { r with cause := r.cause ||| mask }
          else { r with
            extra := if r.extra.length < 15 then r.extra ++ [((sampleK s : Int) - r.kt.getD 0, mask)] else r.extra,
            extraN := min 15 (r.extraN + 1) }) s
      else if r.count < par s acqHoldoff then ignored s
      else startPost n mask s

/-- The control word of a unit: enable, kind, channel, edge, GROUP, comparator, d. -/
def tuKind (s : State) (u : Nat) : Nat := parBits s (acqTuCtrl u) 1 3
def tuOn (s : State) (u : Nat) : Bool := parBit s (acqTuCtrl u) 0

/-- The word of a channel in a bundle's list. -/
def wordIn (l : List (Nat × Nat)) (ch : Nat) : Option Nat := (l.find? (·.1 = ch)).map (·.2)

/-- Whether a unit that watches a channel fires, and whether it re-arms, at the newest bundle of a history (R303). An invalid marker
does neither. -/
def unitEval (s : State) (u : Nat) (hist : List (List (Nat × Nat))) : Bool × Bool :=
  let w := par s (acqTuCtrl u)
  let ch := bits w 4 6
  let edge := bits w 10 2
  let lvl (id : Nat) : Int := signedOf 32 (par s id)
  let a := lvl (acqTuLevelA u)
  let b := lvl (acqTuLevelB u)
  let h : Int := par s (acqTuHys u)
  let at' (j : Nat) : Option Nat := (hist[j]?).bind fun l => wordIn l ch
  match at' 0 with
  | none => (false, false)
  | some x0 =>
    if x0 = invalidWord then (false, false)
    else
      let x := signedOf 32 x0
      match bits w 1 3 with
      | 0 =>
        (((edge = 0 ∨ edge = 2) ∧ a < x) ∨ ((edge = 1 ∨ edge = 2) ∧ x < a),
         ((edge = 0 ∨ edge = 2) ∧ x ≤ a - h) ∨ ((edge = 1 ∨ edge = 2) ∧ a + h ≤ x))
      | 1 => (a < x ∨ x < b, b + h ≤ x ∧ x ≤ a - h)
      | 2 =>
        match at' (bits w 17 4 + 1) with
        | none => (false, false)
        | some y0 =>
          if y0 = invalidWord then (false, false)
          else
            let d := x - signedOf 32 y0
            (((edge = 0 ∨ edge = 2) ∧ a ≤ d) ∨ ((edge = 1 ∨ edge = 2) ∧ d ≤ -a), absI d ≤ a - h)
      | 3 =>
        match at' 1 with
        | none => (false, true)
        | some y0 => (decide (Nat.land (Nat.land x0 (par s (acqTuLevelA u))) (0xFFFFFFFF - y0) ≠ 0), true)
      | _ => (false, false)

/-- Position and L of the Yarrow chain. -/
def yPos (s : State) : Nat := parBits s ybusStatus 0 4
def yLat (s : State) : Nat := par s ybusLat

/-- The module may drive YTRG: a survey has completed, none runs, and no edge has been seen for L (R313). -/
def yQuiet (s : State) : Bool :=
  !timeBad s && parBit s ybusStatus 5 && !parBit s ybusStatus 6 &&
    (match s.ybus.edge with | none => true | some t => decide (t + yLat s ≤ s.time.bus))

/-- A GROUP unit fires (R312, R313): a pulse of 50 ns × (position + 1), and the module's own application at t_o + L; otherwise a local
trigger with YTRG_BUSY. The answer is the state, and whether the unit stays local. -/
def groupFire (u : Nat) (s : State) : State × Bool :=
  if yQuiet s then
    (emit (.yarrow 0 (50 * (yPos s + 1))) { s with ybus := { s.ybus with
      edge := some s.time.bus, apply := s.ybus.apply ++ [(s.time.bus + yLat s, 2 ^ u)] } }, false)
  else (raiseFlag acqEvents 2 u s, true)

/-- Units fire: each marks TU_FIRED; a GROUP unit goes to the chain, the others trigger this module. -/
def fireUnits (us : List Nat) (s : State) : State :=
  let r := us.foldl (fun (a : State × List Nat) u =>
    let s1 := setPar acqTuFired (par a.1 acqTuFired ||| 2 ^ u) a.1
    if parBit s1 (acqTuCtrl u) 12 then
      let g := groupFire u s1
      (g.1, if g.2 then u :: a.2 else a.2)
    else (s1, u :: a.2)) (s, [])
  takeTrigger (maskOf r.2) r.1

/-- Units of kinds 4 to 7 fire at their event, once until the next bundle re-arms them. -/
def fireKind (kind : Nat) (sel : Nat → Bool) (s : State) : State :=
  let us := (List.range 32).filter fun u => tuOn s u && decide (tuKind s u = kind) && s.acq.armed.getLsbD u && sel u
  fireUnits us (updAcq (fun a => { a with armed := a.armed &&& ~~~(BitVec.ofNat 32 (maskOf us)) }) s)

/-- Every enabled unit sees the bundle: those that watch channels fire or re-arm, the others re-arm. -/
def evalUnits (s : State) : State :=
  let h := s.acq.hist
  let ev := (List.range 32).filterMap fun u =>
    if tuOn s u then some (u, if tuKind s u < 4 then unitEval s u h else (false, true)) else none
  let fire := (ev.filter fun x => x.2.1 && (s.acq.armed.getLsbD x.1 || decide (tuKind s x.1 = 3))).map (·.1)
  let rearm := (ev.filter fun x => x.2.2 && !fire.contains x.1).map (·.1)
  fireUnits fire (updAcq (fun a => { a with
    armed := (a.armed ||| BitVec.ofNat 32 (maskOf rearm)) &&& ~~~(BitVec.ofNat 32 (maskOf fire)) }) s)

/-- The capture bundle of the commit point (R295): stored when the index is a multiple of DECIM, and seen by every unit. A record that
is due to close does so first. None is written while ISL_CTL is halted. -/
def captureBundle (s : State) : State :=
  if !s.isl.acq || s.isl.halted then s
  else
    let s0 := recordClose s
    let ws := (channelsOn s0).map fun c => (c, chanWord s0 c)
    let s1 := updAcq (fun a => { a with hist := (ws :: a.hist).take 17, lastK := some (sampleK s0) }) s0
    let b : Bundle := { k := sampleK s1, mono := monoNs s1, words := ws.map (·.2) }
    let s2 := if capturing s1 ∧ sampleK s1 % max 1 (par s1 acqDecim) = 0 then storeBundle b s1 else s1
    evalUnits s2

/-- A time discontinuity enters the open record and the event stream (R278). -/
def noteDiscontinuity (step : Int) (s : State) : State :=
  match s.acq.active with
  | none => s
  | some n => updSlot n (fun r => { r with
      disc := if r.disc.length < 16 then r.disc ++ [(monoNs s, step)] else r.disc, discN := min 16 (r.discN + 1) }) s

/-! ## Tiles (R299, R302) -/

/-- A list of bytes cut or filled with zeros to a length. -/
def padTo (n : Nat) (l : List Byte) : List Byte := (l ++ List.replicate (n - l.length) 0).take n

/-- A tile: the common fields, a body, zero bytes and the CRC (R299). -/
def tileBytes (kind flags seq k mono cnt size num : Nat) (body : List Byte) : List Byte :=
  let t := padTo 4092 (le 2 0xA7C4 ++ le 1 kind ++ le 1 flags ++ le 4 seq ++ le 8 k ++ le 8 mono ++ le 2 cnt ++ le 2 size ++
    le 4 num ++ body)
  t ++ le 4 (crc32c t)

/-- Channels of a record. -/
def slotChans (r : Slot) : Nat := (r.srcs.filter (· ≠ 0)).length

/-- The stored samples of data tile `seq`, oldest first, and T_MONO of the first sample of the next tile. -/
def tileSamples (r : Slot) (seq : Nat) : List Bundle × Option Nat :=
  let per := perTile (slotChans r)
  let old := r.count - r.ring.length
  let l := r.ring.reverse.drop ((seq - 1) * per - old)
  (l.take per, (l.drop per).head?.map (·.mono))

/-- Data tile `seq` of a record. -/
def dataTile (r : Slot) (seq : Nat) : List Byte :=
  let t := tileSamples r seq
  let per := perTile (slotChans r)
  let f := t.1.headD {}
  let trig := r.kt.isSome && decide ((seq - 1) * per ≤ r.pos) && decide (r.pos < seq * per)
  let cutAt (m : Nat) : Bool := match t.2 with | some e => decide (m < e) | none => true
  let disc := r.disc.any fun x => decide (f.mono ≤ x.1) && cutAt x.1
  tileBytes 0 ((if trig then 1 else 0) + (if disc then 2 else 0)) seq f.k f.mono t.1.length (4 * slotChans r) r.num
    (t.1.flatMap fun b => b.words.flatMap (le 4))

/-- The lowest unit of a cause mask; 0xFF without a trigger (R302). -/
def firstCause (m : Nat) : Nat := ((List.range 32).find? fun u => m.testBit u).getD 0xFF

/-- The data tiles a record retains: the first and the last sequence. -/
def tileSpan (r : Slot) : Nat × Nat :=
  let per := max 1 (perTile (slotChans r))
  ((r.count - r.ring.length) / per + 1, (r.count + per - 1) / per)

/-- The header tile of a record (R302). -/
def headerTile (slot : Nat) (tiles : Nat) (r : Slot) : List Byte :=
  let f := r.ring.getLast?.getD {}
  let s64 (i : Int) : Nat := toBits 64 i
  tileBytes 1 0 0 f.k f.mono 0 (4 * slotChans r) r.num
    (le 4 r.num ++ le 1 r.status ++ le 1 (firstCause r.cause) ++ le 1 slot ++
      le 1 ((if r.loaded then 1 else 0) + (if r.kt.isSome then 2 else 0)) ++ le 4 r.cause ++ le 2 r.tc ++ le 1 r.decim ++
      le 1 (slotChans r) ++ r.srcs.flatMap (le 1) ++ r.routes.flatMap (le 1) ++ le 8 r.firstK ++
      le 8 (match r.kt with | some k => k | none => 2 ^ 64 - 1) ++ le 8 r.tMono ++ le 4 (r.tNet % 1000000000) ++
      le 6 (r.tNet / 1000000000) ++ le 2 (busSub r.tBus) ++ le 8 (busCount r.tBus) ++ le 4 (if r.kt.isSome then r.pre else r.ring.length) ++
      le 4 r.post ++ le 4 ((tileSpan r).2) ++ le 4 (((tileSpan r).1 - 1) % max 1 tiles + 1) ++ le 2 r.tState ++ le 2 0 ++
      r.hash.flatMap (le 4) ++ le 4 r.fw ++ le 4 r.extraN ++
      padTo 120 (r.extra.flatMap fun x => le 4 (toBits 32 x.1) ++ le 4 x.2) ++
      padTo 256 (r.disc.flatMap fun x => le 8 x.1 ++ le 8 (s64 x.2)) ++ le 4 r.discN)

/-- The tiles of a slot in time order, header first, with their sequence numbers. -/
def slotTiles (s : State) (n : Nat) : List (Nat × List Byte) :=
  let r := slotAt s n
  if r.loaded then r.raw
  else
    let sp := tileSpan r
    (0, headerTile n (dataTiles s) r) :: ((List.range (sp.2 + 1 - sp.1)).map fun i => (sp.1 + i, dataTile r (sp.1 + i)))

/-! ## The slow stream (R307) -/

/-- One entry of the slow stream. -/
def slowEntry (s : State) : List Byte :=
  let valid := (List.range 24).foldl (fun a n => if meterOk s n then a + 2 ^ n else a) 0 +
    (if powerOk s then 2 ^ 24 + 2 ^ 25 else 0)
  let q (x : Rat) : List Byte := le 4 (toBits 32 (toQ16 x))
  padTo 256 (le 8 (monoNs s) ++ le 4 s.time.cyc ++ le 2 (par s measMaLenNow) ++ le 2 0 ++ le 4 valid ++
    q (s.meter.p / 1000) ++ q (s.meter.q / 1000) ++
    ((List.range 24).flatMap fun n => le 4 (toBits 32 (tabGet (fun _ => 0) s.meter.mean n)) ++ q (tabGet (fun _ => 0) s.meter.rms n)))

/-- SLOW_STREAM_ENTRY: at every SLOW_DIV-th cycle of T_GRID, or every 20 ms while it is stalled; a new tile takes the place of the
oldest of 4,096. -/
def slowStream (s : State) : State :=
  let due := if s.time.stall then decide (s.acq.slowAt + 20000000 ≤ s.time.mono) else decide (par s acqSlowDiv ≤ s.time.cyc - s.acq.slowCyc)
  if s.isl.acq && parBit s acqCtrl 1 && due then
    updAcq (fun a => { a with
      slow := (sampleK s, slowEntry s) :: (if a.slowN % 15 = 0 then a.slow.take (4095 * 15) else a.slow),
      slowN := a.slowN + 1, slowCyc := s.time.cyc, slowAt := s.time.mono }) s
  else s

def execSlowStreamEntry (s : State) : Host.Outcome State Fault Refusal := .next (slowStream s)

/-- The tiles of the slow stream, oldest first, by their index from the oldest. -/
def slowTiles (s : State) : List (Nat × List Byte) :=
  let all := s.acq.slow.reverse
  let t0 := (s.acq.slowN - all.length) / 15
  (List.range ((all.length + 14) / 15)).map fun i =>
    let es := (all.drop (15 * i)).take 15
    let f := es.headD (0, [])
    (i, tileBytes 2 0 (t0 + i) f.1 (ofLe (f.2.take 8)) es.length 256 0 (es.flatMap (·.2)))

/-! ## ACQ.STATUS, ACQ_TRIGGER -/

/-- ACQ.STATUS (R319). -/
def acqStatusWord (s : State) : Nat :=
  let st := match s.acq.active with
    | some n => if (slotAt s n).st = .post then 2 else 1
    | none => if capturing s then 3 else 0
  let has (f : Slot → Bool) : Nat := (List.range 8).foldl (fun a n => if f (slotAt s n) then a + 2 ^ n else a) 0
  st + 4 * s.acq.active.getD 0 + 2 ^ 8 * has (fun r => r.st == .closed && decide (r.held = 0)) +
    2 ^ 16 * has (fun r => r.st == .closed && decide (r.held ≠ 0))

def execAcqTrigger (e : Env) (s : State) : Host.Outcome State Fault Refusal :=
  .next (serveShort 1 0x0040 e (done (fireKind 4 fun _ => true)) s)

end Sys2Proof.Machine
end

