-- ==== Sys2Proof/Machine/Replay.lean ====
section
/-! DEFINITION. Sys2Proof/Machine/Replay.lean: replay (R314 to R318), and the read-out, release and archiving of records (R305, R308,
R387). -/

namespace Sys2Proof.Machine

/-! ## Replay -/

/-- A replay is armed or running. -/
def replaying (s : State) : Bool := s.replay.handle.isSome

/-- Change the hold on a slot (R305). -/
def holdSlot (n : Nat) (up : Bool) (s : State) : State :=
  updSlot n (fun r => { r with held := if up then r.held + 1 else r.held - 1 }) s

/-- A replay ends (R317): the plane returns to live samples, an INJECT term is 0, the slot is no longer held. -/
def endReplay (st cause : Nat) (s : State) : State :=
  match s.replay.handle with
  | none => s
  | some h =>
    let s1 := holdSlot s.replay.slot false { s with replay := {} }
    complete h st cause [] (raiseFlag acqEvents 5 0 (setPar acqRpStatus 0 s1))

/-- The signals a plane requires are targets of the map, and each target is the route its source channel's port had (R315). -/
def mapFits (s : State) (p : Plane) (r : Slot) (map : List (Nat × Nat × Nat)) : Bool :=
  ((required s p).all fun c => map.any fun m => decide (m.2.2 = c)) &&
    map.all fun m => decide (m.2.1 < 24) && decide (r.routes.getD m.2.1 0 = m.2.2)

/-- The enabled map entries. -/
def replayMap (s : State) : List (Nat × Nat × Nat) :=
  (List.range 24).filterMap fun o =>
    let w := par s (acqRpMap o)
    if w.testBit 16 then some (o, bits w 0 6, bits w 8 8) else none

/-- The conditions of INJECT (R316). -/
def injectFits (s : State) : Bool :=
  (lane s .g).st == .running && decide (parBits s gfmState 0 5 = 2) && decide (par s ctlGRefKind = 1)

/-- The status REPLAY_START answers (R314 to R316). -/
def replayStatus (s : State) : Nat :=
  let r := slotAt s (par s acqRpSrc)
  let inject := parBit s acqRpMode 0
  if replaying s then stBusy
  else if r.st ≠ .closed then stWrongState
  else
    let st := if inject then (if injectFits s then stOk else stWrongState)
      else match planeOf (parBits s acqRpMode 1 2) with
        | some p => if (lane s p).st ≠ .stopped then stWrongState else if mapFits s p r (replayMap s) then stOk else stBadParam
        | none => stBadParam
    if st ≠ stOk then st
    else if r.decim ≠ 1 ∨ r.tc ≠ par s clkTcCycles ∨ r.ring.length < par s acqRpStart + par s acqRpLen then stBadParam
    else stOk

/-- REPLAY_START holds the slot and arms (R314). -/
def armReplay (h : Nat) (s : State) : State :=
  let n := par s acqRpSrc
  setPar acqRpStatus 1 (holdSlot n true { s with replay := {
    handle := some h, slot := n, sub := if parBit s acqRpMode 0 then none else some (parBits s acqRpMode 1 2),
    outer := parBit s acqRpMode 3, start := par s acqRpStart, len := par s acqRpLen, loops := par s acqRpLoops,
    trig := parBits s acqRpTrig 0 2, comp := parBits s acqRpTrig 2 4, go := decide (parBits s acqRpTrig 0 2 = 0), map := replayMap s } })

def execReplayStart (e : Env) (s : State) : Host.Outcome State Fault Refusal :=
  .next (serveLong 1 0x0042 e (fun h s =>
    let st := replayStatus s
    if st = stOk then accepted 0x0042 e (armReplay h) s else refuse st s) s)

def execReplayStop (e : Env) (s : State) : Host.Outcome State Fault Refusal :=
  .next (serveShort 1 0x0043 e (fun s =>
    if replaying s then done (endReplay stCancelled cHost) s else refuse stWrongState s) s)

/-- The samples that a replay has still to play before a tile of its record, if it plays that tile at all. -/
def beforeTile (s : State) (tile : Nat) : Option Nat :=
  let rp := s.replay
  let r := slotAt s rp.slot
  let per := perTile (slotChans r)
  (((List.range (max 1 rp.len)).map (· + rp.pos)).find? fun p =>
    decide ((r.count - r.ring.length + rp.start + p % max 1 rp.len) / max 1 per + 1 = tile) && decide (p < rp.len * rp.loops))

/-- A tile of a replay fails its CRC as ISL_ACQ reads it: the replay ends before it (R317). -/
def replayTileBad (tile : Nat) (s : State) : State :=
  match beforeTile s tile with
  | some p =>
    if replaying s && !s.replay.played then
      raiseFlag acqEvents 4 s.replay.slot { s with replay := { s.replay with bad := some (min p (s.replay.bad.getD p)) } }
    else s
  | none => s

/-- The events that end a replay. -/
def replayEnds (r : RpEnd) (s : State) : State :=
  match r with
  | .last => if s.replay.played then endReplay stOk cNone s else s
  | .tileBad tile => replayTileBad tile s
  | .tmax => if s.replay.active && s.replay.sub.isNone then endReplay stCancelled cTimeout s else s

def execReplayEnd (r : RpEnd) (s : State) : Host.Outcome State Fault Refusal := .next (replayEnds r s)

/-- The word of a channel in stored sample i of a record. -/
def recordWord (r : Slot) (i ch : Nat) : Nat :=
  let src := r.srcs.getD ch 0
  if src = 0 then invalidWord
  else
    let pos := ((r.srcs.take ch).filter (· ≠ 0)).length
    (r.ring.getD (r.ring.length - 1 - i) {}).words.getD pos invalidWord

/-- The sample a word carries. -/
def wordSample (w : Nat) : Sample := { val := signedOf 32 w, valid := decide (w ≠ invalidWord) }

/-- The samples that a replay plays in all. -/
def replayLength (s : State) : Nat := let n := s.replay.len * s.replay.loops; min n (s.replay.bad.getD n)

/-- The gain of INJECT at a sample (R316). -/
def injectGain (s : State) (pos : Nat) : Rat :=
  let ramp := par s acqInjRamp
  let all := replayLength s
  if ramp = 0 then 1 else min 1 (min ((pos : Rat) / ramp) (((all : Rat) - pos) / ramp))

/-- Play the next sample at a strobe: the signals of SUBSTITUTE or the term of INJECT. -/
def playSample (s : State) : State :=
  let rp := s.replay
  let r := slotAt s rp.slot
  let i := rp.start + rp.pos % max 1 rp.len
  let cur := rp.map.map fun m => (m.2.2, wordSample (recordWord r i m.2.1))
  let lim : Rat := (par s acqInjMax : Rat) / 65536
  let out (o : Nat) : Rat :=
    match rp.map.find? (·.1 = o) with
    | some m =>
      let w := recordWord r i m.2.1
      if w = invalidWord then 0 else injectGain s rp.pos * clampR (-lim) lim (ofQ16 (signedOf 32 w))
    | none => 0
  { s with replay := { rp with
      pos := rp.pos + 1
      cur := if rp.sub.isSome then cur else []
      inj := if rp.sub.isNone then { a := out 0, b3 := Config.sqrt3 * out 1 } else {} } }

/-- The replay at a strobe (R314, R317): a condition that has come starts it, each strobe plays one sample, and after the last the
plane is on live samples. -/
def replayStrobe (s : State) : State :=
  if !replaying s then s
  else if !s.isl.acq then endReplay stCancelled cIsland s
  else if s.replay.played then endReplay stOk cNone s
  else if s.replay.bad.isSome && (s.replay.active || s.replay.go) && decide (replayLength s ≤ s.replay.pos) then
    endReplay stTruncated cCondition s
  else if s.replay.active then
    if replayLength s ≤ s.replay.pos then
      { s with replay := { s.replay with active := false, played := true, cur := [], inj := {} } }
    else playSample s
  else if s.replay.go then
    fireKind 7 (fun _ => true) (playSample (setPar acqRpStatus 2 { s with replay := { s.replay with active := true } }))
  else s

/-- A comparator's firing meets the start condition of a replay (R314). -/
def replayComparator (tc : Nat) (s : State) : State :=
  if replaying s ∧ s.replay.trig = 1 ∧ s.replay.comp = tc then { s with replay := { s.replay with go := true } } else s

/-- The causes of R316 end an INJECT at the next sample. -/
def injectCheck (s : State) : State :=
  if replaying s ∧ s.replay.sub.isNone ∧ s.replay.active then
    let l := lane s .g
    if l.st ≠ .running then endReplay stCancelled (if l.st = .safe then cSafe else cCondition) s
    else if l.meas.ilimAct || l.meas.feHit then endReplay stCancelled cCondition s
    else s
  else s

/-! ## ACQ_READ, BULK_DATA -/

/-- The tiles of a read in time order, or the status of its refusal (R308, R340). -/
def readTiles (p : ReadPay) (s : State) : Nat × List (Nat × List Byte) :=
  let cut (l : List (Nat × List Byte)) : List (Nat × List Byte) :=
    let t := l.filter fun x => p.first ≤ x.1
    if p.count = 0 then t else t.take p.count
  match p.src with
  | 0 =>
    if slotCount s ≤ p.slot ∨ p.num ≠ 0 then (stBadParam, [])
    else if (slotAt s p.slot).st = .closed then (stOk, cut (slotTiles s p.slot)) else (stWrongState, [])
  | 1 => if p.num ≠ 0 then (stBadParam, []) else (stOk, cut (slowTiles s))
  | 2 => match s.acq.archive.find? (·.1 = p.num) with
    | some x => (stOk, cut x.2)
    | none => (stBadParam, [])
  | _ => (stBadParam, [])

def execAcqRead (e : Env) (p : ReadPay) (s : State) : Host.Outcome State Fault Refusal :=
  .next (serveLong 3 0x0210 e (fun h s =>
    if p.resv ≠ 0 ∨ !s.isl.acq then refuse (if p.resv ≠ 0 then stBadParam else stWrongState) s
    else
      let r := readTiles p s
      if r.1 ≠ stOk then refuse r.1 s
      else accepted 0x0210 e (fun s =>
        let s1 := if p.src = 0 then holdSlot p.slot true s else s
        updAcq (fun a => { a with reads := a.reads ++ [{
          handle := h, slot := if p.src = 0 then some p.slot else none, tiles := r.2 }] }) s1) s) s)

/-- Take a read out of the list and end it. -/
def endRead (o : ReadOp) (st cause : Nat) (s : State) : State :=
  let s1 := updAcq (fun a => { a with reads := a.reads.filter (·.handle ≠ o.handle) }) s
  let s2 := match o.slot with | some n => holdSlot n false s1 | none => s1
  complete o.handle st cause (le 4 o.bad) s2

/-- There is room for a BULK_DATA event on a handle's channel (R344). -/
def bulkRoom (s : State) (h : Nat) : Bool :=
  match findOp s h with
  | some o => match o.chan with
    | .spi => decide (s.host.out.length < 64)
    | _ => true
  | none => true

/-- Send the next packet of the first read (R308, R339): at most 1,424 bytes, the tile re-verified at its first packet. -/
def bulkData (bad : Bool) (s : State) : State :=
  match s.acq.reads with
  | [] => s
  | o :: _ =>
    if !bulkRoom s o.handle then s
    else match o.tiles with
    | [] => endRead o stOk cNone s
    | (u, t) :: rest =>
      let isBad := if o.off = 0 then bad else o.isBad
      let s1 := if o.off = 0 ∧ bad then raiseFlag acqEvents 4 u s else s
      let part := (t.drop o.off).take 1424
      let ends := decide (t.length ≤ o.off + part.length)
      let o1 : ReadOp := { o with
        tiles := if ends then rest else o.tiles
        off := if ends then 0 else o.off + part.length
        isBad := isBad && !ends
        bad := if o.off = 0 ∧ bad then o.bad + 1 else o.bad }
      let last := ends && rest.isEmpty
      let body := le 4 u ++ le 2 o.off ++ le 1 (if isBad then 1 else 0) ++ [0] ++ part
      let pkt := eventPacket s1 3 0x0004 o.handle (if last then 16 else 0) 0 body
      let s2 := match findOp s1 o.handle with | some x => sendTo x.chan pkt s1 | none => s1
      if last then endRead o1 stOk cNone s2
      else updAcq (fun a => { a with reads := a.reads.map fun x => if x.handle = o.handle then o1 else x }) s2

def execBulkData (bad : Bool) (s : State) : Host.Outcome State Fault Refusal := .next (bulkData bad s)

/-! ## ACQ_RELEASE, ACQ_ARCHIVE -/

/-- ACQ_RELEASE of a slot (R305, R308, R318). -/
def releaseSlot (n : Nat) (s : State) : State :=
  let s1 := (s.acq.reads.filter fun o => o.slot = some n).foldl (fun s o => endRead o stCancelled cRelease s) s
  let s2 := match s1.acq.arch with
    | some (h, m) => if m = n then complete h stCancelled cRelease [] (holdSlot n false (updAcq (fun a => { a with arch := none }) s1)) else s1
    | none => s1
  let full := capturing s2 && s2.acq.active.isNone
  let s3 := updSlot n (fun _ => {}) s2
  if full then fillSlot n s3 else s3

def execAcqRelease (e : Env) (p : SlotPay) (s : State) : Host.Outcome State Fault Refusal :=
  .next (serveShort 1 0x0041 e (fun s =>
    if p.resv ≠ 0 ∨ slotCount s ≤ p.slot then refuse stBadParam s
    else if (slotAt s p.slot).st ≠ .closed || (replaying s && decide (s.replay.slot = p.slot)) then refuse stWrongState s
    else done (releaseSlot p.slot) s) s)

def execAcqArchive (e : Env) (p : SlotPay) (s : State) : Host.Outcome State Fault Refusal :=
  .next (serveLong 3 0x0211 e (fun h s =>
    if p.resv ≠ 0 ∨ slotCount s ≤ p.slot then refuse stBadParam s
    else if (slotAt s p.slot).st ≠ .closed then refuse stWrongState s
    else if s.acq.arch.isSome then refuse stBusy s
    else accepted 0x0211 e (fun s => holdSlot p.slot true (updAcq (fun a => { a with arch := some (h, p.slot) }) s)) s) s)

/-- Tiles in the archive. -/
def archUsed (l : List (Nat × List (Nat × List Byte))) : Nat := l.foldl (fun a r => a + r.2.length) 0

/-- Erase whole records, oldest first, until n tiles fit in 3,584. -/
def archMake (n : Nat) : List (Nat × List (Nat × List Byte)) → List (Nat × List (Nat × List Byte))
  | [] => []
  | r :: t => if archUsed (r :: t) + n ≤ 3584 then r :: t else archMake n t

/-- The header and the 3,583 data tiles nearest the trigger tile, when a record is larger than the archive (R387). -/
def archCut (r : Slot) (l : List (Nat × List Byte)) : List (Nat × List Byte) :=
  if l.length ≤ 3584 then l
  else
    let trig := r.pos / max 1 (perTile (slotChans r)) + 1
    let first := (l.drop 1).headD (1, []) |>.1
    let lo := max first (min (trig - 1791) (first + (l.length - 1) - 3583))
    (l.take 1) ++ ((l.drop 1).filter fun x => lo ≤ x.1).take 3583

/-- ARCHIVE_COMPLETE (R387): the copy ends, TRUNCATED when it could not hold every tile. -/
def archiveComplete (s : State) : State :=
  match s.acq.arch with
  | none => s
  | some (h, n) =>
    let r := slotAt s n
    let all := slotTiles s n
    let l := archCut r all
    let s1 := holdSlot n false (updAcq (fun a => { a with
      arch := none, archive := archMake l.length a.archive ++ [(r.num, l)] }) s)
    let s2 := setPar fwArchFree (3584 - archUsed s1.acq.archive) s1
    if l.length < all.length then complete h stTruncated cCondition (le 4 r.num) s2 else complete h stOk cNone (le 4 r.num) s2

def execArchiveComplete (s : State) : Host.Outcome State Fault Refusal := .next (archiveComplete s)

/-! ## REPLAY_LOAD, REPLAY_DATA -/

def execReplayLoad (e : Env) (p : SlotPay) (tiles : Nat) (s : State) : Host.Outcome State Fault Refusal :=
  .next (serveLong 3 0x0212 e (fun h s =>
    if p.resv ≠ 0 ∨ slotCount s ≤ p.slot then refuse stBadParam s
    else if (slotAt s p.slot).st ≠ .free then refuse stWrongState s
    else if s.acq.load.isSome then refuse stBusy s
    else if tiles < 1 ∨ dataTiles s + 1 < tiles then refuse stOutOfRange s
    else accepted 0x0212 e (fun s =>
      updAcq (fun a => { a with load := some { handle := h, slot := p.slot, total := tiles } })
        (updSlot p.slot (fun _ => { st := .loading, loaded := true }) s)) s) s)

/-- A tile carries the magic, a kind and the CRC of R299; the header's flag [0] is set (R314). -/
def loadedOk (seq : Nat) (t : List Byte) : Bool :=
  decide (ofLe (t.take 2) = 0xA7C4) && decide (ofLe ((t.drop 4).take 4) = seq) &&
    decide (ofLe ((t.drop 2).take 1) = if seq = 0 then 1 else 0) && decide (crc32c (t.take 4092) = ofLe ((t.drop 4092).take 4)) &&
    (decide (seq ≠ 0) || (ofLe ((t.drop 39).take 1)).testBit 0)

/-- The bundles of a loaded data tile. -/
def tileBundles (t : List Byte) : List Bundle :=
  let f (o n : Nat) : Nat := ofLe ((t.drop o).take n)
  let b := f 26 2
  (List.range (f 24 2)).map fun j => { k := f 8 8 + j, mono := f 16 8, words := (List.range (b / 4)).map fun i => f (32 + j * b + 4 * i) 4 }

/-- The slot of a complete load: its header's fields and its samples. -/
def loadedSlot (raw : Tab (List Byte)) : Slot :=
  let h := tabGet (fun _ => []) raw 0
  let f (o n : Nat) : Nat := ofLe ((h.drop o).take n)
  let bs := (raw.filter fun x => x.1 ≠ 0).flatMap fun x => tileBundles x.2
  { st := .closed, loaded := true, num := f 32 4, status := f 36 1, cause := f 40 4, tc := f 44 2, decim := f 46 1,
    srcs := (List.range 48).map fun i => f (48 + i) 1, routes := (List.range 24).map fun i => f (96 + i) 1, firstK := f 120 8,
    count := bs.length, ring := bs.reverse, raw := raw }

/-- Add a fragment to the unit it belongs to; none when a byte arrives a second time (R339). -/
def addFrag (unit grp owner off : Nat) (data : List Byte) (l : List Frag) : Option (Frag × List Frag) :=
  let is (f : Frag) : Bool := decide (f.unit = unit) && decide (f.grp = grp) && decide (f.owner = owner)
  let f := (l.find? is).getD { unit := unit, grp := grp, owner := owner }
  let at' := (List.range data.length).map (· + off)
  if at'.any f.got.contains then none
  else
    let g : Frag := { f with
      bytes := (data.zipIdx).foldl (fun t x => tabSet (fun _ => 0) t (off + x.2) x.1) f.bytes, got := at' ++ f.got }
    some (g, g :: l.filter fun x => !is x)

/-- The bytes of a unit of n bytes, once all have arrived. -/
def fragWhole (n : Nat) (f : Frag) : Option (List Byte) :=
  if f.got.length = n then some ((List.range n).map fun i => tabGet (fun _ => 0) f.bytes i) else none

/-- End a load: the slot holds the record, or is FREE again. -/
def endLoad (o : LoadOp) (st cause : Nat) (slot : Slot) (s : State) : State :=
  complete o.handle st cause [] (updSlot o.slot (fun _ => slot) (updAcq (fun a => { a with load := none }) s))

/-- One REPLAY_DATA packet (R314, R339): a tile that fails its checks ends the load with BAD_PARAM. -/
def replayData (e : Env) (p : DataPay) (s : State) : State × Ans :=
  match s.acq.load with
  | none => refuse stNoHandle s
  | some o =>
    if o.handle ≠ e.handle then refuse stNoHandle s
    else if p.pre.b6 ≠ 0 ∨ p.pre.grp ≠ 0 ∨ o.total ≤ p.pre.unit ∨ 4096 < p.pre.offset + p.data.length then refuse stBadParam s
    else if (tabGet (fun _ => []) (slotAt s o.slot).raw p.pre.unit).length ≠ 0 then refuse stBadParam s
    else match addFrag p.pre.unit 0 0 p.pre.offset p.data o.frags with
      | none => refuse stBadParam s
      | some (f, fs) =>
        match fragWhole 4096 f with
        | none => done (updAcq fun a => { a with load := some { o with frags := fs } }) s
        | some t =>
          if !loadedOk p.pre.unit t then done (endLoad o stBadParam cNone {}) s
          else
            let raw := tabSet (fun _ => []) (slotAt s o.slot).raw p.pre.unit t
            if raw.length = o.total then done (endLoad o stOk cNone (loadedSlot raw)) s
            else done (fun s => updSlot o.slot (fun r => { r with raw := raw })
              (updAcq (fun a => { a with load := some { o with frags := fs.filter (· ≠ f) } }) s)) s

def execReplayData (e : Env) (p : DataPay) (s : State) : Host.Outcome State Fault Refusal :=
  .next (withLength (dataLen p.data) 3 0x0213 e (serveShort 3 0x0213 e (replayData e p)) s)

end Sys2Proof.Machine
end

