-- ==== Sys2Proof/Machine/Net.lean ====
section
/-! DEFINITION. Sys2Proof/Machine/Net.lean: the servo of T_NET and its steps (R274 to R279), the ordinary clock (R271) and the transparent
clock (R272), the time comparators (R284, R285), timed launch and forwarding (R286 to R290), and the latch of the bases (R269). -/

namespace Sys2Proof.Machine

/-- Change the time bases. -/
def updTime (f : Time → Time) (s : State) : State := { s with time := f s.time }

/-! ## The latch (R269) -/

/-- The values of ISL_ACQ go into the snapshot registers. -/
def latchBases (s : State) : State :=
  let mono := (acqBase s 0 0).floor.toNat % 2 ^ 64
  let net := (acqBase s 1 0).floor.toNat
  let bus := busCount (acqBase s 2 0)
  let grid := (acqBase s 3 0).floor.toNat
  [(timeMonoLo, mono % 2 ^ 32), (timeMonoHi, mono / 2 ^ 32), (timeNetNs, net % 1000000000),
   (timeNetSLo, net / 1000000000 % 2 ^ 32), (timeNetSHi, net / 1000000000 / 2 ^ 32 % 2 ^ 16), (timeBusCntLo, bus % 2 ^ 32),
   (timeBusCntHi, bus / 2 ^ 32), (timeBusSub, busSub (acqBase s 2 0)), (timeGridAngle, grid % 2 ^ 32),
   (timeGridCyc, grid / 2 ^ 32 % 2 ^ 32)].foldl (fun s x => setPar x.1 x.2 s) s

/-! ## Comparators (R284, R285) -/

/-- The 48-bit comparison field of a base (R267), c cycles of CLK_CTL after the last strobe. -/
def baseField (s : State) (b : Nat) (c : Rat) : Nat := (acqBase s b c).floor.toNat % 2 ^ 48

/-- The event time of a comparator. -/
def tcEvent (s : State) (tc : Nat) : Nat := par s (timeTcEvtLo tc) + 2 ^ 32 * par s (timeTcEvtHi tc)

/-- (now − event) as a signed 48-bit value. -/
def tcDiff (s : State) (tc : Nat) (c : Rat) : Int :=
  signedOf 48 (toBits 48 ((baseField s (parBits s (timeTcCtrl tc) 0 2) c : Int) - tcEvent s tc))

/-- An armed comparator whose base has reached its event time: it fires, while ISL_ACQ runs. -/
def tcDue (s : State) (tc : Nat) (c : Rat) : Bool := s.isl.acq && parBit s (timeTcCtrl tc) 2 && decide (0 ≤ tcDiff s tc c)

/-- What happens between strobes carries the time at which it does. -/
def atTime (c : Rat) (f : State → State) (s : State) : State :=
  let s1 := f (advanceBases c s)
  { s1 with time := { s1.time with mono := s.time.mono, net := s.time.net, bus := s.time.bus, reps := s.time.reps } }

/-- An armed comparator fires: it is disarmed, TC_FIRE is raised, and the mask steps, trigger units and replays act on it. -/
def fireComparator (tc at' : Nat) (s : State) : State :=
  atTime at' (fun s =>
    let s1 := raiseFlag (timeTcStatus tc) 1 tc (setParBit (timeTcCtrl tc) 2 false s)
    replayComparator tc (fireKind 6 (fun u => decide (parBits s1 (acqTuCtrl u) 13 4 = tc)) (maskComparator tc at' s1))) s

/-- TIME.TCnn.CTRL was written with the armed bit: an event time that has passed sets LATE_ARM, and the comparator fires (R284). -/
def armComparator (tc : Nat) (s : State) : State :=
  if tcDue s tc 0 then fireComparator tc 0 (setParBit (timeTcStatus tc) 2 true s) else s

/-- A comparator's base reaches its event time (R284, R285), at a cycle of CLK_CTL after the last strobe. -/
def tcFire (tc at' : Nat) (s : State) : State := if tcDue s tc at' then fireComparator tc at' s else s

def execTcFire (tc : Timed Nat) (s : State) : Host.Outcome State Fault Refusal :=
  .next (if tc.what < 16 then tcFire tc.what tc.cycle s else s)

/-- The module drives the bus: its relays are open and ISL_ACQ runs (R55). -/
def onYbus (s : State) : Bool := s.isl.yOpen && s.isl.acq

/-- The head drives the marks whose T_BUS instant lies in the period of n cycles: 300 ns at a multiple of 10⁹ ns, 100 ns at a multiple of
CMARK × 2.5 ns; one that is both is driven once, as the longer (R311). -/
def driveMarks (n : Nat) (s : State) : State :=
  if !isHead s || !onYbus s then s
  else
    let last (q t : Rat) : Rat := (t / q).floor * q
    let q : Rat := (par s ybusCmark : Rat) * 5 / 2
    let t := s.time.bus + n * busInc s
    let sec := decide (s.time.bus < last 1000000000 t)
    let s1 := if sec then emit (.yarrow 2 300) s else s
    if q ≠ 0 ∧ s.time.bus < last q t ∧ !(sec && decide (last q t = last 1000000000 t)) then emit (.yarrow 3 100) s1 else s1

/-- Every comparator whose event time the period of n cycles passes has fired by its end, at the first cycle that reaches it. -/
def dueComparators (n : Nat) (s : State) : State :=
  (List.range 16).foldl (fun s tc =>
    if tcDue s tc n then fireComparator tc (((List.range n).find? fun c : Nat => tcDue s tc c).getD n) s else s) s

/-! ## Ethernet ports (R272, R286 to R290) -/

/-- An Ethernet port. -/
def ethOf (s : State) (n : Nat) : Eth := if n = 0 then s.eth0 else s.eth1

def updEth (n : Nat) (f : Eth → Eth) (s : State) : State :=
  if n = 0 then { s with eth0 := f s.eth0 } else { s with eth1 := f s.eth1 }

/-- An event that names an Ethernet port. -/
def onEth (n : Nat) (f : State → State) (s : State) : Host.Outcome State Fault Refusal :=
  .next (if n < 2 then f s else s)

/-- Both links are up and ISL_SYS runs: the ports forward (R272). -/
def forwards (s : State) : Bool := s.isl.sys && s.eth0.up && s.eth1.up

def execLinkUp (n : Nat) (gig : Bool) (s : State) : Host.Outcome State Fault Refusal :=
  onEth n (updEth n fun e => { e with up := true, gig := gig }) s

/-- Discard the queues of a port that a test names; their handles complete with CANCELLED (R290, R361). -/
def dropQueues (n : Nat) (q : Nat → Bool) (s : State) : State :=
  let e := ethOf s n
  let gone := (List.range 8).flatMap fun i => if q i then (e.queues.getD i []).filterMap (·.handle) else []
  cancelAll gone cRelease (updEth n (fun e => { e with
    queues := (List.range 8).map fun i => if q i then [] else e.queues.getD i [] }) s)

def execLinkDown (n : Nat) (s : State) : Host.Outcome State Fault Refusal :=
  onEth n (fun s => dropQueues n (fun _ => true) (updEth n (fun e => { e with up := false }) s)) s

/-- Queue a frame at a port. -/
def queueFrame (n q : Nat) (f : Frame) (s : State) : State :=
  updEth n (fun e => { e with queues := e.queues.set q (e.queues.getD q [] ++ [f]) }) s

/-- A frame not addressed to the DVX4 goes to the other port, by its priority code point (R272, R286). -/
def frameForward (n : Nat) (pcp : Option Nat) (bytes : List Byte) (s : State) : State :=
  if forwards s then queueFrame (1 - n) ((pcp.getD 0) % 8) { bytes := bytes } s else s

def execFrameForward (n : Nat) (pcp : Option Nat) (bytes : List Byte) (s : State) : Host.Outcome State Fault Refusal :=
  onEth n (frameForward n pcp bytes) s

/-- Bytes of a frame. -/
def frameLength (s : State) (f : Frame) : Nat :=
  match f.ptp with
  | some k => Config.ptpLength k (par s netPtpTransport)
  | none => f.bytes.length

/-- Time on the line of a frame with its preamble and FCS, ns. -/
def lineTime (s : State) (n : Nat) (f : Frame) : Nat := (frameLength s f + 12) * (if (ethOf s n).gig then 8 else 80)

/-- L = now − launch of a frame, for a time in ns after the last strobe (R288): T_NET itself and ISL_SYS's replica of T_MONO. -/
def lateness (s : State) (dt : Nat) (f : Frame) : Int :=
  let c : Rat := dt / pllNs s
  let now : Nat := (if f.base = 1 then masterAt s 3 c else repAt s 0 c).floor.toNat % 2 ^ 48
  signedOf 48 (toBits 48 ((now : Int) - f.launch))

/-- The head of a queue leaves on the line; its handle completes. A two-step Sync of the DVX4's own is followed by its Follow_Up. -/
def sendHead (n q : Nat) (f : Frame) (s : State) : State :=
  let s1 := updEth n (fun e => { e with queues := e.queues.set q ((e.queues.getD q []).drop 1) }) s
  match f.ptp with
  | some k => (fun s => if k = 0 ∧ par s netPtpStep = 1 then emit (.ptp n 8 0) s else s) (emit (.ptp n (4 + k) 0) s1)
  | none => (match f.handle with | some h => complete h stOk cNone [] | none => id) (emit (.eth n f.bytes) s1)

/-- The head of a queue is discarded as LATE (R288). -/
def discardHead (n q : Nat) (f : Frame) (s : State) : State :=
  let s1 := count (netEthLateCnt n) (updEth n (fun e => { e with queues := e.queues.set q ((e.queues.getD q []).drop 1) }) s)
  match f.handle with | some h => complete h stLate cNone [] s1 | none => s1

/-- What a port does at a frame boundary on the line with queue q and those below (R286, R288, R289): `guard` is the time until the
nearest launch that waits in a higher queue. -/
def serveQueue (n dt q : Nat) (guard : Option Nat) : Nat → State → State × Bool × Option Nat
  | 0, s => (s, false, guard)
  | k + 1, s =>
    match (ethOf s n).queues.getD q [] with
    | [] => (s, false, guard)
    | f :: _ =>
      let blocked := parBit s (netEthGuard n) 0 && (match guard with | some g => decide (g < lineTime s n f) | none => false)
      let l := lateness s dt f
      if f.base = 0 ∨ (0 ≤ l ∧ l ≤ par s (netEthLateLimit n)) then
        if blocked then (s, false, guard) else (sendHead n q f s, true, guard)
      else if l < 0 then (s, false, some (match guard with | some g => min g (-l).toNat | none => (-l).toNat))
      else serveQueue n dt q guard k (discardHead n q f s)

/-- Serve the queues of a port in strict priority, from queue 7 down; one frame is sent at a frame boundary. -/
def servePort (n dt : Nat) (s : State) : State :=
  if !(ethOf s n).up then s
  else
    ((List.range 8).reverse.foldl (fun (a : State × Bool × Option Nat) q =>
      if a.2.1 then a else serveQueue n dt q a.2.2 (((ethOf a.1 n).queues.getD q []).length + 1) a.1) (s, false, none)).1

def execLaunch (n dt : Nat) (s : State) : Host.Outcome State Fault Refusal := onEth n (servePort n dt) s

/-- R288 at a forward step of T_NET: the frames on T_NET at the head of a queue whose launch time was passed are discarded as LATE, or
the first of them is sent at once; the others wait for the line (R278). -/
def stepQueue (n q : Nat) : Nat → State × Bool → State × Bool
  | 0, a => a
  | k + 1, a =>
    match (ethOf a.1 n).queues.getD q [] with
    | [] => a
    | f :: _ =>
      let l := lateness a.1 0 f
      if f.base ≠ 1 ∨ l < 0 then a
      else if (par a.1 (netEthLateLimit n) : Int) < l then stepQueue n q k (discardHead n q f a.1, a.2)
      else if a.2 then a else (sendHead n q f a.1, true)

def stepFrames (n : Nat) (s : State) : State :=
  if !(ethOf s n).up then s
  else ((List.range 8).reverse.foldl (fun a q => stepQueue n q (((ethOf a.1 n).queues.getD q []).length + 1) a) (s, false)).1

/-! ## The transparent clock (R272) -/

/-- A PTP message is forwarded: the residence time, with the ingress delay in peer-to-peer operation, goes into the Sync or into
the matching Follow_Up (R272); a Follow_Up without its Sync has none to carry. -/
def ptpForward (n : Nat) (m : PtpMsg) (res : Int) (s : State) : State :=
  if !forwards s || decide (par s netPtpTc = 0) then s
  else
    let sum := res + (if par s netPtpDelay = 1 then signedOf 32 (par s (netEthPd n)) else 0)
    let others (k : Nat) : List (Nat × Nat × Int) := s.time.tcSum.filter fun x => !(decide (x.1 = n) && decide (x.2.1 = k))
    match m with
    | .syncOne => emit (.ptp (1 - n) 0 sum) s
    | .syncTwo k => emit (.ptp (1 - n) 1 0) (updTime (fun t => { t with tcSum := (n, k, sum) :: others k }) s)
    | .followUp k =>
      emit (.ptp (1 - n) 2 (((s.time.tcSum.find? fun x => decide (x.1 = n) && decide (x.2.1 = k)).map (·.2.2)).getD 0))
        (updTime (fun t => { t with tcSum := others k }) s)
    | .other => emit (.ptp (1 - n) 3 0) s

def execPtpForward (n : Nat) (m : PtpMsg) (res : Int) (s : State) : Host.Outcome State Fault Refusal :=
  onEth n (ptpForward n m res) s

/-! ## The ordinary clock (R271, R286) -/

/-- The DVX4 is the master: it is MASTER_CAPABLE and has heard none. -/
def ptpLeads (s : State) : Bool := s.time.alone && decide (par s netPtpRole = 1)

/-- The clockClass that it announces: 7 while it holds a T_NET once synchronised and in HOLDOVER, else 248. -/
def clockClass (s : State) : Nat := if s.time.synced && decide (s.time.servo = 3) then 7 else 248

/-- An interval of 2^log s in ns, from a word of two's complement. -/
def logInterval (w : Nat) : Rat :=
  let e := signedOf 8 w
  if e < 0 then 1000000000 / 2 ^ (-e).toNat else 1000000000 * 2 ^ e.toNat

/-- The event messages that are due on a port: Sync as master, Delay_Req to the chosen master in end-to-end operation, Pdelay_Req in
peer-to-peer operation. -/
def dueMessages (s : State) (n : Nat) : List Nat :=
  if !(ethOf s n).up || !parBit s netPtpEn n then []
  else (if ptpLeads s then [0] else []) ++
    (if par s netPtpDelay = 1 then [2] else if !ptpLeads s && s.time.master.isSome && decide (s.time.port = n) then [1] else [])

/-- The own clock's event messages go to queue 7 at each Sync interval, and as master it announces itself at each Announce interval:
domain, priorities and clockClass. -/
def ptpTick (s : State) : State :=
  if !s.isl.sys || s.isl.restart then s
  else
    let s1 := if s.time.mono < s.time.msgAt then s
      else [0, 1].foldl (fun s n => (dueMessages s n).foldl (fun s k => queueFrame n 7 { ptp := some k } s) s)
        (updTime (fun t => { t with msgAt := t.mono + logInterval (par s netPtpSyncLog) }) s)
    if s1.time.mono < s1.time.annAt then s1
    else
      let w : Nat := clockClass s1 + 256 * par s1 netPtpPrio1 + 65536 * par s1 netPtpPrio2 + 16777216 * par s1 netPtpDomain
      [0, 1].foldl (fun s n => if ptpLeads s && (ethOf s n).up && parBit s netPtpEn n then emit (.ptp n 7 w) s else s)
        (updTime (fun t => { t with annAt := t.mono + logInterval (par s1 netPtpAnnLog) }) s1)

/-! ## The servo of T_NET -/

/-- A rate word of ppm in 2⁻⁴⁰ per step. -/
def ppmWord (ppm : Nat) : Int := (ppm * 2 ^ 40 / 1000000 : Nat)

/-- Write the rate word r: the frequency term and an offset term within ±SLEW_MAX (R274). -/
def writeRate (slew : Int) (s : State) : State :=
  let lim := ppmWord (par s timeSlewMax)
  setPar timeNetRate (toBits 32 (s.time.freq + clampI (-lim) lim slew)) s

/-- A pending group action sees that T_NET was stepped or became suspect after its GO (R410). -/
def groupMoved (s : State) : State :=
  { s with red := { s.red with act := s.red.act.map fun a => { a with moved := a.moved || a.decided } } }

/-- Replicas of a base take a step with their master (R268). -/
def stepReps (is : List Nat) (d : Rat) (t : Time) : Time :=
  { t with reps := (t.reps.zipIdx).map fun r => if is.contains r.2 then { r.1 with floor := r.1.floor + d } else r.1 }

/-- The first outer boundary at least some ns ahead. -/
def boundaryAfter (ns : Nat) (s : State) : Nat :=
  let per : Rat := max 1 (nCyc s * (5 / 2))
  let o := max 1 (par s clkOuterPeriods)
  (sampleK s + ((ns : Rat) / per).ceil.toNat + o - 1) / o * o

/-- A 48-bit time on a base, less now. -/
def ahead48 (t now : Nat) : Int := signedOf 48 (toBits 48 ((t : Int) - now))

/-- The first outer boundary whose strobe lies at or after t_apply on T_NET (R410). -/
def applyBoundary (a : GAct) (s : State) : Nat := boundaryAfter (max 0 (ahead48 a.tApply (baseField s 1 0))).toNat s

/-- After the confirmation a step of T_NET acts on t_apply, and so on the boundary of a group's swap that has not come (R410). -/
def groupKh (s : State) : State :=
  match s.red.act, s.fw.hitless with
  | some a, some h =>
    if a.begun && decide (a.handle = h.handle) && decide (h.stage ≤ 3) then
      { s with fw := { s.fw with hitless := some { h with ask := applyBoundary a s, kh := applyBoundary a s } } }
    else s
  | _, _ => s

/-- T_NET is stepped by an amount, and its replicas with it (R268, R278). A forward step fires the comparators on T_NET whose event time
it passes, and applies R288 to the frames. -/
def stepNet (d : Int) (s : State) : State :=
  let s1 := groupKh (noteDiscontinuity d (count timeStepCnt (groupMoved (updTime (fun t => { stepReps [3, 4] d t with net := t.net + d }) s))))
  if d ≤ 0 then s1
  else stepFrames 1 (stepFrames 0 ((List.range 16).foldl (fun s tc =>
    if tcDue s tc 0 && decide (parBits s (timeTcCtrl tc) 0 2 = 1) then fireComparator tc 0 s else s) s1))

/-- The detail of the FLAG that enters a discontinuity in the event stream: the size of the step in ns (R278; log entry 83). -/
def stepDetail (d : Int) : Nat := toBits 32 (clampI (-2147483648) 2147483647 d)

/-- Clear TIME_SUSPECT. -/
def clearSuspect (s : State) : State := updTime (fun t => { t with suspect := false }) s

/-- The treatment of a measured offset (R276) in ACQUIRE, LOCKED or HOLDOVER. -/
def treatOffset (off slew : Int) (s : State) : State :=
  let lim : Int := par s timeStepLimit
  if absI off ≤ lim then writeRate slew (clearSuspect s)
  else if off < 0 then writeRate 0 (clearSuspect (raiseFlag timeEvents 0 (stepDetail (-off)) (stepNet (-off) s)))
  else
    let s1 := if s.time.suspect then s else raiseFlag timeEvents 1 0 (groupMoved (updTime (fun t => { t with suspect := true }) s))
    writeRate (-(ppmWord (par s timeSlewMax))) s1

/-- PD_HOLD is in force, or its count goes on in HOLDOVER (R279). -/
def pdHolding (s : State) : Bool := s.time.servo == 4 || !s.time.cand.isEmpty

/-- The state after an offset: LOCKED after 16 consecutive Syncs within 200 ns (R274). -/
def servoStep (off : Int) (s : State) : State :=
  let good := if absI off ≤ 200 then s.time.good + 1 else 0
  updTime (fun t => { t with
    good := min 16 good
    servo := if t.servo = 2 then 2 else if 16 ≤ good then 2 else 1 }) s

/-- The chosen master has changed (R291). -/
def newMaster (port m : Nat) (s : State) : State :=
  match s.time.master with
  | none => updTime (fun t => { t with master := some m }) s
  | some o =>
    if o = m then s
    else
      let s1 := raiseFlag timeEvents 7 0 (updTime (fun t => { t with master := some m }) s)
      if pdHolding s1 then updTime (fun t => { t with servo := 1, good := 0, cand := [], pd := t.pd.set port none }) s1 else s1

/-- A Sync from the chosen master, of the domain and the transport in force (R271, R276, R280). In FREE T_NET is stepped; the entry in
the event stream is a FLAG of TIME_STEP, whose sticky bit R276 does not set there (log entry 83). -/
def ptpSync (m : PtpSync) (s0 : State) : State :=
  if !s0.isl.sys || s0.isl.restart || !parBit s0 netPtpEn m.port || decide (m.domain ≠ par s0 netPtpDomain) ||
    m.ieee != decide (par s0 netPtpTransport = 1) then s0
  else
    let s := updTime (fun t => { t with alone := false, port := m.port }) (newMaster m.port m.master s0)
    let off := m.offset - signedOf 32 (par s (netEthAsym m.port))
    let s1 := setPar timeOffset (toBits 32 (clampI (-2147483648) 2147483647 off)) (updTime (fun t => { t with offset := off }) s)
    if pdHolding s1 then s1
    else
      let lim := ppmWord 1000
      let s2 := setPar timeErrEst (m.err % 2 ^ 32) (updTime (fun t => { t with freq := clampI (-lim) lim m.freq, synced := true }) s1)
      if s2.time.servo = 0 then
        flagEvent timeEvents 0 (stepDetail (-off)) (writeRate 0 (updTime (fun t => { t with servo := 1, good := 0, offset := 0 })
          (stepNet (-off) s2)))
      else servoStep off (treatOffset off m.slew s2)

def execPtpSync (m : PtpSync) (s : State) : Host.Outcome State Fault Refusal :=
  .next (if m.port < 2 then ptpSync m s else s)

/-- Enter HOLDOVER: the bound on the offset grows from here (R274). -/
def holdTime (t : Time) : Time := { t with servo := 3, good := 0, holdAt := t.mono }

/-- No Sync for three intervals, or the announce timeout (R274): a clock that may be master leads from here (R271). -/
def ptpHoldover (s : State) : State :=
  if !s.isl.sys || s.isl.restart then s
  else
    let s1 := updTime (fun t => { t with alone := true }) s
    if s.time.servo = 1 ∨ s.time.servo = 2 then writeRate 0 (updTime holdTime s1) else s1

/-- TIME.ERR_EST: in HOLDOVER the bound grows at R249's drift, ±1 ppm/s of the frequency, so by 500 ns times the square of the
seconds (R274; log entry 83). -/
def errEstWord (s : State) : Nat :=
  let t := (s.time.mono - s.time.holdAt) / 1000000000
  if s.time.servo = 3 then min (2 ^ 32 - 1) (par s timeErrEst + (500 * t * t).ceil.toNat) else par s timeErrEst

def execPtpHoldover (s : State) : Host.Outcome State Fault Refusal := .next (ptpHoldover s)

/-- Insert in rising order. -/
def insertInt (x : Int) : List Int → List Int
  | [] => [x]
  | y :: t => if x ≤ y then x :: y :: t else y :: insertInt x t

/-- The median; of an even number, the mean of the two in the middle, rounded down. -/
def median (l : List Int) : Int :=
  let q := l.foldr insertInt []
  let n := q.length
  if n % 2 = 1 then q.getD (n / 2) 0 else (q.getD (n / 2 - 1) 0 + q.getD (n / 2) 0) / 2

/-- Accept a path delay of a port. -/
def acceptDelay (port : Nat) (d : Int) (s : State) : State :=
  setPar (netEthPd port) (toBits 32 d) (updTime (fun t => { t with pd := t.pd.set port (some d) }) s)

/-- A new measurement of the mean path delay (R279). -/
def pathDelay (port : Nat) (d : Int) (s : State) : State :=
  let step : Int := par s netPdStep
  let back (s : State) : State := updTime (fun t => { t with servo := t.before, cand := [] }) s
  match s.time.pd.getD port none with
  | none => acceptDelay port d s
  | some old =>
    if pdHolding s then
      if port ≠ s.time.pdPort then s
      else if absI (d - old) ≤ step then back s
      else if 2 * absI (d - median s.time.cand) ≤ step then
        let c := s.time.cand ++ [d]
        if 16 ≤ c.length then back (raiseFlag timeEvents 4 port (acceptDelay port (median c) s))
        else updTime (fun t => { t with cand := c }) s
      else updTime (fun t => { t with cand := [d] }) s
    else if absI (d - old) ≤ step then acceptDelay port d s
    else writeRate 0 (raiseFlag timeEvents 3 port (updTime (fun t => { t with
      before := t.servo, servo := 4, cand := [d], pdPort := port }) s))

/-- A measurement of the delay mechanism in force (R271), on a port with PTP. -/
def execPathDelayMeasure (port : Nat) (d : DelayMeasured) (s : State) : Host.Outcome State Fault Refusal :=
  .next (if decide (port < 2) && s.isl.sys && !s.isl.restart && parBit s netPtpEn port && (d.peer == decide (par s netPtpDelay = 1))
    then pathDelay port d.delay s else s)

def execPdHoldTimeout (s : State) : Host.Outcome State Fault Refusal :=
  .next (if s.time.servo = 4 then updTime holdTime s else s)

/-- STEP_BACK (R277). -/
def stepBack (s : State) : State × Ans :=
  if s.time.servo = 0 || s.time.servo = 4 || decide (s.time.offset ≤ 0) then refuse stWrongState s
  else
    done (fun s => raiseFlag timeEvents 2 (stepDetail (-s.time.offset)) (clearSuspect (updTime (fun t => { t with offset := 0 })
      (stepNet (-s.time.offset) s)))) s

def execStepBack (e : Env) (s : State) : Host.Outcome State Fault Refusal := .next (serveShort 1 0x0050 e stepBack s)

/-- FRAME_SEND (R287, R290, R338). -/
def frameSend (e : Env) (p : FramePay) (h : Nat) (s : State) : State × Ans :=
  if p.resv ≠ 0 ∨ 2 ≤ p.port ∨ 3 ≤ p.base ∨ 8 ≤ p.queue then refuse stBadParam s
  else if !parBit s (netEthQEn p.port) p.queue then refuse stWrongState s
  else
    let f : Frame := { launch := p.launch, base := p.base, handle := if p.hp then some h else none, bytes := p.bytes }
    if p.hp then accepted 0x0230 e (queueFrame p.port p.queue f) s else done (queueFrame p.port p.queue f) s

def execFrameSend (e : Env) (p : FramePay) (s : State) : Host.Outcome State Fault Refusal :=
  .next (withLength (decide (60 ≤ p.bytes.length) && decide (p.bytes.length ≤ 1416)) 3 0x0230 e
    (serve 3 0x0230 e 1 (fun _ => p.hp) (frameSend e p)) s)

end Sys2Proof.Machine
end

