-- ==== Sys2Proof/Machine/Operands.lean ====
section
/-! DEFINITION. Sys2Proof/Machine/Operands.lean: the operands of host commands: plane codes, identifiers and their owning planes
(R352), the engine that takes a BOUNDARY word (R351), and the island that holds a parameter. -/

namespace Sys2Proof.Machine

/-- The planes that use a signal (R74). -/
def usersOf (code : Nat) : List Plane :=
  if 0x10 ≤ code ∧ code ≤ 0x17 then [.g]
  else if 0x20 ≤ code ∧ code ≤ 0x25 then [.m]
  else if 0x30 ≤ code ∧ code ≤ 0x36 then [.d]
  else if code = 0x40 ∨ code = 0x41 then allPlanes
  else if code = 0x50 then [.b]
  else []

/-- The owning planes of a STOPPED parameter for a value to be written (R352, R74). -/
def ownersOf (s : State) (id v : Nat) : List Plane :=
  let blk := id / 256
  if blk = 0x06 then (planeOf (id % 0x40 / 0x10)).toList
  else if 0x07 ≤ blk ∧ blk ≤ 0x0A then (planeOf (blk - 0x07)).toList
  else if 0x0B ≤ blk ∧ blk ≤ 0x0E then (planeOf (blk - 0x0B)).toList
  else if 0x0F00 ≤ id ∧ id < 0x1140 then [planeOfPort ((id - 0x0F00) / 16)]
  else if blk = 0x12 ∧ id < 0x12E0 then (planeOf ((id - 0x1200) / 0x40)).toList
  else if blk = 0x13 then [.g]
  else if blk = 0x14 then [.m]
  else if 0x0520 ≤ id ∧ id < 0x05E0 then
    let n := (id - 0x0520) / 8
    usersOf (par s (measRoute n)) ++ (if (id - 0x0520) % 8 = 0 then usersOf v else [])
  else allPlanes

/-- Every owning plane is OFF or STOPPED. -/
def ownersStopped (s : State) (id v : Nat) : Bool := (ownersOf s id v).all fun p => !poweredSt (lane s p).st

/-- The engines that take BOUNDARY words (R351): a lane or modulator at a strobe, Campion at an outer boundary, Sorrel at a
boundary count, ISL_ACQ and ISL_SYS at a bundle. -/
inductive Engine where
  | lane | campion | sorrel | bundle
  deriving DecidableEq, Repr

/-- The parameters of the CTL blocks that Campion reads: plane D's outer law (R228 to R230), precharge and discharge. -/
def campionId (id : Nat) : Bool :=
  (decide (0x0940 ≤ id) && decide (id ≤ 0x0949)) || (decide (0x0A32 ≤ id) && decide (id ≤ 0x0A35)) ||
    decide (id / 256 = 0x13) || decide (id / 256 = 0x14)

/-- The engine that reads a BOUNDARY parameter. -/
def engineOf (id : Nat) : Engine :=
  if campionId id then .campion
  else if (0x05 ≤ id / 256 ∧ id / 256 ≤ 0x0E) then .lane
  else if 0x0F ≤ id / 256 ∧ id / 256 ≤ 0x12 then .sorrel
  else .bundle

/-- The island that holds a parameter, by the order of R15 (R342, R357). -/
def islandOf (id : Nat) : Island :=
  if campionId id then .app
  else
    let blk := id / 256
    if 0x05 ≤ blk ∧ blk ≤ 0x0E then .ctl
    else if 0x0F ≤ blk ∧ blk ≤ 0x12 then .prt
    else if blk = 0x15 then .acq
    else if blk = 0x16 then .aon
    else .sys

/-- The number of an island in the order of R15. -/
def islandNo : Island → Nat
  | .ctl => 0 | .app => 1 | .sys => 2 | .acq => 3 | .aon => 4 | .prt => 5

end Sys2Proof.Machine
end

