-- ==== Sys2Proof/Machine/Teasel.lean ====
section
/-! DEFINITION. Sys2Proof/Machine/Teasel.lean: the reference FIFOs and the Teasel threads with the default firmware (R121 to R125). -/

namespace Sys2Proof.Machine

/-! ## Items (R124) -/

/-- TYPE of an item. -/
def itemType (w : BitVec 64) : Nat := bits w.toNat 60 4

/-- A signed field of an item as sQ16.12 or sQ12.12. -/
def itemQ (w : BitVec 64) (lo n : Nat) : Rat := (signedOf n (bits w.toNat lo n) : Rat) / 4096

/-- Items of an unknown type, or with non-zero reserved bits, are discarded. -/
def itemOk (w : BitVec 64) : Bool :=
  match itemType w with
  | 1 | 2 => bits w.toNat 56 4 = 0
  | 3 => bits w.toNat 56 4 = 0
  | 4 => bits w.toNat 56 4 = 0 ∧ bits w.toNat 0 28 = 0
  | 5 => bits w.toNat 48 12 = 0
  | 15 => true
  | _ => false

/-- A field of sQ16.12 in 28 bits, saturating. -/
def q28 (x : Rat) : Nat := toBits 28 (clampI (-134217728) 134217727 (roundAway (x * 4096)))

/-- The items of a group: REF_DQ, VFF_DQ, ANGLE, SCALAR, MARK. -/
def groupItems (g : Group) : List (BitVec 64) :=
  let pair (t : Nat) (x y : Rat) : BitVec 64 := BitVec.ofNat 64 (t * 2 ^ 60 + q28 x * 2 ^ 28 + q28 y)
  [pair 1 g.d g.q, pair 2 g.vd g.vq,
   BitVec.ofNat 64 (3 * 2 ^ 60 + toBits 24 (roundAway (g.freq * 4096)) * 2 ^ 32 + (roundAway (g.theta * 2 ^ 32)).toNat % 2 ^ 32),
   BitVec.ofNat 64 (4 * 2 ^ 60 + q28 g.scalar * 2 ^ 28), BitVec.ofNat 64 (5 * 2 ^ 60 + g.mark % 2 ^ 48)]

/-- Move waiting items from COL01 into free stages of the FIFO (R122), and writes that wait into free places of COL01 (R19, R21). -/
def fillFifo (l : Lane) : Lane :=
  let all := l.col01 ++ l.colWait
  let room := 16 - l.fifo.length
  { l with fifo := l.fifo ++ all.take room, col01 := (all.drop room).take 4, colWait := (all.drop room).drop 4 }

/-- Write one item: into the FIFO; into COL01 while its 16 stages are full (R122); with COL01's 4 places full too, the write waits
(R19). -/
def writeItem (p : Plane) (w : BitVec 64) (s : State) : State :=
  updLane p (fun l => fillFifo { l with colWait := l.colWait ++ [w] }) s

def execRefItemWrite (p : Plane) (w : BitVec 64) (s : State) : Host.Outcome State Fault Refusal :=
  .next (if s.isl.ctl then writeItem p w s else s)

/-- Write a group of items. -/
def writeGroup (p : Plane) (g : Group) (s : State) : State := (groupItems g).foldl (fun s w => writeItem p w s) s

/-! ## The threads (R121, R123, R125) -/

/-- Take an item into the group being read; a lacking type keeps the previous group's value. A MARK ends the group. -/
def takeItem (w : BitVec 64) (l : Lane) : Lane :=
  let g := l.part.getD (l.k1.getD {})
  match itemType w with
  | 1 => { l with part := some { g with d := itemQ w 28 28, q := itemQ w 0 28 } }
  | 2 => { l with part := some { g with vd := itemQ w 28 28, vq := itemQ w 0 28 } }
  | 3 => { l with part := some { g with freq := itemQ w 32 24, theta := (bits w.toNat 0 32 : Rat) / 2 ^ 32 } }
  | 4 => { l with part := some { g with scalar := itemQ w 28 28 } }
  | 5 =>
    let n := { g with mark := bits w.toNat 0 48 }
    { l with part := none, k0 := some (l.k1.getD n), k1 := some n }
  | _ => l

/-- Signed difference of two sample indices over 48 bits (R124). -/
def markDiff (a b : Nat) : Int := signedOf 48 (toBits 48 ((a : Int) - b))

/-- The default firmware holds a group marked at or after the sample it prepares, k + 1: it reads no further (R125). -/
def groupHeld (p : Plane) (s : State) : Bool :=
  match (lane s p).k1 with
  | some g => decide (markDiff (sampleK s + 1) g.mark ≤ 0)
  | none => false

/-- A thread reads its FIFO: an item, or a stall until one is readable (R123). With a group held the default firmware makes no read. -/
def teaselRead (p : Plane) (s : State) : State :=
  if groupHeld p s then s else
  match (lane s p).fifo with
  | [] => updLane p (fun l => { l with stalled := true }) s
  | w :: t =>
    let s1 := updLane p (fun l => fillFifo { l with fifo := t }) s
    if itemOk w then updLane p (takeItem w) s1 else raiseNum 0x09 (p.code + 256 * itemType w) s1

def execTeaselRead (p : Plane) (s : State) : Host.Outcome State Fault Refusal :=
  .next (if s.isl.ctl && !s.isl.halted then teaselRead p s else s)

/-- The reference set of the default firmware for sample k (R125). -/
def prepareSet (s : State) (k : Nat) (k0 k1 : Group) : RefSet :=
  let span := markDiff k1.mark k0.mark
  let lam : Rat := if span = 0 then 1 else clampR 0 1 ((markDiff k k0.mark : Rat) / span)
  let mix (a b : Rat) : Rat := a + lam * (b - a)
  let th := k1.theta + k1.freq * markDiff k k1.mark * tcSec s
  let turn (d q : Rat) : AB := { a := cosT th * d - sinT th * q, b3 := Config.sqrt3 * (sinT th * d + cosT th * q) }
  { iRef := turn (mix k0.d k1.d) (mix k0.q k1.q), uQ := turn 0 1, vFf := turn (mix k0.vd k1.vd) (mix k0.vq k1.vq),
    f := k1.freq, scalar := mix k0.scalar k1.scalar, theta := th - th.floor }

/-- PUBLISH (R121): the set of the default firmware for sample k + 1, which it reaches once it holds a group for that sample (R125), or
the set that user code formed. -/
def publish (p : Plane) (user : Option RefSet) (s : State) : State :=
  match user, (lane s p).k0, (lane s p).k1 with
  | some r, _, _ => updLane p (fun l => { l with next := some r }) s
  | none, some a, some b =>
    if groupHeld p s then updLane p (fun l => { l with next := some (prepareSet s (sampleK s + 1) a b) }) s else s
  | none, _, _ => s

def execPublish (p : Plane) (user : Option RefSet) (s : State) : Host.Outcome State Fault Refusal :=
  .next (if s.isl.ctl && !s.isl.halted then publish p user s else s)

/-- The zero set and no group, at PLANE_ENABLE (R125). -/
def clearThread (l : Lane) : Lane :=
  { l with ref := {}, next := none, k0 := none, k1 := none, part := none, stalled := false }

/-- The commit point (R121): the published set is latched; without one the set stays, flagged REF_LATE or TSL_LATE; the thread is
pre-empted. A plane in OFF flags nothing (log entry 16). The items of a group read in part stay with the thread, which the manual does
not say (DESIGN CHOICE, log entry 79). -/
def commitThread (p : Plane) (s : State) : State :=
  let l := lane s p
  match l.next with
  | some r => updLane p (fun l => { l with ref := r, next := none, stalled := false, refLate := false, tslLate := false }) s
  | none =>
    let s1 := updLane p (fun l => { l with stalled := false, refLate := l.stalled, tslLate := !l.stalled }) s
    if l.st = .off then s1 else if l.stalled then count (ctlRefLateCnt p.code) s1 else count (ctlTslLateCnt p.code) s1

end Sys2Proof.Machine
end

