-- ==== Sys2Proof/Machine/Trip.lean ====
section
/-! DEFINITION. Sys2Proof/Machine/Trip.lean: the TRIP outputs of R176: filters, comparators, classes and cuts (R177, R146), the
check of a STATIC test (R186) and protective chopping (R184). -/

namespace Sys2Proof.Machine

/-- The negative sum of the other two G phase currents, where R178 puts it in place of a lost or unrouted one: both valid in ISL_PRT,
THREE_WIRE at 1, from the second window after the loss or the change. -/
def tripRecon (sel : MPort → Int) (s : State) (code since : Nat) : Option Rat :=
  if 0x10 ≤ code ∧ code ≤ 0x12 ∧ par s ctlGThreeWire = 1 ∧ 2 ≤ since ∧
      ([0x10, 0x11, 0x12].all fun c => c = code || sigPrtOk s c) then
    some (-(([0x10, 0x11, 0x12].filter (· ≠ code)).foldl (fun a c =>
      a + (match sigPort s c with | some k => ofQ16 (sel (mport s k)) | none => 0)) 0))
  else none

/-- A TRIP value of a signal by one of the last two outputs; a lost or unrouted G phase current is reconstructed (R178). -/
def tripSig (sel : MPort → Int) (s : State) (code : Nat) : Option Rat :=
  match sigPort s code with
  | none => tripRecon sel s code (s.prt.noRoute.getD (code - 0x10) 0)
  | some n =>
    if (mport s n).prtValid then some (ofQ16 (sel (mport s n))) else tripRecon sel s code (mport s n).prtSince

/-- A valid signal of ISL_PRT without reconstruction, for the derived sources. -/
def tripRaw (sel : MPort → Int) (s : State) (code : Nat) : Option Rat :=
  if sigPrtOk s code then tripSig sel s code else none

/-- The sum of signals with signs; none while one is lost (R178). -/
def tripSum (sel : MPort → Int) (s : State) : List (Int × Nat) → Option Rat
  | [] => some 0
  | (k, c) :: t => match tripRaw sel s c, tripSum sel s t with
    | some v, some r => some (k * v + r)
    | _, _ => none

/-- A comparator's source (R176): a signal code, or one of the derived quantities. -/
def tripSrc (sel : MPort → Int) (s : State) (code : Nat) : Option Rat :=
  match code with
  | 0x80 => tripSum sel s [(1, 0x40), (1, 0x41)]
  | 0x81 => tripSum sel s [(1, 0x40), (-1, 0x41)]
  | 0x82 => tripSum sel s [(1, 0x10), (1, 0x11), (1, 0x12)]
  | 0x83 => tripSum sel s [(1, 0x20), (1, 0x21), (1, 0x22)]
  | 0x84 => tripSum sel s [(1, 0x23), (1, 0x24), (1, 0x25)]
  | _ => tripSig sel s code

/-- V_DC as ISL_PRT sees it. -/
def vdcPrt (s : State) : Option Rat := tripSrc (·.trip) s 0x80

/-- The value a comparator compares (R176): VALUE, MAGNITUDE, or RATE per µs over the last two outputs. -/
def ftValue (s : State) (p : Plane) (f : Nat) : Option Rat :=
  let w := par s (protFtSrc p.code f)
  let c := bits w 0 8
  if c = 0 then none else
  match bits w 8 2, tripSrc (·.trip) s c with
  | 0, some v => some v
  | 1, some v => some (absR v)
  | 2, some v => match tripSrc (·.trip0) s c with
    | some u => some ((v - u) / ((mdBit s : Rat) / 50))
    | none => none
  | _, _ => none

/-- The comparators of a plane: eight, and two on plane B (R176). -/
def ftCount : Plane → Nat
  | .b => 2 | _ => 8

/-- Whether a comparator is tripped after an output: entry at HI or LO, release by HYS, never while masked (R176). -/
def ftNow (s : State) (p : Plane) (f : Nat) : Bool :=
  match ftValue s p f with
  | none => false
  | some v =>
    let hi := parQ s (protFtHi p.code f)
    let lo := parQ s (protFtLo p.code f)
    let hys : Rat := (par s (protFtHys p.code f) : Rat) / 65536
    decide (hi < v) || decide (v < lo) ||
      (s.prt.tripped.getLsbD (8 * p.code + f) && (decide (hi - hys < v) || decide (v < lo + hys)))

/-- Evaluate one comparator: the state, CNT and FT_TRIP at an entry (R176). -/
def ftEval (p : Plane) (f : Nat) (s : State) : State :=
  let i := 8 * p.code + f
  let now := ftNow s p f
  let was := s.prt.tripped.getLsbD i
  let s1 := updPrt (fun r => { r with
    tripped := if now then r.tripped ||| (1#26 <<< i) else r.tripped &&& ~~~(1#26 <<< i) }) s
  if now && !was then raiseNum 0x0D (p.code + 256 * f) (count (protFtCnt p.code f) s1) else s1

/-- The TRIP test injects a value beyond the threshold of every enabled comparator: each that is neither masked nor tripped counts the
entry and raises FT_TRIP, as R176 gives; it is back at its own value when the test ends (R177, R424). -/
def ftInject (s : State) : State :=
  (allPlanes.flatMap fun p => (List.range (ftCount p)).map fun f => (p, f)).foldl (fun s x =>
    if (ftValue s x.1 x.2).isSome && !s.prt.tripped.getLsbD (8 * x.1.code + x.2) then
      raiseNum 0x0D (x.1.code + 256 * x.2) (count (protFtCnt x.1.code x.2) s) else s) s

/-- The class and the port set of a comparator (R194). -/
def ftClass (s : State) (p : Plane) (f : Nat) : Nat := parBits s (protFtAct p.code f) 20 2
def ftPorts (s : State) (p : Plane) (f : Nat) : Ports :=
  toPorts p (BitVec.ofNat 18 (par s (protFtAct p.code f)))

/-- Cut ports of a plane (R146): permission dropped, the cut tagged with the present boundary count. An empty set cuts no
port (log entry 71). -/
def makeCut (p : Plane) (m : Ports) (s : State) : State :=
  if m = 0 then s else updPrt (fun r => { r with
    permit := r.permit &&& ~~~m, cutNow := r.cutNow ||| (1#4 <<< p.code),
    cuts := r.cuts ++ [{ plane := p.code, ports := m, tag := r.seen.getD p.code 0 }] }) s

/-- The comparators that act at this output by their class: tripped, of a plane that is READY, RUNNING, SAFE or TEST (R177). -/
def ftActing (s : State) : List (Plane × Nat) :=
  allPlanes.flatMap fun p => ((List.range (ftCount p)).filter fun f =>
    s.prt.tripped.getLsbD (8 * p.code + f) && poweredSt (lane s p).st && decide (ftClass s p f ≠ 0)).map fun f => (p, f)

/-- The causes for SAFE of one comparator (R177, R179). -/
def ftCause (soft : Ports) (s : State) (x : Plane × Nat) : State :=
  match ftClass s x.1 x.2 with
  | 2 => causeAt x.1 0x01 soft s
  | 3 => causeEvery 0x01 soft s
  | _ => s

/-- What the comparators tripped at one output do (R177): every port set is cut with soft turn-off, then the causes act. -/
def ftActs (s : State) : State :=
  let l := ftActing s
  let soft := l.foldl (fun m x => m ||| ftPorts s x.1 x.2) 0
  l.foldl (ftCause soft) (settle true soft (l.foldl (fun s x => makeCut x.1 (ftPorts s x.1 x.2) s) s))

/-- Every comparator of every plane, in order. -/
def eachFt (f : Plane → Nat → State → State) (s : State) : State :=
  allPlanes.foldl (fun s p => (List.range (ftCount p)).foldl (fun s i => f p i s) s) s

/-- Cuts made at earlier outputs are written to COL11 at the end of the next TRIP window (R146). -/
def writeCuts (s : State) : State :=
  updPrt (fun r => { r with cuts := r.cuts.map fun c => if c.stage = 0 then { c with stage := 1 } else c }) s

/-- Protective chopping acts: plane B READY or SAFE, CHOP_ON not 0, V_DC valid (R184). -/
def chopActs (s : State) : Bool :=
  ((lane s .b).st == .ready || (lane s .b).st == .safe) && decide (par s protBChopOn ≠ 0) && (vdcPrt s).isSome

/-- Protective chopping at a TRIP output (R184): each state is held for 1 µs, 400 cycles of CLK_CTL. -/
def chopEval (s : State) : State :=
  if chopActs s then
    let v := (vdcPrt s).getD 0
    let turn : Bool := decide (400 ≤ s.prt.chopAge) &&
      (if s.prt.chopOn then decide (v ≤ parQ s protBChopOff) else decide (parQ s protBChopOn ≤ v))
    let on := s.prt.chopOn != turn
    settle false 0 (override (portBit 33) 0 (if on then portBit 33 else 0)
      (updPrt (fun r => { r with chopAct := true, chopOn := on, chopAge := if turn then 0 else r.chopAge }) s))
  else if s.prt.chopAct then chopStop s
  else s

/-- A STATIC test ends when V_DC is above TEST_VDC: cause 0x12 (R186). -/
def staticCheck (s : State) : State :=
  match vdcPrt s with
  | none => s
  | some v =>
    if (par s protTestVdc : Rat) / 65536 < v then
      causeEach (allPlanes.filter fun p => (lane s p).st = .test ∧ (lane s p).testKind = 0) 0x12 0 s
    else s

/-! ## Test patterns (R186) -/

/-- The 2-bit field of port n in PROT.TEST_SW0 to SW2. -/
def testField (s : State) (n : Nat) : Nat :=
  bits (par s (if n < 16 then protTestSw0 else if n < 32 then protTestSw1 else protTestSw2)) (2 * (n % 16)) 2

/-- The port of a double pulse. -/
def dpPort (s : State) : Nat := parBits s protTestDpPort 0 6

/-- The named switch of a double pulse is on: T1 from TEST_GO, and T2 after the gap, in cycles of CLK_PRT. -/
def dpOn (l : Lane) (s : State) : Bool :=
  let t1 := 2 * par s protTestDpT1
  let t2 := t1 + 2 * par s protTestDpTgap
  l.testBusy && (decide (l.testAge < t1) || (decide (t2 ≤ l.testAge) && decide (l.testAge < t2 + 2 * par s protTestDpT2)))

/-- The 2-bit pattern of a port in TEST: its field; under DOUBLE_PULSE the named port follows the sequence instead, and under
SELF_CHECK every switch is off. -/
def portTest (p : Plane) (s : State) (n : Nat) : Nat :=
  let l := lane s p
  if l.testKind = 0 then testField s n
  else if l.testKind = 1 then
    if n = dpPort s then (if dpOn l s then (if parBit s protTestDpPort 6 then 2 else 1) else 0) else testField s n
  else 0

/-- Drive a plane's ports from its test pattern. Its pulses have instants of their own, so no turn-off is deferred (log entry 80). -/
def driveTest (p : Plane) (s : State) : State :=
  let pick (f : Nat → Bool) : Ports := portsOf ((List.range 36).filter fun n => planeOfPort n == p && f (portTest p s n))
  settle false 0 (override (planeMask p) (pick fun c => decide (c = 2)) (pick fun c => decide (c = 2) || decide (c = 1)) s)

/-- A sequence of a plane in TEST goes on by d cycles. -/
def ageTest (d : Nat) (p : Plane) (s : State) : State :=
  if (lane s p).st = .test ∧ (lane s p).testBusy then driveTest p (updLane p (fun l => { l with testAge := l.testAge + d }) s) else s

/-! ## The window's end -/

/-- The gate blocks' clocks advance by one TRIP window, 8 bits of MDCLK (log entry 12): dead times end, test sequences go on, and the
windows since a G phase current was unrouted are counted. -/
def agePorts (s : State) : State :=
  let d := 8 * mdBit s
  let old (t : Tab Nat) : Tab Nat := t.map fun x => (x.1, min 999999 (x.2 + d))
  let gone := (s.prt.noRoute.zipIdx).map fun x => if (sigPort s (0x10 + x.2)).isNone then min 2 (x.1 + 1) else 0
  allPlanes.foldl (fun s p => ageTest d p s) (settle false 0 (updPrt (fun r => { r with
    inAge := old r.inAge, onAge := old r.onAge, chopAge := r.chopAge + d, noRoute := gone }) s))

/-- The TRIP filters of every routed port take the 8 bits of a window, which ISL_PRT recovers from its samples (R69, R71). -/
def tripMeas (bs edges : List Nat) (s : State) : State :=
  bumpManch ((List.range 24).foldl (fun s n =>
    if par s (measRoute n) = 0 then s
    else updMport n (fun p =>
      let x := prtBits s n (bs.getD n 0) (edges.take 8) p.rxPrt
      tripComb s n (feed tripBit x.1 8 { p with rxPrt := x.2 })) s) s)

/-- The end of a TRIP window (R176, R177, R184, R186). -/
def tripOutput (bs edges : List Nat) (s : State) : State :=
  if s.isl.prt && (s.isl.mdRun || s.prt.holdUp) then
    chopEval (staticCheck (ftActs (eachFt ftEval (writeCuts (tripMeas bs edges (agePorts s))))))
  else s

def execTripOutput (w : LineWindow) (s : State) : Host.Outcome State Fault Refusal := .next (tripOutput w.lines w.edges s)

end Sys2Proof.Machine
end

