-- ==== Sys2Proof/Machine/Planes.lean ====
section
/-! DEFINITION. Sys2Proof/Machine/Planes.lean: the plane commands of R89, R90, R185, R186 and their queue (R337). -/

namespace Sys2Proof.Machine

abbrev opEnable : Nat := 0x0010
abbrev opArm : Nat := 0x0011
abbrev opStart : Nat := 0x0012
abbrev opStop : Nat := 0x0013
abbrev opDisarm : Nat := 0x0014
abbrev opDisable : Nat := 0x0015
abbrev opClear : Nat := 0x0016
abbrev opTestEnter : Nat := 0x0017
abbrev opTestExit : Nat := 0x0018

/-! ## Conditions -/

/-- The fields of an entry that R109 reserves on a plane are 0, and ILIM is above 0 on planes G, M and D (check 4 of R110). -/
def entryFits (p : Plane) (w : Nat → Nat) : Bool :=
  let ilim := bits (w 1) 16 16
  let kp := w 3
  let wff := bits (w 4) 0 16
  let kc := bits (w 4) 16 16
  let ka := bits (w 0) 16 16
  match p with
  | .g => decide (ilim ≠ 0) && decide (wff = 0)
  | .m => decide (ilim ≠ 0) && decide (kp = 0)
  | .d => decide (ilim ≠ 0) && decide (kp = 0)
  | .b => decide (ilim = 0) && decide (kp = 0) && decide (wff = 0) && decide (kc = 0) && decide (ka = 0) && decide (w 2 = 0)

/-- Check 4 of R110 for one plane, over the 64 entries of a tile. -/
def tileFits (p : Plane) (data : List Byte) : Bool :=
  (List.range 64).all fun e => entryFits p fun i => wordAt (data.drop (32 * e)) i

/-- Every written tile of the plane's window meets check 4. -/
def windowFits (p : Plane) (s : State) : Bool :=
  (List.range (windowTiles s p)).all fun i =>
    let t := tileAt s (physTile s (par s (rgtBase p.code) + i))
    !t.written || tileFits p t.data

/-- A transaction that is PREPARED or COMMITTING holds a STOPPED entry owned by the plane (R356). -/
def txnHolds (p : Plane) (s : State) : Bool :=
  match s.txn with
  | some t =>
    (t.st == .prepared || t.st == .committing) && t.entries.any fun e =>
      (match paramRow e.id with | some r => r.commit == .stopped | none => false) && (ownersOf s e.id e.val.toNat).contains p
  | none => false

/-- The conditions of R89 for PLANE_ARM, with those of R31, R198, R315 and R356. -/
def armStatus (p : Plane) (s : State) : Nat :=
  if (lane s p).st ≠ .stopped then stWrongState
  else if txnHolds p s then stBusy
  else if !(signalsOk p s && sreOk s p && windowFits p s && stoHighNow s && !s.pins.haltLow) then stWrongState
  else if p = .g ∧ (par s gfmSRated = 0 ∨ par s gfmVRated = 0) then stWrongState
  else if s.replay.sub = some p.code then stWrongState
  else stOk

/-- The plane's own conditions for PLANE_START (R154, R212, R222, R229, R232). -/
def startFits (p : Plane) (s : State) : Bool :=
  let mode := par s (ctlMode p.code)
  let aligned := !(decide (mode ≠ 0) && decide (par s (modSync p.code) = 1)) || (modr s p).aligned
  match p with
  | .g => aligned && (decide (par s gfmLaw = 0) || decide (8192 ≤ par s gfmU1))
  | .m => aligned && (decide (par s msdLaw ≠ 0) ||
      ([msdJ, msdPsi, msdSpeedMax, msdVdcRef, msdDcCap].all fun i => decide (par s i ≠ 0)))
  | .d => aligned && (lane s .b).st == .running && parBit s ctlBAux 0
  | .b => decide (par s ctlBVChop ≠ 0) && (decide (par s protBChopOn = 0) || decide (parQ s ctlBVChop < parQ s protBChopOn))

/-- PLANE_START (R89, R31, R259). -/
def startStatus (p : Plane) (s : State) : Nat :=
  if (lane s p).st = .ready ∧ !s.pins.haltLow ∧ !onFbo s ∧ startFits p s then stOk else stWrongState

/-- The window of the plane shares no tile with that of a plane that is not OFF (R89); no self-test runs (R424). -/
def enableStatus (p : Plane) (s : State) : Nat :=
  if (lane s p).st ≠ .off then stWrongState
  else if s.isl.selfTest.isSome then stBusy
  else if allPlanes.any fun q => decide (q ≠ p) && decide ((lane s q).st ≠ .off) && windowsMeet s p q then stWrongState
  else stOk

/-- The conditions of R185 for CLEAR_SAFE. -/
def clearFits (p : Plane) (s : State) : Bool :=
  let fts (q : Plane) (cls : Nat) : Bool :=
    (List.range (ftCount q)).any fun f => s.prt.tripped.getLsbD (8 * q.code + f) && decide (ftClass s q f = cls)
  (lane s p).st == .safe && stoHighNow s && uvloFree p s && !s.pins.haltLow && !s.prt.supplyLoss &&
    (planeMask p &&& (s.prt.faultH ||| s.prt.faultL ||| s.prt.locked) == 0) &&
    decide (par s (protTripRun p.code) = 0) && !fts p 2 && !(allPlanes.any fun q => fts q 3) &&
    signalsOk p s && !(lane s p).safeReq && s.isl.ctl && s.isl.app &&
    decide (tBase s < 8000) && decide ((par s sysPGate : Rat) ≤ gateLimit s) &&
    (decide (p ≠ .m) || (lane s .m).sub == .pulseBlock)

/-- The entry condition of the kind in PROT.TEST_KIND (R186). -/
def kindFits (p : Plane) (s : State) : Bool :=
  match par s protTestKind with
  | 0 => match vdcPrt s with
    | some v => decide (v ≤ (par s protTestVdc : Rat) / 65536)
    | none => false
  | 1 => planeOfPort (parBits s protTestDpPort 0 6) == p
  | _ => true

/-- TEST_ENTER (R89, R31, R259). -/
def testStatus (p : Plane) (s : State) : Nat :=
  if (lane s p).st = .ready ∧ !s.pins.haltLow ∧ !onFbo s ∧ kindFits p s then stOk else stWrongState

/-! ## Test sequences (R186) -/

/-- PROT.TEST_GO on one plane in TEST (R186): a double pulse at a port of the plane, or a self-check. -/
def goPlane (p : Plane) (s : State) : State :=
  let l := lane s p
  if l.st ≠ .test ∨ l.testKind = 0 ∨ l.testBusy then s
  else driveTest p (updLane p (fun l => { l with testBusy := true, testAge := 0 }) s)

/-- The sequences end: the pulsed switch is off, SELF_OK or SELF_FAIL at each port of a self-check, and TEST_DONE. -/
def endSequence (fail : List Nat) (p : Plane) (s : State) : State :=
  let l := lane s p
  if l.st ≠ .test ∨ !l.testBusy then s
  else
    let s1 := driveTest p (updLane p (fun l => { l with testBusy := false }) s)
    let s2 := if l.testKind = 2 then
        (List.range 36).foldl (fun s n =>
          if planeOfPort n = p then setParBit (gateStatus n) (if fail.contains n then 10 else 9) true s else s) s1
      else s1
    raiseNum 0x0F (p.code + 256 * l.testKind) s2

def testSequenceEnd (fail : List Nat) (s : State) : State := allPlanes.foldl (fun s p => endSequence fail p s) s

def execTestSequenceEnd (fail : List Nat) (s : State) : Host.Outcome State Fault Refusal := .next (testSequenceEnd fail s)

/-! ## Transitions (R89) -/

/-- The six entries and MASK_CTRL that Campion writes at PLANE_START of plane M (R226), in force at the strobe of the start like every
BOUNDARY word (R151). No six-step is in force yet. -/
def sixTable (s : State) : State :=
  let put (s : State) (x : Nat × Nat) : State := { s with wait := s.wait ++ [(x.1, BitVec.ofNat 32 x.2)] }
  let lo : List Nat := [0x0002AABF, 0x0002AFFF, 0x0002AFEA, 0x0003FFEA, 0x0003FAAA, 0x0003FABF]
  let s1 := setParBit msdState 3 false { s with msd := { s.msd with sixN := 0, idCut := 0 } }
  if par s msdSixEn = 1 ∧ par s ctlMPhases = 0 ∧ s.isl.app then
    ((lo.zipIdx).flatMap (fun (x : Nat × Nat) => [(modMaskLo 1 x.2, x.1), (modMaskHi 1 x.2, 0)]) ++ [(modMaskCtrl 1, 0x00A)]).foldl put s1
  else s1

/-- PLANE_START is accepted (R89); at plane M Campion writes the table of R226. -/
def doStart (p : Plane) (s : State) : State :=
  let s1 := updLane p (fun l => { l with startPend := true }) s
  if p = .m then sixTable s1 else s1

/-- The cleared lane context of PLANE_ENABLE; what waits in the reference FIFO and the verified tiles of the cache stay. -/
def freshLane (l : Lane) : Lane :=
  { st := .stopped, fifo := l.fifo, col01 := l.col01, colWait := l.colWait, cache := l.cache, ascWanted := l.ascWanted,
    ascBelow := l.ascBelow }

/-- The counter starts at a valley PHASE cycles after the next strobe (R136). -/
def startCounter (p : Plane) (s : State) : State :=
  updMod p (fun m => { m with
    up := false, adj := 0, slew := 0, aligned := false, carrier := false,
    turnAt := (nCyc s : Int) + par s (modPhase p.code) - m.active.per }) s

/-- PLANE_ENABLE: OFF to STOPPED. -/
def doEnable (p : Plane) (s : State) : State :=
  let s1 := updLane p (fun l => { freshLane l with st := .off }) s
  let s2 := rebinLane false p (vdcOf s1 p) (iAxisSq s1 p) (fAxis s1 p) s1
  enterState p .stopped .pulseBlock (startCounter p (initMod p s2))

/-- PLANE_DISABLE: STOPPED to OFF; a replay that substitutes the plane ends (R318). -/
def doDisable (p : Plane) (s : State) : State :=
  let s1 := enterState p .off .pulseBlock s
  if s1.replay.sub = some p.code then endReplay stCancelled cRelease s1 else s1

/-- A plane enters READY (R437, R138); a cause that holds as a level takes it to SAFE at once (R31, R187). -/
def enterReady (p : Plane) (s : State) : State :=
  let s1 := settle false 0 (enterState p .ready .pulseBlock (initMod p (releaseOvr p s)))
  let s2 := updLane p (fun l => { l with first := true, feRun := [0, 0, 0, 0, 0, 0] }) s1
  let s3 := if s2.pins.haltLow then causeAt p 0x0B 0 s2 else s2
  if stoHighNow s3 then s3 else causeAt p 0x0C 0 (forceBlock [p] s3)

/-- PLANE_DISARM: READY to STOPPED; legs of plane D that were dropped or withdrawn return (R128, R178). -/
def doDisarm (p : Plane) (s : State) : State :=
  let s1 := suppliesOff p (override (planeMask p) 0 0 (updPrt (fun r => { r with
    legOff := if p = .d then 0 else r.legOff
    chopAct := r.chopAct && decide (p ≠ .b), chopOn := r.chopOn && decide (p ≠ .b) }) s))
  let s2 := updLane p (fun l => { l with startPend := false, dropped := 0 }) s1
  settle false 0 (enterState p .stopped .pulseBlock s2)

/-- TEST_ENTER: READY to TEST with its pattern. -/
def doTestEnter (p : Plane) (s : State) : State :=
  let s1 := updLane p (fun l => { l with testKind := par s protTestKind, testBusy := false, startPend := false }) s
  let s2 := updPrt (fun r => { r with chopAct := r.chopAct && decide (p ≠ .b), chopOn := r.chopOn && decide (p ≠ .b) }) s1
  driveTest p (enterState p .test .pulseBlock s2)

/-- TEST_EXIT: TEST to READY. -/
def doTestExit (p : Plane) (s : State) : State := enterReady p (updLane p (fun l => { l with testBusy := false }) s)

/-- CLEAR_SAFE at its strobe (R185). -/
def doClear (p : Plane) (s : State) : State :=
  enterReady p (updPrt (fun r => { r with
    forcedBlock := r.forcedBlock &&& ~~~(1#4 <<< p.code), forcedAsc := r.forcedAsc && decide (p ≠ .m),
    mcFallback := r.mcFallback && decide (p ≠ .m) }) s)

/-- The plane ramps down for PLANE_STOP; 0 stands for a stop of Campion's own, which has no handle. -/
def beginStop (p : Plane) (h : Nat) (s : State) : State :=
  updLane p (fun l => { l with stopping := some h, rampN := 0, stopNow := false }) s

/-- The work of a plane command whose own checks are to be made now: the status, ACCEPTED for the two long ones. -/
def planeWork (op : Nat) (p : Plane) (h : Nat) (s : State) : State × Nat :=
  let short (st : Nat) (f : State → State) : State × Nat := if st = stOk then (f s, stOk) else (s, st)
  let need (x : PState) : Nat := if (lane s p).st = x then stOk else stWrongState
  if op = opEnable then short (enableStatus p s) (doEnable p)
  else if op = opArm then
    if armStatus p s = stOk then (updLane p (fun l => { l with arming := some h }) (suppliesOn p s), stAccepted)
    else (s, armStatus p s)
  else if op = opStart then short (startStatus p s) (doStart p)
  else if op = opStop then
    if (lane s p).st = .running then (beginStop p h s, stAccepted) else (s, stWrongState)
  else if op = opDisarm then short (need .ready) (doDisarm p)
  else if op = opDisable then short (need .stopped) (doDisable p)
  else if op = opClear then (s, if clearFits p s then stAccepted else stWrongState)
  else if op = opTestEnter then short (testStatus p s) (doTestEnter p)
  else short (need .test) (doTestExit p)

/-- A plane operation is in the way of the queue. -/
def queueHeld (l : Lane) : Bool := l.arming.isSome || l.stopping.isSome || !l.clearPend.isEmpty

/-- Run the queued commands of a plane in order, each completing with the status it would have returned (R337). -/
def runQueue (p : Plane) : Nat → State → State
  | 0, s => s
  | n + 1, s =>
    let l := lane s p
    if queueHeld l then s
    else match l.queued with
      | [] => s
      | (h, op) :: t =>
        let r := planeWork op p h (updLane p (fun l => { l with queued := t }) s)
        if r.2 = stAccepted then
          if op = opClear then updLane p (fun l => { l with clearPend := [(none, h)] }) r.1 else r.1
        else runQueue p n (complete h r.2 cNone [] r.1)

/-- The queue is tried once for each of its eight places. -/
def drainQueue (p : Plane) (s : State) : State := if tansyUp s then runQueue p 9 s else s

/-- A plane command needs a handle: the long ones, and any that finds an operation ahead of it. -/
def planeNeeds (op : Nat) (pay : PPay) (s : State) : Bool :=
  op == opArm || op == opStop ||
    (match planeOf pay.code with | some p => (lane s p).arming.isSome || (lane s p).stopping.isSome | none => false)

/-- Serve a plane command (R336, R337). -/
def planeBody (op : Nat) (e : Env) (pay : PPay) (h : Nat) (s : State) : State × Ans :=
  if pay.resv ≠ 0 then refuse stBadParam s
  else match planeOf pay.code with
    | none => refuse stBadParam s
    | some p =>
      let l := lane s p
      if l.arming.isSome || l.stopping.isSome then
        if 8 ≤ l.queued.length then refuse stBusy s
        else accepted op e (updLane p fun l => { l with queued := l.queued ++ [(h, op)] }) s
      else
        let r := planeWork op p h s
        if op = opClear ∧ r.2 = stAccepted then
          (updLane p (fun l => { l with clearPend := l.clearPend ++ [(some e, 0)] }) r.1, .later)
        else if r.2 = stAccepted then accepted op e (fun _ => (planeWork op p h (allocHandle op e.chan s)).1) s
        else (r.1, say r.2)

/-- One plane command of the host. -/
def planeCommand (op : Nat) (e : Env) (pay : PPay) (s : State) : State :=
  serve 1 op e 1 (planeNeeds op pay) (planeBody op e pay) s

def execPlaneEnable (e : Env) (p : PPay) (s : State) : Host.Outcome State Fault Refusal := .next (planeCommand opEnable e p s)
def execPlaneArm (e : Env) (p : PPay) (s : State) : Host.Outcome State Fault Refusal := .next (planeCommand opArm e p s)
def execPlaneStart (e : Env) (p : PPay) (s : State) : Host.Outcome State Fault Refusal := .next (planeCommand opStart e p s)
def execPlaneStop (e : Env) (p : PPay) (s : State) : Host.Outcome State Fault Refusal := .next (planeCommand opStop e p s)
def execPlaneDisarm (e : Env) (p : PPay) (s : State) : Host.Outcome State Fault Refusal := .next (planeCommand opDisarm e p s)
def execPlaneDisable (e : Env) (p : PPay) (s : State) : Host.Outcome State Fault Refusal := .next (planeCommand opDisable e p s)
def execClearSafe (e : Env) (p : PPay) (s : State) : Host.Outcome State Fault Refusal := .next (planeCommand opClear e p s)
def execTestEnter (e : Env) (p : PPay) (s : State) : Host.Outcome State Fault Refusal := .next (planeCommand opTestEnter e p s)
def execTestExit (e : Env) (p : PPay) (s : State) : Host.Outcome State Fault Refusal := .next (planeCommand opTestExit e p s)

/-! ## The ends of PLANE_ARM and PLANE_STOP -/

/-- Every port of an arming plane has released UVLO (R89), and its required signals are valid, without which no plane leaves STOPPED
(R73). The ports it uses are calibrated (R70). -/
def armReady (p : Plane) (s : State) : State :=
  match (lane s p).arming with
  | some h =>
    if uvloFree p s && stoHighNow s && signalsOk p s && s.isl.sys then
      drainQueue p (complete h stOk cNone []
        (startSkew (fun c => (usersOf c).contains p) (enterReady p (updLane p (fun l => { l with arming := none }) s))))
    else s
  | none => s

def execPlaneArmReady (p : Plane) (s : State) : Host.Outcome State Fault Refusal := .next (armReady p s)

/-- 10 ms have passed since PLANE_ARM (R89), or since a takeover armed the plane (R375). -/
def armTimeout (p : Plane) (s : State) : State :=
  match (lane s p).arming with
  | some h =>
    if s.isl.sys then
      let s1 := drainQueue p (complete h stWrongState cNone []
        (settle false 0 (suppliesOff p (updLane p (fun l => { l with arming := none }) s))))
      if h = 0 then takeFails 5 s1 else s1
    else s
  | none => s

def execPlaneArmTimeout (p : Plane) (s : State) : Host.Outcome State Fault Refusal := .next (armTimeout p s)

/-- STOP_LIMIT has passed since PLANE_STOP (R90). -/
def stopLimit (p : Plane) (s : State) : State :=
  updLane p (fun l => { l with stopNow := l.stopping.isSome }) s

def execStopLimit (p : Plane) (s : State) : Host.Outcome State Fault Refusal := .next (stopLimit p s)

/-- PLANE_STOP is done: READY, OK on its handle, and the commands queued behind it CANCELLED (R90). -/
def finishStop (p : Plane) (s : State) : State :=
  let l := lane s p
  let s1 := updLane p (fun l => { l with
    stopping := none, queued := [], stopNow := false, rampN := 0, quiet := 0, dec := none, latched := none }) s
  let s2 := enterReady p s1
  let s3 := if p = .g then leaveLaw false (cancelAll (opsOf s2 0x0020) cCondition s2) else s2
  let s4 := match l.stopping with | some h => complete h stOk cNone [] s3 | none => s3
  cancelAll (l.queued.map (·.1)) cQueue s4

/-- The CLEAR_SAFE commands of a plane at the strobe: their conditions again, and their answers (R185). -/
def strobeClear (p : Plane) (s : State) : State :=
  match (lane s p).clearPend with
  | [] => s
  | l =>
    let ok := clearFits p s
    let s1 := updLane p (fun l => { l with clearPend := [] }) s
    let s2 := if ok then doClear p s1 else s1
    let st := if ok then stOk else stWrongState
    drainQueue p (l.foldl (fun s x => match x.1 with
      | some e => answer 1 opClear e st e.handle [] s
      | none => complete x.2 st cNone [] s) s2)

end Sys2Proof.Machine
end

