-- ==== Sys2Proof/Machine/Strobe.lean ====
section
/-! DEFINITION. Sys2Proof/Machine/Strobe.lean: the strobe S_k (R26): the pulse interface takes the decisions of sample k − 1, and the
lanes compute those of sample k; the adaptation window of R94. -/

namespace Sys2Proof.Machine

/-! ## Writes of the lane and modulator blocks with an effect of their own -/

/-- A plane in BAND gives up an exit that has not been made, with the seeded set of a decision that waits for its strobe (R160). -/
def dropExit (p : Plane) (s : State) : State :=
  updLane p (fun l => { l with latched := l.latched.map fun d => { d with set := none, seed := false } })
    (updMod p (fun m => { m with
      seedWait := false, exitWait := false, exitCmd := false, exitCnt := 0, ramp := false, delta := [],
      armed := m.armed && !m.seedWait }) s)

/-- A write of CTL.x.MODE has become effective (R156). -/
def modeWritten (p : Plane) (v : Nat) (s : State) : State :=
  if (lane s p).st ≠ .running then s
  else if v = 0 then (if (modr s p).carrier then updMod p (fun m => { m with entryReq := true }) s else dropExit p s)
  else if v = 1 then updMod p (fun m => if m.carrier then m else { m with exitCmd := true }) s
  else s

/-- A change of MOD.x.PHASE moves the valleys under LOCAL (R153); under YMRK the target itself moves. -/
def phaseWritten (p : Plane) (old v : Nat) (s : State) : State :=
  if par s (modSync p.code) = 1 then s else updMod p (fun m => { m with slew := m.slew + v - old }) s

/-- The plane of a MOD block, and of a CTL block. -/
def modPlane (id : Nat) : Option Plane := if 0x0B ≤ id / 256 ∧ id / 256 ≤ 0x0E then planeOf (id / 256 - 0x0B) else none
def ctlPlane (id : Nat) : Option Plane := if 0x07 ≤ id / 256 ∧ id / 256 ≤ 0x0A then planeOf (id / 256 - 0x07) else none

/-- One BOUNDARY word of a lane or modulator comes into force (R351). -/
def laneWord (id : Nat) (v : Nat) (s : State) : State :=
  let s1 := setPar id v s
  match ctlPlane id, modPlane id with
  | some p, _ => if id = ctlMode p.code then modeWritten p v s1 else s1
  | _, some p => if id = modPhase p.code then phaseWritten p (par s id) v s1 else s1
  | _, _ => s1

/-- Take the waiting words of an engine, in the order written. -/
def takeWaiting (eng : Engine) (f : Nat → Nat → State → State) (s : State) : State :=
  let mine := s.wait.filter fun w => engineOf w.1 = eng
  mine.foldl (fun s w => f w.1 w.2.toNat s) { s with wait := s.wait.filter fun w => engineOf w.1 ≠ eng }

/-! ## Applying decisions (R26, R157, R158) -/

/-- Write a set with SET_VALID in one cycle (R140). -/
def writeSet (p : Plane) (set : PeriodSet) (s : State) : State :=
  updMod p (fun m => { m with shadow := set, armed := true, dirty := false }) s

/-- The lane's context follows an applied decision. -/
def takeContext (p : Plane) (d : Dec) (s : State) : State :=
  updLane p (fun l => { l with phases := d.phases, legs := d.legs, chop := d.chop, first := false }) s

/-- The mode source takes the lane's pattern at a strobe. -/
def takeSrc (o : Pat) (m : Mod) : Mod := { m with src := o, srcNew := decide (o ≠ m.src) || m.carrier }

/-- The entry to BAND at S_k+1, n cycles after S_k (R157): the entry strobe ends the period. -/
def enterBand (n : Nat) (p : Plane) (d : Dec) (s : State) : State :=
  let s1 := clearCas p (endPeriod p n s)
  let s2 := count (modEntryCnt p.code) (updMod p (fun m => { takeSrc d.pat m with
    carrier := false, ramp := false, delta := [], rampR := 0, entryReq := false, exitCnt := 0, exitCmd := false,
    seedWait := false, exitWait := false }) s1)
  takeContext p d (updLane p (fun l => { l with nsw := 0, win := 0 }) s2)

/-- A plane takes the decision latched at the commit point. Without one, as after an overrun, the state continues (R127). -/
def applyDec (n : Nat) (p : Plane) (s : State) : State :=
  let l := lane s p
  let m := modr s p
  let s0 := updMod p (fun m => { m with srcNew := false }) (updLane p (fun l => { l with latched := none }) s)
  if l.st ≠ .running then endPeriod p n s0
  else match l.latched with
  | none => if m.carrier then s0 else endPeriod p n s0
  | some d =>
    if d.block then finishStop p (if m.carrier then s0 else endPeriod p n s0)
    else if d.toBand then enterBand n p d s0
    else if m.carrier then
      match d.set with
      | some ws => updLane p (fun l => { l with phases := d.phases, first := false }) (writeSet p ws s0)
      | none => s0
    else
      let s1 := takeContext p d (updMod p (takeSrc d.pat) (endPeriod p n s0))
      match d.set with
      | some ws => writeSet p ws (updMod p (fun m => { m with seedWait := d.seed }) s1)
      | none => s1

/-- STOP_LIMIT has passed, or plane B stops: pulses are blocked at this strobe (R90). -/
def strobeStop (p : Plane) (s : State) : State :=
  let l := lane s p
  if l.st = .running ∧ l.stopping.isSome ∧ (l.stopNow ∨ p = .b) then finishStop p s else s

/-- The last mark moves to the new strobe. -/
def shiftMark (n : Nat) (p : Plane) (s : State) : State := updMod p (fun m => { m with mark := m.mark.map (· - 64 * n) }) s

/-- The relative instants of a modulator move to the new strobe. -/
def shiftPlane (n : Nat) (p : Plane) (s : State) : State :=
  shiftMark n p (updMod p (fun m => { m with
    turnAt := m.turnAt - n, accTo := m.accTo - n, steps := m.steps.map fun f => { f with due := f.due - n },
    lastEnd := m.lastEnd.map (· - n) }) s)

/-- The ports whose transitions R94 counts: output half-bridges of every phase, or the legs in use. -/
def countedPorts (s : State) (p : Plane) : BitVec 18 :=
  match p with
  | .g => 0x124#18
  | .m => if phasesM s = 6 then 0x24924#18 else 0x124#18
  | .d => (List.range 6).foldl (fun m n => if legUsed s n then m ||| (1#18 <<< n) else m) 0
  | .b => 0

/-- Count the transitions at this strobe into the adaptation window (R94). -/
def countSwitching (p : Plane) (old : Pat) (s : State) : State :=
  let l := lane s p
  if l.st = .running ∧ !(modr s p).carrier ∧ p ≠ .b ∧ l.win < par s (ctlAdaptN p.code) then
    updLane p (fun l => { l with
      win := l.win + 1, nsw := l.nsw + popcount ((old.pulse ^^^ (modr s p).out.pulse) &&& countedPorts s p) }) s
  else s

/-- At PLANE_START of plane B protective chopping ends and the modulator has GP33 (R184, R437). -/
def releaseChop (p : Plane) (s : State) : State :=
  if p = .b then
    settle false 0 (updPrt (fun r => { r with
      ovr := r.ovr &&& ~~~planeMask .b, chopAct := false, chopOn := false, chopAge := 1000000 }) s)
  else s

/-- Plane D starts with P_G,slow at the latest mean of p_G, and P_D,set at 0 (R229; log entry 82). -/
def startSupport (p : Plane) (s : State) : State :=
  if p = .d then { s with msd := { s.msd with pSlow := s.msd.pGrid, pdSet := 0 } } else s

/-- PLANE_START takes effect (R89, R156, R115). -/
def strobeStart (p : Plane) (s : State) : State :=
  if (lane s p).startPend ∧ (lane s p).st = .ready then
    let s1 := setPar (ctlBandScale p.code) 0x1000 (enterState p .running .pulseBlock (startSupport p s))
    let s2 := updLane p (fun l => { l with
      startPend := false, first := true, z := {}, feRun := [0, 0, 0, 0, 0, 0], nsw := 0, win := 0, quiet := 0,
      dec := none, latched := none, legs := [none, none, none, none, none, none], chop := false,
      phases := (List.range (if p = .m then phasesM s else 3)).map fun i => l.phases.getD i {} }) s1
    showCarrier p 0 (releaseChop p (clearCas p (updMod p (fun m => { m with
      carrier := decide (par s (ctlMode p.code) = 1) && decide (p ≠ .b), exitCnt := 0, exitCmd := false, entryReq := false,
      past := [], accTo := 0, srcNew := true }) s2)))
  else s

/-- A change of CLK.TC_CYCLES or MEAS.MDCLK_DIV waits for this strobe (R435, R78). -/
def restartDue (s : State) : Bool := decide (par s clkTcCycles ≠ s.time.nNow) || decide (par s measMdclkDiv ≠ s.time.divNow)

/-- The measurement timing starts afresh at a strobe (R435): routed signals are invalid in ISL_CTL from its sample. What they deliver
until they are valid again the manual does not say, as no criterion of R84 is met: the model holds the last delivered value (DESIGN
CHOICE, log entry 71). -/
def restartStrobe (s : State) : State :=
  if restartDue s then
    (List.range 24).foldl (fun s n =>
      if par s (measRoute n) = 0 then s
      else updMport n (fun m => { m with valid := false, run := 0, held := if m.valid then m.val else m.held }) s)
      { s with time := { s.time with nNow := par s clkTcCycles, divNow := par s measMdclkDiv } }
  else s

/-- The decimation ratio of the windows that follow: the window that ends at the strobe of the restart keeps its own (R435). -/
def newRatio (s : State) : State :=
  let k := s.time.nNow / s.time.divNow
  if par s measOsrC = k then s else setPar measCtlPreset (if 40 ≤ k then 1 else 0) (setPar measOsrC k s)

/-- The samples of a strobe, over the period of n cycles that ends there. -/
def takeSamples (n : Nat) (bs : List Nat) (s : State) : State :=
  let s1 := newRatio (strobeMeas n (mdDiv s) bs (replayStrobe (restartStrobe s)))
  startMdclk (if restartDue s then startSkew (fun _ => true) s1 else s1)

/-! ## The lanes at sample k -/

/-- The voltage command of R104 in CARRIER, as R297 shows it: α for planes G and M, the duty of leg 0 for plane D. -/
def cmdOf (s : State) (p : Plane) : Rat :=
  let l := lane s p
  if !carrierOn s p then 0
  else match p with
  | .g => l.ref.vFf.a + l.entry.kc * ((abReference s .g (gReference s).1).1.a - (abOf (gCurrents true s)).a)
  | .m =>
    let x := abAdd l.ref.iRef (abScale (ffTerm s .m) l.ref.uQ)
    l.ref.vFf.a + l.entry.kc * ((abReference s .m x).1.a - (abOf ([0x20, 0x21, 0x22].map (casVal s .m))).a)
  | .d =>
    let r := (dReference s).1 / max 1 (legCount s)
    clampR 0 1 (quot (casVal s .d 0x36 + l.entry.kc * (r - casVal s .d 0x30)) (casVal s .d 0x40 + casVal s .d 0x41))
  | .b => 0

/-- The lane latches what it has measured and formed (R91, R92), and what the carrier law demands of it (R104): every lane does so
before any lane decides. The integrator of R115 moves at every sample that the lane computes. -/
def measureLane (p : Plane) (s : State) : State :=
  if (lane s p).st = .off then s
  else
    let s1 := laneRegion p s
    let m := formMeas p s1
    let z := if p = .g ∧ (activeSt (lane s1 .g).st || substituted s1 .g) ∧ par s1 ctlGRefKind = 1 then (gReference s1).2 else (lane s1 p).z
    let ff := if p = .m ∨ p = .d then ffTerm s1 p else 0
    let dm := if (lane s1 p).st = .running ∧ p ≠ .b then demandWords s1 p else ([], [])
    updLane p (fun l => { l with z := z, demand := dm.1, demandPh := dm.2, meas := { m with
      cls := planeClass s1 p m, sect := sectorOf m.e1, uCmd := [cmdOf s1 p], ff := ff } }) s1

/-- The lanes' own weights of this sample, for the next (R120). -/
def keepWeights (s : State) : State :=
  let wm := ownWeight s .m
  let wd := ownWeight s .d
  updLane .d (fun l => { l with weight := wd }) (updLane .m (fun l => { l with weight := wm }) s)

/-- The carrier's set for this sample: the demand, or its ramp towards the demand (R140 to R142, R159). -/
def carrierSet (p : Plane) (s : State) : PeriodSet × List Phase :=
  let l := lane s p
  let m := modr s p
  let per := par s (modPeriod p.code) / 2
  let ws := if m.ramp then rampWords (par s (modSeedM p.code)) (m.rampR + 1) per m.rampPer m.delta l.demand else l.demand
  ({ per := per, ports := ws }, l.demandPh)

/-- Whether R157 takes the plane to BAND at this sample. -/
def entryHolds (p : Plane) (s : State) : Bool :=
  decide (par s (modPsSrc p.code) = 0) &&
    ((decide (par s (ctlMode p.code) = 2) && decide (par s (modEntryC p.code) ≤ (lane s p).meas.cls)) || (modr s p).entryReq)

/-- The phases and legs that a pattern stands for, as the present vector of an entry (R157). -/
def phasesOf (o : Pat) (old : List Phase) (n : Nat) : List Phase :=
  (List.range n).map fun i =>
    let w (j : Nat) : Bool := o.pulse.getLsbD (3 * i + j)
    { (old.getD i {}) with lvl := patLevel o i, pos := if w 2 then w 0 else w 1 }

def legsOf (o : Pat) : List (Option Bool) :=
  (List.range 6).map fun n => if o.en.getLsbD n then some (o.pulse.getLsbD n) else none

/-- The band decision of an entry: the present vector is the carrier's output at S_k+1, mask included (R157). -/
def entryDecision (p : Plane) (s : State) : Dec :=
  let n := nCyc s
  let o := masked p s (carrierPat s p n)
  let s1 := updLane p (fun l => { l with phases := phasesOf o l.phases l.phases.length, legs := legsOf o, first := false }) s
  let r := bandDecision (entryDwell n p o s) o.pulse p (lane s p).meas s1
  { pat := r.2, toBand := true, phases := r.1.phases, legs := r.1.legs, chop := r.1.chop }

/-- Decide in CARRIER. -/
def decideCarrier (p : Plane) (s : State) : State :=
  if entryHolds p s then updLane p (fun l => { l with dec := some (entryDecision p s) }) s
  else if par s (modPsSrc p.code) = 1 then updLane p (fun l => { l with dec := none }) s
  else
    let c := carrierSet p s
    updLane p (fun l => { l with dec := some { set := some c.1, phases := c.2 } }) s

/-- The exit count and its arming at a sample in BAND (R158). -/
def exitStep (p : Plane) (s : State) : State :=
  let l := lane s p
  if p = .b ∨ par s (ctlMode p.code) = 0 then updMod p (fun m => { m with exitWait := false, exitCnt := 0, exitCmd := false }) s
  else if entryHolds p s then
    updMod p (fun m => { m with exitWait := false, exitCnt := 0, exitCmd := false, entryReq := false }) s
  else
    let c := if l.meas.cls = 0 then min 65535 ((modr s p).exitCnt + 1) else 0
    updMod p (fun m => { m with
      exitCnt := c, exitWait := m.exitCmd || decide (par s (modExitN p.code) ≤ c) }) s

/-- Sample j of an exit (R158, R159): the seeded set, Δ, and whether the exit ramps. -/
def seedExit (p : Plane) (d : Dec) (s : State) : State :=
  let per := par s (modPeriod p.code) / 2
  let sw := seedWords s p
  let delta := seedDelta sw.1 (lane s p).demand (decide (p ≠ .d))
  let lim : Rat := (par s (modSeedLim p.code) : Rat) / 32768
  let ramp := delta.any fun x => decide (lim * per < absR (x : Rat))
  let ph := (d.phases.zipIdx).map fun x => { x.1 with sgn := (sw.2.getD x.2 x.1).sgn }
  updLane p (fun l => { l with dec := some { d with set := some { per := per, ports := sw.1 }, seed := true, phases := ph } })
    (updMod p (fun m => { m with ramp := ramp, delta := if ramp then delta else [], rampR := 0, rampPer := per }) s)

/-- Decide in BAND (R97 to R103, R158). -/
def decideBand (p : Plane) (s : State) : State :=
  let n := nCyc s
  let now := if (lane s p).first then (modr s p).out.pulse else (modr s p).src.pulse
  let r := bandDecision (bandDwell n p s) now p (lane s p).meas s
  let d : Dec := { pat := r.2, phases := r.1.phases, legs := r.1.legs, chop := r.1.chop }
  let s1 := exitStep p (updLane p (fun l => { l with dec := some d, dwellHold := r.1.dwellHold }) s)
  let m := modr s1 p
  if m.exitWait ∧ (n : Int) < nextValley m ∧ nextValley m ≤ 2 * n then seedExit p d s1 else s1

/-- The decision of a RUNNING plane: the end of a stop, then supervision, then BAND or CARRIER. Between S_j+1 and V the lane already
forms the carrier's sets (R159). -/
def decideRunning (p : Plane) (s : State) : State :=
  let m := (lane s p).meas
  let s1 := supervise p m s
  if (lane s1 p).st ≠ .running then s1
  else
    let s2 := if stopDecides p m s1 then updLane p (fun l => { l with dec := some { block := true } }) s1
      else if (modr s1 p).carrier || (modr s1 p).seedWait then decideCarrier p s1 else decideBand p s1
    let q := isQuiet p m s2
    updLane p (fun l => { l with
      quiet := if q then min 16 (l.quiet + 1) else 0, rampN := if l.stopping.isSome then l.rampN + 1 else 0 }) s2

/-- A plane in READY or TEST, and one under SUBSTITUTE, computes its decision and applies none (R88, R315); the feeder modes
follow the voltages (R95; log entry 29). -/
def decideIdle (p : Plane) (s : State) : State :=
  let r := bandDecision [] (modr s p).out.pulse p (lane s p).meas (updLane p (fun l => { l with first := true }) s)
  updLane p (fun l => { l with dec := some { pat := r.2 }, phases := r.1.phases }) s

/-- What a lane decides at a sample whose feedback is lost (R128): Block, or for plane M at and above ASC_FREQ Hold, which keeps the
previous switch state. -/
def lostDecision (p : Plane) (s : State) : Option Dec :=
  if p = .m ∧ (lane s .m).ascWanted then none
  else
    let l := lane s p
    some { set := if (modr s p).carrier then some (initialSet p s) else none, phases := l.phases, legs := l.legs, chop := false }

/-- One lane's decision at sample k. -/
def decideLane (p : Plane) (s : State) : State :=
  let s0 := updLane p (fun l => { l with dec := none, dwellHold := false, safeReq := false }) s
  let st := (lane s0 p).st
  if activeSt st || substituted s0 p then
    if mustStop s0 p then requestSafe p (updLane p (fun l => { l with dec := lostDecision p s0 }) s0)
    else if st = .running then decideRunning p s0
    else decideIdle p s0
  else s0

/-- ASC_WANTED of plane M (R182): set at |F| ≥ ASC_FREQ, cleared after 1 ms below; under SUBSTITUTE nothing reaches COL10. -/
def ascWanted (s : State) : State :=
  let l := lane s .m
  let above := decide ((par s ctlMAscFreq : Rat) / 16 ≤ absR l.ref.f)
  let below := if above then 0 else l.ascBelow + 1
  let on := above || (l.ascWanted && decide (((below : Rat) - 1) * nCyc s < 400000))
  let s1 := updLane .m (fun l => { l with ascWanted := on, ascBelow := below }) s
  if substituted s1 .m || on == s1.prt.ascWanted then s1
  else rechoose (updPrt (fun r => { r with ascWanted := on }) s1)

/-- The sums of R235 for Campion. -/
def addSums (s : State) : State :=
  let i := ((List.range 6).filter (legUsed s)).foldl (fun a n => a + sigVal s (0x30 + n)) 0
  { s with sums := { s.sums with
      n := s.sums.n + 1, lim := s.sums.lim + (if (lane s .g).meas.ilimAct then 1 else 0), g := s.sums.g + pGrid s, d := s.sums.d + sigVal s 0x36 * i,
      b := s.sums.b + (sigVal s 0x40 + sigVal s 0x41) * sigVal s 0x50 } }

/-- Every plane in turn. -/
def eachPlane (f : Plane → State → State) (s : State) : State := allPlanes.foldl (fun s p => f p s) s

/-- What happens in the period up to the strobe: counter events that no command has brought, and those in the strobe's own cycle. -/
def beforeStrobe (n : Nat) (bs : List Nat) (s : State) : State :=
  eachPlane (fun p s => keepUntil p n
    (if counterRuns p s then showCarrier p n (atStrobe p n (catchUp p bs n 256 s)) else s)) s

/-- The decisions of sample k − 1 and the waiting words take effect (R26, R27, R351). -/
def applyStrobe (n : Nat) (s : State) : State :=
  let s1 := eachPlane maskApply (takeWaiting .lane laneWord s)
  let old := allPlanes.map fun p => (modr s1 p).out
  let s2 := eachPlane (shiftPlane n) (eachPlane (applyDec n) s1)
  let s3 := eachPlane (fun p s => if carrierOn s p then showCarrier p 0 s else refreshOut p s) (eachPlane strobeStop s2)
  eachPlane strobeStart (eachPlane strobeClear
    (eachPlane (fun p s => countSwitching p (old.getD p.code {}) s) s3))

/-- The sample at which the lane of plane G switches CTL.G.REF_KIND; z is cleared at a switch to VOLTAGE (R218). -/
def switchKind (s : State) : State :=
  match s.gfm.kindAt with
  | some (k, v) =>
    if markDiff (sampleK s) k < 0 then s
    else
      let s1 := setPar ctlGRefKind v { s with gfm := { s.gfm with kindAt := none } }
      if v = 1 ∧ par s ctlGRefKind ≠ 1 then updLane .g (fun l => { l with z := {} }) s1 else s1
  | none => s

/-- The lanes compute the decisions of sample k: every lane measures, with the other plane's weight of sample k − 1, before the weights
of this sample are kept and before any lane decides (R91, R120). -/
def computeLanes (s : State) : State :=
  let s1 := ascWanted (noteRecon (dropLegs (switchKind s)))
  let s2 := eachPlane decideLane (keepWeights (eachPlane measureLane s1))
  eachPlane maskSector (injectCheck s2)

/-- The strobe S_k (R26). While ISL_CTL is halted by debug only the time goes on, and the marks stay where they were in it (R152). While
ISL_CTL is stopped, the bases of the other islands go on over the time of a period (log entry 75). `switch` is ISL_CTL's part of a
transaction, which it takes at S_k_c (R357). -/
def controlStrobe (switch : State → State) (bs : List Nat) (s0 : State) : State :=
  let n := nCyc s0
  let s := driveMarks n (dueComparators n s0)
  if !s.isl.ctl then (if s0.isl.power && !s0.isl.inReset then ptpTick (advanceTime s) else s0)
  else
    let s1 := ptpTick (nextIndex (advanceTime s))
    if s1.isl.halted then eachPlane (shiftMark n) { s1 with time := { s1.time with stall := true } }
    else
      let s2 := applyStrobe n (switch (beforeStrobe n bs s1))
      let s3 := takeSamples n bs (eachPlane (fun p s => updLane p (fun l => { l with casTaken := false }) s) s2)
      let s4 := computeLanes s3
      let s5 := eachPlane (fun p s => if carrierOn s p && decide ((modr s p).turnAt = 0) then takeCas p [] 0 s else s) s4
      advanceGrid (scrub (addSums s5))

/-! ## The adaptation window (R94) -/

/-- The number of ports that R94 counts. -/
def countedNumber (s : State) (p : Plane) : Nat := popcount (countedPorts s p)

/-- The end of a window: a ← a (1 + KA (f − f_t) / f_t), rounded to 2⁻¹² and clamped to [0.25, 4.0]. -/
def adaptEnd (p : Plane) (s : State) : State :=
  let l := lane s p
  let an := par s (ctlAdaptN p.code)
  if l.st = .running ∧ !(modr s p).carrier ∧ p ≠ .b ∧ an ≤ l.win then
    let f : Rat := l.nsw / (2 * countedNumber s p * an * tcSec s)
    let ft : Rat := par s (ctlFswTarget p.code)
    let a : Rat := (par s (ctlBandScale p.code) : Rat) / 4096
    let a1 := if ft = 0 then a else a * (1 + l.entry.ka * (f - ft) / ft)
    setPar (ctlBandScale p.code) (clampI 0x400 0x4000 (roundAway (a1 * 4096))).toNat
      (updLane p (fun l => { l with nsw := 0, win := 0 }) s)
  else s

def execAdaptWindowEnd (p : Plane) (s : State) : Host.Outcome State Fault Refusal := .next (adaptEnd p s)

end Sys2Proof.Machine
end

