-- ==== Sys2Proof/Machine/Commit.lean ====
section
/-! DEFINITION. Sys2Proof/Machine/Commit.lean: the commit point of a control period, cycle N − 4 (R26, R121, R127, R295). -/

namespace Sys2Proof.Machine

/-- A lane that computes decisions in this period: READY, RUNNING, TEST, SAFE, where they are discarded, or a dry run (R88, R315). -/
def computes (s : State) (p : Plane) : Bool := poweredSt (lane s p).st || substituted s p

/-- The lane missed the commit point (R127): OVR_CNT, the previous decision stays, the third in a row requests SAFE. -/
def overrun (p : Plane) (s : State) : State :=
  let s1 := count (ctlOvrCnt p.code) (updLane p (fun l => { l with ovrRun := l.ovrRun + 1, overrun := true, latched := none }) s)
  if 3 ≤ (lane s1 p).ovrRun then requestSafe p s1 else s1

/-- The lane completed: its decision is latched, and a dwell hold is counted (R26, R100). -/
def latch (p : Plane) (s : State) : State :=
  let s1 := updLane p (fun l => { l with ovrRun := 0, overrun := false, latched := l.dec }) s
  if (lane s p).dwellHold then count (ctlDwellHoldCnt p.code) s1 else s1

/-- One lane at the commit point; `late` names the planes that have not reached it. -/
def commitLane (late : List Plane) (p : Plane) (s : State) : State :=
  if !computes s p then updLane p (fun l => { l with latched := none, overrun := false }) s
  else if late.contains p then overrun p s
  else latch p s

/-- The commit point (R26): decisions, reference sets, then the capture bundle. Words that wait for a bundle come into force
with it (R351). While ISL_CTL is halted by debug nothing is committed (R152). -/
def commitPoint (late : List Plane) (s : State) : State :=
  if !s.isl.ctl || s.isl.halted then s
  else
    let s1 := eachPlane (commitLane late) s
    captureBundle (takeWaiting .bundle setPar (eachPlane commitThread s1))

def execCommitPoint (late : List Plane) (s : State) : Host.Outcome State Fault Refusal := .next (commitPoint late s)

end Sys2Proof.Machine
end

