-- ==== Sys2Proof/Machine/Yarrow.lean ====
section
/-! DEFINITION. Sys2Proof/Machine/Yarrow.lean: the Yarrow bus (R55, R281, R282, R309 to R313): the head of the chain, the survey,
T_BUS, alignment marks and group triggers as they arrive. -/

namespace Sys2Proof.Machine

def updYbus (f : Ybus → Ybus) (s : State) : State := { s with ybus := f s.ybus }

/-! ## Head of the chain (R309) -/

/-- At the head, YCLK neither qualifies nor serves as a reference (R309, R251). -/
def disqualifyYclk (s : State) : State :=
  let s1 := if par s clkRefSel = 1 then setParBit clkPllmStatus 7 false s else s
  let s2 := if par s1 clkRefAlt = 1 then setParBit clkPllmStatus 8 false s1 else s1
  if parBits s2 clkPllmStatus 3 2 = 1 then clkHoldover s2 else s2

/-- No YPRS on YIN for 10 ms: the module becomes the head, at position 0. -/
def becomeHead (s : State) : State :=
  if !onYbus s || isHead s then s
  else raiseFlag ybusEvents 0 0 (disqualifyYclk (setParBits ybusStatus 0 5 16 s))

def execYarrowHead (s : State) : Host.Outcome State Fault Refusal := .next (becomeHead s)

/-- The head sees YPRS on YIN again and is the head no more. -/
def loseHead (s : State) : State :=
  if !onYbus s || !isHead s then s else raiseFlag ybusEvents 0 0 (setParBit ybusStatus 4 false s)

def execHeadChange (s : State) : Host.Outcome State Fault Refusal := .next (loseHead s)

/-- The bypass relays follow the presence of the module: open only while its Yarrow interface is powered and out of reset, and the
module is not past SUPPLY_LOSS (R55, R66). -/
def presence (on : Bool) (s : State) : State :=
  { s with isl := { s.isl with yOpen := on && alive s && s.isl.prt && s.isl.acq && !s.prt.supplyLoss } }

def execPresenceChange (on : Bool) (s : State) : Host.Outcome State Fault Refusal := .next (presence on s)

/-! ## YCLK and T_BUS (R282, R309) -/

/-- YCLK is absent: T_BUS runs on from CLK_ACQ and is invalid. The head counts its own clock. -/
def yclkLost (s : State) : State :=
  if isHead s then s
  else { (updYbus (fun y => { y with absent := true }) (setParBit ybusStatus 13 false s)) with time := { s.time with busOk := false } }

def execYclkLost (s : State) : Host.Outcome State Fault Refusal := .next (yclkLost s)

/-- YCLK is present again; after more than 1 µs the module asks for a survey by a pulse of 1,000 ns on YTRG. -/
def yclkBack (s : State) : State :=
  let s1 := setParBit ybusStatus 13 true s
  if s.ybus.absent ∧ onYbus s then emit (.yarrow 1 1000) (updYbus (fun y => { y with absent := false }) s1) else s1

def execYclkRequestPulse (s : State) : Host.Outcome State Fault Refusal := .next (yclkBack s)

/-! ## Survey (R310, R311) -/

/-- A survey runs on the chain; group triggers wait. -/
def surveyStart (s : State) : State := if onYbus s then setParBit ybusStatus 6 true s else s

def execSurveyStart (s : State) : Host.Outcome State Fault Refusal := .next (surveyStart s)

/-- L: the largest delay and 1,050 ns, rounded up to a whole 100 ns; delays in 10 ps (R310). -/
def latOf (ds : List Nat) : Nat := (ds.foldl max 0 + 105000 + 9999) / 10000 * 100

/-- T_BUS takes the value that the mark gives; a difference above 100 ns is a time discontinuity (R311). -/
def setBus (t : Rat) (s : State) : State :=
  let d := t - s.time.bus
  let s1 := updTime (fun x => { stepReps [5, 6] d x with bus := t, busOk := true }) s
  if 100 < absR d then raiseFlag ybusEvents 4 (stepDetail (roundAway d)) (noteDiscontinuity (roundAway d) s1) else s1

/-- A survey ends: position, delays and L, or SURVEY_FAIL; then T_BUS at the mark. -/
def surveyDone (v : Survey) (s : State) : State :=
  if !parBit s ybusStatus 6 || !onYbus s then s
  else
    let n := v.delays.length
    let l := latOf v.delays
    let own := v.delays.getD v.pos 0
    let ok := decide (n ≤ 16) && decide (l ≤ 2000)
    let s1 := setParBit ybusStatus 5 ok (setParBit ybusStatus 6 false
      (setParBits ybusStatus 7 5 (min 31 n) (setParBits ybusStatus 0 4 (if isHead s then 0 else v.pos) s)))
    let s2 := setPar ybusLat (l % 65536) (setPar ybusDelay own (updYbus (fun y => { y with d := v.delays }) s1))
    let s3 := raiseFlag ybusEvents (if ok then 1 else 2) 0 s2
    if isHead s3 then emit (.yarrow 4 s3.time.bus.floor.toNat) (updTime (fun x => { x with busOk := true }) s3)
    else setBus (v.bus + (own : Rat) / 100) s3

def execSurveyDone (v : Survey) (s : State) : Host.Outcome State Fault Refusal := .next (surveyDone v s)

/-! ## Alignment marks (R281) -/

/-- The pairs of a list, each once. -/
def pairsOf {α : Type} : List α → List (α × α)
  | [] => []
  | x :: t => t.map (fun y => (x, y)) ++ pairsOf t

/-- The compensated instant of a mark that arrives some ns after the last strobe, in cycles of CLK_CTL: the own delay before it. -/
def markCycles (at' : Rat) (s : State) : Rat := (at' - (par s ybusDelay : Rat) / 100) / pllNs s

/-- The stamps of the mark that the module has stamped last, by position: its own, and those that descriptors have brought. -/
def markStamps (s : State) : List (Nat × Nat) :=
  (yPos s, s.time.stamp) ::
    (s.red.descs.filter fun d => decide (absI ((d.mark : Int) - s.time.stampBus) < 5000000)).map fun d => (d.pos, d.stamp)

/-- Two stamps' difference, ns. -/
def stampDiff (x y : Nat) : Nat := (absI ((x : Int) - y)).toNat

/-- TIME.XCHK_ERR and the outlier bit from the stamps of the last mark (R281). -/
def crossCheck (s : State) : State :=
  let all := markStamps s
  if all.length < 2 then s
  else
    let s1 := setPar timeXchkErr (min (2 ^ 32 - 1) (((pairsOf all).map fun p => stampDiff p.1.2 p.2.2).foldl max 0)) s
    if all.length < 3 then s1
    else if 250 < absI ((s.time.stamp : Int) - median (all.map fun x => (x.2 : Int))) then
      if s.time.outlier then s1 else raiseFlag timeEvents 6 0 (updTime (fun t => { t with outlier := true }) s1)
    else updTime (fun t => { t with outlier := false }) s1

/-- TIME_XCHK for each pair that a new stamp of the last mark forms and that differs by more than 250 ns (R281). -/
def pairCheck (pos : Nat) (s : State) : State :=
  let all := markStamps s
  match all.find? fun x => x.1 = pos with
  | none => s
  | some x => (all.filter fun y => decide (y.1 ≠ pos) && decide (250 < stampDiff x.2 y.2)).foldl
      (fun s y => raiseFlag timeEvents 5 (x.1 + 256 * y.1) s) s

/-- The once-per-second mark: the module's stamp in T_NET and the T_BUS count, and the comparison with what other members have shown of
this mark already; the rest follows with their descriptors. -/
def alignmentMark (at' : Rat) (s : State) : State :=
  if !onYbus s then s
  else
    let c := markCycles at' s
    let s1 := updTime (fun t => { t with
      stamp := (repAt s 3 c).floor.toNat, stampBus := busCount (masterAt s 5 c) }) s
    crossCheck (pairCheck (yPos s1) s1)

def execAlignmentMark (ns : Int) (part : Rat) (s : State) : Host.Outcome State Fault Refusal := .next (alignmentMark (ns + part) s)

/-! ## Group triggers (R312, R313) -/

/-- The position a pulse width names, within ±10 ns of a code. -/
def originOf (width : Nat) (n : Nat) : Option Nat :=
  (List.range (min 16 n)).find? fun o => decide (absI ((width : Int) - 50 * (o + 1)) ≤ 10)

/-- The application instant of a pulse: t_o + L with t_o = t_r − |d_i − d_o|, or t_r + L without an origin. -/
def applyAt (s : State) (tr : Rat) (o : Option Nat) : Rat :=
  match o with
  | some o => tr - absR ((par s ybusDelay : Rat) - (s.ybus.d.getD o 0 : Nat)) / 100 + yLat s
  | none => tr + yLat s

/-- A pulse on YTRG, by its arrival on T_BUS and its width in ns. The width of a request pulse is no trigger (R309); while a survey
runs or none has completed there are no group triggers (R310). -/
def groupTrigger (tr : Rat) (width : Nat) (s : State) : State :=
  if !onYbus s then s
  else
    let s1 := updYbus (fun y => { y with edge := some tr }) s
    if absI ((width : Int) - 1000) ≤ 10 then raiseFlag ybusEvents 3 0 s1
    else if parBit s ybusStatus 6 || !parBit s ybusStatus 5 then s1
    else
      let o := originOf width s.ybus.d.length
      let ta := applyAt s tr o
      let s2 := updYbus (fun y => { y with apply := y.apply ++ [(ta, 0)], trig := ta }) s1
      if o.isNone then raiseFlag acqEvents 3 0 s2 else s2

def execGroupTrigger (tr : Rat) (width : Nat) (s : State) : Host.Outcome State Fault Refusal := .next (groupTrigger tr width s)

/-- The application instant t_a of the first group trigger that waits: every enabled unit of kind YTRG fires, and the cause mask
also holds the unit that originated it. -/
def applyTrigger (s : State) : State :=
  match s.ybus.apply with
  | [] => s
  | (ta, mask) :: t =>
    let us := (List.range 32).filter fun u => tuOn s u && decide (tuKind s u = 5) && s.acq.armed.getLsbD u
    let s1 := updYbus (fun y => { y with apply := t }) s
    if us.isEmpty then s1
    else
      atTime ((ta - s1.time.bus) / busInc s1) (takeTrigger (maskOf us ||| mask)) (setPar acqTuFired (par s1 acqTuFired ||| maskOf us)
        (updAcq (fun a => { a with armed := a.armed &&& ~~~(BitVec.ofNat 32 (maskOf us)) }) s1))

def execGroupTriggerApply (s : State) : Host.Outcome State Fault Refusal := .next (applyTrigger s)

end Sys2Proof.Machine
end

