-- ==== Sys2Proof/Machine/Gfm.lean ====
section
/-! DEFINITION. Sys2Proof/Machine/Gfm.lean: plane G's outer laws on Campion (chapter 07): FORM, FOLLOW, limits, fault ride-through,
black start, breaker permit, pre-synchronisation and hand-over. Per-unit values by R200, angles in turns. -/

namespace Sys2Proof.Machine

def updGfm (f : Gfm → Gfm) (s : State) : State := { s with gfm := f s.gfm }

/-! ## Units -/

/-- A quotient; where the divisor is 0 the manual states no result, and the value is free (log entry 3). -/
def divF (s : State) (i : Nat) (x d : Rat) : Rat := if d = 0 then Config.freeRat (s.free + i) else x / d

/-- Parameters in sQ2.14, uQ8.8 and uQ1.15. -/
def q14 (s : State) (id : Nat) : Rat := (signedOf 16 (par s id) : Rat) / 16384
def u14 (s : State) (id : Nat) : Rat := (par s id : Rat) / 16384
def u88 (s : State) (id : Nat) : Rat := (par s id : Rat) / 256
def u15 (s : State) (id : Nat) : Rat := (par s id : Rat) / 32768

/-- To in seconds and in samples (R196). -/
def outerN (s : State) : Nat := par s clkOuterPeriods
def outerSec (s : State) : Rat := outerN s * tcSec s

/-- S_b, F_NOM, and the peak bases of voltage and current (R200). -/
def sBase (s : State) : Rat := (par s gfmSRated : Rat) * 1000
def fNom (s : State) : Rat := if par s gfmFNom = 0 then 50 else 60
def vPeak (s : State) : Rat := (par s gfmVRated : Rat) * Config.sqrt 2 / Config.sqrt3
def iPeak (s : State) : Rat := divF s 0 (sBase s * Config.sqrt 2) (Config.sqrt3 * par s gfmVRated)

/-- An angle wrapped to half a turn either way, and to one turn. -/
def wrapHalf (x : Rat) : Rat := x - (x + 1 / 2).floor
def wrapTurn (x : Rat) : Rat := x - x.floor

/-- d and q of an αβ vector in a frame at an angle. -/
def dqOf (th : Rat) (x : AB) : Rat × Rat :=
  let y := abRot (-th) x
  (y.a, y.b3 / Config.sqrt3)

/-- A pair rotated by an angle. -/
def rotPair (th d q : Rat) : Rat × Rat :=
  (cosT th * d - sinT th * q, sinT th * d + cosT th * q)

/-- Fields of GFM.STATE (R221). -/
def gLaw (s : State) : Nat := parBits s gfmState 0 1
def gOn (s : State) : Bool := parBit s gfmState 1
def gAct (s : State) : Nat := parBits s gfmState 2 2
def gBlend (s : State) : Bool := parBit s gfmState 4
def gLimited (s : State) : Bool := parBit s gfmState 5
def gFrt (s : State) : Bool := parBit s gfmState 6
def gPermit (s : State) : Bool := parBit s gfmState 7
def setAct (a : Nat) : State → State := setParBits gfmState 2 2 a

/-- The bus voltages are valid (R201). -/
def busValid (s : State) : Bool := sigOk s 0x16 && sigOk s 0x17

/-- Campion energises HOLD, unless Sorrel's clearing prevails (R188, R213). -/
def permitOn (s : State) : State :=
  if (lane s .g).st = .safe ∨ s.prt.supplyLoss then s
  else setParBit gfmState 7 true (setBrk 0 true s)

/-- Campion withdraws the permit. -/
def permitOff (s : State) : State := setBrk 0 false s

/-- A stop that Campion commands (R209, R217, R223, R240, R241). -/
def campionStop (p : Plane) (s : State) : State :=
  if (lane s p).st = .running ∧ (lane s p).stopping.isNone then beginStop p 0 s else s

/-! ## Measured quantities (R201) -/

/-- |x| of an αβ vector, exact at 0. -/
def magOf (x : AB) : Rat := if x.a = 0 ∧ x.b3 = 0 then 0 else Config.sqrt (normSq x)

/-- k·x by parts, exact at 0. -/
def abGain (k : Rat) (x : AB) : AB := { a := if x.a = 0 then 0 else k * x.a, b3 := if x.b3 = 0 then 0 else k * x.b3 }

/-- The estimator takes a sample x, at a frequency (R201). -/
def stepSeq (f : Rat) (s : State) (x : AB) (e : Seq) : Seq :=
  let c (i : Nat) (u : AB) : AB := abGain (Config.sogi i (f * outerSec s)) u
  { d := abAdd (c 0 e.d) (abAdd (c 1 e.q) (c 2 x)), q := abAdd (c 3 e.d) (abAdd (c 4 e.q) (c 5 x)) }

/-- The positive and the negative sequence. -/
def posSeq (e : Seq) : AB := abScale (1 / 2) (abAdd e.d (abJ e.q))
def negSeq (e : Seq) : AB := abScale (1 / 2) (abSub e.d (abJ e.q))

/-- The angle of a vector in a frame, in turns either way; 0 for no vector. -/
def angleErr (th : Rat) (v : AB) : Rat :=
  if v.a = 0 ∧ v.b3 = 0 then 0 else wrapHalf (Config.angleTurn (dqOf th v).1 (dqOf th v).2)

/-- A PLL of a bandwidth at a boundary: the angle comes to the sample, and the phase error moves the frequency (R201, R217). -/
def stepPll (bw : Nat) (v : AB) (s : State) (p : Pll) : Pll :=
  let th := wrapTurn (p.th + p.f * outerSec s)
  let e := angleErr th v
  if e = 0 then { th := th, f := p.integ, integ := p.integ, err := 0 }
  else
    let i := p.integ + Config.pllKi bw * e * outerSec s
    { th := th, f := i + Config.pllKp bw * e, integ := i, err := e }

/-- The samples of S_k_j: capacitor voltages, converter currents, and the bus voltages as phase voltages (R201). -/
def gVolts (s : State) : AB := abOf ([0x13, 0x14, 0x15].map (laneVal s .g))
def gAmps (s : State) : AB := abOf (gCurrents false s)
def busVolts (s : State) : AB :=
  let ab := laneVal s .g 0x16
  let bc := laneVal s .g 0x17
  abOf [(2 * ab + bc) / 3, (bc - ab) / 3, -(ab + 2 * bc) / 3]

/-- The estimators at a boundary. They run in every plane state; those of the bus while both its signals are valid. -/
def stepEst (s : State) : State :=
  let g := s.gfm
  let bw := par s gfmMonBw
  let volt := stepSeq g.mon.f s (gVolts s) g.volt
  let bus := stepSeq g.busPll.f s (busVolts s) g.bus
  let mon := stepPll bw (posSeq volt) s g.mon
  let k := min 1 (outerSec s * 10)
  updGfm (fun g => { g with
    volt := volt, cur := stepSeq g.mon.f s (gAmps s) g.cur, mon := mon, pll := stepPll (par s gfmPllBw) (posSeq volt) s g.pll
    bus := if busValid s then bus else g.bus, busPll := if busValid s then stepPll bw (posSeq bus) s g.busPll else g.busPll
    rocof := g.rocof + k * ((mon.f - g.mon.f) / outerSec s - g.rocof) }) s

/-- What the laws read of the estimators: U1, U_bus, I2 and the negative-sequence voltage in its own frame in pu, angles in turns,
frequencies in Hz, and the positive-sequence voltage and current. -/
structure GEst where
  u1    : Rat
  thMon : Rat
  fMon  : Rat
  vp    : AB
  ip    : AB
  v2d   : Rat
  v2q   : Rat
  i2    : Rat
  uBus  : Rat
  thBus : Rat
  fBus  : Rat
  thP   : Rat
  fP    : Rat
  deriving DecidableEq, Repr

/-- θ of the reference set in force at S_k_j. -/
def thetaNow (s : State) : Rat := (lane s .g).ref.theta

def estOf (s : State) : GEst :=
  let g := s.gfm
  let n := dqOf (-thetaNow s) (negSeq g.volt)
  { u1 := divF s 23 (magOf (posSeq g.volt)) (vPeak s), thMon := g.mon.th, fMon := g.mon.f, vp := posSeq g.volt, ip := posSeq g.cur,
    v2d := divF s 24 n.1 (vPeak s), v2q := divF s 25 n.2 (vPeak s), i2 := divF s 26 (magOf (negSeq g.cur)) (iPeak s),
    uBus := divF s 27 (magOf (posSeq g.bus)) (vPeak s), thBus := g.busPll.th, fBus := g.busPll.f, thP := g.pll.th, fP := g.pll.f }

/-- P_e and Q_e, and the readbacks. -/
def gReadback (s : State) : State :=
  let v := gVolts s
  let i := gAmps s
  let p := 3 / 2 * (v.a * i.a + v.b3 * i.b3 / 3)
  let q := 3 / 2 * (v.b3 * i.a - v.a * i.b3) / Config.sqrt3
  let tf : Rat := (par s gfmTfPq : Rat) / 1000000
  let k := if tf = 0 then 1 else min 1 (outerSec s / tf)
  let g := s.gfm
  let o := estOf s
  let pe := g.pe + k * (divF s 1 p (sBase s) - g.pe)
  let qe := g.qe + k * (divF s 2 q (sBase s) - g.qe)
  let u (x : Rat) : Nat := (clampI 0 65535 (roundAway (x * 16384))).toNat
  let i16 (x : Rat) : Nat := toBits 16 (clampI (-32768) 32767 (roundAway x))
  let hz (x : Rat) : Nat := (clampI 0 (2 ^ 32 - 1) (roundAway (x * 65536))).toNat
  let s1 := setPar gfmRocof (i16 (g.rocof * 1000)) (setPar gfmQE (i16 (qe * 16384)) (setPar gfmPE (i16 (pe * 16384))
    (setPar gfmFMon (hz o.fMon) (setPar gfmU1 (u o.u1) (updGfm (fun g => { g with pe := pe, qe := qe }) s)))))
  if busValid s then setPar gfmBusF (hz o.fBus) (setPar gfmBusU1 (u o.uBus) s1) else s1

/-- The measured quantities of a boundary (R201), and PHASE_JUMP (R210). -/
def gMeasure (s : State) : State :=
  let s1 := gReadback (stepEst s)
  if (par s gfmPjTh : Rat) / 360 < absR s1.gfm.mon.err then raiseFlag gfmFlags 0 0 s1 else s1

/-- BUS_DISAGREE after 100 ms of contradiction (R214). -/
def busDisagree (o : GEst) (s : State) : State :=
  let bad := busValid s && ((s.pins.busPresent && decide (o.uBus < 1 / 10)) || (!s.pins.busPresent && decide (1 / 2 ≤ o.uBus)))
  let t := if bad then s.gfm.disT + outerSec s else 0
  let on := decide (1 / 10 ≤ t)
  let s1 := updGfm (fun g => { g with disT := t, disagree := on }) s
  if on ∧ !s.gfm.disagree then raiseFlag gfmFlags 3 0 s1 else s1

/-! ## Groups (R198, R199) -/

/-- F rounded to 1/4096 Hz with error feedback, within the field of 24 bits (R124, R199). -/
def roundFb (f err : Rat) : Rat × Rat :=
  let x := f * 4096 + err
  let y := clampI (-8388608) 8388607 (roundAway x)
  ((y : Rat) / 4096, clampR (-1) 1 (x - y))

/-- θ of a group with a frequency, marked k (R199). -/
def groupTheta (f : Rat) (k : Nat) (s : State) : Rat :=
  wrapTurn (s.gfm.theta + (roundFb f s.gfm.fErr).1 * markDiff k s.gfm.mark * tcSec s)

/-- One group of plane G: θ from the previous group, then the items. -/
def gGroup (d q vd vq f : Rat) (k : Nat) (s : State) : State :=
  let r := roundFb f s.gfm.fErr
  let th := groupTheta f k s
  writeGroup .g { d := d, q := q, vd := vd, vq := vq, freq := r.1, theta := th, scalar := 0, mark := k % 2 ^ 48 }
    (updGfm (fun g => { g with theta := th, mark := k, fErr := r.2 }) s)

/-- F that takes θ at the mark of a group to the angle of a PLL, which stands at `th` at S_k_j and turns at `f` (R198, R199). -/
def tieFreq (th f : Rat) (k : Nat) (s : State) : Rat :=
  let span := markDiff k s.gfm.mark * tcSec s
  if span = 0 then f
  else f + wrapHalf (th + f * markDiff k (sampleK s) * tcSec s - s.gfm.theta - f * span) / span

/-- The group of no law (R198): the monitor's angle, or a free-running one at F_NOM while U1 is below 0.1 pu. -/
def gNone (s : State) : State :=
  let o := estOf s
  let k := sampleK s + 2 * outerN s
  gGroup 0 0 0 0 (if o.u1 < 1 / 10 then fNom s else tieFreq o.thMon o.fMon k s) k s

/-! ## FORM (R202 to R206) -/

/-- The measured converter current in a frame, pu. -/
def iDq (s : State) (th : Rat) : Rat × Rat :=
  let x := dqOf th (lane s .g).meas.i1
  (divF s 3 x.1 (iPeak s), divF s 4 x.2 (iPeak s))

/-- Move a value toward a target by at most a step. -/
def approach (step x to' : Rat) : Rat := if absR (to' - x) ≤ step then to' else if x < to' then x + step else x - step

/-- K_f = 100 / DROOP_F. -/
def kF (s : State) : Rat := 100 / max (1 / 256) (u88 s gfmDroopF)

/-- m_q = DROOP_V / 100. -/
def mQ (s : State) : Rat := u88 s gfmDroopV / 100

/-- ω_set in force: F_SET, its substitute in SYNC, or its return after SYNC (R202, R215). -/
def omegaSet (o : GEst) (s : State) : Rat × Option Rat :=
  let fin := (par s gfmFSet : Rat) / 65536 / fNom s
  if gAct s = 3 then
    let dth := wrapHalf (o.thBus + (par s gfmSyncShift : Rat) / 2 ^ 32 - thetaNow s)
    let df : Rat := (par s gfmSyncDf : Rat) / 1000
    ((o.fBus + clampR (-df) df (dth / max (1 / 4) (u88 s gfmSyncT))) / fNom s, none)
  else
    match s.gfm.relT with
    | none => (fin, none)
    | some t =>
      let t1 := t + outerSec s
      let rel : Rat := (par s gfmSyncRel : Rat) / 1000
      if rel ≤ t1 then (fin, none) else (s.gfm.relW + (fin - s.gfm.relW) * t1 / rel, some t1)

/-- E_base in force (R203, R212, R215). -/
def eBaseOf (o : GEst) (s : State) : Rat × Bool :=
  let vset := u14 s gfmVSet
  let step := (par s gfmSyncVrate : Rat) / 1000 * outerSec s
  match s.gfm.takeTo with
  | some e => (match s.gfm.takeT with
    | none => 0
    | some t => if par s redTakeRamp = 0 then e else e * min 1 (t * 1000 / (par s redTakeRamp : Rat)), false)
  | none =>
  match gAct s with
  | 1 => (0, false)
  | 2 => (vset * min 1 (s.gfm.rampT / ((max 1 (par s gfmBsRamp) : Nat) / 1000)), false)
  | 3 => (approach step s.gfm.eBase o.uBus, true)
  | _ =>
    if s.gfm.eBack then
      let e := approach step s.gfm.eBase vset
      (e, decide (e ≠ vset))
    else (vset, false)

/-- I_lim, the ILIM of the entry in force, pu. -/
def iLimPu (s : State) : Rat := divF s 5 (lane s .g).entry.ilim (iPeak s)

/-- The clip of P_m in force (R208): U1 × I_lim under FRT, then rising at FRT_PRAMP. -/
def clipOf (o : GEst) (s : State) : Option Rat :=
  if gFrt s then some (o.u1 * iLimPu s)
  else s.gfm.clip.map fun c => c + u88 s gfmFrtPramp * outerSec s

/-- The swing equation by forward Euler (R202, R206, R208): P*, ω and the clip that goes on. -/
def swing (o : GEst) (wset : Rat) (s : State) : State :=
  let g := s.gfm
  let to' := outerSec s
  let ps := if gAct s = 3 then 0 else approach (u88 s gfmPRate * to') g.pStar (q14 s gfmPSet)
  let raw := ps + kF s * (wset - g.w)
  let clip := clipOf o s
  let pm := match clip with | some c => clampR (-c) c raw | none => raw
  let h : Rat := (par s gfmHAct : Rat) / 4096
  let dw := divF s 6 (pm - g.pe - u88 s gfmD * (g.w - o.fMon / fNom s)) (2 * h)
  let w := if gAct s = 1 then (par s gfmFSet : Rat) / 65536 / fNom s else g.w + to' * dw
  let df : Rat := (par s gfmDfLim : Rat) / 1000
  let w1 := if gLimited s || gFrt s then clampR ((o.fMon - df) / fNom s) ((o.fMon + df) / fNom s) w else w
  updGfm (fun g => { g with pStar := ps, w := w1, clip := if gFrt s || decide (raw ≠ pm) then clip else none }) s

/-- E's droop term, held under FRT and LIMITED and 0 in a black start (R203, R206, R212). -/
def droopE (s : State) : Rat :=
  if gAct s = 1 ∨ gAct s = 2 then 0
  else if gLimited s || gFrt s then s.gfm.eDroop else -(mQ s * (s.gfm.qe - q14 s gfmQSet))

/-- V2_ref at this boundary (R205). -/
def negRef (o : GEst) (s : State) : Rat × Rat :=
  let g := s.gfm
  match par s gfmNegMode with
  | 0 => (0, 0)
  | 1 =>
    let lim := u14 s gfmNegIlim
    if lim < o.i2 then (g.v2d * lim / o.i2, g.v2q * lim / o.i2)
    else
      let k := (par s gfmNegKi : Rat) * outerSec s
      (g.v2d - k * o.v2d, g.v2q - k * o.v2q)
  | _ =>
    let tf : Rat := (par s gfmTfPq : Rat) / 1000000
    let k := if tf = 0 then 1 else min 1 (outerSec s / tf)
    (g.v2d + k * (o.v2d - g.v2d), g.v2q + k * (o.v2q - g.v2q))

/-- v_ref of R204 in pu, for a group at an angle, from the current in a frame. -/
def vDemand (s : State) (frame th : Rat) : Rat × Rat :=
  let g := s.gfm
  let e := clampR 0 (6 / 5) (g.eBase + g.eDroop)
  let i := iDq s frame
  let rv := u14 s gfmRv
  let xv := g.w * u14 s gfmXv
  let v2 := rotPair (-2 * th) g.v2d g.v2q
  (e - (rv * i.1 - xv * i.2) + v2.1, -(rv * i.2 + xv * i.1) + v2.2)

/-- F of a FORM group: ω, or what leaves θ on the angle limit at the mark (R206). -/
def formFreq (o : GEst) (k : Nat) (s : State) : Rat :=
  let f := s.gfm.w * fNom s
  if !(gLimited s || gFrt s) then f
  else
    let span := markDiff k s.gfm.mark * tcSec s
    let base := o.thMon + o.fMon * 2 * outerSec s
    let d := wrapHalf (s.gfm.theta + f * span - base)
    let lim : Rat := (par s gfmDthLim : Rat) / 360
    if absR d ≤ lim then f
    else divF s 7 (f * span + (if 0 < d then lim else -lim) - d) span

/-! ## FOLLOW (R217) -/

/-- i_ref in pu, in the PLL frame. -/
def iDemand (o : GEst) (wset : Rat) (s : State) : Rat × Rat :=
  let u := max (1 / 5) o.u1
  let p := s.gfm.pStar + kF s * (wset - o.fP / fNom s)
  let q := q14 s gfmQSet + (if mQ s = 0 then 0 else (u14 s gfmVSet - o.u1) / mQ s)
  (p / u, -(q / u))

/-! ## Blend and output (R219) -/

/-- The blended output of a demand, and the count afterwards; BLEND clears at n = K. -/
def blended (dem : Rat × Rat) (s : State) : (Rat × Rat) × State :=
  if !gBlend s then (dem, s)
  else
    let k : Nat := max 1 (par s gfmHoK)
    let n := s.gfm.blendN
    let g := s.gfm
    let lam : Rat := (n : Rat) / k
    ((g.initD + (dem.1 - g.initD) * lam, g.initQ + (dem.2 - g.initQ) * lam),
     if k ≤ n then setParBit gfmState 4 false s else updGfm (fun g => { g with blendN := n + 1 }) s)

/-- Write a FORM group at a mark. -/
def formGroup (o : GEst) (frame : Rat) (k : Nat) (s : State) : State :=
  let f := formFreq o k s
  let b := blended (vDemand s frame (groupTheta f k s)) s
  let v := vPeak s
  gGroup (b.1.1 * v) (b.1.2 * v) (b.1.1 * v) (b.1.2 * v) f k b.2

/-- Write a FOLLOW group at a mark: its angle is that of the follow PLL, which stands at o.thP and turns at o.fP (R198). -/
def followGroup (o : GEst) (wset : Rat) (k : Nat) (s : State) : State :=
  let b := blended (iDemand o wset s) s
  let v := dqOf o.thP o.vp
  gGroup (b.1.1 * iPeak s) (b.1.2 * iPeak s) v.1 v.2 (tieFreq o.thP o.fP k s) k b.2

/-! ## Hand-over (R218, R219) -/

/-- Whether demand and init disagree (R219). -/
def disagrees (s : State) (a b : Rat × Rat) : Bool :=
  let ma := Config.sqrt (a.1 * a.1 + a.2 * a.2)
  let mb := Config.sqrt (b.1 * b.1 + b.2 * b.2)
  let dang := wrapHalf (Config.angleTurn a.1 a.2 - Config.angleTurn b.1 b.2)
  decide ((par s gfmHoDmag : Rat) / 1000 < absR (ma - mb)) ||
    (decide (1 / 20 ≤ ma) && decide (1 / 20 ≤ mb) && decide ((par s gfmHoDth : Rat) / 360 < absR dang))

/-- Begin or skip the blend. -/
def startBlend (init dem : Rat × Rat) (s : State) : State :=
  if disagrees s init dem then
    setParBit gfmState 4 true (updGfm (fun g => { g with blendN := 0, initD := init.1, initQ := init.2 }) s)
  else setParBit gfmState 4 false s

/-- The two groups of an incoming law and the lane's switch of REF_KIND. -/
def switchAt (kind : Nat) (s : State) : State :=
  updGfm (fun g => { g with kindAt := some ((sampleK s + outerN s + 1) % 2 ^ 48, kind) }) s

/-- FOLLOW to FORM, or a start on a live capacitor voltage (R218, R212). -/
def toFormLaw (o : GEst) (th f : Rat) (s : State) : State :=
  let k := sampleK s
  let eb := u14 s gfmVSet
  let s1 := setParBits gfmState 0 4 2 (updGfm (fun g => { g with
    theta := th, mark := k, fErr := 0, w := f / fNom s, eBase := eb, eDroop := o.u1 - eb, eBack := false, v2d := 0, v2q := 0,
    relT := none, clip := none, lossT := 0, toForm := false, wSet := (par s gfmFSet : Rat) / 65536 / fNom s }) s)
  let v := dqOf th o.vp
  let s2 := startBlend (divF s 8 v.1 (vPeak s), divF s 9 v.2 (vPeak s)) (vDemand s1 th th) s1
  switchAt 1 (formGroup o th (k + 2 * outerN s) (formGroup o th (k + outerN s + 1) s2))

/-- FORM to FOLLOW (R218): the PLL's angle becomes θ, its frequency and integrator f. A start in FOLLOW goes on from the PLL. -/
def toFollowLaw (o : GEst) (th f : Rat) (s : State) : State :=
  let k := sampleK s
  let ws := (par s gfmFSet : Rat) / 65536 / fNom s
  let s1 := setParBits gfmState 0 4 3 (updGfm (fun g => { g with
    theta := th, mark := k, fErr := 0, relT := none, eBack := false, lossT := 0, toForm := false, clip := none, wSet := ws,
    pll := { g.pll with th := th, f := f, integ := f } }) s)
  let i := dqOf th o.ip
  let o1 := { o with thP := th, fP := f }
  let s2 := startBlend (divF s 10 i.1 (iPeak s), divF s 11 i.2 (iPeak s)) (iDemand o1 ws s1) s1
  switchAt 0 (followGroup o1 ws (k + 2 * outerN s) (followGroup o1 ws (k + outerN s + 1) s2))

/-- The law of PLANE_START (R212). -/
def startLaw (o : GEst) (s : State) : State :=
  let s0 := updGfm (fun g => { g with
    pStar := q14 s gfmPSet, aux := s.pins.brkAux, lawReq := none, low := 0, below := 0, limOff := 0, deadT := 0, syncN := 0 }) s
  if par s gfmLaw = 1 then toFollowLaw o o.thP o.fP s0
  else if o.u1 < 1 / 10 then
    let k := sampleK s
    let imm := decide (par s gfmBsMode = 0) || s.pins.brkAux
    let s1 := setParBits gfmState 0 4 (2 + (if imm then 8 else 4)) (updGfm (fun g => { g with
      theta := thetaNow s, mark := k, fErr := 0, w := (par s gfmFSet : Rat) / 65536 / fNom s, eBase := 0, eDroop := 0, eBack := false,
      v2d := 0, v2q := 0, relT := none, clip := none, rampT := 0, toForm := false }) s0)
    let th := thetaNow s
    switchAt 1 (formGroup o th (k + 2 * outerN s) (formGroup o th (k + outerN s + 1) (setParBit gfmState 4 false s1)))
  else toFormLaw o o.thMon o.fMon s0

/-! ## A takeover (R376, R377) -/

/-- elapsed(t) in ns at a count of CLK_AON: f_AON is 32 MHz corrected by RED.AON_RATE (R376). -/
def elapsedNs (r : Restored) (c : Nat) (s : State) : Rat :=
  let f : Rat := 32 * (1 + (signedOf 32 (par s redAonRate) : Rat) / 100000000)
  (r.dc : Rat) + r.da + 500 + divF s 8 (((c : Int) - r.cr : Int) * 1000) f

/-- Plane G starts in FORM with activity RUN on the restored law: the first group, marked k1, carries θ_s + f · elapsed(k1). -/
def takeStart (o : GEst) (r : Restored) (s : State) : State :=
  let k := sampleK s
  let k1 := k + outerN s + 1
  let el := elapsedNs r s.red.aon s + ((outerN s : Rat) + 1) * tcSec s * 1000000000
  let fr := (roundFb (r.w * fNom s) 0).1
  let s1 := setPar redTakeElapsed (el.floor.toNat % 2 ^ 32) (setParBits gfmState 0 5 2 (updGfm (fun g => { g with
    pStar := r.pStar, aux := s.pins.brkAux, lawReq := none, low := 0, below := 0, limOff := 0, deadT := 0, syncN := 0,
    theta := wrapTurn (r.th + r.f * el / 1000000000 - fr * markDiff k1 k * tcSec s), mark := k, fErr := 0, w := r.w, eBase := 0,
    eDroop := r.eDroop, eBack := false, v2d := r.v2d, v2q := r.v2q, qe := r.qe, pe := r.pe, relT := none,
    clip := if r.clip = 0 then none else some r.clip, toForm := false, takeTo := some r.eBase, takeT := none }) s))
  let th := thetaNow s1
  switchAt 1 (formGroup o th (k + 2 * outerN s) (formGroup o th k1 s1))

/-- The start of plane G: by R377 in a takeover that has restored a snapshot, else by R212. -/
def startG (o : GEst) (s : State) : State :=
  match s.red.take with
  | some t => match t.r with
    | some r => takeStart o r s
    | none => startLaw o s
  | none => startLaw o s

/-- E_base after a takeover: 0 until BRK_AUX closes or AUTO_SYNC begins, then a ramp over RED.TAKE_RAMP (R377). At its end the
ordinary rule goes on from the restored value, and AUTO_SYNC begins its pre-synchronisation. -/
def takeRamp (s : State) : State :=
  match s.gfm.takeTo with
  | none => s
  | some e =>
    match s.gfm.takeT with
    | none => if s.pins.brkAux || s.gfm.takeSync then updGfm (fun g => { g with takeT := some 0 }) s else s
    | some t =>
      let t1 := t + outerSec s
      if (par s redTakeRamp : Rat) / 1000 ≤ t1 then
        let s1 := updGfm (fun g => { g with takeTo := none, takeT := none, takeSync := false, eBase := e, eBack := true }) s
        if s.gfm.takeSync ∧ !s.pins.brkAux then
          setAct 3 (updGfm (fun g => { g with pStar := 0, syncN := 0, permT := 0, relT := none }) s1)
        else s1
      else updGfm (fun g => { g with takeT := some t1 }) s

/-! ## Limit and fault ride-through (R206 to R209) -/

/-- LIMITED from LIM_N (R206). -/
def limitStep (s : State) : State :=
  let n := s.sums.lim
  let off := if n = 0 then s.gfm.limOff + 1 else 0
  let s1 := updGfm (fun g => { g with limOff := min 255 off }) s
  if outerN s ≤ 2 * n then setParBit gfmState 5 true s1
  else if gLimited s ∧ par s gfmLimExit ≤ off then setParBit gfmState 5 false s1 else s1

/-- U_min(t) of R209, t in ms. -/
def envelope (s : State) (t : Rat) : Rat :=
  let pt (i : Nat) : Rat × Rat := ((par s (gfmFrtT0 + i) : Rat), u14 s (gfmFrtU0 + i))
  let seg (i : Nat) : Rat :=
    let a := pt i
    let b := pt (i + 1)
    if b.1 = a.1 then b.2 else a.2 + (b.2 - a.2) * (t - a.1) / (b.1 - a.1)
  if t < (pt 0).1 then (pt 0).2
  else if t < (pt 1).1 then seg 0 else if t < (pt 2).1 then seg 1 else if t < (pt 3).1 then seg 2 else (pt 3).2

/-- An exit from the envelope acts by FRT_ACTION (R209). -/
def frtExit (s : State) : State :=
  let s1 := raiseFlag gfmFlags 1 0 s
  match par s gfmFrtAction with
  | 1 => permitOff s1
  | 2 => campionStop .g (permitOff s1)
  | _ => s1

/-- FRT at a boundary (R207 to R209). -/
def frtStep (o : GEst) (s : State) : State :=
  if gAct s = 1 ∨ gAct s = 2 then updGfm (fun g => { g with low := 0 }) s
  else
    let v1 := u14 s gfmFrtV1
    let to' := outerSec s
    if !gFrt s then
      let n := if o.u1 < v1 then s.gfm.low + 1 else 0
      let s1 := updGfm (fun g => { g with low := min 2 n }) s
      if 2 ≤ n then setParBit gfmState 6 true (updGfm (fun g => { g with frtT := to', upHys := 0, upV1 := 0, below := 0, clip := none }) s1)
      else s1
    else
      let t := s.gfm.frtT + to'
      let up (ok : Bool) (x : Rat) : Rat := if ok then x + to' else 0
      let h := up (decide (v1 + u14 s gfmFrtHys ≤ o.u1)) s.gfm.upHys
      let u := up (decide (v1 ≤ o.u1)) s.gfm.upV1
      let b := if o.u1 < envelope s (t * 1000) then s.gfm.below + 1 else 0
      let s1 := updGfm (fun g => { g with frtT := t, upHys := h, upV1 := u, below := min 3 b }) s
      let late := decide ((par s gfmFrtT3 : Rat) < t * 1000)
      if 1 / 50 ≤ h ∨ (late ∧ 1 / 50 ≤ u) then
        setParBit gfmState 6 false (updGfm (fun g => { g with low := 0, clip := some (o.u1 * iLimPu s) }) s1)
      else if b = 2 then frtExit s1 else s1

/-! ## Breaker permit and pre-synchronisation (R213 to R216) -/

/-- The end of GFM_SYNC: the activity returns to RUN, and an unused permit is withdrawn. -/
def endSync (st cause : Nat) (s : State) : State :=
  let s1 := (opsOf s 0x0020).foldl (fun s h => complete h st cause [] s) s
  if gAct s = 3 then
    let s2 := updGfm (fun g => { g with syncN := 0, permT := 0, eBack := true, relT := some 0, relW := g.wSet }) (setAct 0 s1)
    if gPermit s2 ∧ !s2.pins.brkAux then permitOff s2 else s2
  else s1

/-- BUS_DISAGREE is not set, neither its flag nor the disagreement itself (R213, R214, R216). -/
def busAgrees (s : State) : Bool := !s.gfm.disagree && !parBit s gfmFlags 3

/-- The dead-bus permit (R213). -/
def deadPermit (o : GEst) (s : State) : State :=
  let ok := decide (par s gfmBrkMode = 1) && decide (par s gfmDeadClose = 1) && (lane s .g).st == .running && gOn s &&
    decide (gLaw s = 0) && decide (o.u1 < 1 / 10) && busValid s && decide (o.uBus < 1 / 10) && !s.pins.busPresent && busAgrees s
  let t := if ok then s.gfm.deadT + outerSec s else 0
  let s1 := updGfm (fun g => { g with deadT := t }) s
  if ok ∧ (par s gfmDeadTime : Rat) / 1000 ≤ t ∧ !gPermit s then permitOn s1 else s1

/-- BRK_AUX went from closed to open (R213, R217): BRK_OPENED, and in SYNC mode the bit is cleared. In FOLLOW the grid is lost. -/
def auxEdge (s : State) : State :=
  let s1 := updGfm (fun g => { g with aux := s.pins.brkAux }) s
  if s.gfm.aux ∧ !s.pins.brkAux then
    let s2 := raiseFlag gfmFlags 2 0 s1
    if par s gfmBrkMode = 1 then permitOff s2 else s2
  else s1

/-- Pre-synchronisation at a boundary (R215, R216): its endings, then the permit. -/
def syncStep (o : GEst) (s : State) : State :=
  if gAct s ≠ 3 then s
  else if s.pins.brkAux then
    endSync stOk cNone (updGfm (fun g => { g with pStar := 0 }) s)
  else if !busValid s then endSync stCancelled cSignal s
  else if !s.pins.busPresent then endSync stCancelled cCondition s
  else
    let f := s.gfm.w * fNom s
    let dth := wrapHalf (o.thBus + (par s gfmSyncShift : Rat) / 2 ^ 32 - thetaNow s)
    let dthp := dth + (o.fBus - f) * ((par s gfmBrkTclose : Rat) / 1000)
    let hund (x : Rat) : Nat := toBits 16 (clampI (-32768) 32767 (roundAway (x * 36000)))
    let lf : Rat := (par s gfmSyncDfOk : Rat) / 1000
    let lv : Rat := (par s gfmSyncDvOk : Rat) / 1000
    let la : Rat := (par s gfmSyncDthOk : Rat) / 360
    let fits (k : Rat) : Bool := decide (absR (o.fBus - f) ≤ k * lf) && decide (absR (o.uBus - o.u1) ≤ k * lv) &&
      decide (absR dthp ≤ k * la)
    let s1 := setPar gfmSyncDth (hund dth) s
    if gPermit s1 then
      let t := s.gfm.permT + outerSec s
      if !fits 2 ∨ (par s gfmBrkTclose : Rat) / 1000 + 1 / 10 ≤ t then
        permitOff (updGfm (fun g => { g with syncN := 0, permT := 0 }) s1)
      else updGfm (fun g => { g with permT := t }) s1
    else
      let n := if fits 1 && busAgrees s then s.gfm.syncN + 1 else 0
      let s2 := updGfm (fun g => { g with syncN := min 4 n, permT := 0 }) s1
      if 4 ≤ n then raiseNum 0x10 (hund dthp) (permitOn s2) else s2

/-! ## The boundary -/

/-- The loss of the grid in FOLLOW (R217). -/
def gridLoss (o : GEst) (opened : Bool) (s : State) : State :=
  let t := if o.u1 < 1 / 2 then s.gfm.lossT + outerSec s else 0
  let s1 := updGfm (fun g => { g with lossT := t }) s
  if opened ∨ ((par s gfmFollowLoss : Rat) / 1000 ≤ t ∧ 0 < t ∧ !gFrt s) then
    let s2 := raiseFlag gfmFlags 4 0 (updGfm (fun g => { g with lossT := 0 }) s1)
    if par s gfmAutoForm = 1 then updGfm (fun g => { g with toForm := true }) s2 else campionStop .g s2
  else s1

/-- The activity of a black start (R212). -/
def rampStep (s : State) : State :=
  if gAct s = 1 then (if par s gfmBsMode = 0 ∨ s.pins.brkAux then setAct 2 (updGfm (fun g => { g with rampT := 0 }) s) else s)
  else if gAct s = 2 then
    let t := s.gfm.rampT + outerSec s
    let s1 := updGfm (fun g => { g with rampT := t }) s
    if (par s gfmBsRamp : Rat) / 1000 ≤ t then setAct 0 s1 else s1
  else s

/-- The law in force at a boundary: FORM. -/
def formStep (o : GEst) (s : State) : State :=
  let ws := omegaSet o s
  let s1 := swing o ws.1 s
  let eb := eBaseOf o s1
  let dr := droopE s1
  let v2 := negRef o s1
  let s2 := updGfm (fun g => { g with
    wSet := ws.1, relT := ws.2, eBase := eb.1, eBack := eb.2, eDroop := dr, v2d := v2.1, v2q := v2.2 }) s1
  formGroup o (thetaNow s) (sampleK s + 2 * outerN s) s2

/-- The law in force at a boundary: FOLLOW. -/
def followStep (o : GEst) (s : State) : State :=
  let ws := omegaSet o s
  let ps := approach (u88 s gfmPRate * outerSec s) s.gfm.pStar (q14 s gfmPSet)
  followGroup o ws.1 (sampleK s + 2 * outerN s)
    (updGfm (fun g => { g with pStar := ps, wSet := ws.1, relT := ws.2 }) s)

/-- The law's own data while plane G is not RUNNING; its activity ended as the plane left (R220). -/
def endLaw (s : State) : State :=
  updGfm (fun g => { g with
    lawReq := none, toForm := false, kindAt := none, lossT := 0, low := 0, clip := none,
    takeTo := none, takeT := none, takeSync := false }) s

/-- INJECT ends at the boundary at which FRT, LIMITED or BLEND is set, the activity leaves RUN, or the law is written (R316). -/
def injectEnd (written : Bool) (s : State) : State :=
  if replaying s && s.replay.sub.isNone &&
      (gBlend s || gLimited s || gFrt s || decide (gAct s ≠ 0) || decide (gLaw s ≠ 0) || written) then
    endReplay stCancelled cCondition s
  else s

/-- A boundary in FOLLOW (R217, R220): the loss of the grid is seen first. A hand-over to FORM that a loss at the boundary before has
asked for, or that GFM.LAW asks for now, is made once. -/
def followRun (o : GEst) (opened : Bool) (req : Option Nat) (s : State) : State :=
  let due := s.gfm.toForm
  let s1 := gridLoss o opened s
  if due ∨ req = some 0 then toFormLaw o o.thP o.fP s1 else followStep o s1

/-- Plane G's boundary while its law runs. -/
def gRun (o : GEst) (s : State) : State :=
  if !gOn s then startG o s
  else
    let opened := s.gfm.aux && !s.pins.brkAux
    let s1 := auxEdge s
    let req := s1.gfm.lawReq
    let s2 := injectEnd req.isSome (frtStep o (limitStep (syncStep o (deadPermit o s1))))
    let s3 := updGfm (fun g => { g with lawReq := none }) s2
    if gLaw s3 = 1 then followRun o opened req s3
    else if req = some 1 then toFollowLaw o (thetaNow s3) (s3.gfm.w * fNom s3) s3
    else formStep o (rampStep (takeRamp s3))

/-- Plane G at an outer boundary. -/
def gBoundary (s : State) : State :=
  let s1 := gMeasure s
  let o := estOf s1
  let s2 := busDisagree o s1
  if (lane s2 .g).st = .running then gRun o s2 else gNone (auxEdge (endLaw s2))

/-! ## GFM_SYNC (R215, R216) -/

/-- The conditions of GFM_SYNC. -/
def syncFits (s : State) : Bool :=
  (lane s .g).st == .running && gOn s && decide (gLaw s = 0) && decide (gAct s = 0) && decide (par s gfmBrkMode = 1) &&
    !s.pins.brkAux && busValid s && s.pins.busPresent

def gfmSyncBody (e : Env) (p : PPay) (_h : Nat) (s : State) : State × Ans :=
  if p.resv ≠ 0 ∨ p.code ≠ 0 then refuse stBadParam s
  else if syncFits s then
    accepted 0x0020 e (fun s => setAct 3 (updGfm (fun g => { g with pStar := 0, syncN := 0, permT := 0, relT := none }) s)) s
  else refuse stWrongState s

def execGfmSync (e : Env) (p : PPay) (s : State) : Host.Outcome State Fault Refusal :=
  .next (serveLong 1 0x0020 e (gfmSyncBody e p) s)

/-- GFM.SYNC_TIMEOUT passes (R216). -/
def execSyncTimeout (s : State) : Host.Outcome State Fault Refusal :=
  .next (if (opsOf s 0x0020).isEmpty then s else endSync stCancelled cTimeout s)

/-- GFM.LAW comes into force at an outer boundary (R218, R216). -/
def lawWritten (v : Nat) (s : State) : State :=
  updGfm (fun g => { g with lawReq := some v }) (if gAct s = 3 then endSync stCancelled cHost s else s)

end Sys2Proof.Machine
end

