-- ==== Sys2Proof/Machine/Msd.lean ====
section
/-! DEFINITION. Sys2Proof/Machine/Msd.lean: planes M, D and B on Campion (chapter 08): the machine law, six-step, storage, precharge
and discharge, and the energy account. -/

namespace Sys2Proof.Machine

def updMsd (f : Msd → Msd) (s : State) : State := { s with msd := f s.msd }

/-! ## Units -/

def u124 (s : State) (id : Nat) : Rat := (par s id : Rat) / 16
def u142 (s : State) (id : Nat) : Rat := (par s id : Rat) / 4
def s16 (s : State) (id : Nat) : Rat := (signedOf 16 (par s id) : Rat)
def psi (s : State) : Rat := u14 s msdPsi
def inertia (s : State) : Rat := (par s msdJ : Rat) / 65536
def poles (s : State) : Rat := (max 1 (par s msdPolePairs) : Nat)
def twoPi : Rat := 2 * Config.pi
/-- rpm as rad/s. -/
def rpm (x : Rat) : Rat := x * twoPi / 60
def vdcNow (s : State) : Rat := sigVal s 0x40 + sigVal s 0x41
def mRun (s : State) : Bool := (lane s .m).st == .running
def dRun (s : State) : Bool := (lane s .d).st == .running
/-- Plane M is RUNNING and no PLANE_STOP ramps it down, from whose command on it counts as leaving (R241). -/
def mHolds (s : State) : Bool := mRun s && (lane s .m).stopping.isNone
/-- SPEED is the law in force (R222). -/
def speedLaw (s : State) : Bool := decide (par s msdLaw = 0)
/-- The exhaustion of MSD.STATE: 0 none, 1 low, 2 high. -/
def exhausted (s : State) : Nat := parBits s msdState 4 2
def sixOn (s : State) : Bool := parBit s msdState 3
/-- Plane D owns V_DC (R236). -/
def dOwns (s : State) : Bool := parBit s msdState 6

/-! ## Feedback (R223) -/

/-- The encoder in use, if any. -/
def encoderOf (s : State) : Option Nat :=
  if s.msd.fallback then none else match par s msdFeedback with | 1 => some 0 | 2 => some 1 | _ => none

/-- I/f starts below SL_FMIN, ramps, and ends at 1.2 × SL_FMIN. -/
def ifStep (o : OuterIn) (s : State) : State :=
  let low := u124 s msdSlFmin
  if !mRun s ∨ (encoderOf s).isSome then setParBit msdState 2 false (updMsd (fun m => { m with ifF := 0 }) s)
  else if parBit s msdState 2 then
    let d := (max 1 (par s msdIfRate) : Nat) * outerSec s
    let f := if s16 s msdSpeedSet < 0 then s.msd.ifF - d else s.msd.ifF + d
    setParBit msdState 2 (decide (absR f < 6 / 5 * low)) (updMsd (fun m => { m with ifF := f }) s)
  else if absR o.fObs < low then setParBit msdState 2 true (updMsd (fun m => { m with ifF := o.fObs }) s)
  else s

/-- The rotor's electrical angle at S_k_j and its frequency, from the source in force. -/
def rotor (o : OuterIn) (s : State) : Rat × Rat :=
  match encoderOf s with
  | some n =>
    let x := o.enc.getD n (0, 0)
    (wrapTurn (x.1 * poles s + (par s (msdEncOffset n) : Rat) / 2 ^ 32), x.2 * poles s)
  | none => if parBit s msdState 2 then (s.msd.theta, s.msd.ifF) else (o.thObs, o.fObs)

/-- ENC_LOST (R223). -/
def encLost (n : Nat) (s : State) : State :=
  if encoderOf s ≠ some n then s
  else
    let s1 := raiseFlag msdFlags 0 n s
    if !s1.isl.app then s1
    else if par s msdEncFallback = 1 ∧ u124 s msdSlFmin ≤ absR ((lane s .m).ref.f) then updMsd (fun m => { m with fallback := true }) s1
    else campionStop .m s1

def execEncLost (n : Nat) (s : State) : Host.Outcome State Fault Refusal :=
  .next (if n < 2 then encLost n s else s)

/-! ## The energy account (R235 to R240) -/

/-- The means of R235 over the samples since the previous boundary. -/
def meanG (s : State) : Rat := divF s 12 s.sums.g s.sums.n
def meanD (s : State) : Rat := divF s 13 s.sums.d s.sums.n
def meanB (s : State) : Rat := divF s 14 s.sums.b s.sums.n

/-- ω_ref moves toward SPEED_SET at DW_MAX, and never more than half the band, BAND · ω_ref, from ω (R235). -/
def nextRef (w : Rat) (s : State) : Rat :=
  let x := approach (rpm (par s msdDwMax) * outerSec s) s.msd.wRef (rpm (s16 s msdSpeedSet))
  let h := u88 s msdBand / 100 * absR x
  clampR (w - h) (w + h) x

/-- ω_min and ω_max, as magnitudes. -/
def bandOf (s : State) : Rat × Rat :=
  let r := absR s.msd.wRef
  let b := u88 s msdBand / 100
  (r * (1 - b), min (r * (1 + b)) (rpm (par s msdSpeedMax)))

/-- E_down and E_up, J. -/
def energies (w : Rat) (s : State) : Rat × Rat :=
  let b := bandOf s
  let h := inertia s / 2
  (max 0 (h * (w * w - b.1 * b.1)), max 0 (h * (b.2 * b.2 - w * w)))

/-- Speed, ω_ref, P̂_load and their readbacks. -/
def accountMeasure (o : OuterIn) (w : Rat) (s : State) : State :=
  let dw := match s.msd.w with | some p => divF s 15 (w - p) (outerSec s) | none => 0
  let x := o.pAg - inertia s * w * dw
  let k := min 1 (outerSec s * 1000 / (max 1 (par s msdTLoad) : Nat))
  let ld := s.msd.load + k * (x - s.msd.load)
  let s1 := updMsd (fun m => { m with w := some w, wRef := nextRef w s, load := ld }) s
  let e := energies w s1
  let kj (x : Rat) : Nat := (clampI 0 (2 ^ 32 - 1) (roundAway (x / 1000))).toNat
  setPar msdPLoad (toBits 16 (clampI (-32768) 32767 (roundAway (ld / 1000))))
    (setPar msdEUp (kj e.2) (setPar msdEDown (kj e.1)
      (setPar msdSpeed (toBits 32 (clampI (-2147483648) 2147483647 (roundAway (w * 60 / twoPi * 256)))) s1)))

/-- The account acts: SPEED, and |F| at or above FF_FMIN (R235). -/
def accountOn (f : Rat) (s : State) : Bool := speedLaw s && decide (u124 s msdFfFmin ≤ absR f)

/-- Exhaustion (R240); each declaration raises BAND_EDGE. -/
def exhaustion (f w : Rat) (s : State) : State :=
  if !accountOn f s then setParBits msdState 4 2 0 (setParBit msdState 0 false s)
  else
    let s1 := setParBit msdState 0 true s
    let b := bandOf s1
    let h := u88 s1 msdBandHys / 100 * absR s1.msd.wRef
    let a := absR w
    let declare (x : Nat) : State := raiseFlag msdFlags 1 x (setParBits msdState 4 2 x s1)
    match exhausted s1 with
    | 1 => if b.1 + h ≤ a then (if b.2 ≤ a then declare 2 else setParBits msdState 4 2 0 s1) else s1
    | 2 => if a ≤ b.2 - h then (if a ≤ b.1 then declare 1 else setParBits msdState 4 2 0 s1) else s1
    | _ => if a ≤ b.1 then declare 1 else if b.2 ≤ a then declare 2 else s1

/-- P_V of R236 and its integral. -/
def vdcLoop (s : State) : Rat × Rat :=
  let ref : Rat := par s msdVdcRef
  let bw := twoPi * (par s msdVdcBw : Nat)
  let kp := (par s msdDcCap : Rat) / 1000000 * ref * bw
  let e := vdcNow s - ref
  let i := s.msd.vInt + e * outerSec s
  (kp * e + kp * bw / 4 * i, i)

/-- P_rec of R237 and its integral, which stands while a clamp acts. -/
def recovery (w : Rat) (s : State) : Rat × Rat :=
  let t := max 1 (u88 s msdTRec)
  let e := s.msd.wRef - w
  let i := s.msd.recInt + e * outerSec s
  let jw := inertia s * w
  let raw := jw * (e / t + i / (4 * t * t))
  let lim := min ((par s msdRecPmax : Rat) * 1000) (absR jw * rpm (par s msdDwMax))
  let p := clampR (-lim) lim raw
  (p, if p = raw then i else s.msd.recInt)

/-- Who owns V_DC: plane M, plane D, or none (R236). -/
inductive Owner where
  | planeM | planeD | nobody
  deriving DecidableEq, Repr

def ownerOf (s : State) : Owner :=
  if dRun s ∧ (par s ctlDOuter = 1 ∨ exhausted s ≠ 0) then .planeD
  else if exhausted s ≠ 0 then .nobody
  else if mHolds s ∧ speedLaw s then .planeM
  else if mRun s ∧ dRun s then .planeD
  else .nobody

/-- The torque that T_SET asks for (R224). -/
def torqueSet (s : State) : Rat := clampR (-(par s msdTMax : Rat)) (par s msdTMax) (s16 s msdTSet)

/-- P_M,T of R236, by its first row that holds; `w` is the mechanical speed. -/
def machinePower (pv prec w : Rat) (s : State) : Rat :=
  if dRun s ∧ (par s ctlDOuter = 1 ∨ exhausted s ≠ 0) then s.msd.load + prec
  else if exhausted s ≠ 0 then s.msd.load
  else if speedLaw s then -(1 - usedWeight s .m) * meanG s - meanD s - meanB s + pv
  else torqueSet s * w

/-- The owner shows in MSD.STATE; NO_VDC_OWNER is raised once for an exhaustion without plane D. -/
def noteOwner (s : State) : State :=
  let o := ownerOf s
  let none' := o == .nobody && decide (exhausted s ≠ 0)
  let s1 := setParBit msdState 6 (o == .planeD) (updMsd (fun m => { m with noOwner := none' }) s)
  if none' ∧ !s.msd.noOwner then raiseFlag msdFlags 4 0 s1 else s1

/-- H_ACT (R238). -/
def setInertia (f w : Rat) (s : State) : State :=
  let put (x : Rat) : State := setPar gfmHAct (clampI 0 65535 (roundAway (x * 4096))).toNat s
  let h : Rat := (par s gfmH : Rat) / 4096
  if !accountOn f s then put h
  else
    let o := ownerOf s
    let am : Rat := if o = .planeM then 1 - usedWeight s .d else 0
    let ad : Rat := match o with | .planeM => usedWeight s .d | .planeD => 1 | .nobody => 0
    if exhausted s ≠ 0 ∨ (am ≤ 0 ∧ ad ≤ 0) then put (1 / 2)
    else
      let e := energies w s
      let low (xs : List Rat) : Rat := xs.tail.foldl min (xs.headD 0)
      let es := (if 0 < am then [min e.1 e.2 / am] else []) ++
        (if 0 < ad then [(min (par s ctlDEDis) (par s ctlDEChg) : Nat) * 1000 / ad] else [])
      let ps := (if 0 < am then [inertia s * absR w * rpm (par s msdDwMax) / am] else []) ++
        (if 0 < ad then [(min (par s ctlDPDisMax) (par s ctlDPChgMax) : Nat) * 1000 / ad] else [])
      let he := divF s 16 (low es) (2 * sBase s * ((par s msdDfDesign : Rat) / 1000 / fNom s))
      let hp := divF s 17 (low ps) (2 * sBase s * ((par s msdRocofDesign : Rat) / 1000 / fNom s))
      put (max (1 / 2) (min h (min he hp)))

/-- GFM.P_SET under SPEED, and its release after plane M has left RUNNING or its PLANE_STOP has been commanded (R237, R241). -/
def writePSet (prec : Rat) (s : State) : State :=
  let w (p : Rat) (s : State) : State :=
    setPar gfmPSet (toBits 16 (roundAway (clampR (-3 / 2) (3 / 2) (divF s 18 p (sBase s)) * 16384))) s
  if mHolds s ∧ speedLaw s then setParBit msdState 7 true (w (-(s.msd.load + prec + s.msd.pdSet)) s)
  else if parBit s msdState 7 then
    setParBit msdState 7 false (if (lane s .g).st = .running then w (-s.msd.pdSet) s else s)
  else s

/-- DC_LOW after two boundaries (R240). -/
def dcLow (s : State) : State :=
  let v := par s msdVdcLow
  if v = 0 then updMsd (fun m => { m with low := 0 }) s
  else
    let n := if vdcNow s < v then s.msd.low + 1 else 0
    let s1 := updMsd (fun m => { m with low := min 3 n }) s
    if n = 2 then
      let s2 := raiseFlag msdFlags 2 0 s1
      match par s msdLowAction with
      | 1 => setBrk 0 false s2
      | 2 => campionStop .g s2
      | _ => s2
    else s1

/-! ## Plane M (R222 to R227) -/

/-- i_q, i_d and the stator voltages of R224 at an electrical frequency. -/
def stator (s : State) (f id iq : Rat) : Rat × Rat :=
  let we := twoPi * f
  let rs := u88 s msdRs / 1000
  let ld := u124 s msdLd / 1000000
  let lq := u124 s msdLq / 1000000
  (rs * id - we * lq * iq, rs * iq + we * (ld * id + psi s))

/-- The torque demand (R224). -/
def torque (w : Rat) (s : State) : Rat :=
  let lim : Rat := par s msdTMax
  let fl := twoPi * u124 s msdFfFmin / poles s
  let wm := if absR w < fl then (if w < 0 then -fl else fl) else w
  if speedLaw s then clampR (-lim) lim (divF s 19 s.msd.pmt wm) else torqueSet s

/-- |v| of a pair, exact at 0. -/
def pairMag (v : Rat × Rat) : Rat := if v.1 = 0 ∧ v.2 = 0 then 0 else Config.sqrt (v.1 * v.1 + v.2 * v.2)

/-- The integral term of i_d: 0.1 A per volt of excess over 0.95 V_DC/√3 at each boundary, within [−ILIM, 0] (R224). -/
def fieldWeaken (v : Rat × Rat) (s : State) : State :=
  let ex := pairMag v - 19 / 20 * vdcNow s / Config.sqrt3
  updMsd (fun m => { m with idCut := clampR (-(lane s .m).entry.ilim) 0 (m.idCut - ex / 10) }) s

/-- A write of Campion into plane M's mask block, in force at the next strobe like every BOUNDARY word (R151). -/
def writeMask (id v : Nat) (s : State) : State := { s with wait := s.wait ++ [(id, BitVec.ofNat 32 v)] }

/-- An angle in turns as MASK_OFS holds it (R7). -/
def angleWord (x : Rat) : Nat := (wrapTurn x * 2 ^ 32).floor.toNat % 2 ^ 32

/-- The current the machine model predicts for a voltage in the rotor frame (R227). -/
def modelCurrent (f : Rat) (v : Rat × Rat) (s : State) : Rat × Rat :=
  let we := twoPi * f
  let rs := u88 s msdRs / 1000
  let ld := u124 s msdLd / 1000000
  let lq := u124 s msdLq / 1000000
  let q := v.2 - we * psi s
  let det := rs * rs + we * we * ld * lq
  (divF s 20 (v.1 * rs + we * lq * q) det, divF s 21 (rs * q - we * ld * v.1) det)

/-- SIXSTEP at a boundary (R227): the state after, and what REF_DQ and VFF_DQ become when six-step decides them. -/
def sixStep (o : OuterIn) (f : Rat) (v : Rat × Rat) (s : State) : State × Option (Rat × Rat) × Option (Rat × Rat) :=
  let full := 2 / Config.pi * vdcNow s
  let mag := pairMag v
  let fund (dv : Rat) : Rat × Rat := (full * cosT dv, full * sinT dv)
  if !(decide (par s msdSixEn = 1) && decide (par s ctlMPhases = 0)) then (s, none, none)
  else if sixOn s then
    if mag < u15 s msdSixOff * full then
      (writeMask (modMaskCtrl 1) 0x00A (setParBit msdState 3 false (updMsd (fun m => { m with sixN := 0 }) s)), none,
        some (fund s.msd.dv))
    else
      let lim : Rat := 2 / 360
      let d := clampR (-lim) lim (u88 s msdSixKd * (s.msd.pmt - o.pAg) / 1000000 / 360)
      let dv := s.msd.dv + d
      (writeMask (modMaskOfs 1) (angleWord (-(1 / 12) - dv)) (updMsd (fun m => { m with dv := dv }) s),
        some (modelCurrent f (fund dv) s), none)
  else if 2 ≤ s.msd.sixN then
    let dv := Config.angleTurn v.1 v.2
    (writeMask (modMaskCtrl 1) 0x00B (writeMask (modMaskOfs 1) (angleWord (-(1 / 12) - dv))
      (setParBit msdState 3 true (updMsd (fun m => { m with dv := dv }) s))), some (modelCurrent f (fund dv) s), none)
  else
    (updMsd (fun m => { m with sixN := if u15 s msdSixOn * full ≤ mag then m.sixN + 1 else 0 }) s, none, none)

/-- FF_GAIN and FF_SCALE of plane M (R225, R239). -/
def mGain (f : Rat) (s : State) : State :=
  let g := if absR f < u124 s msdFfFmin then 0 else divF s 22 1 (3 / 2 * twoPi * f * psi s)
  let off := !speedLaw s || sixOn s || decide (absR f < u124 s msdFfFmin) || decide (exhausted s ≠ 0) || dOwns s
  setPar (ctlFfScale 1) (if off then 0 else 0x8000)
    (setPar (ctlFfGain 1) (toBits 32 (clampI (-2147483648) 2147483647 (roundAway (g * 2 ^ 28)))) s)

/-- Plane M's group at a boundary. During an I/f start the current is IF_CUR in the ramped frame, without i_q and slip (R223, R224). -/
def mGroup (o : OuterIn) (th f w : Rat) (s : State) : State :=
  let k := (sampleK s + 2 * outerN s) % 2 ^ 48
  if !mRun s then
    let t := wrapTurn (th + f * 2 * outerSec s)
    writeGroup .m { freq := (roundFb f 0).1, theta := t, mark := k } (setParBit msdState 3 false
      (updMsd (fun m => { m with theta := t, idCut := 0, sixN := 0 }) s))
  else
    let im := decide (par s msdMachine = 1)
    let start := parBit s msdState 2
    let id := if start then u142 s msdIfCur else (if im then u142 s msdImId else 0) + s.msd.idCut
    let iq := if start then 0 else divF s 28 (torque w s) (3 / 2 * poles s * psi s)
    let slip := if im && !start then divF s 29 iq (u88 s msdImTr / 1000 * id) / twoPi else 0
    let fr := f + slip
    let v := stator s fr id iq
    let s1 := fieldWeaken v s
    let x := sixStep o fr v s1
    let idq := x.2.1.getD (id, iq)
    let vf := x.2.2.getD v
    let t := if im || start then wrapTurn (s1.msd.theta + fr * outerSec s1) else wrapTurn (th + fr * 2 * outerSec s1)
    writeGroup .m { d := idq.1, q := idq.2, vd := vf.1, vq := vf.2, freq := (roundFb fr 0).1, theta := t, mark := k }
      (mGain fr (updMsd (fun m => { m with theta := t }) x.1))

/-! ## Plane D (R228 to R230) -/

/-- D.VS lies within its window. -/
def vsInside (s : State) : Bool :=
  decide ((par s ctlDVsMin : Rat) ≤ sigVal s 0x36) && decide (sigVal s 0x36 ≤ (par s ctlDVsMax : Rat))

/-- Plane D's setpoint, support, gain and group. -/
def dStep (pv : Rat) (s : State) : State :=
  let k := (sampleK s + 2 * outerN s) % 2 ^ 48
  if !dRun s then writeGroup .d { mark := k } (updMsd (fun m => { m with pdSet := 0 }) s)
  else
    let pg := meanG s
    let t := max 100 (par s ctlDTSupport)
    let slow := s.msd.pSlow + min 1 (outerSec s * 1000 / (t : Nat)) * (pg - s.msd.pSlow)
    let step := (par s ctlDPRate : Rat) * 1000 * outerSec s
    let inW := vsInside s
    let pd := if inW then clampR (-(par s ctlDPDisMax : Rat) * 1000) ((par s ctlDPChgMax : Rat) * 1000)
      (approach step s.msd.pdSet (s16 s ctlDPSet * 1000)) else 0
    let gain := 1 / max 100 (sigVal s 0x36)
    let dir := pg - slow
    let empty := (decide (0 < dir) && decide (par s ctlDEDis = 0)) || (decide (dir < 0) && decide (par s ctlDEChg = 0))
    let dc := par s ctlDOuter = 1
    let own := dOwns s
    let off := dc || !inW || empty
    let i := if dc || own then gain * (s16 s ctlDPSet * 1000 + pv) else gain * (pd + usedWeight s .d * slow)
    writeGroup .d { scalar := i, mark := k }
      (setPar (ctlFfScale 2) (if off then 0 else 0x8000)
        (setPar (ctlFfGain 2) (toBits 32 (clampI (-2147483648) 2147483647 (roundAway (gain * 2 ^ 28))))
          (updMsd (fun m => { m with pSlow := slow, pdSet := pd }) s)))

/-! ## Plane B (R233, R234) -/

/-- The conditions of the DC operations. -/
def dcFits (pre : Bool) (s : State) : Bool :=
  (lane s .b).st == .running && !([Plane.g, .m, .d].any fun p => (lane s p).st == .running) &&
    (!pre || (decide (par s ctlBAux = 0) && sigOk s 0x36))

def dcBody (op : Nat) (e : Env) (p : PPay) (_h : Nat) (s : State) : State × Ans :=
  if p.resv ≠ 0 ∨ p.code ≠ 3 then refuse stBadParam s
  else if dcFits (decide (op = 0x0021)) s then
    accepted op e (fun s => if op = 0x0022 then setPar ctlBAux 2 s else s) s
  else refuse stWrongState s

def execDcPrecharge (e : Env) (p : PPay) (s : State) : Host.Outcome State Fault Refusal :=
  .next (serveLong 1 0x0021 e (dcBody 0x0021 e p) s)
def execDcDischarge (e : Env) (p : PPay) (s : State) : Host.Outcome State Fault Refusal :=
  .next (serveLong 1 0x0022 e (dcBody 0x0022 e p) s)

/-- Complete every operation of an opcode. -/
def completeOps (op st cause : Nat) (s : State) : State := (opsOf s op).foldl (fun s h => complete h st cause [] s) s

/-- CTL.B.PRE_TIME passes (R233). -/
def execPreFail (s : State) : Host.Outcome State Fault Refusal :=
  .next (if (opsOf s 0x0021).isEmpty then s else raiseFlag msdFlags 3 0 (completeOps 0x0021 stCancelled cTimeout s))

/-- DC_DISCHARGE ends: AUX [1] is cleared. -/
def endDischarge (st cause : Nat) (s : State) : State :=
  if (opsOf s 0x0022).isEmpty then s else completeOps 0x0022 st cause (setParBit ctlBAux 1 false s)

/-- CTL.B.DIS_TIME passes (R234). -/
def execDisTime (s : State) : Host.Outcome State Fault Refusal := .next (endDischarge stCancelled cTimeout s)

/-- Boundaries in 10 ms. -/
def past10 (s : State) : Nat := (1 / 100 / max (1 / 1000000) (outerSec s)).ceil.toNat

/-- Precharge and discharge at a boundary. -/
def bStep (s : State) : State :=
  let v := vdcNow s
  let n := past10 s
  let old := s.msd.vdc.getD (n - 1) v
  let enough := decide (n ≤ s.msd.vdc.length)
  let s1 := updMsd (fun m => { m with vdc := (v :: m.vdc).take (n + 1) }) s
  let s2 := if !(opsOf s1 0x0021).isEmpty && decide (u15 s ctlBPreFrac * sigVal s 0x36 ≤ v) && enough &&
      decide (v - old < sigVal s 0x36 / 100) then
      completeOps 0x0021 stOk cNone (setParBit ctlBAux 0 true s1)
    else s1
  let s3 := if v < (par s ctlBDisV : Nat) then endDischarge stOk cNone s2 else s2
  if (lane s3 .b).st = .safe then campionStop .d s3 else s3

/-! ## The boundary -/

/-- Planes M, D and B and the account at an outer boundary. -/
def mBoundary (o : OuterIn) (s : State) : State :=
  let s0 := ifStep o (setParBit msdState 1 (encoderOf s).isNone s)
  let r := rotor o s0
  let w := twoPi * r.2 / poles s0
  let s1 := noteOwner (exhaustion r.2 w (accountMeasure o w s0))
  let pv := vdcLoop s1
  let pr := if accountOn r.2 s1 then recovery w s1 else (0, 0)
  let own := decide (ownerOf s1 ≠ .nobody)
  let s2 := updMsd (fun m => { m with
    vInt := if own then pv.2 else 0, recInt := pr.2, pmt := machinePower (if own then pv.1 else 0) pr.1 w s1, pGrid := meanG s1 }) s1
  let s3 := dStep pv.1 s2
  let s4 := writePSet pr.1 (setInertia r.2 w (mGroup o r.1 r.2 w s3))
  dcLow (bStep s4)

end Sys2Proof.Machine
end

