-- ==== Sys2Proof/Machine/Image.lean ====
section
/-! DEFINITION. Sys2Proof/Machine/Image.lean: firmware slots, manifests and the validity of an image (R386 to R392), and the config
hash and module ID (R380, R411). -/

namespace Sys2Proof.Machine

def updFw (f : Fw → Fw) (s : State) : State := { s with fw := f s.fw }

/-- Slot 0 is A, slot 1 is B. -/
def slotOf (s : State) (n : Nat) : FwSlot := if n = 0 then s.fw.slotA else s.fw.slotB

def updSlotFw (n : Nat) (f : FwSlot → FwSlot) (s : State) : State :=
  updFw (fun w => if n = 0 then { w with slotA := f w.slotA } else { w with slotB := f w.slotB }) s

/-- A byte of a slot that nothing has written reads 0 (log entry 30). -/
def flashByte (x : FwSlot) (off : Nat) : Byte := tabGet (fun _ => 0) x.flash off

/-- Bytes of a slot. -/
def flashBytes (x : FwSlot) (off n : Nat) : List Byte := (List.range n).map fun i => flashByte x (off + i)

/-- Write bytes of a slot. -/
def flashWrite (off : Nat) (bs : List Byte) (x : FwSlot) : FwSlot :=
  { x with flash := (bs.foldl (fun (a : Nat × Tab Byte) b => (a.1 + 1, tabSet (fun _ => 0) a.2 a.1 b)) (off, x.flash)).2 }

/-! ## Manifests (R389) -/

/-- The manifest of a slot. -/
def manifest (x : FwSlot) : List Byte := flashBytes x 0 4096

/-- A field of n bytes at an offset. -/
def fieldAt (m : List Byte) (off n : Nat) : Nat := ofLe ((m.drop off).take n)

/-- A component: type, offset, length, SHA-512. -/
structure Comp where
  type : Nat
  off  : Nat
  len  : Nat
  sha  : List Byte
  deriving DecidableEq, Repr

/-- The component entries in use. -/
def comps (m : List Byte) : List Comp :=
  (List.range (min 8 (fieldAt m 18 1))).map fun i =>
    let b := 64 + 96 * i
    { type := fieldAt m b 1, off := fieldAt m (b + 4) 4, len := fieldAt m (b + 8) 4, sha := (m.drop (b + 16)).take 64 }

/-- The component of a type. -/
def compOf (m : List Byte) (type : Nat) : Option Comp := (comps m).find? fun c => c.type = type

/-- The image digest (R389). -/
def imageDigest (m : List Byte) : List Byte := (m.drop 832).take 64

/-- The key that a key byte names, when R391 and R392 permit it. -/
def keyOf (s : State) (k : Nat) : Option (List Byte) :=
  if k < 2 then
    if s.fw.revoked.getLsbD k ∨ (par s fwKeyPolicy = 1 ∧ s.fw.life ≠ 0) then none else some (Config.rootKey k)
  else if k = 2 ∧ s.fw.life ≠ 0 then s.fw.owner
  else none

/-- The manifest's signature, key, digest and security version (R389, R390). -/
def manifestOk (s : State) (m : List Byte) : Bool :=
  (match keyOf s (fieldAt m 3 1) with
   | some k => Config.ed25519Verify k (m.take 896) ((m.drop 896).take 64)
   | none => false) &&
    decide (Config.sha512 (m.take 832) = imageDigest m) && decide (s.fw.secVer ≤ fieldAt m 8 4)

/-- A component of a slot matches its SHA-512. -/
def compOk (x : FwSlot) (c : Comp) : Bool := decide (Config.sha512 (flashBytes x c.off c.len) = c.sha)

/-- Every component matches. -/
def compsOk (x : FwSlot) : Bool := (comps (manifest x)).all (compOk x)

/-- The fast-start image of a slot verifies: the manifest and the first four components (R388). -/
def fastStartOk (s : State) (n : Nat) : Bool :=
  let x := slotOf s n
  manifestOk s (manifest x) && ((comps (manifest x)).filter fun c => decide (c.type ≤ 4)).all (compOk x)

/-- TANSY_CORE of a slot, read again, verifies (R419). -/
def coreOk (s : State) (n : Nat) : Bool :=
  let x := slotOf s n
  manifestOk s (manifest x) && ((comps (manifest x)).filter fun c => decide (c.type = 4)).all (compOk x)

/-- The manifest of the running image; empty while none runs. -/
def runManifest (s : State) : List Byte := match s.fw.run with | some n => manifest (slotOf s n) | none => []

/-- The slot that is not running. -/
def otherSlot (s : State) : Nat := match s.fw.run with | some n => 1 - n | none => 0

/-- The running slot is TRIAL. -/
def runTrial (s : State) : Bool := match s.fw.run with | some n => decide ((slotOf s n).st = 2) | none => false

/-- The module ID (R411). -/
def moduleId : List Byte := (Config.sha512 Config.idPub).take 16

/-! ## The config hash (R380) -/

/-- The hashed parameters, in ascending order. -/
def hashedIds : List Nat :=
  [0x0100, 0x0110, 0x0113, 0x0B00, 0x0B03, 0x0B05, 0x1302, 0x1309, 0x130A, 0x130B, 0x130D, 0x130E, 0x130F, 0x1311, 0x1312, 0x1620]

/-- The config hash of the parameters in force; of MOD.G.ILV only [3:0]. -/
def cfgHash (s : State) : List Byte :=
  (Config.sha512 (hashedIds.flatMap fun id => le 2 id ++ le 4 (if id = 0x0B05 then par s id % 16 else par s id))).take 16

/-- FW.SLOT_STATE. -/
def slotStateWord (s : State) : Nat :=
  s.fw.slotA.st + 16 * s.fw.slotB.st + (if s.fw.run = some 1 then 256 else 0) + 512 * (s.fw.slotA.tries % 4) +
    2048 * (s.fw.slotB.tries % 4)

/-- FW.KEYS. -/
def keysWord (s : State) : Nat := s.fw.revoked.toNat + (if s.fw.owner.isSome then 4 else 0)

/-! ## The end of an activation (R405, R406, R410) -/

/-- A copy of the settings, 0 or 1. -/
def copyOf (s : State) (n : Nat) : Option Rec := if n = 0 then s.fw.copy0 else s.fw.copy1

def setCopy (n : Nat) (r : Option Rec) (s : State) : State :=
  updFw (fun f => if n = 0 then { f with copy0 := r } else { f with copy1 := r }) s

/-- Mark the STAGED copy of an activation invalid. -/
def dropStaged (h : Hitless) (s : State) : State :=
  match h.staged with
  | some (n, _) => setCopy n ((copyOf s n).map fun r => { r with valid := false }) s
  | none => s

/-- A group action that this handle carries is over; on OK the member shows APPLIED. -/
def endAct (h st : Nat) (s : State) : State :=
  match s.red.act with
  | some a =>
    if a.handle = h then
      { s with red := { s.red with act := none, shown := if st = stOk then (s.red.shown.1, s.red.shown.2.1, 5, 0) else s.red.shown } }
    else s
  | none => s

/-- A hitless activation ends with a status; one of a group reports its boundary (R383, R410). When the old image has resumed, the slot is PENDING again (R406). -/
def endActivation (st cause : Nat) (s : State) : State :=
  match s.fw.hitless with
  | none => s
  | some h =>
    let s0 := if st = stOk then s else dropStaged h s
    let s1 := updFw (fun f => { f with hitless := none })
      (if h.back then updSlotFw (otherSlot s) (fun x => { x with st := 1, tries := 0 }) s0 else s0)
    let group : Bool := match s.red.act with | some a => decide (a.handle = h.handle) | none => false
    complete h.handle st cause (if group && decide (st = stOk) then le 8 h.kh else []) (endAct h.handle st s1)

end Sys2Proof.Machine
end

