-- ==== Sys2Proof/Machine/Pair.lean ====
section
/-! DEFINITION. Sys2Proof/Machine/Pair.lean: the active/standby pair (R366 to R378): roles, heartbeats, snapshots, FAIL, takeover. -/

namespace Sys2Proof.Machine

def updRed (f : Red → Red) (s : State) : State := { s with red := f s.red }

/-- Betony works while ISL_AON runs. -/
def betony (s : State) : Bool := s.isl.aon

/-- Enter a role state (R366). -/
def setRole (r : Nat) (s : State) : State := updRed (fun x => { x with role := r }) s

def pathOf (s : State) (link : Nat) : Path := if link = 0 then s.red.pathA else s.red.pathB

def updPath (link : Nat) (f : Path → Path) (s : State) : State :=
  updRed (fun r => if link = 0 then { r with pathA := f r.pathA } else { r with pathB := f r.pathB }) s

/-- An event that names a Vorula link. -/
def onLink (n : Nat) (f : State → State) (s : State) : Host.Outcome State Fault Refusal :=
  .next (if n < 2 then f s else s)

/-- A whole Vorula frame (R368): its type, its bytes, and the CRC over both. -/
def frameOf (kind : Nat) (b : List Byte) : List Byte :=
  let f := le 1 kind ++ b
  f ++ le 4 (crc32c f)

/-- A received frame of a type whose CRC holds, with the number of bytes that the type has. -/
def frameIs (kind n : Nat) (b : List Byte) : Bool :=
  decide (fieldAt b 0 1 = kind) && decide (b.length = n + 4) && decide (crc32c (b.take n) = fieldAt b n 4)

/-- A path is up. -/
def anyPath (s : State) : Bool := s.red.pathA.up || s.red.pathB.up

/-- The module's own config hash, as Betony keeps it in COLD. -/
def ownHash (s : State) : Nat := (s.red.coldHash).getD (ofLe (cfgHash s))

/-! ## Snapshots (R370, R371) -/

/-- A quantity as sQ16.16. -/
def q16 (x : Rat) : List Byte := le 4 (toBits 32 (toQ16 x))

/-- A parameter of 16 bits widened to 32 by its sign. -/
def wide16 (s : State) (id : Nat) : List Byte := le 4 (toBits 32 (signedOf 16 (par s id)))

/-- CTL.x.STATE of G, M, D and B. -/
def planeBytes (s : State) : List Byte := allPlanes.flatMap fun p => le 1 (ctlStateWord (lane s p))

/-- GFM.STATE as it reads. -/
def gfmStateWord (s : State) : Nat :=
  parBits s gfmState 0 8 + (if s.pins.brkAux then 256 else 0) + (if s.pins.busPresent then 512 else 0)

/-- The snapshot without its CRC. V2_ref turns from its own frame, which runs at −θ. The time d_c is a free value. -/
def snapBody (s : State) : List Byte :=
  let g := s.gfm
  let m := s.msd
  let v2 := rotPair (-(thetaNow s)) g.v2d g.v2q
  padTo 4092 (le 2 0xB5E7 ++ [1, 0] ++ le 4 s.red.snapSeq ++ le 8 (sampleK s) ++ le 8 (monoNs s) ++
    le 8 (if s.time.servo = 0 then 0 else netNs s) ++ le 4 (Config.freeNat (s.free + 16)) ++ cfgHash s ++
    le 4 (fieldAt (runManifest s) 4 4) ++ planeBytes s ++ le 2 (gfmStateWord s) ++
    le 2 (par s msdState % 256 + 256 * (par s ctlDOuter % 2)) ++ le 4 (angleWord (thetaNow s)) ++
    le 4 (clampI 0 (2 ^ 32 - 1) (roundAway (g.w * fNom s * 65536))).toNat ++ q16 g.w ++ q16 g.eBase ++ q16 g.eDroop ++
    q16 g.pStar ++ q16 ((par s gfmHAct : Rat) / 4096) ++ q16 (g.clip.getD 0) ++ q16 v2.1 ++ q16 v2.2 ++ q16 g.qe ++ q16 g.pe ++
    le 4 (par s gfmVSet) ++ wide16 s gfmQSet ++ wide16 s gfmPSet ++ le 4 (par s gfmFSet) ++ q16 m.wRef ++ q16 (m.w.getD 0) ++
    q16 m.vInt ++ q16 m.recInt ++ q16 (m.pSlow / 1000) ++ q16 (m.load / 1000) ++ q16 (m.pdSet / 1000) ++
    q16 (par s msdEDown) ++ q16 (par s msdEUp) ++ le 1 (exhausted s + (if dOwns s then 4 else 0)))

/-- At the first outer boundary at or after each whole millisecond of T_MONO, Campion writes a snapshot. -/
def writeSnapshot (s : State) : State :=
  let ms := monoNs s / 1000000
  if ms = s.red.snapMs then s
  else
    let b := snapBody s
    updRed (fun r => { r with snapMs := ms, snapSeq := (r.snapSeq + 1) % 2 ^ 32, outSnap := some (0, b ++ le 4 (crc32c b)) }) s

/-- The sQ16.16 field of a snapshot. -/
def snapQ (b : List Byte) (off : Nat) : Rat := ofQ16 (signedOf 32 (fieldAt b off 4))

/-- What R376 restores of a snapshot. -/
def restoredOf (x : Snap) : Restored :=
  let b := x.bytes
  let th : Rat := (fieldAt b 64 4 : Rat) / 2 ^ 32
  let v := rotPair th (snapQ b 96) (snapQ b 100)
  { dc := fieldAt b 32 4, da := x.da, cr := x.cr, th := th, f := (fieldAt b 68 4 : Rat) / 65536, w := snapQ b 72, eBase := snapQ b 76,
    eDroop := snapQ b 80, pStar := snapQ b 84, hAct := snapQ b 88, clip := snapQ b 92, v2d := v.1, v2q := v.2,
    qe := snapQ b 104, pe := snapQ b 108 }

/-- The newest snapshot whose age is at most RED.SNAP_AGE_MAX (R376). -/
def youngSnap (c : Nat) (s : State) : Option Snap :=
  s.red.snaps.find? fun x => decide (elapsedNs (restoredOf x) c s ≤ (par s redSnapAgeMax : Rat) * 1000000)

/-! ## Heartbeats and FAIL (R368, R369, R372, R373) -/

/-- The health field of a heartbeat. -/
def healthWord (s : State) : Nat :=
  let i := s.isl
  (if i.ctl && i.app && i.sys && i.acq then 1 else 0) + 2 * (par s protBrkCtrl % 2) +
    (if (lane s .g).st == .running && decide (gLaw s = 0) then 4 else 0) + (if s.pins.busPresent then 8 else 0)

/-- A frame leaves on both links. -/
def bothLinks (kind : Nat) (b : List Byte) (s : State) : State :=
  emit (.vorula 1 kind (frameOf kind b)) (emit (.vorula 0 kind (frameOf kind b)) s)

/-- The FAIL frame. -/
def failFrame (c : Nat) (s : State) : State := bothLinks 3 (le 1 c ++ le 2 s.red.hbSeq) s

/-- Sorrel reports a cause of R373; an ACTIVE module answers it with FAIL at the next frame boundary. -/
def requestFail (c : Nat) (s : State) : State :=
  if s.red.role = 1 then updRed (fun r => { r with failReq := r.failReq.orElse fun _ => some c }) s else s

/-- The frame boundary at which an ACTIVE module sends FAIL; that ISL_PRT has stopped Betony sees itself. -/
def sendFail (s : State) : State :=
  let c := s.red.failReq.orElse fun _ => if s.isl.prt then none else some 5
  match c with
  | some c =>
    if s.red.role = 1 ∧ betony s then
      raiseFlag redEvents 6 c (failFrame c (updRed (fun r => { r with role := 5, failReq := none, failing := some c }) s))
    else s
  | none => s

def execFail (s : State) : Host.Outcome State Fault Refusal := .next (sendFail s)

/-- CLK_AON is calibrated over n periods of 100 µs that end at a count of it; after 1 s the result is reported (R369). -/
def calibrate (tick : Bool) (n aon : Nat) (s : State) : State :=
  let fresh : State := updRed (fun r => { r with cal := some { tick := tick, a0 := aon } }) s
  match s.red.cal with
  | some c =>
    if c.tick = tick then
      let n := c.n + n
      if 10000 ≤ n then
        let hz : Rat := divF s 19 (((aon : Int) - c.a0 : Int) * 10000) n
        setPar redAonRate (toBits 32 (roundAway ((hz - 32000000) / 32000000 * 100000000)))
          (updRed (fun r => { r with calibrated := true, cal := some { tick := tick, a0 := aon } }) s)
      else updRed (fun r => { r with cal := some { c with n := n } }) s
    else fresh
  | none => fresh

/-- The HB of a slot on each link, or the FAIL that is repeated in its place (R368, R369). -/
def sendHb (s : State) : State :=
  match s.red.failing with
  | some c => failFrame c s
  | none =>
    let r := s.red
    bothLinks 1 (le 1 r.role ++ le 2 r.hbSeq ++ le 2 (healthWord s) ++ le 4 r.sent ++ (le 16 (ownHash s)).take 4)
      (updRed (fun x => { x with hbSeq := (x.hbSeq + 1) % 65536 }) s)

/-- The next fragment of a snapshot, with d_a in fragment 7 (R368, R370). -/
def sendFragment (da : Nat) (s : State) : State :=
  match s.red.outSnap with
  | none => s
  | some (i, b) =>
    let seq := fieldAt b 4 4
    let f := le 1 i ++ le 4 seq ++ le 4 (if i = 7 then da else 0) ++ (b.drop (512 * i)).take 512
    bothLinks 2 f (updRed (fun x => { x with
      outSnap := if i < 7 then some (i + 1, b) else none, sent := if i < 7 then x.sent else seq }) s)

/-- One slot of 100 µs: an HB or a FAIL on each link, then at most one fragment. `da` is the d_a measured for a fragment 7, `aon` the
count of CLK_AON in the slot, and `edge` its count at the tick, against which it is calibrated while ISL_PRT runs. -/
def heartbeatSend (da aon edge : Nat) (s0 : State) : State :=
  if !betony s0 then s0
  else
    let s := updRed (fun x => { x with aon := aon }) s0
    sendFragment da (sendHb (if s.isl.prt then calibrate true 1 edge s else s))

def execHeartbeatSend (da aon edge : Nat) (s : State) : Host.Outcome State Fault Refusal := .next (heartbeatSend da aon edge s)

/-- Missed windows of a path, if any; eight consecutive ones take it down (R372), and with both down a standby may see SPLIT (R374). -/
def countMisses (link n : Nat) (s : State) : State :=
  if n = 0 then s
  else
    let s1 := countN (if link = 0 then redHbMissA else redHbMissB) n
      (updPath link (fun p => { p with miss := p.miss + n, good := 0 }) s)
    if (pathOf s1 link).up ∧ 8 ≤ (pathOf s1 link).miss then
      splitCheck (raiseFlag redEvents 0 link (updPath link (fun p => { p with up := false }) s1))
    else s1

/-- A valid frame counts for its path, which is up again after four (R372). -/
def pathGood (link : Nat) (s : State) : State :=
  let s1 := updPath link (fun p => { p with miss := 0, good := min 4 (p.good + 1) }) s
  if !(pathOf s1 link).up ∧ (pathOf s1 link).good = 4 then
    raiseFlag redEvents 1 link (updRed (fun r => { r with split := false }) (updPath link (fun p => { p with up := true }) s1))
  else s1

/-- What an HB says of the partner: roles that clash, hashes that differ, and the end of a repeated FAIL. -/
def takeHb (h : Hb) (s : State) : State :=
  let old := s.red.partner
  let own := ownHash s % 2 ^ 32
  let activeNow := decide (h.role = 1) || decide (h.role = 4)
  let was : Bool := match old with | some x => decide (x.role = h.role) | none => false
  let agreed : Bool := match old with | some x => decide (x.hash = own) | none => true
  let s1 := updRed (fun r => { r with
    partner := some h, failing := if activeNow then none else r.failing,
    winHb := r.winHb || r.window, winAct := r.winAct || (r.window && activeNow) }) s
  let s2 := if s.red.role = 1 ∧ h.role = 1 ∧ !was then raiseFlag redEvents 7 0 s1 else s1
  if h.hash ≠ own ∧ agreed then raiseFlag redEvents 8 0 s2 else s2

/-- A frame received on a link at a count of CLK_AON, after some windows without a valid one: an HB, a FAIL, or an HB whose CRC fails.
While ISL_PRT does not run, CLK_AON is calibrated against the partner's heartbeats, by their sequence (R369). -/
def heartbeatReceive (link missed aon : Nat) (b : List Byte) (s : State) : State :=
  if !betony s then s
  else
    let s1 := countMisses link missed s
    if frameIs 1 14 b then
      let h : Hb := { role := fieldAt b 1 1, seq := fieldAt b 2 2, health := fieldAt b 4 2, snap := fieldAt b 6 4, hash := fieldAt b 10 4 }
      let n := match s.red.partner with | some x => (h.seq + 65536 - x.seq) % 65536 | none => 0
      takeHb h (pathGood link (if s.isl.prt then s1 else calibrate false n aon s1))
    else if frameIs 3 4 b then updRed (fun r => { r with failSeen := true, winHb := r.winHb || r.window }) (pathGood link s1)
    else if fieldAt b 0 1 = 1 then countMisses link 1 s1
    else s1

def execHeartbeatReceive (link missed : Nat) (f : LinkFrame) (s : State) : Host.Outcome State Fault Refusal :=
  onLink link (heartbeatReceive link missed f.aon f.bytes) s

/-- Windows of a path without a valid frame. -/
def pathDown (link missed : Nat) (s : State) : State := if betony s then countMisses link missed s else s

def execPathDown (link missed : Nat) (s : State) : Host.Outcome State Fault Refusal := onLink link (pathDown link missed) s

/-- A whole snapshot: kept with d_a and c_r when its CRC holds, and two are kept; else SNAP_BAD (R370). -/
def keepSnap (b : List Byte) (s : State) : State :=
  if s.red.snaps.any (fun x => fieldAt x.bytes 4 4 = fieldAt b 4 4) then s
  else if crc32c (b.take 4092) = fieldAt b 4092 4 then
    updRed (fun r => { r with snaps := ({ bytes := b, da := r.inTime.1, cr := r.inTime.2 } :: r.snaps).take 2 }) s
  else raiseFlag redEvents 9 0 (count redSnapBadCnt s)

/-- A SNAP frame from either link, whose CRC holds (R368, R370); `aon` is the count of CLK_AON at its start. -/
def snapFragment (aon : Nat) (b : List Byte) (s : State) : State :=
  let i := fieldAt b 1 1
  let seq := fieldAt b 2 4
  if !betony s || !frameIs 2 522 b || decide (8 ≤ i) then s
  else
    let old := match s.red.inSnap with | some (q, l) => if q = seq then l else [] | none => []
    let new := !old.any fun x => decide (x.1 = i)
    let l := if new then (i, (b.drop 10).take 512) :: old else old
    let s1 := updRed (fun r => { r with inTime := if new ∧ i = 7 then (fieldAt b 6 4, aon) else r.inTime }) s
    if (List.range 8).all fun j => l.any fun x => x.1 = j then
      keepSnap ((List.range 8).flatMap fun j => match l.find? fun x => x.1 = j with | some x => x.2 | none => [])
        (updRed (fun r => { r with inSnap := none }) s1)
    else updRed (fun r => { r with inSnap := some (seq, l) }) s1

/-- The bytes of a SNAP frame: type, fragment, sequence, d_a, and the snapshot's bytes with the CRC (R368). -/
def snapFrame (part seq da : Nat) (data : List Byte) : List Byte := le 1 2 ++ le 1 part ++ le 4 seq ++ le 4 da ++ data

def execSnapFragment (link part seq da aon : Nat) (data : List Byte) (s : State) : Host.Outcome State Fault Refusal :=
  onLink link (snapFragment aon (snapFrame part seq da data)) s

/-! ## Roles (R366, R421) -/

/-- 2 ms after the settings load: the role from RED.ROLE and what the partner showed in the window. -/
def roleWindow (s : State) : State :=
  if !s.red.window || !betony s then s
  else
    let s1 := updRed (fun r => { r with window := false }) s
    match par s redRole with
    | 1 =>
      if s.red.winAct then raiseFlag redEvents 7 0 (setRole 2 s1)
      else if s.red.winHb then setRole 1 s1
      else raiseFlag redEvents 10 0 (setRole 1 s1)
    | 2 => splitCheck (setRole 2 s1)
    | _ => setRole 0 s1

def execRoleWindow (s : State) : Host.Outcome State Fault Refusal := .next (roleWindow s)

/-! ## Takeover (R374 to R377) -/

/-- A step of the takeover cannot be completed. -/
def execTakeFail (step : Nat) (s : State) : Host.Outcome State Fault Refusal := .next (takeFails step s)

/-- PLANE_ENABLE and PLANE_ARM for one plane, without a handle. -/
def giveArm (p : Plane) (s : State) : State × Bool :=
  let s1 := if (lane s p).st = .off ∧ enableStatus p s = stOk then doEnable p s else s
  if (lane s1 p).st = .ready then (s1, true)
  else if armStatus p s1 = stOk then (updLane p (fun l => { l with arming := some 0 }) (suppliesOn p s1), true)
  else (s1, false)

/-- The setpoints of bytes 112 to 127. -/
def restoreSetpoints (b : List Byte) (s : State) : State :=
  setPar gfmFSet (fieldAt b 124 4) (setPar gfmPSet (fieldAt b 120 4 % 65536) (setPar gfmQSet (fieldAt b 116 4 % 65536)
    (setPar gfmVSet (fieldAt b 112 4 % 65536) s)))

/-- The snapshot is restored by R376, then planes B, D and G are enabled and armed. -/
def givePlanes (c : Nat) (s : State) : State :=
  match s.red.take with
  | none => s
  | some t =>
    let s1 := match youngSnap c s with
      | some x => restoreSetpoints x.bytes (updRed (fun r => { r with
          take := some { t with given := true, r := some (restoredOf x) }, record := (x.bytes.drop 128).take 37 }) s)
      | none => raiseFlag redEvents 11 0 (updRed (fun r => { r with take := some { t with given := true } }) s)
    let b := giveArm .b s1
    let d := giveArm .d b.1
    let g := giveArm .g d.1
    if b.2 && d.2 && g.2 then g.1 else takeFails 4 g.1

/-- The decision (R374): refused on a differing hash under REFUSE; from COLD the supplies come on, from WARM the planes are given. -/
def beginTake (c : Nat) (s : State) : State :=
  let bad := decide (par s redHashPolicy = 1) &&
    (match s.red.snaps with | x :: _ => decide (fieldAt x.bytes 36 16 ≠ ownHash s) | [] => false)
  if bad then raiseFlag redEvents 5 0 (updRed (fun r => { r with failSeen := false }) s)
  else
    let cold := decide (s.red.role = 3)
    let s1 := updRed (fun r => { r with
      role := 4, failSeen := false, split := false, coldHash := none, take := some { cold := cold, dark := cold, c0 := c } }) s
    if cold then { s1 with isl := { s1.isl with power := true } } else givePlanes c s1

/-- A standby begins a takeover on FAIL, or on both paths down with BUS_PRESENT low. -/
def takeover (c : Nat) (s : State) : State :=
  let r := s.red
  if betony s ∧ (r.role = 2 ∨ r.role = 3) ∧ par s redRole = 2 ∧ (r.failSeen ∨ (!anyPath s ∧ !s.pins.busPresent)) then beginTake c s
  else s

def execTakeover (aon : Nat) (s : State) : Host.Outcome State Fault Refusal := .next (takeover aon s)

/-- V_take, V (R377). -/
def vTake (s : State) : Rat := if par s redTakeVdc = 0 then 19 / 20 * par s msdVdcRef else par s redTakeVdc

/-- PLANE_START for one plane of the takeover, a step of R375's table. -/
def giveStart (p : Plane) (step : Nat) (s : State) : State :=
  if startStatus p s = stOk then doStart p s else takeFails step s

/-- At a boundary of a takeover: plane B starts with AUX [0], plane D in DC_VOLTAGE at V_take, plane G when V_DC reaches V_take. -/
def takeStarts (s : State) : State :=
  let waiting : Bool := match s.red.take with | some t => !t.given | none => true
  if s.red.role ≠ 4 ∨ waiting then s
  else
    let ready (p : Plane) : Bool := (lane s p).st == .ready && !(lane s p).startPend
    if ready .b then giveStart .b 5 (setParBit ctlBAux 0 true s)
    else if (lane s .b).st = .running ∧ ready .d then
      giveStart .d 5 (setPar ctlDOuter 1 (setPar msdVdcRef (roundAway (vTake s)).toNat s))
    else if (lane s .d).st = .running ∧ ready .g ∧ vTake s ≤ vdcNow s then giveStart .g 7 s
    else s

/-- The takeover is over: role ACTIVE, TAKEOVER raised. -/
def takeDone (s : State) : State := raiseFlag redEvents 3 0 (updRed (fun r => { r with role := 1, take := none }) s)

/-- The takeover permit (R377, R378): at the first boundary at which plane G runs and the bus is dead; a live bus by TAKE_LIVE; none
while the partner is back, ACTIVE, with HOLD energised. -/
def takePermit (s : State) : State :=
  match s.red.role, s.red.take with
  | 4, some t =>
    let low := if s.pins.busPresent then 0 else t.low + outerSec s
    let s1 := updRed (fun r => { r with take := some { t with low := low } }) s
    let back := anyPath s && (match s.red.partner with | some h => decide (h.role = 1) && h.health.testBit 1 | none => false)
    if (lane s .g).st ≠ .running ∨ !gOn s then s1
    else if back then raiseFlag redEvents 7 0 (updRed (fun r => { r with role := 1, take := none }) s1)
    else if s.pins.busPresent then
      takeDone (updGfm (fun g => { g with takeSync := decide (par s redTakeLive = 1) && g.takeTo.isSome }) s1)
    else if 1 / 500 ≤ low ∧ (estOf s).uBus < 1 / 10 ∧ busAgrees s then
      let f : Rat := 32 * (1 + (signedOf 32 (par s redAonRate) : Rat) / 100000000)
      let us := (divF s 17 ((s.red.aon : Int) - t.c0 : Int) f).floor.toNat
      takeDone (if par s gfmBrkMode = 1 then setPar redTakeTime (us % 65536) (permitOn s1) else s1)
    else s1
  | _, _ => s

/-! ## RED.CTRL (R367, R373, R374) -/

/-- GO_COLD may be accepted. -/
def coldFits (s : State) : Bool :=
  decide (s.red.role = 2) && !s.prt.supplyLoss && s.prt.resetting.isNone && allStopped s && s.txn.isNone && s.host.ops.isEmpty && anyPath s && !s.red.snaps.isEmpty &&
    (match s.fw.run with | some n => decide ((slotOf s n).st = 3) && fastStartOk s n | none => false)

/-- RELEASE may be accepted. -/
def releaseFits (s : State) : Bool :=
  allPlanes.all fun p => (lane s p).st == .off || (lane s p).st == .stopped || (lane s p).st == .ready

/-- A write of RED.CTRL may be accepted. -/
def redCtrlFits (s : State) (v : Nat) : Bool :=
  (!v.testBit 0 || coldFits s) && (!v.testBit 1 || (decide (s.red.role = 2) && decide (par s redRole = 2))) &&
    (!v.testBit 2 || releaseFits s)

/-- Every island except ISL_AON powers down (R367): what the islands held is gone, and Betony keeps its own block, its hash, the
snapshots and the pins. Flash, OTP and what has left the module stay. -/
def powerDownCold (s : State) : State :=
  { params := s.params.filter (fun x => x.1 / 256 = 0x16 ∨ x.1 = fwBootCnt), pins := s.pins, pending := s.pending, stored := s.stored,
    wire := s.wire, free := s.free,
    isl := { power := false, prt := false, aon := s.isl.aon },
    prt := { resetting := s.prt.resetting, supplyLoss := s.prt.supplyLoss },
    red := { s.red with role := 3, coldHash := some (ofLe (cfgHash s)), outSnap := none, act := none, descs := [] },
    fw := { s.fw with chosen := none, run := none, loaded := none, saving := none, upd := none, hitless := none,
                      life := if s.fw.life = 2 then 1 else s.fw.life },
    acq := { archive := s.acq.archive } }

/-- RED.CTRL was written: GO_COLD, TAKE with the count of CLK_AON, RELEASE. -/
def redCtrlWritten (v c : Nat) (s : State) : State :=
  let s1 := if v.testBit 2 then requestFail 4 s else s
  if v.testBit 1 then beginTake c s1 else if v.testBit 0 then powerDownCold s1 else s1

end Sys2Proof.Machine
end

