-- ==== Sys2Proof/Machine/Campion.lean ====
section
/-! DEFINITION. Sys2Proof/Machine/Campion.lean: the outer boundary (R196, R197, R222, R315). -/

namespace Sys2Proof.Machine

/-- A word that Campion takes at the boundary (R351): a law written, or a feedback source chosen anew. -/
def campionWord (id v : Nat) (s : State) : State :=
  let s1 := setPar id v s
  if id = gfmLaw then lawWritten v s1
  else if id = msdFeedback then updMsd (fun m => { m with fallback := false }) s1 else s1

/-- The laws of every plane. -/
def allLaws (o : OuterIn) (s : State) : State := mBoundary o (gBoundary s)

/-- Give a plane the reference FIFO it has in another state. -/
def keepRefs (p : Plane) (src s : State) : State :=
  updLane p (fun l => { l with fifo := (lane src p).fifo, col01 := (lane src p).col01, colWait := (lane src p).colWait }) s

/-- A dry run (R315): the references stay, or the outer law runs as if RUNNING and writes that plane's FIFO alone. -/
def dryRun (p : Plane) (o : OuterIn) (s real : State) : State :=
  if !s.replay.outer then keepRefs p s real
  else
    let r := allLaws o (updLane p (fun l => { l with st := .running }) s)
    match p with
    | .g => setPar gfmState (par r gfmState) { keepRefs .g r real with gfm := r.gfm }
    | _ => { keepRefs p r real with msd := r.msd }

/-- The boundary falls at samples whose index is a whole multiple of OUTER_PERIODS, once each (R196). -/
def boundaryDue (s : State) : Bool :=
  s.isl.app && s.isl.ctl && !s.isl.halted && decide (sampleK s % outerN s = 0) && decide (s.gfm.last ≠ some (sampleK s))

/-- Put the sample index back by a number of samples. -/
def withIndex (k : Nat) (s : State) : State := setPar clkSampleHi (k / 2 ^ 32) (setPar clkSampleLo (k % 2 ^ 32) s)

/-- After a boundary that passed without Campion, it writes two groups, marked k_j+1 and k_j+2 (R406, as R218 does): the laws run
for the boundary that passed, then for this one (log entry 32). -/
def twoBoundaries (o : OuterIn) (s : State) : State :=
  let k := sampleK s
  allLaws o (withIndex k (allLaws o (withIndex (k - outerN s) s)))

/-- The laws at a boundary, during a hitless activation as R405 and R406 have them: none while the images change over. At the
boundary at which the old image resumes, its own record is in force again. -/
def lawsAt (o : OuterIn) (s : State) : State :=
  match s.fw.hitless with
  | none => allLaws o s
  | some h =>
    if h.stage ≠ 4 then allLaws o s
    else if 0 < h.skip then updFw (fun f => { f with hitless := some { h with skip := h.skip - 1 } }) s
    else
      let s1 := if h.back then { s with gfm := h.oldGfm.getD s.gfm, msd := h.oldMsd.getD s.msd } else s
      let s2 := updGfm (fun g => { g with last := s.gfm.last }) s1
      let s3 := updFw (fun f => { f with hitless := some { h with two := false, wrote := true } })
        (if h.two then twoBoundaries o s2 else allLaws o s2)
      if h.back then endActivation stCancelled cCondition s3 else s3

/-- An outer boundary. -/
def outerBoundary (o : OuterIn) (s : State) : State :=
  if !boundaryDue s then s
  else
    let s0 := updRed (fun r => { r with aon := o.aon })
      (updGfm (fun g => { g with last := some (sampleK s) }) (takeWaiting .campion campionWord s))
    let s1 := takeStarts s0
    let real := writeSnapshot (takePermit (lawsAt o s1))
    let s2 := match (if s1.replay.active then s1.replay.sub else none).bind planeOf with
      | some p => dryRun p o s1 real
      | none => real
    bumpFree { s2 with sums := {}, free := s2.free + 31 }

def execOuterBoundary (o : OuterIn) (s : State) : Host.Outcome State Fault Refusal := .next (outerBoundary o s)

end Sys2Proof.Machine
end

