-- ==== Sys2Proof/Machine/Flags.lean ====
section
/-! DEFINITION. Sys2Proof/Machine/Flags.lean: the status words that show other state, as GET_PARAM and the host window read them: the
read-only bits of R130, R161, R193, R195, R221, R292, R319, R320, R364, and the window of R325. -/

namespace Sys2Proof.Machine

/-- A bit of a word. -/
def flag (on : Bool) (b : Nat) : Nat := if on then 2 ^ b else 0

/-- A word with n bits from lo replaced. -/
def withBits (w lo n v : Nat) : Nat := w - 2 ^ lo * bits w lo n + 2 ^ lo * (v % 2 ^ n)

/-- GATE.GPnn.STATUS: the monitors while the supply is on, and LOCKED. -/
def gateStatusWord (s : State) (n : Nat) : Nat :=
  let w := withBits (withBits (par s (gateStatus n)) 0 3 0) 8 1 0
  let on := monitored n s
  w + flag (on && s.prt.uvVcc.getLsbD n) 0 + flag (on && s.prt.uvVboot.getLsbD n) 1 + flag (on && s.prt.uvVee.getLsbD n) 2 +
    flag (s.prt.locked.getLsbD n) 8

/-- Ports with any monitor declared while their supply is on (R170). -/
def uvloPorts (s : State) : Ports :=
  portsOf ((List.range 36).filter fun n => monitored n s && (s.prt.uvVcc ||| s.prt.uvVboot ||| s.prt.uvVee).getLsbD n)

/-- The feedback contact: closed while every gate-supply enable is removed (R61); open without power and in reset (R66). -/
def stoFeedback (s : State) : Bool := alive s && (!s.pins.sto1 || !s.pins.sto2 || decide (s.prt.supOn = 0))

/-- HVDD is on while the module is powered and out of reset (R56, R66). -/
def hvdd (s : State) : Bool := alive s

/-- MDCLK runs at the measurement ports, driven by ISL_CTL or in hold-up by ISL_PRT (R24, R41, R66). -/
def mdclkOut (s : State) : Bool := s.isl.mdRun || s.prt.holdUp

/-- PROT.BRK_STATUS. -/
def brkStatusWord (s : State) : Nat :=
  withBits (par s protBrkStatus) 0 8 0 + parBits s protBrkCtrl 0 2 + flag s.pins.busPresent 2 + flag s.pins.brkAux 3 +
    flag s.pins.mcAux 4 + flag s.pins.sto1 5 + flag s.pins.sto2 6 + flag (stoFeedback s) 7

/-- MOD.x.STATUS. -/
def modStatusWord (s : State) (p : Plane) : Nat :=
  let m := modr s p
  withBits (withBits (par s (modStatus p.code)) 0 4 0) 7 1 0 + flag m.carrier 0 + flag m.aligned 1 + flag m.ramp 2 +
    flag m.exitWait 3 + flag s.isl.halted 7

/-- SYS.TXN_STATE. -/
def txnStateWord (s : State) : Nat :=
  match s.txn with
  | none => 0
  | some t =>
    (match t.st with | .openT => 1 | .preparing => 2 | .prepared => 3 | .committing => 4) + flag t.seqT 3 +
      2 ^ 8 * (min 255 t.tiles.length) + 2 ^ 16 * t.entries.length

/-- SYS.HANDLES, and the free spares of R358. -/
def handlesWord (s : State) : Nat := s.host.ops.length

/-- RED.STATUS. -/
def redStatusWord (s : State) : Nat :=
  let r := s.red
  let partner (f : Hb → Bool) : Bool := match r.partner with | some h => f h | none => false
  r.role + flag r.pathA.up 3 + flag r.pathB.up 4 + flag r.split 5 + flag (!r.snaps.isEmpty) 6 +
    flag (partner fun h => decide (h.hash = ownHash s % 2 ^ 32)) 7 + flag r.calibrated 8 + flag s.pins.busPresent 9 +
    flag (partner fun h => decide (h.role = 1)) 10

/-- The words of the RED and FW blocks that show other state. -/
def redFwWord (s : State) (id : Nat) : Option Nat :=
  if id = redStatus then some (redStatusWord s)
  else if redCfgHash 0 ≤ id ∧ id ≤ redCfgHash 3 then some (fieldAt (cfgHash s) (4 * (id - redCfgHash 0)) 4)
  else if id = fwLifecycle then some s.fw.life
  else if id = fwSlotState then some (slotStateWord s)
  else if id = fwVersion then some (fieldAt (runManifest s) 4 4)
  else if id = fwSecVer then some s.fw.secVer
  else if id = fwSchema then some (fieldAt (runManifest s) 12 2)
  else if id = fwKeys then some (keysWord s)
  else if id = fwHitlessState then some (match s.fw.hitless with | some h => h.stage | none => 0)
  else if id = fwMigFail then some ((s.fw.report.map (·.2)).getD 0)
  else if id = fwArchFree then some (3584 - archUsed s.acq.archive)
  else if fwIdPub 0 ≤ id ∧ id ≤ fwIdPub 7 then some (fieldAt Config.idPub (4 * (id - fwIdPub 0)) 4)
  else if fwUnlockNonce 0 ≤ id ∧ id ≤ fwUnlockNonce 3 then some (fieldAt s.fw.nonce (4 * (id - fwUnlockNonce 0)) 4)
  else if fwSetHash 0 ≤ id ∧ id ≤ fwSetHash 15 then some (fieldAt s.fw.setHash (4 * (id - fwSetHash 0)) 4)
  else none

/-- Every routed port is valid in both islands: the stage of the signals is over (R420). -/
def streamsIn (s : State) : Bool :=
  (List.range 24).all fun n => decide (par s (measRoute n) = 0) || ((mport s n).valid && (mport s n).prtValid)

/-- The shadow's words of R161. -/
def shadowShown (s : State) (p : Plane) (off : Nat) : Option Nat :=
  if p = .b then none
  else if off = 0x20 then some (modr s p).shadow.per
  else if 0x21 ≤ off ∧ off ≤ 0x32 then ((modr s p).shadow.ports[off - 0x21]?).map fun w => w.cmp + 2 ^ 20 * w.act
  else none

/-- A register that shows other state, by its ID. -/
def shownWord (s : State) (id : Nat) : Option Nat :=
  let blk := id / 256
  if 0x07 ≤ blk ∧ blk ≤ 0x0A ∧ id % 256 = 0 then (planeOf (blk - 0x07)).map fun p => ctlStateWord (lane s p)
  else if 0x0B ≤ blk ∧ blk ≤ 0x0E ∧ id % 256 = 0x0D then (planeOf (blk - 0x0B)).map (modStatusWord s)
  else if 0x0B ≤ blk ∧ blk ≤ 0x0E ∧ 0x20 ≤ id % 256 ∧ id % 256 ≤ 0x32 then (planeOf (blk - 0x0B)).bind fun p => shadowShown s p (id % 256)
  else if 0x0F00 ≤ id ∧ id < 0x1140 ∧ id % 16 = 0x0C then some (gateStatusWord s ((id - 0x0F00) / 16))
  else if id = gateFaultLo then some ((s.prt.faultH ||| s.prt.faultL).toNat % 2 ^ 32)
  else if id = gateFaultHi then some ((s.prt.faultH ||| s.prt.faultL).toNat / 2 ^ 32)
  else if id = gateUvloLo then some ((uvloPorts s).toNat % 2 ^ 32)
  else if id = gateUvloHi then some ((uvloPorts s).toNat / 2 ^ 32)
  else if id = sysBootStage then some (if par s id = 3 ∧ streamsIn s then 4 else par s id)
  else if id = clkPllmStatus then some (withBits (par s id) 6 1 (flag (spurAligned s) 0))
  else if 0x0520 ≤ id ∧ id < 0x05E0 ∧ id % 8 = 7 then
    some (withBits (par s id) 0 1 (flag (mport s ((id - 0x0520) / 8)).valid 0))
  else if id = protBrkStatus then some (brkStatusWord s)
  else if id = timeErrEst then some (errEstWord s)
  else if id = timeState then some (timeStateWord s)
  else if 0x0220 ≤ id ∧ id < 0x0260 ∧ id % 4 = 3 then
    let n := (id - 0x0220) / 4
    some (withBits (par s id) 0 1 (par s (timeTcCtrl n) / 4))
  else if id = acqStatus then some (acqStatusWord s)
  else if rgtTileBad 0 ≤ id ∧ id ≤ rgtTileBad 5 then some (bits s.rgt.bad.toNat (32 * (id - rgtTileBad 0)) 32)
  else if id = sysTxnState then some (txnStateWord s)
  else if id = sysHandles then some (handlesWord s)
  else if id = sysSpareTiles then some s.rgt.spares.length
  else if id = gfmState then some (parBits s gfmState 0 8 + flag s.pins.brkAux 8 + flag s.pins.busPresent 9)
  else if id = ybusStatus then some (withBits (par s ybusStatus) 12 1 (if s.time.busOk then 1 else 0))
  else redFwWord s id

/-- The value GET_PARAM returns for a row: a write-only parameter reads 0 (R349). -/
def readParam (s : State) (id : Nat) (d : PDef) : Nat :=
  if d.acc = .wo then 0 else ((shownWord s id).getD (par s id)) % 2 ^ d.width

/-! ## The host window (R325) -/

/-- Bytes of the packet at the head of the outbound queue. -/
def outLen (s : State) : Nat := match s.host.out with | [] => 0 | p :: _ => 28 + p.payload.length

def planeBits (s : State) (st : PState) (lo : Nat) : Nat :=
  (allPlanes.map fun p => flag ((lane s p).st == st) (lo + p.code)).foldl (· + ·) 0

def hwinStatus (s : State) : Nat :=
  outLen s + flag s.isl.sysUp 16 + flag s.host.inReady 17 + flag s.prt.supplyLoss 18 + flag s.pins.haltLow 19 +
    flag (!s.pins.sto1 || !s.pins.sto2) 20 + planeBits s .safe 24 + planeBits s .running 28

/-- OUT_PENDING shows the queue; the other bits are sticky. -/
def hwinIrq (s : State) : Nat := withBits s.host.irq.toNat 0 1 (if outLen s = 0 then 0 else 1)

def hwinFault (s : State) : Nat :=
  (allPlanes.map fun p => par s (protSafeCause p.code) % 256 * 256 ^ p.code).foldl (· + ·) 0

def hwinHealth (s : State) : Nat :=
  let i := s.isl
  flag i.ctl 0 + flag i.app 1 + flag i.sys 2 + flag i.acq 3 + flag i.aon 4 + flag i.prt 5 +
    64 * (if pllm s = 3 then 2 else pllm s % 4) + 256 * (par s clkPllpStatus % 4) + flag (onFbo s) 10 + flag i.health 11

/-- A register of the window; none for an address R325 does not assign. -/
def hwinRead (s : State) : Nat → Option Nat
  | 0 => some 0x0001D7A4
  | 1 => some (hwinStatus s)
  | 2 => some (hwinIrq s)
  | 3 => some s.host.irqEn.toNat
  | 4 => some (hwinFault s)
  | 5 => some (hwinHealth s)
  | 6 => some s.host.urgent.toNat
  | 7 => some s.host.spiSeq
  | _ => none

/-- IRQ_N is low while a bit of HWIN_IRQ is set together with its enable (R326). -/
def irqLow (s : State) : Bool := decide (Nat.land (hwinIrq s) s.host.irqEn.toNat ≠ 0)

end Sys2Proof.Machine
end

