-- ==== Sys2Proof/Machine/Check.lean ====
section
/-! DEFINITION. Sys2Proof/Machine/Check.lean: the checks of SET_PARAM (R350): of an entry alone (defined, access, bits, range and
fields, class and state), and the rules that join parameters. -/

namespace Sys2Proof.Machine

/-- The first failing status of a list; OK when none fails. -/
def firstFail (l : List Nat) : Nat := (l.find? fun st => decide (st ≠ stOk)).getD stOk

/-- OK, or a status where the condition fails. -/
def need (ok : Bool) (st : Nat) : Nat := if ok then stOk else st

/-! ## Range and field rules -/

/-- The range column of a row. -/
def chkStatus (d : PDef) (v : Nat) : Nat :=
  match d.chk with
  | .any => stOk
  | .range lo hi => need (decide (lo ≤ v) && decide (v ≤ hi)) stOutOfRange
  | .srange lo hi => need (decide (lo ≤ signedOf d.width v) && decide (signedOf d.width v ≤ hi)) stOutOfRange
  | .codes n => need (decide (v < n)) stBadParam

/-- A signal code of R72, or 0. -/
def routeCode (v : Nat) : Bool := decide (v = 0) || !(usersOf v).isEmpty || (decide (0x60 ≤ v) && decide (v ≤ 0x63))

/-- A nibble of a vector-table step lies in −2 to +2. -/
def vtStepOk (b : Nat) : Bool :=
  let g := signedOf 4 (b % 16)
  let h := signedOf 4 (b / 16)
  let small (x : Int) : Bool := decide (-2 ≤ x) && decide (x ≤ 2)
  small g && small h && small (g + h)

/-- An IPv4 multicast address, or 0. -/
def multicastOr0 (v : Nat) : Bool := decide (v = 0) || (decide (0xE0000000 ≤ v) && decide (v ≤ 0xEFFFFFFF))

/-- The bits of word i of a Safe Region Entry that R109 reserves on a plane. -/
def sreReserved (p : Plane) : Nat → Nat
  | 0 => if p = .b then 0xFFFF0000 else 0
  | 1 => if p = .b then 0xFFFF0000 else 0
  | 2 => if p = .b then 0xFFFFFFFF else 0
  | 3 => if p = .g then 0 else 0xFFFFFFFF
  | 4 => (if p = .b then 0xFFFF0000 else 0) + (if p = .m ∨ p = .d then 0 else 0xFFFF)
  | 7 => 0xFFFF0000
  | _ => 0xFFFFFFFF

/-- Field rules of the measurement, region and CTL blocks. -/
def fieldLow (id v : Nat) : Nat :=
  let blk := id / 256
  let off := id % 256
  if 0x0520 ≤ id ∧ id < 0x05E0 then
    if (id - 0x0520) % 8 = 0 then need (routeCode v) stBadParam
    else if (id - 0x0520) % 8 = 6 then need (decide (v = 0) || (decide (8 ≤ v) && decide (v ≤ 4096))) stOutOfRange
    else stOk
  else if 0x0600 ≤ id ∧ id < 0x0640 ∧ id % 16 = 1 then need (decide (bits v 5 5 ≤ 23)) stOutOfRange
  else if id = ctlMode 3 then need (decide (v = 0)) stBadParam
  else if id = ctlFfEn 0 ∨ id = ctlFfEn 3 then need (decide (v = 0)) stBadParam
  else if id = ctlDLegs then need (decide (v ≠ 0)) stBadParam
  else if (blk = 7 ∨ blk = 8) ∧ 0x40 ≤ off ∧ off ≤ 0x48 then
    need ([0, 1, 2, 3].all fun i => vtStepOk (bits v (8 * i) 8)) stBadParam
  else if 7 ≤ blk ∧ blk ≤ 10 ∧ 0x20 ≤ off ∧ off ≤ 0x27 then
    need (match planeOf (blk - 7) with | some p => decide (v &&& sreReserved p (off - 0x20) = 0) | none => true) stBadParam
  else stOk

/-- Field rules of the MOD blocks (R149, R150, R161). -/
def fieldMod (p : Plane) (off v : Nat) : Nat :=
  if off = 0x00 then
    firstFail [need (decide (v % 2 = 0)) stBadParam, need (decide (4000 ≤ v) && decide (v ≤ 400000)) stOutOfRange]
  else if off = 0x05 then need (decide (v / 16 ≤ v % 16)) stOutOfRange
  else if off = 0x40 then
    let src := bits v 4 2
    need (decide (src ≠ 3) && (decide (src ≠ 0) || p == .g || p == .m) && decide (bits v 7 5 ≤ 15)) stBadParam
  else if 0x48 ≤ off ∧ off ≤ 0x57 then
    let n := portCount p
    need (decide (v < 2 ^ (2 * (if off % 2 = 0 then min 16 n else n - 16)))) stBadParam
  else stOk

/-- Field rules of the protection block (R176, R177, R186, R194). -/
def fieldProt (id v : Nat) : Nat :=
  if id = protMAscPref then need (decide (v ≠ 0)) stBadParam
  else if id = protTestDpPort then need (decide (v % 64 ≤ 35)) stOutOfRange
  else if protTestSw0 ≤ id ∧ id ≤ protTestSw2 then
    need ((List.range 16).all fun i => decide (bits v (2 * i) 2 ≠ 3)) stWrongState
  else if id < 0x12E0 then
    let p := (id - 0x1200) / 0x40
    let r := (id - 0x1200) % 0x40
    if 0x10 ≤ r then
      let q := (r - 0x10) % 6
      if q = 0 then need ((routeCode (v % 256) || (decide (0x80 ≤ v % 256) && decide (v % 256 ≤ 0x84))) && decide (v / 256 < 3)) stBadParam
      else if q = 4 then need (decide (v % 262144 < 2 ^ ((planeOf p).map portCount).getD 0)) stBadParam
      else stOk
    else stOk
  else stOk

/-- Field rules of the other blocks. -/
def fieldHigh (id v : Nat) : Nat :=
  if id = netTripAddr ∨ id = redGrpAddr then need (multicastOr0 v) stBadParam
  else if acqChSrc 0 ≤ id ∧ id ≤ acqChSrc 47 then
    need (if id < acqChSrc 24 then decide (v ≤ 2) else internalCode v) stBadParam
  else if acqTuCtrl 0 ≤ id ∧ id < acqTuCtrl 32 ∧ id % 4 = 0 then
    firstFail [need (decide (bits v 4 6 ≤ 47)) stOutOfRange, need (decide (bits v 10 2 ≠ 3)) stBadParam]
  else if id = acqRpTrig then need (decide (v % 4 ≠ 3)) stBadParam
  else if acqRpMap 0 ≤ id ∧ id ≤ acqRpMap 23 then
    firstFail [need (decide (v % 64 ≤ 47)) stOutOfRange, need (routeCode (bits v 8 8)) stBadParam]
  else if id = ybusCmark then need (decide (v = 0) || (decide (4000 ≤ v) && decide (v ≤ 1000000))) stOutOfRange
  else if id = redTakeVdc then need (decide (v = 0) || (decide (100 ≤ v) && decide (v ≤ 1500))) stOutOfRange
  else stOk

/-- The field rules of an entry. -/
def fieldStatus (id v : Nat) : Nat :=
  let blk := id / 256
  if blk = 0x12 then fieldProt id v
  else if 0x0B ≤ blk ∧ blk ≤ 0x0E then (match planeOf (blk - 0x0B) with | some p => fieldMod p (id % 256) v | none => stOk)
  else if blk ≤ 0x0A then firstFail [fieldLow id v, fieldHigh id v]
  else fieldHigh id v

/-! ## State rules: a write that its owner or the present state forbids (R350, R431) -/

/-- Read only at present: SKEW under SKEW_AUTO (R70), MASK_PTR under SECTOR (R150). -/
def readOnlyNow (s : State) (id : Nat) : Bool :=
  (decide (0x0520 ≤ id) && decide (id < 0x05E0) && decide ((id - 0x0520) % 8 = 2) && parBit s measSkewAuto 0) ||
    (match modPlane id with | some p => decide (id = modMaskPtr p.code) && decide (maskSrc s p = 0) | none => false)

/-- PROT.BRK_CTRL may be written (R188, R189, R213). -/
def brkWriteOk (s : State) (v : Nat) : Bool :=
  let hold := (decide (par s gfmBrkMode ≠ 1) || decide (v % 2 = par s protBrkCtrl % 2)) &&
    (decide (v % 2 = 0) || !((lane s .g).st == .safe || s.prt.supplyLoss))
  let mc := !v.testBit 1 || !(((lane s .m).st == .safe && (lane s .m).sub == .pulseBlock && s.prt.ascWanted) || s.prt.mcFallback)
  hold && mc

/-- The rules of chapters 07 to 09 and 12 to 16. -/
def stateLaw (s : State) (id v : Nat) : Bool :=
  if id = gfmPSet then !(parBit s msdState 7 || (mHolds s && speedLaw s))
  else if id = gfmLaw then decide (v = 0) || !((lane s .g).st == .running && gOn s && decide (gLaw s = 0) && decide (gAct s ≠ 0))
  else if id = protBrkCtrl then brkWriteOk s v
  else if id = ctlFfGain 1 ∨ id = ctlFfScale 1 then !mRun s
  else if id = ctlFfGain 2 ∨ id = ctlFfScale 2 then !dRun s
  else if id = ctlBAux then (opsOf s 0x0021).isEmpty && (opsOf s 0x0022).isEmpty
  else if id = clkRefSel ∨ id = clkRefAlt then decide (v ≠ 2) || decide (s.fw.life = 0)
  else if id = clkPhaseStep then !(allPlanes.any fun p => decide (par s (modSync p.code) = 1)) && !onFbo s
  else if id = ybusSurvey then isHead s
  else if id = protTestGo then allPlanes.any fun p => (lane s p).st == .test
  else if id = redCtrl then redCtrlFits s v
  else if id = fwCtrl then decide (v % 2 = 0) || runTrial s
  else if id = fwKeyPolicy then decide (v = 0) || s.fw.owner.isSome
  else true

/-- The rules of the modulators, comparators and capture. -/
def stateUnit (s : State) (id v : Nat) : Bool :=
  match modPlane id with
  | some p =>
    let off := id % 256
    if 0x20 ≤ off ∧ off ≤ 0x33 then decide (par s (modPsSrc p.code) = 1)
    else if p = .m ∧ (off = 0x40 ∨ off = 0x42 ∨ 0x48 ≤ off) then decide (par s msdSixEn ≠ 1)
    else true
  | none =>
    if 0x0220 ≤ id ∧ id < 0x0260 then
      let n := (id - 0x0220) / 4
      !parBit s (timeTcCtrl n) 2 || (match id % 4 with
        | 0 => decide (v % 4 = par s id % 4)
        | 3 => true
        | _ => false)
    else if id = acqDecim ∨ id = acqSlots ∨ (acqChSrc 0 ≤ id ∧ id ≤ acqChSrc 47) then !capturing s
    else true

/-- The status of the state rules; PHASE_STEP has a range that depends on what is pending (R262). -/
def stateStatus (s : State) (id v : Nat) : Nat :=
  firstFail [need (stateLaw s id v && stateUnit s id v) stWrongState,
    need (decide (id ≠ clkPhaseStep) ||
      (decide (-256 ≤ phasePend s + signedOf 8 v) && decide (phasePend s + signedOf 8 v ≤ 255))) stOutOfRange]

/-! ## Pass 1 -/

/-- Where an entry is judged: at once by the CONFIG or the CONTROL form, or staged in a transaction. -/
inductive Form where
  | config | control | staged (seq : Bool)
  deriving DecidableEq, Repr

/-- The checks that concern an entry alone, without class and state (R350, R354). -/
def entryAlone (seqT : Bool) (s : State) (e : PEntry) : Nat :=
  let v := e.val.toNat
  match paramRow e.id with
  | none => stBadParam
  | some d =>
    firstFail [need (decide (e.resv = 0) && (seqT || decide (e.grp = 0))) stBadParam,
      need (decide (d.acc ≠ .ro) && !readOnlyNow s e.id) stReadOnly,
      need (decide (v < 2 ^ d.width) && decide (v &&& d.mask = v) && (decide (d.acc ≠ .w1cCnt) || decide (bits v 16 15 = 0))) stBadParam,
      chkStatus d v, fieldStatus e.id v]

/-- The commit class permits the write now (R351, R352). -/
def classStatus (ctl : Bool) (s : State) (e : PEntry) : Nat :=
  match paramRow e.id with
  | none => stBadParam
  | some d =>
    firstFail [need (!ctl || d.commit == .live || d.commit == .boundary) stBadParam,
      need (decide (d.commit ≠ .stopped) || ownersStopped s e.id e.val.toNat) stWrongState]

/-- Every check of an entry in pass 1. -/
def entryStatus (f : Form) (s : State) (e : PEntry) : Nat :=
  match f with
  | .config => firstFail [entryAlone false s e, classStatus false s e, stateStatus s e.id e.val.toNat]
  | .control => firstFail [entryAlone false s e, classStatus true s e, stateStatus s e.id e.val.toNat]
  | .staged q => entryAlone q s e

/-- The first entry that fails, with its index and status. -/
def firstBad (chk : PEntry → Nat) : Nat → List PEntry → Option (Nat × PEntry × Nat)
  | _, [] => none
  | i, e :: t => if chk e = stOk then firstBad chk (i + 1) t else some (i, e, chk e)

/-! ## Pass 2: rules that join parameters -/

/-- A joining rule: the parameters it joins, whether it holds of a state's words, and the status of a failure. -/
structure Rule where
  uses   : Nat → Bool
  holds  : State → Bool
  status : Nat

/-- A rule over a list of parameters. -/
def joint (ids : List Nat) (status : Nat) (holds : State → Bool) : Rule :=
  { uses := fun id => ids.contains id, holds := holds, status := status }

/-- Rules of the clocks and measurement (R71, R72, R78, R196, R252). -/
def clockRules : List Rule :=
  [joint [clkTcCycles, measMdclkDiv] stOutOfRange fun s =>
     let n := par s clkTcCycles
     let d := par s measMdclkDiv
     decide (n % d = 0) && decide (16 ≤ n / d) && decide (n / d ≤ 1000),
   joint [clkTcCycles, clkOuterPeriods] stOutOfRange fun s =>
     let t := par s clkTcCycles * par s clkOuterPeriods
     decide (10000 ≤ t) && decide (t ≤ 200000),
   joint (measMdclkDiv :: (List.range 24).map measCoding) stOutOfRange fun s =>
     decide (16 ≤ par s measMdclkDiv) || (List.range 24).all fun n => decide (par s (measCoding n) = 0),
   joint ((List.range 24).map measRoute) stBadParam fun s =>
     (pairsOf ((List.range 24).map fun n => par s (measRoute n))).all fun p => decide (p.1 = 0) || decide (p.1 ≠ p.2),
   joint [clkRefSel, clkRefAlt] stBadParam fun s => decide (par s clkRefAlt ≠ par s clkRefSel)]

/-- Rules of one plane's window, stop and modulator (R106, R130, R140, R144, R161). -/
def planeRules (p : Plane) : List Rule :=
  let c := p.code
  [joint [rgtBase c, rgtSize c] stOutOfRange fun s => decide (par s (rgtBase c) + windowTiles s p ≤ 192),
   joint [ctlStopLimit c, ctlStopRamp c] stOutOfRange fun s => decide (par s (ctlStopRamp c) ≤ par s (ctlStopLimit c)),
   joint [modPhase c, modPeriod c] stOutOfRange fun s => decide (par s (modPhase c) < par s (modPeriod c)),
   joint [modFeedGap c, modPeriod c] stOutOfRange fun s => decide (par s (modFeedGap c) ≤ par s (modPeriod c) / 8),
   joint (modPsPer c :: (List.range (portCount p)).map (modPsP c)) stOutOfRange fun s =>
     (List.range (portCount p)).all fun i => decide (parBits s (modPsP c i) 0 20 ≤ par s (modPsPer c)),
   joint [modPsSrc c, ctlMode c] stWrongState fun s => decide (par s (modPsSrc c) ≠ 1) || decide (par s (ctlMode c) = 1)]

/-- Rules of one gate port (R167, R172, R186). -/
def portRules (n : Nat) : List Rule :=
  [joint [gateIsnk n, gateIsnkSoft n] stOutOfRange fun s => decide (par s (gateIsnkSoft n) ≤ par s (gateIsnk n)),
   joint [gateHsTh n, gateDesatTh n] stOutOfRange fun s => decide (par s (gateDesatTh n) ≤ par s (gateHsTh n) + 8),
   joint [protTestDpTgap, protTestDpPort, gateDt n] stOutOfRange fun s =>
     decide (parBits s protTestDpPort 0 6 ≠ n) || decide (par s (gateDt n) ≤ 2 * par s protTestDpTgap)]

/-- Rules of protection, the laws and INJECT (R183, R184, R208, R221, R227, R242, R316). -/
def lawRules : List Rule :=
  [joint (protMAscGap :: (List.range 18).map fun i => gateDt (9 + i)) stOutOfRange fun s =>
     (List.range 18).all fun i => decide (par s (gateDt (9 + i)) < 2 * par s protMAscGap),
   joint [protBChopOn, protBChopOff] stOutOfRange fun s =>
     decide (par s protBChopOn = 0) || decide (parQ s protBChopOff < parQ s protBChopOn),
   joint [gfmFrtT0, gfmFrtT1, gfmFrtT2, gfmFrtT3] stOutOfRange fun s =>
     decide (par s gfmFrtT0 ≤ par s gfmFrtT1) && decide (par s gfmFrtT1 ≤ par s gfmFrtT2) && decide (par s gfmFrtT2 ≤ par s gfmFrtT3),
   joint [gfmFSet, gfmFNom] stOutOfRange fun s => decide (absR ((par s gfmFSet : Rat) / 65536 - fNom s) ≤ 5),
   joint [msdSixOn, msdSixOff] stOutOfRange fun s => decide (par s msdSixOff < par s msdSixOn),
   joint [acqInjMax, gfmVRated] stOutOfRange fun s =>
     decide (300 * (par s acqInjMax) ^ 2 ≤ 2 * (par s gfmVRated * 65536) ^ 2)]

/-- The rule of one encoder: 8 to 32 position bits under BiSS-C; a RES still at 0 does not stop a write of MODE alone. -/
def encoderRules (n : Nat) : List Rule :=
  let ok (s : State) : Bool := decide (8 ≤ par s (msdEncRes n)) && decide (par s (msdEncRes n) ≤ 32)
  [joint [msdEncRes n] stOutOfRange fun s => decide (par s (msdEncMode n) = 1) || ok s,
   joint [msdEncMode n] stOutOfRange fun s => decide (par s (msdEncMode n) = 1) || decide (par s (msdEncRes n) = 0) || ok s]

/-- The rule of capture: checked where this command enables it (R298). -/
def captureRule (before : State) : Rule :=
  joint [acqCtrl] stOutOfRange fun s => capturing before || !capturing s || captureFits s

/-- Every joining rule. -/
def allRules (before : State) : List Rule :=
  clockRules ++ allPlanes.flatMap planeRules ++ (List.range 36).flatMap portRules ++ lawRules ++ encoderRules 0 ++ encoderRules 1 ++
    [captureRule before]

/-- The words as they will stand: those that wait for a boundary, then the entries. -/
def withWords (es : List PEntry) (s : State) : State :=
  let s1 := s.wait.foldl (fun s w => setPar w.1 w.2.toNat s) s
  es.foldl (fun s e => match paramRow e.id with
    | some d => if d.acc = .rw then setPar e.id e.val.toNat s else s
    | none => s) s1

/-- The lowest entry that writes a parameter of a rule that would not hold, with the status of the first such rule. -/
def jointBad (es : List PEntry) (s : State) : Option (Nat × PEntry × Nat) :=
  let s1 := withWords es s
  let bad := (allRules s).filter fun r => es.any (fun e => r.uses e.id) && !r.holds s1
  firstBad (fun e => match bad.find? fun r => r.uses e.id with | some r => r.status | none => stOk) 0 es

end Sys2Proof.Machine
end

