-- ==== Sys2Proof/Machine/Settings.lean ====
section
/-! DEFINITION. Sys2Proof/Machine/Settings.lean: settings records (R400, R401), the confirmation of a TRIAL slot (R390, R398), and
SAVE_SETTINGS. -/

namespace Sys2Proof.Machine

/-! ## Records -/

/-- The row of an RW parameter. -/
def isRw (id : Nat) : Bool := match paramRow id with | some d => d.acc == .rw | none => false

/-- The RW parameters of a record: the words in force, and for class RESET the words that wait for the next reset. -/
def recParams (s : State) : Tab Word :=
  s.stored.foldl (fun t x => tabSet paramReset t x.1 x.2) (s.params.filter fun x => isRw x.1)

/-- The logical tiles of a record; an unwritten one is held as unwritten. -/
def recTiles (s : State) : Tab Tile :=
  (List.range 192).foldl (fun t i => tabSet (fun _ => {}) t i (tileAt s (physTile s i))) []

/-- The newest sequence of the two copies. -/
def newestSeq (s : State) : Nat :=
  let q (r : Option Rec) : Nat := match r with | some x => x.seq | none => 0
  max (q s.fw.copy0) (q s.fw.copy1)

/-- The settings schema of an image. -/
def schemaOf (m : List Byte) : Nat := fieldAt m 12 2

/-- A record of the settings in force. The manual gives the body no layout, so its hash is a free value. -/
def makeRec (staged : Bool) (s : State) : Rec :=
  { schema := schemaOf (runManifest s), seq := newestSeq s + 1, fw := fieldAt (runManifest s) 4 4, staged := staged,
    params := recParams s, tiles := recTiles s, hash := Config.freeBytes s.free }

/-! ## Confirmation (R390, R398, R402) -/

/-- A copy is STAGED and valid. -/
def isStaged (r : Option Rec) : Bool := match r with | some x => x.staged && x.valid | none => false

/-- The staged copy is committed by its state byte. -/
def commitStaged (s : State) : State :=
  let c (r : Option Rec) : Option Rec := if isStaged r then r.map fun x => { x with staged := false } else r
  updFw (fun f => { f with copy0 := c f.copy0, copy1 := c f.copy1 }) s

/-- The running TRIAL slot becomes GOOD: its security version is the lowest accepted from now on. -/
def confirm (s : State) : State :=
  match s.fw.run with
  | some n =>
    if (slotOf s n).st = 2 then
      let v := fieldAt (manifest (slotOf s n)) 8 4
      commitStaged (updFw (fun f => { f with secVer := max f.secVer v }) (updSlotFw n (fun x => { x with st := 3 }) s))
    else s
  | none => s

/-- FW.CONFIRM_TIME has passed since the islands started, with no island stopped; 0 disables it. -/
def confirmTime (s : State) : State := if par s fwConfirmTime ≠ 0 ∧ !s.fw.stopped then confirm s else s

def execConfirmTime (s : State) : Host.Outcome State Fault Refusal := .next (confirmTime s)

/-! ## SAVE_SETTINGS (R401) -/

/-- The copy it writes: the one not loaded; while the slot is TRIAL the STAGED one, if there is one. -/
def saveTo (s : State) : Nat :=
  let other := match s.fw.loaded with | some n => 1 - n | none => 0
  if runTrial s then (if isStaged s.fw.copy0 then 0 else if isStaged s.fw.copy1 then 1 else other) else other

/-- The copy is invalid until it is written whole. -/
def saveBegin (h : Nat) (s : State) : State :=
  let n := saveTo s
  let r := makeRec (runTrial s) s
  bumpFree (updFw (fun f => { f with saving := some (h, n, r) }) (setCopy n ((copyOf s n).map fun x => { x with valid := false }) s))

def execSaveSettings (e : Env) (s : State) : Host.Outcome State Fault Refusal :=
  .next (serveLong 2 0x0122 e (fun h s =>
    if s.fw.hitless.isSome || s.fw.saving.isSome then refuse stBusy s else accepted 0x0122 e (saveBegin h) s) s)

/-- The copy has been written. -/
def settingsSaved (s : State) : State :=
  match s.fw.saving with
  | some (h, n, r) => complete h stOk cNone [] (setCopy n (some r) (updFw (fun f => { f with saving := none }) s))
  | none => s

def execSettingsSaved (s : State) : Host.Outcome State Fault Refusal := .next (settingsSaved s)

end Sys2Proof.Machine
end

