-- ==== Sys2Proof/Machine/Write.lean ====
section
/-! DEFINITION. Sys2Proof/Machine/Write.lean: what a parameter write does once its checks have passed (R12, R351): the word, and the
effect its own rule gives it. -/

namespace Sys2Proof.Machine

/-! ## Clearing -/

/-- A counter is cleared; FAULT_CNT takes LOCKED with it (R174). -/
def clearCounter (id : Nat) (s : State) : State :=
  let s1 := setPar id 0 s
  if 0x0F00 ≤ id ∧ id < 0x1140 ∧ id % 16 = 0x0D then
    rechoose (updPrt (fun r => { r with locked := r.locked &&& ~~~portBit ((id - 0x0F00) / 16) }) s1)
  else s1

/-- Sticky bits are cleared by writing 1; a fault bit of a gate port frees its switch (R174). -/
def clearBits (id v : Nat) (s : State) : State :=
  let s1 := setPar id (par s id - Nat.land (par s id) v) s
  if 0x0F00 ≤ id ∧ id < 0x1140 ∧ id % 16 = 0x0C then
    let n := portBit ((id - 0x0F00) / 16)
    rechoose (settle false 0 (updPrt (fun r => { r with
      faultH := if v.testBit 3 then r.faultH &&& ~~~n else r.faultH
      faultL := if v.testBit 4 then r.faultL &&& ~~~n else r.faultL }) s1))
  else s1

/-! ## Write-only parameters -/

/-- SET_VALID arms the shadow (R139). -/
def armShadow (p : Plane) (s : State) : State := updMod p (fun m => { m with armed := true, dirty := false }) s

/-- PHASE_STEP adds to PHASE_PEND (R262). -/
def addSteps (v : Nat) (s : State) : State := setPar clkPhasePend (toBits 9 (phasePend s + signedOf 8 v)) s

/-- A write of a write-only parameter; a 0 asks for nothing. -/
def woWritten (id v : Nat) (s : State) : State :=
  if id = clkPhaseStep then addSteps v s
  else if v = 0 then s
  else if id = timeLatch then latchBases s
  else if id = protTestGo then eachPlane goPlane s
  else if id = ybusSurvey then surveyStart s
  else if id = redCtrl then redCtrlWritten v s.red.aon s
  else if id = fwCtrl then confirm s
  else match modPlane id with
    | some p => if id = modSetValid p.code then armShadow p s else s
    | none => s

/-! ## Read-write parameters -/

/-- A write of a shadow word disarms the shadow and leaves it dirty (R139). -/
def shadowWord (p : Plane) (off v : Nat) (s : State) : State :=
  updMod p (fun m => { m with
    armed := false, dirty := true
    shadow := if off = 0x20 then { m.shadow with per := v }
      else { m.shadow with ports := m.shadow.ports.set (off - 0x21) { act := bits v 20 2, cmp := bits v 0 20 } } }) s

/-- A word of a MOD block with an effect at once. -/
def modWritten (p : Plane) (id v : Nat) (s : State) : State :=
  let off := id % 256
  if 0x20 ≤ off ∧ off ≤ 0x32 then shadowWord p off v s
  else if off = 0x41 then refreshOut p (keepTo p 0 s)
  else s

/-- ACQ.CTRL (R301, R306): capture is enabled or disabled. -/
def captureWritten (old v : Nat) (s : State) : State :=
  if v.testBit 0 ∧ !old.testBit 0 then startCapture s else if old.testBit 0 ∧ !v.testBit 0 then stopCapture s else s

/-- The test patterns of the planes in TEST follow their words (R186). -/
def testWritten (s : State) : State := eachPlane (fun p s => if (lane s p).st = .test then driveTest p s else s) s

/-- PROT.SHORT_LIMIT: every port whose FAULT_CNT is at or above it is LOCKED (R174, R192). -/
def limitWritten (v : Nat) (s : State) : State :=
  let m := portsOf ((List.range 36).filter fun n => v ≤ par s (gateFaultCnt n) % 65536)
  rechoose (settle false 0 (updPrt (fun r => { r with locked := r.locked ||| m }) s))

/-- The effect of an RW word that has just been written. -/
def rwWritten (id old v : Nat) (s : State) : State :=
  if id = protBrkCtrl then setBrk 1 (v.testBit 1) (setBrk 0 (v.testBit 0) s)
  else if protTestSw0 ≤ id ∧ id ≤ protTestDpT2 then testWritten s
  else if id = protShortLimit then limitWritten v s
  else if id = protMAscPref then rechoose s
  else if id = protBChopOn ∧ v = 0 then chopStop s
  else if id = acqCtrl then captureWritten old v s
  else if id = clkRefSel then refSelWritten s
  else if id = clkRefAlt then refAltWritten old v s
  else if id = clkRefMode ∨ id = clkPllmBw then refModeWritten s
  else if id = netEthQEn 0 then dropQueues 0 (fun q => old.testBit q && !v.testBit q) s
  else if id = netEthQEn 1 then dropQueues 1 (fun q => old.testBit q && !v.testBit q) s
  else if 0x0220 ≤ id ∧ id < 0x0260 ∧ id % 4 = 0 then armComparator ((id - 0x0220) / 4) s
  else match modPlane id with
    | some p => modWritten p id v s
    | none => s

/-- A word waits for its engine. -/
def waitWord (id v : Nat) (s : State) : State := { s with wait := s.wait ++ [(id, BitVec.ofNat 32 v)] }

/-- MOD.x.MASK_PTR, which a debug halt freezes (R152): a word written meanwhile waits. -/
def isMaskPtr (id : Nat) : Bool := match modPlane id with | some p => decide (id = modMaskPtr p.code) | none => false

/-- A word reaches its island (R351, class LIVE). -/
def liveWrite (id v : Nat) (s : State) : State :=
  match paramRow id with
  | none => s
  | some d =>
    match d.acc with
    | .ro => s
    | .w1cCnt => if v.testBit 31 then clearCounter id s else s
    | .w1cBits => clearBits id v s
    | .wo => woWritten id v s
    | .rw => if s.isl.halted && isMaskPtr id then waitWord id v s else rwWritten id (par s id) v (setPar id v s)

/-- A BOUNDARY word comes into force at its engine's boundary (R351). -/
def boundaryWord (id v : Nat) (s : State) : State :=
  match engineOf id with
  | .lane => laneWord id v s
  | .campion => campionWord id v s
  | _ => setPar id v s

/-- A RESET word goes to the settings store (R351). -/
def storeWord (id v : Nat) (s : State) : State :=
  { s with stored := tabSet (fun _ => 0xFFFFFFFF#32) s.stored id (BitVec.ofNat 32 v) }

/-- An entry takes effect by its commit class (R351). -/
def applyEntry (s : State) (e : PEntry) : State :=
  match paramRow e.id with
  | none => s
  | some d =>
    match d.commit with
    | .boundary => waitWord e.id e.val.toNat s
    | .reset => storeWord e.id e.val.toNat s
    | _ => liveWrite e.id e.val.toNat s

/-- A staged entry takes effect at the switch whatever its class, except a RESET entry, which is then written to the store (R351,
R357). -/
def switchEntry (s : State) (e : PEntry) : State :=
  match paramRow e.id with
  | none => s
  | some d =>
    match d.commit with
    | .boundary => boundaryWord e.id e.val.toNat s
    | .reset => storeWord e.id e.val.toNat s
    | _ => liveWrite e.id e.val.toNat s

end Sys2Proof.Machine
end

