-- ==== Sys2Proof/Machine/SetParam.lean ====
section
/-! DEFINITION. Sys2Proof/Machine/SetParam.lean: SET_PARAM outside and inside a transaction (R350, R351, R354), GET_PARAM (R349, R363),
and the rows of the table that are a write of one parameter. -/

namespace Sys2Proof.Machine

/-! ## SET_PARAM -/

/-- The reply to a failure names an entry: its index and its ID (R341). -/
def failEntry (f : Nat × PEntry × Nat) : Ans := .now f.2.2 (le 2 f.1 ++ le 2 f.2.1.id)

/-- The steps of several PHASE_STEP entries together stay in the range of R262. -/
def stepsBad (es : List PEntry) (s : State) : Option (Nat × PEntry × Nat) :=
  let d := (es.filter fun e => e.id = clkPhaseStep).foldl (fun a e => a + signedOf 8 e.val.toNat) (phasePend s)
  if -256 ≤ d ∧ d ≤ 255 then none else firstBad (fun e => if e.id = clkPhaseStep then stOutOfRange else stOk) 0 es

/-- The two passes of R350: the first failure, if any. -/
def paramFailure (f : Form) (es : List PEntry) (s : State) : Option (Nat × PEntry × Nat) :=
  ((firstBad (entryStatus f s) 0 es).orElse fun _ => jointBad es s).orElse fun _ => stepsBad es s

/-- Every entry takes effect by its class. -/
def applyAll (es : List PEntry) (s : State) : State := es.foldl applyEntry s

/-- While a transaction is PREPARED or COMMITTING, writes outside it return BUSY (R356). -/
def txnBusy (s : State) : Bool :=
  match s.txn with | some t => t.st == .prepared || t.st == .committing | none => false

/-- SET_PARAM outside a transaction. -/
def directWrite (ctl : Bool) (es : List PEntry) (s : State) : State × Ans :=
  if txnBusy s then refuse stBusy s
  else match paramFailure (if ctl then .control else .config) es s with
    | some f => (s, failEntry f)
    | none => done (applyAll es) s

/-- Replace an earlier value of the same ID in the same group, or add it (R354). -/
def stageOne (l : List PEntry) (e : PEntry) : List PEntry :=
  l.filter (fun x => !(x.id = e.id && x.grp = e.grp)) ++ [e]

/-- An entry is staged after the checks that concern it alone; the CONTROL form keeps to its classes. -/
def stageStatus (ctl seqT : Bool) (s : State) (e : PEntry) : Nat :=
  let cls := match paramRow e.id with | some d => d.commit == .live || d.commit == .boundary | none => true
  firstFail [entryStatus (.staged seqT) s e, need (!ctl || cls) stBadParam]

/-- SET_PARAM with the transaction's HANDLE (R353, R354). -/
def stageWrite (ctl : Bool) (h : Nat) (es : List PEntry) (s : State) : State × Ans :=
  match s.txn with
  | none => refuse stNoHandle s
  | some t =>
    if t.handle ≠ h then refuse stNoHandle s
    else if t.st ≠ .openT then refuse stWrongState s
    else match firstBad (stageStatus ctl t.seqT s) 0 es with
      | some f => (s, failEntry f)
      | none =>
        let l := es.foldl stageOne t.entries
        if 256 < l.length then refuse stBusy s else done (fun s => { s with txn := some { t with entries := l } }) s

/-- The work of SET_PARAM. -/
def paramBody (ctl : Bool) (h resv : Nat) (es : List PEntry) (s : State) : State × Ans :=
  if resv ≠ 0 then refuse stBadParam s
  else if h = 0 then directWrite ctl es s else stageWrite ctl h es s

/-- SET_PARAM, in its CONFIG form or its CONTROL form. -/
def setParam (ctl : Bool) (e : Env) (es : List PEntry) (resv : Nat) (s : State) : State :=
  let cls := if ctl then 1 else 2
  let op := if ctl then 0x0030 else 0x0101
  withLength (decide (1 ≤ es.length) && decide (es.length ≤ 64)) cls op e (serveShort cls op e (paramBody ctl e.handle resv es)) s

def execSetParam (e : Env) (es : List PEntry) (resv : Nat) (s : State) : Host.Outcome State Fault Refusal :=
  .next (setParam false e es resv s)

def execSetParamControl (e : Env) (es : List PEntry) (resv : Nat) (s : State) : Host.Outcome State Fault Refusal :=
  .next (setParam true e es resv s)

/-! ## GET_PARAM (R349, R363) -/

/-- The first undefined ID with its index. -/
def firstUndefined : Nat → List Nat → Option (Nat × Nat)
  | _, [] => none
  | i, id :: t => if (paramRow id).isSome then firstUndefined (i + 1) t else some (i, id)

/-- One entry of the reply. -/
def getEntry (s : State) (id : Nat) : List Byte :=
  le 2 id ++ le 2 0 ++ le 4 (match paramRow id with | some d => readParam s id d | none => 0)

/-- READ_CLEAR clears the W1C counters that are named. -/
def readClear (ids : List Nat) (s : State) : State :=
  ids.foldl (fun s id => match paramRow id with
    | some d => if d.acc = .w1cCnt then clearCounter id s else s
    | none => s) s

/-- GET_PARAM; in recovery for the FW block alone (R399). -/
def getBody (clear : Bool) (ids : List Nat) (s : State) : State × Ans :=
  if s.isl.recovery && !ids.all (fun id => decide (id / 256 = 0x17)) then refuse stWrongState s
  else match firstUndefined 0 ids with
    | some f => (s, .now stBadParam (le 2 f.1 ++ le 2 f.2))
    | none =>
      let body := le 2 ids.length ++ le 2 0 ++ ids.flatMap (getEntry s)
      (if clear then readClear ids s else s, .now stOk body)

def getParam (e : Env) (ids : List Nat) (s : State) : State :=
  withLength (decide (1 ≤ ids.length) && decide (ids.length ≤ 64)) 2 0x0100 e
    (serve 2 0x0100 e 9 (fun _ => false) (fun _ => getBody (e.flags.testBit 3) ids)) s

def execGetParam (e : Env) (ids : List Nat) (s : State) : Host.Outcome State Fault Refusal := .next (getParam e ids s)

/-! ## Rows that are a write of one parameter

Each is a SET_PARAM of the CONFIG form with the entries that its row names. -/

/-- SET_PARAM with words for some IDs. -/
def writeWords (e : Env) (ws : List (Nat × Word)) (s : State) : State :=
  setParam false e (ws.map fun w => { id := w.1, val := w.2 }) 0 s

def execTestGo (e : Env) (v : Word) (s : State) : Host.Outcome State Fault Refusal := .next (writeWords e [(protTestGo, v)] s)

def execModeWrite (e : Env) (p : Plane) (v : Word) (s : State) : Host.Outcome State Fault Refusal :=
  .next (writeWords e [(ctlMode p.code, v)] s)

def execSetValid (e : Env) (p : Plane) (v : Word) (s : State) : Host.Outcome State Fault Refusal :=
  .next (writeWords e [(modSetValid p.code, v)] s)

def execTimeLatch (e : Env) (v : Word) (s : State) : Host.Outcome State Fault Refusal := .next (writeWords e [(timeLatch, v)] s)

/-- The ID of a numbered parameter; for a number that names none, an ID that no parameter has, so that the write answers BAD_PARAM. -/
def numbered (n limit : Nat) (f : Nat → Nat) : Nat := if n < limit then f n else 0xFFFF

/-- The event time, then the base with the armed bit. -/
def execComparatorArm (e : Env) (tc base : Nat) (t : BitVec 48) (s : State) : Host.Outcome State Fault Refusal :=
  .next (writeWords e [(numbered tc 16 timeTcEvtLo, t.truncate 32), (numbered tc 16 timeTcEvtHi, (t >>> 32).truncate 32),
    (numbered tc 16 timeTcCtrl, BitVec.ofNat 32 (base % 4 + 4))] s)

def execComparatorDisarm (e : Env) (tc base : Nat) (s : State) : Host.Outcome State Fault Refusal :=
  .next (writeWords e [(numbered tc 16 timeTcCtrl, BitVec.ofNat 32 (base % 4))] s)

def execPhaseStep (e : Env) (v : Word) (s : State) : Host.Outcome State Fault Refusal := .next (writeWords e [(clkPhaseStep, v)] s)

def execRefSelWrite (e : Env) (v : Word) (s : State) : Host.Outcome State Fault Refusal := .next (writeWords e [(clkRefSel, v)] s)

/-- REF_MODE or PLLM_BW. -/
def execRefModeWrite (e : Env) (bw : Bool) (v : Word) (s : State) : Host.Outcome State Fault Refusal :=
  .next (writeWords e [(if bw then clkPllmBw else clkRefMode, v)] s)

def execYbusSurvey (e : Env) (v : Word) (s : State) : Host.Outcome State Fault Refusal := .next (writeWords e [(ybusSurvey, v)] s)

def execGoCold (e : Env) (s : State) : Host.Outcome State Fault Refusal := .next (writeWords e [(redCtrl, 1)] s)

def execTake (e : Env) (s : State) : Host.Outcome State Fault Refusal := .next (writeWords e [(redCtrl, 2)] s)

def execRelease (e : Env) (s : State) : Host.Outcome State Fault Refusal := .next (writeWords e [(redCtrl, 4)] s)

def execConfirm (e : Env) (s : State) : Host.Outcome State Fault Refusal := .next (writeWords e [(fwCtrl, 1)] s)

/-- ACQ.CTRL with bit 0 set, the other bits as the host gives them. -/
def execCaptureEnable (e : Env) (v : Word) (s : State) : Host.Outcome State Fault Refusal :=
  .next (writeWords e [(acqCtrl, v ||| 1)] s)

/-- ACQ.CTRL with bit 0 clear. -/
def execCaptureStop (e : Env) (v : Word) (s : State) : Host.Outcome State Fault Refusal :=
  .next (writeWords e [(acqCtrl, v &&& ~~~1)] s)

def execQueueDisable (e : Env) (port : Nat) (v : Word) (s : State) : Host.Outcome State Fault Refusal :=
  .next (writeWords e [(numbered port 2 netEthQEn, v)] s)

end Sys2Proof.Machine
end

