-- ==== Sys2Proof/Machine/Txn.lean ====
section
/-! DEFINITION. Sys2Proof/Machine/Txn.lean: configuration transactions (R353 to R360), and the writing and reading of tiles (R110,
R339, R358). -/

namespace Sys2Proof.Machine

abbrev opTxn : Nat := 0x0110

/-! ## Tiles -/

/-- Check 3 of R110: the field rules of R109 that hold on every plane. -/
def tileFieldsOk (data : List Byte) : Bool :=
  (List.range 64).all fun e =>
    let w := wordAt (data.drop (32 * e))
    decide (bits (w 0) 0 16 ≠ 0) && decide (bits (w 4) 0 16 ≤ 0x8000) && decide (w 5 = 0) && decide (w 6 = 0) &&
      decide (bits (w 7) 16 16 = 0)

/-- Check 4 of R110, for the windows that a state's words give. -/
def tileWindowsOk (s : State) (t : Nat) (data : List Byte) : Bool :=
  allPlanes.all fun p => !inWindow s p t || tileFits p data

/-- The content and the CRC of a tile image of 2,052 bytes. -/
def imageTile (img : List Byte) : Tile := { written := true, data := img.take 2048, crc := ofLe (img.drop 2048) }

/-- The image of a tile; an unwritten one holds zeros and the complement of their CRC (R436). -/
def tileImage (t : Tile) : List Byte :=
  if t.written then t.data ++ le 4 t.crc
  else
    let z := List.replicate 2048 (0 : Byte)
    z ++ le 4 (0xFFFFFFFF - crc32c z)

/-- Store a tile in a physical place. -/
def putTile (p : Nat) (t : Tile) (s : State) : State := updRgt (fun r => { r with tiles := tabSet (fun _ => {}) r.tiles p t }) s

/-- A direct write rewrites a tile in place (R110, R358). -/
def writeTile (t : Nat) (img : List Byte) (s : State) : State := setBad t false (evict t (putTile (physTile s t) (imageTile img) s))

/-- Checks 2 and 3 of R110. -/
def imageStatus (img : List Byte) : Nat :=
  need (decide (crc32c (img.take 2048) = ofLe (img.drop 2048)) && tileFieldsOk (img.take 2048)) stBadParam

/-- The checks of R110 for a direct write. -/
def directStatus (s : State) (t : Nat) (img : List Byte) : Nat :=
  firstFail [need (allPlanes.all fun p => !inWindow s p t || !poweredSt (lane s p).st) stWrongState,
    imageStatus img, need (tileWindowsOk s t (img.take 2048)) stBadParam]

/-- Tiles staged in a group, other than one. -/
def stagedOther (t : Txn) (grp tile : Nat) : List (Nat × Nat × List Byte) :=
  t.tiles.filter fun x => !(x.1 = grp && x.2.1 = tile)

/-- A group holds at most 32 tiles (R359). -/
def groupFull (t : Txn) (grp tile : Nat) : Bool := decide (32 ≤ ((stagedOther t grp tile).filter fun x => x.1 = grp).length)

/-- A whole tile of RGT_WRITE: written, or staged in the transaction. -/
def takeTile (h : Nat) (p : Pre) (img : List Byte) (s : State) : State × Ans :=
  if h = 0 then
    let st := directStatus s p.unit img
    if st = stOk then done (writeTile p.unit img) s else refuse st s
  else match s.txn with
    | none => refuse stNoHandle s
    | some t =>
      if imageStatus img ≠ stOk then refuse (imageStatus img) s
      else if groupFull t p.grp p.unit then refuse stNotAtomic s
      else done (fun s => { s with txn := some { t with tiles := stagedOther t p.grp p.unit ++ [(p.grp, p.unit, img)] } }) s

/-- The fragments of a unit are used up. -/
def dropFrag (f : Frag) (s : State) : State := updRgt (fun r => { r with frags := r.frags.filter fun x => decide (x ≠ f) }) s

/-- Where an RGT_WRITE belongs: outside a transaction, or in the one its HANDLE names (R353, R356). -/
def writeTarget (h : Nat) (s : State) : Nat :=
  if h = 0 then need (!txnBusy s) stBusy
  else match s.txn with
    | none => stNoHandle
    | some t => if t.handle ≠ h then stNoHandle else need (t.st == .openT) stWrongState

/-- RGT_WRITE (R339): one fragment; the one that completes a tile answers with the checks of R110. -/
def rgtWrite (e : Env) (p : DataPay) (s : State) : State × Ans :=
  let seqT : Bool := match s.txn with | some t => t.seqT && decide (e.handle ≠ 0) | none => false
  if writeTarget e.handle s ≠ stOk then refuse (writeTarget e.handle s) s
  else if p.pre.b6 ≠ 0 ∨ (p.pre.grp ≠ 0 ∧ !seqT) ∨ 192 ≤ p.pre.unit ∨ 2052 < p.pre.offset + p.data.length then refuse stBadParam s
  else match addFrag p.pre.unit p.pre.grp e.handle p.pre.offset p.data s.rgt.frags with
    | none => refuse stBadParam s
    | some (f, fs) =>
      let s1 := updRgt (fun r => { r with frags := fs }) s
      match fragWhole 2052 f with
      | none => (s1, say stOk)
      | some img => takeTile e.handle p.pre img (dropFrag f s1)

def execRgtWrite (e : Env) (p : DataPay) (s : State) : Host.Outcome State Fault Refusal :=
  .next (withLength (dataLen p.data) 3 0x0200 e (serveShort 3 0x0200 e (rgtWrite e p)) s)

/-- The prefix of R339. -/
def preBytes (p : Pre) : List Byte := le 4 p.unit ++ le 2 p.offset ++ le 1 p.b6 ++ le 1 p.grp

/-- RGT_READ (R339): the tile in force, with its CRC, from an offset. -/
def rgtRead (p : Pre) (s : State) : State × Ans :=
  if p.b6 ≠ 0 ∨ p.grp ≠ 0 ∨ 192 ≤ p.unit ∨ 2052 ≤ p.offset then refuse stBadParam s
  else (s, .now stOk (preBytes p ++ ((tileImage (tileAt s (physTile s p.unit))).drop p.offset).take 1432))

def execRgtRead (e : Env) (p : Pre) (s : State) : Host.Outcome State Fault Refusal :=
  .next (serveShort 3 0x0201 e (rgtRead p) s)

/-! ## The end of a transaction -/

/-- Put a physical tile among the free spares, in rising order. -/
def addSpare (p : Nat) : List Nat → List Nat
  | [] => [p]
  | x :: t => if p ≤ x then p :: x :: t else x :: addSpare p t

/-- The spares that a transaction holds are free again. -/
def freeSpares (t : Txn) (s : State) : State :=
  updRgt (fun r => { r with
    spares := t.copies.foldl (fun l c => addSpare c.2 l) r.spares, frags := r.frags.filter fun f => decide (f.owner ≠ t.handle) }) s

/-- The transaction ends. -/
def endTxn (st cause : Nat) (results : List Byte) (s : State) : State :=
  match s.txn with
  | none => s
  | some t => complete t.handle st cause results { freeSpares t s with txn := none }

/-! ## TXN_OPEN, TXN_PREPARE -/

def execTxnOpen (e : Env) (s : State) : Host.Outcome State Fault Refusal :=
  .next (serve 2 opTxn e 3 (fun _ => true) (fun h s =>
    if s.txn.isSome then refuse stBusy s
    else accepted opTxn e (fun s => { s with txn := some { handle := h, seqT := e.flags.testBit 1 } }) s) s)

/-- A command on a transaction in one of the states that R353 lists for it. -/
def onTxn (e : Env) (ok : TxnState → Bool) (f : Txn → State → State × Ans) (s : State) : State × Ans :=
  match s.txn with
  | none => refuse stNoHandle s
  | some t => if t.handle ≠ e.handle then refuse stNoHandle s else if ok t.st then f t s else refuse stWrongState s

/-- The groups of a transaction: the last one, and whether they run from 0 without a gap (R359). -/
def groupsOf (t : Txn) : List Nat := t.entries.map (·.grp) ++ t.tiles.map (·.1)
def lastGroup (t : Txn) : Nat := (groupsOf t).foldl max 0
def groupsOk (t : Txn) : Bool := (List.range (lastGroup t + 1)).all fun g => (groupsOf t).isEmpty || (groupsOf t).contains g

def execTxnPrepare (e : Env) (s : State) : Host.Outcome State Fault Refusal :=
  .next (serveShort 2 0x0111 e (onTxn e (· == .openT) fun t s =>
    if groupsOk t then done (fun s => { s with txn := some { t with st := .preparing } }) s else refuse stBadParam s) s)

/-! ## PREPARED (R355) -/

/-- The state conditions of the entries, STOPPED owners among them. -/
def stagedBad (t : Txn) (s : State) : Option (Nat × PEntry × Nat) :=
  firstBad (fun e => firstFail [classStatus false s e, stateStatus s e.id e.val.toNat]) 0 t.entries

/-- The joining rules and the tiles of each group, on the values as they will stand after it: the ID and the status of the first
failure. -/
def groupBad (t : Txn) : Nat → State → Option (Nat × Nat)
  | 0, _ => none
  | n + 1, s =>
    let g := lastGroup t - n
    let es := t.entries.filter fun e => e.grp = g
    let s1 := withWords es s
    match jointBad es s with
    | some f => some (f.2.1.id, f.2.2)
    | none =>
      if (t.tiles.filter fun x => x.1 = g).all fun x => tileWindowsOk s1 x.2.1 (x.2.2.take 2048) then groupBad t n s1
      else some (0, stBadParam)

/-- The first failure of a preparation. -/
def prepareBad (t : Txn) (s : State) : Option (Nat × Nat) :=
  ((stagedBad t s).map fun f => (f.2.1.id, f.2.2)).orElse fun _ => groupBad t (lastGroup t + 1) s

/-- Copy a group's tiles into the lowest free spares (R358). -/
def copyGroup (g : Nat) (s : State) : State :=
  match s.txn with
  | none => s
  | some t =>
    let l := t.tiles.filter fun x => x.1 = g
    let cs := (l.map fun x => x.2.1).zip s.rgt.spares
    let s1 := (l.zip s.rgt.spares).foldl (fun s x => putTile x.2 (imageTile x.1.2.2) s) s
    updRgt (fun r => { r with spares := r.spares.drop l.length }) { s1 with txn := some { t with copies := cs } }

/-- The PREPARED event (R342). -/
def preparedEvent (t : Txn) (id isl st : Nat) (s : State) : State :=
  match findOp s t.handle with
  | some o => sendTo o.chan (eventPacket s 1 0x0002 t.handle 0 st (le 2 id ++ le 1 isl)) s
  | none => s

/-- The outcome of a preparation. -/
def prepared (s : State) : State :=
  match s.txn with
  | none => s
  | some t =>
    if t.st ≠ .preparing then s
    else match prepareBad t s with
      | some f =>
        endTxn f.2 cNone [] (preparedEvent t f.1 (if f.1 = 0 then 0 else islandNo (islandOf f.1)) f.2 s)
      | none => preparedEvent t 0 0xFF stOk (copyGroup 0 { s with txn := some { t with st := .prepared } })

def execPrepared (s : State) : Host.Outcome State Fault Refusal := .next (prepared s)

/-! ## TXN_COMMIT (R356) -/

/-- The length of d control periods, ns. -/
def periodsNs (d : Int) (s : State) : Rat := (d : Rat) * nCyc s * (5 / 2)

/-- The first outer boundary at least 1 ms ahead. -/
def boundaryAhead (s : State) : Nat :=
  let per := max 1 (nCyc s)
  let ms := (400000 + per - 1) / per
  let o := max 1 (outerN s)
  (sampleK s + ms + o - 1) / o * o

/-- The transaction holds entries that Campion reads. -/
def readByCampion (t : Txn) : Bool := t.entries.any fun e => islandOf e.id == .app

/-- The status of a commit at a sample. -/
def commitStatus (t : Txn) (kc : Nat) (s : State) : Nat :=
  let d := markDiff kc (sampleK s)
  if periodsNs d s < 1000000 then stLate
  else if 60000000000 < periodsNs d s then stOutOfRange
  else need (!readByCampion t || decide (kc % max 1 (outerN s) = 0)) stBadParam

def execTxnCommit (e : Env) (kc : Nat) (s : State) : Host.Outcome State Fault Refusal :=
  .next (serveShort 2 0x0112 e (onTxn e (· == .prepared) fun t s =>
    let k := if kc = 0 then boundaryAhead s else kc
    if commitStatus t k s ≠ stOk then refuse (commitStatus t k s) s
    else ({ s with txn := some { t with st := .committing, kc := k, due := k } }, .now stOk (le 8 k))) s)

/-! ## TXN_ABORT, TXN_TIMEOUT -/

/-- The sample of the next switch has come. -/
def switchDue (t : Txn) (s : State) : Bool := decide (0 ≤ markDiff (sampleK s) t.due)

/-- An abort: before k_c the transaction is CANCELLED; once group 0 has switched the sequence stops with TRUNCATED (R359). -/
def abortTxn (s : State) : State :=
  match s.txn with
  | none => s
  | some t =>
    if t.st ≠ .committing then endTxn stCancelled cHost [] s
    else if 0 < t.grp then endTxn stTruncated cHost (le 8 t.kc) s
    else if t.ctlDone || switchDue t s then { s with txn := some { t with abort := true } }
    else endTxn stCancelled cHost [] s

def execTxnAbort (e : Env) (s : State) : Host.Outcome State Fault Refusal :=
  .next (serveShort 2 0x0113 e (onTxn e (fun _ => true) fun _ s => done abortTxn s) s)

/-- SYS.TXN_TIMEOUT has passed since TXN_OPEN (R353). -/
def txnTimeout (s : State) : State :=
  match s.txn with
  | some t => if t.st = .committing then s else endTxn stCancelled cTimeout [] s
  | none => s

def execTxnTimeout (s : State) : Host.Outcome State Fault Refusal := .next (txnTimeout s)

/-! ## The switch (R357 to R359) -/

/-- An island runs. -/
def islandRuns (s : State) : Island → Bool
  | .ctl => s.isl.ctl | .app => s.isl.app | .sys => s.isl.sys | .acq => s.isl.acq | .aon => s.isl.aon | .prt => s.isl.prt

/-- The pointers of the copied tiles move to their spares, the tiles they leave become spares, and the cache lines are invalid. -/
def swapTiles (t : Txn) (s : State) : State :=
  t.copies.foldl (fun s c =>
    let old := physTile s c.1
    setBad c.1 false (evict c.1 (updRgt (fun r => { r with
      ptr := tabSet (fun i => i) r.ptr c.1 c.2, spares := addSpare old r.spares }) s))) s

/-- The entries of the group in work that are for some islands. -/
def groupWords (t : Txn) (isl : Island → Bool) : List PEntry := t.entries.filter fun e => e.grp = t.grp && isl (islandOf e.id)

/-- ISL_CTL switches to its part of a group: its words, and the pointers of the tiles. The copies are used up by the swap. -/
def switchCtl (t : Txn) (s : State) : State :=
  { swapTiles t ((groupWords t (· == .ctl)).foldl switchEntry s) with txn := some { t with copies := [], ctlDone := true } }

/-- ISL_CTL's part of a transaction at the strobe S_k_c: the staged words govern the sample of that strobe (R357). -/
def ctlSwitch (s : State) : State :=
  match s.txn with
  | some t => if t.st = .committing && switchDue t s && !t.ctlDone then switchCtl t s else s
  | none => s

def execControlStrobe (bs : List Nat) (s : State) : Host.Outcome State Fault Refusal := .next (controlStrobe ctlSwitch bs s)

/-- Every other running island switches to its part of a group, and ISL_CTL where no strobe has brought it there. -/
def switchGroup (t : Txn) (s : State) : State :=
  let s1 := (groupWords t fun i => decide (i ≠ .ctl) && islandRuns s i).foldl switchEntry s
  if s.isl.ctl && !t.ctlDone then switchCtl t s1 else s1

/-- The islands with a part in a group that have not switched, in the order of R15. -/
def missing (t : Txn) (s : State) : List Nat :=
  let part (i : Island) : Bool := !(groupWords t (· == i)).isEmpty || (i == .ctl && t.tiles.any fun x => x.1 = t.grp)
  ([Island.ctl, .app, .sys, .acq, .aon, .prt].filter fun i => part i && !islandRuns s i && !(i == .ctl && t.ctlDone)).map islandNo

/-- After a switch: the end, or the next group of a sequence. -/
def afterSwitch (t : Txn) (gone : List Nat) (s : State) : State :=
  let s1 := if t.seqT then progress t.handle t.due s else s
  if !gone.isEmpty then endTxn stTruncated cIsland (le 8 t.kc ++ gone.flatMap (le 1)) s1
  else if lastGroup t ≤ t.grp then endTxn stOk cNone (le 8 t.kc) s1
  else if t.abort then endTxn stTruncated cHost (le 8 t.kc) s1
  else copyGroup (t.grp + 1) { s1 with txn := some { t with grp := t.grp + 1, due := boundaryAhead s1, copies := [], ctlDone := false } }

/-- One switch of a transaction that is COMMITTING. While ISL_CTL is halted by debug every island waits (R360); across a k_c that finds
it stopped, the command itself says that k_c has come (R357). -/
def txnSwitch (s : State) : State :=
  match s.txn with
  | none => s
  | some t =>
    if t.st ≠ .committing || !(switchDue t s || !s.isl.ctl) || s.isl.halted then s
    else afterSwitch t (missing t s) (switchGroup t s)

/-- Group 0 at k_c. -/
def execTxnSwitch (s : State) : Host.Outcome State Fault Refusal :=
  .next (match s.txn with | some t => if t.grp = 0 then txnSwitch s else s | none => s)

/-- A later group; `ok` is whether its copies verified. -/
def txnGroupSwitch (ok : Bool) (s : State) : State :=
  match s.txn with
  | none => s
  | some t =>
    if t.grp = 0 then s
    else if !ok && !t.ctlDone then endTxn stTruncated cCondition (le 8 t.kc) s
    else txnSwitch s

def execTxnGroupSwitch (ok : Bool) (s : State) : Host.Outcome State Fault Refusal := .next (txnGroupSwitch ok s)

end Sys2Proof.Machine
end

