-- ==== Sys2Proof/Machine/Reset.lean ====
section
/-! DEFINITION. Sys2Proof/Machine/Reset.lean: loss of the input (R40 to R42, R188, R189), and the system resets (R58, R415 to R418,
R426). -/

namespace Sys2Proof.Machine

/-! ## System resets -/

/-- A reset begins: Sorrel takes every active plane to its safe state, and the open record closes within the 20 ms (R58, R418). A
reset that has begun runs to completion. -/
def beginReset (kind : Nat) (s : State) : State :=
  if s.prt.resetting.isSome then s
  else updPrt (fun r => { r with resetting := some kind }) (closeRecord 2 (causeEvery 0x0D 0 s))

/-- The slots that a system reset keeps: CLOSED ones, with nothing holding them (R418). -/
def keptSlots (s : State) : List Slot := s.acq.slots.map fun r => if r.st = .closed then { r with held := 0 } else {}

/-- Flash, OTP and boot control after a reset (R392, R393, R413): a STAGED copy of an activation that has not swapped is dropped,
and a new nonce is drawn. -/
def keptFw (s : State) : Fw :=
  let s1 := match s.fw.hitless with | some h => if h.stage < 4 then dropStaged h s else s | none => s
  { s1.fw with
    chosen := none, run := none, loaded := none, setHash := [], saving := none, upd := none, hitless := none, stopped := false
    life := if s.fw.life = 2 then 1 else s.fw.life, nonce := Config.freeBytes s.free }

/-- What ISL_AON keeps: the snapshots and its calibration. -/
def keptRed (s : State) : Red := { snaps := s.red.snaps, calibrated := s.red.calibrated, aon := s.red.aon }

/-- The words of a reset: reset values, with the count of resets, the boots and the cause (R426), and ISL_AON's calibration. -/
def resetWords (kind : Nat) (keep : Bool) (s : State) : Tab Word :=
  let t : State := { params := [] }
  let t1 := count sysResetCnt (setPar sysResetCnt (par s sysResetCnt) t)
  let t2 := setPar fwBootCnt (par s fwBootCnt) (setPar sysResetCause (0xF0 + kind) t1)
  let t3 := if kind = 3 then setParBit sysStartEvents 2 true t2 else t2
  (if keep then setPar redAonRate (par s redAonRate) t3 else t3).params

/-- Every island after a system reset (R418); `keep` is whether ISL_AON kept its supply throughout. -/
def systemReset (kind : Nat) (keep : Bool) (s : State) : State :=
  { pending := s.pending, pins := s.pins, wire := s.wire, free := s.free + 1
    params := resetWords kind keep s
    stored := s.stored
    isl := { askRecovery := s.isl.askRecovery }
    prt := { supplyLoss := s.prt.supplyLoss && decide (kind ≠ 0), m5v := if kind = 0 && !keep then 0 else s.prt.m5v }
    acq := { slots := if kind = 0 then [{}, {}, {}, {}, {}, {}, {}, {}] else keptSlots s, archive := s.acq.archive }
    red := if keep then keptRed s else {}
    fw := keptFw s }

/-- RESET_N has been low for 10 µs (R58, R373). -/
def resetPin (s : State) : State :=
  let s1 := { s with pins := { s.pins with resetLow := true } }
  if alive s then requestFail 2 (beginReset 1 s1) else s1

def execResetNLow (s : State) : Host.Outcome State Fault Refusal := .next (resetPin s)

/-- The islands stay in reset while RESET_N is low (R58): gate ports passive-off, the contacts open, no supply but M5V (R66). -/
def holdReset (s : State) : State := { s with isl := { s.isl with inReset := true, prt := false, aon := false } }

/-- RESET_N is high when the islands have entered reset: it never went low, or what drives it from outside has let it go; the level is
free (log entry 74). -/
def resetHigh (s : State) : Bool := !s.pins.resetLow || Config.freeBool s.free

/-- 20 ms after a reset began, the islands enter reset, and leave it into the power-up sequence when RESET_N is high. While it stays
low they are held, until a lock of a PLL shows that they have left (log entry 74). -/
def resetEntry (s : State) : State :=
  match s.prt.resetting with
  | some kind =>
    let s1 := systemReset kind true { s with pins := { s.pins with resetLow := !resetHigh s } }
    if resetHigh s then s1 else holdReset s1
  | none => s

def execExternalResetEntry (s : State) : Host.Outcome State Fault Refusal := .next (resetEntry s)

/-- POWER_UP (R42, R415). -/
def execPowerUp (keep : Bool) (s : State) : Host.Outcome State Fault Refusal := .next (systemReset 0 keep s)

/-- RESET (R416): SYSTEM or RECOVERY. -/
def resetCommand (sel resv : Nat) (s : State) : State × Ans :=
  if 2 ≤ sel ∨ resv ≠ 0 then refuse stBadParam s
  else if allPlanes.all fun p => (lane s p).st == .off || (lane s p).st == .stopped || (lane s p).st == .ready then
    done (fun s => beginReset 2 { s with isl := { s.isl with askRecovery := decide (sel = 1) } }) s
  else refuse stWrongState s

def execReset (e : Env) (sel resv : Nat) (s : State) : Host.Outcome State Fault Refusal :=
  .next (serveShort 2 0x0121 e (resetCommand sel resv) s)

/-- With AUTO_RESET at 1, ISL_CTL or ISL_APP has stayed stopped for AUTO_RESET_T (R417). -/
def supervisorReset (s : State) : State :=
  if parBit s sysAutoReset 0 && (!s.isl.ctl || !s.isl.app) && !s.prt.supplyLoss && s.isl.prt then beginReset 3 s else s

def execSupervisorReset (s : State) : Host.Outcome State Fault Refusal := .next (supervisorReset s)

/-! ## The input (R40 to R42) -/

/-- SYS.VIN is `v`, in 10 mV (R44). From 16.0 V to below 18 V the excursion raises SUPPLY_LOW once; it ends at 18 V (R40). -/
def supplyLow (v : Nat) (s : State) : State :=
  if !s.isl.prt then s
  else
    let s1 := setPar sysVin (v % 65536) s
    if 1800 ≤ v then updPrt (fun r => { r with supplyLow := false }) s1
    else if 1600 ≤ v ∧ !s.prt.supplyLow then raiseNum 0x01 (v % 65536) (updPrt (fun r => { r with supplyLow := true }) s1)
    else s1

def execSupplyLow (v : Nat) (s : State) : Host.Outcome State Fault Refusal := .next (supplyLow v s)

/-- ISL_PRT and ISL_AON lose their supply too (R41, R42): what the islands held is gone; flash, OTP and the stored counts stay. -/
def powerLost (s : State) : State :=
  { pending := s.pending, pins := s.pins, wire := s.wire, free := s.free, stored := s.stored
    params := s.params.filter fun x => x.1 = sysResetCnt ∨ x.1 = fwBootCnt
    isl := { power := false, prt := false, aon := false }
    prt := { supplyLoss := true }
    acq := { archive := s.acq.archive }
    fw := { keptFw s with nonce := s.fw.nonce } }

/-- What happens with time alone where no row of the table stands for it (R41): with every command taken, hold-up ends once the relay
of R189 has dropped (log entry 75). -/
def idle (s : State) : State := if s.prt.holdUp && s.prt.mcGone then powerLost s else s

/-- SUPPLY_LOSS (R41). A module without ISL_PRT, as in COLD, has no hold-up (R42). -/
def supplyLoss (s : State) : State :=
  if !s.isl.prt then powerLost s
  else if s.prt.supplyLoss then s
  else
    let s1 := raiseNum 0x02 0 (updPrt (fun r => { r with supplyLoss := true }) s)
    let s2 := requestFail 1 (setBrk 0 false (causeEvery 0x08 0 s1))
    presence false { s2 with isl := { s2.isl with health := false } }

def execSupplyLoss (s : State) : Host.Outcome State Fault Refusal := .next (supplyLoss s)

/-- Tansy writes the power-fail record; the page is a ring of 256 (R41, R386). -/
def powerFailRecord (s : State) : State :=
  if s.prt.supplyLoss && s.isl.sys then
    let r : FailRec := { mono := monoNs s, net := netNs s, states := allPlanes.map fun p => ctlStateWord (lane s p), events := s.host.recent }
    updFw (fun f => { f with ring := (r :: f.ring).take 256 }) s
  else s

def execPowerFailRecord (s : State) : Host.Outcome State Fault Refusal := .next (powerFailRecord s)

/-- 2 ms after the loss the core islands power down, the links drop, and ISL_PRT drives MDCLK. -/
def corePowerDown (s : State) : State :=
  if s.prt.supplyLoss then
    { s with
      isl := { s.isl with ctl := false, app := false, sys := false, acq := false, sysUp := false, ext := false, mdclk := false,
                          mdRun := false, esup := false }
      prt := { s.prt with holdUp := s.isl.prt && s.isl.mdRun }
      eth0 := {}, eth1 := {} }
  else s

def execCorePowerDown (s : State) : Host.Outcome State Fault Refusal := .next (corePowerDown s)

/-- 40 ms after the loss (R189). -/
def mcRelayDrop (s : State) : State :=
  if s.prt.supplyLoss then setBrk 1 false (updPrt (fun r => { r with mcGone := true }) s) else s

def execMcRelayDrop (s : State) : Host.Outcome State Fault Refusal := .next (mcRelayDrop s)

/-- Plane G has been in SAFE for PROT.G.BRK_DELAY (R188, R373). -/
def brkDelay (s : State) : State :=
  if (lane s .g).st = .safe ∧ parBit s protBrkCtrl 0 then requestFail 3 (setBrk 0 false s) else s

def execBrkDelay (s : State) : Host.Outcome State Fault Refusal := .next (brkDelay s)

/-! ## JTAG (R63) -/

/-- EXTEST and debug instructions are permitted in MANUFACTURE and DEBUG_UNLOCKED while every plane is OFF. -/
def jtagOpen (s : State) : Bool := (decide (s.fw.life = 0) || decide (s.fw.life = 2)) && allOff s

/-- IDCODE and BYPASS are in force in every lifecycle state; EXTEST and debug are refused unless permitted, and a debug instruction
opens a session. A module without power or in reset holds TDO at high impedance (R66). -/
def jtag (i : JtagIns) (s : State) : State :=
  let put (x : Option JtagIns) : State := { s with isl := { s.isl with jtagIns := x } }
  if !alive s then put none
  else match i with
  | .idcode | .bypass => put (some i)
  | .extest => put (if jtagOpen s then some i else none)
  | .debug => if jtagOpen s then { s with isl := { s.isl with jtagIns := some i, session := true } } else put none

def execJtagInstruction (i : JtagIns) (s : State) : Host.Outcome State Fault Refusal := .next (jtag i s)

end Sys2Proof.Machine
end

