-- ==== Sys2Proof/Machine/Firmware.lean ====
section
/-! DEFINITION. Sys2Proof/Machine/Firmware.lean: firmware updates (R391, R394, R395), activation (R404 to R408), DEBUG_UNLOCK (R393)
and ATTEST (R412). -/

namespace Sys2Proof.Machine

/-! ## FW_UPDATE -/

/-- The status FW_UPDATE answers (R394, R399). -/
def updateStatus (len kind resv : Nat) (base : List Byte) (s : State) : Nat :=
  let digest := imageDigest (runManifest s)
  firstFail [need (decide (kind < 4) && decide (resv = 0) && (decide (kind = 1) || base.all (· == 0))) stBadParam,
    need (decide (0 < len) && decide (len ≤ 48 * 2 ^ 20)) stOutOfRange,
    need (!s.isl.recovery || decide (kind = 0)) stWrongState,
    need s.fw.upd.isNone stBusy,
    need (!runTrial s && s.fw.hitless.isNone && (decide (kind ≠ 1) || (s.fw.run.isSome && decide (base = digest)))) stWrongState]

/-- The transfer begins: a slot that is to be written becomes EMPTY. -/
def beginUpdate (h len kind : Nat) (s : State) : State :=
  let s1 := if kind < 2 then updSlotFw (otherSlot s) (fun _ => {}) s else s
  updFw (fun f => { f with upd := some { handle := h, len := len, kind := kind } }) s1

def fwUpdate (e : Env) (len kind resv : Nat) (base : List Byte) (h : Nat) (s : State) : State × Ans :=
  let st := updateStatus len kind resv base s
  if st = stOk then accepted 0x0130 e (beginUpdate h len kind) s else refuse st s

def execFwUpdate (e : Env) (len kind resv : Nat) (base : List Byte) (s : State) : Host.Outcome State Fault Refusal :=
  .next (withLength (decide (base.length = 64)) 2 0x0130 e (serveLong 2 0x0130 e (fwUpdate e len kind resv base)) s)

/-- The update ends: the slot is PENDING after OK of an image, else EMPTY. -/
def endUpdate (st cause : Nat) (s : State) : State :=
  match s.fw.upd with
  | none => s
  | some u =>
    let s1 := if u.kind < 2 then
        (if st = stOk then updSlotFw (otherSlot s) (fun x => { x with st := 1, tries := 0 }) s else updSlotFw (otherSlot s) (fun _ => {}) s)
      else s
    complete u.handle st cause [] (updFw (fun f => { f with upd := none }) s1)

/-- Every component of the target matches its manifest, or AUTH_FAIL (R395). -/
def finishImage (s : State) : State := endUpdate (if compsOk (slotOf s (otherSlot s)) then stOk else stAuthFail) cNone s

/-- Write into the target slot. -/
def slotWrite (off : Nat) (bs : List Byte) (s : State) : State := updSlotFw (otherSlot s) (flashWrite off bs) s

/-- What is left of a DELTA stream after its whole records, and whether END or an unknown op stopped it. -/
inductive Stream where
  | more (rest : List Byte) | over | broken

/-- Process the records of a DELTA stream (R395). -/
def deltaRecords : Nat → List Byte → State → State × Stream
  | 0, b, s => (s, .more b)
  | n + 1, b, s =>
    if b.length < 4 then (s, .more b)
    else match fieldAt b 0 1 with
      | 1 =>
        if b.length < 16 then (s, .more b)
        else match s.fw.run with
          | some r => deltaRecords n (b.drop 16) (slotWrite (fieldAt b 12 4) (flashBytes (slotOf s r) (fieldAt b 4 4) (fieldAt b 8 4)) s)
          | none => (s, .broken)
      | 2 =>
        let len := fieldAt b 8 4
        let all := 12 + (len + 3) / 4 * 4
        if b.length < 12 ∨ b.length < all then (s, .more b)
        else deltaRecords n (b.drop all) (slotWrite (fieldAt b 4 4) ((b.drop 12).take len) s)
      | 3 => (s, .over)
      | _ => (s, .broken)

/-- A block of a DELTA package after the manifest; `last` is whether the package has no more. -/
def deltaBlock (u : Upd) (bs : List Byte) (last : Bool) (s : State) : State :=
  let b := u.rest ++ bs
  let r := deltaRecords b.length b s
  match r.2 with
  | .over => finishImage r.1
  | .broken => endUpdate stAuthFail cNone r.1
  | .more rest =>
    if last then endUpdate stAuthFail cNone r.1
    else updFw (fun f => { f with upd := f.upd.map fun u => { u with rest := rest } }) r.1

/-- OWNER_KEY (R391): signed by a vendor root that is not revoked. -/
def takeOwnerKey (b : List Byte) (s : State) : State :=
  let sig := (b.drop 50).take 64
  let signed := [0, 1].any fun k => !s.fw.revoked.getLsbD k && Config.ed25519Verify (Config.rootKey k) (b.take 50) sig
  if !signed then endUpdate stAuthFail cNone s
  else if fieldAt b 0 2 = 0xD7A9 ∧ s.fw.owner.isNone ∧ (b.drop 2).take 16 = moduleId then
    endUpdate stOk cNone (updFw (fun f => { f with owner := some ((b.drop 18).take 32) }) s)
  else endUpdate stWrongState cNone s

/-- REVOKE (R391): signed by the other root. -/
def takeRevoke (b : List Byte) (s : State) : State :=
  let k := fieldAt b 2 1
  let other := 1 - k
  if !Config.ed25519Verify (Config.rootKey other) (b.take 19) ((b.drop 19).take 64) then endUpdate stAuthFail cNone s
  else if fieldAt b 0 2 = 0xD7AA ∧ k < 2 ∧ !s.fw.revoked.getLsbD other then
    endUpdate stOk cNone (updFw (fun f => { f with revoked := f.revoked ||| (1#2 <<< k) }) s)
  else endUpdate stWrongState cNone s

/-- The blocks of a package, and the bytes of one. -/
def blockCount (u : Upd) : Nat := (u.len + 4095) / 4096
def blockLen (u : Upd) (n : Nat) : Nat := if n + 1 = blockCount u then u.len - 4096 * n else 4096

/-- Process one block in its turn. -/
def takeBlock (u : Upd) (bs : List Byte) (s : State) : State :=
  let n := u.next
  let last := decide (n + 1 = blockCount u)
  let s1 := updFw (fun f => { f with upd := some { u with next := n + 1 } }) s
  if u.kind = 2 then takeOwnerKey bs s1
  else if u.kind = 3 then takeRevoke bs s1
  else if n = 0 then
    if manifestOk s (padTo 4096 bs) then
      let s2 := slotWrite 0 bs s1
      if last then (if u.kind = 0 then finishImage s2 else endUpdate stAuthFail cNone s2) else s2
    else endUpdate stAuthFail cNone s1
  else if u.kind = 1 then deltaBlock u bs last s1
  else
    let s2 := slotWrite (4096 * n) bs s1
    if last then finishImage s2 else s2

/-- Process the held blocks whose turn has come. -/
def drainBlocks : Nat → State → State
  | 0, s => s
  | k + 1, s =>
    match s.fw.upd with
    | none => s
    | some u =>
      match u.ahead.find? fun b => b.1 = u.next with
      | none => s
      | some b => drainBlocks k (takeBlock { u with ahead := u.ahead.filter fun x => decide (x.1 ≠ b.1) } b.2 s)

/-- FW_DATA (R339, R394): a fragment of a block. -/
def fwData (e : Env) (p : DataPay) (s : State) : State × Ans :=
  match s.fw.upd with
  | none => refuse stNoHandle s
  | some u =>
    let n := p.pre.unit
    if u.handle ≠ e.handle then refuse stNoHandle s
    else if p.pre.b6 ≠ 0 ∨ p.pre.grp ≠ 0 ∨ blockCount u ≤ n ∨ blockLen u n < p.pre.offset + p.data.length then refuse stBadParam s
    else if n < u.next ∨ u.ahead.any (fun b => b.1 = n) then refuse stBadParam s
    else match addFrag n 0 0 p.pre.offset p.data u.frags with
      | none => refuse stBadParam s
      | some (f, fs) =>
        match fragWhole (blockLen u n) f with
        | none => done (updFw fun w => { w with upd := some { u with frags := fs } }) s
        | some bs =>
          let v : Upd := { u with frags := fs.filter fun x => decide (x ≠ f) }
          if n = u.next then done (fun s => drainBlocks 17 (takeBlock v bs s)) s
          else if 16 ≤ u.ahead.length then refuse stBusy s
          else done (updFw fun w => { w with upd := some { v with ahead := (n, bs) :: v.ahead } }) s

def execFwData (e : Env) (p : DataPay) (s : State) : Host.Outcome State Fault Refusal :=
  .next (withLength (dataLen p.data) 3 0x0220 e (serveShort 3 0x0220 e (fwData e p)) s)

/-! ## FW_ACTIVATE (R404, R405, R413) -/

/-- A group action of kind ACTIVATE is pending. -/
def groupActivates (s : State) : Bool := match s.red.act with | some a => decide (a.kind = 3) | none => false

/-- The conditions of HITLESS mode. -/
def hitlessFits (s : State) : Bool :=
  let new := manifest (slotOf s (otherSlot s))
  let old := runManifest s
  let v := fieldAt old 16 1
  let i := s.isl
  decide ((compOf new 1).map (·.sha) = (compOf old 1).map (·.sha)) && decide (fieldAt new 17 1 ≤ v) && decide (v ≤ fieldAt new 16 1) &&
    !onFbo s && i.ctl && i.app && i.sys && i.acq && i.aon && i.prt

/-- The status FW_ACTIVATE answers in a mode, of the host or of a group action. -/
def activateStatus (hitless : Bool) (kh : Nat) (s : State) : Nat :=
  firstFail [need (s.fw.hitless.isNone && s.fw.upd.isNone && !(hitless && txnBusy s)) stBusy,
    need (decide ((slotOf s (otherSlot s)).st = 1)) stWrongState,
    need (if hitless then hitlessFits s else allStopped s) stWrongState,
    need (!hitless || decide (kh % max 1 (outerN s) = 0)) stBadParam]

/-- Step 1 begins. -/
def beginHitless (h kh : Nat) (s : State) : State := updFw (fun f => { f with hitless := some { handle := h, ask := kh } }) s

/-- RESET mode: ACCEPTED, then the handle completes with OK, then the reset. -/
def fwActivate (e : Env) (resv kh : Nat) (h : Nat) (s : State) : State × Ans :=
  if resv ≠ 0 then refuse stBadParam s
  else if groupActivates s then refuse stBusy s
  else
    let st := activateStatus false kh s
    if st ≠ stOk then refuse st s
    else (beginReset 2 (complete h stOk cNone [] (answer 2 0x0131 e stAccepted h [] (allocHandle 0x0131 e.chan s))), .later)

def execFwActivate (e : Env) (resv kh : Nat) (s : State) : Host.Outcome State Fault Refusal :=
  .next (serveLong 2 0x0131 e (fwActivate e resv kh) s)

/-- HITLESS mode. -/
def fwActivateHitless (e : Env) (resv kh : Nat) (h : Nat) (s : State) : State × Ans :=
  if resv ≠ 0 then refuse stBadParam s
  else if groupActivates s then refuse stBusy s
  else
    let st := activateStatus true kh s
    if st = stOk then accepted 0x0131 e (beginHitless h kh) s else refuse st s

def execFwActivateHitless (e : Env) (resv kh : Nat) (s : State) : Host.Outcome State Fault Refusal :=
  .next (serveLong 2 0x0131 e (fwActivateHitless e resv kh) s)

/-- The words and tiles that MIGRATE gave, in a record. -/
def convert (ws : List (Nat × Word)) (ts : List (Nat × List Byte)) (r : Rec) : Rec :=
  { r with params := ws.foldl (fun t w => tabSet paramReset t w.1 w.2) r.params,
           tiles := ts.foldl (fun t x => tabSet (fun _ => {}) t x.1 (imageTile x.2)) r.tiles }

/-- The first converted value that does not pass the checks of R350, and its status (R402, R403). -/
def convertFails (ws : List (Nat × Word)) (s : State) : Option (Nat × Nat) :=
  (paramFailure .config (ws.map fun w => { id := w.1, val := w.2 }) s).map fun f => (f.2.1.id, f.2.2)

/-- The STAGED record of migrated settings, into the copy not loaded (R402, R405). -/
def stageMigrated (ws : List (Nat × Word)) (ts : List (Nat × List Byte)) (s : State) : State :=
  match s.fw.hitless with
  | none => s
  | some h =>
    let new := manifest (slotOf s (otherSlot s))
    if schemaOf new = schemaOf (runManifest s) then s
    else
      let r0 := makeRec true s
      let r : Rec := { convert ws ts r0 with schema := schemaOf new, fw := fieldAt new 4 4 }
      let n := match s.fw.loaded with | some k => 1 - k | none => 0
      bumpFree (updFw (fun f => { f with hitless := some { h with staged := some (n, r) } }) (setCopy n (some r) s))

/-- The boundary of the swap: as asked, or the first one 5 ms ahead; a group action that is late swaps at the next one (R410). -/
def fixKh (h : Hitless) (s : State) : Option Nat :=
  let group : Bool := match s.red.act with | some a => decide (a.handle = h.handle) | none => false
  if h.ask = 0 then some (boundaryAfter 5000000 s)
  else if periodsNs (markDiff h.ask (sampleK s)) s < 1000000 then (if group then some (boundaryAfter 0 s) else none)
  else some h.ask

/-- Loading and migration have ended: what MIGRATE gave, which must pass the checks of R350, or its failure (R402, R405). -/
def hitlessReady (mig : Migr) (s : State) : State :=
  match s.fw.hitless with
  | none => s
  | some h =>
    if h.stage ≠ 1 then s
    else if !compsOk (slotOf s (otherSlot s)) then endActivation stAuthFail cNone s
    else match mig with
      | .fails _ _ => endActivation stMigFailed cNone s
      | .words ws ts =>
        if (convertFails ws s).isSome then endActivation stMigFailed cNone s
        else match fixKh h s with
        | none => endActivation stLate cNone s
        | some k =>
          let s1 := stageMigrated ws ts s
          updFw (fun f => { f with hitless := f.hitless.map fun h => { h with stage := 3, kh := k } }) s1

def execHitlessReady (mig : Migr) (s : State) : Host.Outcome State Fault Refusal := .next (hitlessReady mig s)

/-- After boundary k_h: the images change over, and `w` says at which boundary the new Campion first writes its groups (R406). The
slot becomes TRIAL with one try counted. -/
def hitlessSwap (w : SwapWrite) (s : State) : State :=
  match s.fw.hitless with
  | none => s
  | some h =>
    if h.stage ≠ 3 ∨ markDiff (sampleK s) h.kh < 0 then s
    else
      let h1 : Hitless := { h with
        stage := 4, skip := if w = .first then 0 else 1, two := decide (w ≠ .first), back := decide (w = .never)
        oldGfm := some s.gfm, oldMsd := some s.msd }
      updSlotFw (otherSlot s) (fun x => { x with st := 2, tries := 1 }) (updFw (fun f => { f with hitless := some h1 }) s)

def execHitlessSwap (w : SwapWrite) (s : State) : Host.Outcome State Fault Refusal := .next (hitlessSwap w s)

/-! ## The restart of Tansy (R405, R408, R360) -/

/-- Operations that Tansy completes before its restart. -/
def endBeforeRestart (s : State) : State :=
  let s1 := s.acq.reads.foldl (fun s o => endRead o stCancelled cIsland s) s
  let s2 := match s1.acq.arch with
    | some (h, n) => complete h stCancelled cIsland [] (holdSlot n false (updAcq (fun a => { a with arch := none }) s1))
    | none => s1
  let s3 := match s2.acq.load with | some o => endLoad o stCancelled cIsland {} s2 | none => s2
  let drop (n : Nat) (s : State) : State :=
    cancelAll ((ethOf s n).queues.flatMap fun q => q.filterMap (·.handle)) cIsland
      (updEth n (fun e => { e with queues := e.queues.map fun q => q.filter fun f => f.handle.isNone }) s)
  let s4 := drop 1 (drop 0 s3)
  match s4.txn with
  | some t => if t.st = .openT ∨ t.st = .preparing then endTxn stCancelled cIsland [] s4 else s4
  | none => s4

/-- The new Campion image has written its first group: Tansy announces its restart. -/
def tansyRestart (s : State) : State :=
  match s.fw.hitless with
  | none => s
  | some h =>
    if h.stage ≠ 4 || !h.wrote || h.back then s
    else
      let s1 := endBeforeRestart s
      { updFw (fun f => { f with hitless := some { h with stage := 5 } }) s1 with isl := { s1.isl with restart := true } }

def execTansyRestart (s : State) : Host.Outcome State Fault Refusal := .next (tansyRestart s)

/-- What the restart held back is sent. -/
def flushHeld (s : State) : State :=
  let s1 := updHost (fun h => { h with held := [], heldEv := [] }) s
  s.host.heldEv.foldl (fun s p => routeAsync p s) (s.host.held.foldl (fun s r => sendReply r.1 r.2 s) s1)

/-- The commands that wait in the queues of the planes go on. -/
def drainAll (s : State) : State := [Plane.g, .m, .d, .b].foldl (fun s p => drainQueue p s) s

/-- The new Tansy takes the migrated set. -/
def takeMigrated (h : Hitless) (s : State) : State :=
  match h.staged with
  | some (n, r) =>
    let s1 := r.params.foldl (fun s w => if s.stored.any (fun x => x.1 = w.1) then s else setPar w.1 w.2.toNat s) s
    updFw (fun f => { f with loaded := some n, setHash := r.hash })
      (r.tiles.foldl (fun s x => if tileAt s (physTile s x.1) = x.2 then s else evict x.1 (putTile (physTile s x.1) x.2 s)) s1)
  | none => s

/-- The new Tansy runs: its record is restored, the replies go out and the activation completes with OK. -/
def tansyRestartDone (s : State) : State :=
  match s.fw.hitless with
  | none => s
  | some h =>
    if h.stage ≠ 5 || !s.isl.restart then s
    else
      let new := otherSlot s
      let s1 := drainAll (flushLate (fun _ => true) (flushHeld { s with isl := { s.isl with restart := false } }))
      let i := s.isl
      let s2 := takeMigrated h (updFw (fun f => { f with
        run := some new, chosen := some new, stopped := !(i.ctl && i.app && i.acq && i.aon) }) s1)
      endActivation stOk cNone (raiseFlag fwEvents 3 0 s2)

def execTansyRestartDone (s : State) : Host.Outcome State Fault Refusal := .next (tansyRestartDone s)

/-! ## DEBUG_UNLOCK (R393) -/

/-- The token names this module and the nonce, and its signature holds under a permitted key. -/
def tokenOk (t : List Byte) (s : State) : Bool :=
  decide (fieldAt t 0 2 = 0xD7AB) && decide ((t.drop 4).take 16 = moduleId) && decide ((t.drop 20).take 16 = padTo 16 s.fw.nonce) &&
    (match keyOf s (fieldAt t 2 1) with
     | some k => Config.ed25519Verify k (t.take 40) ((t.drop 40).take 64)
     | none => false)

/-- A new nonce, from the random source. -/
def drawNonce (s : State) : State := bumpFree (updFw (fun f => { f with nonce := Config.freeBytes s.free }) s)

def debugUnlock (t : List Byte) (s : State) : State × Ans :=
  if fieldAt t 3 1 ≠ 0 ∨ fieldAt t 36 4 ≠ 0 then refuse stBadParam s
  else if !allStopped s then refuse stWrongState s
  else if tokenOk t s then done (fun s => drawNonce (updFw (fun f => { f with life := 2 }) s)) s
  else (raiseFlag fwEvents 4 0 (drawNonce s), say stAuthFail)

def execDebugUnlock (e : Env) (t : List Byte) (s : State) : Host.Outcome State Fault Refusal :=
  .next (withLength (decide (t.length = 104)) 2 0x0133 e (serveShort 2 0x0133 e (debugUnlock t)) s)

/-! ## ATTEST (R412) -/

/-- The statement without its signature. -/
def statement (nonce : List Byte) (s : State) : List Byte :=
  let o := otherSlot s
  let r := s.fw.run.getD 0
  let z := List.replicate 64 (0 : Byte)
  let dig (n : Nat) : List Byte := imageDigest (manifest (slotOf s n))
  le 2 0xD7A7 ++ [1] ++ le 1 (if s.isl.recovery then 0xFF else s.fw.life) ++ moduleId ++ nonce ++
    le 8 (if s.time.servo = 0 then 0 else netNs s) ++ le 2 (timeStateWord s) ++ [0, 0] ++ le 8 (monoNs s) ++
    (if s.fw.run.isSome then dig r else z) ++ (if (slotOf s o).st = 0 then z else dig o) ++ le 1 r ++
    le 1 ((if s.fw.run.isSome then (slotOf s r).st else 0) + 16 * (slotOf s o).st) ++ le 2 (schemaOf (runManifest s)) ++
    le 4 s.fw.secVer ++ le 4 (keysWord s) ++ cfgHash s ++ le 4 0

def attest (nonce : List Byte) (s : State) : State × Ans :=
  let b := statement nonce s
  (s, .now stOk (b ++ Config.ed25519Sign b))

def execAttest (e : Env) (nonce : List Byte) (s : State) : Host.Outcome State Fault Refusal :=
  .next (withLength (decide (nonce.length = 32)) 2 0x0132 e (serveShort 2 0x0132 e (attest nonce)) s)

end Sys2Proof.Machine
end

