-- ==== Sys2Proof/Machine/Handles.lean ====
section
/-! DEFINITION. Sys2Proof/Machine/Handles.lean: SELF_TEST (R423, R424), HANDLE_QUERY (R347), and the cancellation of operations (R346,
R348, R361). -/

namespace Sys2Proof.Machine

/-! ## Self-tests -/

/-- The RGT test: every written physical tile matches its CRC. -/
def rgtTest (s : State) : Bool := (List.range 224).all fun i => !(tileAt s i).written || tileOk (tileAt s i)

/-- The SRE test. -/
def sreTest (s : State) : Bool := allPlanes.all (sreOk s)

/-- The FLASH test: both slots that hold an image, and both copies that hold a record. -/
def flashTest (s : State) : Bool :=
  ([0, 1].all fun n => decide ((slotOf s n).st = 0) || (manifestOk s (manifest (slotOf s n)) && compsOk (slotOf s n))) &&
    ([0, 1].all fun n => match copyOf s n with | some r => r.valid | none => true)

/-- The STREAMS test: every routed port valid in both islands, with no flag of R84. -/
def streamTest (s : State) : Bool :=
  streamsIn s && (List.range 24).all fun n => decide (par s (measRoute n) = 0) || ((mport s n).loss.isNone && decide (Nat.land (par s (measStatus n)) 0x2E = 0))

/-- The tests that fail: MEM, CRYPTO, TRIP and LOCKSTEP as the hardware found them, the others by the state. -/
def failMask (hw : Nat) (s : State) : Nat :=
  Nat.land hw 0xC9 + flag (!rgtTest s) 1 + flag (!sreTest s) 2 + flag (!flashTest s) 4 + flag (!streamTest s) 5

/-- Write SYS.SELFTEST. -/
def showTests (pass fail : Nat) (s : State) : State := setPar sysSelftest (pass % 65536 + 65536 * (fail % 65536)) s

def selfTest (mask : Nat) (e : Env) (h : Nat) (s : State) : State × Ans :=
  if mask = 0 ∨ 256 ≤ mask then refuse stBadParam s
  else if !allStopped s then refuse stWrongState s
  else if s.isl.selfTest.isSome then refuse stBusy s
  else accepted 0x0120 e (fun s => { s with isl := { s.isl with selfTest := some (h, mask) } }) s

def execSelfTest (e : Env) (mask : Nat) (s : State) : Host.Outcome State Fault Refusal :=
  .next (serveLong 2 0x0120 e (selfTest mask e) s)

/-- The self-test is over. -/
def endSelfTest (st cause pass fail : Nat) (s : State) : State :=
  match s.isl.selfTest with
  | none => s
  | some (h, _) =>
    let s1 := if (pass + fail).testBit 6 then ftInject s else s
    complete h st cause (le 4 pass ++ le 4 fail) (showTests pass fail { s1 with isl := { s1.isl with selfTest := none } })

/-- Every test of the mask has run. -/
def selfTestComplete (hw : Nat) (s : State) : State :=
  match s.isl.selfTest with
  | none => s
  | some (_, mask) =>
    let fail := Nat.land (failMask hw s) mask
    endSelfTest stOk cNone (mask - fail) fail s

def execSelfTestComplete (hw : Nat) (s : State) : Host.Outcome State Fault Refusal := .next (selfTestComplete hw s)

/-- A self-test is cancelled after the test in progress. Tests run in bit order; how far it came, and what the hardware found, is free. -/
def cancelSelfTest (cause : Nat) (s : State) : State :=
  match s.isl.selfTest with
  | none => s
  | some (_, mask) =>
    let first := ((List.range 8).find? fun b => mask.testBit b).getD 0
    let ran := Nat.land (2 ^ (max first (Config.freeNat s.free % 8) + 1) - 1) mask
    let fail := Nat.land (failMask (Config.freeNat (s.free + 1)) s) ran
    bumpFree (bumpFree (endSelfTest stCancelled cause (ran - fail) fail s))

/-! ## HANDLE_QUERY -/

/-- A handle waits in a plane's queue (R337). -/
def isQueued (s : State) (h : Nat) : Bool := allPlanes.any fun p => (lane s p).queued.any fun q => q.1 = h

def handleQuery (h : Nat) (s : State) : State × Ans :=
  match findOp s h with
  | some _ => (s, .now stOk [if isQueued s h then 1 else 0])
  | none =>
    match s.host.log.find? fun d => d.handle = h with
    | some d => (s, .now stOk ([2, 0, 0, 0] ++ d.payload))
    | none => refuse stNoHandle s

def execHandleQuery (e : Env) (h : Nat) (s : State) : Host.Outcome State Fault Refusal :=
  .next (serveShort 1 0x0060 e (handleQuery h) s)

/-! ## Cancellation (R361) -/

/-- A queued plane command, or one that waits for its strobe, is removed; a PLANE_ARM ends with its supplies off. -/
def cancelPlane (h cause : Nat) (p : Plane) (s : State) : State :=
  let l := lane s p
  if l.queued.any fun q => q.1 = h then
    complete h stCancelled cause [] (updLane p (fun l => { l with queued := l.queued.filter fun q => decide (q.1 ≠ h) }) s)
  else if l.clearPend.any fun q => q.1.isNone && decide (q.2 = h) then
    drainQueue p (complete h stCancelled cause []
      (updLane p (fun l => { l with clearPend := l.clearPend.filter fun q => q.1.isSome || decide (q.2 ≠ h) }) s))
  else if l.arming = some h then
    drainQueue p (complete h stCancelled cause [] (settle false 0 (suppliesOff p (updLane p (fun l => { l with arming := none }) s))))
  else s

/-- A frame with a handle is discarded unless it is on the line. -/
def cancelFrame (h cause : Nat) (s : State) : State :=
  let drop (n : Nat) (s : State) : State :=
    updEth n (fun e => { e with queues := e.queues.map fun q => q.filter fun f => decide (f.handle ≠ some h) }) s
  complete h stCancelled cause [] (drop 1 (drop 0 s))

/-- A group action ends before t_decide: the member shows REFUSE (R383). -/
def cancelGroup (cause : Nat) (s : State) : State :=
  match s.red.act with
  | none => s
  | some a =>
    complete a.handle stCancelled cause [] (updRed (fun r => { r with act := none, shown := (r.shown.1, r.shown.2.1, 2, stCancelled) }) s)

/-- A record copy to the archive is discarded. -/
def cancelArchive (cause : Nat) (s : State) : State :=
  match s.acq.arch with
  | some (h, n) => complete h stCancelled cause [] (holdSlot n false (updAcq (fun a => { a with arch := none }) s))
  | none => s

/-- The copy that SAVE_SETTINGS was writing stays invalid. -/
def dropSave (cause : Nat) (s : State) : State :=
  match s.fw.saving with
  | some (h, _, _) => complete h stCancelled cause [] (updFw (fun f => { f with saving := none }) s)
  | none => s

/-- Cancel the operation on a handle, with the effect that R361 gives. -/
def cancelOp (o : Op) (cause : Nat) (s : State) : State :=
  let h := o.handle
  if o.opcode ≤ opTestExit then eachPlane (cancelPlane h cause) s
  else match o.opcode with
    | 0x0020 => endSync stCancelled cause s
    | 0x0021 => completeOps 0x0021 stCancelled cause s
    | 0x0022 => endDischarge stCancelled cause s
    | 0x0042 => endReplay stCancelled cause s
    | 0x0110 => if cause = cHost then abortTxn s else endTxn stCancelled cause [] s
    | 0x0120 => cancelSelfTest cause s
    | 0x0122 => dropSave cause s
    | 0x0130 => endUpdate stCancelled cause s
    | 0x0131 => endActivation stCancelled cause s
    | 0x0140 => if s.fw.hitless.any fun x => x.handle = h then endActivation stCancelled cause s else cancelGroup cause s
    | 0x0210 => match s.acq.reads.find? fun r => r.handle = h with
      | some r => endRead r stCancelled cause s
      | none => s
    | 0x0211 => cancelArchive cause s
    | 0x0212 => match s.acq.load with
      | some l => endLoad l stCancelled cause {} s
      | none => s
    | _ => cancelFrame h cause s

/-- The operation can be cancelled now: not PLANE_STOP, not SAVE_SETTINGS, no activation from step 4 onward, no group action after
t_decide. -/
def cancelable (o : Op) (s : State) : Bool :=
  if o.opcode = 0x0122 then false
  else if o.opcode = 0x0131 then (match s.fw.hitless with | some x => decide (x.stage < 4) | none => true)
  else if o.opcode = 0x0140 then (match s.red.act with | some a => !a.decided | none => true)
  else !allPlanes.any fun p => (lane s p).stopping == some o.handle

def handleCancel (h : Nat) (s : State) : State × Ans :=
  match findOp s h with
  | some o => if cancelable o s then done (cancelOp o cHost) s else refuse stWrongState s
  | none => if s.host.log.any fun d => d.handle = h then refuse stWrongState s else refuse stNoHandle s

def execHandleCancel (e : Env) (h : Nat) (s : State) : Host.Outcome State Fault Refusal :=
  .next (serveShort 1 0x0061 e (handleCancel h) s)

end Sys2Proof.Machine
end

