-- ==== Sys2Proof/Machine/Group.lean ====
section
/-! DEFINITION. Sys2Proof/Machine/Group.lean: group descriptors (R379 to R381), group actions (R382 to R384) and their ACTIVATE kind (R409,
R410). -/

namespace Sys2Proof.Machine

/-! ## Descriptors -/

/-- What the module itself shows. -/
def ownDesc (s : State) : Desc :=
  { pos := yPos s, hash := ofLe (cfgHash s), fw := fieldAt (runManifest s) 4 4, tState := timeStateWord s,
    yStatus := withBits (par s ybusStatus) 12 1 (if s.time.busOk then 1 else 0),
    action := s.red.shown.1, prop := s.red.shown.2.1, verdict := s.red.shown.2.2.1 }

/-- The descriptor without its CRC. -/
def descBody (s : State) : List Byte :=
  let d := ownDesc s
  padTo 252 (le 2 0xD7A5 ++ [1] ++ le 1 d.pos ++ le 4 (par s redGroupId) ++ le 4 s.red.descSeq ++ le 16 d.hash ++ le 4 d.fw ++
    le 2 d.tState ++ le 2 d.yStatus ++ le 4 (errEstWord s) ++ le 8 s.time.stamp ++ le 8 s.time.stampBus ++ planeBytes s ++
    le 2 (gfmStateWord s) ++ le 1 s.red.role ++ le 1 (par s (modIlv 0)) ++ le 4 d.action ++ le 16 d.prop ++ le 1 d.verdict ++
    le 1 s.red.shown.2.2.2)

/-- Tansy with its extension runs group work (R388). -/
def groupRuns (s : State) : Bool := s.isl.sys && s.isl.ext && !s.isl.restart && decide (par s redGroupId ≠ 0)

/-- A descriptor leaves from both ports (R381). -/
def descriptorSend (s : State) : State :=
  if !groupRuns s || decide (par s redGrpAddr = 0) then s
  else
    let b := descBody s
    let d := b ++ le 4 (crc32c b)
    let out (n : Nat) (s : State) : State := if (ethOf s n).up then emit (.descr n d) s else s
    updRed (fun r => { r with descSeq := (r.descSeq + 1) % 2 ^ 32 }) (out 1 (out 0 s))

def execDescriptorSend (s : State) : Host.Outcome State Fault Refusal := .next (descriptorSend s)

/-- The fields of a descriptor from a source. -/
def descOf (src : Nat) (b : List Byte) : Desc :=
  { src := src, stamp := fieldAt b 40 8, mark := fieldAt b 48 8, pos := fieldAt b 3 1, hash := fieldAt b 12 16, fw := fieldAt b 28 4, tState := fieldAt b 32 2, yStatus := fieldAt b 34 2,
    action := fieldAt b 64 4, prop := fieldAt b 68 16, verdict := fieldAt b 84 1 }

/-- Positions heard. -/
def heardMask (s : State) : Nat := maskOf (s.red.descs.map (·.pos))

/-- A descriptor arrives (R381, R384): two senders at one position clash; one of another group is counted. A new stamp of the alignment
mark is compared (R281). -/
def descriptorReceive (src : Nat) (b : List Byte) (s : State) : State :=
  if !groupRuns s || !(decide (b.length = 256) && decide (fieldAt b 0 2 = 0xD7A5) && decide (fieldAt b 2 1 = 1) &&
      decide (crc32c (b.take 252) = fieldAt b 252 4)) then s
  else if fieldAt b 4 4 ≠ par s redGroupId then raiseFlag redGrpEvents 5 src s
  else
    let d := descOf src b
    let same : Bool := match s.red.descs.find? fun x => x.pos = d.pos with | some x => decide (x.src = src) | none => true
    let clash := !same || decide (d.pos = yPos s)
    let s1 := updRed (fun r => { r with
      descs := d :: r.descs.filter (fun x => decide (x.pos ≠ d.pos))
      clash := if clash then d.pos :: r.clash.filter (fun x => decide (x ≠ d.pos)) else r.clash.filter fun x => decide (x ≠ d.pos) }) s
    let fresh := !s.red.descs.any fun x => decide (x.pos = d.pos) && decide (x.stamp = d.stamp) && decide (x.mark = d.mark)
    let s2 := setPar redGrpHeard (heardMask s1 % 65536) (if fresh then crossCheck (pairCheck d.pos s1) else s1)
    if clash && !s.red.clash.contains d.pos then raiseFlag redGrpEvents 1 d.pos s2 else s2

def execDescriptorReceive (src : Nat) (b : List Byte) (s : State) : Host.Outcome State Fault Refusal :=
  .next (descriptorReceive src b s)

/-- No descriptor from a member for 3 × GRP_PERIOD. -/
def memberLost (pos : Nat) (s : State) : State :=
  if s.red.descs.any fun x => x.pos = pos then
    let s1 := updRed (fun r => { r with
      descs := r.descs.filter (fun x => decide (x.pos ≠ pos)), clash := r.clash.filter fun x => decide (x ≠ pos) }) s
    raiseFlag redGrpEvents 0 pos (setPar redGrpHeard (heardMask s1 % 65536) s1)
  else s

def execGrpMemberLost (pos : Nat) (s : State) : Host.Outcome State Fault Refusal := .next (memberLost pos s)

/-! ## GROUP_ACTION (R382) -/

/-- The body of a payload. -/
def actBody (p : List Byte) : List Byte := p.drop 24

/-- The entries of a MODE body. -/
def modeEntries (p : List Byte) : List PEntry :=
  let b := actBody p
  (List.range (b.length / 8)).map fun i =>
    { id := fieldAt b (8 * i) 2, grp := fieldAt b (8 * i + 2) 1, resv := fieldAt b (8 * i + 3) 1, val := BitVec.ofNat 32 (fieldAt b (8 * i + 4) 4) }

/-- A parameter that MODE may name. -/
def modeMay (id : Nat) : Bool :=
  (hashedIds.contains id && (match paramRow id with | some d => d.commit == .boundary | none => false)) ||
    [gfmLaw, gfmVSet, gfmQSet, gfmPSet].contains id

/-- The body has its kind's form. -/
def bodyOk (kind : Nat) (p : List Byte) : Bool :=
  let b := actBody p
  match kind with
  | 1 => decide (b.length % 8 = 0) && decide (8 ≤ b.length) && decide (b.length ≤ 64) &&
      (modeEntries p).all fun e => decide (e.grp = 0) && decide (e.resv = 0) && modeMay e.id
  | 2 => decide (b.length = 18) && decide (fieldAt b 0 1 < 16)
  | 3 => decide (b.length = 72) && decide (fieldAt b 64 1 < 2) && decide (fieldAt b 65 7 = 0)
  | _ => false

/-- The words of an ILV action for this module: each plane of the mask gets N − 1 and the slot of the module's position. -/
def ilvWords (p : List Byte) (s : State) : List (Nat × Nat) :=
  let b := actBody p
  (allPlanes.filter fun q => (fieldAt b 0 1).testBit q.code).map fun q => (modIlv q.code, fieldAt b 1 1 + 16 * fieldAt b (2 + yPos s) 1)

/-- The status of the words of an ILV action. -/
def ilvStatus (p : List Byte) (s : State) : Nat :=
  firstFail ((ilvWords p s).map fun w =>
    if 256 ≤ w.2 ∨ 15 < fieldAt (actBody p) 1 1 then stOutOfRange
    else entryStatus .config s { id := w.1, val := BitVec.ofNat 32 w.2 })

/-- ACTIVATE in HITLESS mode. -/
def actHitless (p : List Byte) : Bool := decide (fieldAt (actBody p) 64 1 = 0)

/-- The verdict's checks of R409. -/
def activateFits (p : List Byte) (s : State) : Nat :=
  firstFail [need (decide (imageDigest (manifest (slotOf s (otherSlot s))) = (actBody p).take 64)) stWrongState,
    activateStatus (actHitless p) 0 s, need (decide (s.time.servo = 2) && !s.time.suspect) stWrongState]

/-- Every check that the action would meet at its own apply (R383). -/
def actStatus (kind : Nat) (p : List Byte) (s : State) : Nat :=
  match kind with
  | 1 => if txnBusy s then stBusy else match paramFailure .config (modeEntries p) s with | some f => f.2.2 | none => stOk
  | 2 => if txnBusy s then stBusy else ilvStatus p s
  | _ => activateFits p s

/-- t_decide and t_apply against the clock; t_apply of an ACTIVATE counts on T_NET. -/
def actTimes (kind td ta : Nat) (s : State) : Nat :=
  let d := ahead48 td (baseField s 2 0)
  let a := ahead48 ta (baseField s (if kind = 3 then 1 else 2) 0)
  firstFail [need (decide (20000000 ≤ d)) stLate, need (decide (50000000 ≤ a - d) && decide (a - d ≤ 60000000000)) stOutOfRange]

/-- The status GROUP_ACTION answers. -/
def groupStatus (p : List Byte) (s : State) : Nat :=
  let kind := fieldAt p 4 1
  firstFail [need (decide (fieldAt p 0 4 ≠ 0) && decide (fieldAt p 5 1 = 0) && decide (fieldAt p 20 4 = 0) && bodyOk kind p) stBadParam,
    need (decide (par s redGroupId ≠ 0)) stWrongState, actTimes kind (fieldAt p 8 6) (fieldAt p 14 6) s,
    need (s.red.act.isNone && (decide (kind ≠ 3) || s.fw.hitless.isNone)) stBusy]

/-- Publish a verdict. -/
def showVerdict (v st : Nat) (s : State) : State :=
  updRed (fun r => { r with shown := (r.shown.1, r.shown.2.1, v, st) }) s

/-- The action is pending, and the verdict is published. -/
def beginAction (p : List Byte) (h : Nat) (s : State) : State :=
  let kind := fieldAt p 4 1
  let st := actStatus kind p s
  updRed (fun r => { r with
    act := some { handle := h, id := fieldAt p 0 4, kind := kind, payload := p, tDecide := fieldAt p 8 6, tApply := fieldAt p 14 6 }
    shown := (fieldAt p 0 4, ofLe ((Config.sha512 p).take 16), if st = stOk then 1 else 2, st) }) s

def execGroupAction (e : Env) (p : List Byte) (s : State) : Host.Outcome State Fault Refusal :=
  .next (withLength (decide (24 ≤ p.length) && decide (p.length ≤ 1440) && decide (p.length = 24 + fieldAt p 6 2)) 2 0x0140 e
    (serveLong 2 0x0140 e (fun h s =>
      if groupStatus p s = stOk then accepted 0x0140 e (beginAction p h) s else refuse (groupStatus p s) s)) s)

/-! ## Decision, confirmation, apply (R383, R384) -/

/-- The rows of R384 that a member's descriptor meets, lowest first. -/
def rowsOf (a : GAct) (s : State) (d : Desc) : List Nat :=
  let own := ownDesc s
  let servo := d.tState % 8
  let bit (w b : Nat) : Bool := w.testBit b
  let r (on : Bool) (n : Nat) : List Nat := if on then [n] else []
  r (s.red.clash.contains d.pos) 2 ++ r (decide (d.hash ≠ own.hash)) 3 ++ r (decide (a.kind ≠ 3) && decide (d.fw ≠ own.fw)) 4 ++
    r (decide (a.kind ≠ 3) && (!bit d.yStatus 5 || !bit d.yStatus 12)) 5 ++ r (bit d.tState 7) 6 ++
    r (decide (a.kind = 3) && (decide (servo ≠ 2) || bit d.tState 3)) 7 ++
    r (decide (d.verdict = 2) || decide (d.action ≠ own.action) || decide (d.prop ≠ own.prop)) 8

/-- Every member, by position: the module itself among them. -/
def members (s : State) : List Desc :=
  (List.range 16).filterMap fun i => if yPos s = i then some (ownDesc s) else s.red.descs.find? fun x => x.pos = i

/-- The first position below GRP_SIZE that has not been heard; none when GRP_SIZE members are. -/
def missingAt (s : State) : Option Nat :=
  if par s redGrpSize ≤ (members s).length then none
  else (List.range 16).find? fun i => !(members s).any fun d => d.pos = i

/-- The disagreements: position and row, in the order of the positions. -/
def disagreements (a : GAct) (s : State) : List (Nat × Nat) :=
  let seen := (members s).flatMap fun d => (rowsOf a s d).map fun r => (d.pos, r)
  match missingAt s with
  | none => seen
  | some p => seen.filter (fun x => decide (x.1 < p)) ++ [(p, 1)] ++ seen.filter fun x => decide (p ≤ x.1)

/-- The flag of a row, as a bit of RED.GRP_EVENTS. -/
def rowFlag (r : Nat) : Nat := if r = 1 then 0 else if r = 2 then 1 else if r = 5 ∨ r = 6 ∨ r = 7 then 3 else if r = 9 then 4 else 2

/-- The member does not apply: NOGO, the flag of each row met, GROUP_DISAGREE with the first position and its row. -/
def deferAction (a : GAct) (pos row : Nat) (more : List (Nat × Nat)) (s : State) : State :=
  complete a.handle stGroupDisagree cNone (le 1 pos ++ le 1 row)
    (((pos, row) :: more).foldl (fun s x => raiseFlag redGrpEvents (rowFlag x.2) x.1 s)
      (updRed (fun r => { r with act := none }) (showVerdict 4 0 s)))

/-- RED.GRP_AGREE: the positions that met none of rows 2 to 7. -/
def noteAgree (a : GAct) (s : State) : State :=
  setPar redGrpAgree (maskOf (((members s).filter fun d => (rowsOf a s d).all fun r => decide (r = 8)).map (·.pos)) % 65536) s

/-- t_decide: GO when every condition holds, else NOGO. -/
def groupDecide (s : State) : State :=
  match s.red.act with
  | none => s
  | some a =>
    if a.decided || !groupRuns s then s
    else
      let s1 := noteAgree a s
      match disagreements a s1 with
      | [] =>
        if (members s1).all fun d => d.verdict = 1 then
          updRed (fun r => { r with act := some { a with decided := true } }) (showVerdict 3 0 s1)
        else deferAction a ((((members s1).find? fun d => d.verdict ≠ 1).map (·.pos)).getD 0) 8 [] s1
      | x :: t => deferAction a x.1 x.2 t s1

def execGroupDecide (s : State) : Host.Outcome State Fault Refusal := .next (groupDecide s)

/-- The action is over with a status of its own. -/
def failAction (a : GAct) (st : Nat) (s : State) : State :=
  complete a.handle st cNone [] (updRed (fun r => { r with act := none }) (showVerdict 2 st s))

/-- The confirmation, 10 ms before t_apply: every member shows GO. A HITLESS activation begins to load. -/
def groupConfirm (s : State) : State :=
  match s.red.act with
  | none => s
  | some a =>
    if !a.decided || a.begun || !groupRuns s then s
    else
      let bad := (members s).find? fun d => !(decide (d.verdict = 3) && decide (d.action = a.id))
      if decide (a.kind = 3) && a.moved then deferAction a (yPos s) 9 [] s
      else match (bad.map (·.pos)).orElse fun _ => missingAt s with
        | some p => deferAction a p 9 [] s
        | none =>
          let s1 := updRed (fun r => { r with act := some { a with begun := true } }) s
          if a.kind = 3 ∧ actHitless a.payload then
            let st := activateStatus true 0 s
            if st = stOk then beginHitless a.handle (applyBoundary a s) s1 else failAction a st s
          else s1

def execGroupConfirm (s : State) : Host.Outcome State Fault Refusal := .next (groupConfirm s)

/-- Applied: APPLIED is published, and the handle completes with OK and the sample index. -/
def applied (a : GAct) (s : State) : State :=
  complete a.handle stOk cNone (le 8 (boundaryAfter 0 s)) (updRed (fun r => { r with act := none }) (showVerdict 5 0 s))

/-- The apply. An ILV action waits for the first carrier mark from here on; a HITLESS activation runs on and completes the handle
itself. -/
def groupApply (s : State) : State :=
  match s.red.act with
  | none => s
  | some a =>
    if !a.begun || !groupRuns s then s
    else match a.kind with
      | 1 =>
        let es := modeEntries a.payload
        if txnBusy s then failAction a stBusy s
        else match paramFailure .config es s with
          | some f => failAction a f.2.2 s
          | none => applied a (applyAll es s)
      | 2 =>
        let st := if txnBusy s then stBusy else ilvStatus a.payload s
        if st = stOk then updRed (fun r => { r with act := some { a with waits := true } }) s else failAction a st s
      | _ =>
        if actHitless a.payload then s
        else
          let st := activateStatus false 0 s
          if st = stOk then beginReset 2 (applied a s) else failAction a st s

/-- An ILV action at its carrier mark: the words come into force, and the valleys slew to them (R153, R383). -/
def ilvAtMark (s : State) : State :=
  match s.red.act with
  | some a =>
    if a.waits && groupRuns s then
      complete a.handle stOk cNone (le 8 (sampleK s)) (updRed (fun r => { r with act := none })
        (showVerdict 5 0 ((ilvWords a.payload s).foldl (fun s w => setPar w.1 w.2 s) s)))
    else s
  | none => s

def execCarrierMark (at' : Int) (s : State) : Host.Outcome State Fault Refusal := .next (ilvAtMark (carrierMark at' s))

def execGroupApply (s : State) : Host.Outcome State Fault Refusal := .next (groupApply s)

end Sys2Proof.Machine
end

