-- ==== Sys2Proof/Machine/Islands.lean ====
section
/-! DEFINITION. Sys2Proof/Machine/Islands.lean: an island that stops (R17), and the island resets (R346, R419). -/

namespace Sys2Proof.Machine

/-! ## An island stops -/

/-- HEALTH stops toggling. -/
def stopHealth (s : State) : State := { s with isl := { s.isl with health := false } }

/-- HEALTH toggles once the window shows every island running (R420). -/
def startHealth (s : State) : State :=
  let i := s.isl
  if i.ctl && i.app && i.sys && i.acq && i.aon && i.prt && i.sysUp && !s.prt.supplyLoss && !i.recovery then
    { s with isl := { i with health := true } }
  else s

/-- A sequence of groups stops before its next group (R359). -/
def stopSequence (s : State) : State :=
  match s.txn with
  | some t => if t.st = .committing ∧ 0 < t.grp then endTxn stTruncated cIsland (le 8 t.kc) s else s
  | none => s

/-- ISL_ACQ is gone: the open record is lost, and every operation that works on its memory ends (R17, R318). -/
def dropAcq (s : State) : State :=
  let s1 := match s.acq.active with
    | some n => updAcq (fun a => { a with active := none }) (updSlot n (fun _ => {}) s)
    | none => s
  let s2 := endReplay stCancelled cIsland s1
  let s3 := s2.acq.reads.foldl (fun s o => endRead o stCancelled cIsland s) s2
  let s4 := match s3.acq.load with | some o => endLoad o stCancelled cIsland {} s3 | none => s3
  cancelArchive cIsland s4

/-- The swap of a hitless activation fails with Campion (R406). -/
def dropSwap (s : State) : State :=
  match s.fw.hitless with
  | some h => if 4 ≤ h.stage then endActivation stCancelled cIsland s else s
  | none => s

/-- What R17 gives for an island that has been found stopped. -/
def islandDown (i : Island) (s : State) : State :=
  match i with
  | .ctl => causeEvery 0x07 0 (stopHealth { s with isl := { s.isl with ctl := false } })
  | .app =>
    let s1 := dropSwap (stopHealth { s with isl := { s.isl with app := false } })
    causeEach (allPlanes.filter fun p => (lane s1 p).st = .running) 0x07 0 s1
  | .sys =>
    updHost (fun h => { h with irq := h.irq ||| 8 })
      (stopHealth { s with isl := { s.isl with sys := false, sysUp := false, ext := false, restart := false } })
  | .acq => dropAcq { s with isl := { s.isl with acq := false } }
  | .aon => { s with isl := { s.isl with aon := false } }
  | .prt => settle false 0 (updPrt (fun r => { r with kaHold := BitVec.allOnes 36 })
      (setBrk 0 false (stopHealth { s with isl := { s.isl with prt := false } })))

/-- An island stops; one that is stopped already does not stop again. -/
def islandStopped (i : Island) (s : State) : State :=
  if islandRuns s i then
    let s1 := islandDown i (updFw (fun f => { f with stopped := true }) s)
    if i = .sys then s1 else stopSequence s1
  else s

def execIslandStopped (i : Island) (s : State) : Host.Outcome State Fault Refusal := .next (islandStopped i s)

/-- A restart of Tansy has outlasted FW.RESTART_MAX (R408). -/
def restartMax (s : State) : State := if s.isl.restart then islandStopped .sys s else s

def execRestartMax (s : State) : Host.Outcome State Fault Refusal := .next (restartMax s)

/-! ## Island resets (R419) -/

/-- Operations that go on over a restart of ISL_SYS (R346): Campion and the lanes carry them. -/
def goesOn (s : State) (o : Op) : Bool :=
  [0x0020, 0x0021, 0x0022].contains o.opcode || allPlanes.any fun p => (lane s p).stopping == some o.handle

/-- A transaction at a restart of ISL_SYS: one whose k_c has passed completes by R357. -/
def txnAtReset (s : State) : State :=
  match s.txn with
  | none => s
  | some t =>
    if t.st = .committing ∧ 0 < t.grp then stopSequence s
    else if t.st = .committing ∧ switchDue t s then s
    else endTxn stCancelled cIsland [] s

/-- Every other handle that is outstanding completes with CANCELLED, cause ISLAND, with the effect of its cancellation. -/
def endOutstanding (s : State) : State :=
  s.host.ops.foldl (fun s o => if goesOn s o || decide (o.opcode = 0x0110) then s else
    complete o.handle stCancelled cIsland [] (cancelOp o cIsland s)) (txnAtReset s)

/-- The entries of the DRAM tables that fail their CRC, by handle, with whether the channel's address is among them: such a handle
completes without results, and to the SPI queue (R346). -/
def loseEntry (lost : List (Nat × Bool)) (o : Op) : Op :=
  match lost.find? (fun x => decide (x.1 = o.handle)) with
  | some x => { o with bare := true, chan := if x.2 then .spi else o.chan }
  | none => o

def loseEntries (lost : List (Nat × Bool)) (s : State) : State :=
  updHost (fun h => { h with ops := h.ops.map (loseEntry lost) }) s

/-- What Campion, the lanes and the islands have ended meanwhile completes by its own rule: PLANE_STOP, GFM_SYNC, DC_PRECHARGE,
DC_DISCHARGE and a transaction (R346). -/
def endsAlone (op : Nat) : Bool := [0x0013, 0x0020, 0x0021, 0x0022, 0x0110].contains op

/-- ISL_SYS restarts from TANSY_CORE, with HWIN_IRQ [3] set at the entry: T_NET from the replica of ISL_ACQ, the servo in HOLDOVER unless it was FREE. -/
def restartSys (lost : List (Nat × Bool)) (s : State) : State :=
  let s1 := updTime (fun t => { (if t.servo = 0 then { t with good := 0 } else holdTime t) with net := repAt s 3 0 })
    { updHost (fun h => { h with irq := h.irq ||| 8 }) s with isl := { s.isl with sys := true, sysUp := true } }
  startHealth (flushHeld (endOutstanding (flushLate endsAlone (loseEntries lost (dropSwap (colClear [4, 8, 14, 16] s1))))))

/-- ISL_ACQ restarts: comparators disarmed, T_BUS invalid until the next survey. -/
def restartAcq (s : State) : State :=
  let s1 := (List.range 16).foldl (fun s n => setParBit (timeTcCtrl n) 2 false s) { s with isl := { s.isl with acq := true } }
  startHealth (updTime (fun t => { t with busOk := false }) (colClear [8] s1))

/-- ISL_AON restarts: its paths count as down, and its role comes from RED.ROLE again. -/
def restartAon (s : State) : State :=
  startHealth (colClear [15, 16] (updRed (fun r => { r with
      role := 0, window := true, winHb := false, winAct := false, cal := none, pathA := {}, pathB := {}, partner := none, inSnap := none, outSnap := none })
    { s with isl := { s.isl with aon := true } }))

/-- SYS.AUTO_RESET_T has passed since the last reset of the island. -/
def resetSpaced (n : Nat) (s : State) : Bool :=
  s.isl.rstAt.all fun x => decide (x.1 ≠ n) || decide ((par s sysAutoResetT : Rat) * 1000000 ≤ s.time.mono - x.2)

/-- The island can be reset alone now: Sorrel resets ISL_SYS, whose image must verify again; Tansy resets the other two. -/
def resetFits (i : Island) (s : State) : Bool :=
  !islandRuns s i && resetSpaced (islandNo i) s &&
    (match i with
     | .sys => s.isl.prt && !s.prt.supplyLoss && !s.isl.recovery &&
         (match s.fw.run with | some n => coreOk s n | none => false)
     | .acq | .aon => s.isl.sys && s.isl.sysUp
     | _ => false)

/-- Count the reset and name its island. -/
def noteReset (n : Nat) (s : State) : State :=
  let s1 := { s with isl := { s.isl with rstAt := (n, s.time.mono) :: s.isl.rstAt.filter fun x => decide (x.1 ≠ n) } }
  count sysResetCnt (setParBits sysResetCause 4 4 n s1)

/-- An island reset, from its entry to its end. -/
def islandReset (i : Island) (lost : List (Nat × Bool)) (s : State) : State :=
  if !resetFits i s then s
  else
    let s1 := noteReset (islandNo i) s
    match i with
    | .sys => restartSys lost s1
    | .acq => restartAcq s1
    | .aon => restartAon s1
    | _ => s1

def execIslandReset (x : Restart) (s : State) : Host.Outcome State Fault Refusal := .next (islandReset x.island x.lost s)

end Sys2Proof.Machine
end

