-- ==== Sys2Proof/Machine/Boot.lean ====
section
/-! DEFINITION. Sys2Proof/Machine/Boot.lean: the power-up sequence (R397, R420 to R423): the lock of PLL_M, slot selection, the
fast-start image, the settings load with its migration (R401 to R403), TANSY_EXT. -/

namespace Sys2Proof.Machine

/-! ## Slot selection (R397) -/

/-- The slot that is PENDING or TRIAL; at most one is. -/
def trialSlot (s : State) : Option Nat := [0, 1].find? fun n => decide ((slotOf s n).st = 1 ∨ (slotOf s n).st = 2)

/-- The GOOD slot; of two, the one booted last. -/
def goodSlot (s : State) : Option Nat := [s.fw.last, 1 - s.fw.last].find? fun n => decide ((slotOf s n).st = 3)

/-- No slot can be booted: the boot ROM's loader runs (R399). -/
def enterRecovery (s : State) : State :=
  takeFails 2 <| setPar sysBootStage 15 { s with isl := { s.isl with recovery := true, askRecovery := false } }

/-- Choose a slot whose fast-start image verifies. A slot that fails is REJECTED (FW.EVENTS [1]), as is one with three tries
(BOOT_FALLBACK, FW.EVENTS [2]). -/
def selectSlot : Nat → State → State
  | 0, s => enterRecovery s
  | k + 1, s =>
    let take (n : Nat) (s : State) : State :=
      if fastStartOk s n then setPar sysBootStage 1 (updFw (fun f => { f with chosen := some n }) s)
      else selectSlot k (setParBit fwEvents 1 true (updSlotFw n (fun x => { x with st := 4 }) s))
    match trialSlot s with
    | some n =>
      if (slotOf s n).tries < 3 then take n (updSlotFw n (fun x => { x with st := 2, tries := x.tries + 1 }) s)
      else selectSlot k (setParBit fwEvents 2 true (setParBit fwEvents 1 true (updSlotFw n (fun x => { x with st := 4 }) s)))
    | none => match goodSlot s with
      | some n => take n s
      | none => enterRecovery s

/-- The boot ROM runs: the boot is counted, then a slot is chosen, or recovery entered as RESET asked. -/
def bootRom (s : State) : State :=
  let s1 := setPar fwBootCnt ((par s fwBootCnt + 1) % 2 ^ 32) s
  if s1.isl.askRecovery then enterRecovery s1 else selectSlot 5 s1

/-- PLL_M reaches LOCKED (R250). The first time, the islands it feeds leave reset and the boot ROM runs; ISL_APP counts as running
from its lockstep test. -/
def pllmLocked (s0 : State) : State :=
  let s := leaveReset s0
  if pllm s = 3 then setParBits clkPllmStatus 0 3 1 s
  else if decide (pllm s = 0) && s.isl.power then
    let s1 := setParBits clkPllmStatus 0 3 1 s
    if s.isl.prt && !s.prt.supplyLoss then bootRom { s1 with isl := { s1.isl with ctl := true, sys := true, acq := true } } else s1
  else s

def execPllmLocked (s : State) : Host.Outcome State Fault Refusal := .next (pllmLocked s)

/-! ## The fast-start image -/

/-- The image of the chosen slot runs; `lockstep` is the result of Campion's lockstep test. -/
def fastStartLoaded (lockstep : Bool) (s : State) : State :=
  match s.fw.chosen with
  | none => s
  | some n =>
    if s.fw.run.isSome || !s.isl.sys then s
    else
      let last := if (slotOf s n).st = 3 then n else s.fw.last
      let s1 := updFw (fun f => { f with run := some n, last := last, stopped := f.stopped || !lockstep }) s
      let s2 := setPar sysBootStage 2 { s1 with isl := { s1.isl with app := lockstep } }
      if lockstep then s2 else takeFails 3 s2

def execFastStartLoaded (lockstep : Bool) (s : State) : Host.Outcome State Fault Refusal := .next (fastStartLoaded lockstep s)

/-! ## The settings (R401 to R403) -/

/-- A record that the running image may load. -/
def eligible (s : State) (r : Rec) : Bool :=
  let m := runManifest s
  r.valid && (if r.staged then runTrial s && decide (r.schema = schemaOf m)
    else decide (fieldAt m 14 2 ≤ r.schema) && decide (r.schema ≤ schemaOf m))

/-- The newest eligible record and its copy. -/
def newestRec (s : State) : Option (Nat × Rec) :=
  let c (n : Nat) : Option (Nat × Rec) := match copyOf s n with
    | some r => if eligible s r then some (n, r) else none
    | none => none
  match c 0, c 1 with
  | some a, some b => if a.2.seq < b.2.seq then some b else some a
  | some a, none => some a
  | none, x => x

/-- The newest copy that a COMMITTED schema below S_min keeps from loading (R403). -/
def tooOld (s : State) : Option Rec :=
  [0, 1].foldl (fun a n => match copyOf s n with
    | some r => if r.valid && !r.staged && decide (r.schema < fieldAt (runManifest s) 14 2) then some r else a
    | none => a) none

/-- The words and tiles of a record come into force. -/
def takeRec (n : Nat) (r : Rec) (s : State) : State :=
  let s1 := r.params.foldl (fun s w => if isRw w.1 then setPar w.1 w.2.toNat s else s) s
  updFw (fun f => { f with loaded := some n, setHash := r.hash }) { s1 with rgt := { tiles := r.tiles } }

/-- Migration at a first start: the result is the other copy, STAGED (R402). -/
def migrated (n : Nat) (r : Rec) (ws : List (Nat × Word)) (ts : List (Nat × List Byte)) (s : State) : Rec :=
  let m := runManifest s
  { convert ws ts r with
    schema := schemaOf m, seq := newestSeq s + 1, fw := fieldAt m 4 4, staged := true, valid := true
    hash := Config.freeBytes (s.free + n) }

/-- A migration fails: the report, the slot REJECTED, then a reset (R403). -/
def migrationFails (schema id status : Nat) (s : State) : State :=
  let w := id % 2 ^ 16 + 2 ^ 16 * (status % 256) + 2 ^ 24 * (schema % 256)
  let s1 := updFw (fun f => { f with report := some (fieldAt (runManifest s) 4 4, w), told := false }) s
  let s2 := match s1.fw.run with | some n => updSlotFw n (fun x => { x with st := 4 }) s1 | none => s1
  beginReset 2 s2

/-- Words of class RESET take their stored values (R351, R418). -/
def takeStored (s : State) : State := s.stored.foldl (fun s w => setPar w.1 w.2.toNat s) s

/-- Every logical tile that is unwritten has its TILE_BAD bit set (R436). -/
def markUnwritten (s : State) : State :=
  (List.range 192).foldl (fun s t => if (tileAt s (physTile s t)).written then s else setBad t true s) s

/-- PLL_M takes stored clock settings through HOLDOVER to RELOCK (R265, R420). N and the MDCLK divisor of the settings take effect
at the first strobe after (R435). -/
def takeClock (s : State) : State :=
  if par s clkRefSel = 0 ∧ par s clkRefMode = 1 ∧ par s clkPllmBw = 3 then s
  else if pllm s ≠ 1 then s
  else if par s clkRefSel = 0 then relock 0 (enterHoldover s)
  else enterHoldover s

/-- The power-up tests MEM, RGT, SRE and CRYPTO (R423). -/
def powerUpTests (hw : Nat) (s : State) : State :=
  let fail := Nat.land (failMask hw s) 15
  let s1 := (List.range 192).foldl (fun s t =>
    let x := tileAt s (physTile s t)
    if x.written && !tileOk x then setBad t true s else s) (showTests (15 - fail) fail s)
  if Nat.land fail 13 ≠ 0 then raiseFlag sysStartEvents 1 fail s1 else s1

/-- Flags set before events could be sent, and the failure report of an earlier image. -/
def lateFlags (s : State) : State :=
  let again (id b : Nat) (s : State) : State := if parBit s id b then flagEvent id b 0 s else s
  let s1 := again sysStartEvents 2 (again fwEvents 2 (again fwEvents 1 s))
  match s1.fw.report with
  | some w => if s1.fw.told then s1 else raiseFlag fwEvents 0 w.2 (updFw (fun f => { f with told := true }) s1)
  | none => s1

/-- Betony takes its role: the window of R366 opens, or a takeover from COLD goes on (R375, R421). -/
def openRole (aon : Nat) (s : State) : State :=
  if s.red.role = 4 then givePlanes aon (updRed (fun r => { r with aon := aon }) s)
  else updRed (fun r => { r with window := true, winHb := false, winAct := false, partner := none, coldHash := none, aon := aon }) s

/-- The settings are in force: tests, MDCLK, SYS_UP, HEALTH, the role. -/
def settingsIn (aon hw : Nat) (s : State) : State :=
  let s1 := takeClock (markUnwritten (takeStored s))
  let s2 := setPar sysBootStage 3 { (takeM5v s1) with isl := { s1.isl with mdclk := true, esup := true, sysUp := true } }
  openRole aon (startHealth (lateFlags (powerUpTests hw s2)))

/-- SETTINGS_LOADED: `aon` is the count of CLK_AON, `mig` what MIGRATE gave if it ran, `hw` the tests that the hardware fails. -/
def settingsLoaded (aon : Nat) (mig : Migr) (hw : Nat) (s : State) : State :=
  if s.fw.run.isNone || s.isl.sysUp || !s.isl.sys || s.prt.resetting.isSome then s
  else match newestRec s with
    | some (n, r) =>
      if r.schema < schemaOf (runManifest s) then
        match mig with
        | .words ws ts =>
          let x := migrated n r ws ts s
          match convertFails ws (takeRec (1 - n) x s) with
          | some f => migrationFails r.schema f.1 f.2 s
          | none => settingsIn aon hw (takeRec (1 - n) x (bumpFree (bumpFree (setCopy (1 - n) (some x) s))))
        | .fails id st => migrationFails r.schema id st s
      else settingsIn aon hw (takeRec n r s)
    | none =>
      match tooOld s with
      | some r => migrationFails r.schema 0 stMigFailed s
      | none =>
        let s1 := settingsIn aon hw { s with rgt := {} }
        raiseFlag fwEvents 5 0 (raiseFlag sysStartEvents 0 0 s1)

def execSettingsLoaded (aon : Nat) (mig : Migr) (hw : Nat) (s : State) : Host.Outcome State Fault Refusal :=
  .next (settingsLoaded aon mig hw s)

/-- TANSY_EXT of the running image verifies (R388). -/
def extOk (s : State) : Bool :=
  match s.fw.run with
  | some n => ((comps (runManifest s)).filter fun c => decide (c.type = 5)).all (compOk (slotOf s n))
  | none => true

/-- TANSY_EXT runs (R388). -/
def tansyExtRunning (s : State) : State :=
  if s.isl.sys && s.isl.sysUp && extOk s then setPar sysBootStage 5 { s with isl := { s.isl with ext := true } } else s

def execTansyExtRunning (s : State) : Host.Outcome State Fault Refusal := .next (tansyExtRunning s)

end Sys2Proof.Machine
end

