-- ==== Sys2Proof/Machine/Urgent.lean ====
section
/-! DEFINITION. Sys2Proof/Machine/Urgent.lean: the URGENT commands (R33, R34, R330 to R334): what the decoder of ISL_PRT and the frame
filter of ISL_SYS check, the action, the propagation in a group, and Tansy's reply. -/

namespace Sys2Proof.Machine

abbrev opUStop : Nat := 1
abbrev opUBlock : Nat := 2
abbrev opUAsc : Nat := 3
abbrev opUTrip : Nat := 4

/-- The plane mask. -/
def uMask (u : UPay) : Nat := u.b0 % 16

/-- The planes of a mask that are neither OFF nor STOPPED. -/
def targets (mask : Nat) (s : State) : List Plane :=
  allPlanes.filter fun p => mask.testBit p.code && poweredSt (lane s p).st

/-- The mask is not 0, and the reserved bits are 0; a group ID belongs to TRIP_GROUP alone. -/
def uPayOk (op : Nat) (u : UPay) : Bool :=
  decide (uMask u ≠ 0) && decide (u.b0 < 16) && decide (u.resv = 0) && (decide (op = opUTrip) || decide (u.group = 0))

/-- FLAGS holds no bit but FORWARDED, and that on TRIP_GROUP alone. -/
def uFlagsOk (op : Nat) (e : Env) : Bool := decide (e.flags = 0) || (decide (op = opUTrip) && decide (e.flags = 4))

/-- A TRIP_GROUP of another group. -/
def foreign (op : Nat) (u : UPay) (s : State) : Bool := decide (op = opUTrip) && decide (u.group ≠ par s redGroupId)

/-- The conditions of R332 beyond the framing. A module whose group ID is 0 acts on no TRIP_GROUP (R379). -/
def uFits (op : Nat) (e : Env) (u : UPay) (s : State) : Bool :=
  uPayOk op u && uFlagsOk op e && !foreign op u s && (decide (op ≠ opUTrip) || decide (par s redGroupId ≠ 0)) && urgentListed s e.chan

/-- The decoder or filter of a channel works: SPI in ISL_PRT, Ethernet in ISL_SYS with its report to ISL_PRT. -/
def uDecodes (s : State) : Chan → Bool
  | .spi => s.isl.prt
  | .udp _ _ => s.isl.prt && s.isl.sys

/-- The action at the targeted planes (R331). -/
def uAct (op mask : Nat) (s : State) : State :=
  let ps := targets mask s
  match op with
  | 2 => causeEach ps 0x0F 0 (forceBlock ps s)
  | 3 => causeEach ps 0x10 0 (if ps.contains .m then forceAsc s else s)
  | _ => causeEach ps 0x0E 0 s

/-- One half of HWIN_URGENT: 15 bits that saturate, with a sticky OVF. -/
def bumpHalf (w : Nat) : Nat := if w % 32768 = 32767 then w ||| 32768 else w + 1

/-- HWIN_URGENT and URGENT_DONE. -/
def noteUrgent (c : Chan) (s : State) : State :=
  updHost (fun h =>
    let w := h.urgent.toNat
    let lo := w % 65536
    let hi := w / 65536
    let v := match c with | .spi => bumpHalf lo + 65536 * hi | .udp _ _ => lo + 65536 * bumpHalf hi
    { h with urgent := BitVec.ofNat 32 v, irq := h.irq ||| 2 }) s

/-- The propagation of R334: one packet from each port named, whose link is up. -/
def propagate (mask group : Nat) (s : State) : State :=
  let out (n : Nat) (s : State) : State :=
    if parBit s netTripPorts n && (ethOf s n).up then emit (.trip n mask group) s else s
  if s.isl.sys && decide (par s netTripAddr ≠ 0) then out 1 (out 0 s) else s

/-- URGENT_DONE (R342): opcode, path, mask. A restart of Tansy holds it back (R408). -/
def urgentEvent (op mask : Nat) (e : Env) (s : State) : State :=
  let path : Nat := match e.chan with | .spi => 0 | .udp _ _ => if e.flags.testBit 2 then 2 else 1
  let p := eventPacket s 1 0x0011 0 0 0 (le 2 op ++ le 1 path ++ le 1 mask)
  if s.isl.restart then updHost (fun h => { h with heldEv := h.heldEv ++ [p] }) s else routeAsync p s

/-- Tansy's part: URGENT_DONE when the action was taken, and the reply. -/
def urgentReply (op : Nat) (e : Env) (done : Bool) (mask : Nat) (s : State) : State :=
  if !answering s e.chan then s
  else
    let s1 := if done && !s.isl.recovery then urgentEvent op mask e s else s
    turnAway 0 op e (if s.isl.recovery then stWrongState else if done then stOk else stBadParam) s1

/-- The work of the decoder and of the frame generator. -/
def urgentTake (op : Nat) (e : Env) (u : UPay) (s : State) : State :=
  let s1 := noteUrgent e.chan (uAct op (uMask u) s)
  if op = opUTrip ∧ ¬ e.flags.testBit 2 then propagate (uMask u) u.group s1 else s1

/-- An URGENT command whose header and trailer passed. -/
def urgent (op : Nat) (e : Env) (u : UPay) (s : State) : State :=
  if !uDecodes s e.chan then (if s.isl.sys && !s.isl.prt && decide (e.chan ≠ .spi) && uFits op e u s then colPut 13 s else s)
  else if uFits op e u s then urgentReply op e true (uMask u) (urgentTake op e u s)
  else
    let s1 := count sysCrcErrCnt s
    urgentReply op e false 0 (if foreign op u s then count sysTripForeignCnt s1 else s1)

def execStop (e : Env) (u : UPay) (s : State) : Host.Outcome State Fault Refusal := .next (urgent opUStop e u s)

def execPulseBlock (e : Env) (u : UPay) (s : State) : Host.Outcome State Fault Refusal := .next (urgent opUBlock e u s)

def execAsc (e : Env) (u : UPay) (s : State) : Host.Outcome State Fault Refusal := .next (urgent opUAsc e u s)

def execTripGroup (e : Env) (u : UPay) (s : State) : Host.Outcome State Fault Refusal := .next (urgent opUTrip e u s)

end Sys2Proof.Machine
end

