-- ==== Sys2Proof/Machine/Host.lean ====
section
/-! DEFINITION. Sys2Proof/Machine/Host.lean: the HOST port (R321 to R328, R340, R344): packets as bytes, the four SPI frames, and
EVENTS_LOST. -/

namespace Sys2Proof.Machine

/-! ## Packets as bytes (R321, R322) -/

/-- Header and payload. -/
def packetBody (p : Packet) : List Byte :=
  le 2 0xD7A4 ++ [1] ++ le 1 (p.cls + 4 * p.kind) ++ le 2 p.opcode ++ le 2 p.seq ++ le 4 p.handle ++ le 2 p.payload.length ++
    le 1 p.flags ++ le 1 p.status ++ le 8 p.stamp ++ p.payload

/-- A packet with its trailer. -/
def packetBytes (p : Packet) : List Byte := packetBody p ++ le 4 (crc32c (packetBody p))

/-- The header fields of a command that came over SPI. A missing trailer reads 0. -/
def envOf (b : List Byte) : Env :=
  { chan := .spi, seq := fieldAt b 6 2, handle := fieldAt b 8 4, flags := fieldAt b 14 1, stamp := fieldAt b 16 8,
    crc := ofLe (b.drop (b.length - 4)) }

/-- Check 1 of R328. -/
def isCommand (b : List Byte) : Bool :=
  decide (fieldAt b 0 2 = 0xD7A4) && decide (fieldAt b 2 1 = 1) && decide (fieldAt b 3 1 / 4 % 4 = 0)

/-- The framing of check 3. -/
def framed (b : List Byte) : Bool := decide (b.length = 28 + fieldAt b 12 2) && decide (fieldAt b 12 2 ≤ 1440)

/-- The trailer of check 3. -/
def crcHolds (b : List Byte) : Bool := decide (crc32c (b.take (b.length - 4)) = ofLe (b.drop (b.length - 4)))

/-- The payload of a framed packet. -/
def payloadOf (b : List Byte) : List Byte := (b.drop 24).take (fieldAt b 12 2)

/-! ## Opcodes and their lengths (R335, R340) -/

/-- Check 4: the opcode is one of the class. -/
def knownOp : Nat → Nat → Bool
  | 0, op => decide (1 ≤ op) && decide (op ≤ 4)
  | 1, op => (decide (0x10 ≤ op) && decide (op ≤ 0x18)) ||
      [0x20, 0x21, 0x22, 0x30, 0x40, 0x41, 0x42, 0x43, 0x50, 0x60, 0x61].contains op
  | 2, op => [0x100, 0x101, 0x110, 0x111, 0x112, 0x113, 0x120, 0x121, 0x122, 0x130, 0x131, 0x132, 0x133, 0x140].contains op
  | _, op => [0x200, 0x201, 0x210, 0x211, 0x212, 0x213, 0x220, 0x230].contains op

/-- n items of a size after a prefix, with n in bytes 0 and 1. -/
def counted (pre size : Nat) (pl : List Byte) : Bool :=
  let n := fieldAt pl 0 2
  decide (1 ≤ n) && decide (n ≤ 64) && decide (pl.length = pre + size * n)

/-- Check 5: the length is one that the opcode permits. -/
def lengthOk (op : Nat) (pl : List Byte) : Bool :=
  let n := pl.length
  if op ≤ 4 then decide (n = 8)
  else if op ≤ 0x22 then decide (n = 4)
  else match op with
    | 0x30 | 0x101 => counted 4 8 pl
    | 0x40 | 0x42 | 0x43 | 0x50 | 0x110 | 0x111 | 0x113 | 0x122 => decide (n = 0)
    | 0x41 | 0x60 | 0x61 | 0x120 | 0x121 | 0x211 => decide (n = 4)
    | 0x100 => counted 2 2 pl
    | 0x112 | 0x201 | 0x212 => decide (n = 8)
    | 0x130 => decide (n = 72)
    | 0x131 | 0x210 => decide (n = 16)
    | 0x132 => decide (n = 32)
    | 0x133 => decide (n = 104)
    | 0x140 => decide (24 ≤ n) && decide (n = 24 + fieldAt pl 6 2)
    | 0x200 | 0x213 | 0x220 => decide (9 ≤ n) && decide (n ≤ 1440)
    | _ => decide (84 ≤ n) && decide (n ≤ 1440)

/-! ## Payloads -/

def urgentPay (pl : List Byte) : UPay := { b0 := fieldAt pl 0 1, resv := fieldAt pl 1 3, group := fieldAt pl 4 4 }

def planePay (pl : List Byte) : PPay := { code := fieldAt pl 0 1, resv := fieldAt pl 1 3 }

def slotPay (pl : List Byte) : SlotPay := { slot := fieldAt pl 0 1, resv := fieldAt pl 1 3 }

def prePay (pl : List Byte) : Pre := { unit := fieldAt pl 0 4, offset := fieldAt pl 4 2, b6 := fieldAt pl 6 1, grp := fieldAt pl 7 1 }

def dataPay (pl : List Byte) : DataPay := { pre := prePay pl, data := pl.drop 8 }

def readPay (pl : List Byte) : ReadPay :=
  { src := fieldAt pl 0 1, slot := fieldAt pl 1 1, resv := fieldAt pl 2 2, num := fieldAt pl 4 4, first := fieldAt pl 8 4,
    count := fieldAt pl 12 4 }

/-- The entries of SET_PARAM (R350). -/
def entriesPay (pl : List Byte) : List PEntry :=
  (List.range (fieldAt pl 0 2)).map fun i =>
    let b := 4 + 8 * i
    { id := fieldAt pl b 2, grp := fieldAt pl (b + 2) 1, resv := fieldAt pl (b + 3) 1, val := BitVec.ofNat 32 (fieldAt pl (b + 4) 4) }

/-- The payload of FRAME_SEND with its descriptor (R287, R338): the handle field, which the host writes as 0, counts as reserved. -/
def framePay (pl : List Byte) : FramePay :=
  let d := pl.drop 8
  let c := fieldAt d 6 1
  { port := fieldAt pl 0 1, resv := fieldAt pl 1 7 + c / 32 + fieldAt d 7 1 / 2 + fieldAt d 8 4 + fieldAt d 12 4,
    launch := fieldAt d 0 6, base := c % 4, queue := c / 4 % 8, hp := decide (fieldAt d 7 1 % 2 = 1), bytes := pl.drop 24 }

/-- The commands that a payload of each opcode stands for. -/
def hostCommand (op : Nat) (e : Env) (pl : List Byte) (s : State) : Host.Outcome State Fault Refusal :=
  match op with
  | 0x10 => execPlaneEnable e (planePay pl) s
  | 0x11 => execPlaneArm e (planePay pl) s
  | 0x12 => execPlaneStart e (planePay pl) s
  | 0x13 => execPlaneStop e (planePay pl) s
  | 0x14 => execPlaneDisarm e (planePay pl) s
  | 0x15 => execPlaneDisable e (planePay pl) s
  | 0x16 => execClearSafe e (planePay pl) s
  | 0x17 => execTestEnter e (planePay pl) s
  | 0x18 => execTestExit e (planePay pl) s
  | 0x20 => execGfmSync e (planePay pl) s
  | 0x21 => execDcPrecharge e (planePay pl) s
  | 0x22 => execDcDischarge e (planePay pl) s
  | 0x30 => execSetParamControl e (entriesPay pl) (fieldAt pl 2 2) s
  | 0x40 => execAcqTrigger e s
  | 0x41 => execAcqRelease e (slotPay pl) s
  | 0x42 => execReplayStart e s
  | 0x43 => execReplayStop e s
  | 0x50 => execStepBack e s
  | 0x60 => execHandleQuery e (fieldAt pl 0 4) s
  | 0x61 => execHandleCancel e (fieldAt pl 0 4) s
  | 0x100 => execGetParam e ((List.range (fieldAt pl 0 2)).map fun i => fieldAt pl (2 + 2 * i) 2) s
  | 0x101 => execSetParam e (entriesPay pl) (fieldAt pl 2 2) s
  | 0x110 => execTxnOpen e s
  | 0x111 => execTxnPrepare e s
  | 0x112 => execTxnCommit e (fieldAt pl 0 8) s
  | 0x113 => execTxnAbort e s
  | 0x120 => execSelfTest e (fieldAt pl 0 4) s
  | 0x121 => execReset e (fieldAt pl 0 1) (fieldAt pl 1 3) s
  | 0x122 => execSaveSettings e s
  | 0x130 => execFwUpdate e (fieldAt pl 0 4) (fieldAt pl 4 1) (fieldAt pl 5 3) (pl.drop 8) s
  | 0x131 =>
    if fieldAt pl 0 1 = 1 then execFwActivateHitless e (fieldAt pl 1 7) (fieldAt pl 8 8) s
    else execFwActivate e (fieldAt pl 0 1 + fieldAt pl 1 7) (fieldAt pl 8 8) s
  | 0x132 => execAttest e pl s
  | 0x133 => execDebugUnlock e pl s
  | 0x140 => execGroupAction e pl s
  | 0x200 => execRgtWrite e (dataPay pl) s
  | 0x201 => execRgtRead e (prePay pl) s
  | 0x210 => execAcqRead e (readPay pl) s
  | 0x211 => execAcqArchive e (slotPay pl) s
  | 0x212 => execReplayLoad e (slotPay pl) (fieldAt pl 4 4) s
  | 0x213 => execReplayData e (dataPay pl) s
  | 0x220 => execFwData e (dataPay pl) s
  | _ => execFrameSend e (framePay pl) s

/-! ## PACKET_WRITE -/

/-- Without power or in reset MISO reads all-ones (R57, R66), over the n bytes of a frame. -/
def misoOnes (n : Nat) (s : State) : State :=
  if alive s then s else updHost (fun h => { h with miso := List.replicate n 0xFF }) s

/-- A frame on SPI shows HWIN_STATUS on MISO as latched at its start, then the bytes that its type gives. -/
def miso (bs : List Byte) (s : State) : State := updHost (fun h => { h with miso := le 4 (hwinStatus s) ++ bs }) s

/-- A reply of checks 3 to 6 to a packet over SPI. -/
def spiRefuse (b : List Byte) (st : Nat) (s : State) : State :=
  if serving s .spi then turnAway (fieldAt b 3 1 % 4) (fieldAt b 4 2) (envOf b) st s else s

/-- The reserved bits of byte 3. -/
def kindResv (b : List Byte) : Nat := fieldAt b 3 1 / 16

/-- The status of checks 3 to 5, and of the reserved bits of byte 3 in check 6. -/
def headStatus (b : List Byte) : Nat :=
  if !framed b then stBadLength
  else if !crcHolds b then stBadCrc
  else if !knownOp (fieldAt b 3 1 % 4) (fieldAt b 4 2) then stBadOpcode
  else if !lengthOk (fieldAt b 4 2) (payloadOf b) then stBadLength
  else if kindResv b ≠ 0 ∧ fieldAt b 3 1 % 4 ≠ 0 then stBadParam
  else stOk

/-- The URGENT decoder's share of a packet that Tansy does not take (R324). -/
def decoderAlone (b : List Byte) (s : State) : State :=
  let u := urgentPay (payloadOf b)
  let op := fieldAt b 4 2
  if fieldAt b 3 1 % 4 ≠ 0 then s
  else if kindResv b = 0 ∧ headStatus b = stOk ∧ uFits op (envOf b) u s then urgentTake op (envOf b) u s
  else count sysCrcErrCnt s

/-- A packet of check 1 that the input takes. -/
def takePacket (b : List Byte) (s : State) : State :=
  let st := headStatus b
  let op := fieldAt b 4 2
  if st ≠ stOk then
    let s1 := if decide (fieldAt b 3 1 % 4 = 0) || ((!framed b || !crcHolds b) && serving s .spi) then count sysCrcErrCnt s else s
    spiRefuse b st s1
  else if fieldAt b 3 1 % 4 = 0 then
    let u := urgentPay (payloadOf b)
    urgent op (envOf b) { u with resv := u.resv + kindResv b } s
  else match hostCommand op (envOf b) (payloadOf b) s with
    | .next t => t
    | _ => s

/-- PACKET_WRITE: `ready` is IN_READY at the start of the frame, `b` the bytes on MOSI after the type. -/
def packetWrite (ready : Bool) (b : List Byte) (s0 : State) : State :=
  if !s0.isl.prt then misoOnes (4 + b.length) s0
  else
    let s := miso (b.map fun _ => 0) (updHost (fun h => { h with inReady := ready }) s0)
    let c := isCommand b
    if ready then (if c then takePacket b s else s)
    else updHost (fun h => { h with irq := h.irq ||| 0x20 }) (if c then decoderAlone b s else s)

def execPacketWrite (ready : Bool) (b : List Byte) (s : State) : Host.Outcome State Fault Refusal := .next (packetWrite ready b s)

/-! ## PACKET_READ -/

/-- PACKET_READ that clocks n bytes after the status: the head packet leaves the queue only when all of it was clocked. -/
def packetRead (n : Nat) (s : State) : State :=
  if !s.isl.prt then misoOnes (4 + n) s
  else match s.host.out with
    | [] => miso (List.replicate n 0) s
    | p :: t =>
      let b := packetBytes p
      let s1 := miso (padTo n b) s
      if b.length ≤ n then updHost (fun h => { h with out := t }) s1 else s1

def execPacketRead (n : Nat) (s : State) : Host.Outcome State Fault Refusal := .next (packetRead n s)

/-! ## The window -/

def winErr (s : State) : State := updHost (fun h => { h with irq := h.irq ||| 0x10 }) s

/-- WINDOW_READ: an address that is not assigned reads 0 and sets WIN_ERR. -/
def windowRead (addr : Nat) (s : State) : State :=
  if !s.isl.prt then misoOnes 12 s
  else
    let v := le 4 ((hwinRead s addr).getD 0)
    let s1 := miso (v ++ le 4 (crc32c (le 1 addr ++ v))) s
    if (hwinRead s addr).isSome then s1 else winErr s1

def execWindowRead (addr : Nat) (s : State) : Host.Outcome State Fault Refusal := .next (windowRead addr s)

/-- A write of a writable register of the window; none for any other. -/
def hwinWrite (addr v : Nat) (s : State) : Option State :=
  match addr with
  | 2 => some (updHost (fun h => { h with irq := h.irq &&& ~~~(BitVec.ofNat 6 v &&& 0x3E) }) s)
  | 3 => some (updHost (fun h => { h with irqEn := BitVec.ofNat 6 v }) s)
  | 6 => some (updHost (fun h =>
      let w := h.urgent.toNat
      let lo := if v.testBit 15 then 0 else w % 65536
      let hi := if v.testBit 31 then 0 else w / 65536
      { h with urgent := BitVec.ofNat 32 (lo + 65536 * hi) }) s)
  | _ => none

/-- WINDOW_WRITE with its CRC over MOSI bytes 0 to 5. -/
def windowWrite (addr v crc : Nat) (s0 : State) : State :=
  if !s0.isl.prt then misoOnes 10 s0
  else
    let s := miso (List.replicate 6 0) s0
    if crc32c ([0xC3] ++ le 1 addr ++ le 4 v) = crc then (hwinWrite addr v s).getD (winErr s) else winErr s

def execWindowWrite (addr v crc : Nat) (s : State) : Host.Outcome State Fault Refusal := .next (windowWrite addr v crc s)

/-! ## EVENTS_LOST -/

/-- There is room again after discards (R344). -/
def eventsLost (s : State) : State :=
  if s.host.lost ≠ 0 ∧ s.host.out.length < 64 ∧ s.isl.sys then
    pushSpi (eventPacket s 1 0x00F0 0 0 0 (le 4 s.host.lost)) (updHost (fun h => { h with lost := 0 }) s)
  else s

def execEventsLost (s : State) : Host.Outcome State Fault Refusal := .next (eventsLost s)

end Sys2Proof.Machine
end

