-- ==== Sys2Proof/Machine/Dispatch.lean ====
section
/-! DEFINITION. Sys2Proof/Machine/Dispatch.lean: one arm for each command of the table. -/

namespace Sys2Proof.Machine

def exec (i : Instr) (s : State) : Host.Outcome State Fault Refusal :=
  match i with
  | .stop e u => Sys2Proof.Machine.execStop e u s
  | .pulseBlock e u => Sys2Proof.Machine.execPulseBlock e u s
  | .asc e u => Sys2Proof.Machine.execAsc e u s
  | .tripGroup e u => Sys2Proof.Machine.execTripGroup e u s
  | .planeEnable e p => Sys2Proof.Machine.execPlaneEnable e p s
  | .planeArm e p => Sys2Proof.Machine.execPlaneArm e p s
  | .planeArmReady p => Sys2Proof.Machine.execPlaneArmReady p s
  | .planeArmTimeout p => Sys2Proof.Machine.execPlaneArmTimeout p s
  | .planeStart e p => Sys2Proof.Machine.execPlaneStart e p s
  | .planeStop e p => Sys2Proof.Machine.execPlaneStop e p s
  | .stopLimit p => Sys2Proof.Machine.execStopLimit p s
  | .planeDisarm e p => Sys2Proof.Machine.execPlaneDisarm e p s
  | .planeDisable e p => Sys2Proof.Machine.execPlaneDisable e p s
  | .clearSafe e p => Sys2Proof.Machine.execClearSafe e p s
  | .testEnter e p => Sys2Proof.Machine.execTestEnter e p s
  | .testExit e p => Sys2Proof.Machine.execTestExit e p s
  | .testGo e v => Sys2Proof.Machine.execTestGo e v s
  | .testSequenceEnd fail => Sys2Proof.Machine.execTestSequenceEnd fail s
  | .gfmSync e p => Sys2Proof.Machine.execGfmSync e p s
  | .syncTimeout => Sys2Proof.Machine.execSyncTimeout s
  | .dcPrecharge e p => Sys2Proof.Machine.execDcPrecharge e p s
  | .preFail => Sys2Proof.Machine.execPreFail s
  | .dcDischarge e p => Sys2Proof.Machine.execDcDischarge e p s
  | .disTime => Sys2Proof.Machine.execDisTime s
  | .setParamControl e es resv => Sys2Proof.Machine.execSetParamControl e es resv s
  | .setParam e es resv => Sys2Proof.Machine.execSetParam e es resv s
  | .modeWrite e p v => Sys2Proof.Machine.execModeWrite e p v s
  | .getParam e ids => Sys2Proof.Machine.execGetParam e ids s
  | .acqTrigger e => Sys2Proof.Machine.execAcqTrigger e s
  | .acqRelease e p => Sys2Proof.Machine.execAcqRelease e p s
  | .replayStart e => Sys2Proof.Machine.execReplayStart e s
  | .replayStop e => Sys2Proof.Machine.execReplayStop e s
  | .stepBack e => Sys2Proof.Machine.execStepBack e s
  | .handleQuery e h => Sys2Proof.Machine.execHandleQuery e h s
  | .handleCancel e h => Sys2Proof.Machine.execHandleCancel e h s
  | .txnOpen e => Sys2Proof.Machine.execTxnOpen e s
  | .txnPrepare e => Sys2Proof.Machine.execTxnPrepare e s
  | .prepared => Sys2Proof.Machine.execPrepared s
  | .txnCommit e kc => Sys2Proof.Machine.execTxnCommit e kc s
  | .txnAbort e => Sys2Proof.Machine.execTxnAbort e s
  | .txnTimeout => Sys2Proof.Machine.execTxnTimeout s
  | .txnSwitch => Sys2Proof.Machine.execTxnSwitch s
  | .txnGroupSwitch ok => Sys2Proof.Machine.execTxnGroupSwitch ok s
  | .selfTest e mask => Sys2Proof.Machine.execSelfTest e mask s
  | .reset e sel resv => Sys2Proof.Machine.execReset e sel resv s
  | .saveSettings e => Sys2Proof.Machine.execSaveSettings e s
  | .fwUpdate e len kind resv base => Sys2Proof.Machine.execFwUpdate e len kind resv base s
  | .fwData e p => Sys2Proof.Machine.execFwData e p s
  | .fwActivate e resv kh => Sys2Proof.Machine.execFwActivate e resv kh s
  | .fwActivateHitless e resv kh => Sys2Proof.Machine.execFwActivateHitless e resv kh s
  | .hitlessReady mig => Sys2Proof.Machine.execHitlessReady mig s
  | .hitlessSwap w => Sys2Proof.Machine.execHitlessSwap w s
  | .tansyRestart => Sys2Proof.Machine.execTansyRestart s
  | .tansyRestartDone => Sys2Proof.Machine.execTansyRestartDone s
  | .restartMax => Sys2Proof.Machine.execRestartMax s
  | .attest e nonce => Sys2Proof.Machine.execAttest e nonce s
  | .debugUnlock e t => Sys2Proof.Machine.execDebugUnlock e t s
  | .groupAction e p => Sys2Proof.Machine.execGroupAction e p s
  | .groupDecide => Sys2Proof.Machine.execGroupDecide s
  | .groupConfirm => Sys2Proof.Machine.execGroupConfirm s
  | .groupApply => Sys2Proof.Machine.execGroupApply s
  | .rgtWrite e p => Sys2Proof.Machine.execRgtWrite e p s
  | .rgtRead e p => Sys2Proof.Machine.execRgtRead e p s
  | .acqRead e p => Sys2Proof.Machine.execAcqRead e p s
  | .acqArchive e p => Sys2Proof.Machine.execAcqArchive e p s
  | .replayLoad e p tiles => Sys2Proof.Machine.execReplayLoad e p tiles s
  | .replayData e p => Sys2Proof.Machine.execReplayData e p s
  | .frameSend e p => Sys2Proof.Machine.execFrameSend e p s
  | .packetWrite ready b => Sys2Proof.Machine.execPacketWrite ready b s
  | .packetRead n => Sys2Proof.Machine.execPacketRead n s
  | .windowRead addr => Sys2Proof.Machine.execWindowRead addr s
  | .windowWrite addr v crc => Sys2Proof.Machine.execWindowWrite addr v crc s
  | .setValid e p v => Sys2Proof.Machine.execSetValid e p v s
  | .timeLatch e v => Sys2Proof.Machine.execTimeLatch e v s
  | .comparatorArm e tc base t => Sys2Proof.Machine.execComparatorArm e tc base t s
  | .comparatorDisarm e tc base => Sys2Proof.Machine.execComparatorDisarm e tc base s
  | .phaseStep e v => Sys2Proof.Machine.execPhaseStep e v s
  | .phaseStepApply => Sys2Proof.Machine.execPhaseStepApply s
  | .refSelWrite e v => Sys2Proof.Machine.execRefSelWrite e v s
  | .refModeWrite e bw v => Sys2Proof.Machine.execRefModeWrite e bw v s
  | .ybusSurvey e v => Sys2Proof.Machine.execYbusSurvey e v s
  | .goCold e => Sys2Proof.Machine.execGoCold e s
  | .take e => Sys2Proof.Machine.execTake e s
  | .release e => Sys2Proof.Machine.execRelease e s
  | .confirm e => Sys2Proof.Machine.execConfirm e s
  | .confirmTime => Sys2Proof.Machine.execConfirmTime s
  | .captureEnable e v => Sys2Proof.Machine.execCaptureEnable e v s
  | .captureStop e v => Sys2Proof.Machine.execCaptureStop e v s
  | .queueDisable e port v => Sys2Proof.Machine.execQueueDisable e port v s
  | .haltNFall => Sys2Proof.Machine.execHaltNFall s
  | .haltNRise => Sys2Proof.Machine.execHaltNRise s
  | .stoLow second => Sys2Proof.Machine.execStoLow second s
  | .stoHigh => Sys2Proof.Machine.execStoHigh s
  | .resetNLow => Sys2Proof.Machine.execResetNLow s
  | .externalResetEntry => Sys2Proof.Machine.execExternalResetEntry s
  | .supplyLow v => Sys2Proof.Machine.execSupplyLow v s
  | .supplyLoss => Sys2Proof.Machine.execSupplyLoss s
  | .powerFailRecord => Sys2Proof.Machine.execPowerFailRecord s
  | .corePowerDown => Sys2Proof.Machine.execCorePowerDown s
  | .mcRelayDrop => Sys2Proof.Machine.execMcRelayDrop s
  | .powerUp keep => Sys2Proof.Machine.execPowerUp keep s
  | .pllmLocked => Sys2Proof.Machine.execPllmLocked s
  | .fastStartLoaded lockstep => Sys2Proof.Machine.execFastStartLoaded lockstep s
  | .settingsLoaded aon mig hw => Sys2Proof.Machine.execSettingsLoaded aon mig hw s
  | .tansyExtRunning => Sys2Proof.Machine.execTansyExtRunning s
  | .islandStopped x => Sys2Proof.Machine.execIslandStopped x s
  | .supervisorReset => Sys2Proof.Machine.execSupervisorReset s
  | .islandReset x => Sys2Proof.Machine.execIslandReset x s
  | .keepAliveLoss ports => Sys2Proof.Machine.execKeepAliveLoss ports s
  | .uvloDeclare n m => Sys2Proof.Machine.execUvloDeclare n m s
  | .uvloRelease n m => Sys2Proof.Machine.execUvloRelease n m s
  | .shortDesat l => Sys2Proof.Machine.execShortDesat l s
  | .shortHard n up => Sys2Proof.Machine.execShortHard n up s
  | .shortStagger => Sys2Proof.Machine.execShortStagger s
  | .deferredTurnOff n => Sys2Proof.Machine.execDeferredTurnOff n s
  | .gatePwrHigh n mw => Sys2Proof.Machine.execGatePwrHigh n mw s
  | .gateBudget p => Sys2Proof.Machine.execGateBudget p s
  | .tBaseUpdate t => Sys2Proof.Machine.execTBaseUpdate t s
  | .mpSupply n => Sys2Proof.Machine.execMpSupply n s
  | .busPresentChange on => Sys2Proof.Machine.execBusPresentChange on s
  | .brkAuxChange on => Sys2Proof.Machine.execBrkAuxChange on s
  | .mcAuxChange on => Sys2Proof.Machine.execMcAuxChange on s
  | .brkMismatch mc => Sys2Proof.Machine.execBrkMismatch mc s
  | .brkDelay => Sys2Proof.Machine.execBrkDelay s
  | .tripOutput w => Sys2Proof.Machine.execTripOutput w s
  | .ascStep => Sys2Proof.Machine.execAscStep s
  | .forcedAscEnd => Sys2Proof.Machine.execForcedAscEnd s
  | .cutArrival p => Sys2Proof.Machine.execCutArrival p s
  | .cutAck p => Sys2Proof.Machine.execCutAck p s
  | .boundaryCount p => Sys2Proof.Machine.execBoundaryCount p s
  | .controlStrobe bs => Sys2Proof.Machine.execControlStrobe bs s
  | .commitPoint late => Sys2Proof.Machine.execCommitPoint late s
  | .adaptWindowEnd p => Sys2Proof.Machine.execAdaptWindowEnd p s
  | .sreCheck => Sys2Proof.Machine.execSreCheck s
  | .carrierReload p bs w => Sys2Proof.Machine.execCarrierReload p bs w s
  | .feedGapStep p => Sys2Proof.Machine.execFeedGapStep p s
  | .publish p user => Sys2Proof.Machine.execPublish p user s
  | .teaselRead p => Sys2Proof.Machine.execTeaselRead p s
  | .refItemWrite p w => Sys2Proof.Machine.execRefItemWrite p w s
  | .outerBoundary o => Sys2Proof.Machine.execOuterBoundary o s
  | .encLost enc => Sys2Proof.Machine.execEncLost enc s
  | .encoderIndex enc => Sys2Proof.Machine.execEncoderIndex enc s
  | .stuck n inPrt at' => Sys2Proof.Machine.execStuck n inPrt at' s
  | .clkFault n c => Sys2Proof.Machine.execClkFault n c s
  | .manchesterLockLost n inPrt at' => Sys2Proof.Machine.execManchesterLockLost n inPrt at' s
  | .manchErr n inPrt at' => Sys2Proof.Machine.execManchErr n inPrt at' s
  | .frozen n => Sys2Proof.Machine.execFrozen n s
  | .streamValid n inPrt => Sys2Proof.Machine.execStreamValid n inPrt s
  | .skewAuto n up => Sys2Proof.Machine.execSkewAuto n up s
  | .meterOutput bs => Sys2Proof.Machine.execMeterOutput bs s
  | .clkHoldover => Sys2Proof.Machine.execClkHoldover s
  | .refQualified alt => Sys2Proof.Machine.execRefQualified alt s
  | .clkAltUsed => Sys2Proof.Machine.execClkAltUsed s
  | .freqWindow w => Sys2Proof.Machine.execFreqWindow w s
  | .holdoverMax => Sys2Proof.Machine.execHoldoverMax s
  | .clkFallback => Sys2Proof.Machine.execClkFallback s
  | .clkReturn => Sys2Proof.Machine.execClkReturn s
  | .clkPrtHold => Sys2Proof.Machine.execClkPrtHold s
  | .ptpSync m => Sys2Proof.Machine.execPtpSync m s
  | .pathDelayMeasure port d => Sys2Proof.Machine.execPathDelayMeasure port d s
  | .pdHoldTimeout => Sys2Proof.Machine.execPdHoldTimeout s
  | .ptpHoldover => Sys2Proof.Machine.execPtpHoldover s
  | .ptpForward port m res => Sys2Proof.Machine.execPtpForward port m res s
  | .replicaRealign found => Sys2Proof.Machine.execReplicaRealign found s
  | .tcFire tc => Sys2Proof.Machine.execTcFire tc s
  | .launch port dt => Sys2Proof.Machine.execLaunch port dt s
  | .linkDown port => Sys2Proof.Machine.execLinkDown port s
  | .recordClose => Sys2Proof.Machine.execRecordClose s
  | .slowStreamEntry => Sys2Proof.Machine.execSlowStreamEntry s
  | .replayEnd r => Sys2Proof.Machine.execReplayEnd r s
  | .yarrowHead => Sys2Proof.Machine.execYarrowHead s
  | .yclkRequestPulse => Sys2Proof.Machine.execYclkRequestPulse s
  | .surveyStart => Sys2Proof.Machine.execSurveyStart s
  | .surveyDone v => Sys2Proof.Machine.execSurveyDone v s
  | .alignmentMark ns part => Sys2Proof.Machine.execAlignmentMark ns part s
  | .carrierMark x => Sys2Proof.Machine.execCarrierMark x s
  | .groupTrigger tr width => Sys2Proof.Machine.execGroupTrigger tr width s
  | .groupTriggerApply => Sys2Proof.Machine.execGroupTriggerApply s
  | .presenceChange on => Sys2Proof.Machine.execPresenceChange on s
  | .bulkData bad => Sys2Proof.Machine.execBulkData bad s
  | .eventsLost => Sys2Proof.Machine.execEventsLost s
  | .heartbeatSend da aon edge => Sys2Proof.Machine.execHeartbeatSend da aon edge s
  | .heartbeatReceive link missed f => Sys2Proof.Machine.execHeartbeatReceive link missed f s
  | .snapFragment link part seq da aon data => Sys2Proof.Machine.execSnapFragment link part seq da aon data s
  | .pathDown link missed => Sys2Proof.Machine.execPathDown link missed s
  | .fail => Sys2Proof.Machine.execFail s
  | .roleWindow => Sys2Proof.Machine.execRoleWindow s
  | .takeover aon => Sys2Proof.Machine.execTakeover aon s
  | .takeFail step => Sys2Proof.Machine.execTakeFail step s
  | .descriptorSend => Sys2Proof.Machine.execDescriptorSend s
  | .descriptorReceive src b => Sys2Proof.Machine.execDescriptorReceive src b s
  | .grpMemberLost pos => Sys2Proof.Machine.execGrpMemberLost pos s
  | .debugHalt => Sys2Proof.Machine.execDebugHalt s
  | .debugResume => Sys2Proof.Machine.execDebugResume s
  | .jtagInstruction x => Sys2Proof.Machine.execJtagInstruction x s
  | .pllPLocked => Sys2Proof.Machine.execPllPLocked s
  | .linkUp port gig => Sys2Proof.Machine.execLinkUp port gig s
  | .frameForward port pcp bytes => Sys2Proof.Machine.execFrameForward port pcp bytes s
  | .headChange => Sys2Proof.Machine.execHeadChange s
  | .yclkLost => Sys2Proof.Machine.execYclkLost s
  | .archiveComplete => Sys2Proof.Machine.execArchiveComplete s
  | .settingsSaved => Sys2Proof.Machine.execSettingsSaved s
  | .selfTestComplete hw => Sys2Proof.Machine.execSelfTestComplete hw s

end Sys2Proof.Machine
end

