-- ==== Sys2Proof/Safety.lean ====
section
/-! DEFINITION. Sys2Proof/Safety.lean: the terms the statements use: a new command whose checks pass, its reply, and the
properties that every step keeps. -/

namespace Sys2Proof.Machine

/-! ## A command of the host -/

/-- A new command of an opcode that passes checks 2, 6 and 7 of R328: its channel is served, its source listed, no flag set but
those of `flags`, it repeats no stored command, its SEQ is later than the last, and the firmware that runs takes the opcode. -/
abbrev Fresh (op flags : Nat) (e : Env) (s : State) : Prop :=
  serving s e.chan = true ∧ srcListed s e.chan = true ∧ e.flags &&& flags = e.flags ∧ repeated (chanSt s e.chan) e = none ∧
    ((chanSt s e.chan).started = true → 0 < seqDiff (chanSt s e.chan) e) ∧ runStatus op s = stOk

/-- A handle slot is free (check 8 of R328). -/
abbrev Room (s : State) : Prop := (freeSlot s).isSome = true

/-- The reply kept last on a channel, with the SEQ and the trailer of its command (R329). -/
def lastKept (t : State) (c : Chan) : Option (Nat × Nat × Packet) := (chanSt t c).replies.head?

/-- A command was answered: its channel keeps this reply for it last. -/
abbrev Answered (cls op : Nat) (e : Env) (st handle : Nat) (payload : List Byte) (t : State) : Prop :=
  lastKept t e.chan = some (e.seq, e.crc, replyPacket cls op e st handle payload)

/-- A long operation was accepted: the handle the state gave it is outstanding on its channel, and is in the reply. -/
abbrev Accepted (cls op : Nat) (e : Env) (s t : State) : Prop :=
  Answered cls op e stAccepted (nextHandle s) [] t ∧
    findOp t (nextHandle s) = some { handle := nextHandle s, opcode := op, chan := e.chan }

/-- A SET_PARAM of the CONFIG form outside a transaction, of these words, whose checks all pass. -/
abbrev Writes (e : Env) (ws : List (Nat × Word)) (s : State) : Prop :=
  Fresh 0x0101 1 e s ∧ e.handle = 0 ∧ txnBusy s = false ∧
    paramFailure .config (ws.map fun w => { id := w.1, val := w.2 }) (acceptSeq e s) = none

/-- No operation of a plane is in the way of its commands (R337). -/
abbrev LaneFree (p : Plane) (s : State) : Prop := (lane s p).arming = none ∧ (lane s p).stopping = none

/-- Every other lane is as it was. -/
abbrev OtherLanes (p : Plane) (s t : State) : Prop := ∀ q, q ≠ p → lane t q = lane s q

/-- The reference items that wait for a plane's thread, in the FIFO, in COL01 and at a write that waits, oldest first. -/
abbrev refQueue (p : Plane) (s : State) : List (BitVec 64) := (lane s p).fifo ++ (lane s p).col01 ++ (lane s p).colWait

/-- The status of the last completion, as the log keeps it (R344). -/
def lastStatus (t : State) : Option Nat := t.host.log.head?.map (·.status)

/-! ## What every step keeps -/

/-- No port commands both its switches (R162). -/
abbrev NoShoot (s : State) : Prop := s.prt.upper &&& s.prt.lower = 0

/-- The parameter store is in its canonical form (log entry 2). -/
abbrev ParamsOk (s : State) : Prop := tabWf paramReset s.params

end Sys2Proof.Machine
end

