-- ==== Sys2Proof/Certificates/Slice0/Obligations.lean ====
section
/-! DEFINITION. Sys2Proof/Certificates/Slice0/Obligations.lean: the statements about the model, from the numbered rules of the
manual. Each says with its conclusion that the commands it names answer a next state, and what that state holds. -/

open Sys2Proof Sys2Proof.Machine

/-! ## The block -/

/-- A step takes the command at the front of the queue and runs it on the state with the queue's rest. On an empty queue the block
idles, which is the model's choice (log entry 1), but for the end of hold-up: with the relay of R189 dropped, the module loses its
power, no switch is commanded and its pins keep their levels (log entry 75). -/
def Obligations.StepRunsTheFrontCommand : Prop :=
  (∀ (c : Instr) (l : List Instr) (s : State), s.pending = c :: l → step s = exec c { s with pending := l }) ∧
  (∀ s : State, s.pending = [] → (s.prt.holdUp && s.prt.mcGone) = false → step s = .next s) ∧
  (∀ s : State, s.pending = [] → s.prt.holdUp = true → s.prt.mcGone = true →
    ∃ t, step s = .next t ∧ t.isl.power = false ∧ t.prt.upper = 0 ∧ t.prt.lower = 0 ∧ t.pins = s.pins)

/-- The state right after reset as the manual gives it: every plane OFF (R88); prt_override set at every port with PULSE, ENABLE
and the permissions 0 (R437); no switch commanded; no handle outstanding and no command waiting; every slot FREE; 400 cycles of
CLK.TC_CYCLES and 10 of MEAS.MDCLK_DIV; the event mask of the host window 0x0F (R325); and the two invariants below hold of it. -/
def Obligations.ResetState : Prop :=
  (∀ p, (lane State.reset p).st = .off) ∧ State.reset.prt.ovr = BitVec.allOnes 36 ∧ State.reset.prt.pulse = 0 ∧
  State.reset.prt.enable = 0 ∧ State.reset.prt.permit = 0 ∧ State.reset.prt.upper = 0 ∧ State.reset.prt.lower = 0 ∧
  State.reset.host.ops = [] ∧ State.reset.pending = [] ∧ (∀ n, n < 8 → (slotAt State.reset n).st = .free) ∧
  par State.reset clkTcCycles = 400 ∧ par State.reset measMdclkDiv = 10 ∧ State.reset.host.irqEn = 0x0F ∧
  NoShoot State.reset ∧ ParamsOk State.reset

/-- The gate port of R162: with ENABLE 0 its inputs select neither switch; with ENABLE 1 they select the upper at PULSE 1 and the
lower at PULSE 0, where no undervoltage, latched fault, LOCKED port or absent supply holds that switch off (R170, R174, R44); no
inputs select both. And every step from a state in which no port commands both its switches leads to such a state: no modulator
state, mask, Sorrel pattern, test pattern or register value can command a shoot-through. -/
def Obligations.NoPortCommandsBothSwitches : Prop :=
  (∀ s t : State, NoShoot s → step s = .next t → NoShoot t) ∧
  (∀ (n : Nat) (s : State), n < 36 →
    ((enableIn s).getLsbD n = false → (wantUpper s).getLsbD n = false ∧ (wantLower s).getLsbD n = false) ∧
    ((heldUpper s).getLsbD n = false → (wantUpper s).getLsbD n = ((enableIn s).getLsbD n && (pulseIn s).getLsbD n)) ∧
    ((heldLower s).getLsbD n = false → (wantLower s).getLsbD n = ((enableIn s).getLsbD n && !(pulseIn s).getLsbD n)) ∧
    ((wantUpper s).getLsbD n && (wantLower s).getLsbD n) = false)

/-- The parameter store keeps its canonical form over any step: equal parameters are equal data. The form is the model's choice
(log entry 2). -/
def Obligations.EveryStepKeepsParamsCanonical : Prop :=
  ∀ s t : State, ParamsOk s → step s = .next t → ParamsOk t

/-! ## New -/

/-- IRQ_N is low while any bit of HWIN_IRQ is set together with the same bit of HWIN_IRQ_EN, and only then. SYS_DOWN, bit 3, is
set when ISL_SYS is detected as stopped. SAFE_ENTRY, bit 2, is set at every entry of a plane into SAFE, whatever the command that
brought it there (R326). -/
def Obligations.InterruptLineAndItsBits : Prop :=
  (∀ s : State, irqLow s = true ↔ ∃ i, i < 6 ∧ (hwinIrq s).testBit i = true ∧ s.host.irqEn.getLsbD i = true) ∧
  (∀ s : State, s.isl.sys = true → ∃ t, exec (.islandStopped .sys) s = .next t ∧ (hwinIrq t).testBit 3 = true) ∧
  (∀ (c : Instr) (p : Plane) (s t : State), exec c s = .next t → (lane s p).st ≠ .safe → (lane t p).st = .safe →
    (hwinIrq t).testBit 2 = true)

/-- The service of every host command by R329, for any opcode and any operation body. A command whose SEQ and trailer both equal
those of a stored command is resent its reply and acts no further. Otherwise one with d at or below 0 on a started channel is
discarded and counted in SYS.STALE_CNT. Otherwise it is accepted, the first on a new channel whatever its SEQ: its SEQ becomes the
channel's last, SYS.SEQ_GAP_CNT counts when d > 1 and is not yet at its limit, and its operation runs and is answered. The SEQ of
an URGENT command changes nothing it does to lanes and gate registers. A resent or a discarded command still counts as a use of
its channel (R327). -/
def Obligations.CommandsFollowTheirSequence : Prop :=
  ∀ (cls op : Nat) (e : Env) (flags : Nat) (needs : State → Bool) (body : Nat → State → State × Ans) (s : State),
    serving s e.chan = true → srcListed s e.chan = true → e.flags &&& flags = e.flags →
    (∀ r, repeated (chanSt s e.chan) e = some r → serve cls op e flags needs body s = sendReply e.chan r (touchChan e.chan s)) ∧
    (repeated (chanSt s e.chan) e = none → (chanSt s e.chan).started = true → seqDiff (chanSt s e.chan) e ≤ 0 →
      serve cls op e flags needs body s = count sysStaleCnt (touchChan e.chan s)) ∧
    (repeated (chanSt s e.chan) e = none → ((chanSt s e.chan).started = true → 0 < seqDiff (chanSt s e.chan) e) →
      (chanSt (acceptSeq e s) e.chan).last = e.seq ∧ (chanSt (acceptSeq e s) e.chan).started = true ∧
      (par s sysSeqGapCnt < 65535 → par (acceptSeq e s) sysSeqGapCnt = par s sysSeqGapCnt +
        if (chanSt s e.chan).started = true ∧ 1 < seqDiff (chanSt s e.chan) e then 1 else 0) ∧
      (runStatus op s = stOk → needs (acceptSeq e s) = false → ∀ u st pl, body (nextHandle s) (acceptSeq e s) = (u, .now st pl) →
        serve cls op e flags needs body s = answer cls op e st (if st = stAccepted then nextHandle s else e.handle) pl u)) ∧
    (∀ u q, ∃ t1 t2, exec (.stop e u) s = .next t1 ∧ exec (.stop { e with seq := q } u) s = .next t2 ∧ t1.planes = t2.planes ∧
      t1.prt = t2.prt)

/-! ## Plane commands (chapter 04) -/

/-- PLANE_ENABLE answers OK and takes a plane from OFF to STOPPED with a cleared integrator and weight, keeping what waits in its
FIFO; PLANE_DISABLE answers OK and takes it from STOPPED to OFF (R89); no gate output moves, and the other lanes stay as they are.
PLANE_ARM is accepted under a handle and switches the supplies on of the plane's ports that are not set OFF, with their VCC
monitors still in undervoltage; when every monitor has released, with the STO channels high and the required signals valid,
PLANE_ARM_READY puts the plane into READY with prt_override released and its permission written, but for the legs withdrawn by
R178; PLANE_ARM_TIMEOUT switches the supplies off and leaves the plane in its state with no arming in progress (R89). -/
def Obligations.EnableAndArmAPlane : Prop :=
  (∀ (e : Env) (p : Plane) (s : State), Fresh opEnable 1 e s → LaneFree p s → enableStatus p (acceptSeq e s) = stOk →
    ∃ t, exec (.planeEnable e { code := p.code }) s = .next t ∧ Answered 1 opEnable e stOk e.handle [] t ∧
      (lane t p).st = .stopped ∧ (lane t p).z = {} ∧ (lane t p).weight = 0 ∧ (lane t p).fifo = (lane s p).fifo ∧
      OtherLanes p s t ∧ t.prt.upper = s.prt.upper ∧ t.prt.lower = s.prt.lower) ∧
  (∀ (e : Env) (p : Plane) (s : State), Fresh opDisable 1 e s → LaneFree p s → (lane s p).st = .stopped →
    ∃ t, exec (.planeDisable e { code := p.code }) s = .next t ∧ Answered 1 opDisable e stOk e.handle [] t ∧
      (lane t p).st = .off ∧ OtherLanes p s t ∧ t.prt = s.prt ∧ t.mods = s.mods) ∧
  (∀ (e : Env) (p : Plane) (s : State), Fresh opArm 1 e s → Room s → LaneFree p s → armStatus p (acceptSeq e s) = stOk →
    ∃ t, exec (.planeArm e { code := p.code }) s = .next t ∧ Accepted 1 opArm e s t ∧
      lane t p = { lane s p with arming := some (nextHandle s) } ∧ OtherLanes p s t ∧
      t.prt.supOn = s.prt.supOn ||| (planeMask p &&& ~~~offPorts s) ∧
      t.prt.uvVcc = s.prt.uvVcc ||| (planeMask p &&& ~~~offPorts s) ∧ t.prt.upper = s.prt.upper ∧ t.prt.lower = s.prt.lower) ∧
  (∀ (p : Plane) (h : Nat) (s : State), (lane s p).arming = some h → (lane s p).queued = [] → uvloFree p s = true →
    stoHighNow s = true → signalsOk p s = true → s.isl.sys = true → s.pins.haltLow = false → s.prt.chopAct = false →
    ∃ t, exec (.planeArmReady p) s = .next t ∧ (lane t p).st = .ready ∧ (lane t p).arming = none ∧
      t.prt.ovr = s.prt.ovr &&& ~~~planeMask p ∧
      t.prt.permit = (s.prt.permit &&& ~~~planeMask p) ||| (planeMask p &&& ~~~s.prt.legOff) ∧ OtherLanes p s t) ∧
  (∀ (p : Plane) (h : Nat) (s : State), (lane s p).arming = some h → h ≠ 0 → (lane s p).queued = [] → s.isl.sys = true →
    ∃ t, exec (.planeArmTimeout p) s = .next t ∧ (lane t p).arming = none ∧ (lane t p).st = (lane s p).st ∧
      t.prt.supOn = s.prt.supOn &&& ~~~planeMask p ∧ OtherLanes p s t)

/-- PLANE_START is answered OK and marks the plane, with no gate register and no modulator changed; at the strobe a marked READY
plane is RUNNING with CTL.x.BAND_SCALE 1.0, its first decision to come and no transition that a dwell counts from (R89).
PLANE_STOP is accepted under a handle, and the RUNNING plane is stopping from then on. STOP_LIMIT marks a plane that is stopping
and changes no other plane and no gate register; at the strobe a RUNNING plane so marked is READY, with the stop and what was
queued behind it ended, while HALT_N and the STO channels are high (R90). strobeStart and strobeStop are the strobe's parts for
one plane. -/
def Obligations.StartingAndStoppingAPlane : Prop :=
  (∀ (e : Env) (p : Plane) (s : State), Fresh opStart 1 e s → LaneFree p s → startStatus p (acceptSeq e s) = stOk →
    ∃ t, exec (.planeStart e { code := p.code }) s = .next t ∧ Answered 1 opStart e stOk e.handle [] t ∧
      lane t p = { lane s p with startPend := true } ∧ OtherLanes p s t ∧ t.prt = s.prt ∧ t.mods = s.mods) ∧
  (∀ (p : Plane) (s : State), (lane s p).startPend = true → (lane s p).st = .ready →
    (lane (strobeStart p s) p).st = .running ∧ par (strobeStart p s) (ctlBandScale p.code) = 0x1000 ∧
      (lane (strobeStart p s) p).first = true ∧ (lane (strobeStart p s) p).startPend = false ∧
      (modr (strobeStart p s) p).past = [] ∧ OtherLanes p s (strobeStart p s)) ∧
  (∀ (e : Env) (p : Plane) (s : State), Fresh opStop 1 e s → Room s → LaneFree p s → (lane s p).st = .running →
    ∃ t, exec (.planeStop e { code := p.code }) s = .next t ∧ Accepted 1 opStop e s t ∧
      lane t p = { lane s p with stopping := some (nextHandle s), rampN := 0, stopNow := false } ∧ OtherLanes p s t ∧
      t.prt = s.prt ∧ t.mods = s.mods) ∧
  (∀ (p : Plane) (s : State), ∃ t, exec (.stopLimit p) s = .next t ∧
      lane t p = { lane s p with stopNow := (lane s p).stopping.isSome } ∧ OtherLanes p s t ∧ t.prt = s.prt ∧ t.params = s.params) ∧
  (∀ (p : Plane) (s : State), (lane s p).st = .running → (lane s p).stopping.isSome = true → (lane s p).stopNow = true →
    s.pins.haltLow = false → stoHighNow s = true →
    (lane (strobeStop p s) p).st = .ready ∧ (lane (strobeStop p s) p).stopping = none ∧ (lane (strobeStop p s) p).queued = [] ∧
      OtherLanes p s (strobeStop p s))

/-- PLANE_DISARM answers OK and takes READY to STOPPED, with the plane's supplies off and Sorrel's override set with ENABLE 0.
TEST_ENTER answers OK and takes READY to TEST with the kind of PROT.TEST_KIND, no sequence in progress and Sorrel's override set;
TEST_EXIT answers OK and takes TEST to READY with the override released (R89, R186), stated with HALT_N and the STO channels high
and no chopping. The end of a sequence leaves every plane in its state and kind, with no sequence in progress in TEST, and sets
SELF_OK, or SELF_FAIL where the port failed, at each port of a self-check (R186). -/
def Obligations.DisarmAndTest : Prop :=
  (∀ (e : Env) (p : Plane) (s : State), Fresh opDisarm 1 e s → LaneFree p s → (lane s p).st = .ready →
    ∃ t, exec (.planeDisarm e { code := p.code }) s = .next t ∧ Answered 1 opDisarm e stOk e.handle [] t ∧
      (lane t p).st = .stopped ∧ OtherLanes p s t ∧ t.prt.supOn = s.prt.supOn &&& ~~~planeMask p ∧
      t.prt.ovr = s.prt.ovr ||| planeMask p ∧ t.prt.enable = s.prt.enable &&& ~~~planeMask p) ∧
  (∀ (e : Env) (p : Plane) (s : State), Fresh opTestEnter 1 e s → LaneFree p s → testStatus p (acceptSeq e s) = stOk →
    ∃ t, exec (.testEnter e { code := p.code }) s = .next t ∧ Answered 1 opTestEnter e stOk e.handle [] t ∧
      (lane t p).st = .test ∧ (lane t p).testKind = par s protTestKind ∧ (lane t p).testBusy = false ∧ OtherLanes p s t ∧
      t.prt.ovr = s.prt.ovr ||| planeMask p) ∧
  (∀ (e : Env) (p : Plane) (s : State), Fresh opTestExit 1 e s → LaneFree p s → (lane s p).st = .test → stoHighNow s = true →
    s.pins.haltLow = false → s.prt.chopAct = false →
    ∃ t, exec (.testExit e { code := p.code }) s = .next t ∧ Answered 1 opTestExit e stOk e.handle [] t ∧
      (lane t p).st = .ready ∧ t.prt.ovr = s.prt.ovr &&& ~~~planeMask p ∧ OtherLanes p s t) ∧
  (∀ (fail : List Nat) (s : State), ∃ t, exec (.testSequenceEnd fail) s = .next t ∧
    (∀ p, (lane t p).st = (lane s p).st ∧ (lane t p).testBusy = ((lane s p).testBusy && decide ((lane s p).st ≠ .test)) ∧
      (lane t p).testKind = (lane s p).testKind) ∧
    (∀ n, n < 36 → (lane s (planeOfPort n)).st = .test → (lane s (planeOfPort n)).testBusy = true →
      (lane s (planeOfPort n)).testKind = 2 → parBit t (gateStatus n) (if fail.contains n then 10 else 9) = true) ∧ t.time = s.time)

/-- CLEAR_SAFE whose conditions hold is not answered at once: it waits at the plane for the next strobe, with no gate register and
no other lane changed. At the strobe, where the conditions still hold, the waiting plane goes from SAFE to READY and the command
is answered OK; where one does not hold, the plane stays as it was and the answer is WRONG_STATE (R185). For a plane that is not
in SAFE the command answers WRONG_STATE and changes no lane and no gate register. strobeClear is the strobe's part for one plane.
-/
def Obligations.ClearSafeWaitsForTheStrobe : Prop :=
  (∀ (e : Env) (p : Plane) (s : State), Fresh opClear 1 e s → LaneFree p s → clearFits p (acceptSeq e s) = true →
    ∃ t, exec (.clearSafe e { code := p.code }) s = .next t ∧
      lane t p = { lane s p with clearPend := (lane s p).clearPend ++ [(some e, 0)] } ∧ OtherLanes p s t ∧ t.prt = s.prt ∧
      (chanSt t e.chan).replies = (chanSt s e.chan).replies) ∧
  (∀ (e : Env) (p : Plane) (s : State), (lane s p).clearPend = [(some e, 0)] → (lane s p).queued = [] →
    (clearFits p s = true → (lane (strobeClear p s) p).st = .ready ∧ (lane (strobeClear p s) p).clearPend = [] ∧
      Answered 1 opClear e stOk e.handle [] (strobeClear p s) ∧ OtherLanes p s (strobeClear p s)) ∧
    (clearFits p s = false → lane (strobeClear p s) p = { lane s p with clearPend := [] } ∧
      Answered 1 opClear e stWrongState e.handle [] (strobeClear p s) ∧ OtherLanes p s (strobeClear p s) ∧
      (strobeClear p s).prt = s.prt)) ∧
  (∀ (e : Env) (p : Plane) (s : State), Fresh opClear 1 e s → LaneFree p s → (lane s p).st ≠ .safe →
    ∃ t, exec (.clearSafe e { code := p.code }) s = .next t ∧ Answered 1 opClear e stWrongState e.handle [] t ∧
      t.planes = s.planes ∧ t.prt = s.prt)

/-! ## URGENT commands (chapters 06 and 12) -/

/-- An URGENT command that fits and names one plane acts at once. A plane that is READY, RUNNING or TEST goes to SAFE, and every
other lane stays as it was: STOP gives cause 0x0E and sets SAFE_ENTRY and URGENT_DONE of HWIN_IRQ; PULSE_BLOCK forces PULSE_BLOCK
with cause 0x0F; ASC gives cause 0x10, and on plane M, where PULSE_BLOCK is not forced, forces an active short; TRIP_GROUP of the
module's own group, if it has one, gives cause 0x0E (R331, R332). While Tansy serves the HOST port, each puts the reply OK into
its queue. An URGENT command with an empty mask acts on no lane, gate register or modulator and SYS.CRC_ERR_CNT counts it, and a
TRIP_GROUP of another group counts in SYS.TRIP_FOREIGN_CNT and acts on no lane and no gate register (R332, R334), where these
counters are below their limits. -/
def Obligations.UrgentCommands : Prop :=
  (∀ (e : Env) (p : Plane) (s : State), s.isl.prt = true → s.isl.sys = true → activeSt (lane s p).st = true →
    urgentListed s e.chan = true → e.flags = 0 →
    (∃ t, exec (.stop e { b0 := 2 ^ p.code }) s = .next t ∧ (lane t p).st = .safe ∧ par t (protSafeCause p.code) = 0x0E ∧
      OtherLanes p s t ∧ t.host.irq &&& 6 = 6 ∧
      (e.chan = .spi → serving s .spi = true → s.isl.recovery = false → replyPacket 0 1 e stOk e.handle [] ∈ t.host.out)) ∧
    (∃ t, exec (.pulseBlock e { b0 := 2 ^ p.code }) s = .next t ∧ (lane t p).st = .safe ∧ (lane t p).sub = .pulseBlock ∧
      par t (protSafeCause p.code) = 0x0F ∧ t.prt.forcedBlock.getLsbD p.code = true ∧ OtherLanes p s t ∧
      (e.chan = .spi → serving s .spi = true → s.isl.recovery = false → replyPacket 0 2 e stOk e.handle [] ∈ t.host.out)) ∧
    (∃ t, exec (.asc e { b0 := 2 ^ p.code }) s = .next t ∧ (lane t p).st = .safe ∧ par t (protSafeCause p.code) = 0x10 ∧
      (p = .m → s.prt.forcedBlock.getLsbD 1 = false → t.prt.forcedAsc = true) ∧ OtherLanes p s t ∧
      (e.chan = .spi → serving s .spi = true → s.isl.recovery = false → replyPacket 0 3 e stOk e.handle [] ∈ t.host.out)) ∧
    (∀ g, g = par s redGroupId → g ≠ 0 →
      ∃ t, exec (.tripGroup e { b0 := 2 ^ p.code, group := g }) s = .next t ∧ (lane t p).st = .safe ∧
        par t (protSafeCause p.code) = 0x0E ∧ OtherLanes p s t ∧
        (e.chan = .spi → serving s .spi = true → s.isl.recovery = false → replyPacket 0 4 e stOk e.handle [] ∈ t.host.out))) ∧
  (∀ (e : Env) (s : State), s.isl.prt = true → s.isl.sys = true →
    (par s sysCrcErrCnt < 65535 →
      ∀ c ∈ [Instr.stop e { b0 := 0 }, .pulseBlock e { b0 := 0 }, .asc e { b0 := 0 }, .tripGroup e { b0 := 0 }],
      ∃ t, exec c s = .next t ∧ par t sysCrcErrCnt = par s sysCrcErrCnt + 1 ∧ t.planes = s.planes ∧ t.prt = s.prt ∧
        t.mods = s.mods) ∧
    (∀ u : UPay, u.group ≠ par s redGroupId → par s sysTripForeignCnt < 65535 →
      ∃ t, exec (.tripGroup e u) s = .next t ∧ par t sysTripForeignCnt = par s sysTripForeignCnt + 1 ∧
        t.planes = s.planes ∧ t.prt = s.prt))

/-- The headline of URGENT PULSE_BLOCK: for every plane that is READY, RUNNING or TEST, in every state of the module in which its
decoder runs, with any modulator outputs, masks, test patterns and gate registers, no upper and no lower switch of the plane stays
commanded after the command, but those whose turn-off R173 defers or R175 staggers. On plane B this excepts protective chopping,
which R184 keeps apart. -/
def Obligations.PulseBlockTurnsThePlaneOff : Prop :=
  ∀ (e : Env) (p : Plane) (s : State), s.isl.prt = true → s.isl.sys = true → activeSt (lane s p).st = true →
    urgentListed s e.chan = true → e.flags = 0 → (p = .b → s.prt.chopOn = false) →
    ∃ t, exec (.pulseBlock e { b0 := 2 ^ p.code }) s = .next t ∧
      t.prt.upper &&& planeMask p &&& ~~~(t.prt.deferUp ||| (staggered t).1) = 0 ∧
      t.prt.lower &&& planeMask p &&& ~~~(t.prt.deferLo ||| (staggered t).2) = 0

/-! ## Parameters (chapter 12) -/

/-- SET_PARAM outside a transaction, with 1 to 64 entries: when the two passes of R350 find no failure, the reply is OK and every
entry has taken effect by its commit class (applyAll), in parameters, gate registers, lanes and waiting words; its CONTROL form
does the same under its own checks; when a pass fails, the reply carries the failure's status and the index and the ID of the
first entry that fails, and no entry is written: parameters are as after the command's acceptance, gate registers and lanes as
before (R350, R341). The entries take effect one after another, each by its class: a BOUNDARY word waits for its boundary, a RESET
word goes to the settings store, and any other reaches its island at once (R351). -/
def Obligations.SetParamChecksThenWrites : Prop :=
  (∀ (e : Env) (es : List PEntry) (s : State), e.handle = 0 → 1 ≤ es.length → es.length ≤ 64 → txnBusy s = false →
    (Fresh 0x0101 1 e s →
      (paramFailure .config es (acceptSeq e s) = none → ∃ t, exec (.setParam e es 0) s = .next t ∧
        Answered 2 0x0101 e stOk 0 [] t ∧ t.params = (applyAll es (acceptSeq e s)).params ∧
        t.prt = (applyAll es (acceptSeq e s)).prt ∧ t.planes = (applyAll es (acceptSeq e s)).planes ∧
        t.wait = (applyAll es (acceptSeq e s)).wait ∧ t.stored = (applyAll es (acceptSeq e s)).stored) ∧
      (∀ i x st, paramFailure .config es (acceptSeq e s) = some (i, x, st) → ∃ t, exec (.setParam e es 0) s = .next t ∧
        Answered 2 0x0101 e st (if st = stAccepted then nextHandle s else 0) (le 2 i ++ le 2 x.id) t ∧
        t.params = (acceptSeq e s).params ∧ t.prt = s.prt ∧ t.planes = s.planes)) ∧
    (Fresh 0x0030 1 e s → paramFailure .control es (acceptSeq e s) = none →
      ∃ t, exec (.setParamControl e es 0) s = .next t ∧ Answered 1 0x0030 e stOk 0 [] t ∧
        t.params = (applyAll es (acceptSeq e s)).params ∧ t.prt = (applyAll es (acceptSeq e s)).prt ∧
        t.planes = (applyAll es (acceptSeq e s)).planes ∧ t.wait = (applyAll es (acceptSeq e s)).wait)) ∧
  (∀ (x : PEntry) (d : PDef) (l : List PEntry) (s : State), paramRow x.id = some d →
    applyAll (x :: l) s = applyAll l (applyAll [x] s) ∧
    (d.commit = .boundary → applyAll [x] s = { s with wait := s.wait ++ [(x.id, x.val)] }) ∧
    (d.commit = .reset → applyAll [x] s = storeWord x.id x.val.toNat s) ∧
    (d.commit ≠ .boundary → d.commit ≠ .reset → applyAll [x] s = liveWrite x.id x.val.toNat s))

/-- A write of PROT.TEST_SW0 to SW2 whose 2-bit field of some port has both bits set is answered WRONG_STATE with the entry's
index and ID, and nothing of it is applied: parameters, gate registers and lanes stay as they are after the command's acceptance.
The test pattern word is the only request form that can ask for both switches (R164). In SW2 the bits beyond the ports are 0. -/
def Obligations.TestPatternsNeverNameBothSwitches : Prop :=
  ∀ (e : Env) (k n : Nat) (v : Word) (s : State), Fresh 0x0101 1 e s → e.handle = 0 → txnBusy s = false → k < 3 → n < 16 →
    16 * k + n < 36 → (k = 2 → v.toNat < 256) →
    v.getLsbD (2 * n) = true → v.getLsbD (2 * n + 1) = true →
    ∃ t, exec (.setParam e [{ id := protTestSw0 + k, val := v }] 0) s = .next t ∧
      Answered 2 0x0101 e stWrongState 0 (le 2 0 ++ le 2 (protTestSw0 + k)) t ∧ t.params = (acceptSeq e s).params ∧ t.prt = s.prt ∧
      t.planes = s.planes

/-- GET_PARAM of defined IDs answers their values and writes nothing (R349); with READ_CLEAR the W1C counters it names read as
before and are 0 after, and every other parameter is as it was (R363), stated for IDs outside the gate-port blocks, whose
FAULT_CNT also unlocks its port (R174); an undefined ID answers BAD_PARAM with its index. -/
def Obligations.GetParamReads : Prop :=
  (∀ (e : Env) (ids : List Nat) (s : State), Fresh 0x0100 9 e s → s.isl.recovery = false → 1 ≤ ids.length → ids.length ≤ 64 →
    (firstUndefined 0 ids = none → e.flags.testBit 3 = false →
      ∃ t, exec (.getParam e ids) s = .next t ∧
        Answered 2 0x0100 e stOk e.handle (le 2 ids.length ++ le 2 0 ++ ids.flatMap (getEntry (acceptSeq e s))) t ∧
        t.params = (acceptSeq e s).params ∧ t.planes = s.planes ∧ t.prt = s.prt ∧ t.time = s.time) ∧
    (∀ i id, firstUndefined 0 ids = some (i, id) →
      ∃ t, exec (.getParam e ids) s = .next t ∧ Answered 2 0x0100 e stBadParam e.handle (le 2 i ++ le 2 id) t ∧
        t.params = (acceptSeq e s).params ∧ t.planes = s.planes)) ∧
  (∀ (e : Env) (ids : List Nat) (s : State), Fresh 0x0100 9 e s → s.isl.recovery = false → 1 ≤ ids.length → ids.length ≤ 64 →
    firstUndefined 0 ids = none → e.flags.testBit 3 = true → (∀ i ∈ ids, i < 0x0F00 ∨ 0x1140 ≤ i) →
    ∃ t, exec (.getParam e ids) s = .next t ∧
      Answered 2 0x0100 e stOk e.handle (le 2 ids.length ++ le 2 0 ++ ids.flatMap (getEntry (acceptSeq e s))) t ∧
      (∀ j, par t j = if ids.contains j && (match paramRow j with | some d => decide (d.acc = .w1cCnt) | none => false) then 0
        else par (acceptSeq e s) j) ∧ t.planes = s.planes ∧ t.prt = s.prt)

/-- Writes of single parameters. A non-zero TEST_GO starts the sequence of every plane in TEST of kind 1 or 2 that is idle: a
double pulse turns the named switch of the plane on, a self-check has every switch of the plane off (R186). SET_VALID arms the
shadow and clears its dirty mark (R139). MODE waits for the next strobe; there, in RUNNING, BAND asks a CARRIER plane for an entry
and CARRIER arms an exit of a BAND plane (R351, R156). PHASE_STEP adds to PHASE_PEND (R262). A 0 written to TEST_GO or SET_VALID
changes no lane and no modulator. TIME_LATCH copies the bases as ISL_ACQ reads them into the snapshot registers, stated for three
of them, and leaves the bases themselves (R269); YBUS_SURVEY asks for a survey, which a module on the bus shows in YBUS.STATUS
(R310); QUEUE_DISABLE discards the frames of the queues it disables and no others, and completes those with a handle (R290). A
write of CLK.REF_SEL takes PLL_M from LOCKED through HOLDOVER, with CLK_HOLDOVER raised and the primary reference no longer
qualified; a write of CLK.REF_MODE or CLK.PLLM_BW with the primary in use and qualified goes through HOLDOVER to RELOCK (R252,
R265). laneWord is the strobe's part for one waiting word. -/
def Obligations.ParameterWritesWithEffects : Prop :=
  (∀ (e : Env) (v : Word) (s : State),
    (Writes e [(protTestGo, v)] s →
      (v ≠ 0 → ∃ t, exec (.testGo e v) s = .next t ∧ Answered 2 0x0101 e stOk 0 [] t ∧
        ∀ q, (lane s q).st = .test → (lane s q).testKind ≠ 0 → (lane s q).testBusy = false →
          (lane t q).testBusy = true ∧ (lane t q).testAge = 0 ∧ (lane t q).st = .test ∧
          ((lane s q).testKind = 1 → dpPort s < 36 → planeOfPort (dpPort s) = q → 0 < par s protTestDpT1 →
            t.prt.ovr.getLsbD (dpPort s) = true ∧ t.prt.enable.getLsbD (dpPort s) = true ∧
            t.prt.pulse.getLsbD (dpPort s) = parBit s protTestDpPort 6) ∧
          ((lane s q).testKind = 2 → t.prt.enable &&& planeMask q = 0)) ∧
      (v = 0 → ∃ t, exec (.testGo e v) s = .next t ∧ t.planes = s.planes ∧ t.prt = s.prt)) ∧
    (∀ p, Writes e [(modSetValid p.code, v)] s →
      (v ≠ 0 → ∃ t, exec (.setValid e p v) s = .next t ∧ Answered 2 0x0101 e stOk 0 [] t ∧
        modr t p = { modr s p with armed := true, dirty := false } ∧ (∀ q, q ≠ p → modr t q = modr s q) ∧ t.planes = s.planes) ∧
      (v = 0 → ∃ t, exec (.setValid e p v) s = .next t ∧ t.mods = s.mods)) ∧
    (∀ p, Writes e [(ctlMode p.code, v)] s →
      ∃ t, exec (.modeWrite e p v) s = .next t ∧ Answered 2 0x0101 e stOk 0 [] t ∧ t.wait = s.wait ++ [(ctlMode p.code, v)] ∧
        par t (ctlMode p.code) = par s (ctlMode p.code) ∧ t.planes = s.planes ∧ t.mods = s.mods) ∧
    (∀ p, (lane s p).st = .running →
      ((modr s p).carrier = true → (modr (laneWord (ctlMode p.code) 0 s) p).entryReq = true ∧
        par (laneWord (ctlMode p.code) 0 s) (ctlMode p.code) = 0) ∧
      ((modr s p).carrier = false → (modr (laneWord (ctlMode p.code) 1 s) p).exitCmd = true ∧
        par (laneWord (ctlMode p.code) 1 s) (ctlMode p.code) = 1)) ∧
    (Writes e [(clkPhaseStep, v)] s →
      ∃ t, exec (.phaseStep e v) s = .next t ∧ Answered 2 0x0101 e stOk 0 [] t ∧
        par t clkPhasePend = toBits 9 (phasePend s + signedOf 8 v.toNat) ∧ t.planes = s.planes ∧ t.mods = s.mods)) ∧
  (∀ (e : Env) (v : Word) (s : State),
    (Writes e [(timeLatch, v)] s → v ≠ 0 →
      ∃ t, exec (.timeLatch e v) s = .next t ∧ Answered 2 0x0101 e stOk 0 [] t ∧
        par t timeMonoLo = (acqBase s 0 0).floor.toNat % 2 ^ 64 % 2 ^ 32 ∧
        par t timeNetNs = (acqBase s 1 0).floor.toNat % 1000000000 ∧
        par t timeGridCyc = (acqBase s 3 0).floor.toNat / 2 ^ 32 % 2 ^ 32 ∧ t.time = s.time ∧ t.planes = s.planes) ∧
    (Writes e [(ybusSurvey, v)] s → v ≠ 0 → onYbus s = true →
      ∃ t, exec (.ybusSurvey e v) s = .next t ∧ Answered 2 0x0101 e stOk 0 [] t ∧ parBit t ybusStatus 6 = true ∧
        t.planes = s.planes ∧ t.time = s.time) ∧
    (∀ n, n < 2 → Writes e [(netEthQEn n, v)] s →
      ∃ t, exec (.queueDisable e n v) s = .next t ∧ Answered 2 0x0101 e stOk 0 [] t ∧ par t (netEthQEn n) = v.toNat ∧
        (∀ q, q < 8 → (ethOf t n).queues.getD q [] =
          if (par s (netEthQEn n)).testBit q && !v.toNat.testBit q then [] else (ethOf s n).queues.getD q []) ∧
        (∀ q f h, q < 8 → (par s (netEthQEn n)).testBit q = true → v.toNat.testBit q = false →
          f ∈ (ethOf s n).queues.getD q [] → f.handle = some h → findOp t h = none) ∧
        ethOf t (1 - n) = ethOf s (1 - n) ∧ t.planes = s.planes)) ∧
  (∀ (e : Env) (v : Word) (s : State), pllm s = 1 →
    (Writes e [(clkRefSel, v)] s →
      ∃ t, exec (.refSelWrite e v) s = .next t ∧ Answered 2 0x0101 e stOk 0 [] t ∧ par t clkRefSel = v.toNat ∧ pllm t = 2 ∧
        parBit t clkEvents 0 = true ∧ parBit t clkPllmStatus 7 = false ∧ t.planes = s.planes ∧ t.time = s.time) ∧
    (∀ bw, Writes e [(if bw then clkPllmBw else clkRefMode, v)] s → parBits s clkPllmStatus 3 2 = par s clkRefSel →
      parBit s clkPllmStatus 7 = true →
      ∃ t, exec (.refModeWrite e bw v) s = .next t ∧ Answered 2 0x0101 e stOk 0 [] t ∧
        par t (if bw then clkPllmBw else clkRefMode) = v.toNat ∧ pllm t = 3 ∧ parBit t clkEvents 0 = true ∧ t.planes = s.planes))

/-- COMPARATOR_ARM writes the event time and the base with the armed bit: an event still ahead leaves the comparator armed; one
that has passed, while ISL_ACQ runs, sets LATE_ARM and TC_FIRE and leaves it disarmed; COMPARATOR_DISARM clears the armed bit
(R284). A base of ISL_ACQ reaching the event time of an armed comparator fires it: TC_FIRE is set and the comparator is disarmed
(R285). TC_FIRE of a comparator that is not due, or that the module does not have, changes nothing (the model's reading of such an
event, log entry 65). -/
def Obligations.Comparators : Prop :=
  (∀ (e : Env) (tc b : Nat) (w : BitVec 48) (s : State), tc < 16 →
    Writes e [(timeTcEvtLo tc, w.truncate 32), (timeTcEvtHi tc, (w >>> 32).truncate 32),
      (timeTcCtrl tc, BitVec.ofNat 32 (b % 4 + 4))] s →
    (signedOf 48 (toBits 48 ((baseField s (b % 4) 0 : Int) - w.toNat)) < 0 →
      ∃ t, exec (.comparatorArm e tc b w) s = .next t ∧ Answered 2 0x0101 e stOk 0 [] t ∧ par t (timeTcCtrl tc) = b % 4 + 4 ∧
        par t (timeTcEvtLo tc) + 2 ^ 32 * par t (timeTcEvtHi tc) = w.toNat ∧ t.planes = s.planes ∧ t.time = s.time) ∧
    (0 ≤ signedOf 48 (toBits 48 ((baseField s (b % 4) 0 : Int) - w.toNat)) → s.isl.acq = true →
      ∃ t, exec (.comparatorArm e tc b w) s = .next t ∧ Answered 2 0x0101 e stOk 0 [] t ∧ par t (timeTcCtrl tc) = b % 4 ∧
        parBit t (timeTcStatus tc) 1 = true ∧ parBit t (timeTcStatus tc) 2 = true ∧ t.time = s.time)) ∧
  (∀ (e : Env) (tc b : Nat) (s : State), tc < 16 → Writes e [(timeTcCtrl tc, BitVec.ofNat 32 (b % 4))] s →
    ∃ t, exec (.comparatorDisarm e tc b) s = .next t ∧ Answered 2 0x0101 e stOk 0 [] t ∧ par t (timeTcCtrl tc) = b % 4 ∧
      t.planes = s.planes ∧ t.time = s.time) ∧
  (∀ (tc c : Nat) (s : State), tc < 16 → tcDue s tc c = true →
    ∃ t, exec (.tcFire ⟨tc, c⟩) s = .next t ∧ parBit t (timeTcStatus tc) 1 = true ∧ parBit t (timeTcCtrl tc) 2 = false ∧ t.time = s.time) ∧
  (∀ (tc c : Nat) (s : State), 16 ≤ tc ∨ tcDue s tc c = false → exec (.tcFire ⟨tc, c⟩) s = .next s)

/-- A write of ACQ.CTRL that sets bit 0 opens a record in slot 0 where that is FREE, the lowest; one that clears it closes the
open record TRUNCATED (R301, R306). ACQ_TRIGGER fires every enabled unit of kind COMMAND: its bit of ACQ.TU_FIRED is set, and a
unit that is no GROUP unit gives the open record, past its holdoff, its trigger at the present sample (R303). At the application
instant of a group trigger every enabled unit of kind YTRG fires, the trigger is used up (R312). ACQ_RELEASE frees a CLOSED slot
that nothing reads, archives or replays; where capture had stopped for want of a slot it goes on there (R305); it answers
WRONG_STATE for a slot that is not CLOSED. RECORD_CLOSE closes the record whose POST samples are stored as COMPLETE, with its
number in ACQ.REC_NUM and ACQ_CLOSED raised, and the next record fills slot 0 where that is FREE; it is without effect while none
is due (R301). A slow-stream entry is written when one is due: by T_GRID's cycles, or 20 ms after the last while T_GRID is stalled
(R307). -/
def Obligations.CaptureAndRecords : Prop :=
  (∀ (e : Env) (v : Word) (s : State), s.isl.acq = true →
    (Writes e [(acqCtrl, v ||| 1)] s → parBit s acqCtrl 0 = false → (slotAt s 0).st = .free → s.acq.slots.length = 8 →
      ∃ t, exec (.captureEnable e v) s = .next t ∧ Answered 2 0x0101 e stOk 0 [] t ∧ t.acq.active = some 0 ∧
        (slotAt t 0).st = .filling ∧ (slotAt t 0).num = (par s acqRecNum + 1) % 2 ^ 32 ∧ t.planes = s.planes ∧ t.time = s.time) ∧
    (Writes e [(acqCtrl, v &&& ~~~1)] s → parBit s acqCtrl 0 = true → ∀ n, s.acq.active = some n → n < s.acq.slots.length →
      ∃ t, exec (.captureStop e v) s = .next t ∧ Answered 2 0x0101 e stOk 0 [] t ∧ t.acq.active = none ∧
        (slotAt t n).st = .closed ∧ (slotAt t n).status = 2 ∧ parBit t acqEvents 0 = true ∧ t.planes = s.planes)) ∧
  (∀ (e : Env) (u : Nat) (s : State), Fresh 0x0040 1 e s → u < 32 → tuOn s u = true → tuKind s u = 4 →
    s.acq.armed.getLsbD u = true →
    ∃ t, exec (.acqTrigger e) s = .next t ∧ Answered 1 0x0040 e stOk e.handle [] t ∧ (par t acqTuFired).testBit u = true ∧
      t.planes = s.planes ∧ t.prt = s.prt ∧ t.time = s.time ∧
      ∀ n, s.acq.active = some n → n < s.acq.slots.length → (slotAt s n).st = .filling → par s acqHoldoff ≤ (slotAt s n).count →
        parBit s (acqTuCtrl u) 12 = false →
        (slotAt t n).st = .post ∧ (slotAt t n).kt = some (sampleK s) ∧ (slotAt t n).cause.testBit u = true) ∧
  (∀ (x : Rat × Nat) (l : List (Rat × Nat)) (s : State), s.ybus.apply = x :: l →
    ∃ t, exec .groupTriggerApply s = .next t ∧ t.ybus.apply = l ∧ t.planes = s.planes ∧ t.prt = s.prt ∧ t.time = s.time ∧
      ∀ u, u < 32 → tuOn s u = true → tuKind s u = 5 → s.acq.armed.getLsbD u = true →
        (par t acqTuFired).testBit u = true ∧
        ∀ n, s.acq.active = some n → n < s.acq.slots.length → (slotAt s n).st = .filling → par s acqHoldoff ≤ (slotAt s n).count →
          (slotAt t n).st = .post ∧ (slotAt t n).kt = some (sampleK s) ∧ (slotAt t n).cause.testBit u = true) ∧
  (∀ (e : Env) (n : Nat) (s : State), Fresh 0x0041 1 e s → n < slotCount s → n < s.acq.slots.length →
    ((slotAt s n).st = .closed → (replaying s = false ∨ s.replay.slot ≠ n) → (∀ o ∈ s.acq.reads, o.slot ≠ some n) →
      (∀ h, s.acq.arch ≠ some (h, n)) →
      ∃ t, exec (.acqRelease e { slot := n }) s = .next t ∧ Answered 1 0x0041 e stOk e.handle [] t ∧
        (capturing s = true → s.acq.active = none → (slotAt t n).st = .filling ∧ t.acq.active = some n) ∧
        (capturing s = false ∨ s.acq.active.isSome = true → slotAt t n = {}) ∧
        (∀ j, j ≠ n → slotAt t j = slotAt s j) ∧ t.planes = s.planes ∧ t.time = s.time) ∧
    ((slotAt s n).st ≠ .closed →
      ∃ t, exec (.acqRelease e { slot := n }) s = .next t ∧ Answered 1 0x0041 e stWrongState e.handle [] t ∧ t.acq = s.acq)) ∧
  (∀ (n : Nat) (s : State), s.acq.active = some n → n < s.acq.slots.length → closeDue s = true →
    ∃ t, exec .recordClose s = .next t ∧ par t acqRecNum = (slotAt s n).num % 2 ^ 32 ∧ parBit t acqEvents 0 = true ∧
      t.planes = s.planes ∧ t.prt = s.prt ∧ t.time = s.time ∧ t.acq.slots.length = s.acq.slots.length ∧
      ((slotAt s 0).st = .free → t.acq.active = some 0 ∧ (slotAt t 0).st = .filling ∧ (slotAt t n).st = .closed ∧
        (slotAt t n).status = 1)) ∧
  (∀ s : State, closeDue s = false → exec .recordClose s = .next s) ∧
  (∀ s : State, s.isl.acq = true → parBit s acqCtrl 1 = true →
    (if s.time.stall then s.acq.slowAt + 20000000 ≤ s.time.mono else par s acqSlowDiv ≤ s.time.cyc - s.acq.slowCyc) →
    ∃ t, exec .slowStreamEntry s = .next t ∧ t.acq.slowN = s.acq.slowN + 1 ∧ t.acq.slow.head? = some (sampleK s, slowEntry s) ∧
      t.acq.slots = s.acq.slots ∧ t.params = s.params ∧ t.planes = s.planes ∧ t.time = s.time)

/-- REPLAY_START whose conditions hold is accepted, holds its slot and arms; with the start condition COMMAND it plays its first
sample at the next strobe (R314). REPLAY_STOP ends it with CANCELLED on its handle, the plane back on live samples and
ACQ.RP_STATUS 0 (R317); a replay whose last loop was played completes with OK, an INJECT that INJ_TMAX ends completes with
CANCELLED, and a tile that fails its CRC as it is read marks how far the samples can still be played (R316, R317). While none is
armed REPLAY_STOP answers WRONG_STATE and REPLAY_END is without effect. replayStrobe is the strobe's part. -/
def Obligations.ReplaysStartAndEnd : Prop :=
  (∀ (e : Env) (s : State), Fresh 0x0042 1 e s → Room s → replayStatus (acceptSeq e s) = stOk →
    ∃ t, exec (.replayStart e) s = .next t ∧ Accepted 1 0x0042 e s t ∧ t.replay.handle = some (nextHandle s) ∧
      t.replay.slot = par s acqRpSrc ∧ t.replay.active = false ∧ t.replay.go = decide (parBits s acqRpTrig 0 2 = 0) ∧
      par t acqRpStatus = 1 ∧ t.planes = s.planes ∧ t.time = s.time) ∧
  (∀ s : State, replaying s = true → s.isl.acq = true → s.replay.played = false → s.replay.active = false → s.replay.bad = none →
    s.replay.go = true → (replayStrobe s).replay.active = true ∧ (replayStrobe s).replay.pos = s.replay.pos + 1 ∧
      par (replayStrobe s) acqRpStatus = 2) ∧
  (∀ (e : Env) (s : State), Fresh 0x0043 1 e s →
    (∀ h, s.replay.handle = some h → ∃ t, exec (.replayStop e) s = .next t ∧ Answered 1 0x0043 e stOk e.handle [] t ∧
      t.replay = {} ∧ findOp t h = none ∧ par t acqRpStatus = 0 ∧ parBit t acqEvents 5 = true ∧ t.planes = s.planes ∧
      t.time = s.time) ∧
    (replaying s = false → ∃ t, exec (.replayStop e) s = .next t ∧ Answered 1 0x0043 e stWrongState e.handle [] t ∧
      t.replay = s.replay ∧ t.acq = s.acq)) ∧
  (∀ (h : Nat) (s : State), s.replay.handle = some h → tansyUp s = true →
    (s.replay.played = true → ∃ t, exec (.replayEnd .last) s = .next t ∧ t.replay = {} ∧ findOp t h = none ∧
      par t acqRpStatus = 0 ∧ t.planes = s.planes) ∧
    (s.replay.active = true → s.replay.sub = none → ∃ t, exec (.replayEnd .tmax) s = .next t ∧ t.replay = {} ∧
      findOp t h = none ∧ par t acqRpStatus = 0 ∧ t.planes = s.planes) ∧
    (∀ n i, beforeTile s n = some i → s.replay.played = false → ∃ t, exec (.replayEnd (.tileBad n)) s = .next t ∧
      t.replay = { s.replay with bad := some (min i (s.replay.bad.getD i)) } ∧ parBit t acqEvents 4 = true ∧
      t.planes = s.planes)) ∧
  (∀ s : State, s.replay = {} → ∀ r, exec (.replayEnd r) s = .next s)

/-- ACQ_READ of a CLOSED slot is accepted and holds it; ACQ_ARCHIVE of one as well, and its end returns the slot and stores the
record in the archive; REPLAY_LOAD takes a FREE slot (R305, R308, R314, R387). A REPLAY_DATA fragment that leaves its tile
incomplete is kept and answered OK; one without a load answers NO_HANDLE (R314, R339). BULK_DATA takes the next bytes of the first
read's tile, at most 1,424, on while more are left in it; a read without tiles left completes (R308, R339); without a read, or
without room in its channel's queue, it has no effect (R344). -/
def Obligations.RecordTransfers : Prop :=
  (∀ (e : Env) (n : Nat) (s : State), Fresh 0x0210 1 e s → Room s → s.isl.acq = true → n < slotCount s → n < s.acq.slots.length →
    (slotAt s n).st = .closed →
    ∃ t, exec (.acqRead e { src := 0, slot := n }) s = .next t ∧ Accepted 3 0x0210 e s t ∧
      (slotAt t n).held = (slotAt s n).held + 1 ∧ t.acq.reads.map (·.handle) = s.acq.reads.map (·.handle) ++ [nextHandle s] ∧
      t.planes = s.planes ∧ t.time = s.time) ∧
  (∀ (e : Env) (n : Nat) (s : State), Fresh 0x0211 1 e s → Room s → n < slotCount s → n < s.acq.slots.length →
    (slotAt s n).st = .closed → s.acq.arch = none →
    ∃ t, exec (.acqArchive e { slot := n }) s = .next t ∧ Accepted 3 0x0211 e s t ∧ t.acq.arch = some (nextHandle s, n) ∧
      (slotAt t n).held = (slotAt s n).held + 1 ∧ t.planes = s.planes ∧ t.time = s.time) ∧
  (∀ (h n : Nat) (s : State), s.acq.arch = some (h, n) → n < s.acq.slots.length → tansyUp s = true →
    ∃ t, exec .archiveComplete s = .next t ∧ t.acq.arch = none ∧ findOp t h = none ∧
      (slotAt t n).held = (slotAt s n).held - 1 ∧
      t.acq.archive.getLast? = some ((slotAt s n).num, archCut (slotAt s n) (slotTiles s n)) ∧ t.planes = s.planes ∧ t.time = s.time) ∧
  (∀ (e : Env) (n tiles : Nat) (s : State), Fresh 0x0212 1 e s → Room s → n < slotCount s → n < s.acq.slots.length →
    (slotAt s n).st = .free → s.acq.load = none → 1 ≤ tiles → tiles ≤ dataTiles s + 1 →
    ∃ t, exec (.replayLoad e { slot := n } tiles) s = .next t ∧ Accepted 3 0x0212 e s t ∧ (slotAt t n).st = .loading ∧
      t.acq.load = some { handle := nextHandle s, slot := n, total := tiles } ∧ t.planes = s.planes ∧ t.time = s.time) ∧
  (∀ (e : Env) (p : DataPay) (o : LoadOp) (f : Frag) (fs : List Frag) (s : State), Fresh 0x0213 1 e s → dataLen p.data = true →
    s.acq.load = some o → o.handle = e.handle → p.pre.b6 = 0 → p.pre.grp = 0 → p.pre.unit < o.total →
    p.pre.offset + p.data.length ≤ 4096 → (tabGet (fun _ => []) (slotAt s o.slot).raw p.pre.unit).length = 0 →
    addFrag p.pre.unit 0 0 p.pre.offset p.data o.frags = some (f, fs) → fragWhole 4096 f = none →
    ∃ t, exec (.replayData e p) s = .next t ∧ Answered 3 0x0213 e stOk e.handle [] t ∧
      t.acq.load = some { o with frags := fs } ∧ t.acq.slots = s.acq.slots ∧ t.planes = s.planes) ∧
  (∀ (e : Env) (p : DataPay) (s : State), Fresh 0x0213 1 e s → dataLen p.data = true → s.acq.load = none →
    ∃ t, exec (.replayData e p) s = .next t ∧ Answered 3 0x0213 e stNoHandle e.handle [] t ∧ t.acq = s.acq) ∧
  (∀ (o : ReadOp) (l : List ReadOp) (s : State), s.acq.reads = o :: l → bulkRoom s o.handle = true →
    (o.tiles = [] → tansyUp s = true → ∃ t, exec (.bulkData false) s = .next t ∧ findOp t o.handle = none ∧
      t.acq.reads = l.filter (fun x => decide (x.handle ≠ o.handle)) ∧ t.planes = s.planes ∧ t.time = s.time) ∧
    (∀ u b r, o.tiles = (u, b) :: r → o.off + 1424 < b.length →
      ∃ t, exec (.bulkData false) s = .next t ∧
        t.acq.reads.head? = some { o with off := o.off + 1424, isBad := o.isBad && decide (o.off ≠ 0) } ∧
        t.planes = s.planes ∧ t.time = s.time)) ∧
  (∀ (b : Bool) (s : State), s.acq.reads = [] → exec (.bulkData b) s = .next s) ∧
  (∀ (b : Bool) (o : ReadOp) (l : List ReadOp) (s : State), s.acq.reads = o :: l → bulkRoom s o.handle = false →
    exec (.bulkData b) s = .next s)

/-! ## Handles and transactions (chapter 12) -/

/-- HANDLE_QUERY returns OK with byte 0 giving the handle's state, 0 OUTSTANDING or 1 QUEUED for a handle outstanding and 2
COMPLETE for one in the completion log, then with the COMPLETE payload from byte 4; for a handle unknown or gone from the log it
returns NO_HANDLE (R347). It changes no handle and no lane. -/
def Obligations.HandleQueryAnswers : Prop :=
  ∀ (e : Env) (h : Nat) (s : State), Fresh 0x0060 1 e s →
    (∀ o, findOp s h = some o → ∃ t, exec (.handleQuery e h) s = .next t ∧
      Answered 1 0x0060 e stOk e.handle [if isQueued s h then 1 else 0] t ∧ t.host.ops = s.host.ops ∧ t.planes = s.planes) ∧
    (findOp s h = none → ∀ d, s.host.log.find? (fun x => decide (x.handle = h)) = some d →
      ∃ t, exec (.handleQuery e h) s = .next t ∧ Answered 1 0x0060 e stOk e.handle ([2, 0, 0, 0] ++ d.payload) t ∧
        t.host.ops = s.host.ops ∧ t.planes = s.planes) ∧
    (findOp s h = none → s.host.log.find? (fun x => decide (x.handle = h)) = none →
      ∃ t, exec (.handleQuery e h) s = .next t ∧ Answered 1 0x0060 e stNoHandle e.handle [] t ∧ t.host.ops = s.host.ops ∧
        t.planes = s.planes)

/-- HANDLE_CANCEL of a SELF_TEST ends it, and of a PLANE_ARM ends the arming with the plane's supplies off, each with CANCELLED on
the handle (R348, R361); of a PLANE_STOP or a SAVE_SETTINGS it answers WRONG_STATE and changes no handle, lane or gate register;
of a handle that has completed it answers WRONG_STATE and of an unknown one NO_HANDLE (R348). Events discarded for want of room in
the outbound queue are reported once, when the queue has room, in an EVENTS_LOST with their number; with none lost EVENTS_LOST is
without effect (R344). -/
def Obligations.CancelsAndLostEvents : Prop :=
  (∀ (e : Env) (h : Nat) (o : Op) (s : State), Fresh 0x0061 1 e s → findOp s h = some o →
    (∀ m, o.opcode = 0x0120 → s.isl.selfTest = some (h, m) → (∀ p, (lane s p).stopping ≠ some h) →
      ∃ t, exec (.handleCancel e h) s = .next t ∧ Answered 1 0x0061 e stOk e.handle [] t ∧ t.isl.selfTest = none ∧
        findOp t h = none ∧ lastStatus t = some stCancelled ∧ t.planes = s.planes) ∧
    (∀ p, o.opcode = opArm → (lane s p).arming = some h → (lane s p).queued = [] → (lane s p).clearPend = [] →
      (∀ q, (lane s q).stopping ≠ some h) → (∀ q, q ≠ p → (lane s q).arming ≠ some h ∧
        (∀ x ∈ (lane s q).queued, x.1 ≠ h) ∧ (∀ x ∈ (lane s q).clearPend, x.2 ≠ h)) →
      ∃ t, exec (.handleCancel e h) s = .next t ∧ Answered 1 0x0061 e stOk e.handle [] t ∧ (lane t p).arming = none ∧
        findOp t h = none ∧ lastStatus t = some stCancelled ∧ t.prt.supOn = s.prt.supOn &&& ~~~planeMask p ∧ OtherLanes p s t) ∧
    (o.opcode = 0x0122 ∨ (o.opcode = opStop ∧ ∃ p, (lane s p).stopping = some h) →
      ∃ t, exec (.handleCancel e h) s = .next t ∧ Answered 1 0x0061 e stWrongState e.handle [] t ∧ t.host.ops = s.host.ops ∧
        t.planes = s.planes ∧ t.prt = s.prt)) ∧
  (∀ (e : Env) (h : Nat) (s : State), Fresh 0x0061 1 e s → findOp s h = none →
    ∃ t, exec (.handleCancel e h) s = .next t ∧
      Answered 1 0x0061 e (if s.host.log.any (fun d => decide (d.handle = h)) then stWrongState else stNoHandle) e.handle [] t ∧
      t.host.ops = s.host.ops ∧ t.planes = s.planes ∧ t.prt = s.prt) ∧
  (∀ s : State, s.isl.sys = true → 0 < s.host.lost → s.host.out.length < 64 → ∃ t, exec .eventsLost s = .next t ∧ t.host.lost = 0 ∧
    (t.host.out.getLast?).map (fun x => (x.opcode, x.payload.drop 8)) = some (0x00F0, le 4 s.host.lost) ∧
    t.planes = s.planes ∧ t.params = s.params ∧ t.time = s.time) ∧
  (∀ s : State, s.host.lost = 0 → exec .eventsLost s = .next s)

/-- TXN_OPEN opens the one transaction, OPEN and empty, under its handle, and answers BUSY while one exists; TXN_ABORT ends one
that is not COMMITTING, or COMMITTING with k_c still to come, with CANCELLED on its handle; SYS.TXN_TIMEOUT ends one that is not
COMMITTING in the same way, and leaves one that is (R353). -/
def Obligations.TransactionsOpenAndEnd : Prop :=
  (∀ (e : Env) (s : State), Fresh 0x0110 3 e s → Room s →
    (s.txn = none → ∃ t, exec (.txnOpen e) s = .next t ∧ Accepted 2 0x0110 e s t ∧
      t.txn = some { handle := nextHandle s, seqT := e.flags.testBit 1 } ∧ t.params = (acceptSeq e s).params ∧ t.rgt = s.rgt ∧
      t.planes = s.planes) ∧
    (∀ x, s.txn = some x → ∃ t, exec (.txnOpen e) s = .next t ∧ Answered 2 0x0110 e stBusy e.handle [] t ∧ t.txn = s.txn)) ∧
  (∀ (e : Env) (x : Txn) (o : Op) (s : State), Fresh 0x0113 1 e s → s.txn = some x → x.handle = e.handle →
    findOp s x.handle = some o → x.st ≠ .committing ∨ (x.grp = 0 ∧ x.ctlDone = false ∧ switchDue x s = false) →
    ∃ t, exec (.txnAbort e) s = .next t ∧ Answered 2 0x0113 e stOk e.handle [] t ∧ t.txn = none ∧ findOp t x.handle = none ∧
      lastStatus t = some stCancelled ∧ t.rgt.tiles = s.rgt.tiles ∧ t.rgt.ptr = s.rgt.ptr ∧ t.planes = s.planes ∧
      t.wait = s.wait) ∧
  (∀ (x : Txn) (s : State), s.txn = some x →
    (∀ o, x.st ≠ .committing → tansyUp s = true → findOp s x.handle = some o → ∃ t, exec .txnTimeout s = .next t ∧ t.txn = none ∧
      findOp t x.handle = none ∧ lastStatus t = some stCancelled ∧ t.rgt.ptr = s.rgt.ptr ∧ t.planes = s.planes ∧
      t.wait = s.wait) ∧
    (x.st = .committing → exec .txnTimeout s = .next s))

/-- TXN_PREPARE moves an OPEN transaction whose groups run from 0 without a gap to PREPARING; when every check holds, PREPARED
moves it to PREPARED with the tiles of group 0 copied into the lowest spares, and when one fails it ends with that check's status;
TXN_COMMIT fixes k_c of a PREPARED one, the sample it names or the boundary ahead for 0, and answers it (R355, R356, R358, R359).
-/
def Obligations.TransactionsPrepareAndCommit : Prop :=
  (∀ (e : Env) (x : Txn) (s : State), Fresh 0x0111 1 e s → s.txn = some x → x.handle = e.handle → x.st = .openT →
    groupsOk x = true →
    ∃ t, exec (.txnPrepare e) s = .next t ∧ Answered 2 0x0111 e stOk e.handle [] t ∧ t.txn = some { x with st := .preparing } ∧
      t.rgt = s.rgt ∧ t.planes = s.planes) ∧
  (∀ (x : Txn) (s : State), s.txn = some x → x.st = .preparing →
    (prepareBad x s = none → ∃ t y, exec .prepared s = .next t ∧ t.txn = some y ∧ y.st = .prepared ∧ y.handle = x.handle ∧
      y.entries = x.entries ∧ y.copies = ((x.tiles.filter fun i => decide (i.1 = 0)).map fun i => i.2.1).zip s.rgt.spares ∧
      t.rgt.ptr = s.rgt.ptr ∧ t.planes = s.planes) ∧
    (∀ f, prepareBad x s = some f → tansyUp s = true → ∀ o, findOp s x.handle = some o →
      ∃ t, exec .prepared s = .next t ∧ t.txn = none ∧ findOp t x.handle = none ∧ lastStatus t = some f.2 ∧
      t.rgt.ptr = s.rgt.ptr ∧ t.planes = s.planes)) ∧
  (∀ (e : Env) (x : Txn) (k c : Nat) (s : State), Fresh 0x0112 1 e s → s.txn = some x → x.handle = e.handle → x.st = .prepared →
    c = (if k = 0 then boundaryAhead (acceptSeq e s) else k) → commitStatus x c (acceptSeq e s) = stOk →
    ∃ t, exec (.txnCommit e k) s = .next t ∧ Answered 2 0x0112 e stOk e.handle (le 8 c) t ∧
      t.txn = some { x with st := .committing, kc := c, due := c } ∧ t.rgt = s.rgt ∧ t.planes = s.planes)

/-- At k_c, and for a later group of a SEQUENTIAL one at its boundary, the group in work switches: the staged words of the running
islands take effect and the copied tiles' pointers move (switchGroup), with ISL_CTL running and no island with a part missing.
After the last group the transaction completes with OK; before it the next group is in work. Before k_c, or while ISL_CTL is
halted, nothing happens; a later group whose copies do not verify ends the sequence with TRUNCATED (R357 to R360). -/
def Obligations.TransactionsSwitch : Prop :=
  (∀ (x : Txn) (s : State), s.txn = some x → x.st = .committing →
    (switchDue x s = true → s.isl.halted = false → missing x s = [] → s.isl.ctl = true →
      ∃ t, exec (if x.grp = 0 then .txnSwitch else .txnGroupSwitch true) s = .next t ∧ t.wait = (switchGroup x s).wait ∧
        t.rgt.ptr = (switchGroup x s).rgt.ptr ∧ t.planes = (switchGroup x s).planes ∧ t.mods = (switchGroup x s).mods ∧
        t.prt = (switchGroup x s).prt ∧ (∀ i, i ≠ sysEvtLostCnt → par t i = par (switchGroup x s) i) ∧
        (∀ o, lastGroup x ≤ x.grp → tansyUp s = true → findOp s x.handle = some o →
          t.txn = none ∧ findOp t x.handle = none ∧ lastStatus t = some stOk) ∧
        (x.grp < lastGroup x → x.abort = false → ∃ y, t.txn = some y ∧ y.grp = x.grp + 1 ∧ y.ctlDone = false)) ∧
    (switchDue x s = false → s.isl.ctl = true → x.grp = 0 → exec .txnSwitch s = .next s) ∧
    (s.isl.halted = true → exec .txnSwitch s = .next s)) ∧
  (∀ (x : Txn) (s : State), s.txn = some x → x.grp ≠ 0 → x.ctlDone = false → tansyUp s = true →
    ∃ t, exec (.txnGroupSwitch false) s = .next t ∧ t.txn = none ∧ findOp t x.handle = none ∧ t.rgt.ptr = s.rgt.ptr ∧
      (∀ o, findOp s x.handle = some o → lastStatus t = some stTruncated) ∧ (∀ i, i ≠ sysEvtLostCnt → par t i = par s i) ∧
      t.planes = s.planes)

/-! ## Outer laws (chapters 07 and 08) -/

/-- GFM_SYNC whose conditions hold is accepted and sets the activity SYNC with P* at 0 (R215); one whose conditions fail answers
WRONG_STATE. SYNC_TIMEOUT completes it with CANCELLED, the activity SYNC ends, and a permit that no closed breaker uses is
withdrawn (R216). DC_PRECHARGE and DC_DISCHARGE whose conditions hold are accepted, and a discharge switches AUX [1] on alone
(R233, R234). PRE_TIME raises PRE_FAIL and completes the precharge with CANCELLED; DIS_TIME clears AUX [1] and completes the
discharge with CANCELLED; and at a boundary with V_DC below DIS_V the discharge completes with OK and AUX [1] cleared. Without an
operation in progress these instants are without effect. bStep is the boundary's part for plane B. -/
def Obligations.SyncPrechargeAndDischarge : Prop :=
  (∀ (e : Env) (s : State), Fresh 0x0020 1 e s → Room s →
    (syncFits (acceptSeq e s) = true → ∃ t, exec (.gfmSync e { code := 0 }) s = .next t ∧ Accepted 1 0x0020 e s t ∧
      gAct t = 3 ∧ t.gfm.pStar = 0 ∧ t.planes = s.planes ∧ t.prt = s.prt) ∧
    (syncFits (acceptSeq e s) = false → ∃ t, exec (.gfmSync e { code := 0 }) s = .next t ∧
      Answered 1 0x0020 e stWrongState e.handle [] t ∧ t.gfm = s.gfm ∧ t.planes = s.planes)) ∧
  (∀ (h : Nat) (s : State), opsOf s 0x0020 = [h] → tansyUp s = true → ∃ t, exec .syncTimeout s = .next t ∧ findOp t h = none ∧
    lastStatus t = some stCancelled ∧ (gAct s = 3 → gAct t = 0 ∧ (s.pins.brkAux = false → gPermit t = false)) ∧
    t.planes = s.planes ∧ t.time = s.time) ∧
  (∀ s : State, opsOf s 0x0020 = [] → exec .syncTimeout s = .next s) ∧
  (∀ (e : Env) (s : State), Room s →
    (Fresh 0x0021 1 e s → dcFits true (acceptSeq e s) = true → ∃ t, exec (.dcPrecharge e { code := 3 }) s = .next t ∧
      Accepted 1 0x0021 e s t ∧ par t ctlBAux = par s ctlBAux ∧ t.planes = s.planes ∧ t.prt = s.prt) ∧
    (Fresh 0x0022 1 e s → dcFits false (acceptSeq e s) = true → ∃ t, exec (.dcDischarge e { code := 3 }) s = .next t ∧
      Accepted 1 0x0022 e s t ∧ par t ctlBAux = 2 ∧ t.planes = s.planes ∧ t.prt = s.prt)) ∧
  (∀ (h : Nat) (s : State), opsOf s 0x0021 = [h] → tansyUp s = true → ∃ t, exec .preFail s = .next t ∧ findOp t h = none ∧
    lastStatus t = some stCancelled ∧ parBit t msdFlags 3 = true ∧ t.planes = s.planes ∧ t.prt = s.prt) ∧
  (∀ (h : Nat) (s : State), opsOf s 0x0022 = [h] → tansyUp s = true → (∃ t, exec .disTime s = .next t ∧ findOp t h = none ∧
      lastStatus t = some stCancelled ∧ parBit t ctlBAux 1 = false ∧ t.planes = s.planes ∧ t.prt = s.prt) ∧
    (opsOf s 0x0021 = [] → vdcNow s < (par s ctlBDisV : Nat) → findOp (bStep s) h = none ∧ lastStatus (bStep s) = some stOk ∧
      parBit (bStep s) ctlBAux 1 = false)) ∧
  (∀ s : State, opsOf s 0x0021 = [] → opsOf s 0x0022 = [] → exec .preFail s = .next s ∧ exec .disTime s = .next s)

/-- An outer boundary that is due is handled once: its sample is noted, the sums of the lanes start anew, and it writes no time
base and no gate output (R196, R235); in front of no waiting word, takeover, hitless change or replay, it writes to plane G's
reference queue, last the MARK of the boundary after the next (R198, R199). One that is not due, or whose Campion is stopped, is
without effect. ENC_LOST of the encoder in use raises its flag, and plane M goes on without the encoder where the fallback is
permitted at speed, or begins to stop (R223). -/
def Obligations.OuterBoundariesAndEncoderLoss : Prop :=
  (∀ (o : OuterIn) (s : State), boundaryDue s = true → s.fw.hitless = none → s.replay.active = false →
    ∃ t, exec (.outerBoundary o) s = .next t ∧ t.sums = {} ∧ t.gfm.last = some (sampleK s) ∧ t.time = s.time ∧
      t.prt.upper = s.prt.upper ∧ t.prt.lower = s.prt.lower ∧
      (s.wait = [] → s.red.take = none → ∃ l, refQueue .g t = refQueue .g s ++ l ∧
        l.getLast? = some (BitVec.ofNat 64 (5 * 2 ^ 60 + (sampleK s + 2 * outerN s) % 2 ^ 48)))) ∧
  (∀ (o : OuterIn) (s : State), boundaryDue s = false → exec (.outerBoundary o) s = .next s) ∧
  (∀ (n : Nat) (s : State), n < 2 →
    (encoderOf s = some n → s.isl.app = true → par s msdEncFallback = 1 → u124 s msdSlFmin ≤ absR (lane s .m).ref.f →
      ∃ t, exec (.encLost n) s = .next t ∧ parBit t msdFlags 0 = true ∧ t.msd.fallback = true ∧ t.planes = s.planes) ∧
    (encoderOf s = some n → s.isl.app = true → ¬(par s msdEncFallback = 1 ∧ u124 s msdSlFmin ≤ absR (lane s .m).ref.f) →
      (lane s .m).st = .running → (lane s .m).stopping = none →
      ∃ t, exec (.encLost n) s = .next t ∧ parBit t msdFlags 0 = true ∧ (lane t .m).stopping = some 0 ∧ OtherLanes .m s t) ∧
    (encoderOf s ≠ some n → exec (.encLost n) s = .next s))

/-! ## Groups, pairs, the host port (chapters 12 and 13) -/

/-- GROUP_ACTION whose checks pass is accepted and pending, with its verdict published (R382, R383). At t_decide a member with a
disagreement completes it with GROUP_DISAGREE (R384), and one without, where every member shows READY, publishes GO. At the
confirmation, when every member shows GO, a MODE or ILV action goes on. At t_apply a MODE action whose words pass their checks
takes effect: the handle completes with OK and APPLIED is published; an ILV action waits for a carrier mark, where it completes in
the same way. Without an action in progress these instants are without effect. Descriptors (R380, R381): a member with an address
sends one from both ports and counts its sequence; one from another group raises its flag and changes nobody's view; one of a
position never heard is noted; and a lost member's is dropped with its flag raised. -/
def Obligations.GroupActionsAndDescriptors : Prop :=
  (∀ (e : Env) (l : List Byte) (s : State), Fresh 0x0140 1 e s → Room s → 24 ≤ l.length → l.length ≤ 1440 →
    l.length = 24 + fieldAt l 6 2 → groupStatus l (acceptSeq e s) = stOk →
    ∃ t a, exec (.groupAction e l) s = .next t ∧ Accepted 2 0x0140 e s t ∧ t.red.act = some a ∧ a.handle = nextHandle s ∧
      a.payload = l ∧ a.decided = false ∧ t.red.shown.1 = fieldAt l 0 4 ∧ t.red.shown.2.2.1 =
        (if actStatus (fieldAt l 4 1) l (allocHandle 0x0140 e.chan (acceptSeq e s)) = stOk then 1 else 2) ∧
      t.planes = s.planes ∧ t.prt = s.prt) ∧
  (∀ (a : GAct) (s : State), s.red.act = some a → a.decided = false → groupRuns s = true →
    (∀ x l, disagreements a (noteAgree a s) = x :: l →
      ∃ t, exec .groupDecide s = .next t ∧ t.red.act = none ∧ t.red.shown.2.2.1 = 4 ∧ findOp t a.handle = none ∧
        (∀ o, findOp s a.handle = some o → lastStatus t = some stGroupDisagree) ∧ parBit t redGrpEvents (rowFlag x.2) = true ∧
        t.planes = s.planes) ∧
    (disagreements a (noteAgree a s) = [] → (∀ d ∈ members (noteAgree a s), d.verdict = 1) →
      ∃ t, exec .groupDecide s = .next t ∧ t.red.act = some { a with decided := true } ∧ t.red.shown.2.2.1 = 3 ∧
        t.planes = s.planes)) ∧
  (∀ (a : GAct) (s : State), s.red.act = some a → a.decided = true → a.begun = false → groupRuns s = true → a.kind ≠ 3 →
    missingAt s = none → (∀ d ∈ members s, d.verdict = 3 ∧ d.action = a.id) →
    ∃ t, exec .groupConfirm s = .next t ∧ t.red.act = some { a with begun := true } ∧ t.red.shown = s.red.shown ∧
      t.params = s.params ∧ t.planes = s.planes) ∧
  (∀ (a : GAct) (s : State), s.red.act = some a → a.begun = true → groupRuns s = true → txnBusy s = false →
    (a.kind = 1 → paramFailure .config (modeEntries a.payload) s = none →
      ∃ t, exec .groupApply s = .next t ∧ t.red.act = none ∧ t.red.shown.2.2.1 = 5 ∧ findOp t a.handle = none ∧
        (∀ o, findOp s a.handle = some o → lastStatus t = some stOk) ∧
        t.wait = (applyAll (modeEntries a.payload) s).wait ∧ t.planes = (applyAll (modeEntries a.payload) s).planes) ∧
    (a.kind = 2 → ilvStatus a.payload s = stOk →
      exec .groupApply s = .next (updRed (fun r => { r with act := some { a with waits := true } }) s))) ∧
  (∀ (x : Int) (a : GAct) (s : State), s.red.act = some a → a.waits = true → groupRuns s = true →
    ∃ t, exec (.carrierMark x) s = .next t ∧ t.red.act = none ∧ t.red.shown.2.2.1 = 5 ∧ findOp t a.handle = none ∧
      (∀ o, findOp s a.handle = some o → lastStatus t = some stOk)) ∧
  (∀ s : State, s.red.act = none → exec .groupDecide s = .next s ∧ exec .groupConfirm s = .next s ∧ exec .groupApply s = .next s) ∧
  (∀ s : State, groupRuns s = true → par s redGrpAddr ≠ 0 → s.eth0.up = true → s.eth1.up = true →
    ∃ t, exec .descriptorSend s = .next t ∧ t.red.descSeq = (s.red.descSeq + 1) % 2 ^ 32 ∧
      t.wire = s.wire ++ [.descr 0 (descBody s ++ le 4 (crc32c (descBody s))), .descr 1 (descBody s ++ le 4 (crc32c (descBody s)))] ∧
      t.params = s.params ∧ t.planes = s.planes) ∧
  (∀ (src : Nat) (b : List Byte) (s : State), groupRuns s = true → b.length = 256 → fieldAt b 0 2 = 0xD7A5 → fieldAt b 2 1 = 1 →
    crc32c (b.take 252) = fieldAt b 252 4 →
    (fieldAt b 4 4 ≠ par s redGroupId → ∃ t, exec (.descriptorReceive src b) s = .next t ∧ parBit t redGrpEvents 5 = true ∧
      t.red = s.red ∧ t.planes = s.planes) ∧
    (fieldAt b 4 4 = par s redGroupId → fieldAt b 3 1 ≠ yPos s → (∀ d ∈ s.red.descs, d.pos ≠ fieldAt b 3 1) →
      ∃ t, exec (.descriptorReceive src b) s = .next t ∧ t.red.descs = descOf src b :: s.red.descs ∧ t.red.act = s.red.act ∧
        t.planes = s.planes)) ∧
  (∀ (q : Nat) (s : State), ((∃ d ∈ s.red.descs, d.pos = q) → ∃ t, exec (.grpMemberLost q) s = .next t ∧
      t.red.descs = s.red.descs.filter (fun d => decide (d.pos ≠ q)) ∧ (par t redGrpHeard).testBit q = false ∧
      parBit t redGrpEvents 0 = true ∧ t.planes = s.planes) ∧
    ((∀ d ∈ s.red.descs, d.pos ≠ q) → exec (.grpMemberLost q) s = .next s))

/-- The four SPI frames (R324, R325) while ISL_PRT runs: each shows HWIN_STATUS first on MISO. PACKET_WRITE with IN_READY 1 of a
command whose head checks hold, not URGENT, is served as that command; an URGENT STOP of one plane in it takes that plane to SAFE
whether or not IN_READY is 1; one whose IN_READY is 0 sets the overrun bit, and one that is no command reaches no lane.
PACKET_READ shows the head packet of the queue, and takes it from the queue when it clocks all of it and leaves it when it does
not. WINDOW_READ shows the register with its CRC, or 0 and WIN_ERR at an address without one. WINDOW_WRITE with its CRC writes
HWIN_IRQ_EN; with a wrong one it writes nothing and sets WIN_ERR. With ISL_PRT stopped in a powered module none of them has an
effect. -/
def Obligations.SpiFrames : Prop :=
  (∀ (b : List Byte) (s : State), s.isl.prt = true → isCommand b = true → headStatus b = stOk →
    (fieldAt b 3 1 % 4 ≠ 0 → exec (.packetWrite true b) s = hostCommand (fieldAt b 4 2) (envOf b) (payloadOf b)
      (miso (b.map fun _ => 0) (updHost (fun h => { h with inReady := true }) s))) ∧
    (∀ p r, fieldAt b 3 1 % 4 = 0 → kindResv b = 0 → fieldAt b 4 2 = 1 → fieldAt b 14 1 = 0 →
      urgentPay (payloadOf b) = { b0 := 2 ^ p.code } → s.isl.sys = true → activeSt (lane s p).st = true →
      ∃ t, exec (.packetWrite r b) s = .next t ∧ (lane t p).st = .safe ∧ par t (protSafeCause p.code) = 0x0E ∧ OtherLanes p s t)) ∧
  (∀ (b : List Byte) (s : State), s.isl.prt = true → isCommand b = false →
    (∃ t, exec (.packetWrite false b) s = .next t ∧ t.host.irq = s.host.irq ||| 0x20 ∧ t.planes = s.planes ∧ t.params = s.params) ∧
    (∃ t, exec (.packetWrite true b) s = .next t ∧ t.host.irq = s.host.irq ∧ t.planes = s.planes ∧ t.params = s.params)) ∧
  (∀ (p : Packet) (l : List Packet) (n : Nat) (s : State), s.isl.prt = true → s.host.out = p :: l →
    ∃ t, exec (.packetRead n) s = .next t ∧ t.host.miso = le 4 (hwinStatus s) ++ padTo n (packetBytes p) ∧
      t.host.out = (if (packetBytes p).length ≤ n then l else p :: l) ∧ t.planes = s.planes ∧ t.params = s.params) ∧
  (∀ (a : Nat) (s : State), s.isl.prt = true →
    ∃ t, exec (.windowRead a) s = .next t ∧ t.params = s.params ∧ t.planes = s.planes ∧
      (∀ v, hwinRead s a = some v → t.host.irq = s.host.irq ∧
        t.host.miso = le 4 (hwinStatus s) ++ (le 4 v ++ le 4 (crc32c (le 1 a ++ le 4 v)))) ∧
      (hwinRead s a = none → t.host.irq = s.host.irq ||| 0x10)) ∧
  (∀ (a v c : Nat) (s : State), s.isl.prt = true →
    (crc32c ([0xC3] ++ le 1 a ++ le 4 v) ≠ c → ∃ t, exec (.windowWrite a v c) s = .next t ∧ t.host.irq = s.host.irq ||| 0x10 ∧
      t.host.irqEn = s.host.irqEn ∧ t.host.urgent = s.host.urgent ∧ t.params = s.params ∧ t.planes = s.planes) ∧
    (crc32c ([0xC3] ++ le 1 3 ++ le 4 v) = c → ∃ t, exec (.windowWrite 3 v c) s = .next t ∧ t.host.irqEn = BitVec.ofNat 6 v ∧
      t.host.irq = s.host.irq ∧ t.params = s.params ∧ t.planes = s.planes)) ∧
  (∀ (a v c : Nat) (r : Bool) (b : List Byte) (s : State), s.isl.prt = false → alive s = true →
    exec (.packetWrite r b) s = .next s ∧ exec (.packetRead a) s = .next s ∧ exec (.windowRead a) s = .next s ∧
    exec (.windowWrite a v c) s = .next s)

/-- RGT_WRITE of a fragment that leaves its tile incomplete keeps it and answers OK and writes no tile; the fragment that
completes a tile whose checks pass writes it in place outside a transaction, or stages it in the OPEN one it names, answered OK; a
completed tile that fails its CRC or the field rules is answered BAD_PARAM and not written (R110, R339, R358). RGT_READ answers
the prefix and up to 1,432 bytes of the tile in force from the offset (R339); one of a tile beyond the table answers BAD_PARAM.
Neither writes a tile. -/
def Obligations.RgtTransfers : Prop :=
  (∀ (e : Env) (p : DataPay) (f : Frag) (fs : List Frag) (s : State), Fresh 0x0200 1 e s → dataLen p.data = true → e.handle = 0 →
    txnBusy s = false → p.pre.b6 = 0 → p.pre.grp = 0 → p.pre.unit < 192 → p.pre.offset + p.data.length ≤ 2052 →
    addFrag p.pre.unit 0 0 p.pre.offset p.data s.rgt.frags = some (f, fs) →
    (fragWhole 2052 f = none → ∃ t, exec (.rgtWrite e p) s = .next t ∧ Answered 3 0x0200 e stOk 0 [] t ∧
      t.rgt = { s.rgt with frags := fs } ∧ t.planes = s.planes) ∧
    (∀ img, fragWhole 2052 f = some img →
      (directStatus s p.pre.unit img = stOk → ∃ t, exec (.rgtWrite e p) s = .next t ∧ Answered 3 0x0200 e stOk 0 [] t ∧
        tileAt t (physTile t p.pre.unit) = imageTile img ∧ t.rgt.ptr = s.rgt.ptr) ∧
      (directStatus s p.pre.unit img ≠ stOk → directStatus s p.pre.unit img ≠ stAccepted → ∃ t, exec (.rgtWrite e p) s = .next t ∧
        Answered 3 0x0200 e (directStatus s p.pre.unit img) 0 [] t ∧ t.rgt.tiles = s.rgt.tiles ∧ t.planes = s.planes))) ∧
  (∀ (e : Env) (p : DataPay) (x : Txn) (f : Frag) (fs : List Frag) (img : List Byte) (s : State), Fresh 0x0200 1 e s →
    dataLen p.data = true → s.txn = some x → x.st = .openT → x.handle = e.handle → e.handle ≠ 0 → p.pre.b6 = 0 →
    (p.pre.grp = 0 ∨ x.seqT = true) → p.pre.unit < 192 → p.pre.offset + p.data.length ≤ 2052 →
    addFrag p.pre.unit p.pre.grp e.handle p.pre.offset p.data s.rgt.frags = some (f, fs) → fragWhole 2052 f = some img →
    imageStatus img = stOk → groupFull x p.pre.grp p.pre.unit = false →
    ∃ t, exec (.rgtWrite e p) s = .next t ∧ Answered 3 0x0200 e stOk e.handle [] t ∧
      t.txn = some { x with tiles := stagedOther x p.pre.grp p.pre.unit ++ [(p.pre.grp, p.pre.unit, img)] } ∧
      t.rgt.tiles = s.rgt.tiles ∧ t.planes = s.planes) ∧
  (∀ (e : Env) (p : Pre) (s : State), Fresh 0x0201 1 e s →
    (p.b6 = 0 → p.grp = 0 → p.unit < 192 → p.offset < 2052 → ∃ t, exec (.rgtRead e p) s = .next t ∧
      Answered 3 0x0201 e stOk e.handle
        (preBytes p ++ ((tileImage (tileAt s (physTile s p.unit))).drop p.offset).take 1432) t ∧
      t.rgt = s.rgt ∧ t.planes = s.planes) ∧
    (192 ≤ p.unit → ∃ t, exec (.rgtRead e p) s = .next t ∧ Answered 3 0x0201 e stBadParam e.handle [] t ∧ t.rgt = s.rgt))

/-- Writes of RED.CTRL: GO_COLD powers every island but ISL_AON down and takes the role COLD, with the snapshots and the pins kept
and every plane OFF (R367); TAKE from WARM is answered OK and gives the planes for a takeover, or ends with TAKE_FAIL raised where
they cannot be given (R374, R375); RELEASE asks an ACTIVE module for FAIL, cause 0x04 (R373). CONFIRM makes the running TRIAL slot
GOOD, as CONFIRM_TIME does when it is set and no island has stopped (R398). CONFIRM_TIME is without effect when one has. -/
def Obligations.RedundancyAndConfirmWrites : Prop :=
  (∀ (e : Env) (s : State),
    (Writes e [(redCtrl, 1)] s → ∃ t, exec (.goCold e) s = .next t ∧ t.red.role = 3 ∧ t.isl.power = false ∧ t.isl.prt = false ∧
      t.isl.sys = false ∧ t.isl.ctl = false ∧ t.isl.app = false ∧ t.isl.acq = false ∧ t.isl.aon = s.isl.aon ∧
      (∀ p, (lane t p).st = .off) ∧ t.red.snaps = s.red.snaps ∧ t.pins = s.pins) ∧
    (Writes e [(redCtrl, 2)] s → par s redHashPolicy ≠ 1 → ∃ t, exec (.take e) s = .next t ∧ Answered 2 0x0101 e stOk 0 [] t ∧
      (t.red.role = 4 ∧ (∀ k, t.red.take = some k → k.given = true) ∨
        t.red.role = 1 ∧ t.red.take = none ∧ parBit t redEvents 4 = true)) ∧
    (Writes e [(redCtrl, 4)] s → s.red.role = 1 → s.red.failReq = none → ∃ t, exec (.release e) s = .next t ∧
      Answered 2 0x0101 e stOk 0 [] t ∧ t.red.failReq = some 4 ∧ t.planes = s.planes ∧ t.prt = s.prt)) ∧
  (∀ (n : Nat) (s : State), s.fw.run = some n → n < 2 → (slotOf s n).st = 2 →
    (∀ e, Writes e [(fwCtrl, 1)] s → ∃ t, exec (.confirm e) s = .next t ∧ Answered 2 0x0101 e stOk 0 [] t ∧
      (slotOf t n).st = 3 ∧ s.fw.secVer ≤ t.fw.secVer ∧ t.planes = s.planes) ∧
    (par s fwConfirmTime ≠ 0 → s.fw.stopped = false → ∃ t, exec .confirmTime s = .next t ∧ (slotOf t n).st = 3 ∧
      s.fw.secVer ≤ t.fw.secVer ∧ t.planes = s.planes ∧ t.params = s.params)) ∧
  (∀ s : State, s.fw.stopped = true → exec .confirmTime s = .next s)

/-- When the running TRIAL slot becomes GOOD, by the CONFIRM write or by CONFIRM_TIME, FW.SEC_VER becomes the larger of its value
and the image's security version; and no manifest of a security version below FW.SEC_VER passes the check that acceptance and boot
make (R390). -/
def Obligations.ConfirmRaisesTheSecurityVersion : Prop :=
  (∀ (n : Nat) (s : State), s.fw.run = some n → n < 2 → (slotOf s n).st = 2 →
    (∀ e, Writes e [(fwCtrl, 1)] s → ∃ t, exec (.confirm e) s = .next t ∧ (slotOf t n).st = 3 ∧
      t.fw.secVer = max s.fw.secVer (fieldAt (manifest (slotOf s n)) 8 4)) ∧
    (par s fwConfirmTime ≠ 0 → s.fw.stopped = false → ∃ t, exec .confirmTime s = .next t ∧ (slotOf t n).st = 3 ∧
      t.fw.secVer = max s.fw.secVer (fieldAt (manifest (slotOf s n)) 8 4))) ∧
  (∀ (m : List Byte) (s : State), fieldAt m 8 4 < s.fw.secVer → manifestOk s m = false)

/-- Each slot of 100 µs Betony sends an HB on both links, with the module's role, health, the last snapshot sent whole and its
hash under the next sequence; with a snapshot under way one fragment of it follows; a module that repeats FAIL sends that in place
of the HB (R368, R369). A received HB whose CRC holds is the partner's last word, and as the fourth valid frame in a row brings
its path up; a FAIL frame is noted (R368, R372). Eight missed windows take a path down (R372). With ISL_AON stopped nothing is
sent and nothing counts. -/
def Obligations.HeartbeatsAndPaths : Prop :=
  (∀ (d a c0 : Nat) (s : State), s.isl.aon = true →
    (s.red.failing = none → ∃ t f, exec (.heartbeatSend d a c0) s = .next t ∧ f = frameOf 1 (le 1 s.red.role ++ le 2 s.red.hbSeq ++
        le 2 (healthWord s) ++ le 4 s.red.sent ++ (le 16 (ownHash s)).take 4) ∧ t.red.hbSeq = (s.red.hbSeq + 1) % 65536 ∧
      (t.wire.drop s.wire.length).take 2 = [.vorula 0 1 f, .vorula 1 1 f] ∧
      (s.red.outSnap = none → t.wire.length = s.wire.length + 2) ∧
      (∀ i b, s.red.outSnap = some (i, b) → i < 7 → t.red.outSnap = some (i + 1, b) ∧ t.wire.length = s.wire.length + 4) ∧
      t.planes = s.planes ∧ t.prt = s.prt) ∧
    (∀ c, s.red.failing = some c → ∃ t f, exec (.heartbeatSend d a c0) s = .next t ∧ f = frameOf 3 (le 1 c ++ le 2 s.red.hbSeq) ∧
      (t.wire.drop s.wire.length).take 2 = [.vorula 0 3 f, .vorula 1 3 f] ∧ t.planes = s.planes ∧ t.prt = s.prt)) ∧
  (∀ (n a : Nat) (b : List Byte) (s : State), n < 2 → s.isl.aon = true →
    (frameIs 1 14 b = true → ∃ t, exec (.heartbeatReceive n 0 ⟨a, b⟩) s = .next t ∧
      (∃ h, t.red.partner = some h ∧ h.role = fieldAt b 1 1 ∧ h.seq = fieldAt b 2 2 ∧ h.health = fieldAt b 4 2 ∧
        h.snap = fieldAt b 6 4 ∧ h.hash = fieldAt b 10 4) ∧
      ((pathOf s n).up = false → (pathOf s n).good = 3 → (pathOf t n).up = true ∧ parBit t redEvents 1 = true) ∧
      t.planes = s.planes ∧ t.prt = s.prt) ∧
    (frameIs 3 4 b = true → ∃ t, exec (.heartbeatReceive n 0 ⟨a, b⟩) s = .next t ∧ t.red.failSeen = true ∧ t.planes = s.planes)) ∧
  (∀ (n m : Nat) (s : State), n < 2 → s.isl.aon = true → (pathOf s n).up = true → 8 ≤ (pathOf s n).miss + m → m ≠ 0 →
    ∃ t, exec (.pathDown n m) s = .next t ∧ (pathOf t n).up = false ∧ parBit t redEvents 0 = true ∧ t.planes = s.planes ∧
      t.prt = s.prt) ∧
  (∀ (d a c0 n m : Nat) (b : List Byte) (s : State), n < 2 → s.isl.aon = false →
    exec (.heartbeatSend d a c0) s = .next s ∧ exec (.heartbeatReceive n m ⟨a, b⟩) s = .next s ∧ exec (.pathDown n m) s = .next s)

/-- A snapshot fragment whose CRC holds is kept with those of its sequence; with the eighth the snapshot is kept as one of the
last two, or discarded with SNAP_BAD raised (R370). An ACTIVE module with a cause of R373 sends FAIL and is FAILED. 2 ms after the
settings load a module configured active is ACTIVE, or WARM where the partner showed ACTIVE or TAKING_OVER; one configured standby
is WARM, and one without a role NONE (R366). A standby in COLD that saw FAIL begins a takeover with its supplies on (R374, R375);
a step that cannot be completed leaves the module ACTIVE with TAKE_FAIL raised (R375); an ACTIVE module takes nothing over. -/
def Obligations.FailRolesAndTakeovers : Prop :=
  (∀ (n i q d a : Nat) (x b : List Byte) (s : State), n < 2 → s.isl.aon = true → b = snapFrame i q d x → frameIs 2 522 b = true →
    fieldAt b 1 1 < 8 →
    (s.red.inSnap = none → ∃ t, exec (.snapFragment n i q d a x) s = .next t ∧
      t.red.inSnap = some (fieldAt b 2 4, [(fieldAt b 1 1, (b.drop 10).take 512)]) ∧ t.red.snaps = s.red.snaps ∧
      t.params = s.params ∧ t.planes = s.planes ∧ t.prt = s.prt) ∧
    (∀ l, s.red.inSnap = some (fieldAt b 2 4, l) → (∀ x ∈ l, x.1 ≠ fieldAt b 1 1) →
      (∀ j, j < 8 → j = fieldAt b 1 1 ∨ ∃ x ∈ l, x.1 = j) →
      ∀ w, w = ((List.range 8).flatMap fun j => match ((fieldAt b 1 1, (b.drop 10).take 512) :: l).find? fun x => x.1 = j with
        | some x => x.2
        | none => []) →
      (∀ x ∈ s.red.snaps, fieldAt x.bytes 4 4 ≠ fieldAt w 4 4) →
      ∃ t, exec (.snapFragment n i q d a x) s = .next t ∧ t.red.inSnap = none ∧
        (if crc32c (w.take 4092) = fieldAt w 4092 4 then
          ∃ x, x.bytes = w ∧ t.red.snaps = (x :: s.red.snaps).take 2
        else t.red.snaps = s.red.snaps ∧ parBit t redEvents 9 = true) ∧ t.planes = s.planes ∧ t.prt = s.prt)) ∧
  (∀ (c : Nat) (s : State), s.red.failReq = some c → s.red.role = 1 → s.isl.aon = true →
    ∃ t, exec .fail s = .next t ∧ t.red.role = 5 ∧ t.red.failing = some c ∧ t.red.failReq = none ∧ parBit t redEvents 6 = true ∧
      t.planes = s.planes ∧ t.prt = s.prt) ∧
  (∀ s : State, s.red.role ≠ 1 → exec .fail s = .next s) ∧
  (∀ s : State, s.red.window = true → s.isl.aon = true →
    (par s redRole = 1 → ∃ t, exec .roleWindow s = .next t ∧ t.red.role = (if s.red.winAct then 2 else 1) ∧ t.red.window = false ∧
      t.planes = s.planes) ∧
    (par s redRole = 2 → ∃ t, exec .roleWindow s = .next t ∧ t.red.role = 2 ∧ t.red.window = false ∧ t.planes = s.planes) ∧
    (par s redRole = 0 → ∃ t, exec .roleWindow s = .next t ∧ t.red.role = 0 ∧ t.red.window = false ∧ t.planes = s.planes ∧
      t.params = s.params)) ∧
  (∀ s : State, s.red.window = false → exec .roleWindow s = .next s) ∧
  (∀ (a : Nat) (s : State), s.isl.aon = true → s.red.role = 3 → par s redRole = 2 → s.red.failSeen = true →
    par s redHashPolicy ≠ 1 → ∃ t, exec (.takeover a) s = .next t ∧ t.red.role = 4 ∧ t.isl.power = true ∧
      t.red.take = some { cold := true, dark := true, c0 := a } ∧ t.params = s.params ∧ t.planes = s.planes) ∧
  (∀ (k : Nat) (s : State), s.red.role = 4 → ∃ t, exec (.takeFail k) s = .next t ∧ t.red.role = 1 ∧ t.red.take = none ∧
    parBit t redEvents 4 = true ∧ t.planes = s.planes ∧ t.prt = s.prt) ∧
  (∀ (a k : Nat) (s : State), s.red.role = 1 → exec (.takeover a) s = .next s ∧ exec (.takeFail k) s = .next s)

/-! ## Pins, resets and the supply (chapters 01, 02 and 15) -/

/-- HALT_N low withdraws ENABLE at every port, so that no switch stays commanded but those whose turn-off R173 defers or R175
staggers, and every plane that is READY, RUNNING or TEST goes to SAFE with cause 0x0B (R31); an STO channel low does the same with
cause 0x0C and forces PULSE_BLOCK (R32, R187); when they are high again Sorrel's ENABLE registers are 0 (the model's choice, log
entry 13), and with no modulator output enabled no port turns on (R31, R187). -/
def Obligations.HaltAndStoWithdrawEnable : Prop :=
  (∀ (p : Plane) (s : State), s.isl.prt = true → activeSt (lane s p).st = true →
    (∃ t, exec .haltNFall s = .next t ∧ (lane t p).st = .safe ∧ par t (protSafeCause p.code) = 0x0B ∧ t.pins.haltLow = true ∧
      t.prt.upper &&& ~~~(t.prt.deferUp ||| (staggered t).1) = 0 ∧ t.prt.lower &&& ~~~(t.prt.deferLo ||| (staggered t).2) = 0) ∧
    (∀ b, ∃ t, exec (.stoLow b) s = .next t ∧ (lane t p).st = .safe ∧ par t (protSafeCause p.code) = 0x0C ∧
      (if b then t.pins.sto2 else t.pins.sto1) = false ∧ t.prt.forcedBlock.getLsbD p.code = true ∧
      t.prt.upper &&& ~~~(t.prt.deferUp ||| (staggered t).1) = 0 ∧ t.prt.lower &&& ~~~(t.prt.deferLo ||| (staggered t).2) = 0)) ∧
  (∀ s : State, s.pins.haltLow = true → ∃ t, exec .haltNRise s = .next t ∧ t.pins.haltLow = false ∧ t.prt.enable = 0 ∧
    (s.prt.modEnable = 0 → t.prt.upper &&& ~~~s.prt.upper = 0 ∧ t.prt.lower &&& ~~~s.prt.lower = 0) ∧
    t.planes = s.planes ∧ t.time = s.time) ∧
  (∀ s : State, stoHighNow s = false → ∃ t, exec .stoHigh s = .next t ∧ stoHighNow t = true ∧ t.prt.enable = 0 ∧
    (s.prt.modEnable = 0 → t.prt.upper &&& ~~~s.prt.upper = 0 ∧ t.prt.lower &&& ~~~s.prt.lower = 0) ∧
    t.planes = s.planes ∧ t.time = s.time) ∧
  (∀ s : State, s.pins.haltLow = false → exec .haltNRise s = .next s)

/-- RESET_N low at a powered module starts an external reset that takes every plane that is READY, RUNNING or TEST to SAFE with
cause 0x0D (R58); 20 ms later every island enters reset: planes OFF, gate registers at their reset values, no handle outstanding,
SYS.RESET_CNT counting on, and OTP kept; while RESET_N is still low the islands are held in it (R58, R66, R418). RESET with sel 0
and every plane OFF, STOPPED or READY answers OK and starts a COMMAND reset (R416); and Sorrel resets the system when ISL_CTL
stays stopped under AUTO_RESET (R417). -/
def Obligations.SystemResets : Prop :=
  (∀ (p : Plane) (s : State), s.prt.resetting = none → alive s = true → s.isl.prt = true → activeSt (lane s p).st = true →
    ∃ t, exec .resetNLow s = .next t ∧ (lane t p).st = .safe ∧ par t (protSafeCause p.code) = 0x0D ∧ t.prt.resetting = some 1 ∧
      t.pins.resetLow = true) ∧
  (∀ (k : Nat) (s : State), s.prt.resetting = some k → k < 4 → par s sysResetCnt < 65535 →
    ∃ t, exec .externalResetEntry s = .next t ∧ (∀ p, (lane t p).st = .off) ∧ t.prt.ovr = BitVec.allOnes 36 ∧ t.prt.enable = 0 ∧
      t.prt.upper = 0 ∧ t.prt.lower = 0 ∧ t.host.ops = [] ∧ par t sysResetCnt = par s sysResetCnt + 1 ∧ t.fw.owner = s.fw.owner ∧
      t.fw.secVer = s.fw.secVer ∧ t.prt.resetting = none ∧ t.isl.inReset = !resetHigh s ∧ t.isl.prt = resetHigh s ∧
      (s.pins.resetLow = false → t.isl.prt = true)) ∧
  (∀ s : State, s.prt.resetting = none → exec .externalResetEntry s = .next s) ∧
  (∀ (e : Env) (s : State), Fresh 0x0121 1 e s → s.prt.resetting = none →
    (∀ p, (lane s p).st = .off ∨ (lane s p).st = .stopped ∨ (lane s p).st = .ready) →
    ∃ t, exec (.reset e 0 0) s = .next t ∧ Answered 2 0x0121 e stOk e.handle [] t ∧ t.prt.resetting = some 2 ∧
      t.isl.askRecovery = false) ∧
  (∀ s : State, s.prt.resetting = none → s.isl.ctl = false → parBit s sysAutoReset 0 = true → s.prt.supplyLoss = false →
    s.isl.prt = true → ∃ t, exec .supervisorReset s = .next t ∧ t.prt.resetting = some 3)

/-- The input: SYS.VIN shows it (R44), an excursion to 16.0 V or more below 18 V raises SUPPLY_LOW once, and it ends at 18 V
(R40). SUPPLY_LOSS takes every plane that is READY, RUNNING or TEST to SAFE with cause 0x08, de-energises HOLD, closes the Yarrow
relays and stops HEALTH (R41, R55, R188); the power-fail record is written while ISL_SYS still runs; then the core islands power
down with their links and ISL_PRT drives MDCLK on (R41); and 40 ms after the loss the MC relay drops (R189). Without a loss these
instants are without effect. The breaker inputs: each follows its filtered pin and no gate output moves (R62); a relay
de-energised for 200 ms with its auxiliary closed raises its mismatch once (R190); plane G in SAFE for BRK_DELAY de-energises
HOLD, which ends a permit (R188, R213). -/
def Obligations.InputLossAndBreakers : Prop :=
  (∀ (v : Nat) (s : State), s.isl.prt = true → v < 65536 → ∃ t, exec (.supplyLow v) s = .next t ∧ par t sysVin = v ∧
    t.prt = { s.prt with supplyLow := decide (v < 1800) && (s.prt.supplyLow || decide (1600 ≤ v)) } ∧
    (1600 ≤ v → v < 1800 → s.prt.supplyLow = false → tansyUp s = true → t.host.recent.head? = some (0x0020, monoNs s)) ∧
    (v < 1600 ∨ 1800 ≤ v ∨ s.prt.supplyLow = true → t.host = s.host) ∧ t.planes = s.planes ∧ t.time = s.time) ∧
  (∀ (p : Plane) (s : State), s.isl.prt = true → s.prt.supplyLoss = false → activeSt (lane s p).st = true →
    ∃ t, exec .supplyLoss s = .next t ∧ (lane t p).st = .safe ∧ par t (protSafeCause p.code) = 0x08 ∧
      parBit t protBrkCtrl 0 = false ∧ t.prt.supplyLoss = true ∧ t.isl.health = false ∧ t.isl.yOpen = false) ∧
  (∀ s : State, s.prt.supplyLoss = true →
    (s.isl.sys = true → ∃ t x, exec .powerFailRecord s = .next t ∧ t.fw.ring.head? = some x ∧ x.mono = monoNs s ∧ x.net = netNs s ∧
      x.events = s.host.recent ∧ t.planes = s.planes ∧ t.prt = s.prt ∧ t.params = s.params) ∧
    (∃ t, exec .corePowerDown s = .next t ∧ t.isl.ctl = false ∧ t.isl.sys = false ∧ t.isl.acq = false ∧ t.isl.app = false ∧
      t.isl.aon = s.isl.aon ∧ t.prt.holdUp = (s.isl.prt && s.isl.mdRun) ∧ t.eth0.up = false ∧ t.eth1.up = false ∧
      t.planes = s.planes ∧ t.params = s.params) ∧
    (∃ t, exec .mcRelayDrop s = .next t ∧ parBit t protBrkCtrl 1 = false ∧ t.prt.mcGone = true ∧ t.planes = s.planes ∧
      t.time = s.time)) ∧
  (∀ s : State, s.prt.supplyLoss = false → exec .powerFailRecord s = .next s ∧ exec .corePowerDown s = .next s ∧
    exec .mcRelayDrop s = .next s) ∧
  (∀ (b : Bool) (s : State),
    (∃ t, exec (.busPresentChange b) s = .next t ∧ t.pins = { s.pins with busPresent := b } ∧ t.planes = s.planes ∧ t.prt = s.prt) ∧
    (∃ t, exec (.brkAuxChange b) s = .next t ∧ t = { s with pins := { s.pins with brkAux := b } }) ∧
    (∃ t, exec (.mcAuxChange b) s = .next t ∧ t = { s with pins := { s.pins with mcAux := b } })) ∧
  (∀ s : State, (parBit s protBrkCtrl 1 = false → s.pins.mcAux = true → s.prt.mcMis = false →
      ∃ t, exec (.brkMismatch true) s = .next t ∧ parBit t protBrkStatus 9 = true ∧ t.prt.mcMis = true ∧ t.planes = s.planes) ∧
    (parBit s protBrkCtrl 0 = false → s.pins.brkAux = true → s.prt.holdMis = false →
      ∃ t, exec (.brkMismatch false) s = .next t ∧ parBit t protBrkStatus 8 = true ∧ t.prt.holdMis = true ∧ t.planes = s.planes) ∧
    (s.prt.mcMis = true → exec (.brkMismatch true) s = .next s) ∧ (s.prt.holdMis = true → exec (.brkMismatch false) s = .next s)) ∧
  (∀ s : State, (lane s .g).st = .safe → parBit s protBrkCtrl 0 = true → ∃ t, exec .brkDelay s = .next t ∧
    parBit t protBrkCtrl 0 = false ∧ gPermit t = false ∧ t.planes = s.planes ∧ t.time = s.time) ∧
  (∀ s : State, (lane s .g).st ≠ .safe → exec .brkDelay s = .next s)

/-- The power-up sequence (R397, R415, R420 to R423): POWER_UP puts every island into reset with the planes OFF. The first lock of
PLL_M in a powered module out of reset starts ISL_CTL, ISL_SYS and ISL_ACQ and counts the boot: the boot ROM chooses the GOOD slot
whose fast-start image verifies where no slot is on trial, or enters recovery as RESET asked; a lock in RELOCK makes PLL_M LOCKED
again (R250). The fast-start image of the chosen slot runs with ISL_APP as its lockstep test found it; TANSY_EXT of an image that
verifies runs once SYS_UP is set. The settings load (R401, R403, R420) sets SYS_UP and has MDCLK started: with the newest eligible
record, of the image's schema, its copy is the one loaded; with no valid copy the defaults stay in force, and FW.EVENTS [5] and
SYS.START_EVENTS [0] are raised; while SYS_UP is set already, or a reset has begun, it is without effect. -/
def Obligations.StartUp : Prop :=
  (∀ (b : Bool) (s : State), ∃ t, exec (.powerUp b) s = .next t ∧ (∀ p, (lane t p).st = .off) ∧ t.host.ops = [] ∧ t.time.mono = 0 ∧
    t.isl.sys = false ∧ t.isl.aon = true ∧ t.isl.prt = true ∧ t.prt.upper = 0 ∧ t.prt.lower = 0 ∧ t.acq.archive = s.acq.archive) ∧
  (∀ s : State, s.isl.prt = true → alive s = true → s.prt.supplyLoss = false → s.red.take = none → pllm s = 0 →
    (s.isl.askRecovery = true → ∃ t, exec .pllmLocked s = .next t ∧ pllm t = 1 ∧ t.isl.ctl = true ∧ t.isl.sys = true ∧
      t.isl.acq = true ∧ t.isl.recovery = true ∧ par t sysBootStage = 15 ∧ par t fwBootCnt = (par s fwBootCnt + 1) % 2 ^ 32 ∧
      t.planes = s.planes) ∧
    (∀ n, s.isl.askRecovery = false → trialSlot s = none → goodSlot s = some n → fastStartOk s n = true →
      ∃ t, exec .pllmLocked s = .next t ∧ pllm t = 1 ∧ t.isl.ctl = true ∧ t.isl.sys = true ∧ t.isl.acq = true ∧
        t.fw.chosen = some n ∧ par t sysBootStage = 1 ∧ par t fwBootCnt = (par s fwBootCnt + 1) % 2 ^ 32 ∧ t.planes = s.planes)) ∧
  (∀ s : State, pllm s = 3 → ∃ t, exec .pllmLocked s = .next t ∧ pllm t = 1 ∧ t.planes = s.planes ∧ t.time = s.time) ∧
  (∀ (n : Nat) (b : Bool) (s : State), s.fw.chosen = some n → s.fw.run = none → s.isl.sys = true →
    ∃ t, exec (.fastStartLoaded b) s = .next t ∧ t.fw.run = some n ∧ t.isl.app = b ∧ par t sysBootStage = 2 ∧ t.planes = s.planes ∧
      t.time = s.time) ∧
  (∀ s : State, s.isl.sys = true → s.isl.sysUp = true → extOk s = true → ∃ t, exec .tansyExtRunning s = .next t ∧
    t.isl.ext = true ∧ par t sysBootStage = 5 ∧ t.planes = s.planes ∧ t.time = s.time) ∧
  (∀ (a h : Nat) (m : Migr) (s : State), s.fw.run.isSome = true → s.isl.sysUp = false → s.isl.sys = true → s.prt.resetting = none →
    s.red.role = 0 →
    (s.fw.copy0 = none → s.fw.copy1 = none → ∃ t, exec (.settingsLoaded a m h) s = .next t ∧ t.isl.sysUp = true ∧
      t.isl.mdclk = true ∧ par t sysBootStage = 3 ∧ parBit t fwEvents 5 = true ∧ parBit t sysStartEvents 0 = true ∧
      t.red.window = true) ∧
    (∀ n r, newestRec s = some (n, r) → r.schema = schemaOf (runManifest s) →
      ∃ t, exec (.settingsLoaded a m h) s = .next t ∧ t.isl.sysUp = true ∧ t.isl.mdclk = true ∧ par t sysBootStage = 3 ∧
        t.fw.loaded = some n ∧ t.fw.setHash = r.hash ∧ t.rgt.tiles = r.tiles ∧ t.red.window = true)) ∧
  (∀ (a h : Nat) (m : Migr) (s : State), s.isl.sysUp = true ∨ s.prt.resetting.isSome = true →
    exec (.settingsLoaded a m h) s = .next s)

/-- An island that stops (R17): ISL_CTL takes every plane that is READY, RUNNING or TEST to SAFE with cause 0x07 and HEALTH stops;
ISL_SYS sets HWIN_IRQ bit 3 and clears SYS_UP; one that is stopped already changes nothing. ISL_ACQ, found stopped, is restarted
alone with its comparators disarmed and T_BUS invalid, and counted; ISL_SYS is restarted with SYS_UP set and HWIN_IRQ bit 3,
ISL_AON with its paths down and its role to be taken anew (R346, R419). A debug halt of ISL_CTL needs an open session; with no
modulator waiting for its initial set ISL_CTL resumes with its counters as they were, and a plane with SYNC = YMRK is no longer
ALIGNED (R152). In a powered module IDCODE and BYPASS are always in force; the debug instruction, with every plane OFF in
MANUFACTURE or DEBUG_UNLOCKED, opens a session, and EXTEST is in force there; else both are refused (R63). -/
def Obligations.IslandsAndDebug : Prop :=
  (∀ (p : Plane) (s : State), s.isl.ctl = true → s.isl.prt = true → activeSt (lane s p).st = true →
    ∃ t, exec (.islandStopped .ctl) s = .next t ∧ t.isl.ctl = false ∧ t.isl.health = false ∧ (lane t p).st = .safe ∧
      par t (protSafeCause p.code) = 0x07) ∧
  (∀ s : State, s.isl.sys = true → ∃ t, exec (.islandStopped .sys) s = .next t ∧ t.isl.sys = false ∧ t.isl.sysUp = false ∧
    t.host.irq = s.host.irq ||| 8 ∧ t.planes = s.planes ∧ t.prt = s.prt ∧ t.params = s.params) ∧
  (∀ (x : Island) (s : State), islandRuns s x = false → exec (.islandStopped x) s = .next s) ∧
  (∀ (l : List (Nat × Bool)) (s : State),
    (resetFits .acq s = true → par s sysResetCnt < 65535 → ∃ t, exec (.islandReset ⟨.acq, l⟩) s = .next t ∧ t.isl.acq = true ∧
      (∀ n, n < 16 → parBit t (timeTcCtrl n) 2 = false) ∧ t.time.busOk = false ∧ par t sysResetCnt = par s sysResetCnt + 1 ∧
      t.planes = s.planes ∧ t.prt = s.prt) ∧
    (resetFits .sys s = true → ∃ t, exec (.islandReset ⟨.sys, l⟩) s = .next t ∧ t.isl.sys = true ∧ t.isl.sysUp = true ∧
      t.host.irq &&& 8 = 8) ∧
    (resetFits .aon s = true → ∃ t, exec (.islandReset ⟨.aon, l⟩) s = .next t ∧ t.isl.aon = true ∧ t.red.role = 0 ∧
      t.red.window = true ∧ t.red.pathA = {} ∧ t.red.pathB = {} ∧ t.red.snaps = s.red.snaps ∧ t.planes = s.planes)) ∧
  (∀ (x : Restart) (s : State), islandRuns s x.island = true → exec (.islandReset x) s = .next s) ∧
  (∀ s : State, s.isl.ctl = true →
    (s.isl.session = true → exec .debugHalt s = .next { s with isl := { s.isl with halted := true } }) ∧
    (s.isl.session = false → exec .debugHalt s = .next s)) ∧
  (∀ (p : Plane) (s : State), s.isl.halted = true → (∀ q, (modr s q).stale = false) →
    ∃ t, exec .debugResume s = .next t ∧ t.isl.halted = false ∧
    (par s (modSync p.code) = 1 → modr t p = { modr s p with aligned := false }) ∧
    (par s (modSync p.code) ≠ 1 → modr t p = modr s p) ∧ t.planes = s.planes ∧ t.params = s.params ∧ t.prt = s.prt) ∧
  (∀ s : State, s.isl.halted = false → exec .debugResume s = .next s) ∧
  (∀ s : State, alive s = true →
    (∀ i, i = JtagIns.idcode ∨ i = JtagIns.bypass →
      exec (.jtagInstruction i) s = .next { s with isl := { s.isl with jtagIns := some i } }) ∧
    (allOff s = true → s.fw.life = 0 ∨ s.fw.life = 2 →
      exec (.jtagInstruction .debug) s = .next { s with isl := { s.isl with jtagIns := some .debug, session := true } } ∧
      exec (.jtagInstruction .extest) s = .next { s with isl := { s.isl with jtagIns := some .extest } }) ∧
    (allOff s = false ∨ s.fw.life = 1 → ∀ i, i = JtagIns.debug ∨ i = JtagIns.extest →
      exec (.jtagInstruction i) s = .next { s with isl := { s.isl with jtagIns := none } }))

/-! ## Gate ports and protection (chapter 06) -/

/-- A gate block that sees no keep-alive withdraws ENABLE, and holds that until its permission is rewritten (R23). A declared
undervoltage of a supplied port turns its upper switch off, and the lower one too unless the monitor is VBOOT, and takes a plane
that is READY, RUNNING or TEST to SAFE with cause 0x04; a release clears the monitor's declaration and no plane changes its state
(R169, R170). At a port whose supply is off, and for a number that is no port, a monitor's change is without effect. -/
def Obligations.KeepAliveAndUndervoltage : Prop :=
  (∀ (l : List Nat) (s : State), ∃ t, exec (.keepAliveLoss l) s = .next t ∧ t.prt.kaHold = s.prt.kaHold ||| portsOf l ∧
    enableIn t &&& portsOf l = 0 ∧ t.planes = s.planes ∧ t.mods = s.mods ∧ t.time = s.time) ∧
  (∀ (n : Nat) (m : Mon) (s : State), n < 36 → alive s = true → monitored n s = true →
    (∃ t, exec (.uvloDeclare n m) s = .next t ∧ t.prt.upper.getLsbD n = false ∧ (m ≠ .vboot → t.prt.lower.getLsbD n = false) ∧
      (m = .vcc → t.prt.uvVcc.getLsbD n = true) ∧ (m = .vee → t.prt.uvVee.getLsbD n = true) ∧
      (m = .vboot → t.prt.uvVboot.getLsbD n = true) ∧
      (s.isl.prt = true → activeSt (lane s (planeOfPort n)).st = true → (lane t (planeOfPort n)).st = .safe ∧
        par t (protSafeCause (planeOfPort n).code) = 0x04)) ∧
    (∃ t, exec (.uvloRelease n m) s = .next t ∧ (m = .vcc → t.prt.uvVcc = s.prt.uvVcc &&& ~~~portBit n) ∧
      (m = .vee → t.prt.uvVee = s.prt.uvVee &&& ~~~portBit n) ∧ (m = .vboot → t.prt.uvVboot = s.prt.uvVboot &&& ~~~portBit n) ∧
      (∀ q, (lane t q).st = (lane s q).st))) ∧
  (∀ (n : Nat) (m : Mon) (s : State), monitored n s = false ∨ 36 ≤ n →
    exec (.uvloDeclare n m) s = .next s ∧ exec (.uvloRelease n m) s = .next s)

/-- A short circuit of a switch that is on past its comparator's blanking: the fault bit of the switch is latched, the switch
turns off, the port's FAULT_CNT counts, and a plane that is READY, RUNNING or TEST goes to SAFE with cause 0x03; a short that the
comparator cannot see changes nothing (R171, R172, R174). Of desaturation faults of two ports of one plane in one cycle the higher
port's switch joins the groups that wait for SHORT_STAGGER (R175); SHORT_STAGGER ends the wait of the oldest group, and its
latched switches are off where it was the only one. DEFERRED_TURN_OFF ends a port's deferral with a soft turn-off, and leaves both
switches off for its dead time; a port without a deferral is unchanged (R173). -/
def Obligations.ShortCircuitsAndDeferrals : Prop :=
  (∀ (n : Nat) (b : Bool) (s : State), n < 36 → alive s = true → s.isl.prt = true → activeSt (lane s (planeOfPort n)).st = true →
    par s (gateFaultCnt n) < 65535 →
    (shortSeen true n b s = true → ∃ t, exec (.shortHard n b) s = .next t ∧
      (if b then t.prt.faultH.getLsbD n else t.prt.faultL.getLsbD n) = true ∧
      (if b then t.prt.upper.getLsbD n else t.prt.lower.getLsbD n) = false ∧ (lane t (planeOfPort n)).st = .safe ∧
      par t (protSafeCause (planeOfPort n).code) = 0x03 ∧ par t (gateFaultCnt n) = par s (gateFaultCnt n) + 1) ∧
    (shortSeen false n b s = true → turningOff n b s = false → ∃ t, exec (.shortDesat [(n, b)]) s = .next t ∧
      (if b then t.prt.faultH.getLsbD n else t.prt.faultL.getLsbD n) = true ∧
      (if b then t.prt.upper.getLsbD n else t.prt.lower.getLsbD n) = false ∧ (lane t (planeOfPort n)).st = .safe ∧
      par t (protSafeCause (planeOfPort n).code) = 0x03 ∧ par t (gateFaultCnt n) = par s (gateFaultCnt n) + 1)) ∧
  (∀ (n : Nat) (b : Bool) (s : State), (shortSeen true n b s = false → exec (.shortHard n b) s = .next s)) ∧
  (∀ (n k : Nat) (a b : Bool) (s : State), n < k → k < 36 → planeOfPort n = planeOfPort k → s.isl.prt = true →
    shortSeen false n a s = true → shortSeen false k b s = true → turningOff n a s = false → turningOff k b s = false →
    par s protShortStagger ≠ 0 → ∃ t, exec (.shortDesat [(n, a), (k, b)]) s = .next t ∧
      t.prt.stagger = s.prt.stagger ++ [(if b then portBit k else 0, if b then 0 else portBit k)]) ∧
  (∀ (g : Ports × Ports) (r : List (Ports × Ports)) (s : State), s.prt.stagger = g :: r →
    ∃ t, exec .shortStagger s = .next t ∧ t.prt.stagger = r ∧ t.planes = s.planes ∧ t.mods = s.mods ∧ t.time = s.time ∧
      (r = [] → g.1 &&& ~~~s.prt.faultH = 0 → g.2 &&& ~~~s.prt.faultL = 0 →
        t.prt.upper &&& g.1 = 0 ∧ t.prt.lower &&& g.2 = 0)) ∧
  (∀ s : State, s.prt.stagger = [] → exec .shortStagger s = .next s) ∧
  (∀ (n : Nat) (s : State), n < 36 → alive s = true → (s.prt.deferUp ||| s.prt.deferLo).getLsbD n = true →
    ∃ t, exec (.deferredTurnOff n) s = .next t ∧ (t.prt.deferUp ||| t.prt.deferLo).getLsbD n = false ∧
      t.prt.soft.getLsbD n = true ∧ (par s (gateDt n) ≠ 0 → (t.prt.upper ||| t.prt.lower).getLsbD n = false) ∧
      t.planes = s.planes ∧ t.time = s.time) ∧
  (∀ (n : Nat) (s : State), (s.prt.deferUp ||| s.prt.deferLo) &&& portBit n = 0 → exec (.deferredTurnOff n) s = .next s)

/-- For every port: the upper switch is unavailable exactly when the port's supply is OFF, the port has a VCC, VEE or VBOOT
undervoltage, the switch's fault bit is latched or the port is LOCKED, and the lower switch likewise without the VBOOT case
(R181). Every other switch is available. -/
def Obligations.UnavailableSwitches : Prop :=
  ∀ (n : Nat) (s : State), n < 36 →
    ((unavUpper s).getLsbD n = true ↔ par s (gateSupply n) = 2 ∨ s.prt.uvVcc.getLsbD n = true ∨ s.prt.uvVee.getLsbD n = true ∨
      s.prt.uvVboot.getLsbD n = true ∨ s.prt.faultH.getLsbD n = true ∨ s.prt.locked.getLsbD n = true) ∧
    ((unavLower s).getLsbD n = true ↔ par s (gateSupply n) = 2 ∨ s.prt.uvVcc.getLsbD n = true ∨ s.prt.uvVee.getLsbD n = true ∨
      s.prt.faultL.getLsbD n = true ∨ s.prt.locked.getLsbD n = true)

/-- Gate power and temperature: PSUP shows a port's power, and above 4.0 W from its isolated supply its flag is raised (R43, R44);
SYS.P_GATE and SYS.P_IN show the input powers, and P_GATE above the limit takes every RUNNING plane to SAFE with cause 0x0A (R43);
the temperature updates SYS.T_BASE, sets and re-arms the OVERTEMP condition at 87 °C and below 85 °C, and at +95 °C every plane
that is READY, RUNNING or TEST goes to SAFE with cause 0x09 (R65); a powered measurement port whose supply limits is marked (R51,
R67). -/
def Obligations.PowerAndTemperatureLimits : Prop :=
  (∀ (n w : Nat) (s : State), n < 36 → alive s = true → w < 65536 → ∃ t, exec (.gatePwrHigh n w) s = .next t ∧
    par t (gatePsup n) = w ∧ (4000 < w → par s (gateSupply n) = 0 → parBit t (gateStatus n) 7 = true) ∧ t.planes = s.planes ∧
    t.prt = s.prt ∧ t.time = s.time) ∧
  (∀ (p : Plane) (w x : Nat) (s : State), s.isl.prt = true → w < 65536 → x < 65536 → (lane s p).st = .running →
    (gateLimit s < (w : Rat) → ∃ t, exec (.gateBudget ⟨w, x⟩) s = .next t ∧ par t sysPGate = w ∧ par t sysPIn = x ∧
      (lane t p).st = .safe ∧ par t (protSafeCause p.code) = 0x0A) ∧
    ((w : Rat) ≤ gateLimit s → ∃ t, exec (.gateBudget ⟨w, x⟩) s = .next t ∧ par t sysPGate = w ∧ par t sysPIn = x ∧
      t.planes = s.planes ∧ t.prt = s.prt)) ∧
  (∀ (p : Plane) (x : Int) (s : State), alive s = true → s.isl.prt = true → activeSt (lane s p).st = true → x < 32768 →
    (9500 ≤ x → ∃ t, exec (.tBaseUpdate x) s = .next t ∧ tBase t = x ∧ (lane t p).st = .safe ∧
      par t (protSafeCause p.code) = 0x09) ∧
    (-32768 ≤ x → x < 9500 → ∃ t, exec (.tBaseUpdate x) s = .next t ∧ tBase t = x ∧ t.planes = s.planes ∧
      t.prt.overtemp = (decide (8700 ≤ x) || (s.prt.overtemp && decide (8500 ≤ x))))) ∧
  (∀ (n : Nat) (s : State), n < 24 → s.prt.m5v.getLsbD n = true → ∃ t, exec (.mpSupply n) s = .next t ∧
    t.prt.mpLimit = s.prt.mpLimit ||| (1#24 <<< n) ∧ t.planes = s.planes ∧ t.time = s.time) ∧
  (∀ (n : Nat) (s : State), s.prt.m5v.getLsbD n = false → exec (.mpSupply n) s = .next s)

/-- Cuts: one whose tag names the period in force sets the cut latch of its ports, and is acknowledged; one of an earlier period
is acknowledged alone (R146); its acknowledgement gives the ports their permission back, but for those R178 withdrew; a boundary
count with a cut of its period counts PROT.x.CUT_CNT and TRIP_RUN, and at TRIP_LIMIT a plane that is READY, RUNNING or TEST goes
to SAFE with cause 0x02 and TRIP_RUN starts again (R147). The steps of an ASC: ASC_STEP sets the ports of the next step to the
pattern with ENABLE 1 while plane M is in SAFE (R183), and a forced ASC ends once ASC_WANTED stays 0 (R179). -/
def Obligations.CutsAndAscSteps : Prop :=
  (∀ (p : Plane) (a : Nat) (c : Cut) (s : State), s.isl.ctl = true → s.isl.halted = false → s.prt.cuts = [c] → c.plane = p.code →
    c.stage = 1 →
    (c.tag = (modr s p).bnd → ∃ t, exec (.cutArrival ⟨p, a⟩) s = .next t ∧ (modr t p).cut = (modr s p).cut ||| ofPorts p c.ports ∧
      t.prt.cuts = [{ c with stage := 2 }] ∧ t.time = s.time ∧ t.planes = s.planes) ∧
    (c.tag ≠ (modr s p).bnd → ∃ t, exec (.cutArrival ⟨p, a⟩) s = .next t ∧ (modr t p).cut = (modr s p).cut ∧
      t.prt.cuts = [{ c with stage := 2 }] ∧ t.time = s.time ∧ t.planes = s.planes)) ∧
  (∀ (p : Plane) (c : Cut) (s : State), s.prt.cuts = [c] → c.plane = p.code → c.stage = 2 →
    ∃ t, exec (.cutAck p) s = .next t ∧ t.prt.cuts = [] ∧ t.prt.permit = s.prt.permit ||| (c.ports &&& ~~~s.prt.legOff) ∧
      t.time = s.time ∧ t.planes = s.planes) ∧
  (∀ (p : Plane) (s : State), s.prt.cutNow.getLsbD p.code = true → s.isl.prt = true → activeSt (lane s p).st = true →
    par s (protCutCnt p.code) < 65535 →
    (par s (protTripLimit p.code) ≤ min 255 (par s (protTripRun p.code) + 1) →
      ∃ t, exec (.boundaryCount p) s = .next t ∧ (lane t p).st = .safe ∧ par t (protSafeCause p.code) = 0x02 ∧
        par t (protTripRun p.code) = 0 ∧ par t (protCutCnt p.code) = par s (protCutCnt p.code) + 1) ∧
    (min 255 (par s (protTripRun p.code) + 1) < par s (protTripLimit p.code) →
      ∃ t, exec (.boundaryCount p) s = .next t ∧ par t (protTripRun p.code) = min 255 (par s (protTripRun p.code) + 1) ∧
        par t (protCutCnt p.code) = par s (protCutCnt p.code) + 1 ∧ t.planes = s.planes)) ∧
  (∀ (m : Ports) (s : State), (lane s .m).st = .safe → s.prt.ascStep ≠ 0 → (ascSteps s (lane s .m).sub)[s.prt.ascStep]? = some m →
    ∃ t, exec .ascStep s = .next t ∧ t.prt.enable = s.prt.enable ||| m ∧
      t.prt.pulse = (s.prt.pulse &&& ~~~m) ||| (ascPulse s (lane s .m).sub &&& m) ∧ t.planes = s.planes ∧ t.time = s.time) ∧
  (∀ s : State, s.prt.ascStep = 0 ∨ (lane s .m).st ≠ .safe → exec .ascStep s = .next s) ∧
  (∀ s : State, s.prt.forcedAsc = true → s.prt.ascWanted = false →
    ∃ t, exec .forcedAscEnd s = .next t ∧ t.prt.forcedAsc = false ∧ (∀ q, (lane t q).st = (lane s q).st) ∧ t.time = s.time)

/-! ## Measurement and the control period (chapters 03 to 05) -/

/-- A loss at a routed port in ISL_CTL sets the bit of its criterion in MEAS.MPnn.STATUS and the port's bit of MEAS.LOST, holds
the sample that R85 names from the port's history, and no lane and no gate register moves (R84, R85): STUCK on an NRZ port, a pair
fault, a lost Manchester lock and code violations on a Manchester port, and FROZEN once the comb output has repeated FRZ_N times.
On a port with route 0 they are without effect. A loss of the upper DC-link half in ISL_PRT takes every plane that is READY,
RUNNING or TEST to SAFE with cause 0x06 (R86, R178); 64 samples without a loss make a stream valid again in an island (R87). The
end of a skew calibration writes the SKEW its recording gives, or sets EYE with the signal invalid in both islands (R70); a METER
output moves the window's length by at most one (R83). -/
def Obligations.StreamsAreLostAndReturn : Prop :=
  (∀ (n : Nat) (a : Int) (s : State), n < 24 → alive s = true → par s (measRoute n) ≠ 0 → (mport s n).loss = none →
    (par s (measCoding n) ≠ 1 → ∃ t, exec (.stuck n false a) s = .next t ∧ parBit t (measStatus n) 1 = true ∧
      parBit t measLost n = true ∧ (mport t n).loss = some .stuck ∧ (mport t n).held = heldFor .stuck a (mport s n) ∧
      t.planes = s.planes ∧ t.prt = s.prt) ∧
    (∃ t, exec (.clkFault n ⟨a, true⟩) s = .next t ∧ parBit t (measStatus n) 2 = true ∧ parBit t measLost n = true ∧
      (mport t n).loss = some .clkFault ∧ (mport t n).pair = true ∧ (mport t n).held = heldFor .clkFault a (mport s n) ∧
      t.planes = s.planes ∧ t.prt = s.prt) ∧
    (∃ t, exec (.clkFault n ⟨a, false⟩) s = .next t ∧ mport t n = { mport s n with pair := false } ∧ t.params = s.params ∧
      t.planes = s.planes ∧ t.prt = s.prt) ∧
    (par s (measCoding n) = 1 →
      (∃ t, exec (.manchesterLockLost n false a) s = .next t ∧ parBit t (measStatus n) 2 = true ∧ parBit t measLost n = true ∧
        (mport t n).loss = some .clkFault ∧ t.planes = s.planes ∧ t.prt = s.prt) ∧
      (∃ t, exec (.manchErr n false a) s = .next t ∧ parBit t (measStatus n) 5 = true ∧ parBit t measLost n = true ∧
        (mport t n).loss = some .manchErr ∧ t.planes = s.planes ∧ t.prt = s.prt)) ∧
    (par s (measFrzN n) ≠ 0 → par s (measFrzN n) ≤ (mport s n).same + 1 →
      ∃ t, exec (.frozen n) s = .next t ∧ parBit t (measStatus n) 3 = true ∧ parBit t measLost n = true ∧
        (mport t n).loss = some .frozen ∧ t.planes = s.planes ∧ t.prt = s.prt)) ∧
  (∀ (n : Nat) (a : Int) (b : Bool) (s : State), par s (measRoute n) = 0 → exec (.stuck n b a) s = .next s ∧
    exec (.clkFault n ⟨a, b⟩) s = .next s ∧ exec (.manchesterLockLost n b a) s = .next s ∧ exec (.manchErr n b a) s = .next s ∧
    exec (.frozen n) s = .next s) ∧
  (∀ (n : Nat) (a : Int) (p : Plane) (s : State), n < 24 → alive s = true → s.isl.prt = true → par s (measRoute n) = 0x40 →
    par s (measCoding n) ≠ 1 → activeSt (lane s p).st = true →
    ∃ t, exec (.stuck n true a) s = .next t ∧ (lane t p).st = .safe ∧ par t (protSafeCause p.code) = 0x06 ∧
      (mport t n).prtValid = false) ∧
  (∀ (n : Nat) (s : State), n < 24 → alive s = true → par s (measRoute n) ≠ 0 → parBit s (measStatus n) 7 = false →
    ((mport s n).run = 64 → ∃ t, exec (.streamValid n false) s = .next t ∧ mport t n = { mport s n with valid := true } ∧
      t.params = s.params ∧ (∀ j, j ≠ n → mport t j = mport s j) ∧ t.planes = s.planes ∧ t.prt = s.prt) ∧
    ((mport s n).prtRun = 64 → ∃ t, exec (.streamValid n true) s = .next t ∧ mport t n = { mport s n with prtValid := true } ∧
      t.params = s.params ∧ (∀ j, j ≠ n → mport t j = mport s j) ∧ t.planes = s.planes ∧ t.prt = s.prt)) ∧
  (∀ (n : Nat) (u : Bool) (s : State), n < 24 → alive s = true → par s measSkewAuto ≠ 0 → par s (measRoute n) ≠ 0 →
    par s (measCoding n) ≠ 1 → (mport s n).skewLeft = 0 →
    (∀ k, skewFound u (mport s n).skewHist = some (some k) → ∃ t, exec (.skewAuto n u) s = .next t ∧ par t (measSkew n) = k % 32 ∧
      (mport t n).skewHist = [] ∧ t.planes = s.planes) ∧
    (skewFound u (mport s n).skewHist = some none → ∃ t, exec (.skewAuto n u) s = .next t ∧ parBit t (measStatus n) 7 = true ∧
      (mport t n).valid = false ∧ (mport t n).prtValid = false ∧ t.planes = s.planes)) ∧
  (∀ (l : List Nat) (s : State), s.isl.ctl = true → s.isl.mdRun = true → s.isl.halted = false →
    ∃ t, exec (.meterOutput l) s = .next t ∧ par t measMaLenNow = nextLen s % 2 ^ 32 ∧ t.planes = s.planes ∧ t.prt = s.prt ∧
      t.time = s.time)

/-- A strobe with ISL_CTL running advances T_MONO by one control period and the sample index by one, from 0 at the first (R24,
R26, R124); with ISL_CTL stopped T_MONO and the index stand (R17, R270), and with it halted no lane and no modulator output
changes (R152). At the commit point every lane that computes and is not late has its decision latched, and the thread's published
set becomes the set in force (R26, R121, R127); with ISL_CTL stopped or halted nothing is committed (R152). -/
def Obligations.StrobesAndCommitPoints : Prop :=
  (∀ (l : List Nat) (s : State), s.isl.ctl = true → s.txn = none → ∃ t, exec (.controlStrobe l) s = .next t ∧
    t.time.mono = s.time.mono + (nCyc s : Rat) * ctlNs s ∧
    sampleK t = (if s.time.began then (sampleK s + 1) % 2 ^ 64 else 0) ∧ t.time.began = true) ∧
  (∀ (l : List Nat) (s : State), s.isl.ctl = true → s.isl.halted = true → ∃ t, exec (.controlStrobe l) s = .next t ∧
    (∀ p, lane t p = lane s p) ∧ t.time.stall = true ∧ (∀ p, (modr t p).out = (modr s p).out)) ∧
  (∀ (l : List Nat) (s : State), s.isl.ctl = false → ∃ t, exec (.controlStrobe l) s = .next t ∧ t.time.mono = s.time.mono ∧
    sampleK t = sampleK s ∧ (∀ p, lane t p = lane s p)) ∧
  (∀ s : State, s.isl.ctl = true → s.isl.halted = false → ∃ t, exec (.commitPoint []) s = .next t ∧ t.time.mono = s.time.mono ∧
    t.mods = s.mods ∧ (∀ p, computes s p = true → (lane t p).latched = (lane s p).dec ∧ (lane t p).ovrRun = 0) ∧
    (∀ p r, (lane s p).next = some r → (lane t p).ref = r ∧ (lane t p).next = none)) ∧
  (∀ (l : List Plane) (s : State), s.isl.ctl = true → s.isl.halted = false →
    ∃ t, exec (.commitPoint l) s = .next t ∧ t.time = s.time ∧ sampleK t = sampleK s ∧
      (∀ p, p ∈ l → (lane t p).latched = none)) ∧
  (∀ (l : List Plane) (s : State), s.isl.ctl = false ∨ s.isl.halted = true → exec (.commitPoint l) s = .next s)

/-- A Teasel read of an empty FIFO stalls the thread and changes nothing else; one of a FIFO with an item takes the oldest; and
the commit point, at which every thread is pre-empted, leaves no thread stalled, whatever the lanes and planes of the command
(R123, R121). -/
def Obligations.StalledReads : Prop :=
  (∀ (p : Plane) (s : State), s.isl.ctl = true → s.isl.halted = false → groupHeld p s = false →
    ((lane s p).fifo = [] → ∃ t, exec (.teaselRead p) s = .next t ∧ lane t p = { lane s p with stalled := true } ∧
      OtherLanes p s t ∧ t.params = s.params ∧ t.prt = s.prt) ∧
    (∀ w l, (lane s p).fifo = w :: l → (lane s p).col01 = [] → (lane s p).colWait = [] →
      ∃ t, exec (.teaselRead p) s = .next t ∧ (lane t p).fifo = l ∧ (lane t p).stalled = (lane s p).stalled)) ∧
  (∀ (l : List Plane) (s : State), s.isl.ctl = true → s.isl.halted = false →
    ∃ t, exec (.commitPoint l) s = .next t ∧ ∀ p, (lane t p).stalled = false)

/-- The end of a whole adaptation window of a plane RUNNING in BAND leaves CTL.x.BAND_SCALE within [0.25, 4.0] and starts the next
window, and outside RUNNING it is without effect (R94); a Safe Region Entry found bad while a plane is READY, RUNNING or TEST
takes it to SAFE with cause 0x05 (R112). The end of a TRIP window, by the outputs that its bits give: a tripped comparator of a
class other than none in a powered plane withdraws the permission of its port set, and one of class SAFE takes its plane, where
READY, RUNNING or TEST, to SAFE with cause 0x01 (R176, R177); with every plane OFF or STOPPED it moves no lane, and without MDCLK
it has no effect. -/
def Obligations.AdaptationTripsAndSafeRegion : Prop :=
  (∀ (p : Plane) (s : State), (lane s p).st = .running → (modr s p).carrier = false → p ≠ .b →
    par s (ctlAdaptN p.code) ≤ (lane s p).win →
    ∃ t, exec (.adaptWindowEnd p) s = .next t ∧ 0x400 ≤ par t (ctlBandScale p.code) ∧ par t (ctlBandScale p.code) ≤ 0x4000 ∧
      lane t p = { lane s p with nsw := 0, win := 0 } ∧ OtherLanes p s t ∧ t.prt = s.prt ∧ t.mods = s.mods ∧ t.time = s.time) ∧
  (∀ (p : Plane) (s : State), (lane s p).st ≠ .running → exec (.adaptWindowEnd p) s = .next s) ∧
  (∀ (p : Plane) (s : State), s.isl.prt = true → activeSt (lane s p).st = true → sreOk s p = false →
    ∃ t, exec .sreCheck s = .next t ∧ (lane t p).st = .safe ∧ par t (protSafeCause p.code) = 0x05) ∧
  (∀ s : State, (∀ p, activeSt (lane s p).st = false) → exec .sreCheck s = .next s) ∧
  (∀ (l e : List Nat) (p : Plane) (f : Nat) (s : State), s.isl.prt = true → s.isl.mdRun = true ∨ s.prt.holdUp = true →
    f < ftCount p → ftNow (writeCuts (tripMeas l e (agePorts s))) p f = true → ftClass s p f ≠ 0 → poweredSt (lane s p).st = true →
    ∃ t, exec (.tripOutput ⟨l, e⟩) s = .next t ∧ t.prt.permit &&& ftPorts s p f = 0 ∧ t.prt.tripped.getLsbD (8 * p.code + f) = true ∧
      (ftClass s p f = 2 → activeSt (lane s p).st = true → (lane t p).st = .safe ∧ par t (protSafeCause p.code) = 0x01)) ∧
  (∀ (l e : List Nat) (s : State), s.isl.prt = true → s.isl.mdRun = true ∨ s.prt.holdUp = true → allStopped s = true →
    ∃ t, exec (.tripOutput ⟨l, e⟩) s = .next t ∧ t.planes = s.planes ∧ t.time = s.time) ∧
  (∀ (l e : List Nat) (s : State), s.isl.mdRun = false → s.prt.holdUp = false → exec (.tripOutput ⟨l, e⟩) s = .next s)

/-- A turning point of a running counter reverses its direction (R134); one that RELOAD takes puts an armed shadow in force,
disarmed (R137, R139), and a feeder step that is due first is carried out (R143); while the plane is OFF or ISL_CTL is halted
neither has an effect (R133, R152). An index edge of the encoder that INDEX selects advances the mask pointer modulo L, but not
while ISL_CTL is halted (R150, R152). -/
def Obligations.CountersFeedersAndMask : Prop :=
  (∀ (p : Plane) (l : List Nat) (s : State), counterRuns p s = true →
    ∃ t, exec (.carrierReload p l .none) s = .next t ∧ (modr t p).up = !(modr s p).up ∧ t.time = s.time ∧
      (∀ q, (lane t q).st = (lane s q).st) ∧
      ((modr s p).armed = true → (modr s p).seedWait = false → reloadTakes s p (!(modr s p).up) = true →
        (modr t p).active = (modr s p).shadow ∧ (modr t p).armed = false)) ∧
  (∀ (p : Plane) (s : State), counterRuns p s = true → firstStep (modr s p) = none → exec (.feedGapStep p) s = .next s) ∧
  (∀ (p : Plane) (f : FeedStep) (s : State), counterRuns p s = true → firstStep (modr s p) = some f →
    ∃ t, exec (.feedGapStep p) s = .next t ∧ (modr t p).steps = (feedStep (par s (modFeedGap p.code)) f (modr s p)).steps ∧
      (modr t p).inUse = (feedStep (par s (modFeedGap p.code)) f (modr s p)).inUse ∧ t.time = s.time ∧
      (∀ q, (lane t q).st = (lane s q).st)) ∧
  (∀ (p : Plane) (l : List Nat) (w : RaceWrite) (s : State), counterRuns p s = false →
    exec (.carrierReload p l w) s = .next s ∧ exec (.feedGapStep p) s = .next s) ∧
  (∀ (n a : Nat) (p : Plane) (s : State), n < 2 → s.isl.ctl = true → s.isl.halted = false → maskSrc s p = 1 →
    parBits s (modMaskCtrl p.code) 6 1 = n →
    ∃ t, exec (.encoderIndex ⟨n, a⟩) s = .next t ∧ par t (modMaskPtr p.code) = (par s (modMaskPtr p.code) + 1) % maskLen s p ∧
      t.time = s.time ∧ (∀ q, (lane t q).st = (lane s q).st)) ∧
  (∀ (n a : Nat) (s : State), s.isl.halted = true → exec (.encoderIndex ⟨n, a⟩) s = .next s)

/-- The reference path (R121 to R125): an item written goes behind those that wait, and the first 16 are in the FIFO; a read of an
empty FIFO stalls the thread, and one of a FIFO with an item takes the oldest of those that wait; the default firmware reads no
further once it holds a group for the sample it prepares. PUBLISH hands the lane the set that user code formed, or the one that
the default firmware prepares from such a group. With ISL_CTL stopped a write has no effect. -/
def Obligations.ReferenceItems : Prop :=
  (∀ (p : Plane) (w : BitVec 64) (s : State), s.isl.ctl = true → (lane s p).fifo.length ≤ 16 →
    ∃ t, exec (.refItemWrite p w) s = .next t ∧ refQueue p t = refQueue p s ++ [w] ∧
      (lane t p).fifo.length = min 16 ((refQueue p s).length + 1) ∧ OtherLanes p s t ∧ t.params = s.params ∧ t.prt = s.prt ∧
      t.mods = s.mods) ∧
  (∀ (p : Plane) (w : BitVec 64) (s : State), s.isl.ctl = false → exec (.refItemWrite p w) s = .next s) ∧
  (∀ (p : Plane) (s : State), s.isl.ctl = true → s.isl.halted = false →
    (groupHeld p s = true → exec (.teaselRead p) s = .next s) ∧
    (groupHeld p s = false → (lane s p).fifo = [] → ∃ t, exec (.teaselRead p) s = .next t ∧
      lane t p = { lane s p with stalled := true } ∧ OtherLanes p s t ∧ t.params = s.params ∧ t.prt = s.prt) ∧
    (groupHeld p s = false → ∀ w l, (lane s p).fifo = w :: l → (lane s p).fifo.length ≤ 16 →
      ∃ t, exec (.teaselRead p) s = .next t ∧ refQueue p t = l ++ (lane s p).col01 ++ (lane s p).colWait ∧
        (lane t p).stalled = (lane s p).stalled ∧ OtherLanes p s t ∧ t.prt = s.prt ∧ (itemOk w = true → t.params = s.params)) ∧
    (∀ r, ∃ t, exec (.publish p (some r)) s = .next t ∧ lane t p = { lane s p with next := some r } ∧ OtherLanes p s t ∧
      t.params = s.params ∧ t.prt = s.prt) ∧
    (groupHeld p s = true → ∀ a, (lane s p).k0 = some a → ∀ b, (lane s p).k1 = some b →
      ∃ t, exec (.publish p none) s = .next t ∧
        lane t p = { lane s p with next := some (prepareSet s (sampleK s + 1) a b) } ∧ OtherLanes p s t ∧ t.params = s.params ∧
        t.prt = s.prt))

/-! ## Clocks and time bases (chapters 09 and 10) -/

/-- PLL_M: in LOCKED, CLK_HOLDOVER enters HOLDOVER, counts CLK.HOLD_CNT and raises its flag (R251); a reference that qualifies is
noted, and in HOLDOVER the primary starts RELOCK, as the qualified alternate does after REF_WAIT (R252). Each frequency window of
ISL_PRT writes the frequency errors and measures the FBO; a TCXO found more than 150 ppm off raises CLK_DISAGREE (R255, R257).
With PLL_M beyond 500 ppm and no disagreement, every plane that is READY, RUNNING or TEST goes to SAFE with cause 0x11 (R257,
R258), as it does when HOLDOVER_MAX passes in HOLDOVER. The move to the FBO, which waits for the steps of an ASC, sets its bit of
CLK.PLLM_STATUS, empties PHASE_PEND and raises CLK_FALLBACK (R258, R259); the return clears the bit once PLL_M is LOCKED within 50
ppm (R260); PLL_P raises CLK_PRT_HOLD on leaving LOCKED, and locks again (R263, R264); one step of the tap selector moves
PHASE_PEND by one towards 0 and PHASE_ACC with it (R261, R262). -/
def Obligations.ReferencesAndFallback : Prop :=
  (∀ s : State, pllm s = 1 → ∃ t, exec .clkHoldover s = .next t ∧ pllm t = 2 ∧ parBit t clkEvents 0 = true ∧
    (par s clkHoldCnt < 65535 → par t clkHoldCnt = par s clkHoldCnt + 1) ∧ t.planes = s.planes ∧ t.prt = s.prt ∧ t.time = s.time) ∧
  (∀ s : State, pllm s = 0 → exec .clkHoldover s = .next s ∧ exec .clkAltUsed s = .next s) ∧
  (∀ s : State, par s clkRefSel ≠ 3 → mayQualify (par s clkRefSel) s = true →
    ∃ t, exec (.refQualified false) s = .next t ∧ parBit t clkPllmStatus 7 = true ∧ (pllm s = 2 → pllm t = 3) ∧
      (pllm s ≠ 2 → pllm t = pllm s) ∧ t.planes = s.planes ∧ t.time = s.time) ∧
  (∀ s : State, par s clkRefAlt ≠ 3 → mayQualify (par s clkRefAlt) s = true →
    ∃ t, exec (.refQualified true) s = .next t ∧ parBit t clkPllmStatus 8 = true ∧ pllm t = pllm s ∧ t.planes = s.planes ∧
      t.time = s.time) ∧
  (∀ s : State, pllm s = 2 → par s clkRefAlt ≠ 3 → parBit s clkPllmStatus 8 = true →
    ∃ t, exec .clkAltUsed s = .next t ∧ pllm t = 3 ∧ parBits t clkPllmStatus 3 2 = par s clkRefAlt % 4 ∧
      parBit t clkEvents 1 = true ∧ t.planes = s.planes ∧ t.time = s.time) ∧
  (∀ (w : FreqWin) (s : State), s.isl.prt = true → ∃ t, exec (.freqWindow w) s = .next t ∧ par t clkPllmFerr = ferrWord w.pllm ∧
    par t clkXrefFerr = ferrWord w.xref ∧ (∀ y, w.yclk = some y → par t clkYclkFerr = ferrWord y) ∧ t.time.fboInc = w.fbo ∧
    (extSelected s = false → 1500 < absI w.xref → parBit t clkEvents 5 = true ∧ t.clk.disagree = true) ∧
    (absI w.pllm ≤ 5000 → t.planes = s.planes ∧ t.prt = s.prt)) ∧
  (∀ (p : Plane) (s : State), s.isl.prt = true → activeSt (lane s p).st = true → onFbo s = false → s.clk.fbReq = false →
    (pllm s = 2 → ∃ t, exec .holdoverMax s = .next t ∧ (lane t p).st = .safe ∧ par t (protSafeCause p.code) = 0x11 ∧
      t.clk.fbReq = true) ∧
    (∀ w : FreqWin, 5000 < absI w.pllm → absI w.xref ≤ 1500 → ∃ t, exec (.freqWindow w) s = .next t ∧ (lane t p).st = .safe ∧
      par t (protSafeCause p.code) = 0x11 ∧ t.clk.fbReq = true)) ∧
  (∀ s : State, s.clk.fbReq = true →
    (s.prt.ascStep = 0 → ∃ t, exec .clkFallback s = .next t ∧ onFbo t = true ∧ par t clkPhasePend = 0 ∧
      parBit t clkEvents 2 = true ∧ t.clk.fbReq = false ∧ t.planes = s.planes ∧ t.prt = s.prt) ∧
    (s.prt.ascStep ≠ 0 → exec .clkFallback s = .next s)) ∧
  (∀ s : State, onFbo s = true → pllm s = 1 → absI (signedOf 16 (par s clkPllmFerr)) ≤ 500 →
    ∃ t, exec .clkReturn s = .next t ∧ onFbo t = false ∧ parBit t clkEvents 3 = true ∧ t.planes = s.planes ∧ t.prt = s.prt) ∧
  (∀ s : State, par s clkPllpStatus = 1 → ∃ t, exec .clkPrtHold s = .next t ∧ par t clkPllpStatus = 2 ∧ parBit t clkEvents 6 = true ∧
    t.planes = s.planes ∧ t.prt = s.prt) ∧
  (∀ s : State, s.isl.power = true → ∃ t, exec .pllPLocked s = .next t ∧ par t clkPllpStatus = 1 ∧
    (s.isl.inReset = true → t.isl.inReset = false ∧ t.isl.prt = true ∧ t.isl.aon = true) ∧ t.planes = s.planes ∧ t.prt = s.prt ∧
    t.time = s.time) ∧
  (∀ s : State, pllm s ≠ 0 → onFbo s = false → phasePend s ≠ 0 → ∃ t, exec .phaseStepApply s = .next t ∧
    par t clkPhasePend = toBits 9 (phasePend s - (if 0 < phasePend s then 1 else -1)) ∧
    par t clkPhaseAcc = toBits 32 (signedOf 32 (par s clkPhaseAcc) + (if 0 < phasePend s then 1 else -1)) ∧
    t.planes = s.planes ∧ t.prt = s.prt ∧ t.time = s.time)

/-- A Sync of the chosen master whose offset is at most STEP_LIMIT is slewed, one beyond it with T_NET behind steps T_NET forward
and raises its flag, and one beyond it with T_NET ahead makes the time suspect without a step (R276); STEP_BACK then steps it back
by the offset and clears the mark (R277). This is stated for the servo LOCKED, the master unchanged, no asymmetry, and a message
of the domain and the transport in force. A path delay of the mechanism in force within PD_STEP of the accepted one takes its
place, and one beyond it puts the servo in PD_HOLD; 60 s of PD_HOLD, or missing Syncs in ACQUIRE or LOCKED, put it in HOLDOVER
(R274, R279). After a realignment no replica reads less than before, one found behind reads its master or what it read before once
256 cycles of its clock have passed, and one found ahead stands at what was found (R268). A forwarded Sync carries its residence
time, and the Follow_Up of a two-step Sync that of its Sync (R272). -/
def Obligations.SyncsAndPathDelays : Prop :=
  (∀ (m : PtpSync) (s : State), m.port < 2 → s.isl.sys = true → s.isl.restart = false → parBit s netPtpEn m.port = true →
    m.domain = par s netPtpDomain → m.ieee = decide (par s netPtpTransport = 1) →
    s.time.master = some m.master → s.time.servo = 2 → s.time.cand = [] → par s (netEthAsym m.port) = 0 →
    (absI m.offset ≤ par s timeStepLimit → ∃ t, exec (.ptpSync m) s = .next t ∧ t.time.net = s.time.net ∧ t.time.suspect = false ∧
      t.time.servo = 2 ∧ t.time.offset = m.offset ∧ t.planes = s.planes ∧ t.prt = s.prt) ∧
    ((par s timeStepLimit : Int) < -m.offset → ∃ t, exec (.ptpSync m) s = .next t ∧ t.time.net = s.time.net - m.offset ∧
      parBit t timeEvents 0 = true ∧ t.time.suspect = false ∧ t.time.mono = s.time.mono) ∧
    ((par s timeStepLimit : Int) < m.offset → ∃ t, exec (.ptpSync m) s = .next t ∧ t.time.net = s.time.net ∧
      t.time.suspect = true ∧ (s.time.suspect = false → parBit t timeEvents 1 = true) ∧ t.planes = s.planes ∧ t.prt = s.prt) ∧
    (∀ e : Env, Fresh 0x0050 1 e s → 0 < s.time.offset → ∃ t, exec (.stepBack e) s = .next t ∧
      Answered 1 0x0050 e stOk e.handle [] t ∧ t.time.net = s.time.net - s.time.offset ∧ t.time.suspect = false ∧
      t.time.offset = 0 ∧ parBit t timeEvents 2 = true ∧ t.planes = s.planes)) ∧
  (∀ (n : Nat) (b : Bool) (d old : Int) (s : State), n < 2 → s.isl.sys = true → s.isl.restart = false → parBit s netPtpEn n = true →
    b = decide (par s netPtpDelay = 1) → s.time.pd.length = 2 → s.time.pd.getD n none = some old → pdHolding s = false →
    (absI (d - old) ≤ par s netPdStep → ∃ t, exec (.pathDelayMeasure n ⟨b, d⟩) s = .next t ∧ t.time.pd.getD n none = some d ∧
      par t (netEthPd n) = toBits 32 d ∧ t.time.servo = s.time.servo ∧ t.planes = s.planes) ∧
    ((par s netPdStep : Int) < absI (d - old) → ∃ t, exec (.pathDelayMeasure n ⟨b, d⟩) s = .next t ∧ t.time.servo = 4 ∧
      t.time.pd = s.time.pd ∧ parBit t timeEvents 3 = true ∧ t.planes = s.planes)) ∧
  (∀ s : State, (s.time.servo = 4 → ∃ t, exec .pdHoldTimeout s = .next t ∧ t.time.servo = 3 ∧ t.time.net = s.time.net ∧
      t.params = s.params ∧ t.planes = s.planes) ∧
    (s.time.servo ≠ 4 → exec .pdHoldTimeout s = .next s) ∧
    (s.isl.sys = true → s.isl.restart = false → ∃ t, exec .ptpHoldover s = .next t ∧ t.time.alone = true ∧
      t.time.servo = (if s.time.servo = 1 ∨ s.time.servo = 2 then 3 else s.time.servo) ∧ t.time.net = s.time.net ∧
      t.planes = s.planes)) ∧
  (∀ (l : List Rat) (s : State), ∃ t, exec (.replicaRealign l) s = .next t ∧
    (∀ i, i < 9 → repAt t i 0 = max (repAt s i 0) (masterAt s i 0 + l.getD i 0)) ∧
    (∀ i c, i < 9 → l.getD i 0 ≤ 0 → repSpan i ≤ c * pllNs s → repAt t i c = max (repAt s i 0) (masterAt s i c)) ∧
    t.time.mono = s.time.mono ∧ t.time.net = s.time.net ∧ t.params = s.params ∧ t.planes = s.planes) ∧
  (∀ (n : Nat) (r : Int) (s : State), n < 2 → forwards s = true → par s netPtpTc ≠ 0 → par s netPtpDelay ≠ 1 →
    (∃ t, exec (.ptpForward n .syncOne r) s = .next t ∧ t.wire = s.wire ++ [.ptp (1 - n) 0 r] ∧ t.time = s.time ∧
      t.params = s.params ∧ t.planes = s.planes) ∧
    (∀ (k : Nat) (x : Int), ∃ t u, exec (.ptpForward n (.syncTwo k) r) s = .next t ∧ t.wire = s.wire ++ [.ptp (1 - n) 1 0] ∧
      exec (.ptpForward n (.followUp k) x) t = .next u ∧ u.wire = t.wire ++ [.ptp (1 - n) 2 r] ∧ u.planes = s.planes))

/-! ## Ethernet and the Yarrow bus (chapters 10 to 12) -/

/-- For every source address, entry address and prefix length up to 32: the source matches the entry exactly when the entry is not
empty and the first LEN bits of the two addresses are equal, so that one entry admits every member of a subnet (R333). -/
def Obligations.SourcesMatchByPrefix : Prop :=
  ∀ ip addr len : Nat, ip < 2 ^ 32 → addr < 2 ^ 32 → len ≤ 32 →
    (srcMatches ip addr len = true ↔ addr ≠ 0 ∧ ∀ i, i < 32 → 32 - len ≤ i → ip.testBit i = addr.testBit i)

/-- A link coming up takes its speed; a link going down empties every queue of its port (R290); a frame for another address is
queued at the other port by its priority code point while both links are up (R272, R286); FRAME_SEND queues a frame on an enabled
queue and answers OK, or WRONG_STATE where the queue is disabled (R287, R290). At a frame boundary a port with its link down sends
nothing; with its link up a host's frame without a handle and a launch time at the head of queue 7 is sent and removed (R286,
R288). -/
def Obligations.EthernetPorts : Prop :=
  (∀ (n : Nat) (g : Bool) (s : State), n < 2 → ∃ t, exec (.linkUp n g) s = .next t ∧ (ethOf t n).up = true ∧ (ethOf t n).gig = g ∧
    (ethOf t n).queues = (ethOf s n).queues ∧ ethOf t (1 - n) = ethOf s (1 - n) ∧ t.params = s.params ∧ t.planes = s.planes) ∧
  (∀ (n : Nat) (s : State), n < 2 → ∃ t, exec (.linkDown n) s = .next t ∧ (ethOf t n).up = false ∧
    (∀ q, q < 8 → (ethOf t n).queues.getD q [] = []) ∧ ethOf t (1 - n) = ethOf s (1 - n) ∧ t.planes = s.planes ∧ t.time = s.time) ∧
  (∀ (n : Nat) (c : Option Nat) (b : List Byte) (s : State), n < 2 → forwards s = true → (ethOf s (1 - n)).queues.length = 8 →
    ∃ t, exec (.frameForward n c b) s = .next t ∧
      (ethOf t (1 - n)).queues.getD (c.getD 0 % 8) [] = (ethOf s (1 - n)).queues.getD (c.getD 0 % 8) [] ++ [{ bytes := b }] ∧
      t.params = s.params ∧ t.planes = s.planes) ∧
  (∀ (e : Env) (p : FramePay) (s : State), Fresh 0x0230 1 e s → 60 ≤ p.bytes.length → p.bytes.length ≤ 1416 → p.resv = 0 →
    p.port < 2 → p.base < 3 → p.queue < 8 → p.hp = false → (ethOf s p.port).queues.length = 8 →
    (parBit s (netEthQEn p.port) p.queue = true → ∃ t, exec (.frameSend e p) s = .next t ∧
      Answered 3 0x0230 e stOk e.handle [] t ∧ (ethOf t p.port).queues.getD p.queue [] =
        (ethOf s p.port).queues.getD p.queue [] ++ [{ launch := p.launch, base := p.base, bytes := p.bytes }] ∧
      t.planes = s.planes) ∧
    (parBit s (netEthQEn p.port) p.queue = false → ∃ t, exec (.frameSend e p) s = .next t ∧
      Answered 3 0x0230 e stWrongState e.handle [] t ∧ ethOf t p.port = ethOf s p.port ∧ t.planes = s.planes)) ∧
  (∀ (n dt : Nat) (s : State), n < 2 → (ethOf s n).up = false → exec (.launch n dt) s = .next s) ∧
  (∀ (n dt : Nat) (f : Frame) (l : List Frame) (s : State), n < 2 → (ethOf s n).up = true → (ethOf s n).queues.length = 8 →
    (ethOf s n).queues.getD 7 [] = f :: l → f.base = 0 → f.handle = none → f.ptp = none →
    ∃ t, exec (.launch n dt) s = .next t ∧ t.wire = s.wire ++ [.eth n f.bytes] ∧ (ethOf t n).queues.getD 7 [] = l ∧
      ethOf t (1 - n) = ethOf s (1 - n) ∧ t.params = s.params ∧ t.planes = s.planes)

/-- A module on the bus that sees no YPRS becomes head at position 0 and raises HEAD_CHANGE, and is head no more when YPRS returns
(R309); YCLK lost makes T_BUS invalid and it counts on, and its return after an absence sends the request pulse (R282, R309); the
relays open with the module's presence only while it is powered, out of reset and before SUPPLY_LOSS with the islands of its
interface running, and close else (R55, R66). A change where the module is already so is without effect. A survey starts on the
bus and, when it ends with at most 16 modules and L at most 2,000 ns, leaves L in YBUS.LAT, this module's delay in YBUS.DELAY,
SURVEY_DONE raised and T_BUS of a member at the mark's value plus its own delay; without a survey running, or off the bus, its end
is without effect (R310, R311). -/
def Obligations.HeadPresenceAndSurveys : Prop :=
  (∀ s : State, onYbus s = true → isHead s = false → ∃ t, exec .yarrowHead s = .next t ∧ isHead t = true ∧ yPos t = 0 ∧
    parBit t ybusEvents 0 = true ∧ t.planes = s.planes ∧ t.time = s.time) ∧
  (∀ s : State, isHead s = true → exec .yarrowHead s = .next s ∧ exec .yclkLost s = .next s) ∧
  (∀ s : State, onYbus s = true → isHead s = true → ∃ t, exec .headChange s = .next t ∧ isHead t = false ∧
    parBit t ybusEvents 0 = true ∧ t.planes = s.planes ∧ t.time = s.time) ∧
  (∀ s : State, isHead s = false → ∃ t, exec .yclkLost s = .next t ∧ t.time = { s.time with busOk := false } ∧
    t.ybus = { s.ybus with absent := true } ∧ parBit t ybusStatus 13 = false ∧ t.planes = s.planes) ∧
  (∀ s : State, s.ybus.absent = true → onYbus s = true → ∃ t, exec .yclkRequestPulse s = .next t ∧
    t.wire = s.wire ++ [.yarrow 1 1000] ∧ t.ybus = { s.ybus with absent := false } ∧ parBit t ybusStatus 13 = true ∧
    t.planes = s.planes ∧ t.time = s.time) ∧
  (∀ (b : Bool) (s : State), ∃ t, exec (.presenceChange b) s = .next t ∧
    t.isl = { s.isl with yOpen := b && alive s && s.isl.prt && s.isl.acq && !s.prt.supplyLoss } ∧
    t.params = s.params ∧ t.planes = s.planes ∧ t.prt = s.prt) ∧
  (∀ s : State, onYbus s = true → ∃ t, exec .surveyStart s = .next t ∧ parBit t ybusStatus 6 = true ∧ t.planes = s.planes ∧
    t.time = s.time ∧ t.ybus = s.ybus) ∧
  (∀ (v : Survey) (s : State), parBit s ybusStatus 6 = true → onYbus s = true → isHead s = false → v.pos < v.delays.length →
    v.delays.length ≤ 16 → latOf v.delays ≤ 2000 → (∀ d ∈ v.delays, d < 65536) →
    ∃ t, exec (.surveyDone v) s = .next t ∧ par t ybusLat = latOf v.delays ∧ par t ybusDelay = v.delays.getD v.pos 0 ∧
      t.ybus.d = v.delays ∧ parBit t ybusStatus 6 = false ∧ parBit t ybusStatus 5 = true ∧ parBit t ybusEvents 1 = true ∧
      t.time.bus = v.bus + (v.delays.getD v.pos 0 : Rat) / 100 ∧ t.time.busOk = true ∧ t.planes = s.planes) ∧
  (∀ (v : Survey) (s : State), parBit s ybusStatus 6 = false → exec (.surveyDone v) s = .next s)

/-- An alignment mark is stamped with the replica of T_NET and with T_BUS at its compensated instant; with no descriptor of
another member nothing else changes, and with one whose stamp of this mark differs by more than 250 ns TIME_XCHK is raised (R281).
A carrier mark reaches every modulator (R153); a group trigger of a known origin waits for its application instant t_r less the
difference of the delays plus L (R312), and a pulse of 1,000 ns is a request for a survey (R309). Off the bus neither marks nor
pulses have an effect. -/
def Obligations.MarksAndTriggersOnTheBus : Prop :=
  (∀ (m : Int) (f a : Rat) (s : State), a = m + f → onYbus s = true → ∃ t, exec (.alignmentMark m f) s = .next t ∧
    t.time.stamp = (repAt s 3 (markCycles a s)).floor.toNat ∧ t.time.stampBus = busCount (masterAt s 5 (markCycles a s)) ∧
    t.planes = s.planes ∧ t.prt = s.prt ∧ (s.red.descs = [] → t.params = s.params ∧ t.wire = s.wire) ∧
    (∀ d, s.red.descs = [d] → d.pos ≠ yPos s → absI ((d.mark : Int) - t.time.stampBus) < 5000000 →
      250 < stampDiff t.time.stamp d.stamp → parBit t timeEvents 5 = true ∧
        par t timeXchkErr = min (2 ^ 32 - 1) (stampDiff t.time.stamp d.stamp))) ∧
  (∀ (x : Int) (s : State), s.isl.ctl = true → timeBad s = false →
    ∃ t, exec (.carrierMark x) s = .next t ∧ (∀ p, (modr t p).mark = some x) ∧ t.planes = s.planes ∧ t.prt = s.prt ∧
      (s.red.act = none → t.params = s.params)) ∧
  (∀ (tr : Rat) (o : Nat) (s : State), onYbus s = true → parBit s ybusStatus 6 = false → parBit s ybusStatus 5 = true → o < 16 →
    o < s.ybus.d.length → ∃ t, exec (.groupTrigger tr (50 * (o + 1))) s = .next t ∧ t.ybus.apply = s.ybus.apply ++
      [(tr - absR ((par s ybusDelay : Rat) - (s.ybus.d.getD o 0 : Nat)) / 100 + yLat s, 0)] ∧ t.params = s.params ∧
      t.planes = s.planes ∧ t.time = s.time) ∧
  (∀ (tr : Rat) (s : State), onYbus s = true → ∃ t, exec (.groupTrigger tr 1000) s = .next t ∧ parBit t ybusEvents 3 = true ∧
    t.ybus = { s.ybus with edge := some tr } ∧ t.planes = s.planes) ∧
  (∀ (m : Int) (a : Rat) (n : Nat) (s : State), onYbus s = false →
    exec (.alignmentMark m a) s = .next s ∧ exec (.groupTrigger a n) s = .next s)

/-! ## Firmware and settings (chapters 14 and 15) -/

/-- SELF_TEST with every plane OFF or STOPPED is accepted, with a plane powered it answers WRONG_STATE (R424); its end writes the
masks of SYS.SELFTEST and completes it; SAVE_SETTINGS is accepted and its copy invalid until it is written, and the end of the
write leaves the record there and completes it (R401). FW_UPDATE whose checks pass is accepted and empties the slot it is to write
(R394, R396); FW_DATA of a fragment that leaves its block incomplete is kept, and without an update answers NO_HANDLE; FW_ACTIVATE
in RESET mode is accepted and begins a reset (R404). -/
def Obligations.SelfTestsSettingsAndUpdates : Prop :=
  (∀ (e : Env) (m : Nat) (s : State), Fresh 0x0120 1 e s → Room s → 1 ≤ m → m < 256 →
    (allStopped s = true → s.isl.selfTest = none → ∃ t, exec (.selfTest e m) s = .next t ∧ Accepted 2 0x0120 e s t ∧
      t.isl.selfTest = some (nextHandle s, m) ∧ t.planes = s.planes ∧ t.params = (acceptSeq e s).params) ∧
    (allStopped s = false → ∃ t, exec (.selfTest e m) s = .next t ∧ Answered 2 0x0120 e stWrongState e.handle [] t ∧
      t.isl = s.isl ∧ t.planes = s.planes)) ∧
  (∀ (x h m : Nat) (s : State), s.isl.selfTest = some (h, m) → m < 256 → tansyUp s = true →
    ∃ t, exec (.selfTestComplete x) s = .next t ∧ t.isl.selfTest = none ∧ findOp t h = none ∧
      par t sysSelftest = (m - Nat.land (failMask x s) m) + 65536 * Nat.land (failMask x s) m ∧ t.planes = s.planes) ∧
  (∀ (e : Env) (s : State), Fresh 0x0122 1 e s → Room s → s.fw.hitless = none → s.fw.saving = none →
    ∃ t n r, exec (.saveSettings e) s = .next t ∧ Accepted 2 0x0122 e s t ∧ t.fw.saving = some (nextHandle s, n, r) ∧
      r.staged = runTrial s ∧ t.planes = s.planes ∧ t.params = (acceptSeq e s).params) ∧
  (∀ (h n : Nat) (r : Rec) (s : State), s.fw.saving = some (h, n, r) → tansyUp s = true →
    ∃ t, exec .settingsSaved s = .next t ∧ t.fw.saving = none ∧ copyOf t n = some r ∧ findOp t h = none ∧ t.planes = s.planes) ∧
  (∀ s : State, s.fw.saving = none → exec .settingsSaved s = .next s) ∧
  (∀ (e : Env) (len kind : Nat) (b : List Byte) (s : State), Fresh 0x0130 1 e s → Room s → b.length = 64 →
    updateStatus len kind 0 b (acceptSeq e s) = stOk →
    ∃ t, exec (.fwUpdate e len kind 0 b) s = .next t ∧ Accepted 2 0x0130 e s t ∧
      t.fw.upd = some { handle := nextHandle s, len := len, kind := kind } ∧
      (kind < 2 → slotOf t (otherSlot s) = {}) ∧ t.planes = s.planes ∧ t.params = (acceptSeq e s).params) ∧
  (∀ (e : Env) (p : DataPay) (s : State), Fresh 0x0220 1 e s → dataLen p.data = true →
    (∀ u f fs, s.fw.upd = some u → u.handle = e.handle → p.pre.b6 = 0 → p.pre.grp = 0 → p.pre.unit < blockCount u →
      u.next ≤ p.pre.unit → (∀ x ∈ u.ahead, x.1 ≠ p.pre.unit) → p.pre.offset + p.data.length ≤ blockLen u p.pre.unit →
      addFrag p.pre.unit 0 0 p.pre.offset p.data u.frags = some (f, fs) → fragWhole (blockLen u p.pre.unit) f = none →
      ∃ t, exec (.fwData e p) s = .next t ∧ Answered 3 0x0220 e stOk e.handle [] t ∧ t.fw.upd = some { u with frags := fs } ∧
        t.fw.slotA = s.fw.slotA ∧ t.fw.slotB = s.fw.slotB ∧ t.planes = s.planes) ∧
    (s.fw.upd = none → ∃ t, exec (.fwData e p) s = .next t ∧ Answered 3 0x0220 e stNoHandle e.handle [] t ∧ t.fw = s.fw)) ∧
  (∀ (e : Env) (k : Nat) (s : State), Fresh 0x0131 1 e s → Room s → groupActivates s = false → s.prt.resetting = none →
    activateStatus false k (acceptSeq e s) = stOk →
    ∃ t, exec (.fwActivate e 0 k) s = .next t ∧ Answered 2 0x0131 e stAccepted (nextHandle s) [] t ∧ t.prt.resetting = some 2 ∧
      findOp t (nextHandle s) = none)

/-- A hitless activation (R405 to R408): FW_ACTIVATE_HITLESS whose checks pass is accepted and begins to load; when loading ends,
with the image whole, values that pass their checks and k_h left to the module, it waits for the boundary fixed, and a migration
that fails ends it with the old image in force; after it the images change over and the slot is TRIAL; and once the new Campion
has written its first group Tansy restarts. The end of Tansy's restart: the new slot's image runs, the activation completes, and
its flag is raised (R408); a restart that outlasts FW.RESTART_MAX counts ISL_SYS as stopped (R408). ATTEST answers the signed
statement for the nonce and changes nothing (R412); DEBUG_UNLOCK with a valid token and every plane OFF or STOPPED enters
DEBUG_UNLOCKED, and a token that fails raises its flag (R393). -/
def Obligations.HitlessActivationAndUnlock : Prop :=
  (∀ (e : Env) (k : Nat) (s : State), Fresh 0x0131 1 e s → Room s → groupActivates s = false →
    activateStatus true k (acceptSeq e s) = stOk →
    ∃ t, exec (.fwActivateHitless e 0 k) s = .next t ∧ Accepted 2 0x0131 e s t ∧
      t.fw.hitless = some { handle := nextHandle s, ask := k } ∧ t.planes = s.planes ∧ t.isl = s.isl) ∧
  (∀ (h : Hitless) (l : List (Nat × Word)) (x : List (Nat × List Byte)) (s : State), s.fw.hitless = some h → h.stage = 1 →
    h.ask = 0 → compsOk (slotOf s (otherSlot s)) = true → convertFails l s = none →
    ∃ t g, exec (.hitlessReady (.words l x)) s = .next t ∧ t.fw.hitless = some g ∧ g.stage = 3 ∧ g.handle = h.handle ∧
      g.kh = boundaryAfter 5000000 s ∧ t.planes = s.planes ∧ t.params = s.params) ∧
  (∀ (h : Hitless) (i w : Nat) (s : State), s.fw.hitless = some h → h.stage = 1 → tansyUp s = true →
    ∃ t, exec (.hitlessReady (.fails i w)) s = .next t ∧ t.fw.hitless = none ∧ findOp t h.handle = none ∧ t.fw.run = s.fw.run ∧
      t.planes = s.planes ∧ t.isl = s.isl) ∧
  (∀ (h : Hitless) (s : State), s.fw.hitless = some h → h.stage = 3 → 0 ≤ markDiff (sampleK s) h.kh →
    ∃ t g, exec (.hitlessSwap .first) s = .next t ∧ t.fw.hitless = some g ∧ g.stage = 4 ∧ g.skip = 0 ∧
      (slotOf t (otherSlot s)).st = 2 ∧ (slotOf t (otherSlot s)).tries = 1 ∧ t.planes = s.planes ∧ t.params = s.params) ∧
  (∀ (h : Hitless) (s : State), s.fw.hitless = some h → h.stage = 4 → h.wrote = true → h.back = false →
    ∃ t, exec .tansyRestart s = .next t ∧ t.isl.restart = true ∧ t.fw.hitless = some { h with stage := 5 } ∧
      t.planes = s.planes ∧ t.prt = s.prt) ∧
  (∀ s : State, s.fw.hitless = none → exec (.hitlessReady (.words [] [])) s = .next s ∧ exec (.hitlessSwap .first) s = .next s ∧
    exec .tansyRestart s = .next s ∧ exec .tansyRestartDone s = .next s) ∧
  (∀ (h : Hitless) (s : State), s.fw.hitless = some h → h.stage = 5 → s.isl.restart = true → s.isl.sys = true →
    h.back = false → ∃ t, exec .tansyRestartDone s = .next t ∧ t.isl.restart = false ∧ t.fw.hitless = none ∧
      t.fw.run = some (otherSlot s) ∧ parBit t fwEvents 3 = true ∧ findOp t h.handle = none ∧
      (h.staged = none → (∀ p, (lane s p).queued = []) → t.planes = s.planes)) ∧
  (∀ s : State, s.isl.restart = true → s.isl.sys = true → ∃ t, exec .restartMax s = .next t ∧ t.isl.sys = false ∧
    t.isl.restart = false ∧ t.host.irq = s.host.irq ||| 8 ∧ t.planes = s.planes) ∧
  (∀ s : State, s.isl.restart = false → exec .restartMax s = .next s) ∧
  (∀ (e : Env) (b : List Byte) (s : State), Fresh 0x0132 1 e s → b.length = 32 → ∃ t, exec (.attest e b) s = .next t ∧
    Answered 2 0x0132 e stOk e.handle (statement b (acceptSeq e s) ++ Config.ed25519Sign (statement b (acceptSeq e s))) t ∧
    t.fw = s.fw ∧ t.planes = s.planes ∧ t.params = (acceptSeq e s).params) ∧
  (∀ (e : Env) (b : List Byte) (s : State), Fresh 0x0133 1 e s → b.length = 104 → fieldAt b 3 1 = 0 → fieldAt b 36 4 = 0 →
    allStopped s = true →
    (tokenOk b s = true → ∃ t, exec (.debugUnlock e b) s = .next t ∧ Answered 2 0x0133 e stOk e.handle [] t ∧ t.fw.life = 2 ∧
      t.fw.nonce = Config.freeBytes s.free ∧ t.planes = s.planes) ∧
    (tokenOk b s = false → ∃ t, exec (.debugUnlock e b) s = .next t ∧ Answered 2 0x0133 e stAuthFail e.handle [] t ∧
      t.fw.life = s.fw.life ∧ parBit t fwEvents 4 = true ∧ t.planes = s.planes))

/-! ## Frames -/

/-- The frame of the service rows: whatever their operands, from every state, a next state of one of these rows differs from the
state before it in parameters (their flags, counters and results), the host side, what leaves at the ports, the cols towards an
island that is stopped, and in the parts its group names: the transaction and the Region Gain Table, ISL_ACQ, the firmware and
settings stores with the counter of free values, the pair and the group, the islands with the reset pin, the Ethernet ports, the
time bases and the bus, or a replay. Every lane, modulator, gate register, pin and filter, and everything else, is as it was. -/
def Obligations.FrameOfServiceRows : Prop :=
  ∀ (c : Instr) (s t : State), exec c s = .next t →
    match c with
    | .attest .. | .dcPrecharge .. | .dcDischarge .. | .handleQuery .. | .rgtRead .. | .brkDelay | .preFail | .disTime |
    .eventsLost | .packetRead .. | .windowRead .. | .clkHoldover | .clkAltUsed | .clkReturn | .clkPrtHold | .yarrowHead |
    .headChange | .gatePwrHigh .. | .refQualified .. | .surveyStart =>
      t = { s with params := t.params, host := t.host, wire := t.wire, cols := t.cols }
    | .gfmSync .. =>
      t = { s with params := t.params, host := t.host, wire := t.wire, cols := t.cols, gfm := t.gfm }
    | .txnOpen .. | .txnPrepare .. | .txnCommit .. | .prepared | .txnAbort .. | .txnTimeout =>
      t = { s with params := t.params, host := t.host, wire := t.wire, cols := t.cols, txn := t.txn, rgt := t.rgt }
    | .acqRelease .. | .acqRead .. | .acqArchive .. | .replayLoad .. | .replayData .. | .recordClose | .archiveComplete |
    .bulkData .. | .slowStreamEntry =>
      t = { s with params := t.params, host := t.host, wire := t.wire, cols := t.cols, acq := t.acq }
    | .fwUpdate .. | .fwActivateHitless .. | .fwData .. | .settingsSaved | .saveSettings .. | .debugUnlock .. |
    .hitlessSwap .. | .confirmTime | .powerFailRecord =>
      t = { s with params := t.params, host := t.host, wire := t.wire, cols := t.cols, fw := t.fw, free := t.free }
    | .groupAction .. | .groupDecide | .heartbeatReceive .. | .roleWindow | .takeFail .. |
    .grpMemberLost .. | .descriptorSend | .heartbeatSend .. | .pathDown .. | .fail | .snapFragment .. =>
      t = { s with params := t.params, host := t.host, wire := t.wire, cols := t.cols, red := t.red }
    | .descriptorReceive .. =>
      t = { s with params := t.params, host := t.host, wire := t.wire, cols := t.cols, red := t.red, time := t.time }
    | .groupConfirm =>
      t = { s with params := t.params, host := t.host, wire := t.wire, cols := t.cols, red := t.red, fw := t.fw }
    | .pllPLocked =>
      t = { s with params := t.params, pins := t.pins, isl := t.isl, red := t.red }
    | .selfTest .. | .selfTestComplete .. | .tansyExtRunning | .presenceChange .. | .debugHalt | .jtagInstruction .. =>
      t = { s with params := t.params, host := t.host, wire := t.wire, cols := t.cols, isl := t.isl }
    | .frameSend .. | .launch .. | .linkUp .. | .linkDown .. | .frameForward .. =>
      t = { s with params := t.params, host := t.host, wire := t.wire, cols := t.cols, eth0 := t.eth0, eth1 := t.eth1 }
    | .pathDelayMeasure .. | .pdHoldTimeout | .ptpHoldover | .ptpForward .. | .replicaRealign .. | .alignmentMark .. |
    .yclkLost | .groupTrigger .. | .yclkRequestPulse =>
      t = { s with params := t.params, host := t.host, wire := t.wire, cols := t.cols, time := t.time, ybus := t.ybus }
    | .replayStart .. | .replayStop .. | .replayEnd .. =>
      t = { s with params := t.params, host := t.host, wire := t.wire, cols := t.cols, replay := t.replay, acq := t.acq }
    | _ => True

/-- The frame of the plant rows: whatever their operands, from every state, a next state of an URGENT command, a protection event,
a plane command, a pin, a measurement or a clock event differs from the state before it in lanes, modulators, gate registers,
parameters, the host side, what leaves at the ports and the cols towards an island that is stopped, and in the parts its group
names: the pins, a replay and the record that a start may trigger, the measurement filters with the counter of free values, the
clocks, the encoder in use, the islands, or the group action that waits for a mark. Transactions, tables, firmware, stores, pairs,
groups and the other parts are as they were. And no command of the table, these or others, changes the queue of the commands that
wait (log entry 1). -/
def Obligations.FrameOfPlantRows : Prop :=
  ∀ (c : Instr) (s t : State), exec c s = .next t → t.pending = s.pending ∧
    match c with
    | .brkAuxChange .. | .mcAuxChange .. =>
      t = { s with pins := t.pins }
    | .stop .. | .pulseBlock .. | .asc .. | .tripGroup .. | .uvloDeclare .. | .uvloRelease .. | .shortDesat .. |
    .shortHard .. | .shortStagger | .deferredTurnOff .. | .keepAliveLoss .. | .gateBudget .. | .tBaseUpdate .. |
    .mpSupply .. | .boundaryCount .. | .cutArrival .. | .cutAck .. | .sreCheck | .ascStep | .forcedAscEnd | .brkMismatch ..
    | .mcRelayDrop | .feedGapStep .. | .encoderIndex .. | .stopLimit .. | .publish .. | .refItemWrite .. | .teaselRead .. |
    .adaptWindowEnd .. | .testSequenceEnd .. | .supplyLow .. | .phaseStepApply | .windowWrite .. | .getParam .. =>
      t = { s with params := t.params, planes := t.planes, mods := t.mods, prt := t.prt, host := t.host, wire := t.wire, cols := t.cols }
    | .haltNFall | .haltNRise | .stoLow .. | .stoHigh =>
      t = { s with pins := t.pins, params := t.params, planes := t.planes, mods := t.mods, prt := t.prt, host := t.host,
                   wire := t.wire, cols := t.cols }
    | .planeEnable .. | .planeDisable .. | .planeArm .. | .planeArmReady .. | .planeArmTimeout .. | .planeStart .. |
    .planeStop .. | .planeDisarm .. | .clearSafe .. | .testEnter .. | .testExit .. | .supervisorReset =>
      t = { s with params := t.params, planes := t.planes, mods := t.mods, prt := t.prt, host := t.host,
                   wire := t.wire, cols := t.cols, replay := t.replay, acq := t.acq, meas := t.meas }
    | .stuck .. | .clkFault .. | .manchesterLockLost .. | .manchErr .. | .frozen .. | .streamValid .. | .skewAuto .. |
    .carrierReload .. | .tripOutput .. | .meterOutput .. =>
      t = { s with params := t.params, planes := t.planes, mods := t.mods, prt := t.prt, host := t.host,
                   wire := t.wire, cols := t.cols, meas := t.meas, meter := t.meter, free := t.free }
    | .carrierMark .. =>
      t = { s with params := t.params, mods := t.mods, host := t.host, wire := t.wire, cols := t.cols, red := t.red }
    | .encLost .. =>
      t = { s with params := t.params, planes := t.planes, mods := t.mods, prt := t.prt, host := t.host, wire := t.wire,
                   cols := t.cols, msd := t.msd }
    | .debugResume =>
      t = { s with params := t.params, mods := t.mods, prt := t.prt, isl := t.isl }
    | .busPresentChange .. =>
      t = { s with pins := t.pins, params := t.params, host := t.host, wire := t.wire, cols := t.cols, red := t.red }
    | .freqWindow .. | .holdoverMax | .clkFallback =>
      t = { s with params := t.params, planes := t.planes, mods := t.mods, prt := t.prt, host := t.host,
                   wire := t.wire, cols := t.cols, clk := t.clk, time := t.time }
    | _ => True
end

