-- ==== Sys2Proof/Laws/Serve.lean ====
section
/-! SUPPORT. Sys2Proof/Laws/Serve.lean: what the service of a host command does: a fresh command is accepted, its operation
runs on the state after acceptance, and the reply is kept on its channel. -/

set_option Elab.async false

namespace Sys2Proof.Machine

/-! ## Channels -/

theorem chanSt_updHost_other (f : HostSt → HostSt) (s : State) (c : Chan) (h1 : (f s.host).spi = s.host.spi)
    (h2 : (f s.host).udps = s.host.udps) : chanSt (updHost f s) c = chanSt s c := by
  cases c <;> simp [chanSt, updHost, h1, h2]

@[simp] theorem chanSt_setChan_same (c : Chan) (k : ChanSt) (s : State) : chanSt (setChan c k s) c = k := by
  cases c <;> simp [chanSt, setChan, updHost]

/-- The reply of an answered command is the one its channel kept last. -/
@[simp] theorem lastKept_answer (cls op : Nat) (e : Env) (st h : Nat) (pl : List Byte) (s : State) :
    lastKept (answer cls op e st h pl s) e.chan = some (e.seq, e.crc, replyPacket cls op e st h pl) := by
  simp [lastKept, answer, keepReply]

/-! ## Acceptance -/

@[simp] theorem acceptSeq_ops (e : Env) (s : State) : (acceptSeq e s).host.ops = s.host.ops := by
  unfold acceptSeq
  cases e.chan <;> simp only [setChan, updHost] <;> split <;> rfl

@[simp] theorem acceptSeq_gens (e : Env) (s : State) : (acceptSeq e s).host.gens = s.host.gens := by
  unfold acceptSeq
  cases e.chan <;> simp only [setChan, updHost] <;> split <;> rfl

@[simp] theorem acceptSeq_isl (e : Env) (s : State) : (acceptSeq e s).isl = s.isl := by
  unfold acceptSeq
  cases e.chan <;> simp only [setChan, updHost] <;> split <;> rfl

@[simp] theorem freeSlot_acceptSeq (e : Env) (s : State) : freeSlot (acceptSeq e s) = freeSlot s := by
  simp only [freeSlot, slotUsed, acceptSeq_ops]

@[simp] theorem nextHandle_acceptSeq (e : Env) (s : State) : nextHandle (acceptSeq e s) = nextHandle s := by
  simp only [nextHandle, freeSlot_acceptSeq, acceptSeq_gens]

@[simp] theorem runStatus_acceptSeq (op : Nat) (e : Env) (s : State) : runStatus op (acceptSeq e s) = runStatus op s := by
  simp only [runStatus, acceptSeq_isl]

/-- Only SYS.SEQ_GAP_CNT can change among the parameters when a command is accepted (R329). -/
theorem acceptSeq_params (e : Env) (s : State) :
    (acceptSeq e s).params = s.params ∨ (acceptSeq e s).params = (count sysSeqGapCnt s).params := by
  unfold acceptSeq
  cases e.chan <;> simp only [setChan, updHost] <;> split <;> simp

/-- A fresh command whose handle need can be met runs on the state after acceptance and is answered. -/
theorem serve_now {cls op : Nat} {e : Env} {flags : Nat} {needs : State → Bool} {body : Nat → State → State × Ans} {s u : State}
    {st : Nat} {pl : List Byte} (hf : Fresh op flags e s) (hn : needs (acceptSeq e s) = true → Room s)
    (hb : body (nextHandle s) (acceptSeq e s) = (u, .now st pl)) :
    serve cls op e flags needs body s = answer cls op e st (if st = stAccepted then nextHandle s else e.handle) pl u := by
  obtain ⟨h1, h2, h3, h4, h5, h6⟩ := hf
  have h7 : ¬ ((chanSt s e.chan).started = true ∧ seqDiff (chanSt s e.chan) e ≤ 0) := fun h => by
    have := h5 h.1; omega
  have h8 : needs (acceptSeq e s) = true → freeSlot s ≠ none := fun h hx => by
    have := hn h; simp [Room, hx] at this
  simp only [serve, serveSeq, h1, h2, h3, h4, h7, h6, hb, Bool.not_true, Bool.false_eq_true, if_false, ne_eq, not_true_eq_false,
    freeSlot_acceptSeq, nextHandle_acceptSeq, runStatus_acceptSeq, if_true, Option.isNone_iff_eq_none]
  exact if_neg fun h => h8 h.1 h.2

/-- The same for an operation that answers later. -/
theorem serve_later {cls op : Nat} {e : Env} {flags : Nat} {needs : State → Bool} {body : Nat → State → State × Ans} {s u : State}
    (hf : Fresh op flags e s) (hn : needs (acceptSeq e s) = true → Room s)
    (hb : body (nextHandle s) (acceptSeq e s) = (u, .later)) : serve cls op e flags needs body s = u := by
  obtain ⟨h1, h2, h3, h4, h5, h6⟩ := hf
  have h7 : ¬ ((chanSt s e.chan).started = true ∧ seqDiff (chanSt s e.chan) e ≤ 0) := fun h => by
    have := h5 h.1; omega
  have h8 : needs (acceptSeq e s) = true → freeSlot s ≠ none := fun h hx => by
    have := hn h; simp [Room, hx] at this
  simp only [serve, serveSeq, h1, h2, h3, h4, h7, h6, hb, Bool.not_true, Bool.false_eq_true, if_false, ne_eq, not_true_eq_false,
    freeSlot_acceptSeq, nextHandle_acceptSeq, runStatus_acceptSeq, if_true, Option.isNone_iff_eq_none]
  exact if_neg fun h => h8 h.1 h.2

end Sys2Proof.Machine
end

