-- ==== Sys2Proof/Laws/Tab.lean ====
section
/-! SUPPORT. Sys2Proof/Laws/Tab.lean: the laws of sparse tables: read after write, and that a write keeps the canonical form. -/

set_option Elab.async false

namespace Sys2Proof.Machine

variable {α : Type}

theorem tabGet_filter_same (d : Nat → α) (t : Tab α) (k : Nat) :
    tabGet d (t.filter fun x => decide (x.1 ≠ k)) k = d k := by
  induction t with
  | nil => rfl
  | cons x t ih =>
    obtain ⟨i, w⟩ := x
    by_cases h : i = k
    · simpa [h] using ih
    · simpa [h, tabGet] using ih

theorem tabGet_filter_other (d : Nat → α) (t : Tab α) {k j : Nat} (h : j ≠ k) :
    tabGet d (t.filter fun x => decide (x.1 ≠ k)) j = tabGet d t j := by
  induction t with
  | nil => rfl
  | cons x t ih =>
    obtain ⟨i, w⟩ := x
    by_cases hi : i = k
    · subst hi
      simp only [ne_eq, not_true_eq_false, decide_false, Bool.false_eq_true, not_false_eq_true, List.filter_cons_of_neg, tabGet]
      rw [if_neg (Ne.symm h)]
      exact ih
    · by_cases hj : i = j
      · simp [hj, tabGet, h]
      · simpa [hi, hj, tabGet] using ih

theorem tabGet_put_same (d : Nat → α) (t : Tab α) (k : Nat) (v : α) (h : ∀ x ∈ t, x.1 ≠ k) : tabGet d (tabPut k v t) k = v := by
  induction t with
  | nil => simp [tabPut, tabGet]
  | cons x t ih =>
    obtain ⟨i, w⟩ := x
    have hi : i ≠ k := h (i, w) (by simp)
    simp only [tabPut]
    split
    · simp [tabGet]
    · simp [tabGet, hi, ih fun y hy => h y (by simp [hy])]

theorem tabGet_put_other (d : Nat → α) (t : Tab α) {k j : Nat} (v : α) (h : j ≠ k) : tabGet d (tabPut k v t) j = tabGet d t j := by
  induction t with
  | nil => simp [tabPut, tabGet, Ne.symm h]
  | cons x t ih =>
    obtain ⟨i, w⟩ := x
    simp only [tabPut]
    split
    · simp [tabGet, Ne.symm h]
    · simp [tabGet, ih]

variable [DecidableEq α]

/-- A read after a write of the same key gives the value written. -/
@[simp] theorem tabGet_set_same (d : Nat → α) (t : Tab α) (k : Nat) (v : α) : tabGet d (tabSet d t k v) k = v := by
  simp only [tabSet]
  split
  · rename_i h
    rw [h]
    exact tabGet_filter_same d t k
  · exact tabGet_put_same d _ k v fun x hx => by simpa using (List.mem_filter.1 hx).2

/-- A write leaves every other key alone. -/
theorem tabGet_set_other (d : Nat → α) (t : Tab α) {k j : Nat} (v : α) (h : j ≠ k) : tabGet d (tabSet d t k v) j = tabGet d t j := by
  simp only [tabSet]
  split
  · exact tabGet_filter_other d t h
  · rw [tabGet_put_other d _ v h, tabGet_filter_other d t h]

/-- A weaker lower bound holds too. -/
theorem tabOk_mono (d : Nat → α) {a b : Option Nat} (t : Tab α) (hab : ∀ x, a = some x → ∃ y, b = some y ∧ x ≤ y)
    (h : tabOk d b t = true) : tabOk d a t = true := by
  cases t with
  | nil => rfl
  | cons x t =>
    obtain ⟨i, w⟩ := x
    simp only [tabOk, Bool.and_eq_true] at h ⊢
    refine ⟨⟨?_, h.1.2⟩, h.2⟩
    cases a with
    | none => rfl
    | some x =>
      obtain ⟨y, rfl, hxy⟩ := hab x rfl
      simp only [decide_eq_true_eq] at h ⊢
      omega

theorem tabOk_filter (d : Nat → α) (p : Nat × α → Bool) (t : Tab α) (lo : Option Nat) (h : tabOk d lo t = true) :
    tabOk d lo (t.filter p) = true := by
  induction t generalizing lo with
  | nil => rfl
  | cons x t ih =>
    obtain ⟨i, w⟩ := x
    simp only [tabOk, Bool.and_eq_true] at h
    have ht := ih (some i) h.2
    by_cases hp : p (i, w) = true
    · simp only [List.filter_cons_of_pos hp, tabOk, Bool.and_eq_true]
      exact ⟨h.1, ht⟩
    · simp only [List.filter_cons_of_neg hp]
      refine tabOk_mono d _ ?_ ht
      intro x hx
      refine ⟨i, rfl, ?_⟩
      subst hx
      have := h.1.1
      simp only [decide_eq_true_eq] at this
      omega

theorem tabOk_put (d : Nat → α) (t : Tab α) (k : Nat) (v : α) (hv : v ≠ d k) (lo : Option Nat) (hlo : ∀ x, lo = some x → x < k)
    (hk : ∀ x ∈ t, x.1 ≠ k) (h : tabOk d lo t = true) : tabOk d lo (tabPut k v t) = true := by
  induction t generalizing lo with
  | nil =>
    simp only [tabPut, tabOk, Bool.and_eq_true, decide_eq_true_eq]
    refine ⟨⟨?_, hv⟩, trivial⟩
    cases lo with
    | none => rfl
    | some x => simpa using hlo x rfl
  | cons x t ih =>
    obtain ⟨i, w⟩ := x
    simp only [tabOk, Bool.and_eq_true] at h
    simp only [tabPut]
    split
    · rename_i hki
      simp only [tabOk, Bool.and_eq_true, decide_eq_true_eq]
      refine ⟨⟨?_, hv⟩, ⟨hki, by simpa using h.1.2⟩, h.2⟩
      cases lo with
      | none => rfl
      | some x => simpa using hlo x rfl
    · rename_i hki
      have hik : i ≠ k := hk (i, w) (by simp)
      simp only [tabOk, Bool.and_eq_true]
      refine ⟨h.1, ih (some i) (fun x hx => ?_) (fun y hy => hk y (by simp [hy])) h.2⟩
      cases hx
      omega

/-- A write keeps the canonical form. -/
theorem tabSet_wf (d : Nat → α) (t : Tab α) (k : Nat) (v : α) (h : tabWf d t) : tabWf d (tabSet d t k v) := by
  simp only [tabSet]
  split
  · exact tabOk_filter d _ t none h
  · rename_i hv
    refine tabOk_put d _ k v hv none (fun _ hx => by cases hx) (fun x hx => by simpa using (List.mem_filter.1 hx).2) ?_
    exact tabOk_filter d _ t none h

end Sys2Proof.Machine
end

