-- ==== Sys2Proof/Laws/State.lean ====
section
/-! SUPPORT. Sys2Proof/Laws/State.lean: one lemma for each field under each update of the state, and the reads of parameters,
lanes and modulators after their writes. -/

set_option Elab.async false

namespace Sys2Proof.Machine

/-! ## setPar -/

@[simp] theorem setPar_pending (id v : Nat) (s : State) : (setPar id v s).pending = s.pending := rfl
@[simp] theorem setPar_pins (id v : Nat) (s : State) : (setPar id v s).pins = s.pins := rfl
@[simp] theorem setPar_wait (id v : Nat) (s : State) : (setPar id v s).wait = s.wait := rfl
@[simp] theorem setPar_stored (id v : Nat) (s : State) : (setPar id v s).stored = s.stored := rfl
@[simp] theorem setPar_planes (id v : Nat) (s : State) : (setPar id v s).planes = s.planes := rfl
@[simp] theorem setPar_mods (id v : Nat) (s : State) : (setPar id v s).mods = s.mods := rfl
@[simp] theorem setPar_meas (id v : Nat) (s : State) : (setPar id v s).meas = s.meas := rfl
@[simp] theorem setPar_meter (id v : Nat) (s : State) : (setPar id v s).meter = s.meter := rfl
@[simp] theorem setPar_rgt (id v : Nat) (s : State) : (setPar id v s).rgt = s.rgt := rfl
@[simp] theorem setPar_prt (id v : Nat) (s : State) : (setPar id v s).prt = s.prt := rfl
@[simp] theorem setPar_isl (id v : Nat) (s : State) : (setPar id v s).isl = s.isl := rfl
@[simp] theorem setPar_host (id v : Nat) (s : State) : (setPar id v s).host = s.host := rfl
@[simp] theorem setPar_txn (id v : Nat) (s : State) : (setPar id v s).txn = s.txn := rfl
@[simp] theorem setPar_time (id v : Nat) (s : State) : (setPar id v s).time = s.time := rfl
@[simp] theorem setPar_clk (id v : Nat) (s : State) : (setPar id v s).clk = s.clk := rfl
@[simp] theorem setPar_eth0 (id v : Nat) (s : State) : (setPar id v s).eth0 = s.eth0 := rfl
@[simp] theorem setPar_eth1 (id v : Nat) (s : State) : (setPar id v s).eth1 = s.eth1 := rfl
@[simp] theorem setPar_replay (id v : Nat) (s : State) : (setPar id v s).replay = s.replay := rfl
@[simp] theorem setPar_acq (id v : Nat) (s : State) : (setPar id v s).acq = s.acq := rfl
@[simp] theorem setPar_ybus (id v : Nat) (s : State) : (setPar id v s).ybus = s.ybus := rfl
@[simp] theorem setPar_cols (id v : Nat) (s : State) : (setPar id v s).cols = s.cols := rfl
@[simp] theorem setPar_sums (id v : Nat) (s : State) : (setPar id v s).sums = s.sums := rfl
@[simp] theorem setPar_gfm (id v : Nat) (s : State) : (setPar id v s).gfm = s.gfm := rfl
@[simp] theorem setPar_msd (id v : Nat) (s : State) : (setPar id v s).msd = s.msd := rfl
@[simp] theorem setPar_red (id v : Nat) (s : State) : (setPar id v s).red = s.red := rfl
@[simp] theorem setPar_fw (id v : Nat) (s : State) : (setPar id v s).fw = s.fw := rfl
@[simp] theorem setPar_wire (id v : Nat) (s : State) : (setPar id v s).wire = s.wire := rfl
@[simp] theorem setPar_free (id v : Nat) (s : State) : (setPar id v s).free = s.free := rfl

/-! ## updPrt -/

@[simp] theorem updPrt_pending (f : Prt → Prt) (s : State) : (updPrt f s).pending = s.pending := rfl
@[simp] theorem updPrt_pins (f : Prt → Prt) (s : State) : (updPrt f s).pins = s.pins := rfl
@[simp] theorem updPrt_params (f : Prt → Prt) (s : State) : (updPrt f s).params = s.params := rfl
@[simp] theorem updPrt_wait (f : Prt → Prt) (s : State) : (updPrt f s).wait = s.wait := rfl
@[simp] theorem updPrt_stored (f : Prt → Prt) (s : State) : (updPrt f s).stored = s.stored := rfl
@[simp] theorem updPrt_planes (f : Prt → Prt) (s : State) : (updPrt f s).planes = s.planes := rfl
@[simp] theorem updPrt_mods (f : Prt → Prt) (s : State) : (updPrt f s).mods = s.mods := rfl
@[simp] theorem updPrt_meas (f : Prt → Prt) (s : State) : (updPrt f s).meas = s.meas := rfl
@[simp] theorem updPrt_meter (f : Prt → Prt) (s : State) : (updPrt f s).meter = s.meter := rfl
@[simp] theorem updPrt_rgt (f : Prt → Prt) (s : State) : (updPrt f s).rgt = s.rgt := rfl
@[simp] theorem updPrt_prt (f : Prt → Prt) (s : State) : (updPrt f s).prt = f s.prt := rfl
@[simp] theorem updPrt_isl (f : Prt → Prt) (s : State) : (updPrt f s).isl = s.isl := rfl
@[simp] theorem updPrt_host (f : Prt → Prt) (s : State) : (updPrt f s).host = s.host := rfl
@[simp] theorem updPrt_txn (f : Prt → Prt) (s : State) : (updPrt f s).txn = s.txn := rfl
@[simp] theorem updPrt_time (f : Prt → Prt) (s : State) : (updPrt f s).time = s.time := rfl
@[simp] theorem updPrt_clk (f : Prt → Prt) (s : State) : (updPrt f s).clk = s.clk := rfl
@[simp] theorem updPrt_eth0 (f : Prt → Prt) (s : State) : (updPrt f s).eth0 = s.eth0 := rfl
@[simp] theorem updPrt_eth1 (f : Prt → Prt) (s : State) : (updPrt f s).eth1 = s.eth1 := rfl
@[simp] theorem updPrt_replay (f : Prt → Prt) (s : State) : (updPrt f s).replay = s.replay := rfl
@[simp] theorem updPrt_acq (f : Prt → Prt) (s : State) : (updPrt f s).acq = s.acq := rfl
@[simp] theorem updPrt_ybus (f : Prt → Prt) (s : State) : (updPrt f s).ybus = s.ybus := rfl
@[simp] theorem updPrt_cols (f : Prt → Prt) (s : State) : (updPrt f s).cols = s.cols := rfl
@[simp] theorem updPrt_sums (f : Prt → Prt) (s : State) : (updPrt f s).sums = s.sums := rfl
@[simp] theorem updPrt_gfm (f : Prt → Prt) (s : State) : (updPrt f s).gfm = s.gfm := rfl
@[simp] theorem updPrt_msd (f : Prt → Prt) (s : State) : (updPrt f s).msd = s.msd := rfl
@[simp] theorem updPrt_red (f : Prt → Prt) (s : State) : (updPrt f s).red = s.red := rfl
@[simp] theorem updPrt_fw (f : Prt → Prt) (s : State) : (updPrt f s).fw = s.fw := rfl
@[simp] theorem updPrt_wire (f : Prt → Prt) (s : State) : (updPrt f s).wire = s.wire := rfl
@[simp] theorem updPrt_free (f : Prt → Prt) (s : State) : (updPrt f s).free = s.free := rfl

/-! ## updHost -/

@[simp] theorem updHost_pending (f : HostSt → HostSt) (s : State) : (updHost f s).pending = s.pending := rfl
@[simp] theorem updHost_pins (f : HostSt → HostSt) (s : State) : (updHost f s).pins = s.pins := rfl
@[simp] theorem updHost_params (f : HostSt → HostSt) (s : State) : (updHost f s).params = s.params := rfl
@[simp] theorem updHost_wait (f : HostSt → HostSt) (s : State) : (updHost f s).wait = s.wait := rfl
@[simp] theorem updHost_stored (f : HostSt → HostSt) (s : State) : (updHost f s).stored = s.stored := rfl
@[simp] theorem updHost_planes (f : HostSt → HostSt) (s : State) : (updHost f s).planes = s.planes := rfl
@[simp] theorem updHost_mods (f : HostSt → HostSt) (s : State) : (updHost f s).mods = s.mods := rfl
@[simp] theorem updHost_meas (f : HostSt → HostSt) (s : State) : (updHost f s).meas = s.meas := rfl
@[simp] theorem updHost_meter (f : HostSt → HostSt) (s : State) : (updHost f s).meter = s.meter := rfl
@[simp] theorem updHost_rgt (f : HostSt → HostSt) (s : State) : (updHost f s).rgt = s.rgt := rfl
@[simp] theorem updHost_prt (f : HostSt → HostSt) (s : State) : (updHost f s).prt = s.prt := rfl
@[simp] theorem updHost_isl (f : HostSt → HostSt) (s : State) : (updHost f s).isl = s.isl := rfl
@[simp] theorem updHost_host (f : HostSt → HostSt) (s : State) : (updHost f s).host = f s.host := rfl
@[simp] theorem updHost_txn (f : HostSt → HostSt) (s : State) : (updHost f s).txn = s.txn := rfl
@[simp] theorem updHost_time (f : HostSt → HostSt) (s : State) : (updHost f s).time = s.time := rfl
@[simp] theorem updHost_clk (f : HostSt → HostSt) (s : State) : (updHost f s).clk = s.clk := rfl
@[simp] theorem updHost_eth0 (f : HostSt → HostSt) (s : State) : (updHost f s).eth0 = s.eth0 := rfl
@[simp] theorem updHost_eth1 (f : HostSt → HostSt) (s : State) : (updHost f s).eth1 = s.eth1 := rfl
@[simp] theorem updHost_replay (f : HostSt → HostSt) (s : State) : (updHost f s).replay = s.replay := rfl
@[simp] theorem updHost_acq (f : HostSt → HostSt) (s : State) : (updHost f s).acq = s.acq := rfl
@[simp] theorem updHost_ybus (f : HostSt → HostSt) (s : State) : (updHost f s).ybus = s.ybus := rfl
@[simp] theorem updHost_cols (f : HostSt → HostSt) (s : State) : (updHost f s).cols = s.cols := rfl
@[simp] theorem updHost_sums (f : HostSt → HostSt) (s : State) : (updHost f s).sums = s.sums := rfl
@[simp] theorem updHost_gfm (f : HostSt → HostSt) (s : State) : (updHost f s).gfm = s.gfm := rfl
@[simp] theorem updHost_msd (f : HostSt → HostSt) (s : State) : (updHost f s).msd = s.msd := rfl
@[simp] theorem updHost_red (f : HostSt → HostSt) (s : State) : (updHost f s).red = s.red := rfl
@[simp] theorem updHost_fw (f : HostSt → HostSt) (s : State) : (updHost f s).fw = s.fw := rfl
@[simp] theorem updHost_wire (f : HostSt → HostSt) (s : State) : (updHost f s).wire = s.wire := rfl
@[simp] theorem updHost_free (f : HostSt → HostSt) (s : State) : (updHost f s).free = s.free := rfl

/-! ## setLane -/

@[simp] theorem setLane_pending (p : Plane) (l : Lane) (s : State) : (setLane p l s).pending = s.pending := rfl
@[simp] theorem setLane_pins (p : Plane) (l : Lane) (s : State) : (setLane p l s).pins = s.pins := rfl
@[simp] theorem setLane_params (p : Plane) (l : Lane) (s : State) : (setLane p l s).params = s.params := rfl
@[simp] theorem setLane_wait (p : Plane) (l : Lane) (s : State) : (setLane p l s).wait = s.wait := rfl
@[simp] theorem setLane_stored (p : Plane) (l : Lane) (s : State) : (setLane p l s).stored = s.stored := rfl
@[simp] theorem setLane_mods (p : Plane) (l : Lane) (s : State) : (setLane p l s).mods = s.mods := rfl
@[simp] theorem setLane_meas (p : Plane) (l : Lane) (s : State) : (setLane p l s).meas = s.meas := rfl
@[simp] theorem setLane_meter (p : Plane) (l : Lane) (s : State) : (setLane p l s).meter = s.meter := rfl
@[simp] theorem setLane_rgt (p : Plane) (l : Lane) (s : State) : (setLane p l s).rgt = s.rgt := rfl
@[simp] theorem setLane_prt (p : Plane) (l : Lane) (s : State) : (setLane p l s).prt = s.prt := rfl
@[simp] theorem setLane_isl (p : Plane) (l : Lane) (s : State) : (setLane p l s).isl = s.isl := rfl
@[simp] theorem setLane_host (p : Plane) (l : Lane) (s : State) : (setLane p l s).host = s.host := rfl
@[simp] theorem setLane_txn (p : Plane) (l : Lane) (s : State) : (setLane p l s).txn = s.txn := rfl
@[simp] theorem setLane_time (p : Plane) (l : Lane) (s : State) : (setLane p l s).time = s.time := rfl
@[simp] theorem setLane_clk (p : Plane) (l : Lane) (s : State) : (setLane p l s).clk = s.clk := rfl
@[simp] theorem setLane_eth0 (p : Plane) (l : Lane) (s : State) : (setLane p l s).eth0 = s.eth0 := rfl
@[simp] theorem setLane_eth1 (p : Plane) (l : Lane) (s : State) : (setLane p l s).eth1 = s.eth1 := rfl
@[simp] theorem setLane_replay (p : Plane) (l : Lane) (s : State) : (setLane p l s).replay = s.replay := rfl
@[simp] theorem setLane_acq (p : Plane) (l : Lane) (s : State) : (setLane p l s).acq = s.acq := rfl
@[simp] theorem setLane_ybus (p : Plane) (l : Lane) (s : State) : (setLane p l s).ybus = s.ybus := rfl
@[simp] theorem setLane_cols (p : Plane) (l : Lane) (s : State) : (setLane p l s).cols = s.cols := rfl
@[simp] theorem setLane_sums (p : Plane) (l : Lane) (s : State) : (setLane p l s).sums = s.sums := rfl
@[simp] theorem setLane_gfm (p : Plane) (l : Lane) (s : State) : (setLane p l s).gfm = s.gfm := rfl
@[simp] theorem setLane_msd (p : Plane) (l : Lane) (s : State) : (setLane p l s).msd = s.msd := rfl
@[simp] theorem setLane_red (p : Plane) (l : Lane) (s : State) : (setLane p l s).red = s.red := rfl
@[simp] theorem setLane_fw (p : Plane) (l : Lane) (s : State) : (setLane p l s).fw = s.fw := rfl
@[simp] theorem setLane_wire (p : Plane) (l : Lane) (s : State) : (setLane p l s).wire = s.wire := rfl
@[simp] theorem setLane_free (p : Plane) (l : Lane) (s : State) : (setLane p l s).free = s.free := rfl

/-! ## updLane -/

@[simp] theorem updLane_pending (p : Plane) (f : Lane → Lane) (s : State) : (updLane p f s).pending = s.pending := rfl
@[simp] theorem updLane_pins (p : Plane) (f : Lane → Lane) (s : State) : (updLane p f s).pins = s.pins := rfl
@[simp] theorem updLane_params (p : Plane) (f : Lane → Lane) (s : State) : (updLane p f s).params = s.params := rfl
@[simp] theorem updLane_wait (p : Plane) (f : Lane → Lane) (s : State) : (updLane p f s).wait = s.wait := rfl
@[simp] theorem updLane_stored (p : Plane) (f : Lane → Lane) (s : State) : (updLane p f s).stored = s.stored := rfl
@[simp] theorem updLane_mods (p : Plane) (f : Lane → Lane) (s : State) : (updLane p f s).mods = s.mods := rfl
@[simp] theorem updLane_meas (p : Plane) (f : Lane → Lane) (s : State) : (updLane p f s).meas = s.meas := rfl
@[simp] theorem updLane_meter (p : Plane) (f : Lane → Lane) (s : State) : (updLane p f s).meter = s.meter := rfl
@[simp] theorem updLane_rgt (p : Plane) (f : Lane → Lane) (s : State) : (updLane p f s).rgt = s.rgt := rfl
@[simp] theorem updLane_prt (p : Plane) (f : Lane → Lane) (s : State) : (updLane p f s).prt = s.prt := rfl
@[simp] theorem updLane_isl (p : Plane) (f : Lane → Lane) (s : State) : (updLane p f s).isl = s.isl := rfl
@[simp] theorem updLane_host (p : Plane) (f : Lane → Lane) (s : State) : (updLane p f s).host = s.host := rfl
@[simp] theorem updLane_txn (p : Plane) (f : Lane → Lane) (s : State) : (updLane p f s).txn = s.txn := rfl
@[simp] theorem updLane_time (p : Plane) (f : Lane → Lane) (s : State) : (updLane p f s).time = s.time := rfl
@[simp] theorem updLane_clk (p : Plane) (f : Lane → Lane) (s : State) : (updLane p f s).clk = s.clk := rfl
@[simp] theorem updLane_eth0 (p : Plane) (f : Lane → Lane) (s : State) : (updLane p f s).eth0 = s.eth0 := rfl
@[simp] theorem updLane_eth1 (p : Plane) (f : Lane → Lane) (s : State) : (updLane p f s).eth1 = s.eth1 := rfl
@[simp] theorem updLane_replay (p : Plane) (f : Lane → Lane) (s : State) : (updLane p f s).replay = s.replay := rfl
@[simp] theorem updLane_acq (p : Plane) (f : Lane → Lane) (s : State) : (updLane p f s).acq = s.acq := rfl
@[simp] theorem updLane_ybus (p : Plane) (f : Lane → Lane) (s : State) : (updLane p f s).ybus = s.ybus := rfl
@[simp] theorem updLane_cols (p : Plane) (f : Lane → Lane) (s : State) : (updLane p f s).cols = s.cols := rfl
@[simp] theorem updLane_sums (p : Plane) (f : Lane → Lane) (s : State) : (updLane p f s).sums = s.sums := rfl
@[simp] theorem updLane_gfm (p : Plane) (f : Lane → Lane) (s : State) : (updLane p f s).gfm = s.gfm := rfl
@[simp] theorem updLane_msd (p : Plane) (f : Lane → Lane) (s : State) : (updLane p f s).msd = s.msd := rfl
@[simp] theorem updLane_red (p : Plane) (f : Lane → Lane) (s : State) : (updLane p f s).red = s.red := rfl
@[simp] theorem updLane_fw (p : Plane) (f : Lane → Lane) (s : State) : (updLane p f s).fw = s.fw := rfl
@[simp] theorem updLane_wire (p : Plane) (f : Lane → Lane) (s : State) : (updLane p f s).wire = s.wire := rfl
@[simp] theorem updLane_free (p : Plane) (f : Lane → Lane) (s : State) : (updLane p f s).free = s.free := rfl

/-! ## setMod -/

@[simp] theorem setMod_pending (p : Plane) (m : Mod) (s : State) : (setMod p m s).pending = s.pending := rfl
@[simp] theorem setMod_pins (p : Plane) (m : Mod) (s : State) : (setMod p m s).pins = s.pins := rfl
@[simp] theorem setMod_params (p : Plane) (m : Mod) (s : State) : (setMod p m s).params = s.params := rfl
@[simp] theorem setMod_wait (p : Plane) (m : Mod) (s : State) : (setMod p m s).wait = s.wait := rfl
@[simp] theorem setMod_stored (p : Plane) (m : Mod) (s : State) : (setMod p m s).stored = s.stored := rfl
@[simp] theorem setMod_planes (p : Plane) (m : Mod) (s : State) : (setMod p m s).planes = s.planes := rfl
@[simp] theorem setMod_meas (p : Plane) (m : Mod) (s : State) : (setMod p m s).meas = s.meas := rfl
@[simp] theorem setMod_meter (p : Plane) (m : Mod) (s : State) : (setMod p m s).meter = s.meter := rfl
@[simp] theorem setMod_rgt (p : Plane) (m : Mod) (s : State) : (setMod p m s).rgt = s.rgt := rfl
@[simp] theorem setMod_prt (p : Plane) (m : Mod) (s : State) : (setMod p m s).prt = s.prt := rfl
@[simp] theorem setMod_isl (p : Plane) (m : Mod) (s : State) : (setMod p m s).isl = s.isl := rfl
@[simp] theorem setMod_host (p : Plane) (m : Mod) (s : State) : (setMod p m s).host = s.host := rfl
@[simp] theorem setMod_txn (p : Plane) (m : Mod) (s : State) : (setMod p m s).txn = s.txn := rfl
@[simp] theorem setMod_time (p : Plane) (m : Mod) (s : State) : (setMod p m s).time = s.time := rfl
@[simp] theorem setMod_clk (p : Plane) (m : Mod) (s : State) : (setMod p m s).clk = s.clk := rfl
@[simp] theorem setMod_eth0 (p : Plane) (m : Mod) (s : State) : (setMod p m s).eth0 = s.eth0 := rfl
@[simp] theorem setMod_eth1 (p : Plane) (m : Mod) (s : State) : (setMod p m s).eth1 = s.eth1 := rfl
@[simp] theorem setMod_replay (p : Plane) (m : Mod) (s : State) : (setMod p m s).replay = s.replay := rfl
@[simp] theorem setMod_acq (p : Plane) (m : Mod) (s : State) : (setMod p m s).acq = s.acq := rfl
@[simp] theorem setMod_ybus (p : Plane) (m : Mod) (s : State) : (setMod p m s).ybus = s.ybus := rfl
@[simp] theorem setMod_cols (p : Plane) (m : Mod) (s : State) : (setMod p m s).cols = s.cols := rfl
@[simp] theorem setMod_sums (p : Plane) (m : Mod) (s : State) : (setMod p m s).sums = s.sums := rfl
@[simp] theorem setMod_gfm (p : Plane) (m : Mod) (s : State) : (setMod p m s).gfm = s.gfm := rfl
@[simp] theorem setMod_msd (p : Plane) (m : Mod) (s : State) : (setMod p m s).msd = s.msd := rfl
@[simp] theorem setMod_red (p : Plane) (m : Mod) (s : State) : (setMod p m s).red = s.red := rfl
@[simp] theorem setMod_fw (p : Plane) (m : Mod) (s : State) : (setMod p m s).fw = s.fw := rfl
@[simp] theorem setMod_wire (p : Plane) (m : Mod) (s : State) : (setMod p m s).wire = s.wire := rfl
@[simp] theorem setMod_free (p : Plane) (m : Mod) (s : State) : (setMod p m s).free = s.free := rfl

/-! ## updMod -/

@[simp] theorem updMod_pending (p : Plane) (f : Mod → Mod) (s : State) : (updMod p f s).pending = s.pending := rfl
@[simp] theorem updMod_pins (p : Plane) (f : Mod → Mod) (s : State) : (updMod p f s).pins = s.pins := rfl
@[simp] theorem updMod_params (p : Plane) (f : Mod → Mod) (s : State) : (updMod p f s).params = s.params := rfl
@[simp] theorem updMod_wait (p : Plane) (f : Mod → Mod) (s : State) : (updMod p f s).wait = s.wait := rfl
@[simp] theorem updMod_stored (p : Plane) (f : Mod → Mod) (s : State) : (updMod p f s).stored = s.stored := rfl
@[simp] theorem updMod_planes (p : Plane) (f : Mod → Mod) (s : State) : (updMod p f s).planes = s.planes := rfl
@[simp] theorem updMod_meas (p : Plane) (f : Mod → Mod) (s : State) : (updMod p f s).meas = s.meas := rfl
@[simp] theorem updMod_meter (p : Plane) (f : Mod → Mod) (s : State) : (updMod p f s).meter = s.meter := rfl
@[simp] theorem updMod_rgt (p : Plane) (f : Mod → Mod) (s : State) : (updMod p f s).rgt = s.rgt := rfl
@[simp] theorem updMod_prt (p : Plane) (f : Mod → Mod) (s : State) : (updMod p f s).prt = s.prt := rfl
@[simp] theorem updMod_isl (p : Plane) (f : Mod → Mod) (s : State) : (updMod p f s).isl = s.isl := rfl
@[simp] theorem updMod_host (p : Plane) (f : Mod → Mod) (s : State) : (updMod p f s).host = s.host := rfl
@[simp] theorem updMod_txn (p : Plane) (f : Mod → Mod) (s : State) : (updMod p f s).txn = s.txn := rfl
@[simp] theorem updMod_time (p : Plane) (f : Mod → Mod) (s : State) : (updMod p f s).time = s.time := rfl
@[simp] theorem updMod_clk (p : Plane) (f : Mod → Mod) (s : State) : (updMod p f s).clk = s.clk := rfl
@[simp] theorem updMod_eth0 (p : Plane) (f : Mod → Mod) (s : State) : (updMod p f s).eth0 = s.eth0 := rfl
@[simp] theorem updMod_eth1 (p : Plane) (f : Mod → Mod) (s : State) : (updMod p f s).eth1 = s.eth1 := rfl
@[simp] theorem updMod_replay (p : Plane) (f : Mod → Mod) (s : State) : (updMod p f s).replay = s.replay := rfl
@[simp] theorem updMod_acq (p : Plane) (f : Mod → Mod) (s : State) : (updMod p f s).acq = s.acq := rfl
@[simp] theorem updMod_ybus (p : Plane) (f : Mod → Mod) (s : State) : (updMod p f s).ybus = s.ybus := rfl
@[simp] theorem updMod_cols (p : Plane) (f : Mod → Mod) (s : State) : (updMod p f s).cols = s.cols := rfl
@[simp] theorem updMod_sums (p : Plane) (f : Mod → Mod) (s : State) : (updMod p f s).sums = s.sums := rfl
@[simp] theorem updMod_gfm (p : Plane) (f : Mod → Mod) (s : State) : (updMod p f s).gfm = s.gfm := rfl
@[simp] theorem updMod_msd (p : Plane) (f : Mod → Mod) (s : State) : (updMod p f s).msd = s.msd := rfl
@[simp] theorem updMod_red (p : Plane) (f : Mod → Mod) (s : State) : (updMod p f s).red = s.red := rfl
@[simp] theorem updMod_fw (p : Plane) (f : Mod → Mod) (s : State) : (updMod p f s).fw = s.fw := rfl
@[simp] theorem updMod_wire (p : Plane) (f : Mod → Mod) (s : State) : (updMod p f s).wire = s.wire := rfl
@[simp] theorem updMod_free (p : Plane) (f : Mod → Mod) (s : State) : (updMod p f s).free = s.free := rfl

/-! ## emit -/

@[simp] theorem emit_pending (w : Wire) (s : State) : (emit w s).pending = s.pending := rfl
@[simp] theorem emit_pins (w : Wire) (s : State) : (emit w s).pins = s.pins := rfl
@[simp] theorem emit_params (w : Wire) (s : State) : (emit w s).params = s.params := rfl
@[simp] theorem emit_wait (w : Wire) (s : State) : (emit w s).wait = s.wait := rfl
@[simp] theorem emit_stored (w : Wire) (s : State) : (emit w s).stored = s.stored := rfl
@[simp] theorem emit_planes (w : Wire) (s : State) : (emit w s).planes = s.planes := rfl
@[simp] theorem emit_mods (w : Wire) (s : State) : (emit w s).mods = s.mods := rfl
@[simp] theorem emit_meas (w : Wire) (s : State) : (emit w s).meas = s.meas := rfl
@[simp] theorem emit_meter (w : Wire) (s : State) : (emit w s).meter = s.meter := rfl
@[simp] theorem emit_rgt (w : Wire) (s : State) : (emit w s).rgt = s.rgt := rfl
@[simp] theorem emit_prt (w : Wire) (s : State) : (emit w s).prt = s.prt := rfl
@[simp] theorem emit_isl (w : Wire) (s : State) : (emit w s).isl = s.isl := rfl
@[simp] theorem emit_host (w : Wire) (s : State) : (emit w s).host = s.host := rfl
@[simp] theorem emit_txn (w : Wire) (s : State) : (emit w s).txn = s.txn := rfl
@[simp] theorem emit_time (w : Wire) (s : State) : (emit w s).time = s.time := rfl
@[simp] theorem emit_clk (w : Wire) (s : State) : (emit w s).clk = s.clk := rfl
@[simp] theorem emit_eth0 (w : Wire) (s : State) : (emit w s).eth0 = s.eth0 := rfl
@[simp] theorem emit_eth1 (w : Wire) (s : State) : (emit w s).eth1 = s.eth1 := rfl
@[simp] theorem emit_replay (w : Wire) (s : State) : (emit w s).replay = s.replay := rfl
@[simp] theorem emit_acq (w : Wire) (s : State) : (emit w s).acq = s.acq := rfl
@[simp] theorem emit_ybus (w : Wire) (s : State) : (emit w s).ybus = s.ybus := rfl
@[simp] theorem emit_cols (w : Wire) (s : State) : (emit w s).cols = s.cols := rfl
@[simp] theorem emit_sums (w : Wire) (s : State) : (emit w s).sums = s.sums := rfl
@[simp] theorem emit_gfm (w : Wire) (s : State) : (emit w s).gfm = s.gfm := rfl
@[simp] theorem emit_msd (w : Wire) (s : State) : (emit w s).msd = s.msd := rfl
@[simp] theorem emit_red (w : Wire) (s : State) : (emit w s).red = s.red := rfl
@[simp] theorem emit_fw (w : Wire) (s : State) : (emit w s).fw = s.fw := rfl
@[simp] theorem emit_wire (w : Wire) (s : State) : (emit w s).wire = s.wire ++ [w] := rfl
@[simp] theorem emit_free (w : Wire) (s : State) : (emit w s).free = s.free := rfl

/-! ## bumpFree -/

@[simp] theorem bumpFree_pending (s : State) : (bumpFree s).pending = s.pending := rfl
@[simp] theorem bumpFree_pins (s : State) : (bumpFree s).pins = s.pins := rfl
@[simp] theorem bumpFree_params (s : State) : (bumpFree s).params = s.params := rfl
@[simp] theorem bumpFree_wait (s : State) : (bumpFree s).wait = s.wait := rfl
@[simp] theorem bumpFree_stored (s : State) : (bumpFree s).stored = s.stored := rfl
@[simp] theorem bumpFree_planes (s : State) : (bumpFree s).planes = s.planes := rfl
@[simp] theorem bumpFree_mods (s : State) : (bumpFree s).mods = s.mods := rfl
@[simp] theorem bumpFree_meas (s : State) : (bumpFree s).meas = s.meas := rfl
@[simp] theorem bumpFree_meter (s : State) : (bumpFree s).meter = s.meter := rfl
@[simp] theorem bumpFree_rgt (s : State) : (bumpFree s).rgt = s.rgt := rfl
@[simp] theorem bumpFree_prt (s : State) : (bumpFree s).prt = s.prt := rfl
@[simp] theorem bumpFree_isl (s : State) : (bumpFree s).isl = s.isl := rfl
@[simp] theorem bumpFree_host (s : State) : (bumpFree s).host = s.host := rfl
@[simp] theorem bumpFree_txn (s : State) : (bumpFree s).txn = s.txn := rfl
@[simp] theorem bumpFree_time (s : State) : (bumpFree s).time = s.time := rfl
@[simp] theorem bumpFree_clk (s : State) : (bumpFree s).clk = s.clk := rfl
@[simp] theorem bumpFree_eth0 (s : State) : (bumpFree s).eth0 = s.eth0 := rfl
@[simp] theorem bumpFree_eth1 (s : State) : (bumpFree s).eth1 = s.eth1 := rfl
@[simp] theorem bumpFree_replay (s : State) : (bumpFree s).replay = s.replay := rfl
@[simp] theorem bumpFree_acq (s : State) : (bumpFree s).acq = s.acq := rfl
@[simp] theorem bumpFree_ybus (s : State) : (bumpFree s).ybus = s.ybus := rfl
@[simp] theorem bumpFree_cols (s : State) : (bumpFree s).cols = s.cols := rfl
@[simp] theorem bumpFree_sums (s : State) : (bumpFree s).sums = s.sums := rfl
@[simp] theorem bumpFree_gfm (s : State) : (bumpFree s).gfm = s.gfm := rfl
@[simp] theorem bumpFree_msd (s : State) : (bumpFree s).msd = s.msd := rfl
@[simp] theorem bumpFree_red (s : State) : (bumpFree s).red = s.red := rfl
@[simp] theorem bumpFree_fw (s : State) : (bumpFree s).fw = s.fw := rfl
@[simp] theorem bumpFree_wire (s : State) : (bumpFree s).wire = s.wire := rfl
@[simp] theorem bumpFree_free (s : State) : (bumpFree s).free = s.free + 1 := rfl

/-! ## setMport -/

@[simp] theorem setMport_pending (n : Nat) (m : MPort) (s : State) : (setMport n m s).pending = s.pending := rfl
@[simp] theorem setMport_pins (n : Nat) (m : MPort) (s : State) : (setMport n m s).pins = s.pins := rfl
@[simp] theorem setMport_params (n : Nat) (m : MPort) (s : State) : (setMport n m s).params = s.params := rfl
@[simp] theorem setMport_wait (n : Nat) (m : MPort) (s : State) : (setMport n m s).wait = s.wait := rfl
@[simp] theorem setMport_stored (n : Nat) (m : MPort) (s : State) : (setMport n m s).stored = s.stored := rfl
@[simp] theorem setMport_planes (n : Nat) (m : MPort) (s : State) : (setMport n m s).planes = s.planes := rfl
@[simp] theorem setMport_mods (n : Nat) (m : MPort) (s : State) : (setMport n m s).mods = s.mods := rfl
@[simp] theorem setMport_meter (n : Nat) (m : MPort) (s : State) : (setMport n m s).meter = s.meter := rfl
@[simp] theorem setMport_rgt (n : Nat) (m : MPort) (s : State) : (setMport n m s).rgt = s.rgt := rfl
@[simp] theorem setMport_prt (n : Nat) (m : MPort) (s : State) : (setMport n m s).prt = s.prt := rfl
@[simp] theorem setMport_isl (n : Nat) (m : MPort) (s : State) : (setMport n m s).isl = s.isl := rfl
@[simp] theorem setMport_host (n : Nat) (m : MPort) (s : State) : (setMport n m s).host = s.host := rfl
@[simp] theorem setMport_txn (n : Nat) (m : MPort) (s : State) : (setMport n m s).txn = s.txn := rfl
@[simp] theorem setMport_time (n : Nat) (m : MPort) (s : State) : (setMport n m s).time = s.time := rfl
@[simp] theorem setMport_clk (n : Nat) (m : MPort) (s : State) : (setMport n m s).clk = s.clk := rfl
@[simp] theorem setMport_eth0 (n : Nat) (m : MPort) (s : State) : (setMport n m s).eth0 = s.eth0 := rfl
@[simp] theorem setMport_eth1 (n : Nat) (m : MPort) (s : State) : (setMport n m s).eth1 = s.eth1 := rfl
@[simp] theorem setMport_replay (n : Nat) (m : MPort) (s : State) : (setMport n m s).replay = s.replay := rfl
@[simp] theorem setMport_acq (n : Nat) (m : MPort) (s : State) : (setMport n m s).acq = s.acq := rfl
@[simp] theorem setMport_ybus (n : Nat) (m : MPort) (s : State) : (setMport n m s).ybus = s.ybus := rfl
@[simp] theorem setMport_cols (n : Nat) (m : MPort) (s : State) : (setMport n m s).cols = s.cols := rfl
@[simp] theorem setMport_sums (n : Nat) (m : MPort) (s : State) : (setMport n m s).sums = s.sums := rfl
@[simp] theorem setMport_gfm (n : Nat) (m : MPort) (s : State) : (setMport n m s).gfm = s.gfm := rfl
@[simp] theorem setMport_msd (n : Nat) (m : MPort) (s : State) : (setMport n m s).msd = s.msd := rfl
@[simp] theorem setMport_red (n : Nat) (m : MPort) (s : State) : (setMport n m s).red = s.red := rfl
@[simp] theorem setMport_fw (n : Nat) (m : MPort) (s : State) : (setMport n m s).fw = s.fw := rfl
@[simp] theorem setMport_wire (n : Nat) (m : MPort) (s : State) : (setMport n m s).wire = s.wire := rfl
@[simp] theorem setMport_free (n : Nat) (m : MPort) (s : State) : (setMport n m s).free = s.free := rfl

/-! ## updMport -/

@[simp] theorem updMport_pending (n : Nat) (f : MPort → MPort) (s : State) : (updMport n f s).pending = s.pending := rfl
@[simp] theorem updMport_pins (n : Nat) (f : MPort → MPort) (s : State) : (updMport n f s).pins = s.pins := rfl
@[simp] theorem updMport_params (n : Nat) (f : MPort → MPort) (s : State) : (updMport n f s).params = s.params := rfl
@[simp] theorem updMport_wait (n : Nat) (f : MPort → MPort) (s : State) : (updMport n f s).wait = s.wait := rfl
@[simp] theorem updMport_stored (n : Nat) (f : MPort → MPort) (s : State) : (updMport n f s).stored = s.stored := rfl
@[simp] theorem updMport_planes (n : Nat) (f : MPort → MPort) (s : State) : (updMport n f s).planes = s.planes := rfl
@[simp] theorem updMport_mods (n : Nat) (f : MPort → MPort) (s : State) : (updMport n f s).mods = s.mods := rfl
@[simp] theorem updMport_meter (n : Nat) (f : MPort → MPort) (s : State) : (updMport n f s).meter = s.meter := rfl
@[simp] theorem updMport_rgt (n : Nat) (f : MPort → MPort) (s : State) : (updMport n f s).rgt = s.rgt := rfl
@[simp] theorem updMport_prt (n : Nat) (f : MPort → MPort) (s : State) : (updMport n f s).prt = s.prt := rfl
@[simp] theorem updMport_isl (n : Nat) (f : MPort → MPort) (s : State) : (updMport n f s).isl = s.isl := rfl
@[simp] theorem updMport_host (n : Nat) (f : MPort → MPort) (s : State) : (updMport n f s).host = s.host := rfl
@[simp] theorem updMport_txn (n : Nat) (f : MPort → MPort) (s : State) : (updMport n f s).txn = s.txn := rfl
@[simp] theorem updMport_time (n : Nat) (f : MPort → MPort) (s : State) : (updMport n f s).time = s.time := rfl
@[simp] theorem updMport_clk (n : Nat) (f : MPort → MPort) (s : State) : (updMport n f s).clk = s.clk := rfl
@[simp] theorem updMport_eth0 (n : Nat) (f : MPort → MPort) (s : State) : (updMport n f s).eth0 = s.eth0 := rfl
@[simp] theorem updMport_eth1 (n : Nat) (f : MPort → MPort) (s : State) : (updMport n f s).eth1 = s.eth1 := rfl
@[simp] theorem updMport_replay (n : Nat) (f : MPort → MPort) (s : State) : (updMport n f s).replay = s.replay := rfl
@[simp] theorem updMport_acq (n : Nat) (f : MPort → MPort) (s : State) : (updMport n f s).acq = s.acq := rfl
@[simp] theorem updMport_ybus (n : Nat) (f : MPort → MPort) (s : State) : (updMport n f s).ybus = s.ybus := rfl
@[simp] theorem updMport_cols (n : Nat) (f : MPort → MPort) (s : State) : (updMport n f s).cols = s.cols := rfl
@[simp] theorem updMport_sums (n : Nat) (f : MPort → MPort) (s : State) : (updMport n f s).sums = s.sums := rfl
@[simp] theorem updMport_gfm (n : Nat) (f : MPort → MPort) (s : State) : (updMport n f s).gfm = s.gfm := rfl
@[simp] theorem updMport_msd (n : Nat) (f : MPort → MPort) (s : State) : (updMport n f s).msd = s.msd := rfl
@[simp] theorem updMport_red (n : Nat) (f : MPort → MPort) (s : State) : (updMport n f s).red = s.red := rfl
@[simp] theorem updMport_fw (n : Nat) (f : MPort → MPort) (s : State) : (updMport n f s).fw = s.fw := rfl
@[simp] theorem updMport_wire (n : Nat) (f : MPort → MPort) (s : State) : (updMport n f s).wire = s.wire := rfl
@[simp] theorem updMport_free (n : Nat) (f : MPort → MPort) (s : State) : (updMport n f s).free = s.free := rfl

/-! ## updRgt -/

@[simp] theorem updRgt_pending (f : Rgt → Rgt) (s : State) : (updRgt f s).pending = s.pending := rfl
@[simp] theorem updRgt_pins (f : Rgt → Rgt) (s : State) : (updRgt f s).pins = s.pins := rfl
@[simp] theorem updRgt_params (f : Rgt → Rgt) (s : State) : (updRgt f s).params = s.params := rfl
@[simp] theorem updRgt_wait (f : Rgt → Rgt) (s : State) : (updRgt f s).wait = s.wait := rfl
@[simp] theorem updRgt_stored (f : Rgt → Rgt) (s : State) : (updRgt f s).stored = s.stored := rfl
@[simp] theorem updRgt_planes (f : Rgt → Rgt) (s : State) : (updRgt f s).planes = s.planes := rfl
@[simp] theorem updRgt_mods (f : Rgt → Rgt) (s : State) : (updRgt f s).mods = s.mods := rfl
@[simp] theorem updRgt_meas (f : Rgt → Rgt) (s : State) : (updRgt f s).meas = s.meas := rfl
@[simp] theorem updRgt_meter (f : Rgt → Rgt) (s : State) : (updRgt f s).meter = s.meter := rfl
@[simp] theorem updRgt_rgt (f : Rgt → Rgt) (s : State) : (updRgt f s).rgt = f s.rgt := rfl
@[simp] theorem updRgt_prt (f : Rgt → Rgt) (s : State) : (updRgt f s).prt = s.prt := rfl
@[simp] theorem updRgt_isl (f : Rgt → Rgt) (s : State) : (updRgt f s).isl = s.isl := rfl
@[simp] theorem updRgt_host (f : Rgt → Rgt) (s : State) : (updRgt f s).host = s.host := rfl
@[simp] theorem updRgt_txn (f : Rgt → Rgt) (s : State) : (updRgt f s).txn = s.txn := rfl
@[simp] theorem updRgt_time (f : Rgt → Rgt) (s : State) : (updRgt f s).time = s.time := rfl
@[simp] theorem updRgt_clk (f : Rgt → Rgt) (s : State) : (updRgt f s).clk = s.clk := rfl
@[simp] theorem updRgt_eth0 (f : Rgt → Rgt) (s : State) : (updRgt f s).eth0 = s.eth0 := rfl
@[simp] theorem updRgt_eth1 (f : Rgt → Rgt) (s : State) : (updRgt f s).eth1 = s.eth1 := rfl
@[simp] theorem updRgt_replay (f : Rgt → Rgt) (s : State) : (updRgt f s).replay = s.replay := rfl
@[simp] theorem updRgt_acq (f : Rgt → Rgt) (s : State) : (updRgt f s).acq = s.acq := rfl
@[simp] theorem updRgt_ybus (f : Rgt → Rgt) (s : State) : (updRgt f s).ybus = s.ybus := rfl
@[simp] theorem updRgt_cols (f : Rgt → Rgt) (s : State) : (updRgt f s).cols = s.cols := rfl
@[simp] theorem updRgt_sums (f : Rgt → Rgt) (s : State) : (updRgt f s).sums = s.sums := rfl
@[simp] theorem updRgt_gfm (f : Rgt → Rgt) (s : State) : (updRgt f s).gfm = s.gfm := rfl
@[simp] theorem updRgt_msd (f : Rgt → Rgt) (s : State) : (updRgt f s).msd = s.msd := rfl
@[simp] theorem updRgt_red (f : Rgt → Rgt) (s : State) : (updRgt f s).red = s.red := rfl
@[simp] theorem updRgt_fw (f : Rgt → Rgt) (s : State) : (updRgt f s).fw = s.fw := rfl
@[simp] theorem updRgt_wire (f : Rgt → Rgt) (s : State) : (updRgt f s).wire = s.wire := rfl
@[simp] theorem updRgt_free (f : Rgt → Rgt) (s : State) : (updRgt f s).free = s.free := rfl

/-! ## updAcq -/

@[simp] theorem updAcq_pending (f : Acq → Acq) (s : State) : (updAcq f s).pending = s.pending := rfl
@[simp] theorem updAcq_pins (f : Acq → Acq) (s : State) : (updAcq f s).pins = s.pins := rfl
@[simp] theorem updAcq_params (f : Acq → Acq) (s : State) : (updAcq f s).params = s.params := rfl
@[simp] theorem updAcq_wait (f : Acq → Acq) (s : State) : (updAcq f s).wait = s.wait := rfl
@[simp] theorem updAcq_stored (f : Acq → Acq) (s : State) : (updAcq f s).stored = s.stored := rfl
@[simp] theorem updAcq_planes (f : Acq → Acq) (s : State) : (updAcq f s).planes = s.planes := rfl
@[simp] theorem updAcq_mods (f : Acq → Acq) (s : State) : (updAcq f s).mods = s.mods := rfl
@[simp] theorem updAcq_meas (f : Acq → Acq) (s : State) : (updAcq f s).meas = s.meas := rfl
@[simp] theorem updAcq_meter (f : Acq → Acq) (s : State) : (updAcq f s).meter = s.meter := rfl
@[simp] theorem updAcq_rgt (f : Acq → Acq) (s : State) : (updAcq f s).rgt = s.rgt := rfl
@[simp] theorem updAcq_prt (f : Acq → Acq) (s : State) : (updAcq f s).prt = s.prt := rfl
@[simp] theorem updAcq_isl (f : Acq → Acq) (s : State) : (updAcq f s).isl = s.isl := rfl
@[simp] theorem updAcq_host (f : Acq → Acq) (s : State) : (updAcq f s).host = s.host := rfl
@[simp] theorem updAcq_txn (f : Acq → Acq) (s : State) : (updAcq f s).txn = s.txn := rfl
@[simp] theorem updAcq_time (f : Acq → Acq) (s : State) : (updAcq f s).time = s.time := rfl
@[simp] theorem updAcq_clk (f : Acq → Acq) (s : State) : (updAcq f s).clk = s.clk := rfl
@[simp] theorem updAcq_eth0 (f : Acq → Acq) (s : State) : (updAcq f s).eth0 = s.eth0 := rfl
@[simp] theorem updAcq_eth1 (f : Acq → Acq) (s : State) : (updAcq f s).eth1 = s.eth1 := rfl
@[simp] theorem updAcq_replay (f : Acq → Acq) (s : State) : (updAcq f s).replay = s.replay := rfl
@[simp] theorem updAcq_acq (f : Acq → Acq) (s : State) : (updAcq f s).acq = f s.acq := rfl
@[simp] theorem updAcq_ybus (f : Acq → Acq) (s : State) : (updAcq f s).ybus = s.ybus := rfl
@[simp] theorem updAcq_cols (f : Acq → Acq) (s : State) : (updAcq f s).cols = s.cols := rfl
@[simp] theorem updAcq_sums (f : Acq → Acq) (s : State) : (updAcq f s).sums = s.sums := rfl
@[simp] theorem updAcq_gfm (f : Acq → Acq) (s : State) : (updAcq f s).gfm = s.gfm := rfl
@[simp] theorem updAcq_msd (f : Acq → Acq) (s : State) : (updAcq f s).msd = s.msd := rfl
@[simp] theorem updAcq_red (f : Acq → Acq) (s : State) : (updAcq f s).red = s.red := rfl
@[simp] theorem updAcq_fw (f : Acq → Acq) (s : State) : (updAcq f s).fw = s.fw := rfl
@[simp] theorem updAcq_wire (f : Acq → Acq) (s : State) : (updAcq f s).wire = s.wire := rfl
@[simp] theorem updAcq_free (f : Acq → Acq) (s : State) : (updAcq f s).free = s.free := rfl

/-! ## updTime -/

@[simp] theorem updTime_pending (f : Time → Time) (s : State) : (updTime f s).pending = s.pending := rfl
@[simp] theorem updTime_pins (f : Time → Time) (s : State) : (updTime f s).pins = s.pins := rfl
@[simp] theorem updTime_params (f : Time → Time) (s : State) : (updTime f s).params = s.params := rfl
@[simp] theorem updTime_wait (f : Time → Time) (s : State) : (updTime f s).wait = s.wait := rfl
@[simp] theorem updTime_stored (f : Time → Time) (s : State) : (updTime f s).stored = s.stored := rfl
@[simp] theorem updTime_planes (f : Time → Time) (s : State) : (updTime f s).planes = s.planes := rfl
@[simp] theorem updTime_mods (f : Time → Time) (s : State) : (updTime f s).mods = s.mods := rfl
@[simp] theorem updTime_meas (f : Time → Time) (s : State) : (updTime f s).meas = s.meas := rfl
@[simp] theorem updTime_meter (f : Time → Time) (s : State) : (updTime f s).meter = s.meter := rfl
@[simp] theorem updTime_rgt (f : Time → Time) (s : State) : (updTime f s).rgt = s.rgt := rfl
@[simp] theorem updTime_prt (f : Time → Time) (s : State) : (updTime f s).prt = s.prt := rfl
@[simp] theorem updTime_isl (f : Time → Time) (s : State) : (updTime f s).isl = s.isl := rfl
@[simp] theorem updTime_host (f : Time → Time) (s : State) : (updTime f s).host = s.host := rfl
@[simp] theorem updTime_txn (f : Time → Time) (s : State) : (updTime f s).txn = s.txn := rfl
@[simp] theorem updTime_time (f : Time → Time) (s : State) : (updTime f s).time = f s.time := rfl
@[simp] theorem updTime_clk (f : Time → Time) (s : State) : (updTime f s).clk = s.clk := rfl
@[simp] theorem updTime_eth0 (f : Time → Time) (s : State) : (updTime f s).eth0 = s.eth0 := rfl
@[simp] theorem updTime_eth1 (f : Time → Time) (s : State) : (updTime f s).eth1 = s.eth1 := rfl
@[simp] theorem updTime_replay (f : Time → Time) (s : State) : (updTime f s).replay = s.replay := rfl
@[simp] theorem updTime_acq (f : Time → Time) (s : State) : (updTime f s).acq = s.acq := rfl
@[simp] theorem updTime_ybus (f : Time → Time) (s : State) : (updTime f s).ybus = s.ybus := rfl
@[simp] theorem updTime_cols (f : Time → Time) (s : State) : (updTime f s).cols = s.cols := rfl
@[simp] theorem updTime_sums (f : Time → Time) (s : State) : (updTime f s).sums = s.sums := rfl
@[simp] theorem updTime_gfm (f : Time → Time) (s : State) : (updTime f s).gfm = s.gfm := rfl
@[simp] theorem updTime_msd (f : Time → Time) (s : State) : (updTime f s).msd = s.msd := rfl
@[simp] theorem updTime_red (f : Time → Time) (s : State) : (updTime f s).red = s.red := rfl
@[simp] theorem updTime_fw (f : Time → Time) (s : State) : (updTime f s).fw = s.fw := rfl
@[simp] theorem updTime_wire (f : Time → Time) (s : State) : (updTime f s).wire = s.wire := rfl
@[simp] theorem updTime_free (f : Time → Time) (s : State) : (updTime f s).free = s.free := rfl

/-! ## updYbus -/

@[simp] theorem updYbus_pending (f : Ybus → Ybus) (s : State) : (updYbus f s).pending = s.pending := rfl
@[simp] theorem updYbus_pins (f : Ybus → Ybus) (s : State) : (updYbus f s).pins = s.pins := rfl
@[simp] theorem updYbus_params (f : Ybus → Ybus) (s : State) : (updYbus f s).params = s.params := rfl
@[simp] theorem updYbus_wait (f : Ybus → Ybus) (s : State) : (updYbus f s).wait = s.wait := rfl
@[simp] theorem updYbus_stored (f : Ybus → Ybus) (s : State) : (updYbus f s).stored = s.stored := rfl
@[simp] theorem updYbus_planes (f : Ybus → Ybus) (s : State) : (updYbus f s).planes = s.planes := rfl
@[simp] theorem updYbus_mods (f : Ybus → Ybus) (s : State) : (updYbus f s).mods = s.mods := rfl
@[simp] theorem updYbus_meas (f : Ybus → Ybus) (s : State) : (updYbus f s).meas = s.meas := rfl
@[simp] theorem updYbus_meter (f : Ybus → Ybus) (s : State) : (updYbus f s).meter = s.meter := rfl
@[simp] theorem updYbus_rgt (f : Ybus → Ybus) (s : State) : (updYbus f s).rgt = s.rgt := rfl
@[simp] theorem updYbus_prt (f : Ybus → Ybus) (s : State) : (updYbus f s).prt = s.prt := rfl
@[simp] theorem updYbus_isl (f : Ybus → Ybus) (s : State) : (updYbus f s).isl = s.isl := rfl
@[simp] theorem updYbus_host (f : Ybus → Ybus) (s : State) : (updYbus f s).host = s.host := rfl
@[simp] theorem updYbus_txn (f : Ybus → Ybus) (s : State) : (updYbus f s).txn = s.txn := rfl
@[simp] theorem updYbus_time (f : Ybus → Ybus) (s : State) : (updYbus f s).time = s.time := rfl
@[simp] theorem updYbus_clk (f : Ybus → Ybus) (s : State) : (updYbus f s).clk = s.clk := rfl
@[simp] theorem updYbus_eth0 (f : Ybus → Ybus) (s : State) : (updYbus f s).eth0 = s.eth0 := rfl
@[simp] theorem updYbus_eth1 (f : Ybus → Ybus) (s : State) : (updYbus f s).eth1 = s.eth1 := rfl
@[simp] theorem updYbus_replay (f : Ybus → Ybus) (s : State) : (updYbus f s).replay = s.replay := rfl
@[simp] theorem updYbus_acq (f : Ybus → Ybus) (s : State) : (updYbus f s).acq = s.acq := rfl
@[simp] theorem updYbus_ybus (f : Ybus → Ybus) (s : State) : (updYbus f s).ybus = f s.ybus := rfl
@[simp] theorem updYbus_cols (f : Ybus → Ybus) (s : State) : (updYbus f s).cols = s.cols := rfl
@[simp] theorem updYbus_sums (f : Ybus → Ybus) (s : State) : (updYbus f s).sums = s.sums := rfl
@[simp] theorem updYbus_gfm (f : Ybus → Ybus) (s : State) : (updYbus f s).gfm = s.gfm := rfl
@[simp] theorem updYbus_msd (f : Ybus → Ybus) (s : State) : (updYbus f s).msd = s.msd := rfl
@[simp] theorem updYbus_red (f : Ybus → Ybus) (s : State) : (updYbus f s).red = s.red := rfl
@[simp] theorem updYbus_fw (f : Ybus → Ybus) (s : State) : (updYbus f s).fw = s.fw := rfl
@[simp] theorem updYbus_wire (f : Ybus → Ybus) (s : State) : (updYbus f s).wire = s.wire := rfl
@[simp] theorem updYbus_free (f : Ybus → Ybus) (s : State) : (updYbus f s).free = s.free := rfl

/-! ## updGfm -/

@[simp] theorem updGfm_pending (f : Gfm → Gfm) (s : State) : (updGfm f s).pending = s.pending := rfl
@[simp] theorem updGfm_pins (f : Gfm → Gfm) (s : State) : (updGfm f s).pins = s.pins := rfl
@[simp] theorem updGfm_params (f : Gfm → Gfm) (s : State) : (updGfm f s).params = s.params := rfl
@[simp] theorem updGfm_wait (f : Gfm → Gfm) (s : State) : (updGfm f s).wait = s.wait := rfl
@[simp] theorem updGfm_stored (f : Gfm → Gfm) (s : State) : (updGfm f s).stored = s.stored := rfl
@[simp] theorem updGfm_planes (f : Gfm → Gfm) (s : State) : (updGfm f s).planes = s.planes := rfl
@[simp] theorem updGfm_mods (f : Gfm → Gfm) (s : State) : (updGfm f s).mods = s.mods := rfl
@[simp] theorem updGfm_meas (f : Gfm → Gfm) (s : State) : (updGfm f s).meas = s.meas := rfl
@[simp] theorem updGfm_meter (f : Gfm → Gfm) (s : State) : (updGfm f s).meter = s.meter := rfl
@[simp] theorem updGfm_rgt (f : Gfm → Gfm) (s : State) : (updGfm f s).rgt = s.rgt := rfl
@[simp] theorem updGfm_prt (f : Gfm → Gfm) (s : State) : (updGfm f s).prt = s.prt := rfl
@[simp] theorem updGfm_isl (f : Gfm → Gfm) (s : State) : (updGfm f s).isl = s.isl := rfl
@[simp] theorem updGfm_host (f : Gfm → Gfm) (s : State) : (updGfm f s).host = s.host := rfl
@[simp] theorem updGfm_txn (f : Gfm → Gfm) (s : State) : (updGfm f s).txn = s.txn := rfl
@[simp] theorem updGfm_time (f : Gfm → Gfm) (s : State) : (updGfm f s).time = s.time := rfl
@[simp] theorem updGfm_clk (f : Gfm → Gfm) (s : State) : (updGfm f s).clk = s.clk := rfl
@[simp] theorem updGfm_eth0 (f : Gfm → Gfm) (s : State) : (updGfm f s).eth0 = s.eth0 := rfl
@[simp] theorem updGfm_eth1 (f : Gfm → Gfm) (s : State) : (updGfm f s).eth1 = s.eth1 := rfl
@[simp] theorem updGfm_replay (f : Gfm → Gfm) (s : State) : (updGfm f s).replay = s.replay := rfl
@[simp] theorem updGfm_acq (f : Gfm → Gfm) (s : State) : (updGfm f s).acq = s.acq := rfl
@[simp] theorem updGfm_ybus (f : Gfm → Gfm) (s : State) : (updGfm f s).ybus = s.ybus := rfl
@[simp] theorem updGfm_cols (f : Gfm → Gfm) (s : State) : (updGfm f s).cols = s.cols := rfl
@[simp] theorem updGfm_sums (f : Gfm → Gfm) (s : State) : (updGfm f s).sums = s.sums := rfl
@[simp] theorem updGfm_gfm (f : Gfm → Gfm) (s : State) : (updGfm f s).gfm = f s.gfm := rfl
@[simp] theorem updGfm_msd (f : Gfm → Gfm) (s : State) : (updGfm f s).msd = s.msd := rfl
@[simp] theorem updGfm_red (f : Gfm → Gfm) (s : State) : (updGfm f s).red = s.red := rfl
@[simp] theorem updGfm_fw (f : Gfm → Gfm) (s : State) : (updGfm f s).fw = s.fw := rfl
@[simp] theorem updGfm_wire (f : Gfm → Gfm) (s : State) : (updGfm f s).wire = s.wire := rfl
@[simp] theorem updGfm_free (f : Gfm → Gfm) (s : State) : (updGfm f s).free = s.free := rfl

/-! ## updMsd -/

@[simp] theorem updMsd_pending (f : Msd → Msd) (s : State) : (updMsd f s).pending = s.pending := rfl
@[simp] theorem updMsd_pins (f : Msd → Msd) (s : State) : (updMsd f s).pins = s.pins := rfl
@[simp] theorem updMsd_params (f : Msd → Msd) (s : State) : (updMsd f s).params = s.params := rfl
@[simp] theorem updMsd_wait (f : Msd → Msd) (s : State) : (updMsd f s).wait = s.wait := rfl
@[simp] theorem updMsd_stored (f : Msd → Msd) (s : State) : (updMsd f s).stored = s.stored := rfl
@[simp] theorem updMsd_planes (f : Msd → Msd) (s : State) : (updMsd f s).planes = s.planes := rfl
@[simp] theorem updMsd_mods (f : Msd → Msd) (s : State) : (updMsd f s).mods = s.mods := rfl
@[simp] theorem updMsd_meas (f : Msd → Msd) (s : State) : (updMsd f s).meas = s.meas := rfl
@[simp] theorem updMsd_meter (f : Msd → Msd) (s : State) : (updMsd f s).meter = s.meter := rfl
@[simp] theorem updMsd_rgt (f : Msd → Msd) (s : State) : (updMsd f s).rgt = s.rgt := rfl
@[simp] theorem updMsd_prt (f : Msd → Msd) (s : State) : (updMsd f s).prt = s.prt := rfl
@[simp] theorem updMsd_isl (f : Msd → Msd) (s : State) : (updMsd f s).isl = s.isl := rfl
@[simp] theorem updMsd_host (f : Msd → Msd) (s : State) : (updMsd f s).host = s.host := rfl
@[simp] theorem updMsd_txn (f : Msd → Msd) (s : State) : (updMsd f s).txn = s.txn := rfl
@[simp] theorem updMsd_time (f : Msd → Msd) (s : State) : (updMsd f s).time = s.time := rfl
@[simp] theorem updMsd_clk (f : Msd → Msd) (s : State) : (updMsd f s).clk = s.clk := rfl
@[simp] theorem updMsd_eth0 (f : Msd → Msd) (s : State) : (updMsd f s).eth0 = s.eth0 := rfl
@[simp] theorem updMsd_eth1 (f : Msd → Msd) (s : State) : (updMsd f s).eth1 = s.eth1 := rfl
@[simp] theorem updMsd_replay (f : Msd → Msd) (s : State) : (updMsd f s).replay = s.replay := rfl
@[simp] theorem updMsd_acq (f : Msd → Msd) (s : State) : (updMsd f s).acq = s.acq := rfl
@[simp] theorem updMsd_ybus (f : Msd → Msd) (s : State) : (updMsd f s).ybus = s.ybus := rfl
@[simp] theorem updMsd_cols (f : Msd → Msd) (s : State) : (updMsd f s).cols = s.cols := rfl
@[simp] theorem updMsd_sums (f : Msd → Msd) (s : State) : (updMsd f s).sums = s.sums := rfl
@[simp] theorem updMsd_gfm (f : Msd → Msd) (s : State) : (updMsd f s).gfm = s.gfm := rfl
@[simp] theorem updMsd_msd (f : Msd → Msd) (s : State) : (updMsd f s).msd = f s.msd := rfl
@[simp] theorem updMsd_red (f : Msd → Msd) (s : State) : (updMsd f s).red = s.red := rfl
@[simp] theorem updMsd_fw (f : Msd → Msd) (s : State) : (updMsd f s).fw = s.fw := rfl
@[simp] theorem updMsd_wire (f : Msd → Msd) (s : State) : (updMsd f s).wire = s.wire := rfl
@[simp] theorem updMsd_free (f : Msd → Msd) (s : State) : (updMsd f s).free = s.free := rfl

/-! ## updRed -/

@[simp] theorem updRed_pending (f : Red → Red) (s : State) : (updRed f s).pending = s.pending := rfl
@[simp] theorem updRed_pins (f : Red → Red) (s : State) : (updRed f s).pins = s.pins := rfl
@[simp] theorem updRed_params (f : Red → Red) (s : State) : (updRed f s).params = s.params := rfl
@[simp] theorem updRed_wait (f : Red → Red) (s : State) : (updRed f s).wait = s.wait := rfl
@[simp] theorem updRed_stored (f : Red → Red) (s : State) : (updRed f s).stored = s.stored := rfl
@[simp] theorem updRed_planes (f : Red → Red) (s : State) : (updRed f s).planes = s.planes := rfl
@[simp] theorem updRed_mods (f : Red → Red) (s : State) : (updRed f s).mods = s.mods := rfl
@[simp] theorem updRed_meas (f : Red → Red) (s : State) : (updRed f s).meas = s.meas := rfl
@[simp] theorem updRed_meter (f : Red → Red) (s : State) : (updRed f s).meter = s.meter := rfl
@[simp] theorem updRed_rgt (f : Red → Red) (s : State) : (updRed f s).rgt = s.rgt := rfl
@[simp] theorem updRed_prt (f : Red → Red) (s : State) : (updRed f s).prt = s.prt := rfl
@[simp] theorem updRed_isl (f : Red → Red) (s : State) : (updRed f s).isl = s.isl := rfl
@[simp] theorem updRed_host (f : Red → Red) (s : State) : (updRed f s).host = s.host := rfl
@[simp] theorem updRed_txn (f : Red → Red) (s : State) : (updRed f s).txn = s.txn := rfl
@[simp] theorem updRed_time (f : Red → Red) (s : State) : (updRed f s).time = s.time := rfl
@[simp] theorem updRed_clk (f : Red → Red) (s : State) : (updRed f s).clk = s.clk := rfl
@[simp] theorem updRed_eth0 (f : Red → Red) (s : State) : (updRed f s).eth0 = s.eth0 := rfl
@[simp] theorem updRed_eth1 (f : Red → Red) (s : State) : (updRed f s).eth1 = s.eth1 := rfl
@[simp] theorem updRed_replay (f : Red → Red) (s : State) : (updRed f s).replay = s.replay := rfl
@[simp] theorem updRed_acq (f : Red → Red) (s : State) : (updRed f s).acq = s.acq := rfl
@[simp] theorem updRed_ybus (f : Red → Red) (s : State) : (updRed f s).ybus = s.ybus := rfl
@[simp] theorem updRed_cols (f : Red → Red) (s : State) : (updRed f s).cols = s.cols := rfl
@[simp] theorem updRed_sums (f : Red → Red) (s : State) : (updRed f s).sums = s.sums := rfl
@[simp] theorem updRed_gfm (f : Red → Red) (s : State) : (updRed f s).gfm = s.gfm := rfl
@[simp] theorem updRed_msd (f : Red → Red) (s : State) : (updRed f s).msd = s.msd := rfl
@[simp] theorem updRed_red (f : Red → Red) (s : State) : (updRed f s).red = f s.red := rfl
@[simp] theorem updRed_fw (f : Red → Red) (s : State) : (updRed f s).fw = s.fw := rfl
@[simp] theorem updRed_wire (f : Red → Red) (s : State) : (updRed f s).wire = s.wire := rfl
@[simp] theorem updRed_free (f : Red → Red) (s : State) : (updRed f s).free = s.free := rfl

/-! ## updFw -/

@[simp] theorem updFw_pending (f : Fw → Fw) (s : State) : (updFw f s).pending = s.pending := rfl
@[simp] theorem updFw_pins (f : Fw → Fw) (s : State) : (updFw f s).pins = s.pins := rfl
@[simp] theorem updFw_params (f : Fw → Fw) (s : State) : (updFw f s).params = s.params := rfl
@[simp] theorem updFw_wait (f : Fw → Fw) (s : State) : (updFw f s).wait = s.wait := rfl
@[simp] theorem updFw_stored (f : Fw → Fw) (s : State) : (updFw f s).stored = s.stored := rfl
@[simp] theorem updFw_planes (f : Fw → Fw) (s : State) : (updFw f s).planes = s.planes := rfl
@[simp] theorem updFw_mods (f : Fw → Fw) (s : State) : (updFw f s).mods = s.mods := rfl
@[simp] theorem updFw_meas (f : Fw → Fw) (s : State) : (updFw f s).meas = s.meas := rfl
@[simp] theorem updFw_meter (f : Fw → Fw) (s : State) : (updFw f s).meter = s.meter := rfl
@[simp] theorem updFw_rgt (f : Fw → Fw) (s : State) : (updFw f s).rgt = s.rgt := rfl
@[simp] theorem updFw_prt (f : Fw → Fw) (s : State) : (updFw f s).prt = s.prt := rfl
@[simp] theorem updFw_isl (f : Fw → Fw) (s : State) : (updFw f s).isl = s.isl := rfl
@[simp] theorem updFw_host (f : Fw → Fw) (s : State) : (updFw f s).host = s.host := rfl
@[simp] theorem updFw_txn (f : Fw → Fw) (s : State) : (updFw f s).txn = s.txn := rfl
@[simp] theorem updFw_time (f : Fw → Fw) (s : State) : (updFw f s).time = s.time := rfl
@[simp] theorem updFw_clk (f : Fw → Fw) (s : State) : (updFw f s).clk = s.clk := rfl
@[simp] theorem updFw_eth0 (f : Fw → Fw) (s : State) : (updFw f s).eth0 = s.eth0 := rfl
@[simp] theorem updFw_eth1 (f : Fw → Fw) (s : State) : (updFw f s).eth1 = s.eth1 := rfl
@[simp] theorem updFw_replay (f : Fw → Fw) (s : State) : (updFw f s).replay = s.replay := rfl
@[simp] theorem updFw_acq (f : Fw → Fw) (s : State) : (updFw f s).acq = s.acq := rfl
@[simp] theorem updFw_ybus (f : Fw → Fw) (s : State) : (updFw f s).ybus = s.ybus := rfl
@[simp] theorem updFw_cols (f : Fw → Fw) (s : State) : (updFw f s).cols = s.cols := rfl
@[simp] theorem updFw_sums (f : Fw → Fw) (s : State) : (updFw f s).sums = s.sums := rfl
@[simp] theorem updFw_gfm (f : Fw → Fw) (s : State) : (updFw f s).gfm = s.gfm := rfl
@[simp] theorem updFw_msd (f : Fw → Fw) (s : State) : (updFw f s).msd = s.msd := rfl
@[simp] theorem updFw_red (f : Fw → Fw) (s : State) : (updFw f s).red = s.red := rfl
@[simp] theorem updFw_fw (f : Fw → Fw) (s : State) : (updFw f s).fw = f s.fw := rfl
@[simp] theorem updFw_wire (f : Fw → Fw) (s : State) : (updFw f s).wire = s.wire := rfl
@[simp] theorem updFw_free (f : Fw → Fw) (s : State) : (updFw f s).free = s.free := rfl

/-! ## Parameters -/

/-- A parameter reads as the word last written to it. -/
@[simp] theorem par_setPar_same (id v : Nat) (s : State) : par (setPar id v s) id = v % 2 ^ 32 := by
  simp [par, setPar, BitVec.toNat_ofNat]

/-- Writing one parameter leaves the others. -/
theorem par_setPar_other {id j : Nat} (v : Nat) (s : State) (h : j ≠ id) : par (setPar id v s) j = par s j := by
  simp [par, setPar, tabGet_set_other _ _ _ h]

/-- A parameter depends on the parameter store alone. -/
theorem par_congr {s t : State} (h : t.params = s.params) (id : Nat) : par t id = par s id := by simp [par, h]

theorem parBit_congr {s t : State} (h : t.params = s.params) (id b : Nat) : parBit t id b = parBit s id b := by
  simp [parBit, par_congr h]

/-- A parameter word has 32 bits. -/
theorem par_lt (s : State) (id : Nat) : par s id < 2 ^ 32 := by
  simp only [par]; exact BitVec.isLt _

/-- Setting a bit of a parameter shows it set. -/
theorem parBit_setParBit (id b : Nat) (s : State) (hb : b < 32) : parBit (setParBit id b true s) id b = true := by
  have h := par_lt s id
  have h2 : 2 ^ b < 2 ^ 32 := Nat.pow_lt_pow_right (by omega) hb
  simp only [parBit, setParBit, if_true, par_setPar_same, Nat.mod_eq_of_lt (Nat.or_lt_two_pow h h2), Nat.testBit_or,
    Nat.testBit_two_pow_self, Bool.or_true]

/-! ## Lanes and modulators -/

@[simp] theorem lane_setLane_same (p : Plane) (l : Lane) (s : State) : lane (setLane p l s) p = l := by cases p <;> rfl

theorem lane_setLane_other {p q : Plane} (l : Lane) (s : State) (h : q ≠ p) : lane (setLane p l s) q = lane s q := by
  cases p <;> cases q <;> first | rfl | exact absurd rfl h

@[simp] theorem lane_updLane_same (p : Plane) (f : Lane → Lane) (s : State) : lane (updLane p f s) p = f (lane s p) := by
  simp [updLane]

theorem lane_updLane_other {p q : Plane} (f : Lane → Lane) (s : State) (h : q ≠ p) : lane (updLane p f s) q = lane s q := by
  simp [updLane, lane_setLane_other _ _ h]

theorem lane_congr {s t : State} (h : t.planes = s.planes) (p : Plane) : lane t p = lane s p := by
  cases p <;> simp [lane, h]

@[simp] theorem modr_setMod_same (p : Plane) (m : Mod) (s : State) : modr (setMod p m s) p = m := by cases p <;> rfl

theorem modr_setMod_other {p q : Plane} (m : Mod) (s : State) (h : q ≠ p) : modr (setMod p m s) q = modr s q := by
  cases p <;> cases q <;> first | rfl | exact absurd rfl h

@[simp] theorem modr_updMod_same (p : Plane) (f : Mod → Mod) (s : State) : modr (updMod p f s) p = f (modr s p) := by
  simp [updMod]

theorem modr_congr {s t : State} (h : t.mods = s.mods) (p : Plane) : modr t p = modr s p := by
  cases p <;> simp [modr, h]

/-- Writing a measurement port shows it there. -/
@[simp] theorem mport_setMport_same (n : Nat) (m : MPort) (s : State) : mport (setMport n m s) n = m := by
  simp [mport, setMport]

theorem mport_setMport_other {n j : Nat} (m : MPort) (s : State) (h : j ≠ n) : mport (setMport n m s) j = mport s j := by
  simp [mport, setMport, tabGet_set_other _ _ _ h]

end Sys2Proof.Machine
end

