-- ==== Sys2Proof/Laws/Events.lean ====
section
/-! SUPPORT. Sys2Proof/Laws/Events.lean: what the sending of events can change (the event counters, the host's queue and the wire)
and what raising a flag, completing a handle, answering a command and entering a plane state leave as it was. -/

set_option Elab.async false

namespace Sys2Proof.Machine

/-! ## Parameter writes by bits and counts -/

@[simp] theorem setParBit_pending (id b : Nat) (on : Bool) (s : State) : (setParBit id b on s).pending = s.pending := by rfl
@[simp] theorem setParBit_pins (id b : Nat) (on : Bool) (s : State) : (setParBit id b on s).pins = s.pins := by rfl
@[simp] theorem setParBit_wait (id b : Nat) (on : Bool) (s : State) : (setParBit id b on s).wait = s.wait := by rfl
@[simp] theorem setParBit_stored (id b : Nat) (on : Bool) (s : State) : (setParBit id b on s).stored = s.stored := by rfl
@[simp] theorem setParBit_planes (id b : Nat) (on : Bool) (s : State) : (setParBit id b on s).planes = s.planes := by rfl
@[simp] theorem setParBit_mods (id b : Nat) (on : Bool) (s : State) : (setParBit id b on s).mods = s.mods := by rfl
@[simp] theorem setParBit_meas (id b : Nat) (on : Bool) (s : State) : (setParBit id b on s).meas = s.meas := by rfl
@[simp] theorem setParBit_meter (id b : Nat) (on : Bool) (s : State) : (setParBit id b on s).meter = s.meter := by rfl
@[simp] theorem setParBit_rgt (id b : Nat) (on : Bool) (s : State) : (setParBit id b on s).rgt = s.rgt := by rfl
@[simp] theorem setParBit_prt (id b : Nat) (on : Bool) (s : State) : (setParBit id b on s).prt = s.prt := by rfl
@[simp] theorem setParBit_isl (id b : Nat) (on : Bool) (s : State) : (setParBit id b on s).isl = s.isl := by rfl
@[simp] theorem setParBit_host (id b : Nat) (on : Bool) (s : State) : (setParBit id b on s).host = s.host := by rfl
@[simp] theorem setParBit_txn (id b : Nat) (on : Bool) (s : State) : (setParBit id b on s).txn = s.txn := by rfl
@[simp] theorem setParBit_time (id b : Nat) (on : Bool) (s : State) : (setParBit id b on s).time = s.time := by rfl
@[simp] theorem setParBit_clk (id b : Nat) (on : Bool) (s : State) : (setParBit id b on s).clk = s.clk := by rfl
@[simp] theorem setParBit_eth0 (id b : Nat) (on : Bool) (s : State) : (setParBit id b on s).eth0 = s.eth0 := by rfl
@[simp] theorem setParBit_eth1 (id b : Nat) (on : Bool) (s : State) : (setParBit id b on s).eth1 = s.eth1 := by rfl
@[simp] theorem setParBit_replay (id b : Nat) (on : Bool) (s : State) : (setParBit id b on s).replay = s.replay := by rfl
@[simp] theorem setParBit_acq (id b : Nat) (on : Bool) (s : State) : (setParBit id b on s).acq = s.acq := by rfl
@[simp] theorem setParBit_ybus (id b : Nat) (on : Bool) (s : State) : (setParBit id b on s).ybus = s.ybus := by rfl
@[simp] theorem setParBit_cols (id b : Nat) (on : Bool) (s : State) : (setParBit id b on s).cols = s.cols := by rfl
@[simp] theorem setParBit_sums (id b : Nat) (on : Bool) (s : State) : (setParBit id b on s).sums = s.sums := by rfl
@[simp] theorem setParBit_gfm (id b : Nat) (on : Bool) (s : State) : (setParBit id b on s).gfm = s.gfm := by rfl
@[simp] theorem setParBit_msd (id b : Nat) (on : Bool) (s : State) : (setParBit id b on s).msd = s.msd := by rfl
@[simp] theorem setParBit_red (id b : Nat) (on : Bool) (s : State) : (setParBit id b on s).red = s.red := by rfl
@[simp] theorem setParBit_fw (id b : Nat) (on : Bool) (s : State) : (setParBit id b on s).fw = s.fw := by rfl
@[simp] theorem setParBit_wire (id b : Nat) (on : Bool) (s : State) : (setParBit id b on s).wire = s.wire := by rfl
@[simp] theorem setParBit_free (id b : Nat) (on : Bool) (s : State) : (setParBit id b on s).free = s.free := by rfl

@[simp] theorem setParBits_pending (id lo n v : Nat) (s : State) : (setParBits id lo n v s).pending = s.pending := by rfl
@[simp] theorem setParBits_pins (id lo n v : Nat) (s : State) : (setParBits id lo n v s).pins = s.pins := by rfl
@[simp] theorem setParBits_wait (id lo n v : Nat) (s : State) : (setParBits id lo n v s).wait = s.wait := by rfl
@[simp] theorem setParBits_stored (id lo n v : Nat) (s : State) : (setParBits id lo n v s).stored = s.stored := by rfl
@[simp] theorem setParBits_planes (id lo n v : Nat) (s : State) : (setParBits id lo n v s).planes = s.planes := by rfl
@[simp] theorem setParBits_mods (id lo n v : Nat) (s : State) : (setParBits id lo n v s).mods = s.mods := by rfl
@[simp] theorem setParBits_meas (id lo n v : Nat) (s : State) : (setParBits id lo n v s).meas = s.meas := by rfl
@[simp] theorem setParBits_meter (id lo n v : Nat) (s : State) : (setParBits id lo n v s).meter = s.meter := by rfl
@[simp] theorem setParBits_rgt (id lo n v : Nat) (s : State) : (setParBits id lo n v s).rgt = s.rgt := by rfl
@[simp] theorem setParBits_prt (id lo n v : Nat) (s : State) : (setParBits id lo n v s).prt = s.prt := by rfl
@[simp] theorem setParBits_isl (id lo n v : Nat) (s : State) : (setParBits id lo n v s).isl = s.isl := by rfl
@[simp] theorem setParBits_host (id lo n v : Nat) (s : State) : (setParBits id lo n v s).host = s.host := by rfl
@[simp] theorem setParBits_txn (id lo n v : Nat) (s : State) : (setParBits id lo n v s).txn = s.txn := by rfl
@[simp] theorem setParBits_time (id lo n v : Nat) (s : State) : (setParBits id lo n v s).time = s.time := by rfl
@[simp] theorem setParBits_clk (id lo n v : Nat) (s : State) : (setParBits id lo n v s).clk = s.clk := by rfl
@[simp] theorem setParBits_eth0 (id lo n v : Nat) (s : State) : (setParBits id lo n v s).eth0 = s.eth0 := by rfl
@[simp] theorem setParBits_eth1 (id lo n v : Nat) (s : State) : (setParBits id lo n v s).eth1 = s.eth1 := by rfl
@[simp] theorem setParBits_replay (id lo n v : Nat) (s : State) : (setParBits id lo n v s).replay = s.replay := by rfl
@[simp] theorem setParBits_acq (id lo n v : Nat) (s : State) : (setParBits id lo n v s).acq = s.acq := by rfl
@[simp] theorem setParBits_ybus (id lo n v : Nat) (s : State) : (setParBits id lo n v s).ybus = s.ybus := by rfl
@[simp] theorem setParBits_cols (id lo n v : Nat) (s : State) : (setParBits id lo n v s).cols = s.cols := by rfl
@[simp] theorem setParBits_sums (id lo n v : Nat) (s : State) : (setParBits id lo n v s).sums = s.sums := by rfl
@[simp] theorem setParBits_gfm (id lo n v : Nat) (s : State) : (setParBits id lo n v s).gfm = s.gfm := by rfl
@[simp] theorem setParBits_msd (id lo n v : Nat) (s : State) : (setParBits id lo n v s).msd = s.msd := by rfl
@[simp] theorem setParBits_red (id lo n v : Nat) (s : State) : (setParBits id lo n v s).red = s.red := by rfl
@[simp] theorem setParBits_fw (id lo n v : Nat) (s : State) : (setParBits id lo n v s).fw = s.fw := by rfl
@[simp] theorem setParBits_wire (id lo n v : Nat) (s : State) : (setParBits id lo n v s).wire = s.wire := by rfl
@[simp] theorem setParBits_free (id lo n v : Nat) (s : State) : (setParBits id lo n v s).free = s.free := by rfl

@[simp] theorem count_pending (id : Nat) (s : State) : (count id s).pending = s.pending := by rfl
@[simp] theorem count_pins (id : Nat) (s : State) : (count id s).pins = s.pins := by rfl
@[simp] theorem count_wait (id : Nat) (s : State) : (count id s).wait = s.wait := by rfl
@[simp] theorem count_stored (id : Nat) (s : State) : (count id s).stored = s.stored := by rfl
@[simp] theorem count_planes (id : Nat) (s : State) : (count id s).planes = s.planes := by rfl
@[simp] theorem count_mods (id : Nat) (s : State) : (count id s).mods = s.mods := by rfl
@[simp] theorem count_meas (id : Nat) (s : State) : (count id s).meas = s.meas := by rfl
@[simp] theorem count_meter (id : Nat) (s : State) : (count id s).meter = s.meter := by rfl
@[simp] theorem count_rgt (id : Nat) (s : State) : (count id s).rgt = s.rgt := by rfl
@[simp] theorem count_prt (id : Nat) (s : State) : (count id s).prt = s.prt := by rfl
@[simp] theorem count_isl (id : Nat) (s : State) : (count id s).isl = s.isl := by rfl
@[simp] theorem count_host (id : Nat) (s : State) : (count id s).host = s.host := by rfl
@[simp] theorem count_txn (id : Nat) (s : State) : (count id s).txn = s.txn := by rfl
@[simp] theorem count_time (id : Nat) (s : State) : (count id s).time = s.time := by rfl
@[simp] theorem count_clk (id : Nat) (s : State) : (count id s).clk = s.clk := by rfl
@[simp] theorem count_eth0 (id : Nat) (s : State) : (count id s).eth0 = s.eth0 := by rfl
@[simp] theorem count_eth1 (id : Nat) (s : State) : (count id s).eth1 = s.eth1 := by rfl
@[simp] theorem count_replay (id : Nat) (s : State) : (count id s).replay = s.replay := by rfl
@[simp] theorem count_acq (id : Nat) (s : State) : (count id s).acq = s.acq := by rfl
@[simp] theorem count_ybus (id : Nat) (s : State) : (count id s).ybus = s.ybus := by rfl
@[simp] theorem count_cols (id : Nat) (s : State) : (count id s).cols = s.cols := by rfl
@[simp] theorem count_sums (id : Nat) (s : State) : (count id s).sums = s.sums := by rfl
@[simp] theorem count_gfm (id : Nat) (s : State) : (count id s).gfm = s.gfm := by rfl
@[simp] theorem count_msd (id : Nat) (s : State) : (count id s).msd = s.msd := by rfl
@[simp] theorem count_red (id : Nat) (s : State) : (count id s).red = s.red := by rfl
@[simp] theorem count_fw (id : Nat) (s : State) : (count id s).fw = s.fw := by rfl
@[simp] theorem count_wire (id : Nat) (s : State) : (count id s).wire = s.wire := by rfl
@[simp] theorem count_free (id : Nat) (s : State) : (count id s).free = s.free := by rfl

theorem par_setParBit_other {id j : Nat} (b : Nat) (on : Bool) (s : State) (h : j ≠ id) : par (setParBit id b on s) j = par s j :=
  par_setPar_other _ _ h

theorem par_setParBits_other {id j : Nat} (lo n v : Nat) (s : State) (h : j ≠ id) : par (setParBits id lo n v s) j = par s j :=
  par_setPar_other _ _ h

theorem par_count_other {id j : Nat} (s : State) (h : j ≠ id) : par (count id s) j = par s j := par_setPar_other _ _ h

theorem par_count (id : Nat) (s : State) (h : par s id < 65535) : par (count id s) id = par s id + 1 := by
  have h1 : par s id % 65536 ≠ 65535 := by omega
  simp only [count, if_neg h1, par_setPar_same]
  omega

@[simp] theorem par_updHost (f : HostSt → HostSt) (s : State) (id : Nat) : par (updHost f s) id = par s id := rfl
@[simp] theorem par_updPrt (f : Prt → Prt) (s : State) (id : Nat) : par (updPrt f s) id = par s id := rfl
@[simp] theorem par_setLane (p : Plane) (l : Lane) (s : State) (id : Nat) : par (setLane p l s) id = par s id := rfl
@[simp] theorem par_updLane (p : Plane) (f : Lane → Lane) (s : State) (id : Nat) : par (updLane p f s) id = par s id := rfl
@[simp] theorem par_setMod (p : Plane) (m : Mod) (s : State) (id : Nat) : par (setMod p m s) id = par s id := rfl
@[simp] theorem par_updMod (p : Plane) (f : Mod → Mod) (s : State) (id : Nat) : par (updMod p f s) id = par s id := rfl
@[simp] theorem par_emit (w : Wire) (s : State) (id : Nat) : par (emit w s) id = par s id := rfl
@[simp] theorem lane_updHost (f : HostSt → HostSt) (s : State) (p : Plane) : lane (updHost f s) p = lane s p := by cases p <;> rfl
@[simp] theorem lane_updPrt (f : Prt → Prt) (s : State) (p : Plane) : lane (updPrt f s) p = lane s p := by cases p <;> rfl
@[simp] theorem lane_setPar (id v : Nat) (s : State) (p : Plane) : lane (setPar id v s) p = lane s p := by cases p <;> rfl
@[simp] theorem lane_setMod (q : Plane) (m : Mod) (s : State) (p : Plane) : lane (setMod q m s) p = lane s p := by cases p <;> rfl
@[simp] theorem lane_updMod (q : Plane) (f : Mod → Mod) (s : State) (p : Plane) : lane (updMod q f s) p = lane s p := by
  cases p <;> rfl
@[simp] theorem modr_updHost (f : HostSt → HostSt) (s : State) (p : Plane) : modr (updHost f s) p = modr s p := by cases p <;> rfl
@[simp] theorem modr_updPrt (f : Prt → Prt) (s : State) (p : Plane) : modr (updPrt f s) p = modr s p := by cases p <;> rfl
@[simp] theorem modr_setPar (id v : Nat) (s : State) (p : Plane) : modr (setPar id v s) p = modr s p := by cases p <;> rfl
@[simp] theorem modr_setLane (q : Plane) (l : Lane) (s : State) (p : Plane) : modr (setLane q l s) p = modr s p := by cases p <;> rfl
@[simp] theorem modr_updLane (q : Plane) (f : Lane → Lane) (s : State) (p : Plane) : modr (updLane q f s) p = modr s p := by
  cases p <;> rfl
@[simp] theorem lane_count (id : Nat) (s : State) (p : Plane) : lane (count id s) p = lane s p := lane_congr (by simp) p
@[simp] theorem modr_count (id : Nat) (s : State) (p : Plane) : modr (count id s) p = modr s p := modr_congr (by simp) p
@[simp] theorem lane_setParBit (id b : Nat) (on : Bool) (s : State) (p : Plane) : lane (setParBit id b on s) p = lane s p := lane_congr (by simp) p
@[simp] theorem modr_setParBit (id b : Nat) (on : Bool) (s : State) (p : Plane) : modr (setParBit id b on s) p = modr s p := modr_congr (by simp) p
@[simp] theorem lane_setParBits (id lo n v : Nat) (s : State) (p : Plane) : lane (setParBits id lo n v s) p = lane s p := lane_congr (by simp) p
@[simp] theorem modr_setParBits (id lo n v : Nat) (s : State) (p : Plane) : modr (setParBits id lo n v s) p = modr s p := modr_congr (by simp) p
@[simp] theorem lane_emit (w : Wire) (s : State) (p : Plane) : lane (emit w s) p = lane s p := lane_congr (by simp) p
@[simp] theorem modr_emit (w : Wire) (s : State) (p : Plane) : modr (emit w s) p = modr s p := modr_congr (by simp) p

/-! ## What an event can change -/

@[simp] theorem setChan_pending (c : Chan) (k : ChanSt) (s : State) : (setChan c k s).pending = s.pending := by cases c <;> rfl
@[simp] theorem setChan_pins (c : Chan) (k : ChanSt) (s : State) : (setChan c k s).pins = s.pins := by cases c <;> rfl
@[simp] theorem setChan_params (c : Chan) (k : ChanSt) (s : State) : (setChan c k s).params = s.params := by cases c <;> rfl
@[simp] theorem setChan_wait (c : Chan) (k : ChanSt) (s : State) : (setChan c k s).wait = s.wait := by cases c <;> rfl
@[simp] theorem setChan_stored (c : Chan) (k : ChanSt) (s : State) : (setChan c k s).stored = s.stored := by cases c <;> rfl
@[simp] theorem setChan_planes (c : Chan) (k : ChanSt) (s : State) : (setChan c k s).planes = s.planes := by cases c <;> rfl
@[simp] theorem setChan_mods (c : Chan) (k : ChanSt) (s : State) : (setChan c k s).mods = s.mods := by cases c <;> rfl
@[simp] theorem setChan_meas (c : Chan) (k : ChanSt) (s : State) : (setChan c k s).meas = s.meas := by cases c <;> rfl
@[simp] theorem setChan_meter (c : Chan) (k : ChanSt) (s : State) : (setChan c k s).meter = s.meter := by cases c <;> rfl
@[simp] theorem setChan_rgt (c : Chan) (k : ChanSt) (s : State) : (setChan c k s).rgt = s.rgt := by cases c <;> rfl
@[simp] theorem setChan_prt (c : Chan) (k : ChanSt) (s : State) : (setChan c k s).prt = s.prt := by cases c <;> rfl
@[simp] theorem setChan_isl (c : Chan) (k : ChanSt) (s : State) : (setChan c k s).isl = s.isl := by cases c <;> rfl
@[simp] theorem setChan_txn (c : Chan) (k : ChanSt) (s : State) : (setChan c k s).txn = s.txn := by cases c <;> rfl
@[simp] theorem setChan_time (c : Chan) (k : ChanSt) (s : State) : (setChan c k s).time = s.time := by cases c <;> rfl
@[simp] theorem setChan_clk (c : Chan) (k : ChanSt) (s : State) : (setChan c k s).clk = s.clk := by cases c <;> rfl
@[simp] theorem setChan_eth0 (c : Chan) (k : ChanSt) (s : State) : (setChan c k s).eth0 = s.eth0 := by cases c <;> rfl
@[simp] theorem setChan_eth1 (c : Chan) (k : ChanSt) (s : State) : (setChan c k s).eth1 = s.eth1 := by cases c <;> rfl
@[simp] theorem setChan_replay (c : Chan) (k : ChanSt) (s : State) : (setChan c k s).replay = s.replay := by cases c <;> rfl
@[simp] theorem setChan_acq (c : Chan) (k : ChanSt) (s : State) : (setChan c k s).acq = s.acq := by cases c <;> rfl
@[simp] theorem setChan_ybus (c : Chan) (k : ChanSt) (s : State) : (setChan c k s).ybus = s.ybus := by cases c <;> rfl
@[simp] theorem setChan_cols (c : Chan) (k : ChanSt) (s : State) : (setChan c k s).cols = s.cols := by cases c <;> rfl
@[simp] theorem setChan_sums (c : Chan) (k : ChanSt) (s : State) : (setChan c k s).sums = s.sums := by cases c <;> rfl
@[simp] theorem setChan_gfm (c : Chan) (k : ChanSt) (s : State) : (setChan c k s).gfm = s.gfm := by cases c <;> rfl
@[simp] theorem setChan_msd (c : Chan) (k : ChanSt) (s : State) : (setChan c k s).msd = s.msd := by cases c <;> rfl
@[simp] theorem setChan_red (c : Chan) (k : ChanSt) (s : State) : (setChan c k s).red = s.red := by cases c <;> rfl
@[simp] theorem setChan_fw (c : Chan) (k : ChanSt) (s : State) : (setChan c k s).fw = s.fw := by cases c <;> rfl
@[simp] theorem setChan_wire (c : Chan) (k : ChanSt) (s : State) : (setChan c k s).wire = s.wire := by cases c <;> rfl
@[simp] theorem setChan_free (c : Chan) (k : ChanSt) (s : State) : (setChan c k s).free = s.free := by cases c <;> rfl

@[simp] theorem pushSpi_pending (p : Packet) (s : State) : (pushSpi p s).pending = s.pending := by unfold pushSpi; split <;> rfl
@[simp] theorem pushSpi_pins (p : Packet) (s : State) : (pushSpi p s).pins = s.pins := by unfold pushSpi; split <;> rfl
@[simp] theorem pushSpi_wait (p : Packet) (s : State) : (pushSpi p s).wait = s.wait := by unfold pushSpi; split <;> rfl
@[simp] theorem pushSpi_stored (p : Packet) (s : State) : (pushSpi p s).stored = s.stored := by unfold pushSpi; split <;> rfl
@[simp] theorem pushSpi_planes (p : Packet) (s : State) : (pushSpi p s).planes = s.planes := by unfold pushSpi; split <;> rfl
@[simp] theorem pushSpi_mods (p : Packet) (s : State) : (pushSpi p s).mods = s.mods := by unfold pushSpi; split <;> rfl
@[simp] theorem pushSpi_meas (p : Packet) (s : State) : (pushSpi p s).meas = s.meas := by unfold pushSpi; split <;> rfl
@[simp] theorem pushSpi_meter (p : Packet) (s : State) : (pushSpi p s).meter = s.meter := by unfold pushSpi; split <;> rfl
@[simp] theorem pushSpi_rgt (p : Packet) (s : State) : (pushSpi p s).rgt = s.rgt := by unfold pushSpi; split <;> rfl
@[simp] theorem pushSpi_prt (p : Packet) (s : State) : (pushSpi p s).prt = s.prt := by unfold pushSpi; split <;> rfl
@[simp] theorem pushSpi_isl (p : Packet) (s : State) : (pushSpi p s).isl = s.isl := by unfold pushSpi; split <;> rfl
@[simp] theorem pushSpi_txn (p : Packet) (s : State) : (pushSpi p s).txn = s.txn := by unfold pushSpi; split <;> rfl
@[simp] theorem pushSpi_time (p : Packet) (s : State) : (pushSpi p s).time = s.time := by unfold pushSpi; split <;> rfl
@[simp] theorem pushSpi_clk (p : Packet) (s : State) : (pushSpi p s).clk = s.clk := by unfold pushSpi; split <;> rfl
@[simp] theorem pushSpi_eth0 (p : Packet) (s : State) : (pushSpi p s).eth0 = s.eth0 := by unfold pushSpi; split <;> rfl
@[simp] theorem pushSpi_eth1 (p : Packet) (s : State) : (pushSpi p s).eth1 = s.eth1 := by unfold pushSpi; split <;> rfl
@[simp] theorem pushSpi_replay (p : Packet) (s : State) : (pushSpi p s).replay = s.replay := by unfold pushSpi; split <;> rfl
@[simp] theorem pushSpi_acq (p : Packet) (s : State) : (pushSpi p s).acq = s.acq := by unfold pushSpi; split <;> rfl
@[simp] theorem pushSpi_ybus (p : Packet) (s : State) : (pushSpi p s).ybus = s.ybus := by unfold pushSpi; split <;> rfl
@[simp] theorem pushSpi_cols (p : Packet) (s : State) : (pushSpi p s).cols = s.cols := by unfold pushSpi; split <;> rfl
@[simp] theorem pushSpi_sums (p : Packet) (s : State) : (pushSpi p s).sums = s.sums := by unfold pushSpi; split <;> rfl
@[simp] theorem pushSpi_gfm (p : Packet) (s : State) : (pushSpi p s).gfm = s.gfm := by unfold pushSpi; split <;> rfl
@[simp] theorem pushSpi_msd (p : Packet) (s : State) : (pushSpi p s).msd = s.msd := by unfold pushSpi; split <;> rfl
@[simp] theorem pushSpi_red (p : Packet) (s : State) : (pushSpi p s).red = s.red := by unfold pushSpi; split <;> rfl
@[simp] theorem pushSpi_fw (p : Packet) (s : State) : (pushSpi p s).fw = s.fw := by unfold pushSpi; split <;> rfl
@[simp] theorem pushSpi_free (p : Packet) (s : State) : (pushSpi p s).free = s.free := by unfold pushSpi; split <;> rfl

@[simp] theorem keepChan_pending (c : Chan) (k : ChanSt) (s : State) : (keepChan c k s).pending = s.pending := by cases c <;> rfl
@[simp] theorem keepChan_pins (c : Chan) (k : ChanSt) (s : State) : (keepChan c k s).pins = s.pins := by cases c <;> rfl
@[simp] theorem keepChan_params (c : Chan) (k : ChanSt) (s : State) : (keepChan c k s).params = s.params := by cases c <;> rfl
@[simp] theorem keepChan_wait (c : Chan) (k : ChanSt) (s : State) : (keepChan c k s).wait = s.wait := by cases c <;> rfl
@[simp] theorem keepChan_stored (c : Chan) (k : ChanSt) (s : State) : (keepChan c k s).stored = s.stored := by cases c <;> rfl
@[simp] theorem keepChan_planes (c : Chan) (k : ChanSt) (s : State) : (keepChan c k s).planes = s.planes := by cases c <;> rfl
@[simp] theorem keepChan_mods (c : Chan) (k : ChanSt) (s : State) : (keepChan c k s).mods = s.mods := by cases c <;> rfl
@[simp] theorem keepChan_meas (c : Chan) (k : ChanSt) (s : State) : (keepChan c k s).meas = s.meas := by cases c <;> rfl
@[simp] theorem keepChan_meter (c : Chan) (k : ChanSt) (s : State) : (keepChan c k s).meter = s.meter := by cases c <;> rfl
@[simp] theorem keepChan_rgt (c : Chan) (k : ChanSt) (s : State) : (keepChan c k s).rgt = s.rgt := by cases c <;> rfl
@[simp] theorem keepChan_prt (c : Chan) (k : ChanSt) (s : State) : (keepChan c k s).prt = s.prt := by cases c <;> rfl
@[simp] theorem keepChan_isl (c : Chan) (k : ChanSt) (s : State) : (keepChan c k s).isl = s.isl := by cases c <;> rfl
@[simp] theorem keepChan_txn (c : Chan) (k : ChanSt) (s : State) : (keepChan c k s).txn = s.txn := by cases c <;> rfl
@[simp] theorem keepChan_time (c : Chan) (k : ChanSt) (s : State) : (keepChan c k s).time = s.time := by cases c <;> rfl
@[simp] theorem keepChan_clk (c : Chan) (k : ChanSt) (s : State) : (keepChan c k s).clk = s.clk := by cases c <;> rfl
@[simp] theorem keepChan_eth0 (c : Chan) (k : ChanSt) (s : State) : (keepChan c k s).eth0 = s.eth0 := by cases c <;> rfl
@[simp] theorem keepChan_eth1 (c : Chan) (k : ChanSt) (s : State) : (keepChan c k s).eth1 = s.eth1 := by cases c <;> rfl
@[simp] theorem keepChan_replay (c : Chan) (k : ChanSt) (s : State) : (keepChan c k s).replay = s.replay := by cases c <;> rfl
@[simp] theorem keepChan_acq (c : Chan) (k : ChanSt) (s : State) : (keepChan c k s).acq = s.acq := by cases c <;> rfl
@[simp] theorem keepChan_ybus (c : Chan) (k : ChanSt) (s : State) : (keepChan c k s).ybus = s.ybus := by cases c <;> rfl
@[simp] theorem keepChan_cols (c : Chan) (k : ChanSt) (s : State) : (keepChan c k s).cols = s.cols := by cases c <;> rfl
@[simp] theorem keepChan_sums (c : Chan) (k : ChanSt) (s : State) : (keepChan c k s).sums = s.sums := by cases c <;> rfl
@[simp] theorem keepChan_gfm (c : Chan) (k : ChanSt) (s : State) : (keepChan c k s).gfm = s.gfm := by cases c <;> rfl
@[simp] theorem keepChan_msd (c : Chan) (k : ChanSt) (s : State) : (keepChan c k s).msd = s.msd := by cases c <;> rfl
@[simp] theorem keepChan_red (c : Chan) (k : ChanSt) (s : State) : (keepChan c k s).red = s.red := by cases c <;> rfl
@[simp] theorem keepChan_fw (c : Chan) (k : ChanSt) (s : State) : (keepChan c k s).fw = s.fw := by cases c <;> rfl
@[simp] theorem keepChan_wire (c : Chan) (k : ChanSt) (s : State) : (keepChan c k s).wire = s.wire := by cases c <;> rfl
@[simp] theorem keepChan_free (c : Chan) (k : ChanSt) (s : State) : (keepChan c k s).free = s.free := by cases c <;> rfl

@[simp] theorem touchChan_pending (c : Chan) (s : State) : (touchChan c s).pending = s.pending := by cases c <;> rfl
@[simp] theorem touchChan_pins (c : Chan) (s : State) : (touchChan c s).pins = s.pins := by cases c <;> rfl
@[simp] theorem touchChan_params (c : Chan) (s : State) : (touchChan c s).params = s.params := by cases c <;> rfl
@[simp] theorem touchChan_wait (c : Chan) (s : State) : (touchChan c s).wait = s.wait := by cases c <;> rfl
@[simp] theorem touchChan_stored (c : Chan) (s : State) : (touchChan c s).stored = s.stored := by cases c <;> rfl
@[simp] theorem touchChan_planes (c : Chan) (s : State) : (touchChan c s).planes = s.planes := by cases c <;> rfl
@[simp] theorem touchChan_mods (c : Chan) (s : State) : (touchChan c s).mods = s.mods := by cases c <;> rfl
@[simp] theorem touchChan_meas (c : Chan) (s : State) : (touchChan c s).meas = s.meas := by cases c <;> rfl
@[simp] theorem touchChan_meter (c : Chan) (s : State) : (touchChan c s).meter = s.meter := by cases c <;> rfl
@[simp] theorem touchChan_rgt (c : Chan) (s : State) : (touchChan c s).rgt = s.rgt := by cases c <;> rfl
@[simp] theorem touchChan_prt (c : Chan) (s : State) : (touchChan c s).prt = s.prt := by cases c <;> rfl
@[simp] theorem touchChan_isl (c : Chan) (s : State) : (touchChan c s).isl = s.isl := by cases c <;> rfl
@[simp] theorem touchChan_txn (c : Chan) (s : State) : (touchChan c s).txn = s.txn := by cases c <;> rfl
@[simp] theorem touchChan_time (c : Chan) (s : State) : (touchChan c s).time = s.time := by cases c <;> rfl
@[simp] theorem touchChan_clk (c : Chan) (s : State) : (touchChan c s).clk = s.clk := by cases c <;> rfl
@[simp] theorem touchChan_eth0 (c : Chan) (s : State) : (touchChan c s).eth0 = s.eth0 := by cases c <;> rfl
@[simp] theorem touchChan_eth1 (c : Chan) (s : State) : (touchChan c s).eth1 = s.eth1 := by cases c <;> rfl
@[simp] theorem touchChan_replay (c : Chan) (s : State) : (touchChan c s).replay = s.replay := by cases c <;> rfl
@[simp] theorem touchChan_acq (c : Chan) (s : State) : (touchChan c s).acq = s.acq := by cases c <;> rfl
@[simp] theorem touchChan_ybus (c : Chan) (s : State) : (touchChan c s).ybus = s.ybus := by cases c <;> rfl
@[simp] theorem touchChan_cols (c : Chan) (s : State) : (touchChan c s).cols = s.cols := by cases c <;> rfl
@[simp] theorem touchChan_sums (c : Chan) (s : State) : (touchChan c s).sums = s.sums := by cases c <;> rfl
@[simp] theorem touchChan_gfm (c : Chan) (s : State) : (touchChan c s).gfm = s.gfm := by cases c <;> rfl
@[simp] theorem touchChan_msd (c : Chan) (s : State) : (touchChan c s).msd = s.msd := by cases c <;> rfl
@[simp] theorem touchChan_red (c : Chan) (s : State) : (touchChan c s).red = s.red := by cases c <;> rfl
@[simp] theorem touchChan_fw (c : Chan) (s : State) : (touchChan c s).fw = s.fw := by cases c <;> rfl
@[simp] theorem touchChan_wire (c : Chan) (s : State) : (touchChan c s).wire = s.wire := by cases c <;> rfl
@[simp] theorem touchChan_free (c : Chan) (s : State) : (touchChan c s).free = s.free := by cases c <;> rfl

@[simp] theorem noteEvent_pending (c : Nat) (s : State) : (noteEvent c s).pending = s.pending := by rfl
@[simp] theorem noteEvent_pins (c : Nat) (s : State) : (noteEvent c s).pins = s.pins := by rfl
@[simp] theorem noteEvent_params (c : Nat) (s : State) : (noteEvent c s).params = s.params := by rfl
@[simp] theorem noteEvent_wait (c : Nat) (s : State) : (noteEvent c s).wait = s.wait := by rfl
@[simp] theorem noteEvent_stored (c : Nat) (s : State) : (noteEvent c s).stored = s.stored := by rfl
@[simp] theorem noteEvent_planes (c : Nat) (s : State) : (noteEvent c s).planes = s.planes := by rfl
@[simp] theorem noteEvent_mods (c : Nat) (s : State) : (noteEvent c s).mods = s.mods := by rfl
@[simp] theorem noteEvent_meas (c : Nat) (s : State) : (noteEvent c s).meas = s.meas := by rfl
@[simp] theorem noteEvent_meter (c : Nat) (s : State) : (noteEvent c s).meter = s.meter := by rfl
@[simp] theorem noteEvent_rgt (c : Nat) (s : State) : (noteEvent c s).rgt = s.rgt := by rfl
@[simp] theorem noteEvent_prt (c : Nat) (s : State) : (noteEvent c s).prt = s.prt := by rfl
@[simp] theorem noteEvent_isl (c : Nat) (s : State) : (noteEvent c s).isl = s.isl := by rfl
@[simp] theorem noteEvent_txn (c : Nat) (s : State) : (noteEvent c s).txn = s.txn := by rfl
@[simp] theorem noteEvent_time (c : Nat) (s : State) : (noteEvent c s).time = s.time := by rfl
@[simp] theorem noteEvent_clk (c : Nat) (s : State) : (noteEvent c s).clk = s.clk := by rfl
@[simp] theorem noteEvent_eth0 (c : Nat) (s : State) : (noteEvent c s).eth0 = s.eth0 := by rfl
@[simp] theorem noteEvent_eth1 (c : Nat) (s : State) : (noteEvent c s).eth1 = s.eth1 := by rfl
@[simp] theorem noteEvent_replay (c : Nat) (s : State) : (noteEvent c s).replay = s.replay := by rfl
@[simp] theorem noteEvent_acq (c : Nat) (s : State) : (noteEvent c s).acq = s.acq := by rfl
@[simp] theorem noteEvent_ybus (c : Nat) (s : State) : (noteEvent c s).ybus = s.ybus := by rfl
@[simp] theorem noteEvent_cols (c : Nat) (s : State) : (noteEvent c s).cols = s.cols := by rfl
@[simp] theorem noteEvent_sums (c : Nat) (s : State) : (noteEvent c s).sums = s.sums := by rfl
@[simp] theorem noteEvent_gfm (c : Nat) (s : State) : (noteEvent c s).gfm = s.gfm := by rfl
@[simp] theorem noteEvent_msd (c : Nat) (s : State) : (noteEvent c s).msd = s.msd := by rfl
@[simp] theorem noteEvent_red (c : Nat) (s : State) : (noteEvent c s).red = s.red := by rfl
@[simp] theorem noteEvent_fw (c : Nat) (s : State) : (noteEvent c s).fw = s.fw := by rfl
@[simp] theorem noteEvent_wire (c : Nat) (s : State) : (noteEvent c s).wire = s.wire := by rfl
@[simp] theorem noteEvent_free (c : Nat) (s : State) : (noteEvent c s).free = s.free := by rfl

@[simp] theorem colPut_pending (c : Nat) (s : State) : (colPut c s).pending = s.pending := by unfold colPut; (repeat' split) <;> rfl
@[simp] theorem colPut_pins (c : Nat) (s : State) : (colPut c s).pins = s.pins := by unfold colPut; (repeat' split) <;> rfl
@[simp] theorem colPut_params (c : Nat) (s : State) : (colPut c s).params = s.params := by unfold colPut; (repeat' split) <;> rfl
@[simp] theorem colPut_wait (c : Nat) (s : State) : (colPut c s).wait = s.wait := by unfold colPut; (repeat' split) <;> rfl
@[simp] theorem colPut_stored (c : Nat) (s : State) : (colPut c s).stored = s.stored := by unfold colPut; (repeat' split) <;> rfl
@[simp] theorem colPut_planes (c : Nat) (s : State) : (colPut c s).planes = s.planes := by unfold colPut; (repeat' split) <;> rfl
@[simp] theorem colPut_mods (c : Nat) (s : State) : (colPut c s).mods = s.mods := by unfold colPut; (repeat' split) <;> rfl
@[simp] theorem colPut_meas (c : Nat) (s : State) : (colPut c s).meas = s.meas := by unfold colPut; (repeat' split) <;> rfl
@[simp] theorem colPut_meter (c : Nat) (s : State) : (colPut c s).meter = s.meter := by unfold colPut; (repeat' split) <;> rfl
@[simp] theorem colPut_rgt (c : Nat) (s : State) : (colPut c s).rgt = s.rgt := by unfold colPut; (repeat' split) <;> rfl
@[simp] theorem colPut_prt (c : Nat) (s : State) : (colPut c s).prt = s.prt := by unfold colPut; (repeat' split) <;> rfl
@[simp] theorem colPut_isl (c : Nat) (s : State) : (colPut c s).isl = s.isl := by unfold colPut; (repeat' split) <;> rfl
@[simp] theorem colPut_host (c : Nat) (s : State) : (colPut c s).host = s.host := by unfold colPut; (repeat' split) <;> rfl
@[simp] theorem colPut_txn (c : Nat) (s : State) : (colPut c s).txn = s.txn := by unfold colPut; (repeat' split) <;> rfl
@[simp] theorem colPut_time (c : Nat) (s : State) : (colPut c s).time = s.time := by unfold colPut; (repeat' split) <;> rfl
@[simp] theorem colPut_clk (c : Nat) (s : State) : (colPut c s).clk = s.clk := by unfold colPut; (repeat' split) <;> rfl
@[simp] theorem colPut_eth0 (c : Nat) (s : State) : (colPut c s).eth0 = s.eth0 := by unfold colPut; (repeat' split) <;> rfl
@[simp] theorem colPut_eth1 (c : Nat) (s : State) : (colPut c s).eth1 = s.eth1 := by unfold colPut; (repeat' split) <;> rfl
@[simp] theorem colPut_replay (c : Nat) (s : State) : (colPut c s).replay = s.replay := by unfold colPut; (repeat' split) <;> rfl
@[simp] theorem colPut_acq (c : Nat) (s : State) : (colPut c s).acq = s.acq := by unfold colPut; (repeat' split) <;> rfl
@[simp] theorem colPut_ybus (c : Nat) (s : State) : (colPut c s).ybus = s.ybus := by unfold colPut; (repeat' split) <;> rfl
@[simp] theorem colPut_sums (c : Nat) (s : State) : (colPut c s).sums = s.sums := by unfold colPut; (repeat' split) <;> rfl
@[simp] theorem colPut_gfm (c : Nat) (s : State) : (colPut c s).gfm = s.gfm := by unfold colPut; (repeat' split) <;> rfl
@[simp] theorem colPut_msd (c : Nat) (s : State) : (colPut c s).msd = s.msd := by unfold colPut; (repeat' split) <;> rfl
@[simp] theorem colPut_red (c : Nat) (s : State) : (colPut c s).red = s.red := by unfold colPut; (repeat' split) <;> rfl
@[simp] theorem colPut_fw (c : Nat) (s : State) : (colPut c s).fw = s.fw := by unfold colPut; (repeat' split) <;> rfl
@[simp] theorem colPut_wire (c : Nat) (s : State) : (colPut c s).wire = s.wire := by unfold colPut; (repeat' split) <;> rfl
@[simp] theorem colPut_free (c : Nat) (s : State) : (colPut c s).free = s.free := by unfold colPut; (repeat' split) <;> rfl

@[simp] theorem sendTo_pending (c : Chan) (p : Packet) (s : State) : (sendTo c p s).pending = s.pending := by unfold sendTo; split <;> cases c <;> simp
@[simp] theorem sendTo_pins (c : Chan) (p : Packet) (s : State) : (sendTo c p s).pins = s.pins := by unfold sendTo; split <;> cases c <;> simp
@[simp] theorem sendTo_wait (c : Chan) (p : Packet) (s : State) : (sendTo c p s).wait = s.wait := by unfold sendTo; split <;> cases c <;> simp
@[simp] theorem sendTo_stored (c : Chan) (p : Packet) (s : State) : (sendTo c p s).stored = s.stored := by unfold sendTo; split <;> cases c <;> simp
@[simp] theorem sendTo_planes (c : Chan) (p : Packet) (s : State) : (sendTo c p s).planes = s.planes := by unfold sendTo; split <;> cases c <;> simp
@[simp] theorem sendTo_mods (c : Chan) (p : Packet) (s : State) : (sendTo c p s).mods = s.mods := by unfold sendTo; split <;> cases c <;> simp
@[simp] theorem sendTo_meas (c : Chan) (p : Packet) (s : State) : (sendTo c p s).meas = s.meas := by unfold sendTo; split <;> cases c <;> simp
@[simp] theorem sendTo_meter (c : Chan) (p : Packet) (s : State) : (sendTo c p s).meter = s.meter := by unfold sendTo; split <;> cases c <;> simp
@[simp] theorem sendTo_rgt (c : Chan) (p : Packet) (s : State) : (sendTo c p s).rgt = s.rgt := by unfold sendTo; split <;> cases c <;> simp
@[simp] theorem sendTo_prt (c : Chan) (p : Packet) (s : State) : (sendTo c p s).prt = s.prt := by unfold sendTo; split <;> cases c <;> simp
@[simp] theorem sendTo_isl (c : Chan) (p : Packet) (s : State) : (sendTo c p s).isl = s.isl := by unfold sendTo; split <;> cases c <;> simp
@[simp] theorem sendTo_txn (c : Chan) (p : Packet) (s : State) : (sendTo c p s).txn = s.txn := by unfold sendTo; split <;> cases c <;> simp
@[simp] theorem sendTo_time (c : Chan) (p : Packet) (s : State) : (sendTo c p s).time = s.time := by unfold sendTo; split <;> cases c <;> simp
@[simp] theorem sendTo_clk (c : Chan) (p : Packet) (s : State) : (sendTo c p s).clk = s.clk := by unfold sendTo; split <;> cases c <;> simp
@[simp] theorem sendTo_eth0 (c : Chan) (p : Packet) (s : State) : (sendTo c p s).eth0 = s.eth0 := by unfold sendTo; split <;> cases c <;> simp
@[simp] theorem sendTo_eth1 (c : Chan) (p : Packet) (s : State) : (sendTo c p s).eth1 = s.eth1 := by unfold sendTo; split <;> cases c <;> simp
@[simp] theorem sendTo_replay (c : Chan) (p : Packet) (s : State) : (sendTo c p s).replay = s.replay := by unfold sendTo; split <;> cases c <;> simp
@[simp] theorem sendTo_acq (c : Chan) (p : Packet) (s : State) : (sendTo c p s).acq = s.acq := by unfold sendTo; split <;> cases c <;> simp
@[simp] theorem sendTo_ybus (c : Chan) (p : Packet) (s : State) : (sendTo c p s).ybus = s.ybus := by unfold sendTo; split <;> cases c <;> simp
@[simp] theorem sendTo_cols (c : Chan) (p : Packet) (s : State) : (sendTo c p s).cols = s.cols := by unfold sendTo; split <;> cases c <;> simp
@[simp] theorem sendTo_sums (c : Chan) (p : Packet) (s : State) : (sendTo c p s).sums = s.sums := by unfold sendTo; split <;> cases c <;> simp
@[simp] theorem sendTo_gfm (c : Chan) (p : Packet) (s : State) : (sendTo c p s).gfm = s.gfm := by unfold sendTo; split <;> cases c <;> simp
@[simp] theorem sendTo_msd (c : Chan) (p : Packet) (s : State) : (sendTo c p s).msd = s.msd := by unfold sendTo; split <;> cases c <;> simp
@[simp] theorem sendTo_red (c : Chan) (p : Packet) (s : State) : (sendTo c p s).red = s.red := by unfold sendTo; split <;> cases c <;> simp
@[simp] theorem sendTo_fw (c : Chan) (p : Packet) (s : State) : (sendTo c p s).fw = s.fw := by unfold sendTo; split <;> cases c <;> simp
@[simp] theorem sendTo_free (c : Chan) (p : Packet) (s : State) : (sendTo c p s).free = s.free := by unfold sendTo; split <;> cases c <;> simp

@[simp] theorem sendDst_pending (p : Packet) (n : Nat) (s : State) : (sendDst p n s).pending = s.pending := by unfold sendDst; split <;> simp
@[simp] theorem sendDst_pins (p : Packet) (n : Nat) (s : State) : (sendDst p n s).pins = s.pins := by unfold sendDst; split <;> simp
@[simp] theorem sendDst_wait (p : Packet) (n : Nat) (s : State) : (sendDst p n s).wait = s.wait := by unfold sendDst; split <;> simp
@[simp] theorem sendDst_stored (p : Packet) (n : Nat) (s : State) : (sendDst p n s).stored = s.stored := by unfold sendDst; split <;> simp
@[simp] theorem sendDst_planes (p : Packet) (n : Nat) (s : State) : (sendDst p n s).planes = s.planes := by unfold sendDst; split <;> simp
@[simp] theorem sendDst_mods (p : Packet) (n : Nat) (s : State) : (sendDst p n s).mods = s.mods := by unfold sendDst; split <;> simp
@[simp] theorem sendDst_meas (p : Packet) (n : Nat) (s : State) : (sendDst p n s).meas = s.meas := by unfold sendDst; split <;> simp
@[simp] theorem sendDst_meter (p : Packet) (n : Nat) (s : State) : (sendDst p n s).meter = s.meter := by unfold sendDst; split <;> simp
@[simp] theorem sendDst_rgt (p : Packet) (n : Nat) (s : State) : (sendDst p n s).rgt = s.rgt := by unfold sendDst; split <;> simp
@[simp] theorem sendDst_prt (p : Packet) (n : Nat) (s : State) : (sendDst p n s).prt = s.prt := by unfold sendDst; split <;> simp
@[simp] theorem sendDst_isl (p : Packet) (n : Nat) (s : State) : (sendDst p n s).isl = s.isl := by unfold sendDst; split <;> simp
@[simp] theorem sendDst_txn (p : Packet) (n : Nat) (s : State) : (sendDst p n s).txn = s.txn := by unfold sendDst; split <;> simp
@[simp] theorem sendDst_time (p : Packet) (n : Nat) (s : State) : (sendDst p n s).time = s.time := by unfold sendDst; split <;> simp
@[simp] theorem sendDst_clk (p : Packet) (n : Nat) (s : State) : (sendDst p n s).clk = s.clk := by unfold sendDst; split <;> simp
@[simp] theorem sendDst_eth0 (p : Packet) (n : Nat) (s : State) : (sendDst p n s).eth0 = s.eth0 := by unfold sendDst; split <;> simp
@[simp] theorem sendDst_eth1 (p : Packet) (n : Nat) (s : State) : (sendDst p n s).eth1 = s.eth1 := by unfold sendDst; split <;> simp
@[simp] theorem sendDst_replay (p : Packet) (n : Nat) (s : State) : (sendDst p n s).replay = s.replay := by unfold sendDst; split <;> simp
@[simp] theorem sendDst_acq (p : Packet) (n : Nat) (s : State) : (sendDst p n s).acq = s.acq := by unfold sendDst; split <;> simp
@[simp] theorem sendDst_ybus (p : Packet) (n : Nat) (s : State) : (sendDst p n s).ybus = s.ybus := by unfold sendDst; split <;> simp
@[simp] theorem sendDst_cols (p : Packet) (n : Nat) (s : State) : (sendDst p n s).cols = s.cols := by unfold sendDst; split <;> simp
@[simp] theorem sendDst_sums (p : Packet) (n : Nat) (s : State) : (sendDst p n s).sums = s.sums := by unfold sendDst; split <;> simp
@[simp] theorem sendDst_gfm (p : Packet) (n : Nat) (s : State) : (sendDst p n s).gfm = s.gfm := by unfold sendDst; split <;> simp
@[simp] theorem sendDst_msd (p : Packet) (n : Nat) (s : State) : (sendDst p n s).msd = s.msd := by unfold sendDst; split <;> simp
@[simp] theorem sendDst_red (p : Packet) (n : Nat) (s : State) : (sendDst p n s).red = s.red := by unfold sendDst; split <;> simp
@[simp] theorem sendDst_fw (p : Packet) (n : Nat) (s : State) : (sendDst p n s).fw = s.fw := by unfold sendDst; split <;> simp
@[simp] theorem sendDst_free (p : Packet) (n : Nat) (s : State) : (sendDst p n s).free = s.free := by unfold sendDst; split <;> simp

@[simp] theorem routeAsync_pending (p : Packet) (s : State) : (routeAsync p s).pending = s.pending := by unfold routeAsync; dsimp only; split <;> simp
@[simp] theorem routeAsync_pins (p : Packet) (s : State) : (routeAsync p s).pins = s.pins := by unfold routeAsync; dsimp only; split <;> simp
@[simp] theorem routeAsync_wait (p : Packet) (s : State) : (routeAsync p s).wait = s.wait := by unfold routeAsync; dsimp only; split <;> simp
@[simp] theorem routeAsync_stored (p : Packet) (s : State) : (routeAsync p s).stored = s.stored := by unfold routeAsync; dsimp only; split <;> simp
@[simp] theorem routeAsync_planes (p : Packet) (s : State) : (routeAsync p s).planes = s.planes := by unfold routeAsync; dsimp only; split <;> simp
@[simp] theorem routeAsync_mods (p : Packet) (s : State) : (routeAsync p s).mods = s.mods := by unfold routeAsync; dsimp only; split <;> simp
@[simp] theorem routeAsync_meas (p : Packet) (s : State) : (routeAsync p s).meas = s.meas := by unfold routeAsync; dsimp only; split <;> simp
@[simp] theorem routeAsync_meter (p : Packet) (s : State) : (routeAsync p s).meter = s.meter := by unfold routeAsync; dsimp only; split <;> simp
@[simp] theorem routeAsync_rgt (p : Packet) (s : State) : (routeAsync p s).rgt = s.rgt := by unfold routeAsync; dsimp only; split <;> simp
@[simp] theorem routeAsync_prt (p : Packet) (s : State) : (routeAsync p s).prt = s.prt := by unfold routeAsync; dsimp only; split <;> simp
@[simp] theorem routeAsync_isl (p : Packet) (s : State) : (routeAsync p s).isl = s.isl := by unfold routeAsync; dsimp only; split <;> simp
@[simp] theorem routeAsync_txn (p : Packet) (s : State) : (routeAsync p s).txn = s.txn := by unfold routeAsync; dsimp only; split <;> simp
@[simp] theorem routeAsync_time (p : Packet) (s : State) : (routeAsync p s).time = s.time := by unfold routeAsync; dsimp only; split <;> simp
@[simp] theorem routeAsync_clk (p : Packet) (s : State) : (routeAsync p s).clk = s.clk := by unfold routeAsync; dsimp only; split <;> simp
@[simp] theorem routeAsync_eth0 (p : Packet) (s : State) : (routeAsync p s).eth0 = s.eth0 := by unfold routeAsync; dsimp only; split <;> simp
@[simp] theorem routeAsync_eth1 (p : Packet) (s : State) : (routeAsync p s).eth1 = s.eth1 := by unfold routeAsync; dsimp only; split <;> simp
@[simp] theorem routeAsync_replay (p : Packet) (s : State) : (routeAsync p s).replay = s.replay := by unfold routeAsync; dsimp only; split <;> simp
@[simp] theorem routeAsync_acq (p : Packet) (s : State) : (routeAsync p s).acq = s.acq := by unfold routeAsync; dsimp only; split <;> simp
@[simp] theorem routeAsync_ybus (p : Packet) (s : State) : (routeAsync p s).ybus = s.ybus := by unfold routeAsync; dsimp only; split <;> simp
@[simp] theorem routeAsync_cols (p : Packet) (s : State) : (routeAsync p s).cols = s.cols := by unfold routeAsync; dsimp only; split <;> simp
@[simp] theorem routeAsync_sums (p : Packet) (s : State) : (routeAsync p s).sums = s.sums := by unfold routeAsync; dsimp only; split <;> simp
@[simp] theorem routeAsync_gfm (p : Packet) (s : State) : (routeAsync p s).gfm = s.gfm := by unfold routeAsync; dsimp only; split <;> simp
@[simp] theorem routeAsync_msd (p : Packet) (s : State) : (routeAsync p s).msd = s.msd := by unfold routeAsync; dsimp only; split <;> simp
@[simp] theorem routeAsync_red (p : Packet) (s : State) : (routeAsync p s).red = s.red := by unfold routeAsync; dsimp only; split <;> simp
@[simp] theorem routeAsync_fw (p : Packet) (s : State) : (routeAsync p s).fw = s.fw := by unfold routeAsync; dsimp only; split <;> simp
@[simp] theorem routeAsync_free (p : Packet) (s : State) : (routeAsync p s).free = s.free := by unfold routeAsync; dsimp only; split <;> simp

@[simp] theorem sendAsync_pending (o : Option Nat) (c : Nat) (b : List Byte) (s : State) : (sendAsync o c b s).pending = s.pending := by (unfold sendAsync; split; (exact routeAsync_pending _ _); split; rfl; split; (exact colPut_pending _ _); rfl)
@[simp] theorem sendAsync_pins (o : Option Nat) (c : Nat) (b : List Byte) (s : State) : (sendAsync o c b s).pins = s.pins := by (unfold sendAsync; split; (exact routeAsync_pins _ _); split; rfl; split; (exact colPut_pins _ _); rfl)
@[simp] theorem sendAsync_wait (o : Option Nat) (c : Nat) (b : List Byte) (s : State) : (sendAsync o c b s).wait = s.wait := by (unfold sendAsync; split; (exact routeAsync_wait _ _); split; rfl; split; (exact colPut_wait _ _); rfl)
@[simp] theorem sendAsync_stored (o : Option Nat) (c : Nat) (b : List Byte) (s : State) : (sendAsync o c b s).stored = s.stored := by (unfold sendAsync; split; (exact routeAsync_stored _ _); split; rfl; split; (exact colPut_stored _ _); rfl)
@[simp] theorem sendAsync_planes (o : Option Nat) (c : Nat) (b : List Byte) (s : State) : (sendAsync o c b s).planes = s.planes := by (unfold sendAsync; split; (exact routeAsync_planes _ _); split; rfl; split; (exact colPut_planes _ _); rfl)
@[simp] theorem sendAsync_mods (o : Option Nat) (c : Nat) (b : List Byte) (s : State) : (sendAsync o c b s).mods = s.mods := by (unfold sendAsync; split; (exact routeAsync_mods _ _); split; rfl; split; (exact colPut_mods _ _); rfl)
@[simp] theorem sendAsync_meas (o : Option Nat) (c : Nat) (b : List Byte) (s : State) : (sendAsync o c b s).meas = s.meas := by (unfold sendAsync; split; (exact routeAsync_meas _ _); split; rfl; split; (exact colPut_meas _ _); rfl)
@[simp] theorem sendAsync_meter (o : Option Nat) (c : Nat) (b : List Byte) (s : State) : (sendAsync o c b s).meter = s.meter := by (unfold sendAsync; split; (exact routeAsync_meter _ _); split; rfl; split; (exact colPut_meter _ _); rfl)
@[simp] theorem sendAsync_rgt (o : Option Nat) (c : Nat) (b : List Byte) (s : State) : (sendAsync o c b s).rgt = s.rgt := by (unfold sendAsync; split; (exact routeAsync_rgt _ _); split; rfl; split; (exact colPut_rgt _ _); rfl)
@[simp] theorem sendAsync_prt (o : Option Nat) (c : Nat) (b : List Byte) (s : State) : (sendAsync o c b s).prt = s.prt := by (unfold sendAsync; split; (exact routeAsync_prt _ _); split; rfl; split; (exact colPut_prt _ _); rfl)
@[simp] theorem sendAsync_isl (o : Option Nat) (c : Nat) (b : List Byte) (s : State) : (sendAsync o c b s).isl = s.isl := by (unfold sendAsync; split; (exact routeAsync_isl _ _); split; rfl; split; (exact colPut_isl _ _); rfl)
@[simp] theorem sendAsync_txn (o : Option Nat) (c : Nat) (b : List Byte) (s : State) : (sendAsync o c b s).txn = s.txn := by (unfold sendAsync; split; (exact routeAsync_txn _ _); split; rfl; split; (exact colPut_txn _ _); rfl)
@[simp] theorem sendAsync_time (o : Option Nat) (c : Nat) (b : List Byte) (s : State) : (sendAsync o c b s).time = s.time := by (unfold sendAsync; split; (exact routeAsync_time _ _); split; rfl; split; (exact colPut_time _ _); rfl)
@[simp] theorem sendAsync_clk (o : Option Nat) (c : Nat) (b : List Byte) (s : State) : (sendAsync o c b s).clk = s.clk := by (unfold sendAsync; split; (exact routeAsync_clk _ _); split; rfl; split; (exact colPut_clk _ _); rfl)
@[simp] theorem sendAsync_eth0 (o : Option Nat) (c : Nat) (b : List Byte) (s : State) : (sendAsync o c b s).eth0 = s.eth0 := by (unfold sendAsync; split; (exact routeAsync_eth0 _ _); split; rfl; split; (exact colPut_eth0 _ _); rfl)
@[simp] theorem sendAsync_eth1 (o : Option Nat) (c : Nat) (b : List Byte) (s : State) : (sendAsync o c b s).eth1 = s.eth1 := by (unfold sendAsync; split; (exact routeAsync_eth1 _ _); split; rfl; split; (exact colPut_eth1 _ _); rfl)
@[simp] theorem sendAsync_replay (o : Option Nat) (c : Nat) (b : List Byte) (s : State) : (sendAsync o c b s).replay = s.replay := by (unfold sendAsync; split; (exact routeAsync_replay _ _); split; rfl; split; (exact colPut_replay _ _); rfl)
@[simp] theorem sendAsync_acq (o : Option Nat) (c : Nat) (b : List Byte) (s : State) : (sendAsync o c b s).acq = s.acq := by (unfold sendAsync; split; (exact routeAsync_acq _ _); split; rfl; split; (exact colPut_acq _ _); rfl)
@[simp] theorem sendAsync_ybus (o : Option Nat) (c : Nat) (b : List Byte) (s : State) : (sendAsync o c b s).ybus = s.ybus := by (unfold sendAsync; split; (exact routeAsync_ybus _ _); split; rfl; split; (exact colPut_ybus _ _); rfl)
@[simp] theorem sendAsync_sums (o : Option Nat) (c : Nat) (b : List Byte) (s : State) : (sendAsync o c b s).sums = s.sums := by (unfold sendAsync; split; (exact routeAsync_sums _ _); split; rfl; split; (exact colPut_sums _ _); rfl)
@[simp] theorem sendAsync_gfm (o : Option Nat) (c : Nat) (b : List Byte) (s : State) : (sendAsync o c b s).gfm = s.gfm := by (unfold sendAsync; split; (exact routeAsync_gfm _ _); split; rfl; split; (exact colPut_gfm _ _); rfl)
@[simp] theorem sendAsync_msd (o : Option Nat) (c : Nat) (b : List Byte) (s : State) : (sendAsync o c b s).msd = s.msd := by (unfold sendAsync; split; (exact routeAsync_msd _ _); split; rfl; split; (exact colPut_msd _ _); rfl)
@[simp] theorem sendAsync_red (o : Option Nat) (c : Nat) (b : List Byte) (s : State) : (sendAsync o c b s).red = s.red := by (unfold sendAsync; split; (exact routeAsync_red _ _); split; rfl; split; (exact colPut_red _ _); rfl)
@[simp] theorem sendAsync_fw (o : Option Nat) (c : Nat) (b : List Byte) (s : State) : (sendAsync o c b s).fw = s.fw := by (unfold sendAsync; split; (exact routeAsync_fw _ _); split; rfl; split; (exact colPut_fw _ _); rfl)
@[simp] theorem sendAsync_free (o : Option Nat) (c : Nat) (b : List Byte) (s : State) : (sendAsync o c b s).free = s.free := by (unfold sendAsync; split; (exact routeAsync_free _ _); split; rfl; split; (exact colPut_free _ _); rfl)

@[simp] theorem flagEvent_pending (id b d : Nat) (s : State) : (flagEvent id b d s).pending = s.pending := by simp [flagEvent]
@[simp] theorem flagEvent_pins (id b d : Nat) (s : State) : (flagEvent id b d s).pins = s.pins := by simp [flagEvent]
@[simp] theorem flagEvent_wait (id b d : Nat) (s : State) : (flagEvent id b d s).wait = s.wait := by simp [flagEvent]
@[simp] theorem flagEvent_stored (id b d : Nat) (s : State) : (flagEvent id b d s).stored = s.stored := by simp [flagEvent]
@[simp] theorem flagEvent_planes (id b d : Nat) (s : State) : (flagEvent id b d s).planes = s.planes := by simp [flagEvent]
@[simp] theorem flagEvent_mods (id b d : Nat) (s : State) : (flagEvent id b d s).mods = s.mods := by simp [flagEvent]
@[simp] theorem flagEvent_meas (id b d : Nat) (s : State) : (flagEvent id b d s).meas = s.meas := by simp [flagEvent]
@[simp] theorem flagEvent_meter (id b d : Nat) (s : State) : (flagEvent id b d s).meter = s.meter := by simp [flagEvent]
@[simp] theorem flagEvent_rgt (id b d : Nat) (s : State) : (flagEvent id b d s).rgt = s.rgt := by simp [flagEvent]
@[simp] theorem flagEvent_prt (id b d : Nat) (s : State) : (flagEvent id b d s).prt = s.prt := by simp [flagEvent]
@[simp] theorem flagEvent_isl (id b d : Nat) (s : State) : (flagEvent id b d s).isl = s.isl := by simp [flagEvent]
@[simp] theorem flagEvent_txn (id b d : Nat) (s : State) : (flagEvent id b d s).txn = s.txn := by simp [flagEvent]
@[simp] theorem flagEvent_time (id b d : Nat) (s : State) : (flagEvent id b d s).time = s.time := by simp [flagEvent]
@[simp] theorem flagEvent_clk (id b d : Nat) (s : State) : (flagEvent id b d s).clk = s.clk := by simp [flagEvent]
@[simp] theorem flagEvent_eth0 (id b d : Nat) (s : State) : (flagEvent id b d s).eth0 = s.eth0 := by simp [flagEvent]
@[simp] theorem flagEvent_eth1 (id b d : Nat) (s : State) : (flagEvent id b d s).eth1 = s.eth1 := by simp [flagEvent]
@[simp] theorem flagEvent_replay (id b d : Nat) (s : State) : (flagEvent id b d s).replay = s.replay := by simp [flagEvent]
@[simp] theorem flagEvent_acq (id b d : Nat) (s : State) : (flagEvent id b d s).acq = s.acq := by simp [flagEvent]
@[simp] theorem flagEvent_ybus (id b d : Nat) (s : State) : (flagEvent id b d s).ybus = s.ybus := by simp [flagEvent]
@[simp] theorem flagEvent_sums (id b d : Nat) (s : State) : (flagEvent id b d s).sums = s.sums := by simp [flagEvent]
@[simp] theorem flagEvent_gfm (id b d : Nat) (s : State) : (flagEvent id b d s).gfm = s.gfm := by simp [flagEvent]
@[simp] theorem flagEvent_msd (id b d : Nat) (s : State) : (flagEvent id b d s).msd = s.msd := by simp [flagEvent]
@[simp] theorem flagEvent_red (id b d : Nat) (s : State) : (flagEvent id b d s).red = s.red := by simp [flagEvent]
@[simp] theorem flagEvent_fw (id b d : Nat) (s : State) : (flagEvent id b d s).fw = s.fw := by simp [flagEvent]
@[simp] theorem flagEvent_free (id b d : Nat) (s : State) : (flagEvent id b d s).free = s.free := by simp [flagEvent]

@[simp] theorem raiseFlag_pending (id b d : Nat) (s : State) : (raiseFlag id b d s).pending = s.pending := by simp [raiseFlag]
@[simp] theorem raiseFlag_pins (id b d : Nat) (s : State) : (raiseFlag id b d s).pins = s.pins := by simp [raiseFlag]
@[simp] theorem raiseFlag_wait (id b d : Nat) (s : State) : (raiseFlag id b d s).wait = s.wait := by simp [raiseFlag]
@[simp] theorem raiseFlag_stored (id b d : Nat) (s : State) : (raiseFlag id b d s).stored = s.stored := by simp [raiseFlag]
@[simp] theorem raiseFlag_planes (id b d : Nat) (s : State) : (raiseFlag id b d s).planes = s.planes := by simp [raiseFlag]
@[simp] theorem raiseFlag_mods (id b d : Nat) (s : State) : (raiseFlag id b d s).mods = s.mods := by simp [raiseFlag]
@[simp] theorem raiseFlag_meas (id b d : Nat) (s : State) : (raiseFlag id b d s).meas = s.meas := by simp [raiseFlag]
@[simp] theorem raiseFlag_meter (id b d : Nat) (s : State) : (raiseFlag id b d s).meter = s.meter := by simp [raiseFlag]
@[simp] theorem raiseFlag_rgt (id b d : Nat) (s : State) : (raiseFlag id b d s).rgt = s.rgt := by simp [raiseFlag]
@[simp] theorem raiseFlag_prt (id b d : Nat) (s : State) : (raiseFlag id b d s).prt = s.prt := by simp [raiseFlag]
@[simp] theorem raiseFlag_isl (id b d : Nat) (s : State) : (raiseFlag id b d s).isl = s.isl := by simp [raiseFlag]
@[simp] theorem raiseFlag_txn (id b d : Nat) (s : State) : (raiseFlag id b d s).txn = s.txn := by simp [raiseFlag]
@[simp] theorem raiseFlag_time (id b d : Nat) (s : State) : (raiseFlag id b d s).time = s.time := by simp [raiseFlag]
@[simp] theorem raiseFlag_clk (id b d : Nat) (s : State) : (raiseFlag id b d s).clk = s.clk := by simp [raiseFlag]
@[simp] theorem raiseFlag_eth0 (id b d : Nat) (s : State) : (raiseFlag id b d s).eth0 = s.eth0 := by simp [raiseFlag]
@[simp] theorem raiseFlag_eth1 (id b d : Nat) (s : State) : (raiseFlag id b d s).eth1 = s.eth1 := by simp [raiseFlag]
@[simp] theorem raiseFlag_replay (id b d : Nat) (s : State) : (raiseFlag id b d s).replay = s.replay := by simp [raiseFlag]
@[simp] theorem raiseFlag_acq (id b d : Nat) (s : State) : (raiseFlag id b d s).acq = s.acq := by simp [raiseFlag]
@[simp] theorem raiseFlag_ybus (id b d : Nat) (s : State) : (raiseFlag id b d s).ybus = s.ybus := by simp [raiseFlag]
@[simp] theorem raiseFlag_sums (id b d : Nat) (s : State) : (raiseFlag id b d s).sums = s.sums := by simp [raiseFlag]
@[simp] theorem raiseFlag_gfm (id b d : Nat) (s : State) : (raiseFlag id b d s).gfm = s.gfm := by simp [raiseFlag]
@[simp] theorem raiseFlag_msd (id b d : Nat) (s : State) : (raiseFlag id b d s).msd = s.msd := by simp [raiseFlag]
@[simp] theorem raiseFlag_red (id b d : Nat) (s : State) : (raiseFlag id b d s).red = s.red := by simp [raiseFlag]
@[simp] theorem raiseFlag_fw (id b d : Nat) (s : State) : (raiseFlag id b d s).fw = s.fw := by simp [raiseFlag]
@[simp] theorem raiseFlag_free (id b d : Nat) (s : State) : (raiseFlag id b d s).free = s.free := by simp [raiseFlag]

@[simp] theorem raiseNum_pending (n d : Nat) (s : State) : (raiseNum n d s).pending = s.pending := by simp [raiseNum]
@[simp] theorem raiseNum_pins (n d : Nat) (s : State) : (raiseNum n d s).pins = s.pins := by simp [raiseNum]
@[simp] theorem raiseNum_wait (n d : Nat) (s : State) : (raiseNum n d s).wait = s.wait := by simp [raiseNum]
@[simp] theorem raiseNum_stored (n d : Nat) (s : State) : (raiseNum n d s).stored = s.stored := by simp [raiseNum]
@[simp] theorem raiseNum_planes (n d : Nat) (s : State) : (raiseNum n d s).planes = s.planes := by simp [raiseNum]
@[simp] theorem raiseNum_mods (n d : Nat) (s : State) : (raiseNum n d s).mods = s.mods := by simp [raiseNum]
@[simp] theorem raiseNum_meas (n d : Nat) (s : State) : (raiseNum n d s).meas = s.meas := by simp [raiseNum]
@[simp] theorem raiseNum_meter (n d : Nat) (s : State) : (raiseNum n d s).meter = s.meter := by simp [raiseNum]
@[simp] theorem raiseNum_rgt (n d : Nat) (s : State) : (raiseNum n d s).rgt = s.rgt := by simp [raiseNum]
@[simp] theorem raiseNum_prt (n d : Nat) (s : State) : (raiseNum n d s).prt = s.prt := by simp [raiseNum]
@[simp] theorem raiseNum_isl (n d : Nat) (s : State) : (raiseNum n d s).isl = s.isl := by simp [raiseNum]
@[simp] theorem raiseNum_txn (n d : Nat) (s : State) : (raiseNum n d s).txn = s.txn := by simp [raiseNum]
@[simp] theorem raiseNum_time (n d : Nat) (s : State) : (raiseNum n d s).time = s.time := by simp [raiseNum]
@[simp] theorem raiseNum_clk (n d : Nat) (s : State) : (raiseNum n d s).clk = s.clk := by simp [raiseNum]
@[simp] theorem raiseNum_eth0 (n d : Nat) (s : State) : (raiseNum n d s).eth0 = s.eth0 := by simp [raiseNum]
@[simp] theorem raiseNum_eth1 (n d : Nat) (s : State) : (raiseNum n d s).eth1 = s.eth1 := by simp [raiseNum]
@[simp] theorem raiseNum_replay (n d : Nat) (s : State) : (raiseNum n d s).replay = s.replay := by simp [raiseNum]
@[simp] theorem raiseNum_acq (n d : Nat) (s : State) : (raiseNum n d s).acq = s.acq := by simp [raiseNum]
@[simp] theorem raiseNum_ybus (n d : Nat) (s : State) : (raiseNum n d s).ybus = s.ybus := by simp [raiseNum]
@[simp] theorem raiseNum_sums (n d : Nat) (s : State) : (raiseNum n d s).sums = s.sums := by simp [raiseNum]
@[simp] theorem raiseNum_gfm (n d : Nat) (s : State) : (raiseNum n d s).gfm = s.gfm := by simp [raiseNum]
@[simp] theorem raiseNum_msd (n d : Nat) (s : State) : (raiseNum n d s).msd = s.msd := by simp [raiseNum]
@[simp] theorem raiseNum_red (n d : Nat) (s : State) : (raiseNum n d s).red = s.red := by simp [raiseNum]
@[simp] theorem raiseNum_fw (n d : Nat) (s : State) : (raiseNum n d s).fw = s.fw := by simp [raiseNum]
@[simp] theorem raiseNum_free (n d : Nat) (s : State) : (raiseNum n d s).free = s.free := by simp [raiseNum]

@[simp] theorem takeFails_pending (n : Nat) (s : State) : (takeFails n s).pending = s.pending := by unfold takeFails; split <;> simp
@[simp] theorem takeFails_pins (n : Nat) (s : State) : (takeFails n s).pins = s.pins := by unfold takeFails; split <;> simp
@[simp] theorem takeFails_wait (n : Nat) (s : State) : (takeFails n s).wait = s.wait := by unfold takeFails; split <;> simp
@[simp] theorem takeFails_stored (n : Nat) (s : State) : (takeFails n s).stored = s.stored := by unfold takeFails; split <;> simp
@[simp] theorem takeFails_planes (n : Nat) (s : State) : (takeFails n s).planes = s.planes := by unfold takeFails; split <;> simp
@[simp] theorem takeFails_mods (n : Nat) (s : State) : (takeFails n s).mods = s.mods := by unfold takeFails; split <;> simp
@[simp] theorem takeFails_meas (n : Nat) (s : State) : (takeFails n s).meas = s.meas := by unfold takeFails; split <;> simp
@[simp] theorem takeFails_meter (n : Nat) (s : State) : (takeFails n s).meter = s.meter := by unfold takeFails; split <;> simp
@[simp] theorem takeFails_rgt (n : Nat) (s : State) : (takeFails n s).rgt = s.rgt := by unfold takeFails; split <;> simp
@[simp] theorem takeFails_prt (n : Nat) (s : State) : (takeFails n s).prt = s.prt := by unfold takeFails; split <;> simp
@[simp] theorem takeFails_isl (n : Nat) (s : State) : (takeFails n s).isl = s.isl := by unfold takeFails; split <;> simp
@[simp] theorem takeFails_txn (n : Nat) (s : State) : (takeFails n s).txn = s.txn := by unfold takeFails; split <;> simp
@[simp] theorem takeFails_time (n : Nat) (s : State) : (takeFails n s).time = s.time := by unfold takeFails; split <;> simp
@[simp] theorem takeFails_clk (n : Nat) (s : State) : (takeFails n s).clk = s.clk := by unfold takeFails; split <;> simp
@[simp] theorem takeFails_eth0 (n : Nat) (s : State) : (takeFails n s).eth0 = s.eth0 := by unfold takeFails; split <;> simp
@[simp] theorem takeFails_eth1 (n : Nat) (s : State) : (takeFails n s).eth1 = s.eth1 := by unfold takeFails; split <;> simp
@[simp] theorem takeFails_replay (n : Nat) (s : State) : (takeFails n s).replay = s.replay := by unfold takeFails; split <;> simp
@[simp] theorem takeFails_acq (n : Nat) (s : State) : (takeFails n s).acq = s.acq := by unfold takeFails; split <;> simp
@[simp] theorem takeFails_ybus (n : Nat) (s : State) : (takeFails n s).ybus = s.ybus := by unfold takeFails; split <;> simp
@[simp] theorem takeFails_sums (n : Nat) (s : State) : (takeFails n s).sums = s.sums := by unfold takeFails; split <;> simp
@[simp] theorem takeFails_gfm (n : Nat) (s : State) : (takeFails n s).gfm = s.gfm := by unfold takeFails; split <;> simp
@[simp] theorem takeFails_msd (n : Nat) (s : State) : (takeFails n s).msd = s.msd := by unfold takeFails; split <;> simp
@[simp] theorem takeFails_fw (n : Nat) (s : State) : (takeFails n s).fw = s.fw := by unfold takeFails; split <;> simp
@[simp] theorem takeFails_free (n : Nat) (s : State) : (takeFails n s).free = s.free := by unfold takeFails; split <;> simp

@[simp] theorem complete_pending (h st c : Nat) (r : List Byte) (s : State) : (complete h st c r s).pending = s.pending := by unfold complete; (repeat' split) <;> simp
@[simp] theorem complete_pins (h st c : Nat) (r : List Byte) (s : State) : (complete h st c r s).pins = s.pins := by unfold complete; (repeat' split) <;> simp
@[simp] theorem complete_wait (h st c : Nat) (r : List Byte) (s : State) : (complete h st c r s).wait = s.wait := by unfold complete; (repeat' split) <;> simp
@[simp] theorem complete_stored (h st c : Nat) (r : List Byte) (s : State) : (complete h st c r s).stored = s.stored := by unfold complete; (repeat' split) <;> simp
@[simp] theorem complete_planes (h st c : Nat) (r : List Byte) (s : State) : (complete h st c r s).planes = s.planes := by unfold complete; (repeat' split) <;> simp
@[simp] theorem complete_mods (h st c : Nat) (r : List Byte) (s : State) : (complete h st c r s).mods = s.mods := by unfold complete; (repeat' split) <;> simp
@[simp] theorem complete_meas (h st c : Nat) (r : List Byte) (s : State) : (complete h st c r s).meas = s.meas := by unfold complete; (repeat' split) <;> simp
@[simp] theorem complete_meter (h st c : Nat) (r : List Byte) (s : State) : (complete h st c r s).meter = s.meter := by unfold complete; (repeat' split) <;> simp
@[simp] theorem complete_rgt (h st c : Nat) (r : List Byte) (s : State) : (complete h st c r s).rgt = s.rgt := by unfold complete; (repeat' split) <;> simp
@[simp] theorem complete_prt (h st c : Nat) (r : List Byte) (s : State) : (complete h st c r s).prt = s.prt := by unfold complete; (repeat' split) <;> simp
@[simp] theorem complete_isl (h st c : Nat) (r : List Byte) (s : State) : (complete h st c r s).isl = s.isl := by unfold complete; (repeat' split) <;> simp
@[simp] theorem complete_txn (h st c : Nat) (r : List Byte) (s : State) : (complete h st c r s).txn = s.txn := by unfold complete; (repeat' split) <;> simp
@[simp] theorem complete_time (h st c : Nat) (r : List Byte) (s : State) : (complete h st c r s).time = s.time := by unfold complete; (repeat' split) <;> simp
@[simp] theorem complete_clk (h st c : Nat) (r : List Byte) (s : State) : (complete h st c r s).clk = s.clk := by unfold complete; (repeat' split) <;> simp
@[simp] theorem complete_eth0 (h st c : Nat) (r : List Byte) (s : State) : (complete h st c r s).eth0 = s.eth0 := by unfold complete; (repeat' split) <;> simp
@[simp] theorem complete_eth1 (h st c : Nat) (r : List Byte) (s : State) : (complete h st c r s).eth1 = s.eth1 := by unfold complete; (repeat' split) <;> simp
@[simp] theorem complete_replay (h st c : Nat) (r : List Byte) (s : State) : (complete h st c r s).replay = s.replay := by unfold complete; (repeat' split) <;> simp
@[simp] theorem complete_acq (h st c : Nat) (r : List Byte) (s : State) : (complete h st c r s).acq = s.acq := by unfold complete; (repeat' split) <;> simp
@[simp] theorem complete_ybus (h st c : Nat) (r : List Byte) (s : State) : (complete h st c r s).ybus = s.ybus := by unfold complete; (repeat' split) <;> simp
@[simp] theorem complete_cols (h st c : Nat) (r : List Byte) (s : State) : (complete h st c r s).cols = s.cols := by unfold complete; (repeat' split) <;> simp
@[simp] theorem complete_sums (h st c : Nat) (r : List Byte) (s : State) : (complete h st c r s).sums = s.sums := by unfold complete; (repeat' split) <;> simp
@[simp] theorem complete_gfm (h st c : Nat) (r : List Byte) (s : State) : (complete h st c r s).gfm = s.gfm := by unfold complete; (repeat' split) <;> simp
@[simp] theorem complete_msd (h st c : Nat) (r : List Byte) (s : State) : (complete h st c r s).msd = s.msd := by unfold complete; (repeat' split) <;> simp
@[simp] theorem complete_red (h st c : Nat) (r : List Byte) (s : State) : (complete h st c r s).red = s.red := by unfold complete; (repeat' split) <;> simp
@[simp] theorem complete_fw (h st c : Nat) (r : List Byte) (s : State) : (complete h st c r s).fw = s.fw := by unfold complete; (repeat' split) <;> simp
@[simp] theorem complete_free (h st c : Nat) (r : List Byte) (s : State) : (complete h st c r s).free = s.free := by unfold complete; (repeat' split) <;> simp

@[simp] theorem progress_pending (h v : Nat) (s : State) : (progress h v s).pending = s.pending := by unfold progress; split <;> simp
@[simp] theorem progress_pins (h v : Nat) (s : State) : (progress h v s).pins = s.pins := by unfold progress; split <;> simp
@[simp] theorem progress_wait (h v : Nat) (s : State) : (progress h v s).wait = s.wait := by unfold progress; split <;> simp
@[simp] theorem progress_stored (h v : Nat) (s : State) : (progress h v s).stored = s.stored := by unfold progress; split <;> simp
@[simp] theorem progress_planes (h v : Nat) (s : State) : (progress h v s).planes = s.planes := by unfold progress; split <;> simp
@[simp] theorem progress_mods (h v : Nat) (s : State) : (progress h v s).mods = s.mods := by unfold progress; split <;> simp
@[simp] theorem progress_meas (h v : Nat) (s : State) : (progress h v s).meas = s.meas := by unfold progress; split <;> simp
@[simp] theorem progress_meter (h v : Nat) (s : State) : (progress h v s).meter = s.meter := by unfold progress; split <;> simp
@[simp] theorem progress_rgt (h v : Nat) (s : State) : (progress h v s).rgt = s.rgt := by unfold progress; split <;> simp
@[simp] theorem progress_prt (h v : Nat) (s : State) : (progress h v s).prt = s.prt := by unfold progress; split <;> simp
@[simp] theorem progress_isl (h v : Nat) (s : State) : (progress h v s).isl = s.isl := by unfold progress; split <;> simp
@[simp] theorem progress_txn (h v : Nat) (s : State) : (progress h v s).txn = s.txn := by unfold progress; split <;> simp
@[simp] theorem progress_time (h v : Nat) (s : State) : (progress h v s).time = s.time := by unfold progress; split <;> simp
@[simp] theorem progress_clk (h v : Nat) (s : State) : (progress h v s).clk = s.clk := by unfold progress; split <;> simp
@[simp] theorem progress_eth0 (h v : Nat) (s : State) : (progress h v s).eth0 = s.eth0 := by unfold progress; split <;> simp
@[simp] theorem progress_eth1 (h v : Nat) (s : State) : (progress h v s).eth1 = s.eth1 := by unfold progress; split <;> simp
@[simp] theorem progress_replay (h v : Nat) (s : State) : (progress h v s).replay = s.replay := by unfold progress; split <;> simp
@[simp] theorem progress_acq (h v : Nat) (s : State) : (progress h v s).acq = s.acq := by unfold progress; split <;> simp
@[simp] theorem progress_ybus (h v : Nat) (s : State) : (progress h v s).ybus = s.ybus := by unfold progress; split <;> simp
@[simp] theorem progress_cols (h v : Nat) (s : State) : (progress h v s).cols = s.cols := by unfold progress; split <;> simp
@[simp] theorem progress_sums (h v : Nat) (s : State) : (progress h v s).sums = s.sums := by unfold progress; split <;> simp
@[simp] theorem progress_gfm (h v : Nat) (s : State) : (progress h v s).gfm = s.gfm := by unfold progress; split <;> simp
@[simp] theorem progress_msd (h v : Nat) (s : State) : (progress h v s).msd = s.msd := by unfold progress; split <;> simp
@[simp] theorem progress_red (h v : Nat) (s : State) : (progress h v s).red = s.red := by unfold progress; split <;> simp
@[simp] theorem progress_fw (h v : Nat) (s : State) : (progress h v s).fw = s.fw := by unfold progress; split <;> simp
@[simp] theorem progress_free (h v : Nat) (s : State) : (progress h v s).free = s.free := by unfold progress; split <;> simp

@[simp] theorem sendReply_pending (c : Chan) (p : Packet) (s : State) : (sendReply c p s).pending = s.pending := by unfold sendReply; split <;> (try split) <;> simp
@[simp] theorem sendReply_pins (c : Chan) (p : Packet) (s : State) : (sendReply c p s).pins = s.pins := by unfold sendReply; split <;> (try split) <;> simp
@[simp] theorem sendReply_params (c : Chan) (p : Packet) (s : State) : (sendReply c p s).params = s.params := by unfold sendReply; split <;> (try split) <;> simp
@[simp] theorem sendReply_wait (c : Chan) (p : Packet) (s : State) : (sendReply c p s).wait = s.wait := by unfold sendReply; split <;> (try split) <;> simp
@[simp] theorem sendReply_stored (c : Chan) (p : Packet) (s : State) : (sendReply c p s).stored = s.stored := by unfold sendReply; split <;> (try split) <;> simp
@[simp] theorem sendReply_planes (c : Chan) (p : Packet) (s : State) : (sendReply c p s).planes = s.planes := by unfold sendReply; split <;> (try split) <;> simp
@[simp] theorem sendReply_mods (c : Chan) (p : Packet) (s : State) : (sendReply c p s).mods = s.mods := by unfold sendReply; split <;> (try split) <;> simp
@[simp] theorem sendReply_meas (c : Chan) (p : Packet) (s : State) : (sendReply c p s).meas = s.meas := by unfold sendReply; split <;> (try split) <;> simp
@[simp] theorem sendReply_meter (c : Chan) (p : Packet) (s : State) : (sendReply c p s).meter = s.meter := by unfold sendReply; split <;> (try split) <;> simp
@[simp] theorem sendReply_rgt (c : Chan) (p : Packet) (s : State) : (sendReply c p s).rgt = s.rgt := by unfold sendReply; split <;> (try split) <;> simp
@[simp] theorem sendReply_prt (c : Chan) (p : Packet) (s : State) : (sendReply c p s).prt = s.prt := by unfold sendReply; split <;> (try split) <;> simp
@[simp] theorem sendReply_isl (c : Chan) (p : Packet) (s : State) : (sendReply c p s).isl = s.isl := by unfold sendReply; split <;> (try split) <;> simp
@[simp] theorem sendReply_txn (c : Chan) (p : Packet) (s : State) : (sendReply c p s).txn = s.txn := by unfold sendReply; split <;> (try split) <;> simp
@[simp] theorem sendReply_time (c : Chan) (p : Packet) (s : State) : (sendReply c p s).time = s.time := by unfold sendReply; split <;> (try split) <;> simp
@[simp] theorem sendReply_clk (c : Chan) (p : Packet) (s : State) : (sendReply c p s).clk = s.clk := by unfold sendReply; split <;> (try split) <;> simp
@[simp] theorem sendReply_eth0 (c : Chan) (p : Packet) (s : State) : (sendReply c p s).eth0 = s.eth0 := by unfold sendReply; split <;> (try split) <;> simp
@[simp] theorem sendReply_eth1 (c : Chan) (p : Packet) (s : State) : (sendReply c p s).eth1 = s.eth1 := by unfold sendReply; split <;> (try split) <;> simp
@[simp] theorem sendReply_replay (c : Chan) (p : Packet) (s : State) : (sendReply c p s).replay = s.replay := by unfold sendReply; split <;> (try split) <;> simp
@[simp] theorem sendReply_acq (c : Chan) (p : Packet) (s : State) : (sendReply c p s).acq = s.acq := by unfold sendReply; split <;> (try split) <;> simp
@[simp] theorem sendReply_ybus (c : Chan) (p : Packet) (s : State) : (sendReply c p s).ybus = s.ybus := by unfold sendReply; split <;> (try split) <;> simp
@[simp] theorem sendReply_cols (c : Chan) (p : Packet) (s : State) : (sendReply c p s).cols = s.cols := by unfold sendReply; split <;> (try split) <;> simp
@[simp] theorem sendReply_sums (c : Chan) (p : Packet) (s : State) : (sendReply c p s).sums = s.sums := by unfold sendReply; split <;> (try split) <;> simp
@[simp] theorem sendReply_gfm (c : Chan) (p : Packet) (s : State) : (sendReply c p s).gfm = s.gfm := by unfold sendReply; split <;> (try split) <;> simp
@[simp] theorem sendReply_msd (c : Chan) (p : Packet) (s : State) : (sendReply c p s).msd = s.msd := by unfold sendReply; split <;> (try split) <;> simp
@[simp] theorem sendReply_red (c : Chan) (p : Packet) (s : State) : (sendReply c p s).red = s.red := by unfold sendReply; split <;> (try split) <;> simp
@[simp] theorem sendReply_fw (c : Chan) (p : Packet) (s : State) : (sendReply c p s).fw = s.fw := by unfold sendReply; split <;> (try split) <;> simp
@[simp] theorem sendReply_free (c : Chan) (p : Packet) (s : State) : (sendReply c p s).free = s.free := by unfold sendReply; split <;> (try split) <;> simp

@[simp] theorem keepReply_pending (e : Env) (p : Packet) (s : State) : (keepReply e p s).pending = s.pending := by simp [keepReply]
@[simp] theorem keepReply_pins (e : Env) (p : Packet) (s : State) : (keepReply e p s).pins = s.pins := by simp [keepReply]
@[simp] theorem keepReply_params (e : Env) (p : Packet) (s : State) : (keepReply e p s).params = s.params := by simp [keepReply]
@[simp] theorem keepReply_wait (e : Env) (p : Packet) (s : State) : (keepReply e p s).wait = s.wait := by simp [keepReply]
@[simp] theorem keepReply_stored (e : Env) (p : Packet) (s : State) : (keepReply e p s).stored = s.stored := by simp [keepReply]
@[simp] theorem keepReply_planes (e : Env) (p : Packet) (s : State) : (keepReply e p s).planes = s.planes := by simp [keepReply]
@[simp] theorem keepReply_mods (e : Env) (p : Packet) (s : State) : (keepReply e p s).mods = s.mods := by simp [keepReply]
@[simp] theorem keepReply_meas (e : Env) (p : Packet) (s : State) : (keepReply e p s).meas = s.meas := by simp [keepReply]
@[simp] theorem keepReply_meter (e : Env) (p : Packet) (s : State) : (keepReply e p s).meter = s.meter := by simp [keepReply]
@[simp] theorem keepReply_rgt (e : Env) (p : Packet) (s : State) : (keepReply e p s).rgt = s.rgt := by simp [keepReply]
@[simp] theorem keepReply_prt (e : Env) (p : Packet) (s : State) : (keepReply e p s).prt = s.prt := by simp [keepReply]
@[simp] theorem keepReply_isl (e : Env) (p : Packet) (s : State) : (keepReply e p s).isl = s.isl := by simp [keepReply]
@[simp] theorem keepReply_txn (e : Env) (p : Packet) (s : State) : (keepReply e p s).txn = s.txn := by simp [keepReply]
@[simp] theorem keepReply_time (e : Env) (p : Packet) (s : State) : (keepReply e p s).time = s.time := by simp [keepReply]
@[simp] theorem keepReply_clk (e : Env) (p : Packet) (s : State) : (keepReply e p s).clk = s.clk := by simp [keepReply]
@[simp] theorem keepReply_eth0 (e : Env) (p : Packet) (s : State) : (keepReply e p s).eth0 = s.eth0 := by simp [keepReply]
@[simp] theorem keepReply_eth1 (e : Env) (p : Packet) (s : State) : (keepReply e p s).eth1 = s.eth1 := by simp [keepReply]
@[simp] theorem keepReply_replay (e : Env) (p : Packet) (s : State) : (keepReply e p s).replay = s.replay := by simp [keepReply]
@[simp] theorem keepReply_acq (e : Env) (p : Packet) (s : State) : (keepReply e p s).acq = s.acq := by simp [keepReply]
@[simp] theorem keepReply_ybus (e : Env) (p : Packet) (s : State) : (keepReply e p s).ybus = s.ybus := by simp [keepReply]
@[simp] theorem keepReply_cols (e : Env) (p : Packet) (s : State) : (keepReply e p s).cols = s.cols := by simp [keepReply]
@[simp] theorem keepReply_sums (e : Env) (p : Packet) (s : State) : (keepReply e p s).sums = s.sums := by simp [keepReply]
@[simp] theorem keepReply_gfm (e : Env) (p : Packet) (s : State) : (keepReply e p s).gfm = s.gfm := by simp [keepReply]
@[simp] theorem keepReply_msd (e : Env) (p : Packet) (s : State) : (keepReply e p s).msd = s.msd := by simp [keepReply]
@[simp] theorem keepReply_red (e : Env) (p : Packet) (s : State) : (keepReply e p s).red = s.red := by simp [keepReply]
@[simp] theorem keepReply_fw (e : Env) (p : Packet) (s : State) : (keepReply e p s).fw = s.fw := by simp [keepReply]
@[simp] theorem keepReply_wire (e : Env) (p : Packet) (s : State) : (keepReply e p s).wire = s.wire := by simp [keepReply]
@[simp] theorem keepReply_free (e : Env) (p : Packet) (s : State) : (keepReply e p s).free = s.free := by simp [keepReply]

@[simp] theorem answer_pending (cls op : Nat) (e : Env) (st h : Nat) (pl : List Byte) (s : State) : (answer cls op e st h pl s).pending = s.pending := by simp [answer]
@[simp] theorem answer_pins (cls op : Nat) (e : Env) (st h : Nat) (pl : List Byte) (s : State) : (answer cls op e st h pl s).pins = s.pins := by simp [answer]
@[simp] theorem answer_params (cls op : Nat) (e : Env) (st h : Nat) (pl : List Byte) (s : State) : (answer cls op e st h pl s).params = s.params := by simp [answer]
@[simp] theorem answer_wait (cls op : Nat) (e : Env) (st h : Nat) (pl : List Byte) (s : State) : (answer cls op e st h pl s).wait = s.wait := by simp [answer]
@[simp] theorem answer_stored (cls op : Nat) (e : Env) (st h : Nat) (pl : List Byte) (s : State) : (answer cls op e st h pl s).stored = s.stored := by simp [answer]
@[simp] theorem answer_planes (cls op : Nat) (e : Env) (st h : Nat) (pl : List Byte) (s : State) : (answer cls op e st h pl s).planes = s.planes := by simp [answer]
@[simp] theorem answer_mods (cls op : Nat) (e : Env) (st h : Nat) (pl : List Byte) (s : State) : (answer cls op e st h pl s).mods = s.mods := by simp [answer]
@[simp] theorem answer_meas (cls op : Nat) (e : Env) (st h : Nat) (pl : List Byte) (s : State) : (answer cls op e st h pl s).meas = s.meas := by simp [answer]
@[simp] theorem answer_meter (cls op : Nat) (e : Env) (st h : Nat) (pl : List Byte) (s : State) : (answer cls op e st h pl s).meter = s.meter := by simp [answer]
@[simp] theorem answer_rgt (cls op : Nat) (e : Env) (st h : Nat) (pl : List Byte) (s : State) : (answer cls op e st h pl s).rgt = s.rgt := by simp [answer]
@[simp] theorem answer_prt (cls op : Nat) (e : Env) (st h : Nat) (pl : List Byte) (s : State) : (answer cls op e st h pl s).prt = s.prt := by simp [answer]
@[simp] theorem answer_isl (cls op : Nat) (e : Env) (st h : Nat) (pl : List Byte) (s : State) : (answer cls op e st h pl s).isl = s.isl := by simp [answer]
@[simp] theorem answer_txn (cls op : Nat) (e : Env) (st h : Nat) (pl : List Byte) (s : State) : (answer cls op e st h pl s).txn = s.txn := by simp [answer]
@[simp] theorem answer_time (cls op : Nat) (e : Env) (st h : Nat) (pl : List Byte) (s : State) : (answer cls op e st h pl s).time = s.time := by simp [answer]
@[simp] theorem answer_clk (cls op : Nat) (e : Env) (st h : Nat) (pl : List Byte) (s : State) : (answer cls op e st h pl s).clk = s.clk := by simp [answer]
@[simp] theorem answer_eth0 (cls op : Nat) (e : Env) (st h : Nat) (pl : List Byte) (s : State) : (answer cls op e st h pl s).eth0 = s.eth0 := by simp [answer]
@[simp] theorem answer_eth1 (cls op : Nat) (e : Env) (st h : Nat) (pl : List Byte) (s : State) : (answer cls op e st h pl s).eth1 = s.eth1 := by simp [answer]
@[simp] theorem answer_replay (cls op : Nat) (e : Env) (st h : Nat) (pl : List Byte) (s : State) : (answer cls op e st h pl s).replay = s.replay := by simp [answer]
@[simp] theorem answer_acq (cls op : Nat) (e : Env) (st h : Nat) (pl : List Byte) (s : State) : (answer cls op e st h pl s).acq = s.acq := by simp [answer]
@[simp] theorem answer_ybus (cls op : Nat) (e : Env) (st h : Nat) (pl : List Byte) (s : State) : (answer cls op e st h pl s).ybus = s.ybus := by simp [answer]
@[simp] theorem answer_cols (cls op : Nat) (e : Env) (st h : Nat) (pl : List Byte) (s : State) : (answer cls op e st h pl s).cols = s.cols := by simp [answer]
@[simp] theorem answer_sums (cls op : Nat) (e : Env) (st h : Nat) (pl : List Byte) (s : State) : (answer cls op e st h pl s).sums = s.sums := by simp [answer]
@[simp] theorem answer_gfm (cls op : Nat) (e : Env) (st h : Nat) (pl : List Byte) (s : State) : (answer cls op e st h pl s).gfm = s.gfm := by simp [answer]
@[simp] theorem answer_msd (cls op : Nat) (e : Env) (st h : Nat) (pl : List Byte) (s : State) : (answer cls op e st h pl s).msd = s.msd := by simp [answer]
@[simp] theorem answer_red (cls op : Nat) (e : Env) (st h : Nat) (pl : List Byte) (s : State) : (answer cls op e st h pl s).red = s.red := by simp [answer]
@[simp] theorem answer_fw (cls op : Nat) (e : Env) (st h : Nat) (pl : List Byte) (s : State) : (answer cls op e st h pl s).fw = s.fw := by simp [answer]
@[simp] theorem answer_free (cls op : Nat) (e : Env) (st h : Nat) (pl : List Byte) (s : State) : (answer cls op e st h pl s).free = s.free := by simp [answer]

@[simp] theorem acceptSeq_pending (e : Env) (s : State) : (acceptSeq e s).pending = s.pending := by unfold acceptSeq; dsimp only; split <;> split <;> simp
@[simp] theorem acceptSeq_pins (e : Env) (s : State) : (acceptSeq e s).pins = s.pins := by unfold acceptSeq; dsimp only; split <;> split <;> simp
@[simp] theorem acceptSeq_wait (e : Env) (s : State) : (acceptSeq e s).wait = s.wait := by unfold acceptSeq; dsimp only; split <;> split <;> simp
@[simp] theorem acceptSeq_stored (e : Env) (s : State) : (acceptSeq e s).stored = s.stored := by unfold acceptSeq; dsimp only; split <;> split <;> simp
@[simp] theorem acceptSeq_planes (e : Env) (s : State) : (acceptSeq e s).planes = s.planes := by unfold acceptSeq; dsimp only; split <;> split <;> simp
@[simp] theorem acceptSeq_mods (e : Env) (s : State) : (acceptSeq e s).mods = s.mods := by unfold acceptSeq; dsimp only; split <;> split <;> simp
@[simp] theorem acceptSeq_meas (e : Env) (s : State) : (acceptSeq e s).meas = s.meas := by unfold acceptSeq; dsimp only; split <;> split <;> simp
@[simp] theorem acceptSeq_meter (e : Env) (s : State) : (acceptSeq e s).meter = s.meter := by unfold acceptSeq; dsimp only; split <;> split <;> simp
@[simp] theorem acceptSeq_rgt (e : Env) (s : State) : (acceptSeq e s).rgt = s.rgt := by unfold acceptSeq; dsimp only; split <;> split <;> simp
@[simp] theorem acceptSeq_prt (e : Env) (s : State) : (acceptSeq e s).prt = s.prt := by unfold acceptSeq; dsimp only; split <;> split <;> simp
@[simp] theorem acceptSeq_txn (e : Env) (s : State) : (acceptSeq e s).txn = s.txn := by unfold acceptSeq; dsimp only; split <;> split <;> simp
@[simp] theorem acceptSeq_time (e : Env) (s : State) : (acceptSeq e s).time = s.time := by unfold acceptSeq; dsimp only; split <;> split <;> simp
@[simp] theorem acceptSeq_clk (e : Env) (s : State) : (acceptSeq e s).clk = s.clk := by unfold acceptSeq; dsimp only; split <;> split <;> simp
@[simp] theorem acceptSeq_eth0 (e : Env) (s : State) : (acceptSeq e s).eth0 = s.eth0 := by unfold acceptSeq; dsimp only; split <;> split <;> simp
@[simp] theorem acceptSeq_eth1 (e : Env) (s : State) : (acceptSeq e s).eth1 = s.eth1 := by unfold acceptSeq; dsimp only; split <;> split <;> simp
@[simp] theorem acceptSeq_replay (e : Env) (s : State) : (acceptSeq e s).replay = s.replay := by unfold acceptSeq; dsimp only; split <;> split <;> simp
@[simp] theorem acceptSeq_acq (e : Env) (s : State) : (acceptSeq e s).acq = s.acq := by unfold acceptSeq; dsimp only; split <;> split <;> simp
@[simp] theorem acceptSeq_ybus (e : Env) (s : State) : (acceptSeq e s).ybus = s.ybus := by unfold acceptSeq; dsimp only; split <;> split <;> simp
@[simp] theorem acceptSeq_cols (e : Env) (s : State) : (acceptSeq e s).cols = s.cols := by unfold acceptSeq; dsimp only; split <;> split <;> simp
@[simp] theorem acceptSeq_sums (e : Env) (s : State) : (acceptSeq e s).sums = s.sums := by unfold acceptSeq; dsimp only; split <;> split <;> simp
@[simp] theorem acceptSeq_gfm (e : Env) (s : State) : (acceptSeq e s).gfm = s.gfm := by unfold acceptSeq; dsimp only; split <;> split <;> simp
@[simp] theorem acceptSeq_msd (e : Env) (s : State) : (acceptSeq e s).msd = s.msd := by unfold acceptSeq; dsimp only; split <;> split <;> simp
@[simp] theorem acceptSeq_red (e : Env) (s : State) : (acceptSeq e s).red = s.red := by unfold acceptSeq; dsimp only; split <;> split <;> simp
@[simp] theorem acceptSeq_fw (e : Env) (s : State) : (acceptSeq e s).fw = s.fw := by unfold acceptSeq; dsimp only; split <;> split <;> simp
@[simp] theorem acceptSeq_free (e : Env) (s : State) : (acceptSeq e s).free = s.free := by unfold acceptSeq; dsimp only; split <;> split <;> simp

@[simp] theorem allocHandle_pending (op : Nat) (c : Chan) (s : State) : (allocHandle op c s).pending = s.pending := by unfold allocHandle; split <;> rfl
@[simp] theorem allocHandle_pins (op : Nat) (c : Chan) (s : State) : (allocHandle op c s).pins = s.pins := by unfold allocHandle; split <;> rfl
@[simp] theorem allocHandle_params (op : Nat) (c : Chan) (s : State) : (allocHandle op c s).params = s.params := by unfold allocHandle; split <;> rfl
@[simp] theorem allocHandle_wait (op : Nat) (c : Chan) (s : State) : (allocHandle op c s).wait = s.wait := by unfold allocHandle; split <;> rfl
@[simp] theorem allocHandle_stored (op : Nat) (c : Chan) (s : State) : (allocHandle op c s).stored = s.stored := by unfold allocHandle; split <;> rfl
@[simp] theorem allocHandle_planes (op : Nat) (c : Chan) (s : State) : (allocHandle op c s).planes = s.planes := by unfold allocHandle; split <;> rfl
@[simp] theorem allocHandle_mods (op : Nat) (c : Chan) (s : State) : (allocHandle op c s).mods = s.mods := by unfold allocHandle; split <;> rfl
@[simp] theorem allocHandle_meas (op : Nat) (c : Chan) (s : State) : (allocHandle op c s).meas = s.meas := by unfold allocHandle; split <;> rfl
@[simp] theorem allocHandle_meter (op : Nat) (c : Chan) (s : State) : (allocHandle op c s).meter = s.meter := by unfold allocHandle; split <;> rfl
@[simp] theorem allocHandle_rgt (op : Nat) (c : Chan) (s : State) : (allocHandle op c s).rgt = s.rgt := by unfold allocHandle; split <;> rfl
@[simp] theorem allocHandle_prt (op : Nat) (c : Chan) (s : State) : (allocHandle op c s).prt = s.prt := by unfold allocHandle; split <;> rfl
@[simp] theorem allocHandle_isl (op : Nat) (c : Chan) (s : State) : (allocHandle op c s).isl = s.isl := by unfold allocHandle; split <;> rfl
@[simp] theorem allocHandle_txn (op : Nat) (c : Chan) (s : State) : (allocHandle op c s).txn = s.txn := by unfold allocHandle; split <;> rfl
@[simp] theorem allocHandle_time (op : Nat) (c : Chan) (s : State) : (allocHandle op c s).time = s.time := by unfold allocHandle; split <;> rfl
@[simp] theorem allocHandle_clk (op : Nat) (c : Chan) (s : State) : (allocHandle op c s).clk = s.clk := by unfold allocHandle; split <;> rfl
@[simp] theorem allocHandle_eth0 (op : Nat) (c : Chan) (s : State) : (allocHandle op c s).eth0 = s.eth0 := by unfold allocHandle; split <;> rfl
@[simp] theorem allocHandle_eth1 (op : Nat) (c : Chan) (s : State) : (allocHandle op c s).eth1 = s.eth1 := by unfold allocHandle; split <;> rfl
@[simp] theorem allocHandle_replay (op : Nat) (c : Chan) (s : State) : (allocHandle op c s).replay = s.replay := by unfold allocHandle; split <;> rfl
@[simp] theorem allocHandle_acq (op : Nat) (c : Chan) (s : State) : (allocHandle op c s).acq = s.acq := by unfold allocHandle; split <;> rfl
@[simp] theorem allocHandle_ybus (op : Nat) (c : Chan) (s : State) : (allocHandle op c s).ybus = s.ybus := by unfold allocHandle; split <;> rfl
@[simp] theorem allocHandle_cols (op : Nat) (c : Chan) (s : State) : (allocHandle op c s).cols = s.cols := by unfold allocHandle; split <;> rfl
@[simp] theorem allocHandle_sums (op : Nat) (c : Chan) (s : State) : (allocHandle op c s).sums = s.sums := by unfold allocHandle; split <;> rfl
@[simp] theorem allocHandle_gfm (op : Nat) (c : Chan) (s : State) : (allocHandle op c s).gfm = s.gfm := by unfold allocHandle; split <;> rfl
@[simp] theorem allocHandle_msd (op : Nat) (c : Chan) (s : State) : (allocHandle op c s).msd = s.msd := by unfold allocHandle; split <;> rfl
@[simp] theorem allocHandle_red (op : Nat) (c : Chan) (s : State) : (allocHandle op c s).red = s.red := by unfold allocHandle; split <;> rfl
@[simp] theorem allocHandle_fw (op : Nat) (c : Chan) (s : State) : (allocHandle op c s).fw = s.fw := by unfold allocHandle; split <;> rfl
@[simp] theorem allocHandle_wire (op : Nat) (c : Chan) (s : State) : (allocHandle op c s).wire = s.wire := by unfold allocHandle; split <;> rfl
@[simp] theorem allocHandle_free (op : Nat) (c : Chan) (s : State) : (allocHandle op c s).free = s.free := by unfold allocHandle; split <;> rfl

@[simp] theorem enterState_pending (p : Plane) (st : PState) (sub : SafeSub) (s : State) : (enterState p st sub s).pending = s.pending := by unfold enterState; dsimp only; split <;> simp
@[simp] theorem enterState_pins (p : Plane) (st : PState) (sub : SafeSub) (s : State) : (enterState p st sub s).pins = s.pins := by unfold enterState; dsimp only; split <;> simp
@[simp] theorem enterState_wait (p : Plane) (st : PState) (sub : SafeSub) (s : State) : (enterState p st sub s).wait = s.wait := by unfold enterState; dsimp only; split <;> simp
@[simp] theorem enterState_stored (p : Plane) (st : PState) (sub : SafeSub) (s : State) : (enterState p st sub s).stored = s.stored := by unfold enterState; dsimp only; split <;> simp
@[simp] theorem enterState_mods (p : Plane) (st : PState) (sub : SafeSub) (s : State) : (enterState p st sub s).mods = s.mods := by unfold enterState; dsimp only; split <;> simp
@[simp] theorem enterState_meas (p : Plane) (st : PState) (sub : SafeSub) (s : State) : (enterState p st sub s).meas = s.meas := by unfold enterState; dsimp only; split <;> simp
@[simp] theorem enterState_meter (p : Plane) (st : PState) (sub : SafeSub) (s : State) : (enterState p st sub s).meter = s.meter := by unfold enterState; dsimp only; split <;> simp
@[simp] theorem enterState_rgt (p : Plane) (st : PState) (sub : SafeSub) (s : State) : (enterState p st sub s).rgt = s.rgt := by unfold enterState; dsimp only; split <;> simp
@[simp] theorem enterState_prt (p : Plane) (st : PState) (sub : SafeSub) (s : State) : (enterState p st sub s).prt = s.prt := by unfold enterState; dsimp only; split <;> simp
@[simp] theorem enterState_isl (p : Plane) (st : PState) (sub : SafeSub) (s : State) : (enterState p st sub s).isl = s.isl := by unfold enterState; dsimp only; split <;> simp
@[simp] theorem enterState_txn (p : Plane) (st : PState) (sub : SafeSub) (s : State) : (enterState p st sub s).txn = s.txn := by unfold enterState; dsimp only; split <;> simp
@[simp] theorem enterState_time (p : Plane) (st : PState) (sub : SafeSub) (s : State) : (enterState p st sub s).time = s.time := by unfold enterState; dsimp only; split <;> simp
@[simp] theorem enterState_clk (p : Plane) (st : PState) (sub : SafeSub) (s : State) : (enterState p st sub s).clk = s.clk := by unfold enterState; dsimp only; split <;> simp
@[simp] theorem enterState_eth0 (p : Plane) (st : PState) (sub : SafeSub) (s : State) : (enterState p st sub s).eth0 = s.eth0 := by unfold enterState; dsimp only; split <;> simp
@[simp] theorem enterState_eth1 (p : Plane) (st : PState) (sub : SafeSub) (s : State) : (enterState p st sub s).eth1 = s.eth1 := by unfold enterState; dsimp only; split <;> simp
@[simp] theorem enterState_replay (p : Plane) (st : PState) (sub : SafeSub) (s : State) : (enterState p st sub s).replay = s.replay := by unfold enterState; dsimp only; split <;> simp
@[simp] theorem enterState_acq (p : Plane) (st : PState) (sub : SafeSub) (s : State) : (enterState p st sub s).acq = s.acq := by unfold enterState; dsimp only; split <;> simp
@[simp] theorem enterState_ybus (p : Plane) (st : PState) (sub : SafeSub) (s : State) : (enterState p st sub s).ybus = s.ybus := by unfold enterState; dsimp only; split <;> simp
@[simp] theorem enterState_sums (p : Plane) (st : PState) (sub : SafeSub) (s : State) : (enterState p st sub s).sums = s.sums := by unfold enterState; dsimp only; split <;> simp
@[simp] theorem enterState_gfm (p : Plane) (st : PState) (sub : SafeSub) (s : State) : (enterState p st sub s).gfm = s.gfm := by unfold enterState; dsimp only; split <;> simp
@[simp] theorem enterState_msd (p : Plane) (st : PState) (sub : SafeSub) (s : State) : (enterState p st sub s).msd = s.msd := by unfold enterState; dsimp only; split <;> simp
@[simp] theorem enterState_red (p : Plane) (st : PState) (sub : SafeSub) (s : State) : (enterState p st sub s).red = s.red := by unfold enterState; dsimp only; split <;> simp
@[simp] theorem enterState_fw (p : Plane) (st : PState) (sub : SafeSub) (s : State) : (enterState p st sub s).fw = s.fw := by unfold enterState; dsimp only; split <;> simp
@[simp] theorem enterState_free (p : Plane) (st : PState) (sub : SafeSub) (s : State) : (enterState p st sub s).free = s.free := by unfold enterState; dsimp only; split <;> simp

/-! ## Parameters and events -/

theorem par_pushSpi (p : Packet) (s : State) {j : Nat} (h : j ≠ sysEvtLostCnt) : par (pushSpi p s) j = par s j := by
  unfold pushSpi; split <;> simp [par_count_other, h]

theorem par_setChan (c : Chan) (k : ChanSt) (s : State) (j : Nat) : par (setChan c k s) j = par s j := by cases c <;> rfl

theorem par_keepChan (c : Chan) (k : ChanSt) (s : State) (j : Nat) : par (keepChan c k s) j = par s j := by cases c <;> rfl

theorem par_sendTo (c : Chan) (p : Packet) (s : State) {j : Nat} (h : j ≠ sysEvtLostCnt) : par (sendTo c p s) j = par s j := by
  unfold sendTo; split <;> cases c <;> simp [par_pushSpi, h, noteEvent, par_keepChan]

theorem par_sendDst (p : Packet) (n : Nat) (s : State) {j : Nat} : par (sendDst p n s) j = par s j := by
  unfold sendDst; split <;> simp

theorem par_routeAsync (p : Packet) (s : State) {j : Nat} (h : j ≠ sysEvtLostCnt) : par (routeAsync p s) j = par s j := by
  unfold routeAsync; dsimp only; split <;> simp [par_sendDst, par_pushSpi, h, noteEvent]

theorem par_sendAsync (o : Option Nat) (c : Nat) (b : List Byte) (s : State) {j : Nat} (h : j ≠ sysEvtLostCnt) : par (sendAsync o c b s) j = par s j := by
  unfold sendAsync; split
  · exact par_routeAsync _ _ h
  · split
    · rfl
    · split <;> simp [par]

theorem par_flagEvent (id b d : Nat) (s : State) {j : Nat} (h : j ≠ sysEvtLostCnt) : par (flagEvent id b d s) j = par s j := by
  simp [flagEvent, par_sendAsync, h]

theorem par_raiseNum (n d : Nat) (s : State) {j : Nat} (h : j ≠ sysEvtLostCnt) : par (raiseNum n d s) j = par s j := by
  simp [raiseNum, par_flagEvent, h]

theorem par_complete (x st c : Nat) (r : List Byte) (s : State) {j : Nat} (h : j ≠ sysEvtLostCnt) : par (complete x st c r s) j = par s j := by
  unfold complete; (repeat' split) <;> simp [par_sendTo, h]

theorem par_progress (x v : Nat) (s : State) {j : Nat} (h : j ≠ sysEvtLostCnt) : par (progress x v s) j = par s j := by
  unfold progress; split <;> simp [par_sendTo, h]

theorem par_enterState (p : Plane) (st : PState) (sub : SafeSub) (s : State) {j : Nat} (h : j ≠ sysEvtLostCnt) : par (enterState p st sub s) j = par s j := by
  unfold enterState; dsimp only; split <;> simp [par_sendAsync, h]

/-- A flag's bit is set after it is raised. -/
theorem parBit_raiseFlag (id b d : Nat) (s : State) (hb : b < 32) (h : id ≠ sysEvtLostCnt) :
    parBit (raiseFlag id b d s) id b = true := by
  have h1 := parBit_setParBit id b s hb
  simp only [parBit, raiseFlag, par_flagEvent _ _ _ _ h] at h1 ⊢
  exact h1

theorem par_raiseFlag_other {id j : Nat} (b d : Nat) (s : State) (h1 : j ≠ id) (h : j ≠ sysEvtLostCnt) :
    par (raiseFlag id b d s) j = par s j := by
  simp [raiseFlag, par_flagEvent, h, par_setParBit_other _ _ _ h1]

/-! ## Handles -/


@[simp] theorem setChan_host_ops (c : Chan) (k : ChanSt) (s : State) : (setChan c k s).host.ops = s.host.ops := by cases c <;> rfl
@[simp] theorem setChan_host_gens (c : Chan) (k : ChanSt) (s : State) : (setChan c k s).host.gens = s.host.gens := by cases c <;> rfl
@[simp] theorem setChan_host_irq (c : Chan) (k : ChanSt) (s : State) : (setChan c k s).host.irq = s.host.irq := by cases c <;> rfl

@[simp] theorem pushSpi_host_ops (p : Packet) (s : State) : (pushSpi p s).host.ops = s.host.ops := by unfold pushSpi; split <;> rfl
@[simp] theorem pushSpi_host_gens (p : Packet) (s : State) : (pushSpi p s).host.gens = s.host.gens := by unfold pushSpi; split <;> rfl
@[simp] theorem pushSpi_host_irq (p : Packet) (s : State) : (pushSpi p s).host.irq = s.host.irq := by unfold pushSpi; split <;> rfl

@[simp] theorem keepChan_host_ops (c : Chan) (k : ChanSt) (s : State) : (keepChan c k s).host.ops = s.host.ops := by cases c <;> rfl
@[simp] theorem keepChan_host_gens (c : Chan) (k : ChanSt) (s : State) : (keepChan c k s).host.gens = s.host.gens := by cases c <;> rfl
@[simp] theorem keepChan_host_irq (c : Chan) (k : ChanSt) (s : State) : (keepChan c k s).host.irq = s.host.irq := by cases c <;> rfl

@[simp] theorem touchChan_host_ops (c : Chan) (s : State) : (touchChan c s).host.ops = s.host.ops := by cases c <;> rfl
@[simp] theorem touchChan_host_gens (c : Chan) (s : State) : (touchChan c s).host.gens = s.host.gens := by cases c <;> rfl
@[simp] theorem touchChan_host_irq (c : Chan) (s : State) : (touchChan c s).host.irq = s.host.irq := by cases c <;> rfl

@[simp] theorem noteEvent_host_ops (c : Nat) (s : State) : (noteEvent c s).host.ops = s.host.ops := by rfl
@[simp] theorem noteEvent_host_gens (c : Nat) (s : State) : (noteEvent c s).host.gens = s.host.gens := by rfl
@[simp] theorem noteEvent_host_irq (c : Nat) (s : State) : (noteEvent c s).host.irq = s.host.irq := by rfl

@[simp] theorem colPut_host_ops (c : Nat) (s : State) : (colPut c s).host.ops = s.host.ops := by simp
@[simp] theorem colPut_host_gens (c : Nat) (s : State) : (colPut c s).host.gens = s.host.gens := by simp
@[simp] theorem colPut_host_irq (c : Nat) (s : State) : (colPut c s).host.irq = s.host.irq := by simp

@[simp] theorem sendTo_host_ops (c : Chan) (p : Packet) (s : State) : (sendTo c p s).host.ops = s.host.ops := by unfold sendTo; split <;> cases c <;> simp [emit]
@[simp] theorem sendTo_host_gens (c : Chan) (p : Packet) (s : State) : (sendTo c p s).host.gens = s.host.gens := by unfold sendTo; split <;> cases c <;> simp [emit]
@[simp] theorem sendTo_host_irq (c : Chan) (p : Packet) (s : State) : (sendTo c p s).host.irq = s.host.irq := by unfold sendTo; split <;> cases c <;> simp [emit]

@[simp] theorem sendDst_host_ops (p : Packet) (n : Nat) (s : State) : (sendDst p n s).host.ops = s.host.ops := by unfold sendDst; split <;> simp [emit]
@[simp] theorem sendDst_host_gens (p : Packet) (n : Nat) (s : State) : (sendDst p n s).host.gens = s.host.gens := by unfold sendDst; split <;> simp [emit]
@[simp] theorem sendDst_host_irq (p : Packet) (n : Nat) (s : State) : (sendDst p n s).host.irq = s.host.irq := by unfold sendDst; split <;> simp [emit]

@[simp] theorem routeAsync_host_ops (p : Packet) (s : State) : (routeAsync p s).host.ops = s.host.ops := by unfold routeAsync; dsimp only; split <;> simp
@[simp] theorem routeAsync_host_gens (p : Packet) (s : State) : (routeAsync p s).host.gens = s.host.gens := by unfold routeAsync; dsimp only; split <;> simp
@[simp] theorem routeAsync_host_irq (p : Packet) (s : State) : (routeAsync p s).host.irq = s.host.irq := by unfold routeAsync; dsimp only; split <;> simp

@[simp] theorem sendAsync_host_ops (o : Option Nat) (c : Nat) (b : List Byte) (s : State) : (sendAsync o c b s).host.ops = s.host.ops := by (unfold sendAsync; split; (exact routeAsync_host_ops _ _); split; rfl; split; (exact colPut_host_ops _ _); rfl)
@[simp] theorem sendAsync_host_gens (o : Option Nat) (c : Nat) (b : List Byte) (s : State) : (sendAsync o c b s).host.gens = s.host.gens := by (unfold sendAsync; split; (exact routeAsync_host_gens _ _); split; rfl; split; (exact colPut_host_gens _ _); rfl)
@[simp] theorem sendAsync_host_irq (o : Option Nat) (c : Nat) (b : List Byte) (s : State) : (sendAsync o c b s).host.irq = s.host.irq := by (unfold sendAsync; split; (exact routeAsync_host_irq _ _); split; rfl; split; (exact colPut_host_irq _ _); rfl)

@[simp] theorem flagEvent_host_ops (id b d : Nat) (s : State) : (flagEvent id b d s).host.ops = s.host.ops := by simp [flagEvent]
@[simp] theorem flagEvent_host_gens (id b d : Nat) (s : State) : (flagEvent id b d s).host.gens = s.host.gens := by simp [flagEvent]
@[simp] theorem flagEvent_host_irq (id b d : Nat) (s : State) : (flagEvent id b d s).host.irq = s.host.irq := by simp [flagEvent]

@[simp] theorem raiseFlag_host_ops (id b d : Nat) (s : State) : (raiseFlag id b d s).host.ops = s.host.ops := by simp [raiseFlag]
@[simp] theorem raiseFlag_host_gens (id b d : Nat) (s : State) : (raiseFlag id b d s).host.gens = s.host.gens := by simp [raiseFlag]
@[simp] theorem raiseFlag_host_irq (id b d : Nat) (s : State) : (raiseFlag id b d s).host.irq = s.host.irq := by simp [raiseFlag]

@[simp] theorem raiseNum_host_ops (n d : Nat) (s : State) : (raiseNum n d s).host.ops = s.host.ops := by simp [raiseNum]
@[simp] theorem raiseNum_host_gens (n d : Nat) (s : State) : (raiseNum n d s).host.gens = s.host.gens := by simp [raiseNum]
@[simp] theorem raiseNum_host_irq (n d : Nat) (s : State) : (raiseNum n d s).host.irq = s.host.irq := by simp [raiseNum]

@[simp] theorem progress_host_ops (h v : Nat) (s : State) : (progress h v s).host.ops = s.host.ops := by unfold progress; split <;> simp
@[simp] theorem progress_host_gens (h v : Nat) (s : State) : (progress h v s).host.gens = s.host.gens := by unfold progress; split <;> simp
@[simp] theorem progress_host_irq (h v : Nat) (s : State) : (progress h v s).host.irq = s.host.irq := by unfold progress; split <;> simp

@[simp] theorem sendReply_host_ops (c : Chan) (p : Packet) (s : State) : (sendReply c p s).host.ops = s.host.ops := by unfold sendReply; split <;> (try split) <;> simp [emit]
@[simp] theorem sendReply_host_gens (c : Chan) (p : Packet) (s : State) : (sendReply c p s).host.gens = s.host.gens := by unfold sendReply; split <;> (try split) <;> simp [emit]
@[simp] theorem sendReply_host_irq (c : Chan) (p : Packet) (s : State) : (sendReply c p s).host.irq = s.host.irq := by unfold sendReply; split <;> (try split) <;> simp [emit]

@[simp] theorem keepReply_host_ops (e : Env) (p : Packet) (s : State) : (keepReply e p s).host.ops = s.host.ops := by simp [keepReply]
@[simp] theorem keepReply_host_gens (e : Env) (p : Packet) (s : State) : (keepReply e p s).host.gens = s.host.gens := by simp [keepReply]
@[simp] theorem keepReply_host_irq (e : Env) (p : Packet) (s : State) : (keepReply e p s).host.irq = s.host.irq := by simp [keepReply]

@[simp] theorem answer_host_ops (cls op : Nat) (e : Env) (st h : Nat) (pl : List Byte) (s : State) : (answer cls op e st h pl s).host.ops = s.host.ops := by simp [answer]
@[simp] theorem answer_host_gens (cls op : Nat) (e : Env) (st h : Nat) (pl : List Byte) (s : State) : (answer cls op e st h pl s).host.gens = s.host.gens := by simp [answer]
@[simp] theorem answer_host_irq (cls op : Nat) (e : Env) (st h : Nat) (pl : List Byte) (s : State) : (answer cls op e st h pl s).host.irq = s.host.irq := by simp [answer]

@[simp] theorem enterState_host_ops (p : Plane) (st : PState) (sub : SafeSub) (s : State) : (enterState p st sub s).host.ops = s.host.ops := by unfold enterState; dsimp only; split <;> simp
@[simp] theorem enterState_host_gens (p : Plane) (st : PState) (sub : SafeSub) (s : State) : (enterState p st sub s).host.gens = s.host.gens := by unfold enterState; dsimp only; split <;> simp
@[simp] theorem enterState_host_irq (p : Plane) (st : PState) (sub : SafeSub) (s : State) : (enterState p st sub s).host.irq = s.host.irq := by unfold enterState; dsimp only; split <;> simp

@[simp] theorem complete_host_irq (h st c : Nat) (r : List Byte) (s : State) : (complete h st c r s).host.irq = s.host.irq := by
  unfold complete; (repeat' split) <;> simp

/-- A handle completed while Tansy works is outstanding no more. -/
theorem findOp_complete_same (h st c : Nat) (r : List Byte) (s : State) (ht : tansyUp s = true) :
    findOp (complete h st c r s) h = none := by
  unfold complete
  split
  · assumption
  · simp [findOp, List.find?_eq_none, ht]

/-- An allocated handle is outstanding: the slot was free. -/
theorem findOp_allocHandle (op : Nat) (c : Chan) (s : State) (hr : Room s) :
    findOp (allocHandle op c s) (nextHandle s) = some { handle := nextHandle s, opcode := op, chan := c } := by
  obtain ⟨n, hn⟩ := Option.isSome_iff_exists.1 hr
  have hu : slotUsed s n = false := by
    have := List.find?_some hn
    simpa using this
  have hlt : n < 64 := by
    have := List.mem_of_find?_eq_some hn
    simpa using this
  have hm : nextHandle s % 64 = n := by simp only [nextHandle, hn]; omega
  have hnone : s.host.ops.find? (fun o => decide (o.handle = nextHandle s)) = none := by
    rw [List.find?_eq_none]
    intro o ho heq
    have : slotUsed s n = true := by
      simp only [slotUsed, List.any_eq_true]
      exact ⟨o, ho, by simp only [decide_eq_true_eq] at heq ⊢; rw [heq, hm]⟩
    rw [hu] at this
    exact absurd this (by decide)
  simp only [findOp, allocHandle, hn, updHost]
  rw [List.find?_append, hnone]
  simp

/-! ## Replies, lanes and states -/

@[simp] theorem par_answer (cls op : Nat) (e : Env) (st h : Nat) (pl : List Byte) (s : State) (id : Nat) :
    par (answer cls op e st h pl s) id = par s id := par_congr (by simp) id

@[simp] theorem lane_answer (cls op : Nat) (e : Env) (st h : Nat) (pl : List Byte) (s : State) (p : Plane) :
    lane (answer cls op e st h pl s) p = lane s p := lane_congr (by simp) p

@[simp] theorem modr_answer (cls op : Nat) (e : Env) (st h : Nat) (pl : List Byte) (s : State) (p : Plane) :
    modr (answer cls op e st h pl s) p = modr s p := modr_congr (by simp) p

@[simp] theorem findOp_answer (cls op : Nat) (e : Env) (st h : Nat) (pl : List Byte) (s : State) (x : Nat) :
    findOp (answer cls op e st h pl s) x = findOp s x := by simp [findOp]

theorem par_acceptSeq (e : Env) (s : State) {id : Nat} (h : id ≠ sysSeqGapCnt) : par (acceptSeq e s) id = par s id := by
  obtain h1 | h1 := acceptSeq_params e s
  · exact par_congr h1 id
  · rw [par_congr h1 id, par_count_other s h]

@[simp] theorem lane_acceptSeq (e : Env) (s : State) (p : Plane) : lane (acceptSeq e s) p = lane s p := lane_congr (by simp) p

@[simp] theorem modr_acceptSeq (e : Env) (s : State) (p : Plane) : modr (acceptSeq e s) p = modr s p := modr_congr (by simp) p

@[simp] theorem findOp_acceptSeq (e : Env) (s : State) (x : Nat) : findOp (acceptSeq e s) x = findOp s x := by
  simp [findOp, acceptSeq_ops]

@[simp] theorem lane_sendAsync (o : Option Nat) (c : Nat) (b : List Byte) (s : State) (p : Plane) : lane (sendAsync o c b s) p = lane s p :=
  lane_congr (by simp) p

@[simp] theorem lane_raiseFlag (id b d : Nat) (s : State) (p : Plane) : lane (raiseFlag id b d s) p = lane s p :=
  lane_congr (by simp) p

@[simp] theorem lane_complete (h st c : Nat) (r : List Byte) (s : State) (p : Plane) : lane (complete h st c r s) p = lane s p :=
  lane_congr (by simp) p

/-- A plane that enters a state is in it, with the rest of its lane as it was. -/
@[simp] theorem lane_enterState_same (p : Plane) (st : PState) (sub : SafeSub) (s : State) :
    lane (enterState p st sub s) p = { lane s p with st := st, sub := sub } := by
  unfold enterState
  dsimp only
  split <;> simp

theorem lane_enterState_other {p q : Plane} (st : PState) (sub : SafeSub) (s : State) (h : q ≠ p) :
    lane (enterState p st sub s) q = lane s q := by
  unfold enterState
  dsimp only
  split <;> simp [lane_setLane_other _ _ h]

end Sys2Proof.Machine
end

