-- ==== Sys2Proof/Laws/Safe.lean ====
section
/-! SUPPORT. Sys2Proof/Laws/Safe.lean: what the gate blocks' settling and an entry into SAFE can change, and what a cause of R179
does: the plane is in SAFE with the cause's code, and the other lanes, the time bases and the rest of the state are as they were. -/

set_option Elab.async false

namespace Sys2Proof.Machine

/-- A fold keeps what each of its steps keeps. -/
theorem foldl_same {β γ : Type} (f : State → γ) (g : State → β → State) (h : ∀ s x, f (g s x) = f s) (l : List β) (s : State) :
    f (l.foldl g s) = f s := by
  induction l generalizing s with
  | nil => rfl
  | cons x t ih => rw [List.foldl_cons, ih, h]

/-- An ID outside the GATE block. -/
abbrev OffGate (j : Nat) : Prop := j < 0xF00 ∨ 0x1140 ≤ j

/-! ## The gate blocks -/

@[simp] theorem stickPorts_pending (b : Nat) (m : Ports) (s : State) : (stickPorts b m s).pending = s.pending := by exact foldl_same (·.pending) _ (fun s n => by split <;> simp) _ _
@[simp] theorem stickPorts_pins (b : Nat) (m : Ports) (s : State) : (stickPorts b m s).pins = s.pins := by exact foldl_same (·.pins) _ (fun s n => by split <;> simp) _ _
@[simp] theorem stickPorts_wait (b : Nat) (m : Ports) (s : State) : (stickPorts b m s).wait = s.wait := by exact foldl_same (·.wait) _ (fun s n => by split <;> simp) _ _
@[simp] theorem stickPorts_stored (b : Nat) (m : Ports) (s : State) : (stickPorts b m s).stored = s.stored := by exact foldl_same (·.stored) _ (fun s n => by split <;> simp) _ _
@[simp] theorem stickPorts_planes (b : Nat) (m : Ports) (s : State) : (stickPorts b m s).planes = s.planes := by exact foldl_same (·.planes) _ (fun s n => by split <;> simp) _ _
@[simp] theorem stickPorts_mods (b : Nat) (m : Ports) (s : State) : (stickPorts b m s).mods = s.mods := by exact foldl_same (·.mods) _ (fun s n => by split <;> simp) _ _
@[simp] theorem stickPorts_meas (b : Nat) (m : Ports) (s : State) : (stickPorts b m s).meas = s.meas := by exact foldl_same (·.meas) _ (fun s n => by split <;> simp) _ _
@[simp] theorem stickPorts_meter (b : Nat) (m : Ports) (s : State) : (stickPorts b m s).meter = s.meter := by exact foldl_same (·.meter) _ (fun s n => by split <;> simp) _ _
@[simp] theorem stickPorts_rgt (b : Nat) (m : Ports) (s : State) : (stickPorts b m s).rgt = s.rgt := by exact foldl_same (·.rgt) _ (fun s n => by split <;> simp) _ _
@[simp] theorem stickPorts_prt (b : Nat) (m : Ports) (s : State) : (stickPorts b m s).prt = s.prt := by exact foldl_same (·.prt) _ (fun s n => by split <;> simp) _ _
@[simp] theorem stickPorts_isl (b : Nat) (m : Ports) (s : State) : (stickPorts b m s).isl = s.isl := by exact foldl_same (·.isl) _ (fun s n => by split <;> simp) _ _
@[simp] theorem stickPorts_host (b : Nat) (m : Ports) (s : State) : (stickPorts b m s).host = s.host := by exact foldl_same (·.host) _ (fun s n => by split <;> simp) _ _
@[simp] theorem stickPorts_txn (b : Nat) (m : Ports) (s : State) : (stickPorts b m s).txn = s.txn := by exact foldl_same (·.txn) _ (fun s n => by split <;> simp) _ _
@[simp] theorem stickPorts_time (b : Nat) (m : Ports) (s : State) : (stickPorts b m s).time = s.time := by exact foldl_same (·.time) _ (fun s n => by split <;> simp) _ _
@[simp] theorem stickPorts_clk (b : Nat) (m : Ports) (s : State) : (stickPorts b m s).clk = s.clk := by exact foldl_same (·.clk) _ (fun s n => by split <;> simp) _ _
@[simp] theorem stickPorts_eth0 (b : Nat) (m : Ports) (s : State) : (stickPorts b m s).eth0 = s.eth0 := by exact foldl_same (·.eth0) _ (fun s n => by split <;> simp) _ _
@[simp] theorem stickPorts_eth1 (b : Nat) (m : Ports) (s : State) : (stickPorts b m s).eth1 = s.eth1 := by exact foldl_same (·.eth1) _ (fun s n => by split <;> simp) _ _
@[simp] theorem stickPorts_replay (b : Nat) (m : Ports) (s : State) : (stickPorts b m s).replay = s.replay := by exact foldl_same (·.replay) _ (fun s n => by split <;> simp) _ _
@[simp] theorem stickPorts_acq (b : Nat) (m : Ports) (s : State) : (stickPorts b m s).acq = s.acq := by exact foldl_same (·.acq) _ (fun s n => by split <;> simp) _ _
@[simp] theorem stickPorts_ybus (b : Nat) (m : Ports) (s : State) : (stickPorts b m s).ybus = s.ybus := by exact foldl_same (·.ybus) _ (fun s n => by split <;> simp) _ _
@[simp] theorem stickPorts_sums (b : Nat) (m : Ports) (s : State) : (stickPorts b m s).sums = s.sums := by exact foldl_same (·.sums) _ (fun s n => by split <;> simp) _ _
@[simp] theorem stickPorts_gfm (b : Nat) (m : Ports) (s : State) : (stickPorts b m s).gfm = s.gfm := by exact foldl_same (·.gfm) _ (fun s n => by split <;> simp) _ _
@[simp] theorem stickPorts_msd (b : Nat) (m : Ports) (s : State) : (stickPorts b m s).msd = s.msd := by exact foldl_same (·.msd) _ (fun s n => by split <;> simp) _ _
@[simp] theorem stickPorts_red (b : Nat) (m : Ports) (s : State) : (stickPorts b m s).red = s.red := by exact foldl_same (·.red) _ (fun s n => by split <;> simp) _ _
@[simp] theorem stickPorts_fw (b : Nat) (m : Ports) (s : State) : (stickPorts b m s).fw = s.fw := by exact foldl_same (·.fw) _ (fun s n => by split <;> simp) _ _
@[simp] theorem stickPorts_wire (b : Nat) (m : Ports) (s : State) : (stickPorts b m s).wire = s.wire := by exact foldl_same (·.wire) _ (fun s n => by split <;> simp) _ _
@[simp] theorem stickPorts_free (b : Nat) (m : Ports) (s : State) : (stickPorts b m s).free = s.free := by exact foldl_same (·.free) _ (fun s n => by split <;> simp) _ _

theorem par_stickPorts (b : Nat) (m : Ports) (s : State) {j : Nat} (h : OffGate j) : par (stickPorts b m s) j = par s j := by
  have key : ∀ (l : List Nat) (s : State), (∀ n ∈ l, n < 36) →
      par (l.foldl (fun s n => if m.getLsbD n then setParBit (gateStatus n) b true s else s) s) j = par s j := by
    intro l
    induction l with
    | nil => intros; rfl
    | cons n t ih =>
      intro s hl
      rw [List.foldl_cons, ih _ fun x hx => hl x (List.mem_cons_of_mem _ hx)]
      split
      · have := hl n List.mem_cons_self
        exact par_setParBit_other _ _ _ (by show j ≠ 0x0F0C + 0x10 * n; omega)
      · rfl
  exact key _ s fun n hn => List.mem_range.1 hn

@[simp] theorem settle_pending (b : Bool) (m : Ports) (s : State) : (settle b m s).pending = s.pending := by simp [settle]
@[simp] theorem settle_pins (b : Bool) (m : Ports) (s : State) : (settle b m s).pins = s.pins := by simp [settle]
@[simp] theorem settle_wait (b : Bool) (m : Ports) (s : State) : (settle b m s).wait = s.wait := by simp [settle]
@[simp] theorem settle_stored (b : Bool) (m : Ports) (s : State) : (settle b m s).stored = s.stored := by simp [settle]
@[simp] theorem settle_planes (b : Bool) (m : Ports) (s : State) : (settle b m s).planes = s.planes := by simp [settle]
@[simp] theorem settle_mods (b : Bool) (m : Ports) (s : State) : (settle b m s).mods = s.mods := by simp [settle]
@[simp] theorem settle_meas (b : Bool) (m : Ports) (s : State) : (settle b m s).meas = s.meas := by simp [settle]
@[simp] theorem settle_meter (b : Bool) (m : Ports) (s : State) : (settle b m s).meter = s.meter := by simp [settle]
@[simp] theorem settle_rgt (b : Bool) (m : Ports) (s : State) : (settle b m s).rgt = s.rgt := by simp [settle]
@[simp] theorem settle_isl (b : Bool) (m : Ports) (s : State) : (settle b m s).isl = s.isl := by simp [settle]
@[simp] theorem settle_host (b : Bool) (m : Ports) (s : State) : (settle b m s).host = s.host := by simp [settle]
@[simp] theorem settle_txn (b : Bool) (m : Ports) (s : State) : (settle b m s).txn = s.txn := by simp [settle]
@[simp] theorem settle_time (b : Bool) (m : Ports) (s : State) : (settle b m s).time = s.time := by simp [settle]
@[simp] theorem settle_clk (b : Bool) (m : Ports) (s : State) : (settle b m s).clk = s.clk := by simp [settle]
@[simp] theorem settle_eth0 (b : Bool) (m : Ports) (s : State) : (settle b m s).eth0 = s.eth0 := by simp [settle]
@[simp] theorem settle_eth1 (b : Bool) (m : Ports) (s : State) : (settle b m s).eth1 = s.eth1 := by simp [settle]
@[simp] theorem settle_replay (b : Bool) (m : Ports) (s : State) : (settle b m s).replay = s.replay := by simp [settle]
@[simp] theorem settle_acq (b : Bool) (m : Ports) (s : State) : (settle b m s).acq = s.acq := by simp [settle]
@[simp] theorem settle_ybus (b : Bool) (m : Ports) (s : State) : (settle b m s).ybus = s.ybus := by simp [settle]
@[simp] theorem settle_sums (b : Bool) (m : Ports) (s : State) : (settle b m s).sums = s.sums := by simp [settle]
@[simp] theorem settle_gfm (b : Bool) (m : Ports) (s : State) : (settle b m s).gfm = s.gfm := by simp [settle]
@[simp] theorem settle_msd (b : Bool) (m : Ports) (s : State) : (settle b m s).msd = s.msd := by simp [settle]
@[simp] theorem settle_red (b : Bool) (m : Ports) (s : State) : (settle b m s).red = s.red := by simp [settle]
@[simp] theorem settle_fw (b : Bool) (m : Ports) (s : State) : (settle b m s).fw = s.fw := by simp [settle]
@[simp] theorem settle_wire (b : Bool) (m : Ports) (s : State) : (settle b m s).wire = s.wire := by simp [settle]
@[simp] theorem settle_free (b : Bool) (m : Ports) (s : State) : (settle b m s).free = s.free := by simp [settle]

@[simp] theorem settle_prt_ovr (b : Bool) (m : Ports) (s : State) : (settle b m s).prt.ovr = s.prt.ovr := by simp [settle]
@[simp] theorem settle_prt_pulse (b : Bool) (m : Ports) (s : State) : (settle b m s).prt.pulse = s.prt.pulse := by simp [settle]
@[simp] theorem settle_prt_enable (b : Bool) (m : Ports) (s : State) : (settle b m s).prt.enable = s.prt.enable := by simp [settle]
@[simp] theorem settle_prt_permit (b : Bool) (m : Ports) (s : State) : (settle b m s).prt.permit = s.prt.permit := by simp [settle]
@[simp] theorem settle_prt_modPulse (b : Bool) (m : Ports) (s : State) : (settle b m s).prt.modPulse = s.prt.modPulse := by simp [settle]
@[simp] theorem settle_prt_modEnable (b : Bool) (m : Ports) (s : State) : (settle b m s).prt.modEnable = s.prt.modEnable := by simp [settle]
@[simp] theorem settle_prt_kaHold (b : Bool) (m : Ports) (s : State) : (settle b m s).prt.kaHold = s.prt.kaHold := by simp [settle]
@[simp] theorem settle_prt_supOn (b : Bool) (m : Ports) (s : State) : (settle b m s).prt.supOn = s.prt.supOn := by simp [settle]
@[simp] theorem settle_prt_uvVcc (b : Bool) (m : Ports) (s : State) : (settle b m s).prt.uvVcc = s.prt.uvVcc := by simp [settle]
@[simp] theorem settle_prt_faultH (b : Bool) (m : Ports) (s : State) : (settle b m s).prt.faultH = s.prt.faultH := by simp [settle]
@[simp] theorem settle_prt_faultL (b : Bool) (m : Ports) (s : State) : (settle b m s).prt.faultL = s.prt.faultL := by simp [settle]
@[simp] theorem settle_prt_stagger (b : Bool) (m : Ports) (s : State) : (settle b m s).prt.stagger = s.prt.stagger := by simp [settle]
@[simp] theorem settle_prt_legOff (b : Bool) (m : Ports) (s : State) : (settle b m s).prt.legOff = s.prt.legOff := by simp [settle]
@[simp] theorem settle_prt_forcedBlock (b : Bool) (m : Ports) (s : State) : (settle b m s).prt.forcedBlock = s.prt.forcedBlock := by simp [settle]
@[simp] theorem settle_prt_forcedAsc (b : Bool) (m : Ports) (s : State) : (settle b m s).prt.forcedAsc = s.prt.forcedAsc := by simp [settle]
@[simp] theorem settle_prt_mcFallback (b : Bool) (m : Ports) (s : State) : (settle b m s).prt.mcFallback = s.prt.mcFallback := by simp [settle]
@[simp] theorem settle_prt_chopOn (b : Bool) (m : Ports) (s : State) : (settle b m s).prt.chopOn = s.prt.chopOn := by simp [settle]
@[simp] theorem settle_prt_overtemp (b : Bool) (m : Ports) (s : State) : (settle b m s).prt.overtemp = s.prt.overtemp := by simp [settle]
@[simp] theorem settle_prt_supplyLoss (b : Bool) (m : Ports) (s : State) : (settle b m s).prt.supplyLoss = s.prt.supplyLoss := by simp [settle]
@[simp] theorem settle_prt_mpLimit (b : Bool) (m : Ports) (s : State) : (settle b m s).prt.mpLimit = s.prt.mpLimit := by simp [settle]
@[simp] theorem settle_prt_resetting (b : Bool) (m : Ports) (s : State) : (settle b m s).prt.resetting = s.prt.resetting := by simp [settle]
@[simp] theorem settle_prt_holdUp (b : Bool) (m : Ports) (s : State) : (settle b m s).prt.holdUp = s.prt.holdUp := by simp [settle]

theorem par_settle (b : Bool) (m : Ports) (s : State) {j : Nat} (h : OffGate j) : par (settle b m s) j = par s j := by
  simp [settle, par_stickPorts _ _ _ h]
@[simp] theorem lane_settle (b : Bool) (m : Ports) (s : State) (p : Plane) : lane (settle b m s) p = lane s p := lane_congr (by simp) p
@[simp] theorem modr_settle (b : Bool) (m : Ports) (s : State) (p : Plane) : modr (settle b m s) p = modr s p := modr_congr (by simp) p

theorem overlap_free (u l wU wL dU dL gU gL k r : Ports) (h : u &&& l = 0) (hw : wU &&& wL = 0) (hU : dU &&& ~~~u = 0)
    (hL : dL &&& ~~~l = 0) :
    ((u &&& wU ||| (dU ||| gU &&& u &&& k)) ||| (wU &&& r &&& ~~~((u &&& wU ||| (dU ||| gU &&& u &&& k)) ||| (dL ||| gL &&& l &&& k)))) &&&
      ((l &&& wL ||| (dL ||| gL &&& l &&& k)) ||| (wL &&& r &&& ~~~((l &&& wL ||| (dL ||| gL &&& l &&& k)) ||| (dU ||| gU &&& u &&& k)))) = 0 := by
  ext i hi
  have h1 : (u[i] && l[i]) = false := by simpa using congrArg (fun x : Ports => x[i]) h
  have h2 : (wU[i] && wL[i]) = false := by simpa using congrArg (fun x : Ports => x[i]) hw
  have h3 : (dU[i] && !u[i]) = false := by simpa using congrArg (fun x : Ports => x[i]) hU
  have h4 : (dL[i] && !l[i]) = false := by simpa using congrArg (fun x : Ports => x[i]) hL
  simp only [BitVec.getElem_and, BitVec.getElem_or, BitVec.getElem_not, BitVec.ofNat_eq_ofNat, BitVec.getElem_zero]
  revert h1 h2 h3 h4
  generalize u[i] = x1
  generalize l[i] = x2
  generalize wU[i] = x3
  generalize wL[i] = x4
  generalize dU[i] = x5
  generalize dL[i] = x6
  generalize gU[i] = x7
  generalize gL[i] = x8
  generalize k[i] = x9
  generalize r[i] = x10
  revert x1 x2 x3 x4 x5 x6 x7 x8 x9 x10
  decide

/-- No port's inputs select both switches (R162). -/
theorem want_disjoint (s : State) : wantUpper s &&& wantLower s = 0 := by
  ext i hi
  simp only [wantUpper, wantLower, BitVec.getElem_and, BitVec.getElem_not, BitVec.ofNat_eq_ofNat, BitVec.getElem_zero]
  cases (pulseIn s)[i] <;> simp

/-- Only a switch that is on waits to turn off (R173). -/
theorem deferred_on (b : Bool) (s : State) :
    (deferred b s).1 &&& ~~~s.prt.upper = 0 ∧ (deferred b s).2 &&& ~~~s.prt.lower = 0 := by
  constructor <;> ext i hi <;>
    simp only [deferred, BitVec.getElem_and, BitVec.getElem_not, BitVec.ofNat_eq_ofNat, BitVec.getElem_zero]
  · cases s.prt.upper[i] <;> simp
  · cases s.prt.lower[i] <;> simp

/-- Settling leaves no port with both switches commanded (R162). -/
theorem settle_noShoot (b : Bool) (m : Ports) (s : State) (h : NoShoot s) : NoShoot (settle b m s) := by
  have hd := deferred_on b s
  simp only [NoShoot, settle, stickPorts_prt, updPrt_prt]
  have key := overlap_free s.prt.upper s.prt.lower (wantUpper s) (wantLower s) (deferred b s).1 (deferred b s).2 (staggered s).1
    (staggered s).2 (~~~starved s &&& ~~~s.prt.kaHold)
  simp only [← BitVec.and_assoc] at key ⊢
  exact key _ h (want_disjoint s) hd.1 hd.2

@[simp] theorem override_pending (m a b : Ports) (s : State) : (override m a b s).pending = s.pending := by rfl
@[simp] theorem override_pins (m a b : Ports) (s : State) : (override m a b s).pins = s.pins := by rfl
@[simp] theorem override_params (m a b : Ports) (s : State) : (override m a b s).params = s.params := by rfl
@[simp] theorem override_wait (m a b : Ports) (s : State) : (override m a b s).wait = s.wait := by rfl
@[simp] theorem override_stored (m a b : Ports) (s : State) : (override m a b s).stored = s.stored := by rfl
@[simp] theorem override_planes (m a b : Ports) (s : State) : (override m a b s).planes = s.planes := by rfl
@[simp] theorem override_mods (m a b : Ports) (s : State) : (override m a b s).mods = s.mods := by rfl
@[simp] theorem override_meas (m a b : Ports) (s : State) : (override m a b s).meas = s.meas := by rfl
@[simp] theorem override_meter (m a b : Ports) (s : State) : (override m a b s).meter = s.meter := by rfl
@[simp] theorem override_rgt (m a b : Ports) (s : State) : (override m a b s).rgt = s.rgt := by rfl
@[simp] theorem override_isl (m a b : Ports) (s : State) : (override m a b s).isl = s.isl := by rfl
@[simp] theorem override_host (m a b : Ports) (s : State) : (override m a b s).host = s.host := by rfl
@[simp] theorem override_txn (m a b : Ports) (s : State) : (override m a b s).txn = s.txn := by rfl
@[simp] theorem override_time (m a b : Ports) (s : State) : (override m a b s).time = s.time := by rfl
@[simp] theorem override_clk (m a b : Ports) (s : State) : (override m a b s).clk = s.clk := by rfl
@[simp] theorem override_eth0 (m a b : Ports) (s : State) : (override m a b s).eth0 = s.eth0 := by rfl
@[simp] theorem override_eth1 (m a b : Ports) (s : State) : (override m a b s).eth1 = s.eth1 := by rfl
@[simp] theorem override_replay (m a b : Ports) (s : State) : (override m a b s).replay = s.replay := by rfl
@[simp] theorem override_acq (m a b : Ports) (s : State) : (override m a b s).acq = s.acq := by rfl
@[simp] theorem override_ybus (m a b : Ports) (s : State) : (override m a b s).ybus = s.ybus := by rfl
@[simp] theorem override_sums (m a b : Ports) (s : State) : (override m a b s).sums = s.sums := by rfl
@[simp] theorem override_gfm (m a b : Ports) (s : State) : (override m a b s).gfm = s.gfm := by rfl
@[simp] theorem override_msd (m a b : Ports) (s : State) : (override m a b s).msd = s.msd := by rfl
@[simp] theorem override_red (m a b : Ports) (s : State) : (override m a b s).red = s.red := by rfl
@[simp] theorem override_fw (m a b : Ports) (s : State) : (override m a b s).fw = s.fw := by rfl
@[simp] theorem override_wire (m a b : Ports) (s : State) : (override m a b s).wire = s.wire := by rfl
@[simp] theorem override_free (m a b : Ports) (s : State) : (override m a b s).free = s.free := by rfl

@[simp] theorem override_prt_upper (m a b : Ports) (s : State) : (override m a b s).prt.upper = s.prt.upper := by rfl
@[simp] theorem override_prt_lower (m a b : Ports) (s : State) : (override m a b s).prt.lower = s.prt.lower := by rfl
@[simp] theorem override_prt_permit (m a b : Ports) (s : State) : (override m a b s).prt.permit = s.prt.permit := by rfl
@[simp] theorem override_prt_modPulse (m a b : Ports) (s : State) : (override m a b s).prt.modPulse = s.prt.modPulse := by rfl
@[simp] theorem override_prt_modEnable (m a b : Ports) (s : State) : (override m a b s).prt.modEnable = s.prt.modEnable := by rfl
@[simp] theorem override_prt_kaHold (m a b : Ports) (s : State) : (override m a b s).prt.kaHold = s.prt.kaHold := by rfl
@[simp] theorem override_prt_supOn (m a b : Ports) (s : State) : (override m a b s).prt.supOn = s.prt.supOn := by rfl
@[simp] theorem override_prt_uvVcc (m a b : Ports) (s : State) : (override m a b s).prt.uvVcc = s.prt.uvVcc := by rfl
@[simp] theorem override_prt_faultH (m a b : Ports) (s : State) : (override m a b s).prt.faultH = s.prt.faultH := by rfl
@[simp] theorem override_prt_faultL (m a b : Ports) (s : State) : (override m a b s).prt.faultL = s.prt.faultL := by rfl
@[simp] theorem override_prt_stagger (m a b : Ports) (s : State) : (override m a b s).prt.stagger = s.prt.stagger := by rfl
@[simp] theorem override_prt_legOff (m a b : Ports) (s : State) : (override m a b s).prt.legOff = s.prt.legOff := by rfl
@[simp] theorem override_prt_forcedBlock (m a b : Ports) (s : State) : (override m a b s).prt.forcedBlock = s.prt.forcedBlock := by rfl
@[simp] theorem override_prt_forcedAsc (m a b : Ports) (s : State) : (override m a b s).prt.forcedAsc = s.prt.forcedAsc := by rfl
@[simp] theorem override_prt_mcFallback (m a b : Ports) (s : State) : (override m a b s).prt.mcFallback = s.prt.mcFallback := by rfl
@[simp] theorem override_prt_chopOn (m a b : Ports) (s : State) : (override m a b s).prt.chopOn = s.prt.chopOn := by rfl
@[simp] theorem override_prt_overtemp (m a b : Ports) (s : State) : (override m a b s).prt.overtemp = s.prt.overtemp := by rfl
@[simp] theorem override_prt_supplyLoss (m a b : Ports) (s : State) : (override m a b s).prt.supplyLoss = s.prt.supplyLoss := by rfl
@[simp] theorem override_prt_mpLimit (m a b : Ports) (s : State) : (override m a b s).prt.mpLimit = s.prt.mpLimit := by rfl
@[simp] theorem override_prt_resetting (m a b : Ports) (s : State) : (override m a b s).prt.resetting = s.prt.resetting := by rfl
@[simp] theorem override_prt_holdUp (m a b : Ports) (s : State) : (override m a b s).prt.holdUp = s.prt.holdUp := by rfl

@[simp] theorem releaseOvr_pending (p : Plane) (s : State) : (releaseOvr p s).pending = s.pending := by rfl
@[simp] theorem releaseOvr_pins (p : Plane) (s : State) : (releaseOvr p s).pins = s.pins := by rfl
@[simp] theorem releaseOvr_params (p : Plane) (s : State) : (releaseOvr p s).params = s.params := by rfl
@[simp] theorem releaseOvr_wait (p : Plane) (s : State) : (releaseOvr p s).wait = s.wait := by rfl
@[simp] theorem releaseOvr_stored (p : Plane) (s : State) : (releaseOvr p s).stored = s.stored := by rfl
@[simp] theorem releaseOvr_planes (p : Plane) (s : State) : (releaseOvr p s).planes = s.planes := by rfl
@[simp] theorem releaseOvr_mods (p : Plane) (s : State) : (releaseOvr p s).mods = s.mods := by rfl
@[simp] theorem releaseOvr_meas (p : Plane) (s : State) : (releaseOvr p s).meas = s.meas := by rfl
@[simp] theorem releaseOvr_meter (p : Plane) (s : State) : (releaseOvr p s).meter = s.meter := by rfl
@[simp] theorem releaseOvr_rgt (p : Plane) (s : State) : (releaseOvr p s).rgt = s.rgt := by rfl
@[simp] theorem releaseOvr_isl (p : Plane) (s : State) : (releaseOvr p s).isl = s.isl := by rfl
@[simp] theorem releaseOvr_host (p : Plane) (s : State) : (releaseOvr p s).host = s.host := by rfl
@[simp] theorem releaseOvr_txn (p : Plane) (s : State) : (releaseOvr p s).txn = s.txn := by rfl
@[simp] theorem releaseOvr_time (p : Plane) (s : State) : (releaseOvr p s).time = s.time := by rfl
@[simp] theorem releaseOvr_clk (p : Plane) (s : State) : (releaseOvr p s).clk = s.clk := by rfl
@[simp] theorem releaseOvr_eth0 (p : Plane) (s : State) : (releaseOvr p s).eth0 = s.eth0 := by rfl
@[simp] theorem releaseOvr_eth1 (p : Plane) (s : State) : (releaseOvr p s).eth1 = s.eth1 := by rfl
@[simp] theorem releaseOvr_replay (p : Plane) (s : State) : (releaseOvr p s).replay = s.replay := by rfl
@[simp] theorem releaseOvr_acq (p : Plane) (s : State) : (releaseOvr p s).acq = s.acq := by rfl
@[simp] theorem releaseOvr_ybus (p : Plane) (s : State) : (releaseOvr p s).ybus = s.ybus := by rfl
@[simp] theorem releaseOvr_sums (p : Plane) (s : State) : (releaseOvr p s).sums = s.sums := by rfl
@[simp] theorem releaseOvr_gfm (p : Plane) (s : State) : (releaseOvr p s).gfm = s.gfm := by rfl
@[simp] theorem releaseOvr_msd (p : Plane) (s : State) : (releaseOvr p s).msd = s.msd := by rfl
@[simp] theorem releaseOvr_red (p : Plane) (s : State) : (releaseOvr p s).red = s.red := by rfl
@[simp] theorem releaseOvr_fw (p : Plane) (s : State) : (releaseOvr p s).fw = s.fw := by rfl
@[simp] theorem releaseOvr_wire (p : Plane) (s : State) : (releaseOvr p s).wire = s.wire := by rfl
@[simp] theorem releaseOvr_free (p : Plane) (s : State) : (releaseOvr p s).free = s.free := by rfl

@[simp] theorem releaseOvr_prt_upper (p : Plane) (s : State) : (releaseOvr p s).prt.upper = s.prt.upper := by rfl
@[simp] theorem releaseOvr_prt_lower (p : Plane) (s : State) : (releaseOvr p s).prt.lower = s.prt.lower := by rfl
@[simp] theorem releaseOvr_prt_pulse (p : Plane) (s : State) : (releaseOvr p s).prt.pulse = s.prt.pulse := by rfl
@[simp] theorem releaseOvr_prt_enable (p : Plane) (s : State) : (releaseOvr p s).prt.enable = s.prt.enable := by rfl
@[simp] theorem releaseOvr_prt_modPulse (p : Plane) (s : State) : (releaseOvr p s).prt.modPulse = s.prt.modPulse := by rfl
@[simp] theorem releaseOvr_prt_modEnable (p : Plane) (s : State) : (releaseOvr p s).prt.modEnable = s.prt.modEnable := by rfl
@[simp] theorem releaseOvr_prt_supOn (p : Plane) (s : State) : (releaseOvr p s).prt.supOn = s.prt.supOn := by rfl
@[simp] theorem releaseOvr_prt_uvVcc (p : Plane) (s : State) : (releaseOvr p s).prt.uvVcc = s.prt.uvVcc := by rfl
@[simp] theorem releaseOvr_prt_faultH (p : Plane) (s : State) : (releaseOvr p s).prt.faultH = s.prt.faultH := by rfl
@[simp] theorem releaseOvr_prt_faultL (p : Plane) (s : State) : (releaseOvr p s).prt.faultL = s.prt.faultL := by rfl
@[simp] theorem releaseOvr_prt_stagger (p : Plane) (s : State) : (releaseOvr p s).prt.stagger = s.prt.stagger := by rfl
@[simp] theorem releaseOvr_prt_legOff (p : Plane) (s : State) : (releaseOvr p s).prt.legOff = s.prt.legOff := by rfl
@[simp] theorem releaseOvr_prt_forcedBlock (p : Plane) (s : State) : (releaseOvr p s).prt.forcedBlock = s.prt.forcedBlock := by rfl
@[simp] theorem releaseOvr_prt_forcedAsc (p : Plane) (s : State) : (releaseOvr p s).prt.forcedAsc = s.prt.forcedAsc := by rfl
@[simp] theorem releaseOvr_prt_mcFallback (p : Plane) (s : State) : (releaseOvr p s).prt.mcFallback = s.prt.mcFallback := by rfl
@[simp] theorem releaseOvr_prt_chopOn (p : Plane) (s : State) : (releaseOvr p s).prt.chopOn = s.prt.chopOn := by rfl
@[simp] theorem releaseOvr_prt_overtemp (p : Plane) (s : State) : (releaseOvr p s).prt.overtemp = s.prt.overtemp := by rfl
@[simp] theorem releaseOvr_prt_supplyLoss (p : Plane) (s : State) : (releaseOvr p s).prt.supplyLoss = s.prt.supplyLoss := by rfl
@[simp] theorem releaseOvr_prt_mpLimit (p : Plane) (s : State) : (releaseOvr p s).prt.mpLimit = s.prt.mpLimit := by rfl
@[simp] theorem releaseOvr_prt_resetting (p : Plane) (s : State) : (releaseOvr p s).prt.resetting = s.prt.resetting := by rfl
@[simp] theorem releaseOvr_prt_holdUp (p : Plane) (s : State) : (releaseOvr p s).prt.holdUp = s.prt.holdUp := by rfl

@[simp] theorem suppliesOn_pending (p : Plane) (s : State) : (suppliesOn p s).pending = s.pending := by rfl
@[simp] theorem suppliesOn_pins (p : Plane) (s : State) : (suppliesOn p s).pins = s.pins := by rfl
@[simp] theorem suppliesOn_params (p : Plane) (s : State) : (suppliesOn p s).params = s.params := by rfl
@[simp] theorem suppliesOn_wait (p : Plane) (s : State) : (suppliesOn p s).wait = s.wait := by rfl
@[simp] theorem suppliesOn_stored (p : Plane) (s : State) : (suppliesOn p s).stored = s.stored := by rfl
@[simp] theorem suppliesOn_planes (p : Plane) (s : State) : (suppliesOn p s).planes = s.planes := by rfl
@[simp] theorem suppliesOn_mods (p : Plane) (s : State) : (suppliesOn p s).mods = s.mods := by rfl
@[simp] theorem suppliesOn_meas (p : Plane) (s : State) : (suppliesOn p s).meas = s.meas := by rfl
@[simp] theorem suppliesOn_meter (p : Plane) (s : State) : (suppliesOn p s).meter = s.meter := by rfl
@[simp] theorem suppliesOn_rgt (p : Plane) (s : State) : (suppliesOn p s).rgt = s.rgt := by rfl
@[simp] theorem suppliesOn_isl (p : Plane) (s : State) : (suppliesOn p s).isl = s.isl := by rfl
@[simp] theorem suppliesOn_host (p : Plane) (s : State) : (suppliesOn p s).host = s.host := by rfl
@[simp] theorem suppliesOn_txn (p : Plane) (s : State) : (suppliesOn p s).txn = s.txn := by rfl
@[simp] theorem suppliesOn_time (p : Plane) (s : State) : (suppliesOn p s).time = s.time := by rfl
@[simp] theorem suppliesOn_clk (p : Plane) (s : State) : (suppliesOn p s).clk = s.clk := by rfl
@[simp] theorem suppliesOn_eth0 (p : Plane) (s : State) : (suppliesOn p s).eth0 = s.eth0 := by rfl
@[simp] theorem suppliesOn_eth1 (p : Plane) (s : State) : (suppliesOn p s).eth1 = s.eth1 := by rfl
@[simp] theorem suppliesOn_replay (p : Plane) (s : State) : (suppliesOn p s).replay = s.replay := by rfl
@[simp] theorem suppliesOn_acq (p : Plane) (s : State) : (suppliesOn p s).acq = s.acq := by rfl
@[simp] theorem suppliesOn_ybus (p : Plane) (s : State) : (suppliesOn p s).ybus = s.ybus := by rfl
@[simp] theorem suppliesOn_sums (p : Plane) (s : State) : (suppliesOn p s).sums = s.sums := by rfl
@[simp] theorem suppliesOn_gfm (p : Plane) (s : State) : (suppliesOn p s).gfm = s.gfm := by rfl
@[simp] theorem suppliesOn_msd (p : Plane) (s : State) : (suppliesOn p s).msd = s.msd := by rfl
@[simp] theorem suppliesOn_red (p : Plane) (s : State) : (suppliesOn p s).red = s.red := by rfl
@[simp] theorem suppliesOn_fw (p : Plane) (s : State) : (suppliesOn p s).fw = s.fw := by rfl
@[simp] theorem suppliesOn_wire (p : Plane) (s : State) : (suppliesOn p s).wire = s.wire := by rfl
@[simp] theorem suppliesOn_free (p : Plane) (s : State) : (suppliesOn p s).free = s.free := by rfl

@[simp] theorem suppliesOn_prt_upper (p : Plane) (s : State) : (suppliesOn p s).prt.upper = s.prt.upper := by rfl
@[simp] theorem suppliesOn_prt_lower (p : Plane) (s : State) : (suppliesOn p s).prt.lower = s.prt.lower := by rfl
@[simp] theorem suppliesOn_prt_ovr (p : Plane) (s : State) : (suppliesOn p s).prt.ovr = s.prt.ovr := by rfl
@[simp] theorem suppliesOn_prt_pulse (p : Plane) (s : State) : (suppliesOn p s).prt.pulse = s.prt.pulse := by rfl
@[simp] theorem suppliesOn_prt_enable (p : Plane) (s : State) : (suppliesOn p s).prt.enable = s.prt.enable := by rfl
@[simp] theorem suppliesOn_prt_permit (p : Plane) (s : State) : (suppliesOn p s).prt.permit = s.prt.permit := by rfl
@[simp] theorem suppliesOn_prt_modPulse (p : Plane) (s : State) : (suppliesOn p s).prt.modPulse = s.prt.modPulse := by rfl
@[simp] theorem suppliesOn_prt_modEnable (p : Plane) (s : State) : (suppliesOn p s).prt.modEnable = s.prt.modEnable := by rfl
@[simp] theorem suppliesOn_prt_kaHold (p : Plane) (s : State) : (suppliesOn p s).prt.kaHold = s.prt.kaHold := by rfl
@[simp] theorem suppliesOn_prt_faultH (p : Plane) (s : State) : (suppliesOn p s).prt.faultH = s.prt.faultH := by rfl
@[simp] theorem suppliesOn_prt_faultL (p : Plane) (s : State) : (suppliesOn p s).prt.faultL = s.prt.faultL := by rfl
@[simp] theorem suppliesOn_prt_stagger (p : Plane) (s : State) : (suppliesOn p s).prt.stagger = s.prt.stagger := by rfl
@[simp] theorem suppliesOn_prt_legOff (p : Plane) (s : State) : (suppliesOn p s).prt.legOff = s.prt.legOff := by rfl
@[simp] theorem suppliesOn_prt_forcedBlock (p : Plane) (s : State) : (suppliesOn p s).prt.forcedBlock = s.prt.forcedBlock := by rfl
@[simp] theorem suppliesOn_prt_forcedAsc (p : Plane) (s : State) : (suppliesOn p s).prt.forcedAsc = s.prt.forcedAsc := by rfl
@[simp] theorem suppliesOn_prt_mcFallback (p : Plane) (s : State) : (suppliesOn p s).prt.mcFallback = s.prt.mcFallback := by rfl
@[simp] theorem suppliesOn_prt_chopOn (p : Plane) (s : State) : (suppliesOn p s).prt.chopOn = s.prt.chopOn := by rfl
@[simp] theorem suppliesOn_prt_overtemp (p : Plane) (s : State) : (suppliesOn p s).prt.overtemp = s.prt.overtemp := by rfl
@[simp] theorem suppliesOn_prt_supplyLoss (p : Plane) (s : State) : (suppliesOn p s).prt.supplyLoss = s.prt.supplyLoss := by rfl
@[simp] theorem suppliesOn_prt_mpLimit (p : Plane) (s : State) : (suppliesOn p s).prt.mpLimit = s.prt.mpLimit := by rfl
@[simp] theorem suppliesOn_prt_resetting (p : Plane) (s : State) : (suppliesOn p s).prt.resetting = s.prt.resetting := by rfl
@[simp] theorem suppliesOn_prt_holdUp (p : Plane) (s : State) : (suppliesOn p s).prt.holdUp = s.prt.holdUp := by rfl

@[simp] theorem suppliesOff_pending (p : Plane) (s : State) : (suppliesOff p s).pending = s.pending := by rfl
@[simp] theorem suppliesOff_pins (p : Plane) (s : State) : (suppliesOff p s).pins = s.pins := by rfl
@[simp] theorem suppliesOff_params (p : Plane) (s : State) : (suppliesOff p s).params = s.params := by rfl
@[simp] theorem suppliesOff_wait (p : Plane) (s : State) : (suppliesOff p s).wait = s.wait := by rfl
@[simp] theorem suppliesOff_stored (p : Plane) (s : State) : (suppliesOff p s).stored = s.stored := by rfl
@[simp] theorem suppliesOff_planes (p : Plane) (s : State) : (suppliesOff p s).planes = s.planes := by rfl
@[simp] theorem suppliesOff_mods (p : Plane) (s : State) : (suppliesOff p s).mods = s.mods := by rfl
@[simp] theorem suppliesOff_meas (p : Plane) (s : State) : (suppliesOff p s).meas = s.meas := by rfl
@[simp] theorem suppliesOff_meter (p : Plane) (s : State) : (suppliesOff p s).meter = s.meter := by rfl
@[simp] theorem suppliesOff_rgt (p : Plane) (s : State) : (suppliesOff p s).rgt = s.rgt := by rfl
@[simp] theorem suppliesOff_isl (p : Plane) (s : State) : (suppliesOff p s).isl = s.isl := by rfl
@[simp] theorem suppliesOff_host (p : Plane) (s : State) : (suppliesOff p s).host = s.host := by rfl
@[simp] theorem suppliesOff_txn (p : Plane) (s : State) : (suppliesOff p s).txn = s.txn := by rfl
@[simp] theorem suppliesOff_time (p : Plane) (s : State) : (suppliesOff p s).time = s.time := by rfl
@[simp] theorem suppliesOff_clk (p : Plane) (s : State) : (suppliesOff p s).clk = s.clk := by rfl
@[simp] theorem suppliesOff_eth0 (p : Plane) (s : State) : (suppliesOff p s).eth0 = s.eth0 := by rfl
@[simp] theorem suppliesOff_eth1 (p : Plane) (s : State) : (suppliesOff p s).eth1 = s.eth1 := by rfl
@[simp] theorem suppliesOff_replay (p : Plane) (s : State) : (suppliesOff p s).replay = s.replay := by rfl
@[simp] theorem suppliesOff_acq (p : Plane) (s : State) : (suppliesOff p s).acq = s.acq := by rfl
@[simp] theorem suppliesOff_ybus (p : Plane) (s : State) : (suppliesOff p s).ybus = s.ybus := by rfl
@[simp] theorem suppliesOff_sums (p : Plane) (s : State) : (suppliesOff p s).sums = s.sums := by rfl
@[simp] theorem suppliesOff_gfm (p : Plane) (s : State) : (suppliesOff p s).gfm = s.gfm := by rfl
@[simp] theorem suppliesOff_msd (p : Plane) (s : State) : (suppliesOff p s).msd = s.msd := by rfl
@[simp] theorem suppliesOff_red (p : Plane) (s : State) : (suppliesOff p s).red = s.red := by rfl
@[simp] theorem suppliesOff_fw (p : Plane) (s : State) : (suppliesOff p s).fw = s.fw := by rfl
@[simp] theorem suppliesOff_wire (p : Plane) (s : State) : (suppliesOff p s).wire = s.wire := by rfl
@[simp] theorem suppliesOff_free (p : Plane) (s : State) : (suppliesOff p s).free = s.free := by rfl

@[simp] theorem suppliesOff_prt_upper (p : Plane) (s : State) : (suppliesOff p s).prt.upper = s.prt.upper := by rfl
@[simp] theorem suppliesOff_prt_lower (p : Plane) (s : State) : (suppliesOff p s).prt.lower = s.prt.lower := by rfl
@[simp] theorem suppliesOff_prt_ovr (p : Plane) (s : State) : (suppliesOff p s).prt.ovr = s.prt.ovr := by rfl
@[simp] theorem suppliesOff_prt_pulse (p : Plane) (s : State) : (suppliesOff p s).prt.pulse = s.prt.pulse := by rfl
@[simp] theorem suppliesOff_prt_enable (p : Plane) (s : State) : (suppliesOff p s).prt.enable = s.prt.enable := by rfl
@[simp] theorem suppliesOff_prt_permit (p : Plane) (s : State) : (suppliesOff p s).prt.permit = s.prt.permit := by rfl
@[simp] theorem suppliesOff_prt_modPulse (p : Plane) (s : State) : (suppliesOff p s).prt.modPulse = s.prt.modPulse := by rfl
@[simp] theorem suppliesOff_prt_modEnable (p : Plane) (s : State) : (suppliesOff p s).prt.modEnable = s.prt.modEnable := by rfl
@[simp] theorem suppliesOff_prt_kaHold (p : Plane) (s : State) : (suppliesOff p s).prt.kaHold = s.prt.kaHold := by rfl
@[simp] theorem suppliesOff_prt_faultH (p : Plane) (s : State) : (suppliesOff p s).prt.faultH = s.prt.faultH := by rfl
@[simp] theorem suppliesOff_prt_faultL (p : Plane) (s : State) : (suppliesOff p s).prt.faultL = s.prt.faultL := by rfl
@[simp] theorem suppliesOff_prt_stagger (p : Plane) (s : State) : (suppliesOff p s).prt.stagger = s.prt.stagger := by rfl
@[simp] theorem suppliesOff_prt_legOff (p : Plane) (s : State) : (suppliesOff p s).prt.legOff = s.prt.legOff := by rfl
@[simp] theorem suppliesOff_prt_forcedBlock (p : Plane) (s : State) : (suppliesOff p s).prt.forcedBlock = s.prt.forcedBlock := by rfl
@[simp] theorem suppliesOff_prt_forcedAsc (p : Plane) (s : State) : (suppliesOff p s).prt.forcedAsc = s.prt.forcedAsc := by rfl
@[simp] theorem suppliesOff_prt_mcFallback (p : Plane) (s : State) : (suppliesOff p s).prt.mcFallback = s.prt.mcFallback := by rfl
@[simp] theorem suppliesOff_prt_chopOn (p : Plane) (s : State) : (suppliesOff p s).prt.chopOn = s.prt.chopOn := by rfl
@[simp] theorem suppliesOff_prt_overtemp (p : Plane) (s : State) : (suppliesOff p s).prt.overtemp = s.prt.overtemp := by rfl
@[simp] theorem suppliesOff_prt_supplyLoss (p : Plane) (s : State) : (suppliesOff p s).prt.supplyLoss = s.prt.supplyLoss := by rfl
@[simp] theorem suppliesOff_prt_mpLimit (p : Plane) (s : State) : (suppliesOff p s).prt.mpLimit = s.prt.mpLimit := by rfl
@[simp] theorem suppliesOff_prt_resetting (p : Plane) (s : State) : (suppliesOff p s).prt.resetting = s.prt.resetting := by rfl
@[simp] theorem suppliesOff_prt_holdUp (p : Plane) (s : State) : (suppliesOff p s).prt.holdUp = s.prt.holdUp := by rfl

/-! ## The shadow's registers and the modulator's initial set -/

@[simp] theorem showShadow_pending (p : Plane) (w : PeriodSet) (s : State) : (showShadow p w s).pending = s.pending := by
  unfold showShadow; split
  · rfl
  · exact foldl_same (·.pending) _ (fun s x => by simp) _ _
@[simp] theorem showShadow_pins (p : Plane) (w : PeriodSet) (s : State) : (showShadow p w s).pins = s.pins := by
  unfold showShadow; split
  · rfl
  · exact foldl_same (·.pins) _ (fun s x => by simp) _ _
@[simp] theorem showShadow_wait (p : Plane) (w : PeriodSet) (s : State) : (showShadow p w s).wait = s.wait := by
  unfold showShadow; split
  · rfl
  · exact foldl_same (·.wait) _ (fun s x => by simp) _ _
@[simp] theorem showShadow_stored (p : Plane) (w : PeriodSet) (s : State) : (showShadow p w s).stored = s.stored := by
  unfold showShadow; split
  · rfl
  · exact foldl_same (·.stored) _ (fun s x => by simp) _ _
@[simp] theorem showShadow_planes (p : Plane) (w : PeriodSet) (s : State) : (showShadow p w s).planes = s.planes := by
  unfold showShadow; split
  · rfl
  · exact foldl_same (·.planes) _ (fun s x => by simp) _ _
@[simp] theorem showShadow_meas (p : Plane) (w : PeriodSet) (s : State) : (showShadow p w s).meas = s.meas := by
  unfold showShadow; split
  · rfl
  · exact foldl_same (·.meas) _ (fun s x => by simp) _ _
@[simp] theorem showShadow_meter (p : Plane) (w : PeriodSet) (s : State) : (showShadow p w s).meter = s.meter := by
  unfold showShadow; split
  · rfl
  · exact foldl_same (·.meter) _ (fun s x => by simp) _ _
@[simp] theorem showShadow_rgt (p : Plane) (w : PeriodSet) (s : State) : (showShadow p w s).rgt = s.rgt := by
  unfold showShadow; split
  · rfl
  · exact foldl_same (·.rgt) _ (fun s x => by simp) _ _
@[simp] theorem showShadow_prt (p : Plane) (w : PeriodSet) (s : State) : (showShadow p w s).prt = s.prt := by
  unfold showShadow; split
  · rfl
  · exact foldl_same (·.prt) _ (fun s x => by simp) _ _
@[simp] theorem showShadow_isl (p : Plane) (w : PeriodSet) (s : State) : (showShadow p w s).isl = s.isl := by
  unfold showShadow; split
  · rfl
  · exact foldl_same (·.isl) _ (fun s x => by simp) _ _
@[simp] theorem showShadow_host (p : Plane) (w : PeriodSet) (s : State) : (showShadow p w s).host = s.host := by
  unfold showShadow; split
  · rfl
  · exact foldl_same (·.host) _ (fun s x => by simp) _ _
@[simp] theorem showShadow_txn (p : Plane) (w : PeriodSet) (s : State) : (showShadow p w s).txn = s.txn := by
  unfold showShadow; split
  · rfl
  · exact foldl_same (·.txn) _ (fun s x => by simp) _ _
@[simp] theorem showShadow_time (p : Plane) (w : PeriodSet) (s : State) : (showShadow p w s).time = s.time := by
  unfold showShadow; split
  · rfl
  · exact foldl_same (·.time) _ (fun s x => by simp) _ _
@[simp] theorem showShadow_clk (p : Plane) (w : PeriodSet) (s : State) : (showShadow p w s).clk = s.clk := by
  unfold showShadow; split
  · rfl
  · exact foldl_same (·.clk) _ (fun s x => by simp) _ _
@[simp] theorem showShadow_eth0 (p : Plane) (w : PeriodSet) (s : State) : (showShadow p w s).eth0 = s.eth0 := by
  unfold showShadow; split
  · rfl
  · exact foldl_same (·.eth0) _ (fun s x => by simp) _ _
@[simp] theorem showShadow_eth1 (p : Plane) (w : PeriodSet) (s : State) : (showShadow p w s).eth1 = s.eth1 := by
  unfold showShadow; split
  · rfl
  · exact foldl_same (·.eth1) _ (fun s x => by simp) _ _
@[simp] theorem showShadow_replay (p : Plane) (w : PeriodSet) (s : State) : (showShadow p w s).replay = s.replay := by
  unfold showShadow; split
  · rfl
  · exact foldl_same (·.replay) _ (fun s x => by simp) _ _
@[simp] theorem showShadow_acq (p : Plane) (w : PeriodSet) (s : State) : (showShadow p w s).acq = s.acq := by
  unfold showShadow; split
  · rfl
  · exact foldl_same (·.acq) _ (fun s x => by simp) _ _
@[simp] theorem showShadow_ybus (p : Plane) (w : PeriodSet) (s : State) : (showShadow p w s).ybus = s.ybus := by
  unfold showShadow; split
  · rfl
  · exact foldl_same (·.ybus) _ (fun s x => by simp) _ _
@[simp] theorem showShadow_sums (p : Plane) (w : PeriodSet) (s : State) : (showShadow p w s).sums = s.sums := by
  unfold showShadow; split
  · rfl
  · exact foldl_same (·.sums) _ (fun s x => by simp) _ _
@[simp] theorem showShadow_gfm (p : Plane) (w : PeriodSet) (s : State) : (showShadow p w s).gfm = s.gfm := by
  unfold showShadow; split
  · rfl
  · exact foldl_same (·.gfm) _ (fun s x => by simp) _ _
@[simp] theorem showShadow_msd (p : Plane) (w : PeriodSet) (s : State) : (showShadow p w s).msd = s.msd := by
  unfold showShadow; split
  · rfl
  · exact foldl_same (·.msd) _ (fun s x => by simp) _ _
@[simp] theorem showShadow_red (p : Plane) (w : PeriodSet) (s : State) : (showShadow p w s).red = s.red := by
  unfold showShadow; split
  · rfl
  · exact foldl_same (·.red) _ (fun s x => by simp) _ _
@[simp] theorem showShadow_fw (p : Plane) (w : PeriodSet) (s : State) : (showShadow p w s).fw = s.fw := by
  unfold showShadow; split
  · rfl
  · exact foldl_same (·.fw) _ (fun s x => by simp) _ _
@[simp] theorem showShadow_wire (p : Plane) (w : PeriodSet) (s : State) : (showShadow p w s).wire = s.wire := by
  unfold showShadow; split
  · rfl
  · exact foldl_same (·.wire) _ (fun s x => by simp) _ _
@[simp] theorem showShadow_free (p : Plane) (w : PeriodSet) (s : State) : (showShadow p w s).free = s.free := by
  unfold showShadow; split
  · rfl
  · exact foldl_same (·.free) _ (fun s x => by simp) _ _
@[simp] theorem showShadow_cols (p : Plane) (w : PeriodSet) (s : State) : (showShadow p w s).cols = s.cols := by
  unfold showShadow; split
  · rfl
  · exact foldl_same (·.cols) _ (fun s x => by simp) _ _
@[simp] theorem showShadow_mods (p : Plane) (w : PeriodSet) (s : State) : (showShadow p w s).mods = s.mods := by
  unfold showShadow; split
  · rfl
  · exact foldl_same (·.mods) _ (fun s x => by simp) _ _

/-- An ID that is no register of a plane's shadow (R161). -/
abbrev OffShadow (p : Plane) (j : Nat) : Prop := j < modPsPer p.code ∨ modPsP p.code 18 ≤ j

theorem par_showShadow (p : Plane) (w : PeriodSet) (s : State) {j : Nat} (hw : w.ports.length ≤ 18) (h : OffShadow p j) :
    par (showShadow p w s) j = par s j := by
  unfold showShadow
  split
  · rfl
  · have key : ∀ (l : List (PortWord × Nat)) (s : State), (∀ x ∈ l, x.2 < 18) →
        par (l.foldl (fun s x => setPar (modPsP p.code x.2) (x.1.cmp + 2 ^ 20 * x.1.act) s) s) j = par s j := by
      intro l
      induction l with
      | nil => intros; rfl
      | cons x t ih =>
        intro s hl
        rw [List.foldl_cons, ih _ fun y hy => hl y (List.mem_cons_of_mem _ hy)]
        have := hl x List.mem_cons_self
        exact par_setPar_other _ _ (by unfold OffShadow modPsPer modPsP at h; unfold modPsP; omega)
    rw [key _ _ fun x hx => by
      have := (List.mem_zipIdx hx).2.1
      omega]
    exact par_setPar_other _ _ (by unfold OffShadow modPsPer modPsP at h; unfold modPsPer; omega)

theorem initialSet_length (p : Plane) (s : State) : (initialSet p s).ports.length ≤ 18 := by
  cases p <;> simp [initialSet, portCount]

theorem par_initMod_off (p : Plane) (s : State) {j : Nat} (h : OffShadow p j) : par (initMod p s) j = par s j := by
  unfold initMod
  split
  · rfl
  · exact par_showShadow p _ s (initialSet_length p s) h

@[simp] theorem initMod_cols (p : Plane) (s : State) : (initMod p s).cols = s.cols := by unfold initMod; split <;> simp
@[simp] theorem initMod_pending (p : Plane) (s : State) : (initMod p s).pending = s.pending := by unfold initMod; split <;> simp
@[simp] theorem initMod_pins (p : Plane) (s : State) : (initMod p s).pins = s.pins := by unfold initMod; split <;> simp
@[simp] theorem initMod_wait (p : Plane) (s : State) : (initMod p s).wait = s.wait := by unfold initMod; split <;> simp
@[simp] theorem initMod_stored (p : Plane) (s : State) : (initMod p s).stored = s.stored := by unfold initMod; split <;> simp
@[simp] theorem initMod_planes (p : Plane) (s : State) : (initMod p s).planes = s.planes := by unfold initMod; split <;> simp
@[simp] theorem initMod_meas (p : Plane) (s : State) : (initMod p s).meas = s.meas := by unfold initMod; split <;> simp
@[simp] theorem initMod_meter (p : Plane) (s : State) : (initMod p s).meter = s.meter := by unfold initMod; split <;> simp
@[simp] theorem initMod_rgt (p : Plane) (s : State) : (initMod p s).rgt = s.rgt := by unfold initMod; split <;> simp
@[simp] theorem initMod_isl (p : Plane) (s : State) : (initMod p s).isl = s.isl := by unfold initMod; split <;> simp
@[simp] theorem initMod_host (p : Plane) (s : State) : (initMod p s).host = s.host := by unfold initMod; split <;> simp
@[simp] theorem initMod_txn (p : Plane) (s : State) : (initMod p s).txn = s.txn := by unfold initMod; split <;> simp
@[simp] theorem initMod_time (p : Plane) (s : State) : (initMod p s).time = s.time := by unfold initMod; split <;> simp
@[simp] theorem initMod_clk (p : Plane) (s : State) : (initMod p s).clk = s.clk := by unfold initMod; split <;> simp
@[simp] theorem initMod_eth0 (p : Plane) (s : State) : (initMod p s).eth0 = s.eth0 := by unfold initMod; split <;> simp
@[simp] theorem initMod_eth1 (p : Plane) (s : State) : (initMod p s).eth1 = s.eth1 := by unfold initMod; split <;> simp
@[simp] theorem initMod_replay (p : Plane) (s : State) : (initMod p s).replay = s.replay := by unfold initMod; split <;> simp
@[simp] theorem initMod_acq (p : Plane) (s : State) : (initMod p s).acq = s.acq := by unfold initMod; split <;> simp
@[simp] theorem initMod_ybus (p : Plane) (s : State) : (initMod p s).ybus = s.ybus := by unfold initMod; split <;> simp
@[simp] theorem initMod_sums (p : Plane) (s : State) : (initMod p s).sums = s.sums := by unfold initMod; split <;> simp
@[simp] theorem initMod_gfm (p : Plane) (s : State) : (initMod p s).gfm = s.gfm := by unfold initMod; split <;> simp
@[simp] theorem initMod_msd (p : Plane) (s : State) : (initMod p s).msd = s.msd := by unfold initMod; split <;> simp
@[simp] theorem initMod_red (p : Plane) (s : State) : (initMod p s).red = s.red := by unfold initMod; split <;> simp
@[simp] theorem initMod_fw (p : Plane) (s : State) : (initMod p s).fw = s.fw := by unfold initMod; split <;> simp
@[simp] theorem initMod_wire (p : Plane) (s : State) : (initMod p s).wire = s.wire := by unfold initMod; split <;> simp
@[simp] theorem initMod_free (p : Plane) (s : State) : (initMod p s).free = s.free := by unfold initMod; split <;> simp

@[simp] theorem initMod_prt_upper (p : Plane) (s : State) : (initMod p s).prt.upper = s.prt.upper := by unfold initMod; split <;> simp
@[simp] theorem initMod_prt_lower (p : Plane) (s : State) : (initMod p s).prt.lower = s.prt.lower := by unfold initMod; split <;> simp
@[simp] theorem initMod_prt_ovr (p : Plane) (s : State) : (initMod p s).prt.ovr = s.prt.ovr := by unfold initMod; split <;> simp
@[simp] theorem initMod_prt_pulse (p : Plane) (s : State) : (initMod p s).prt.pulse = s.prt.pulse := by unfold initMod; split <;> simp
@[simp] theorem initMod_prt_enable (p : Plane) (s : State) : (initMod p s).prt.enable = s.prt.enable := by unfold initMod; split <;> simp
@[simp] theorem initMod_prt_permit (p : Plane) (s : State) : (initMod p s).prt.permit = s.prt.permit := by unfold initMod; split <;> simp
@[simp] theorem initMod_prt_kaHold (p : Plane) (s : State) : (initMod p s).prt.kaHold = s.prt.kaHold := by unfold initMod; split <;> simp
@[simp] theorem initMod_prt_supOn (p : Plane) (s : State) : (initMod p s).prt.supOn = s.prt.supOn := by unfold initMod; split <;> simp
@[simp] theorem initMod_prt_uvVcc (p : Plane) (s : State) : (initMod p s).prt.uvVcc = s.prt.uvVcc := by unfold initMod; split <;> simp
@[simp] theorem initMod_prt_faultH (p : Plane) (s : State) : (initMod p s).prt.faultH = s.prt.faultH := by unfold initMod; split <;> simp
@[simp] theorem initMod_prt_faultL (p : Plane) (s : State) : (initMod p s).prt.faultL = s.prt.faultL := by unfold initMod; split <;> simp
@[simp] theorem initMod_prt_stagger (p : Plane) (s : State) : (initMod p s).prt.stagger = s.prt.stagger := by unfold initMod; split <;> simp
@[simp] theorem initMod_prt_legOff (p : Plane) (s : State) : (initMod p s).prt.legOff = s.prt.legOff := by unfold initMod; split <;> simp
@[simp] theorem initMod_prt_forcedBlock (p : Plane) (s : State) : (initMod p s).prt.forcedBlock = s.prt.forcedBlock := by unfold initMod; split <;> simp
@[simp] theorem initMod_prt_forcedAsc (p : Plane) (s : State) : (initMod p s).prt.forcedAsc = s.prt.forcedAsc := by unfold initMod; split <;> simp
@[simp] theorem initMod_prt_mcFallback (p : Plane) (s : State) : (initMod p s).prt.mcFallback = s.prt.mcFallback := by unfold initMod; split <;> simp
@[simp] theorem initMod_prt_chopOn (p : Plane) (s : State) : (initMod p s).prt.chopOn = s.prt.chopOn := by unfold initMod; split <;> simp
@[simp] theorem initMod_prt_overtemp (p : Plane) (s : State) : (initMod p s).prt.overtemp = s.prt.overtemp := by unfold initMod; split <;> simp
@[simp] theorem initMod_prt_supplyLoss (p : Plane) (s : State) : (initMod p s).prt.supplyLoss = s.prt.supplyLoss := by unfold initMod; split <;> simp
@[simp] theorem initMod_prt_mpLimit (p : Plane) (s : State) : (initMod p s).prt.mpLimit = s.prt.mpLimit := by unfold initMod; split <;> simp
@[simp] theorem initMod_prt_resetting (p : Plane) (s : State) : (initMod p s).prt.resetting = s.prt.resetting := by unfold initMod; split <;> simp
@[simp] theorem initMod_prt_holdUp (p : Plane) (s : State) : (initMod p s).prt.holdUp = s.prt.holdUp := by unfold initMod; split <;> simp

@[simp] theorem lane_override (m a b : Ports) (s : State) (q : Plane) : lane (override m a b s) q = lane s q := lane_congr (by simp) q
@[simp] theorem par_override (m a b : Ports) (s : State) (j : Nat) : par (override m a b s) j = par s j := par_congr (by simp) j
@[simp] theorem lane_releaseOvr (p : Plane) (s : State) (q : Plane) : lane (releaseOvr p s) q = lane s q := lane_congr (by simp) q
@[simp] theorem par_releaseOvr (p : Plane) (s : State) (j : Nat) : par (releaseOvr p s) j = par s j := par_congr (by simp) j
@[simp] theorem lane_suppliesOn (p : Plane) (s : State) (q : Plane) : lane (suppliesOn p s) q = lane s q := lane_congr (by simp) q
@[simp] theorem par_suppliesOn (p : Plane) (s : State) (j : Nat) : par (suppliesOn p s) j = par s j := par_congr (by simp) j
@[simp] theorem lane_suppliesOff (p : Plane) (s : State) (q : Plane) : lane (suppliesOff p s) q = lane s q := lane_congr (by simp) q
@[simp] theorem par_suppliesOff (p : Plane) (s : State) (j : Nat) : par (suppliesOff p s) j = par s j := par_congr (by simp) j
@[simp] theorem lane_initMod (p : Plane) (s : State) (q : Plane) : lane (initMod p s) q = lane s q := lane_congr (by simp) q

/-! ## The parts of an entry into SAFE -/

@[simp] theorem cancelAll_pending (l : List Nat) (c : Nat) (s : State) : (cancelAll l c s).pending = s.pending := by exact foldl_same (·.pending) _ (fun s n => by simp) _ _
@[simp] theorem cancelAll_pins (l : List Nat) (c : Nat) (s : State) : (cancelAll l c s).pins = s.pins := by exact foldl_same (·.pins) _ (fun s n => by simp) _ _
@[simp] theorem cancelAll_wait (l : List Nat) (c : Nat) (s : State) : (cancelAll l c s).wait = s.wait := by exact foldl_same (·.wait) _ (fun s n => by simp) _ _
@[simp] theorem cancelAll_stored (l : List Nat) (c : Nat) (s : State) : (cancelAll l c s).stored = s.stored := by exact foldl_same (·.stored) _ (fun s n => by simp) _ _
@[simp] theorem cancelAll_planes (l : List Nat) (c : Nat) (s : State) : (cancelAll l c s).planes = s.planes := by exact foldl_same (·.planes) _ (fun s n => by simp) _ _
@[simp] theorem cancelAll_mods (l : List Nat) (c : Nat) (s : State) : (cancelAll l c s).mods = s.mods := by exact foldl_same (·.mods) _ (fun s n => by simp) _ _
@[simp] theorem cancelAll_meas (l : List Nat) (c : Nat) (s : State) : (cancelAll l c s).meas = s.meas := by exact foldl_same (·.meas) _ (fun s n => by simp) _ _
@[simp] theorem cancelAll_meter (l : List Nat) (c : Nat) (s : State) : (cancelAll l c s).meter = s.meter := by exact foldl_same (·.meter) _ (fun s n => by simp) _ _
@[simp] theorem cancelAll_rgt (l : List Nat) (c : Nat) (s : State) : (cancelAll l c s).rgt = s.rgt := by exact foldl_same (·.rgt) _ (fun s n => by simp) _ _
@[simp] theorem cancelAll_prt (l : List Nat) (c : Nat) (s : State) : (cancelAll l c s).prt = s.prt := by exact foldl_same (·.prt) _ (fun s n => by simp) _ _
@[simp] theorem cancelAll_isl (l : List Nat) (c : Nat) (s : State) : (cancelAll l c s).isl = s.isl := by exact foldl_same (·.isl) _ (fun s n => by simp) _ _
@[simp] theorem cancelAll_txn (l : List Nat) (c : Nat) (s : State) : (cancelAll l c s).txn = s.txn := by exact foldl_same (·.txn) _ (fun s n => by simp) _ _
@[simp] theorem cancelAll_time (l : List Nat) (c : Nat) (s : State) : (cancelAll l c s).time = s.time := by exact foldl_same (·.time) _ (fun s n => by simp) _ _
@[simp] theorem cancelAll_clk (l : List Nat) (c : Nat) (s : State) : (cancelAll l c s).clk = s.clk := by exact foldl_same (·.clk) _ (fun s n => by simp) _ _
@[simp] theorem cancelAll_eth0 (l : List Nat) (c : Nat) (s : State) : (cancelAll l c s).eth0 = s.eth0 := by exact foldl_same (·.eth0) _ (fun s n => by simp) _ _
@[simp] theorem cancelAll_eth1 (l : List Nat) (c : Nat) (s : State) : (cancelAll l c s).eth1 = s.eth1 := by exact foldl_same (·.eth1) _ (fun s n => by simp) _ _
@[simp] theorem cancelAll_replay (l : List Nat) (c : Nat) (s : State) : (cancelAll l c s).replay = s.replay := by exact foldl_same (·.replay) _ (fun s n => by simp) _ _
@[simp] theorem cancelAll_acq (l : List Nat) (c : Nat) (s : State) : (cancelAll l c s).acq = s.acq := by exact foldl_same (·.acq) _ (fun s n => by simp) _ _
@[simp] theorem cancelAll_ybus (l : List Nat) (c : Nat) (s : State) : (cancelAll l c s).ybus = s.ybus := by exact foldl_same (·.ybus) _ (fun s n => by simp) _ _
@[simp] theorem cancelAll_sums (l : List Nat) (c : Nat) (s : State) : (cancelAll l c s).sums = s.sums := by exact foldl_same (·.sums) _ (fun s n => by simp) _ _
@[simp] theorem cancelAll_gfm (l : List Nat) (c : Nat) (s : State) : (cancelAll l c s).gfm = s.gfm := by exact foldl_same (·.gfm) _ (fun s n => by simp) _ _
@[simp] theorem cancelAll_msd (l : List Nat) (c : Nat) (s : State) : (cancelAll l c s).msd = s.msd := by exact foldl_same (·.msd) _ (fun s n => by simp) _ _
@[simp] theorem cancelAll_red (l : List Nat) (c : Nat) (s : State) : (cancelAll l c s).red = s.red := by exact foldl_same (·.red) _ (fun s n => by simp) _ _
@[simp] theorem cancelAll_fw (l : List Nat) (c : Nat) (s : State) : (cancelAll l c s).fw = s.fw := by exact foldl_same (·.fw) _ (fun s n => by simp) _ _
@[simp] theorem cancelAll_free (l : List Nat) (c : Nat) (s : State) : (cancelAll l c s).free = s.free := by exact foldl_same (·.free) _ (fun s n => by simp) _ _

@[simp] theorem dropMc_pending  (s : State) : (dropMc s).pending = s.pending := by unfold dropMc; split <;> simp
@[simp] theorem dropMc_pins  (s : State) : (dropMc s).pins = s.pins := by unfold dropMc; split <;> simp
@[simp] theorem dropMc_wait  (s : State) : (dropMc s).wait = s.wait := by unfold dropMc; split <;> simp
@[simp] theorem dropMc_stored  (s : State) : (dropMc s).stored = s.stored := by unfold dropMc; split <;> simp
@[simp] theorem dropMc_planes  (s : State) : (dropMc s).planes = s.planes := by unfold dropMc; split <;> simp
@[simp] theorem dropMc_mods  (s : State) : (dropMc s).mods = s.mods := by unfold dropMc; split <;> simp
@[simp] theorem dropMc_meas  (s : State) : (dropMc s).meas = s.meas := by unfold dropMc; split <;> simp
@[simp] theorem dropMc_meter  (s : State) : (dropMc s).meter = s.meter := by unfold dropMc; split <;> simp
@[simp] theorem dropMc_rgt  (s : State) : (dropMc s).rgt = s.rgt := by unfold dropMc; split <;> simp
@[simp] theorem dropMc_prt  (s : State) : (dropMc s).prt = s.prt := by unfold dropMc; split <;> simp
@[simp] theorem dropMc_isl  (s : State) : (dropMc s).isl = s.isl := by unfold dropMc; split <;> simp
@[simp] theorem dropMc_host  (s : State) : (dropMc s).host = s.host := by unfold dropMc; split <;> simp
@[simp] theorem dropMc_txn  (s : State) : (dropMc s).txn = s.txn := by unfold dropMc; split <;> simp
@[simp] theorem dropMc_time  (s : State) : (dropMc s).time = s.time := by unfold dropMc; split <;> simp
@[simp] theorem dropMc_clk  (s : State) : (dropMc s).clk = s.clk := by unfold dropMc; split <;> simp
@[simp] theorem dropMc_eth0  (s : State) : (dropMc s).eth0 = s.eth0 := by unfold dropMc; split <;> simp
@[simp] theorem dropMc_eth1  (s : State) : (dropMc s).eth1 = s.eth1 := by unfold dropMc; split <;> simp
@[simp] theorem dropMc_replay  (s : State) : (dropMc s).replay = s.replay := by unfold dropMc; split <;> simp
@[simp] theorem dropMc_acq  (s : State) : (dropMc s).acq = s.acq := by unfold dropMc; split <;> simp
@[simp] theorem dropMc_ybus  (s : State) : (dropMc s).ybus = s.ybus := by unfold dropMc; split <;> simp
@[simp] theorem dropMc_sums  (s : State) : (dropMc s).sums = s.sums := by unfold dropMc; split <;> simp
@[simp] theorem dropMc_gfm  (s : State) : (dropMc s).gfm = s.gfm := by unfold dropMc; split <;> simp
@[simp] theorem dropMc_msd  (s : State) : (dropMc s).msd = s.msd := by unfold dropMc; split <;> simp
@[simp] theorem dropMc_red  (s : State) : (dropMc s).red = s.red := by unfold dropMc; split <;> simp
@[simp] theorem dropMc_fw  (s : State) : (dropMc s).fw = s.fw := by unfold dropMc; split <;> simp
@[simp] theorem dropMc_wire  (s : State) : (dropMc s).wire = s.wire := by unfold dropMc; split <;> simp
@[simp] theorem dropMc_free  (s : State) : (dropMc s).free = s.free := by unfold dropMc; split <;> simp

@[simp] theorem ascApply_pending (b : SafeSub) (k : Nat) (s : State) : (ascApply b k s).pending = s.pending := by unfold ascApply; split <;> rfl
@[simp] theorem ascApply_pins (b : SafeSub) (k : Nat) (s : State) : (ascApply b k s).pins = s.pins := by unfold ascApply; split <;> rfl
@[simp] theorem ascApply_params (b : SafeSub) (k : Nat) (s : State) : (ascApply b k s).params = s.params := by unfold ascApply; split <;> rfl
@[simp] theorem ascApply_wait (b : SafeSub) (k : Nat) (s : State) : (ascApply b k s).wait = s.wait := by unfold ascApply; split <;> rfl
@[simp] theorem ascApply_stored (b : SafeSub) (k : Nat) (s : State) : (ascApply b k s).stored = s.stored := by unfold ascApply; split <;> rfl
@[simp] theorem ascApply_planes (b : SafeSub) (k : Nat) (s : State) : (ascApply b k s).planes = s.planes := by unfold ascApply; split <;> rfl
@[simp] theorem ascApply_mods (b : SafeSub) (k : Nat) (s : State) : (ascApply b k s).mods = s.mods := by unfold ascApply; split <;> rfl
@[simp] theorem ascApply_meas (b : SafeSub) (k : Nat) (s : State) : (ascApply b k s).meas = s.meas := by unfold ascApply; split <;> rfl
@[simp] theorem ascApply_meter (b : SafeSub) (k : Nat) (s : State) : (ascApply b k s).meter = s.meter := by unfold ascApply; split <;> rfl
@[simp] theorem ascApply_rgt (b : SafeSub) (k : Nat) (s : State) : (ascApply b k s).rgt = s.rgt := by unfold ascApply; split <;> rfl
@[simp] theorem ascApply_isl (b : SafeSub) (k : Nat) (s : State) : (ascApply b k s).isl = s.isl := by unfold ascApply; split <;> rfl
@[simp] theorem ascApply_host (b : SafeSub) (k : Nat) (s : State) : (ascApply b k s).host = s.host := by unfold ascApply; split <;> rfl
@[simp] theorem ascApply_txn (b : SafeSub) (k : Nat) (s : State) : (ascApply b k s).txn = s.txn := by unfold ascApply; split <;> rfl
@[simp] theorem ascApply_time (b : SafeSub) (k : Nat) (s : State) : (ascApply b k s).time = s.time := by unfold ascApply; split <;> rfl
@[simp] theorem ascApply_clk (b : SafeSub) (k : Nat) (s : State) : (ascApply b k s).clk = s.clk := by unfold ascApply; split <;> rfl
@[simp] theorem ascApply_eth0 (b : SafeSub) (k : Nat) (s : State) : (ascApply b k s).eth0 = s.eth0 := by unfold ascApply; split <;> rfl
@[simp] theorem ascApply_eth1 (b : SafeSub) (k : Nat) (s : State) : (ascApply b k s).eth1 = s.eth1 := by unfold ascApply; split <;> rfl
@[simp] theorem ascApply_replay (b : SafeSub) (k : Nat) (s : State) : (ascApply b k s).replay = s.replay := by unfold ascApply; split <;> rfl
@[simp] theorem ascApply_acq (b : SafeSub) (k : Nat) (s : State) : (ascApply b k s).acq = s.acq := by unfold ascApply; split <;> rfl
@[simp] theorem ascApply_ybus (b : SafeSub) (k : Nat) (s : State) : (ascApply b k s).ybus = s.ybus := by unfold ascApply; split <;> rfl
@[simp] theorem ascApply_sums (b : SafeSub) (k : Nat) (s : State) : (ascApply b k s).sums = s.sums := by unfold ascApply; split <;> rfl
@[simp] theorem ascApply_gfm (b : SafeSub) (k : Nat) (s : State) : (ascApply b k s).gfm = s.gfm := by unfold ascApply; split <;> rfl
@[simp] theorem ascApply_msd (b : SafeSub) (k : Nat) (s : State) : (ascApply b k s).msd = s.msd := by unfold ascApply; split <;> rfl
@[simp] theorem ascApply_red (b : SafeSub) (k : Nat) (s : State) : (ascApply b k s).red = s.red := by unfold ascApply; split <;> rfl
@[simp] theorem ascApply_fw (b : SafeSub) (k : Nat) (s : State) : (ascApply b k s).fw = s.fw := by unfold ascApply; split <;> rfl
@[simp] theorem ascApply_wire (b : SafeSub) (k : Nat) (s : State) : (ascApply b k s).wire = s.wire := by unfold ascApply; split <;> rfl
@[simp] theorem ascApply_free (b : SafeSub) (k : Nat) (s : State) : (ascApply b k s).free = s.free := by unfold ascApply; split <;> rfl

@[simp] theorem ascApply_prt_upper (b : SafeSub) (k : Nat) (s : State) : (ascApply b k s).prt.upper = s.prt.upper := by unfold ascApply; split <;> rfl
@[simp] theorem ascApply_prt_lower (b : SafeSub) (k : Nat) (s : State) : (ascApply b k s).prt.lower = s.prt.lower := by unfold ascApply; split <;> rfl
@[simp] theorem ascApply_prt_ovr (b : SafeSub) (k : Nat) (s : State) : (ascApply b k s).prt.ovr = s.prt.ovr := by unfold ascApply; split <;> rfl
@[simp] theorem ascApply_prt_permit (b : SafeSub) (k : Nat) (s : State) : (ascApply b k s).prt.permit = s.prt.permit := by unfold ascApply; split <;> rfl
@[simp] theorem ascApply_prt_modPulse (b : SafeSub) (k : Nat) (s : State) : (ascApply b k s).prt.modPulse = s.prt.modPulse := by unfold ascApply; split <;> rfl
@[simp] theorem ascApply_prt_modEnable (b : SafeSub) (k : Nat) (s : State) : (ascApply b k s).prt.modEnable = s.prt.modEnable := by unfold ascApply; split <;> rfl
@[simp] theorem ascApply_prt_kaHold (b : SafeSub) (k : Nat) (s : State) : (ascApply b k s).prt.kaHold = s.prt.kaHold := by unfold ascApply; split <;> rfl
@[simp] theorem ascApply_prt_supOn (b : SafeSub) (k : Nat) (s : State) : (ascApply b k s).prt.supOn = s.prt.supOn := by unfold ascApply; split <;> rfl
@[simp] theorem ascApply_prt_uvVcc (b : SafeSub) (k : Nat) (s : State) : (ascApply b k s).prt.uvVcc = s.prt.uvVcc := by unfold ascApply; split <;> rfl
@[simp] theorem ascApply_prt_faultH (b : SafeSub) (k : Nat) (s : State) : (ascApply b k s).prt.faultH = s.prt.faultH := by unfold ascApply; split <;> rfl
@[simp] theorem ascApply_prt_faultL (b : SafeSub) (k : Nat) (s : State) : (ascApply b k s).prt.faultL = s.prt.faultL := by unfold ascApply; split <;> rfl
@[simp] theorem ascApply_prt_stagger (b : SafeSub) (k : Nat) (s : State) : (ascApply b k s).prt.stagger = s.prt.stagger := by unfold ascApply; split <;> rfl
@[simp] theorem ascApply_prt_legOff (b : SafeSub) (k : Nat) (s : State) : (ascApply b k s).prt.legOff = s.prt.legOff := by unfold ascApply; split <;> rfl
@[simp] theorem ascApply_prt_forcedBlock (b : SafeSub) (k : Nat) (s : State) : (ascApply b k s).prt.forcedBlock = s.prt.forcedBlock := by unfold ascApply; split <;> rfl
@[simp] theorem ascApply_prt_forcedAsc (b : SafeSub) (k : Nat) (s : State) : (ascApply b k s).prt.forcedAsc = s.prt.forcedAsc := by unfold ascApply; split <;> rfl
@[simp] theorem ascApply_prt_mcFallback (b : SafeSub) (k : Nat) (s : State) : (ascApply b k s).prt.mcFallback = s.prt.mcFallback := by unfold ascApply; split <;> rfl
@[simp] theorem ascApply_prt_chopOn (b : SafeSub) (k : Nat) (s : State) : (ascApply b k s).prt.chopOn = s.prt.chopOn := by unfold ascApply; split <;> rfl
@[simp] theorem ascApply_prt_overtemp (b : SafeSub) (k : Nat) (s : State) : (ascApply b k s).prt.overtemp = s.prt.overtemp := by unfold ascApply; split <;> rfl
@[simp] theorem ascApply_prt_supplyLoss (b : SafeSub) (k : Nat) (s : State) : (ascApply b k s).prt.supplyLoss = s.prt.supplyLoss := by unfold ascApply; split <;> rfl
@[simp] theorem ascApply_prt_mpLimit (b : SafeSub) (k : Nat) (s : State) : (ascApply b k s).prt.mpLimit = s.prt.mpLimit := by unfold ascApply; split <;> rfl
@[simp] theorem ascApply_prt_resetting (b : SafeSub) (k : Nat) (s : State) : (ascApply b k s).prt.resetting = s.prt.resetting := by unfold ascApply; split <;> rfl
@[simp] theorem ascApply_prt_holdUp (b : SafeSub) (k : Nat) (s : State) : (ascApply b k s).prt.holdUp = s.prt.holdUp := by unfold ascApply; split <;> rfl

@[simp] theorem enterSub_pending (b : SafeSub) (s : State) : (enterSub b s).pending = s.pending := by unfold enterSub; split <;> simp
@[simp] theorem enterSub_pins (b : SafeSub) (s : State) : (enterSub b s).pins = s.pins := by unfold enterSub; split <;> simp
@[simp] theorem enterSub_params (b : SafeSub) (s : State) : (enterSub b s).params = s.params := by unfold enterSub; split <;> simp
@[simp] theorem enterSub_wait (b : SafeSub) (s : State) : (enterSub b s).wait = s.wait := by unfold enterSub; split <;> simp
@[simp] theorem enterSub_stored (b : SafeSub) (s : State) : (enterSub b s).stored = s.stored := by unfold enterSub; split <;> simp
@[simp] theorem enterSub_planes (b : SafeSub) (s : State) : (enterSub b s).planes = s.planes := by unfold enterSub; split <;> simp
@[simp] theorem enterSub_mods (b : SafeSub) (s : State) : (enterSub b s).mods = s.mods := by unfold enterSub; split <;> simp
@[simp] theorem enterSub_meas (b : SafeSub) (s : State) : (enterSub b s).meas = s.meas := by unfold enterSub; split <;> simp
@[simp] theorem enterSub_meter (b : SafeSub) (s : State) : (enterSub b s).meter = s.meter := by unfold enterSub; split <;> simp
@[simp] theorem enterSub_rgt (b : SafeSub) (s : State) : (enterSub b s).rgt = s.rgt := by unfold enterSub; split <;> simp
@[simp] theorem enterSub_isl (b : SafeSub) (s : State) : (enterSub b s).isl = s.isl := by unfold enterSub; split <;> simp
@[simp] theorem enterSub_host (b : SafeSub) (s : State) : (enterSub b s).host = s.host := by unfold enterSub; split <;> simp
@[simp] theorem enterSub_txn (b : SafeSub) (s : State) : (enterSub b s).txn = s.txn := by unfold enterSub; split <;> simp
@[simp] theorem enterSub_time (b : SafeSub) (s : State) : (enterSub b s).time = s.time := by unfold enterSub; split <;> simp
@[simp] theorem enterSub_clk (b : SafeSub) (s : State) : (enterSub b s).clk = s.clk := by unfold enterSub; split <;> simp
@[simp] theorem enterSub_eth0 (b : SafeSub) (s : State) : (enterSub b s).eth0 = s.eth0 := by unfold enterSub; split <;> simp
@[simp] theorem enterSub_eth1 (b : SafeSub) (s : State) : (enterSub b s).eth1 = s.eth1 := by unfold enterSub; split <;> simp
@[simp] theorem enterSub_replay (b : SafeSub) (s : State) : (enterSub b s).replay = s.replay := by unfold enterSub; split <;> simp
@[simp] theorem enterSub_acq (b : SafeSub) (s : State) : (enterSub b s).acq = s.acq := by unfold enterSub; split <;> simp
@[simp] theorem enterSub_ybus (b : SafeSub) (s : State) : (enterSub b s).ybus = s.ybus := by unfold enterSub; split <;> simp
@[simp] theorem enterSub_sums (b : SafeSub) (s : State) : (enterSub b s).sums = s.sums := by unfold enterSub; split <;> simp
@[simp] theorem enterSub_gfm (b : SafeSub) (s : State) : (enterSub b s).gfm = s.gfm := by unfold enterSub; split <;> simp
@[simp] theorem enterSub_msd (b : SafeSub) (s : State) : (enterSub b s).msd = s.msd := by unfold enterSub; split <;> simp
@[simp] theorem enterSub_red (b : SafeSub) (s : State) : (enterSub b s).red = s.red := by unfold enterSub; split <;> simp
@[simp] theorem enterSub_fw (b : SafeSub) (s : State) : (enterSub b s).fw = s.fw := by unfold enterSub; split <;> simp
@[simp] theorem enterSub_wire (b : SafeSub) (s : State) : (enterSub b s).wire = s.wire := by unfold enterSub; split <;> simp
@[simp] theorem enterSub_free (b : SafeSub) (s : State) : (enterSub b s).free = s.free := by unfold enterSub; split <;> simp

@[simp] theorem enterSub_prt_upper (b : SafeSub) (s : State) : (enterSub b s).prt.upper = s.prt.upper := by unfold enterSub; split <;> simp
@[simp] theorem enterSub_prt_lower (b : SafeSub) (s : State) : (enterSub b s).prt.lower = s.prt.lower := by unfold enterSub; split <;> simp
@[simp] theorem enterSub_prt_permit (b : SafeSub) (s : State) : (enterSub b s).prt.permit = s.prt.permit := by unfold enterSub; split <;> simp
@[simp] theorem enterSub_prt_modPulse (b : SafeSub) (s : State) : (enterSub b s).prt.modPulse = s.prt.modPulse := by unfold enterSub; split <;> simp
@[simp] theorem enterSub_prt_modEnable (b : SafeSub) (s : State) : (enterSub b s).prt.modEnable = s.prt.modEnable := by unfold enterSub; split <;> simp
@[simp] theorem enterSub_prt_kaHold (b : SafeSub) (s : State) : (enterSub b s).prt.kaHold = s.prt.kaHold := by unfold enterSub; split <;> simp
@[simp] theorem enterSub_prt_supOn (b : SafeSub) (s : State) : (enterSub b s).prt.supOn = s.prt.supOn := by unfold enterSub; split <;> simp
@[simp] theorem enterSub_prt_uvVcc (b : SafeSub) (s : State) : (enterSub b s).prt.uvVcc = s.prt.uvVcc := by unfold enterSub; split <;> simp
@[simp] theorem enterSub_prt_faultH (b : SafeSub) (s : State) : (enterSub b s).prt.faultH = s.prt.faultH := by unfold enterSub; split <;> simp
@[simp] theorem enterSub_prt_faultL (b : SafeSub) (s : State) : (enterSub b s).prt.faultL = s.prt.faultL := by unfold enterSub; split <;> simp
@[simp] theorem enterSub_prt_stagger (b : SafeSub) (s : State) : (enterSub b s).prt.stagger = s.prt.stagger := by unfold enterSub; split <;> simp
@[simp] theorem enterSub_prt_legOff (b : SafeSub) (s : State) : (enterSub b s).prt.legOff = s.prt.legOff := by unfold enterSub; split <;> simp
@[simp] theorem enterSub_prt_forcedBlock (b : SafeSub) (s : State) : (enterSub b s).prt.forcedBlock = s.prt.forcedBlock := by unfold enterSub; split <;> simp
@[simp] theorem enterSub_prt_forcedAsc (b : SafeSub) (s : State) : (enterSub b s).prt.forcedAsc = s.prt.forcedAsc := by unfold enterSub; split <;> simp
@[simp] theorem enterSub_prt_mcFallback (b : SafeSub) (s : State) : (enterSub b s).prt.mcFallback = s.prt.mcFallback := by unfold enterSub; split <;> simp
@[simp] theorem enterSub_prt_chopOn (b : SafeSub) (s : State) : (enterSub b s).prt.chopOn = s.prt.chopOn := by unfold enterSub; split <;> simp
@[simp] theorem enterSub_prt_overtemp (b : SafeSub) (s : State) : (enterSub b s).prt.overtemp = s.prt.overtemp := by unfold enterSub; split <;> simp
@[simp] theorem enterSub_prt_supplyLoss (b : SafeSub) (s : State) : (enterSub b s).prt.supplyLoss = s.prt.supplyLoss := by unfold enterSub; split <;> simp
@[simp] theorem enterSub_prt_mpLimit (b : SafeSub) (s : State) : (enterSub b s).prt.mpLimit = s.prt.mpLimit := by unfold enterSub; split <;> simp
@[simp] theorem enterSub_prt_resetting (b : SafeSub) (s : State) : (enterSub b s).prt.resetting = s.prt.resetting := by unfold enterSub; split <;> simp
@[simp] theorem enterSub_prt_holdUp (b : SafeSub) (s : State) : (enterSub b s).prt.holdUp = s.prt.holdUp := by unfold enterSub; split <;> simp

@[simp] theorem noteFallback_pending (b : Bool) (s : State) : (noteFallback b s).pending = s.pending := by unfold noteFallback; split <;> simp
@[simp] theorem noteFallback_pins (b : Bool) (s : State) : (noteFallback b s).pins = s.pins := by unfold noteFallback; split <;> simp
@[simp] theorem noteFallback_wait (b : Bool) (s : State) : (noteFallback b s).wait = s.wait := by unfold noteFallback; split <;> simp
@[simp] theorem noteFallback_stored (b : Bool) (s : State) : (noteFallback b s).stored = s.stored := by unfold noteFallback; split <;> simp
@[simp] theorem noteFallback_planes (b : Bool) (s : State) : (noteFallback b s).planes = s.planes := by unfold noteFallback; split <;> simp
@[simp] theorem noteFallback_mods (b : Bool) (s : State) : (noteFallback b s).mods = s.mods := by unfold noteFallback; split <;> simp
@[simp] theorem noteFallback_meas (b : Bool) (s : State) : (noteFallback b s).meas = s.meas := by unfold noteFallback; split <;> simp
@[simp] theorem noteFallback_meter (b : Bool) (s : State) : (noteFallback b s).meter = s.meter := by unfold noteFallback; split <;> simp
@[simp] theorem noteFallback_rgt (b : Bool) (s : State) : (noteFallback b s).rgt = s.rgt := by unfold noteFallback; split <;> simp
@[simp] theorem noteFallback_isl (b : Bool) (s : State) : (noteFallback b s).isl = s.isl := by unfold noteFallback; split <;> simp
@[simp] theorem noteFallback_txn (b : Bool) (s : State) : (noteFallback b s).txn = s.txn := by unfold noteFallback; split <;> simp
@[simp] theorem noteFallback_time (b : Bool) (s : State) : (noteFallback b s).time = s.time := by unfold noteFallback; split <;> simp
@[simp] theorem noteFallback_clk (b : Bool) (s : State) : (noteFallback b s).clk = s.clk := by unfold noteFallback; split <;> simp
@[simp] theorem noteFallback_eth0 (b : Bool) (s : State) : (noteFallback b s).eth0 = s.eth0 := by unfold noteFallback; split <;> simp
@[simp] theorem noteFallback_eth1 (b : Bool) (s : State) : (noteFallback b s).eth1 = s.eth1 := by unfold noteFallback; split <;> simp
@[simp] theorem noteFallback_replay (b : Bool) (s : State) : (noteFallback b s).replay = s.replay := by unfold noteFallback; split <;> simp
@[simp] theorem noteFallback_acq (b : Bool) (s : State) : (noteFallback b s).acq = s.acq := by unfold noteFallback; split <;> simp
@[simp] theorem noteFallback_ybus (b : Bool) (s : State) : (noteFallback b s).ybus = s.ybus := by unfold noteFallback; split <;> simp
@[simp] theorem noteFallback_sums (b : Bool) (s : State) : (noteFallback b s).sums = s.sums := by unfold noteFallback; split <;> simp
@[simp] theorem noteFallback_gfm (b : Bool) (s : State) : (noteFallback b s).gfm = s.gfm := by unfold noteFallback; split <;> simp
@[simp] theorem noteFallback_msd (b : Bool) (s : State) : (noteFallback b s).msd = s.msd := by unfold noteFallback; split <;> simp
@[simp] theorem noteFallback_red (b : Bool) (s : State) : (noteFallback b s).red = s.red := by unfold noteFallback; split <;> simp
@[simp] theorem noteFallback_fw (b : Bool) (s : State) : (noteFallback b s).fw = s.fw := by unfold noteFallback; split <;> simp
@[simp] theorem noteFallback_free (b : Bool) (s : State) : (noteFallback b s).free = s.free := by unfold noteFallback; split <;> simp

@[simp] theorem noteFallback_prt_upper (b : Bool) (s : State) : (noteFallback b s).prt.upper = s.prt.upper := by unfold noteFallback; split <;> simp
@[simp] theorem noteFallback_prt_lower (b : Bool) (s : State) : (noteFallback b s).prt.lower = s.prt.lower := by unfold noteFallback; split <;> simp
@[simp] theorem noteFallback_prt_ovr (b : Bool) (s : State) : (noteFallback b s).prt.ovr = s.prt.ovr := by unfold noteFallback; split <;> simp
@[simp] theorem noteFallback_prt_pulse (b : Bool) (s : State) : (noteFallback b s).prt.pulse = s.prt.pulse := by unfold noteFallback; split <;> simp
@[simp] theorem noteFallback_prt_enable (b : Bool) (s : State) : (noteFallback b s).prt.enable = s.prt.enable := by unfold noteFallback; split <;> simp
@[simp] theorem noteFallback_prt_permit (b : Bool) (s : State) : (noteFallback b s).prt.permit = s.prt.permit := by unfold noteFallback; split <;> simp
@[simp] theorem noteFallback_prt_modPulse (b : Bool) (s : State) : (noteFallback b s).prt.modPulse = s.prt.modPulse := by unfold noteFallback; split <;> simp
@[simp] theorem noteFallback_prt_modEnable (b : Bool) (s : State) : (noteFallback b s).prt.modEnable = s.prt.modEnable := by unfold noteFallback; split <;> simp
@[simp] theorem noteFallback_prt_kaHold (b : Bool) (s : State) : (noteFallback b s).prt.kaHold = s.prt.kaHold := by unfold noteFallback; split <;> simp
@[simp] theorem noteFallback_prt_supOn (b : Bool) (s : State) : (noteFallback b s).prt.supOn = s.prt.supOn := by unfold noteFallback; split <;> simp
@[simp] theorem noteFallback_prt_uvVcc (b : Bool) (s : State) : (noteFallback b s).prt.uvVcc = s.prt.uvVcc := by unfold noteFallback; split <;> simp
@[simp] theorem noteFallback_prt_faultH (b : Bool) (s : State) : (noteFallback b s).prt.faultH = s.prt.faultH := by unfold noteFallback; split <;> simp
@[simp] theorem noteFallback_prt_faultL (b : Bool) (s : State) : (noteFallback b s).prt.faultL = s.prt.faultL := by unfold noteFallback; split <;> simp
@[simp] theorem noteFallback_prt_stagger (b : Bool) (s : State) : (noteFallback b s).prt.stagger = s.prt.stagger := by unfold noteFallback; split <;> simp
@[simp] theorem noteFallback_prt_legOff (b : Bool) (s : State) : (noteFallback b s).prt.legOff = s.prt.legOff := by unfold noteFallback; split <;> simp
@[simp] theorem noteFallback_prt_forcedBlock (b : Bool) (s : State) : (noteFallback b s).prt.forcedBlock = s.prt.forcedBlock := by unfold noteFallback; split <;> simp
@[simp] theorem noteFallback_prt_forcedAsc (b : Bool) (s : State) : (noteFallback b s).prt.forcedAsc = s.prt.forcedAsc := by unfold noteFallback; split <;> simp
@[simp] theorem noteFallback_prt_chopOn (b : Bool) (s : State) : (noteFallback b s).prt.chopOn = s.prt.chopOn := by unfold noteFallback; split <;> simp
@[simp] theorem noteFallback_prt_overtemp (b : Bool) (s : State) : (noteFallback b s).prt.overtemp = s.prt.overtemp := by unfold noteFallback; split <;> simp
@[simp] theorem noteFallback_prt_supplyLoss (b : Bool) (s : State) : (noteFallback b s).prt.supplyLoss = s.prt.supplyLoss := by unfold noteFallback; split <;> simp
@[simp] theorem noteFallback_prt_mpLimit (b : Bool) (s : State) : (noteFallback b s).prt.mpLimit = s.prt.mpLimit := by unfold noteFallback; split <;> simp
@[simp] theorem noteFallback_prt_resetting (b : Bool) (s : State) : (noteFallback b s).prt.resetting = s.prt.resetting := by unfold noteFallback; split <;> simp
@[simp] theorem noteFallback_prt_holdUp (b : Bool) (s : State) : (noteFallback b s).prt.holdUp = s.prt.holdUp := by unfold noteFallback; split <;> simp

@[simp] theorem safePattern_pending (p : Plane) (st : PState) (b : SafeSub) (s : State) : (safePattern p st b s).pending = s.pending := by unfold safePattern; split <;> simp
@[simp] theorem safePattern_pins (p : Plane) (st : PState) (b : SafeSub) (s : State) : (safePattern p st b s).pins = s.pins := by unfold safePattern; split <;> simp
@[simp] theorem safePattern_params (p : Plane) (st : PState) (b : SafeSub) (s : State) : (safePattern p st b s).params = s.params := by unfold safePattern; split <;> simp
@[simp] theorem safePattern_wait (p : Plane) (st : PState) (b : SafeSub) (s : State) : (safePattern p st b s).wait = s.wait := by unfold safePattern; split <;> simp
@[simp] theorem safePattern_stored (p : Plane) (st : PState) (b : SafeSub) (s : State) : (safePattern p st b s).stored = s.stored := by unfold safePattern; split <;> simp
@[simp] theorem safePattern_planes (p : Plane) (st : PState) (b : SafeSub) (s : State) : (safePattern p st b s).planes = s.planes := by unfold safePattern; split <;> simp
@[simp] theorem safePattern_mods (p : Plane) (st : PState) (b : SafeSub) (s : State) : (safePattern p st b s).mods = s.mods := by unfold safePattern; split <;> simp
@[simp] theorem safePattern_meas (p : Plane) (st : PState) (b : SafeSub) (s : State) : (safePattern p st b s).meas = s.meas := by unfold safePattern; split <;> simp
@[simp] theorem safePattern_meter (p : Plane) (st : PState) (b : SafeSub) (s : State) : (safePattern p st b s).meter = s.meter := by unfold safePattern; split <;> simp
@[simp] theorem safePattern_rgt (p : Plane) (st : PState) (b : SafeSub) (s : State) : (safePattern p st b s).rgt = s.rgt := by unfold safePattern; split <;> simp
@[simp] theorem safePattern_isl (p : Plane) (st : PState) (b : SafeSub) (s : State) : (safePattern p st b s).isl = s.isl := by unfold safePattern; split <;> simp
@[simp] theorem safePattern_host (p : Plane) (st : PState) (b : SafeSub) (s : State) : (safePattern p st b s).host = s.host := by unfold safePattern; split <;> simp
@[simp] theorem safePattern_txn (p : Plane) (st : PState) (b : SafeSub) (s : State) : (safePattern p st b s).txn = s.txn := by unfold safePattern; split <;> simp
@[simp] theorem safePattern_time (p : Plane) (st : PState) (b : SafeSub) (s : State) : (safePattern p st b s).time = s.time := by unfold safePattern; split <;> simp
@[simp] theorem safePattern_clk (p : Plane) (st : PState) (b : SafeSub) (s : State) : (safePattern p st b s).clk = s.clk := by unfold safePattern; split <;> simp
@[simp] theorem safePattern_eth0 (p : Plane) (st : PState) (b : SafeSub) (s : State) : (safePattern p st b s).eth0 = s.eth0 := by unfold safePattern; split <;> simp
@[simp] theorem safePattern_eth1 (p : Plane) (st : PState) (b : SafeSub) (s : State) : (safePattern p st b s).eth1 = s.eth1 := by unfold safePattern; split <;> simp
@[simp] theorem safePattern_replay (p : Plane) (st : PState) (b : SafeSub) (s : State) : (safePattern p st b s).replay = s.replay := by unfold safePattern; split <;> simp
@[simp] theorem safePattern_acq (p : Plane) (st : PState) (b : SafeSub) (s : State) : (safePattern p st b s).acq = s.acq := by unfold safePattern; split <;> simp
@[simp] theorem safePattern_ybus (p : Plane) (st : PState) (b : SafeSub) (s : State) : (safePattern p st b s).ybus = s.ybus := by unfold safePattern; split <;> simp
@[simp] theorem safePattern_sums (p : Plane) (st : PState) (b : SafeSub) (s : State) : (safePattern p st b s).sums = s.sums := by unfold safePattern; split <;> simp
@[simp] theorem safePattern_gfm (p : Plane) (st : PState) (b : SafeSub) (s : State) : (safePattern p st b s).gfm = s.gfm := by unfold safePattern; split <;> simp
@[simp] theorem safePattern_msd (p : Plane) (st : PState) (b : SafeSub) (s : State) : (safePattern p st b s).msd = s.msd := by unfold safePattern; split <;> simp
@[simp] theorem safePattern_red (p : Plane) (st : PState) (b : SafeSub) (s : State) : (safePattern p st b s).red = s.red := by unfold safePattern; split <;> simp
@[simp] theorem safePattern_fw (p : Plane) (st : PState) (b : SafeSub) (s : State) : (safePattern p st b s).fw = s.fw := by unfold safePattern; split <;> simp
@[simp] theorem safePattern_wire (p : Plane) (st : PState) (b : SafeSub) (s : State) : (safePattern p st b s).wire = s.wire := by unfold safePattern; split <;> simp
@[simp] theorem safePattern_free (p : Plane) (st : PState) (b : SafeSub) (s : State) : (safePattern p st b s).free = s.free := by unfold safePattern; split <;> simp

@[simp] theorem safePattern_prt_upper (p : Plane) (st : PState) (b : SafeSub) (s : State) : (safePattern p st b s).prt.upper = s.prt.upper := by unfold safePattern; split <;> simp
@[simp] theorem safePattern_prt_lower (p : Plane) (st : PState) (b : SafeSub) (s : State) : (safePattern p st b s).prt.lower = s.prt.lower := by unfold safePattern; split <;> simp
@[simp] theorem safePattern_prt_permit (p : Plane) (st : PState) (b : SafeSub) (s : State) : (safePattern p st b s).prt.permit = s.prt.permit := by unfold safePattern; split <;> simp
@[simp] theorem safePattern_prt_modPulse (p : Plane) (st : PState) (b : SafeSub) (s : State) : (safePattern p st b s).prt.modPulse = s.prt.modPulse := by unfold safePattern; split <;> simp
@[simp] theorem safePattern_prt_modEnable (p : Plane) (st : PState) (b : SafeSub) (s : State) : (safePattern p st b s).prt.modEnable = s.prt.modEnable := by unfold safePattern; split <;> simp
@[simp] theorem safePattern_prt_kaHold (p : Plane) (st : PState) (b : SafeSub) (s : State) : (safePattern p st b s).prt.kaHold = s.prt.kaHold := by unfold safePattern; split <;> simp
@[simp] theorem safePattern_prt_supOn (p : Plane) (st : PState) (b : SafeSub) (s : State) : (safePattern p st b s).prt.supOn = s.prt.supOn := by unfold safePattern; split <;> simp
@[simp] theorem safePattern_prt_uvVcc (p : Plane) (st : PState) (b : SafeSub) (s : State) : (safePattern p st b s).prt.uvVcc = s.prt.uvVcc := by unfold safePattern; split <;> simp
@[simp] theorem safePattern_prt_faultH (p : Plane) (st : PState) (b : SafeSub) (s : State) : (safePattern p st b s).prt.faultH = s.prt.faultH := by unfold safePattern; split <;> simp
@[simp] theorem safePattern_prt_faultL (p : Plane) (st : PState) (b : SafeSub) (s : State) : (safePattern p st b s).prt.faultL = s.prt.faultL := by unfold safePattern; split <;> simp
@[simp] theorem safePattern_prt_stagger (p : Plane) (st : PState) (b : SafeSub) (s : State) : (safePattern p st b s).prt.stagger = s.prt.stagger := by unfold safePattern; split <;> simp
@[simp] theorem safePattern_prt_legOff (p : Plane) (st : PState) (b : SafeSub) (s : State) : (safePattern p st b s).prt.legOff = s.prt.legOff := by unfold safePattern; split <;> simp
@[simp] theorem safePattern_prt_forcedBlock (p : Plane) (st : PState) (b : SafeSub) (s : State) : (safePattern p st b s).prt.forcedBlock = s.prt.forcedBlock := by unfold safePattern; split <;> simp
@[simp] theorem safePattern_prt_forcedAsc (p : Plane) (st : PState) (b : SafeSub) (s : State) : (safePattern p st b s).prt.forcedAsc = s.prt.forcedAsc := by unfold safePattern; split <;> simp
@[simp] theorem safePattern_prt_mcFallback (p : Plane) (st : PState) (b : SafeSub) (s : State) : (safePattern p st b s).prt.mcFallback = s.prt.mcFallback := by unfold safePattern; split <;> simp
@[simp] theorem safePattern_prt_overtemp (p : Plane) (st : PState) (b : SafeSub) (s : State) : (safePattern p st b s).prt.overtemp = s.prt.overtemp := by unfold safePattern; split <;> simp
@[simp] theorem safePattern_prt_supplyLoss (p : Plane) (st : PState) (b : SafeSub) (s : State) : (safePattern p st b s).prt.supplyLoss = s.prt.supplyLoss := by unfold safePattern; split <;> simp
@[simp] theorem safePattern_prt_mpLimit (p : Plane) (st : PState) (b : SafeSub) (s : State) : (safePattern p st b s).prt.mpLimit = s.prt.mpLimit := by unfold safePattern; split <;> simp
@[simp] theorem safePattern_prt_resetting (p : Plane) (st : PState) (b : SafeSub) (s : State) : (safePattern p st b s).prt.resetting = s.prt.resetting := by unfold safePattern; split <;> simp
@[simp] theorem safePattern_prt_holdUp (p : Plane) (st : PState) (b : SafeSub) (s : State) : (safePattern p st b s).prt.holdUp = s.prt.holdUp := by unfold safePattern; split <;> simp

/-- The law's end drops HOLD at most: no port's record changes (R220). -/
@[simp] theorem leaveLaw_prt (b : Bool) (s : State) : (leaveLaw b s).prt = s.prt := by unfold leaveLaw; dsimp only; split <;> simp [setBrk]
@[simp] theorem leaveLaw_pending (b : Bool) (s : State) : (leaveLaw b s).pending = s.pending := by unfold leaveLaw; dsimp only; split <;> simp [setBrk]
@[simp] theorem leaveLaw_pins (b : Bool) (s : State) : (leaveLaw b s).pins = s.pins := by unfold leaveLaw; dsimp only; split <;> simp [setBrk]
@[simp] theorem leaveLaw_wait (b : Bool) (s : State) : (leaveLaw b s).wait = s.wait := by unfold leaveLaw; dsimp only; split <;> simp [setBrk]
@[simp] theorem leaveLaw_stored (b : Bool) (s : State) : (leaveLaw b s).stored = s.stored := by unfold leaveLaw; dsimp only; split <;> simp [setBrk]
@[simp] theorem leaveLaw_planes (b : Bool) (s : State) : (leaveLaw b s).planes = s.planes := by unfold leaveLaw; dsimp only; split <;> simp [setBrk]
@[simp] theorem leaveLaw_mods (b : Bool) (s : State) : (leaveLaw b s).mods = s.mods := by unfold leaveLaw; dsimp only; split <;> simp [setBrk]
@[simp] theorem leaveLaw_meas (b : Bool) (s : State) : (leaveLaw b s).meas = s.meas := by unfold leaveLaw; dsimp only; split <;> simp [setBrk]
@[simp] theorem leaveLaw_meter (b : Bool) (s : State) : (leaveLaw b s).meter = s.meter := by unfold leaveLaw; dsimp only; split <;> simp [setBrk]
@[simp] theorem leaveLaw_rgt (b : Bool) (s : State) : (leaveLaw b s).rgt = s.rgt := by unfold leaveLaw; dsimp only; split <;> simp [setBrk]
@[simp] theorem leaveLaw_isl (b : Bool) (s : State) : (leaveLaw b s).isl = s.isl := by unfold leaveLaw; dsimp only; split <;> simp [setBrk]
@[simp] theorem leaveLaw_host (b : Bool) (s : State) : (leaveLaw b s).host = s.host := by unfold leaveLaw; dsimp only; split <;> simp [setBrk]
@[simp] theorem leaveLaw_txn (b : Bool) (s : State) : (leaveLaw b s).txn = s.txn := by unfold leaveLaw; dsimp only; split <;> simp [setBrk]
@[simp] theorem leaveLaw_time (b : Bool) (s : State) : (leaveLaw b s).time = s.time := by unfold leaveLaw; dsimp only; split <;> simp [setBrk]
@[simp] theorem leaveLaw_clk (b : Bool) (s : State) : (leaveLaw b s).clk = s.clk := by unfold leaveLaw; dsimp only; split <;> simp [setBrk]
@[simp] theorem leaveLaw_eth0 (b : Bool) (s : State) : (leaveLaw b s).eth0 = s.eth0 := by unfold leaveLaw; dsimp only; split <;> simp [setBrk]
@[simp] theorem leaveLaw_eth1 (b : Bool) (s : State) : (leaveLaw b s).eth1 = s.eth1 := by unfold leaveLaw; dsimp only; split <;> simp [setBrk]
@[simp] theorem leaveLaw_replay (b : Bool) (s : State) : (leaveLaw b s).replay = s.replay := by unfold leaveLaw; dsimp only; split <;> simp [setBrk]
@[simp] theorem leaveLaw_acq (b : Bool) (s : State) : (leaveLaw b s).acq = s.acq := by unfold leaveLaw; dsimp only; split <;> simp [setBrk]
@[simp] theorem leaveLaw_ybus (b : Bool) (s : State) : (leaveLaw b s).ybus = s.ybus := by unfold leaveLaw; dsimp only; split <;> simp [setBrk]
@[simp] theorem leaveLaw_sums (b : Bool) (s : State) : (leaveLaw b s).sums = s.sums := by unfold leaveLaw; dsimp only; split <;> simp [setBrk]
@[simp] theorem leaveLaw_gfm (b : Bool) (s : State) : (leaveLaw b s).gfm = s.gfm := by unfold leaveLaw; dsimp only; split <;> simp [setBrk]
@[simp] theorem leaveLaw_msd (b : Bool) (s : State) : (leaveLaw b s).msd = s.msd := by unfold leaveLaw; dsimp only; split <;> simp [setBrk]
@[simp] theorem leaveLaw_red (b : Bool) (s : State) : (leaveLaw b s).red = s.red := by unfold leaveLaw; dsimp only; split <;> simp [setBrk]
@[simp] theorem leaveLaw_fw (b : Bool) (s : State) : (leaveLaw b s).fw = s.fw := by unfold leaveLaw; dsimp only; split <;> simp [setBrk]
@[simp] theorem leaveLaw_wire (b : Bool) (s : State) : (leaveLaw b s).wire = s.wire := by unfold leaveLaw; dsimp only; split <;> simp [setBrk]
@[simp] theorem leaveLaw_free (b : Bool) (s : State) : (leaveLaw b s).free = s.free := by unfold leaveLaw; dsimp only; split <;> simp [setBrk]
@[simp] theorem leaveLaw_cols (b : Bool) (s : State) : (leaveLaw b s).cols = s.cols := by unfold leaveLaw; dsimp only; split <;> simp [setBrk]
@[simp] theorem lane_leaveLaw (b : Bool) (s : State) (q : Plane) : lane (leaveLaw b s) q = lane s q := lane_congr (by simp) q

theorem par_leaveLaw (b : Bool) (s : State) {j : Nat} (h1 : j ≠ protBrkCtrl) (h2 : j ≠ gfmState) : par (leaveLaw b s) j = par s j := by
  unfold leaveLaw
  dsimp only
  rw [par_setParBits_other _ _ _ _ h2]
  split
  · simp [setBrk, par_setParBit_other _ _ _ h1, par_setParBit_other _ _ _ h2]
  · rfl

@[simp] theorem quitLane_pending (p : Plane) (s : State) : (quitLane p s).pending = s.pending := by
  unfold quitLane; dsimp only; repeat' split
  all_goals simp
@[simp] theorem quitLane_pins (p : Plane) (s : State) : (quitLane p s).pins = s.pins := by
  unfold quitLane; dsimp only; repeat' split
  all_goals simp
@[simp] theorem quitLane_wait (p : Plane) (s : State) : (quitLane p s).wait = s.wait := by
  unfold quitLane; dsimp only; repeat' split
  all_goals simp
@[simp] theorem quitLane_stored (p : Plane) (s : State) : (quitLane p s).stored = s.stored := by
  unfold quitLane; dsimp only; repeat' split
  all_goals simp
@[simp] theorem quitLane_mods (p : Plane) (s : State) : (quitLane p s).mods = s.mods := by
  unfold quitLane; dsimp only; repeat' split
  all_goals simp
@[simp] theorem quitLane_meas (p : Plane) (s : State) : (quitLane p s).meas = s.meas := by
  unfold quitLane; dsimp only; repeat' split
  all_goals simp
@[simp] theorem quitLane_meter (p : Plane) (s : State) : (quitLane p s).meter = s.meter := by
  unfold quitLane; dsimp only; repeat' split
  all_goals simp
@[simp] theorem quitLane_rgt (p : Plane) (s : State) : (quitLane p s).rgt = s.rgt := by
  unfold quitLane; dsimp only; repeat' split
  all_goals simp
@[simp] theorem quitLane_prt (p : Plane) (s : State) : (quitLane p s).prt = s.prt := by
  unfold quitLane; dsimp only; repeat' split
  all_goals simp
@[simp] theorem quitLane_isl (p : Plane) (s : State) : (quitLane p s).isl = s.isl := by
  unfold quitLane; dsimp only; repeat' split
  all_goals simp
@[simp] theorem quitLane_txn (p : Plane) (s : State) : (quitLane p s).txn = s.txn := by
  unfold quitLane; dsimp only; repeat' split
  all_goals simp
@[simp] theorem quitLane_time (p : Plane) (s : State) : (quitLane p s).time = s.time := by
  unfold quitLane; dsimp only; repeat' split
  all_goals simp
@[simp] theorem quitLane_clk (p : Plane) (s : State) : (quitLane p s).clk = s.clk := by
  unfold quitLane; dsimp only; repeat' split
  all_goals simp
@[simp] theorem quitLane_eth0 (p : Plane) (s : State) : (quitLane p s).eth0 = s.eth0 := by
  unfold quitLane; dsimp only; repeat' split
  all_goals simp
@[simp] theorem quitLane_eth1 (p : Plane) (s : State) : (quitLane p s).eth1 = s.eth1 := by
  unfold quitLane; dsimp only; repeat' split
  all_goals simp
@[simp] theorem quitLane_replay (p : Plane) (s : State) : (quitLane p s).replay = s.replay := by
  unfold quitLane; dsimp only; repeat' split
  all_goals simp
@[simp] theorem quitLane_acq (p : Plane) (s : State) : (quitLane p s).acq = s.acq := by
  unfold quitLane; dsimp only; repeat' split
  all_goals simp
@[simp] theorem quitLane_ybus (p : Plane) (s : State) : (quitLane p s).ybus = s.ybus := by
  unfold quitLane; dsimp only; repeat' split
  all_goals simp
@[simp] theorem quitLane_sums (p : Plane) (s : State) : (quitLane p s).sums = s.sums := by
  unfold quitLane; dsimp only; repeat' split
  all_goals simp
@[simp] theorem quitLane_gfm (p : Plane) (s : State) : (quitLane p s).gfm = s.gfm := by
  unfold quitLane; dsimp only; repeat' split
  all_goals simp
@[simp] theorem quitLane_msd (p : Plane) (s : State) : (quitLane p s).msd = s.msd := by
  unfold quitLane; dsimp only; repeat' split
  all_goals simp
@[simp] theorem quitLane_red (p : Plane) (s : State) : (quitLane p s).red = s.red := by
  unfold quitLane; dsimp only; repeat' split
  all_goals simp
@[simp] theorem quitLane_fw (p : Plane) (s : State) : (quitLane p s).fw = s.fw := by
  unfold quitLane; dsimp only; repeat' split
  all_goals simp
@[simp] theorem quitLane_free (p : Plane) (s : State) : (quitLane p s).free = s.free := by
  unfold quitLane; dsimp only; repeat' split
  all_goals simp

@[simp] theorem lane_enterSub (b : SafeSub) (s : State) (q : Plane) : lane (enterSub b s) q = lane s q := lane_congr (by simp) q
@[simp] theorem par_enterSub (b : SafeSub) (s : State) (j : Nat) : par (enterSub b s) j = par s j := par_congr (by simp) j
@[simp] theorem lane_safePattern (p : Plane) (st : PState) (b : SafeSub) (s : State) (q : Plane) : lane (safePattern p st b s) q = lane s q := lane_congr (by simp) q
@[simp] theorem par_safePattern (p : Plane) (st : PState) (b : SafeSub) (s : State) (j : Nat) : par (safePattern p st b s) j = par s j := par_congr (by simp) j
@[simp] theorem lane_ascApply (b : SafeSub) (k : Nat) (s : State) (q : Plane) : lane (ascApply b k s) q = lane s q := lane_congr (by simp) q
@[simp] theorem par_ascApply (b : SafeSub) (k : Nat) (s : State) (j : Nat) : par (ascApply b k s) j = par s j := par_congr (by simp) j
@[simp] theorem lane_noteFallback (b : Bool) (s : State) (q : Plane) : lane (noteFallback b s) q = lane s q := lane_congr (by simp) q
@[simp] theorem lane_dropMc  (s : State) (q : Plane) : lane (dropMc s) q = lane s q := lane_congr (by simp) q
@[simp] theorem lane_cancelAll (l : List Nat) (c : Nat) (s : State) (q : Plane) : lane (cancelAll l c s) q = lane s q := lane_congr (by simp) q

theorem par_cancelAll (l : List Nat) (c : Nat) (s : State) {j : Nat} (h : j ≠ sysEvtLostCnt) : par (cancelAll l c s) j = par s j :=
  foldl_same (par · j) _ (fun s x => par_complete _ _ _ _ s h) l s

theorem par_noteFallback (b : Bool) (s : State) {j : Nat} (h : j ≠ sysEvtLostCnt) : par (noteFallback b s) j = par s j := by
  unfold noteFallback
  split <;> simp [par_raiseNum, h]

theorem par_dropMc (s : State) {j : Nat} (h : j ≠ protBrkCtrl) : par (dropMc s) j = par s j := by
  unfold dropMc
  split
  · exact par_setParBit_other _ _ _ h
  · rfl

theorem par_quitLane (p : Plane) (s : State) {j : Nat} (h : j ≠ sysEvtLostCnt) (h1 : j ≠ protBrkCtrl) (h2 : j ≠ gfmState) :
    par (quitLane p s) j = par s j := by
  unfold quitLane
  dsimp only
  repeat' split
  all_goals simp [par_cancelAll, par_leaveLaw _ _ h1 h2, h]

theorem lane_quitLane_other {p q : Plane} (s : State) (h : q ≠ p) : lane (quitLane p s) q = lane s q := by
  unfold quitLane
  dsimp only
  rw [lane_updLane_other _ _ h]
  repeat' split
  all_goals simp

theorem lane_quitLane_st (p : Plane) (s : State) : (lane (quitLane p s) p).st = (lane s p).st := by
  unfold quitLane
  dsimp only
  rw [lane_updLane_same]
  dsimp only
  repeat' split
  all_goals simp

theorem lane_quitLane_sub (p : Plane) (s : State) : (lane (quitLane p s) p).sub = (lane s p).sub := by
  unfold quitLane
  dsimp only
  rw [lane_updLane_same]
  dsimp only
  repeat' split
  all_goals simp

/-! ## Entries into SAFE -/

/-- The parameters an entry of a plane into SAFE cannot change: all but its cause and count, the sticky bits of the ports, the relays,
the count of lost events, the law's state and the registers of the plane's shadow. -/
abbrev OffSafe (p : Plane) (j : Nat) : Prop :=
  OffGate j ∧ j ≠ protSafeCause p.code ∧ j ≠ protSafeCnt p.code ∧ j ≠ protBrkCtrl ∧ j ≠ sysEvtLostCnt ∧ j ≠ gfmState ∧ OffShadow p j

theorem code_lt (p : Plane) : p.code < 4 := by cases p <;> decide

theorem code_inj {p q : Plane} (h : p ≠ q) : p.code ≠ q.code := by cases p <;> cases q <;> simp_all [Plane.code]

theorem par_enterSafe_other (p : Plane) (c : Nat) (m : Ports) (s : State) {j : Nat} (h : OffSafe p j) :
    par (enterSafe p c m s) j = par s j := by
  obtain ⟨h1, h2, h3, h4, h5, h6, h7⟩ := h
  simp only [enterSafe, par_dropMc _ h4, par_quitLane _ _ h5 h4 h6, par_settle _ _ _ h1, par_initMod_off _ _ h7, par_safePattern,
    par_enterState _ _ _ _ h5, par_noteFallback _ _ h5, par_updHost, par_count_other _ h3, par_setPar_other _ _ h2]

theorem par_enterSafe_cause (p : Plane) (c : Nat) (m : Ports) (s : State) (hc : c < 2 ^ 32) :
    par (enterSafe p c m s) (protSafeCause p.code) = c := by
  have hp := code_lt p
  have h1 : OffGate (protSafeCause p.code) := by unfold OffGate protSafeCause; omega
  have h3 : protSafeCause p.code ≠ protSafeCnt p.code := by unfold protSafeCause protSafeCnt; omega
  have h4 : protSafeCause p.code ≠ protBrkCtrl := by unfold protSafeCause protBrkCtrl; omega
  have h5 : protSafeCause p.code ≠ sysEvtLostCnt := by unfold protSafeCause sysEvtLostCnt; omega
  have h6 : protSafeCause p.code ≠ gfmState := by unfold protSafeCause gfmState; omega
  have h7 : OffShadow p (protSafeCause p.code) := by unfold OffShadow protSafeCause modPsPer modPsP; omega
  simp only [enterSafe, par_dropMc _ h4, par_quitLane _ _ h5 h4 h6, par_settle _ _ _ h1, par_initMod_off _ _ h7, par_safePattern,
    par_enterState _ _ _ _ h5, par_noteFallback _ _ h5, par_updHost, par_count_other _ h3, par_setPar_same]
  omega

theorem cancelAll_irq (l : List Nat) (c : Nat) (s : State) : (cancelAll l c s).host.irq = s.host.irq :=
  foldl_same (·.host.irq) _ (fun s x => by simp) l s

theorem quitLane_irq (p : Plane) (s : State) : (quitLane p s).host.irq = s.host.irq := by
  unfold quitLane
  dsimp only
  repeat' split
  all_goals simp [cancelAll_irq]

theorem noteFallback_irq (b : Bool) (s : State) : (noteFallback b s).host.irq = s.host.irq := by
  unfold noteFallback
  split <;> simp

/-- An entry into SAFE sets SAFE_ENTRY of HWIN_IRQ (R326). -/
theorem enterSafe_irq (p : Plane) (c : Nat) (m : Ports) (s : State) : (enterSafe p c m s).host.irq = s.host.irq ||| 4 := by
  simp [enterSafe, quitLane_irq, noteFallback_irq]

theorem enterSafe_st (p : Plane) (c : Nat) (m : Ports) (s : State) : (lane (enterSafe p c m s) p).st = .safe := by
  simp [enterSafe, lane_quitLane_st]

theorem enterSafe_sub (p : Plane) (c : Nat) (m : Ports) (s : State) : (lane (enterSafe p c m s) p).sub = (chooseSub p s).1 := by
  simp [enterSafe, lane_quitLane_sub]

theorem lane_enterSafe_other {p q : Plane} (c : Nat) (m : Ports) (s : State) (h : q ≠ p) :
    lane (enterSafe p c m s) q = lane s q := by
  simp [enterSafe, lane_quitLane_other _ h, lane_enterState_other _ _ _ h]

@[simp] theorem enterSafe_pending (p : Plane) (c : Nat) (m : Ports) (s : State) : (enterSafe p c m s).pending = s.pending := by simp [enterSafe]
@[simp] theorem enterSafe_pins (p : Plane) (c : Nat) (m : Ports) (s : State) : (enterSafe p c m s).pins = s.pins := by simp [enterSafe]
@[simp] theorem enterSafe_wait (p : Plane) (c : Nat) (m : Ports) (s : State) : (enterSafe p c m s).wait = s.wait := by simp [enterSafe]
@[simp] theorem enterSafe_stored (p : Plane) (c : Nat) (m : Ports) (s : State) : (enterSafe p c m s).stored = s.stored := by simp [enterSafe]
@[simp] theorem enterSafe_meas (p : Plane) (c : Nat) (m : Ports) (s : State) : (enterSafe p c m s).meas = s.meas := by simp [enterSafe]
@[simp] theorem enterSafe_meter (p : Plane) (c : Nat) (m : Ports) (s : State) : (enterSafe p c m s).meter = s.meter := by simp [enterSafe]
@[simp] theorem enterSafe_rgt (p : Plane) (c : Nat) (m : Ports) (s : State) : (enterSafe p c m s).rgt = s.rgt := by simp [enterSafe]
@[simp] theorem enterSafe_isl (p : Plane) (c : Nat) (m : Ports) (s : State) : (enterSafe p c m s).isl = s.isl := by simp [enterSafe]
@[simp] theorem enterSafe_txn (p : Plane) (c : Nat) (m : Ports) (s : State) : (enterSafe p c m s).txn = s.txn := by simp [enterSafe]
@[simp] theorem enterSafe_time (p : Plane) (c : Nat) (m : Ports) (s : State) : (enterSafe p c m s).time = s.time := by simp [enterSafe]
@[simp] theorem enterSafe_clk (p : Plane) (c : Nat) (m : Ports) (s : State) : (enterSafe p c m s).clk = s.clk := by simp [enterSafe]
@[simp] theorem enterSafe_eth0 (p : Plane) (c : Nat) (m : Ports) (s : State) : (enterSafe p c m s).eth0 = s.eth0 := by simp [enterSafe]
@[simp] theorem enterSafe_eth1 (p : Plane) (c : Nat) (m : Ports) (s : State) : (enterSafe p c m s).eth1 = s.eth1 := by simp [enterSafe]
@[simp] theorem enterSafe_replay (p : Plane) (c : Nat) (m : Ports) (s : State) : (enterSafe p c m s).replay = s.replay := by simp [enterSafe]
@[simp] theorem enterSafe_acq (p : Plane) (c : Nat) (m : Ports) (s : State) : (enterSafe p c m s).acq = s.acq := by simp [enterSafe]
@[simp] theorem enterSafe_ybus (p : Plane) (c : Nat) (m : Ports) (s : State) : (enterSafe p c m s).ybus = s.ybus := by simp [enterSafe]
@[simp] theorem enterSafe_sums (p : Plane) (c : Nat) (m : Ports) (s : State) : (enterSafe p c m s).sums = s.sums := by simp [enterSafe]
@[simp] theorem enterSafe_gfm (p : Plane) (c : Nat) (m : Ports) (s : State) : (enterSafe p c m s).gfm = s.gfm := by simp [enterSafe]
@[simp] theorem enterSafe_msd (p : Plane) (c : Nat) (m : Ports) (s : State) : (enterSafe p c m s).msd = s.msd := by simp [enterSafe]
@[simp] theorem enterSafe_red (p : Plane) (c : Nat) (m : Ports) (s : State) : (enterSafe p c m s).red = s.red := by simp [enterSafe]
@[simp] theorem enterSafe_fw (p : Plane) (c : Nat) (m : Ports) (s : State) : (enterSafe p c m s).fw = s.fw := by simp [enterSafe]
@[simp] theorem enterSafe_free (p : Plane) (c : Nat) (m : Ports) (s : State) : (enterSafe p c m s).free = s.free := by simp [enterSafe]

@[simp] theorem enterSafe_prt_permit (p : Plane) (c : Nat) (m : Ports) (s : State) : (enterSafe p c m s).prt.permit = s.prt.permit := by simp [enterSafe]
@[simp] theorem enterSafe_prt_kaHold (p : Plane) (c : Nat) (m : Ports) (s : State) : (enterSafe p c m s).prt.kaHold = s.prt.kaHold := by simp [enterSafe]
@[simp] theorem enterSafe_prt_supOn (p : Plane) (c : Nat) (m : Ports) (s : State) : (enterSafe p c m s).prt.supOn = s.prt.supOn := by simp [enterSafe]
@[simp] theorem enterSafe_prt_uvVcc (p : Plane) (c : Nat) (m : Ports) (s : State) : (enterSafe p c m s).prt.uvVcc = s.prt.uvVcc := by simp [enterSafe]
@[simp] theorem enterSafe_prt_faultH (p : Plane) (c : Nat) (m : Ports) (s : State) : (enterSafe p c m s).prt.faultH = s.prt.faultH := by simp [enterSafe]
@[simp] theorem enterSafe_prt_faultL (p : Plane) (c : Nat) (m : Ports) (s : State) : (enterSafe p c m s).prt.faultL = s.prt.faultL := by simp [enterSafe]
@[simp] theorem enterSafe_prt_stagger (p : Plane) (c : Nat) (m : Ports) (s : State) : (enterSafe p c m s).prt.stagger = s.prt.stagger := by simp [enterSafe]
@[simp] theorem enterSafe_prt_legOff (p : Plane) (c : Nat) (m : Ports) (s : State) : (enterSafe p c m s).prt.legOff = s.prt.legOff := by simp [enterSafe]
@[simp] theorem enterSafe_prt_forcedBlock (p : Plane) (c : Nat) (m : Ports) (s : State) : (enterSafe p c m s).prt.forcedBlock = s.prt.forcedBlock := by simp [enterSafe]
@[simp] theorem enterSafe_prt_forcedAsc (p : Plane) (c : Nat) (m : Ports) (s : State) : (enterSafe p c m s).prt.forcedAsc = s.prt.forcedAsc := by simp [enterSafe]
@[simp] theorem enterSafe_prt_overtemp (p : Plane) (c : Nat) (m : Ports) (s : State) : (enterSafe p c m s).prt.overtemp = s.prt.overtemp := by simp [enterSafe]
@[simp] theorem enterSafe_prt_supplyLoss (p : Plane) (c : Nat) (m : Ports) (s : State) : (enterSafe p c m s).prt.supplyLoss = s.prt.supplyLoss := by simp [enterSafe]
@[simp] theorem enterSafe_prt_mpLimit (p : Plane) (c : Nat) (m : Ports) (s : State) : (enterSafe p c m s).prt.mpLimit = s.prt.mpLimit := by simp [enterSafe]
@[simp] theorem enterSafe_prt_resetting (p : Plane) (c : Nat) (m : Ports) (s : State) : (enterSafe p c m s).prt.resetting = s.prt.resetting := by simp [enterSafe]
@[simp] theorem enterSafe_prt_holdUp (p : Plane) (c : Nat) (m : Ports) (s : State) : (enterSafe p c m s).prt.holdUp = s.prt.holdUp := by simp [enterSafe]

@[simp] theorem rechoose_pending  (s : State) : (rechoose s).pending = s.pending := by
  unfold rechoose; dsimp only; repeat' split
  all_goals simp
@[simp] theorem rechoose_pins  (s : State) : (rechoose s).pins = s.pins := by
  unfold rechoose; dsimp only; repeat' split
  all_goals simp
@[simp] theorem rechoose_wait  (s : State) : (rechoose s).wait = s.wait := by
  unfold rechoose; dsimp only; repeat' split
  all_goals simp
@[simp] theorem rechoose_stored  (s : State) : (rechoose s).stored = s.stored := by
  unfold rechoose; dsimp only; repeat' split
  all_goals simp
@[simp] theorem rechoose_meas  (s : State) : (rechoose s).meas = s.meas := by
  unfold rechoose; dsimp only; repeat' split
  all_goals simp
@[simp] theorem rechoose_meter  (s : State) : (rechoose s).meter = s.meter := by
  unfold rechoose; dsimp only; repeat' split
  all_goals simp
@[simp] theorem rechoose_rgt  (s : State) : (rechoose s).rgt = s.rgt := by
  unfold rechoose; dsimp only; repeat' split
  all_goals simp
@[simp] theorem rechoose_isl  (s : State) : (rechoose s).isl = s.isl := by
  unfold rechoose; dsimp only; repeat' split
  all_goals simp
@[simp] theorem rechoose_txn  (s : State) : (rechoose s).txn = s.txn := by
  unfold rechoose; dsimp only; repeat' split
  all_goals simp
@[simp] theorem rechoose_time  (s : State) : (rechoose s).time = s.time := by
  unfold rechoose; dsimp only; repeat' split
  all_goals simp
@[simp] theorem rechoose_clk  (s : State) : (rechoose s).clk = s.clk := by
  unfold rechoose; dsimp only; repeat' split
  all_goals simp
@[simp] theorem rechoose_eth0  (s : State) : (rechoose s).eth0 = s.eth0 := by
  unfold rechoose; dsimp only; repeat' split
  all_goals simp
@[simp] theorem rechoose_eth1  (s : State) : (rechoose s).eth1 = s.eth1 := by
  unfold rechoose; dsimp only; repeat' split
  all_goals simp
@[simp] theorem rechoose_replay  (s : State) : (rechoose s).replay = s.replay := by
  unfold rechoose; dsimp only; repeat' split
  all_goals simp
@[simp] theorem rechoose_acq  (s : State) : (rechoose s).acq = s.acq := by
  unfold rechoose; dsimp only; repeat' split
  all_goals simp
@[simp] theorem rechoose_ybus  (s : State) : (rechoose s).ybus = s.ybus := by
  unfold rechoose; dsimp only; repeat' split
  all_goals simp
@[simp] theorem rechoose_sums  (s : State) : (rechoose s).sums = s.sums := by
  unfold rechoose; dsimp only; repeat' split
  all_goals simp
@[simp] theorem rechoose_gfm  (s : State) : (rechoose s).gfm = s.gfm := by
  unfold rechoose; dsimp only; repeat' split
  all_goals simp
@[simp] theorem rechoose_msd  (s : State) : (rechoose s).msd = s.msd := by
  unfold rechoose; dsimp only; repeat' split
  all_goals simp
@[simp] theorem rechoose_red  (s : State) : (rechoose s).red = s.red := by
  unfold rechoose; dsimp only; repeat' split
  all_goals simp
@[simp] theorem rechoose_fw  (s : State) : (rechoose s).fw = s.fw := by
  unfold rechoose; dsimp only; repeat' split
  all_goals simp
@[simp] theorem rechoose_free  (s : State) : (rechoose s).free = s.free := by
  unfold rechoose; dsimp only; repeat' split
  all_goals simp

@[simp] theorem rechoose_prt_permit  (s : State) : (rechoose s).prt.permit = s.prt.permit := by
  unfold rechoose; dsimp only; repeat' split
  all_goals simp
@[simp] theorem rechoose_prt_kaHold  (s : State) : (rechoose s).prt.kaHold = s.prt.kaHold := by
  unfold rechoose; dsimp only; repeat' split
  all_goals simp
@[simp] theorem rechoose_prt_supOn  (s : State) : (rechoose s).prt.supOn = s.prt.supOn := by
  unfold rechoose; dsimp only; repeat' split
  all_goals simp
@[simp] theorem rechoose_prt_uvVcc  (s : State) : (rechoose s).prt.uvVcc = s.prt.uvVcc := by
  unfold rechoose; dsimp only; repeat' split
  all_goals simp
@[simp] theorem rechoose_prt_faultH  (s : State) : (rechoose s).prt.faultH = s.prt.faultH := by
  unfold rechoose; dsimp only; repeat' split
  all_goals simp
@[simp] theorem rechoose_prt_faultL  (s : State) : (rechoose s).prt.faultL = s.prt.faultL := by
  unfold rechoose; dsimp only; repeat' split
  all_goals simp
@[simp] theorem rechoose_prt_stagger  (s : State) : (rechoose s).prt.stagger = s.prt.stagger := by
  unfold rechoose; dsimp only; repeat' split
  all_goals simp
@[simp] theorem rechoose_prt_legOff  (s : State) : (rechoose s).prt.legOff = s.prt.legOff := by
  unfold rechoose; dsimp only; repeat' split
  all_goals simp
@[simp] theorem rechoose_prt_forcedBlock  (s : State) : (rechoose s).prt.forcedBlock = s.prt.forcedBlock := by
  unfold rechoose; dsimp only; repeat' split
  all_goals simp
@[simp] theorem rechoose_prt_forcedAsc  (s : State) : (rechoose s).prt.forcedAsc = s.prt.forcedAsc := by
  unfold rechoose; dsimp only; repeat' split
  all_goals simp
@[simp] theorem rechoose_prt_overtemp  (s : State) : (rechoose s).prt.overtemp = s.prt.overtemp := by
  unfold rechoose; dsimp only; repeat' split
  all_goals simp
@[simp] theorem rechoose_prt_supplyLoss  (s : State) : (rechoose s).prt.supplyLoss = s.prt.supplyLoss := by
  unfold rechoose; dsimp only; repeat' split
  all_goals simp
@[simp] theorem rechoose_prt_mpLimit  (s : State) : (rechoose s).prt.mpLimit = s.prt.mpLimit := by
  unfold rechoose; dsimp only; repeat' split
  all_goals simp
@[simp] theorem rechoose_prt_resetting  (s : State) : (rechoose s).prt.resetting = s.prt.resetting := by
  unfold rechoose; dsimp only; repeat' split
  all_goals simp
@[simp] theorem rechoose_prt_holdUp  (s : State) : (rechoose s).prt.holdUp = s.prt.holdUp := by
  unfold rechoose; dsimp only; repeat' split
  all_goals simp

@[simp] theorem causeAt_pending (p : Plane) (c : Nat) (m : Ports) (s : State) : (causeAt p c m s).pending = s.pending := by
  unfold causeAt; repeat' split
  all_goals simp
@[simp] theorem causeAt_pins (p : Plane) (c : Nat) (m : Ports) (s : State) : (causeAt p c m s).pins = s.pins := by
  unfold causeAt; repeat' split
  all_goals simp
@[simp] theorem causeAt_wait (p : Plane) (c : Nat) (m : Ports) (s : State) : (causeAt p c m s).wait = s.wait := by
  unfold causeAt; repeat' split
  all_goals simp
@[simp] theorem causeAt_stored (p : Plane) (c : Nat) (m : Ports) (s : State) : (causeAt p c m s).stored = s.stored := by
  unfold causeAt; repeat' split
  all_goals simp
@[simp] theorem causeAt_meas (p : Plane) (c : Nat) (m : Ports) (s : State) : (causeAt p c m s).meas = s.meas := by
  unfold causeAt; repeat' split
  all_goals simp
@[simp] theorem causeAt_meter (p : Plane) (c : Nat) (m : Ports) (s : State) : (causeAt p c m s).meter = s.meter := by
  unfold causeAt; repeat' split
  all_goals simp
@[simp] theorem causeAt_rgt (p : Plane) (c : Nat) (m : Ports) (s : State) : (causeAt p c m s).rgt = s.rgt := by
  unfold causeAt; repeat' split
  all_goals simp
@[simp] theorem causeAt_isl (p : Plane) (c : Nat) (m : Ports) (s : State) : (causeAt p c m s).isl = s.isl := by
  unfold causeAt; repeat' split
  all_goals simp
@[simp] theorem causeAt_txn (p : Plane) (c : Nat) (m : Ports) (s : State) : (causeAt p c m s).txn = s.txn := by
  unfold causeAt; repeat' split
  all_goals simp
@[simp] theorem causeAt_time (p : Plane) (c : Nat) (m : Ports) (s : State) : (causeAt p c m s).time = s.time := by
  unfold causeAt; repeat' split
  all_goals simp
@[simp] theorem causeAt_clk (p : Plane) (c : Nat) (m : Ports) (s : State) : (causeAt p c m s).clk = s.clk := by
  unfold causeAt; repeat' split
  all_goals simp
@[simp] theorem causeAt_eth0 (p : Plane) (c : Nat) (m : Ports) (s : State) : (causeAt p c m s).eth0 = s.eth0 := by
  unfold causeAt; repeat' split
  all_goals simp
@[simp] theorem causeAt_eth1 (p : Plane) (c : Nat) (m : Ports) (s : State) : (causeAt p c m s).eth1 = s.eth1 := by
  unfold causeAt; repeat' split
  all_goals simp
@[simp] theorem causeAt_replay (p : Plane) (c : Nat) (m : Ports) (s : State) : (causeAt p c m s).replay = s.replay := by
  unfold causeAt; repeat' split
  all_goals simp
@[simp] theorem causeAt_acq (p : Plane) (c : Nat) (m : Ports) (s : State) : (causeAt p c m s).acq = s.acq := by
  unfold causeAt; repeat' split
  all_goals simp
@[simp] theorem causeAt_ybus (p : Plane) (c : Nat) (m : Ports) (s : State) : (causeAt p c m s).ybus = s.ybus := by
  unfold causeAt; repeat' split
  all_goals simp
@[simp] theorem causeAt_sums (p : Plane) (c : Nat) (m : Ports) (s : State) : (causeAt p c m s).sums = s.sums := by
  unfold causeAt; repeat' split
  all_goals simp
@[simp] theorem causeAt_gfm (p : Plane) (c : Nat) (m : Ports) (s : State) : (causeAt p c m s).gfm = s.gfm := by
  unfold causeAt; repeat' split
  all_goals simp
@[simp] theorem causeAt_msd (p : Plane) (c : Nat) (m : Ports) (s : State) : (causeAt p c m s).msd = s.msd := by
  unfold causeAt; repeat' split
  all_goals simp
@[simp] theorem causeAt_red (p : Plane) (c : Nat) (m : Ports) (s : State) : (causeAt p c m s).red = s.red := by
  unfold causeAt; repeat' split
  all_goals simp
@[simp] theorem causeAt_fw (p : Plane) (c : Nat) (m : Ports) (s : State) : (causeAt p c m s).fw = s.fw := by
  unfold causeAt; repeat' split
  all_goals simp
@[simp] theorem causeAt_free (p : Plane) (c : Nat) (m : Ports) (s : State) : (causeAt p c m s).free = s.free := by
  unfold causeAt; repeat' split
  all_goals simp

@[simp] theorem causeAt_prt_permit (p : Plane) (c : Nat) (m : Ports) (s : State) : (causeAt p c m s).prt.permit = s.prt.permit := by
  unfold causeAt; repeat' split
  all_goals simp
@[simp] theorem causeAt_prt_kaHold (p : Plane) (c : Nat) (m : Ports) (s : State) : (causeAt p c m s).prt.kaHold = s.prt.kaHold := by
  unfold causeAt; repeat' split
  all_goals simp
@[simp] theorem causeAt_prt_supOn (p : Plane) (c : Nat) (m : Ports) (s : State) : (causeAt p c m s).prt.supOn = s.prt.supOn := by
  unfold causeAt; repeat' split
  all_goals simp
@[simp] theorem causeAt_prt_uvVcc (p : Plane) (c : Nat) (m : Ports) (s : State) : (causeAt p c m s).prt.uvVcc = s.prt.uvVcc := by
  unfold causeAt; repeat' split
  all_goals simp
@[simp] theorem causeAt_prt_faultH (p : Plane) (c : Nat) (m : Ports) (s : State) : (causeAt p c m s).prt.faultH = s.prt.faultH := by
  unfold causeAt; repeat' split
  all_goals simp
@[simp] theorem causeAt_prt_faultL (p : Plane) (c : Nat) (m : Ports) (s : State) : (causeAt p c m s).prt.faultL = s.prt.faultL := by
  unfold causeAt; repeat' split
  all_goals simp
@[simp] theorem causeAt_prt_stagger (p : Plane) (c : Nat) (m : Ports) (s : State) : (causeAt p c m s).prt.stagger = s.prt.stagger := by
  unfold causeAt; repeat' split
  all_goals simp
@[simp] theorem causeAt_prt_legOff (p : Plane) (c : Nat) (m : Ports) (s : State) : (causeAt p c m s).prt.legOff = s.prt.legOff := by
  unfold causeAt; repeat' split
  all_goals simp
@[simp] theorem causeAt_prt_forcedBlock (p : Plane) (c : Nat) (m : Ports) (s : State) : (causeAt p c m s).prt.forcedBlock = s.prt.forcedBlock := by
  unfold causeAt; repeat' split
  all_goals simp
@[simp] theorem causeAt_prt_forcedAsc (p : Plane) (c : Nat) (m : Ports) (s : State) : (causeAt p c m s).prt.forcedAsc = s.prt.forcedAsc := by
  unfold causeAt; repeat' split
  all_goals simp
@[simp] theorem causeAt_prt_overtemp (p : Plane) (c : Nat) (m : Ports) (s : State) : (causeAt p c m s).prt.overtemp = s.prt.overtemp := by
  unfold causeAt; repeat' split
  all_goals simp
@[simp] theorem causeAt_prt_supplyLoss (p : Plane) (c : Nat) (m : Ports) (s : State) : (causeAt p c m s).prt.supplyLoss = s.prt.supplyLoss := by
  unfold causeAt; repeat' split
  all_goals simp
@[simp] theorem causeAt_prt_mpLimit (p : Plane) (c : Nat) (m : Ports) (s : State) : (causeAt p c m s).prt.mpLimit = s.prt.mpLimit := by
  unfold causeAt; repeat' split
  all_goals simp
@[simp] theorem causeAt_prt_resetting (p : Plane) (c : Nat) (m : Ports) (s : State) : (causeAt p c m s).prt.resetting = s.prt.resetting := by
  unfold causeAt; repeat' split
  all_goals simp
@[simp] theorem causeAt_prt_holdUp (p : Plane) (c : Nat) (m : Ports) (s : State) : (causeAt p c m s).prt.holdUp = s.prt.holdUp := by
  unfold causeAt; repeat' split
  all_goals simp

@[simp] theorem causeEach_pending (l : List Plane) (c : Nat) (m : Ports) (s : State) : (causeEach l c m s).pending = s.pending := by exact foldl_same (·.pending) _ (fun s p => by simp) _ _
@[simp] theorem causeEach_pins (l : List Plane) (c : Nat) (m : Ports) (s : State) : (causeEach l c m s).pins = s.pins := by exact foldl_same (·.pins) _ (fun s p => by simp) _ _
@[simp] theorem causeEach_wait (l : List Plane) (c : Nat) (m : Ports) (s : State) : (causeEach l c m s).wait = s.wait := by exact foldl_same (·.wait) _ (fun s p => by simp) _ _
@[simp] theorem causeEach_stored (l : List Plane) (c : Nat) (m : Ports) (s : State) : (causeEach l c m s).stored = s.stored := by exact foldl_same (·.stored) _ (fun s p => by simp) _ _
@[simp] theorem causeEach_meas (l : List Plane) (c : Nat) (m : Ports) (s : State) : (causeEach l c m s).meas = s.meas := by exact foldl_same (·.meas) _ (fun s p => by simp) _ _
@[simp] theorem causeEach_meter (l : List Plane) (c : Nat) (m : Ports) (s : State) : (causeEach l c m s).meter = s.meter := by exact foldl_same (·.meter) _ (fun s p => by simp) _ _
@[simp] theorem causeEach_rgt (l : List Plane) (c : Nat) (m : Ports) (s : State) : (causeEach l c m s).rgt = s.rgt := by exact foldl_same (·.rgt) _ (fun s p => by simp) _ _
@[simp] theorem causeEach_isl (l : List Plane) (c : Nat) (m : Ports) (s : State) : (causeEach l c m s).isl = s.isl := by exact foldl_same (·.isl) _ (fun s p => by simp) _ _
@[simp] theorem causeEach_txn (l : List Plane) (c : Nat) (m : Ports) (s : State) : (causeEach l c m s).txn = s.txn := by exact foldl_same (·.txn) _ (fun s p => by simp) _ _
@[simp] theorem causeEach_time (l : List Plane) (c : Nat) (m : Ports) (s : State) : (causeEach l c m s).time = s.time := by exact foldl_same (·.time) _ (fun s p => by simp) _ _
@[simp] theorem causeEach_clk (l : List Plane) (c : Nat) (m : Ports) (s : State) : (causeEach l c m s).clk = s.clk := by exact foldl_same (·.clk) _ (fun s p => by simp) _ _
@[simp] theorem causeEach_eth0 (l : List Plane) (c : Nat) (m : Ports) (s : State) : (causeEach l c m s).eth0 = s.eth0 := by exact foldl_same (·.eth0) _ (fun s p => by simp) _ _
@[simp] theorem causeEach_eth1 (l : List Plane) (c : Nat) (m : Ports) (s : State) : (causeEach l c m s).eth1 = s.eth1 := by exact foldl_same (·.eth1) _ (fun s p => by simp) _ _
@[simp] theorem causeEach_replay (l : List Plane) (c : Nat) (m : Ports) (s : State) : (causeEach l c m s).replay = s.replay := by exact foldl_same (·.replay) _ (fun s p => by simp) _ _
@[simp] theorem causeEach_acq (l : List Plane) (c : Nat) (m : Ports) (s : State) : (causeEach l c m s).acq = s.acq := by exact foldl_same (·.acq) _ (fun s p => by simp) _ _
@[simp] theorem causeEach_ybus (l : List Plane) (c : Nat) (m : Ports) (s : State) : (causeEach l c m s).ybus = s.ybus := by exact foldl_same (·.ybus) _ (fun s p => by simp) _ _
@[simp] theorem causeEach_sums (l : List Plane) (c : Nat) (m : Ports) (s : State) : (causeEach l c m s).sums = s.sums := by exact foldl_same (·.sums) _ (fun s p => by simp) _ _
@[simp] theorem causeEach_gfm (l : List Plane) (c : Nat) (m : Ports) (s : State) : (causeEach l c m s).gfm = s.gfm := by exact foldl_same (·.gfm) _ (fun s p => by simp) _ _
@[simp] theorem causeEach_msd (l : List Plane) (c : Nat) (m : Ports) (s : State) : (causeEach l c m s).msd = s.msd := by exact foldl_same (·.msd) _ (fun s p => by simp) _ _
@[simp] theorem causeEach_red (l : List Plane) (c : Nat) (m : Ports) (s : State) : (causeEach l c m s).red = s.red := by exact foldl_same (·.red) _ (fun s p => by simp) _ _
@[simp] theorem causeEach_fw (l : List Plane) (c : Nat) (m : Ports) (s : State) : (causeEach l c m s).fw = s.fw := by exact foldl_same (·.fw) _ (fun s p => by simp) _ _
@[simp] theorem causeEach_free (l : List Plane) (c : Nat) (m : Ports) (s : State) : (causeEach l c m s).free = s.free := by exact foldl_same (·.free) _ (fun s p => by simp) _ _

@[simp] theorem causeEach_prt_permit (l : List Plane) (c : Nat) (m : Ports) (s : State) : (causeEach l c m s).prt.permit = s.prt.permit := by exact foldl_same (·.prt.permit) _ (fun s p => by simp) _ _
@[simp] theorem causeEach_prt_kaHold (l : List Plane) (c : Nat) (m : Ports) (s : State) : (causeEach l c m s).prt.kaHold = s.prt.kaHold := by exact foldl_same (·.prt.kaHold) _ (fun s p => by simp) _ _
@[simp] theorem causeEach_prt_supOn (l : List Plane) (c : Nat) (m : Ports) (s : State) : (causeEach l c m s).prt.supOn = s.prt.supOn := by exact foldl_same (·.prt.supOn) _ (fun s p => by simp) _ _
@[simp] theorem causeEach_prt_uvVcc (l : List Plane) (c : Nat) (m : Ports) (s : State) : (causeEach l c m s).prt.uvVcc = s.prt.uvVcc := by exact foldl_same (·.prt.uvVcc) _ (fun s p => by simp) _ _
@[simp] theorem causeEach_prt_faultH (l : List Plane) (c : Nat) (m : Ports) (s : State) : (causeEach l c m s).prt.faultH = s.prt.faultH := by exact foldl_same (·.prt.faultH) _ (fun s p => by simp) _ _
@[simp] theorem causeEach_prt_faultL (l : List Plane) (c : Nat) (m : Ports) (s : State) : (causeEach l c m s).prt.faultL = s.prt.faultL := by exact foldl_same (·.prt.faultL) _ (fun s p => by simp) _ _
@[simp] theorem causeEach_prt_stagger (l : List Plane) (c : Nat) (m : Ports) (s : State) : (causeEach l c m s).prt.stagger = s.prt.stagger := by exact foldl_same (·.prt.stagger) _ (fun s p => by simp) _ _
@[simp] theorem causeEach_prt_legOff (l : List Plane) (c : Nat) (m : Ports) (s : State) : (causeEach l c m s).prt.legOff = s.prt.legOff := by exact foldl_same (·.prt.legOff) _ (fun s p => by simp) _ _
@[simp] theorem causeEach_prt_forcedBlock (l : List Plane) (c : Nat) (m : Ports) (s : State) : (causeEach l c m s).prt.forcedBlock = s.prt.forcedBlock := by exact foldl_same (·.prt.forcedBlock) _ (fun s p => by simp) _ _
@[simp] theorem causeEach_prt_forcedAsc (l : List Plane) (c : Nat) (m : Ports) (s : State) : (causeEach l c m s).prt.forcedAsc = s.prt.forcedAsc := by exact foldl_same (·.prt.forcedAsc) _ (fun s p => by simp) _ _
@[simp] theorem causeEach_prt_overtemp (l : List Plane) (c : Nat) (m : Ports) (s : State) : (causeEach l c m s).prt.overtemp = s.prt.overtemp := by exact foldl_same (·.prt.overtemp) _ (fun s p => by simp) _ _
@[simp] theorem causeEach_prt_supplyLoss (l : List Plane) (c : Nat) (m : Ports) (s : State) : (causeEach l c m s).prt.supplyLoss = s.prt.supplyLoss := by exact foldl_same (·.prt.supplyLoss) _ (fun s p => by simp) _ _
@[simp] theorem causeEach_prt_mpLimit (l : List Plane) (c : Nat) (m : Ports) (s : State) : (causeEach l c m s).prt.mpLimit = s.prt.mpLimit := by exact foldl_same (·.prt.mpLimit) _ (fun s p => by simp) _ _
@[simp] theorem causeEach_prt_resetting (l : List Plane) (c : Nat) (m : Ports) (s : State) : (causeEach l c m s).prt.resetting = s.prt.resetting := by exact foldl_same (·.prt.resetting) _ (fun s p => by simp) _ _
@[simp] theorem causeEach_prt_holdUp (l : List Plane) (c : Nat) (m : Ports) (s : State) : (causeEach l c m s).prt.holdUp = s.prt.holdUp := by exact foldl_same (·.prt.holdUp) _ (fun s p => by simp) _ _

@[simp] theorem causeEvery_pending (c : Nat) (m : Ports) (s : State) : (causeEvery c m s).pending = s.pending := by simp [causeEvery]
@[simp] theorem causeEvery_pins (c : Nat) (m : Ports) (s : State) : (causeEvery c m s).pins = s.pins := by simp [causeEvery]
@[simp] theorem causeEvery_wait (c : Nat) (m : Ports) (s : State) : (causeEvery c m s).wait = s.wait := by simp [causeEvery]
@[simp] theorem causeEvery_stored (c : Nat) (m : Ports) (s : State) : (causeEvery c m s).stored = s.stored := by simp [causeEvery]
@[simp] theorem causeEvery_meas (c : Nat) (m : Ports) (s : State) : (causeEvery c m s).meas = s.meas := by simp [causeEvery]
@[simp] theorem causeEvery_meter (c : Nat) (m : Ports) (s : State) : (causeEvery c m s).meter = s.meter := by simp [causeEvery]
@[simp] theorem causeEvery_rgt (c : Nat) (m : Ports) (s : State) : (causeEvery c m s).rgt = s.rgt := by simp [causeEvery]
@[simp] theorem causeEvery_isl (c : Nat) (m : Ports) (s : State) : (causeEvery c m s).isl = s.isl := by simp [causeEvery]
@[simp] theorem causeEvery_txn (c : Nat) (m : Ports) (s : State) : (causeEvery c m s).txn = s.txn := by simp [causeEvery]
@[simp] theorem causeEvery_time (c : Nat) (m : Ports) (s : State) : (causeEvery c m s).time = s.time := by simp [causeEvery]
@[simp] theorem causeEvery_clk (c : Nat) (m : Ports) (s : State) : (causeEvery c m s).clk = s.clk := by simp [causeEvery]
@[simp] theorem causeEvery_eth0 (c : Nat) (m : Ports) (s : State) : (causeEvery c m s).eth0 = s.eth0 := by simp [causeEvery]
@[simp] theorem causeEvery_eth1 (c : Nat) (m : Ports) (s : State) : (causeEvery c m s).eth1 = s.eth1 := by simp [causeEvery]
@[simp] theorem causeEvery_replay (c : Nat) (m : Ports) (s : State) : (causeEvery c m s).replay = s.replay := by simp [causeEvery]
@[simp] theorem causeEvery_acq (c : Nat) (m : Ports) (s : State) : (causeEvery c m s).acq = s.acq := by simp [causeEvery]
@[simp] theorem causeEvery_ybus (c : Nat) (m : Ports) (s : State) : (causeEvery c m s).ybus = s.ybus := by simp [causeEvery]
@[simp] theorem causeEvery_sums (c : Nat) (m : Ports) (s : State) : (causeEvery c m s).sums = s.sums := by simp [causeEvery]
@[simp] theorem causeEvery_gfm (c : Nat) (m : Ports) (s : State) : (causeEvery c m s).gfm = s.gfm := by simp [causeEvery]
@[simp] theorem causeEvery_msd (c : Nat) (m : Ports) (s : State) : (causeEvery c m s).msd = s.msd := by simp [causeEvery]
@[simp] theorem causeEvery_red (c : Nat) (m : Ports) (s : State) : (causeEvery c m s).red = s.red := by simp [causeEvery]
@[simp] theorem causeEvery_fw (c : Nat) (m : Ports) (s : State) : (causeEvery c m s).fw = s.fw := by simp [causeEvery]
@[simp] theorem causeEvery_free (c : Nat) (m : Ports) (s : State) : (causeEvery c m s).free = s.free := by simp [causeEvery]

@[simp] theorem causeEvery_prt_permit (c : Nat) (m : Ports) (s : State) : (causeEvery c m s).prt.permit = s.prt.permit := by simp [causeEvery]
@[simp] theorem causeEvery_prt_kaHold (c : Nat) (m : Ports) (s : State) : (causeEvery c m s).prt.kaHold = s.prt.kaHold := by simp [causeEvery]
@[simp] theorem causeEvery_prt_supOn (c : Nat) (m : Ports) (s : State) : (causeEvery c m s).prt.supOn = s.prt.supOn := by simp [causeEvery]
@[simp] theorem causeEvery_prt_uvVcc (c : Nat) (m : Ports) (s : State) : (causeEvery c m s).prt.uvVcc = s.prt.uvVcc := by simp [causeEvery]
@[simp] theorem causeEvery_prt_faultH (c : Nat) (m : Ports) (s : State) : (causeEvery c m s).prt.faultH = s.prt.faultH := by simp [causeEvery]
@[simp] theorem causeEvery_prt_faultL (c : Nat) (m : Ports) (s : State) : (causeEvery c m s).prt.faultL = s.prt.faultL := by simp [causeEvery]
@[simp] theorem causeEvery_prt_stagger (c : Nat) (m : Ports) (s : State) : (causeEvery c m s).prt.stagger = s.prt.stagger := by simp [causeEvery]
@[simp] theorem causeEvery_prt_legOff (c : Nat) (m : Ports) (s : State) : (causeEvery c m s).prt.legOff = s.prt.legOff := by simp [causeEvery]
@[simp] theorem causeEvery_prt_forcedBlock (c : Nat) (m : Ports) (s : State) : (causeEvery c m s).prt.forcedBlock = s.prt.forcedBlock := by simp [causeEvery]
@[simp] theorem causeEvery_prt_forcedAsc (c : Nat) (m : Ports) (s : State) : (causeEvery c m s).prt.forcedAsc = s.prt.forcedAsc := by simp [causeEvery]
@[simp] theorem causeEvery_prt_overtemp (c : Nat) (m : Ports) (s : State) : (causeEvery c m s).prt.overtemp = s.prt.overtemp := by simp [causeEvery]
@[simp] theorem causeEvery_prt_supplyLoss (c : Nat) (m : Ports) (s : State) : (causeEvery c m s).prt.supplyLoss = s.prt.supplyLoss := by simp [causeEvery]
@[simp] theorem causeEvery_prt_mpLimit (c : Nat) (m : Ports) (s : State) : (causeEvery c m s).prt.mpLimit = s.prt.mpLimit := by simp [causeEvery]
@[simp] theorem causeEvery_prt_resetting (c : Nat) (m : Ports) (s : State) : (causeEvery c m s).prt.resetting = s.prt.resetting := by simp [causeEvery]
@[simp] theorem causeEvery_prt_holdUp (c : Nat) (m : Ports) (s : State) : (causeEvery c m s).prt.holdUp = s.prt.holdUp := by simp [causeEvery]

theorem par_rechoose (s : State) {j : Nat} (h1 : OffGate j) (h2 : j ≠ protBrkCtrl) (h3 : j ≠ sysEvtLostCnt) :
    par (rechoose s) j = par s j := by
  unfold rechoose
  dsimp only
  repeat' split
  all_goals simp [par_dropMc _ h2, par_settle _ _ _ h1, par_enterState _ _ _ _ h3, par_noteFallback _ _ h3]

theorem lane_rechoose_other {q : Plane} (s : State) (h : q ≠ .m) : lane (rechoose s) q = lane s q := by
  unfold rechoose
  dsimp only
  repeat' split
  all_goals simp [lane_enterState_other _ _ _ h]

theorem rechoose_st (s : State) (q : Plane) : (lane (rechoose s) q).st = (lane s q).st := by
  by_cases hq : q = .m
  · subst hq
    unfold rechoose
    dsimp only
    repeat' split
    all_goals simp_all
  · rw [lane_rechoose_other s hq]

theorem lane_causeAt_other {p q : Plane} (c : Nat) (m : Ports) (s : State) (h : q ≠ p) :
    lane (causeAt p c m s) q = lane s q := by
  unfold causeAt
  split
  · rfl
  · split
    any_goals exact lane_enterSafe_other c m s h
    · split
      · rename_i hp
        exact lane_rechoose_other s (hp ▸ h)
      · rfl
    · rfl

theorem par_causeAt_other (p : Plane) (c : Nat) (m : Ports) (s : State) {j : Nat} (h : OffSafe p j) :
    par (causeAt p c m s) j = par s j := by
  unfold causeAt
  split
  · rfl
  · split
    any_goals exact par_enterSafe_other p c m s h
    · split
      · exact par_rechoose s h.1 h.2.2.2.1 h.2.2.2.2.1
      · rfl
    · rfl

theorem causeAt_active {p : Plane} (c : Nat) (m : Ports) {s : State} (hp : s.isl.prt = true) (ha : activeSt (lane s p).st = true) :
    causeAt p c m s = enterSafe p c m s := by
  unfold causeAt
  rw [if_neg (by simp [hp])]
  split <;> simp_all [activeSt]

/-- A cause takes a plane that is READY, RUNNING or TEST to SAFE and is its code there (R179). -/
theorem causeAt_safe {p : Plane} {c : Nat} (m : Ports) {s : State} (hc : c < 2 ^ 32) (hp : s.isl.prt = true)
    (ha : activeSt (lane s p).st = true) :
    (lane (causeAt p c m s) p).st = .safe ∧ par (causeAt p c m s) (protSafeCause p.code) = c := by
  rw [causeAt_active c m hp ha]
  exact ⟨enterSafe_st p c m s, par_enterSafe_cause p c m s hc⟩

/-- A plane in SAFE stays there, with its cause. -/
theorem causeAt_stays {p : Plane} (c : Nat) (m : Ports) {s : State} (h : (lane s p).st = .safe) :
    (lane (causeAt p c m s) p).st = .safe ∧ par (causeAt p c m s) (protSafeCause p.code) = par s (protSafeCause p.code) := by
  have hp := code_lt p
  unfold causeAt
  split
  · exact ⟨h, rfl⟩
  · rw [h]
    dsimp only
    split
    · refine ⟨by rw [rechoose_st, h], par_rechoose s ?_ ?_ ?_⟩
      · unfold OffGate protSafeCause; omega
      · unfold protSafeCause protBrkCtrl; omega
      · unfold protSafeCause sysEvtLostCnt; omega
    · exact ⟨h, rfl⟩

/-- A cause leaves OFF and STOPPED planes as they are. -/
theorem causeAt_unpowered {p : Plane} (c : Nat) (m : Ports) {s : State} (h : poweredSt (lane s p).st = false) :
    causeAt p c m s = s := by
  unfold causeAt
  split
  · rfl
  · split <;> simp_all [poweredSt]

theorem causeEach_keeps {p : Plane} (c : Nat) (m : Ports) (l : List Plane) (s : State) (hs : (lane s p).st = .safe)
    (hl : ∀ q ∈ l, q ≠ p) : lane (causeEach l c m s) p = lane s p ∧
      par (causeEach l c m s) (protSafeCause p.code) = par s (protSafeCause p.code) := by
  have hp := code_lt p
  induction l generalizing s with
  | nil => exact ⟨rfl, rfl⟩
  | cons q t ih =>
    have hq : p ≠ q := fun e => hl q List.mem_cons_self e.symm
    have h1 := lane_causeAt_other c m s hq
    have hqc := code_lt q
    have hne := code_inj hq
    have h2 : par (causeAt q c m s) (protSafeCause p.code) = par s (protSafeCause p.code) := by
      refine par_causeAt_other q c m s ⟨?_, ?_, ?_, ?_, ?_, ?_, ?_⟩
      · unfold OffGate protSafeCause; omega
      · unfold protSafeCause; omega
      · unfold protSafeCause protSafeCnt; omega
      · unfold protSafeCause protBrkCtrl; omega
      · unfold protSafeCause sysEvtLostCnt; omega
      · unfold protSafeCause gfmState; omega
      · unfold OffShadow protSafeCause modPsPer modPsP; omega
    have h3 := ih (causeAt q c m s) (by rw [h1]; exact hs) fun x hx => hl x (List.mem_cons_of_mem _ hx)
    exact ⟨h3.1.trans h1, h3.2.trans h2⟩

theorem lane_causeEach_other {p : Plane} (c : Nat) (m : Ports) (l : List Plane) (s : State) (hl : ∀ q ∈ l, q ≠ p) :
    lane (causeEach l c m s) p = lane s p := by
  induction l generalizing s with
  | nil => rfl
  | cons q t ih =>
    have hq : p ≠ q := fun e => hl q List.mem_cons_self e.symm
    exact (ih (causeAt q c m s) fun x hx => hl x (List.mem_cons_of_mem _ hx)).trans (lane_causeAt_other c m s hq)

theorem par_causeEach_cause {p : Plane} (c : Nat) (m : Ports) (l : List Plane) (s : State) (hl : ∀ q ∈ l, q ≠ p) :
    par (causeEach l c m s) (protSafeCause p.code) = par s (protSafeCause p.code) := by
  have hp := code_lt p
  induction l generalizing s with
  | nil => rfl
  | cons q t ih =>
    have hq : p ≠ q := fun e => hl q List.mem_cons_self e.symm
    have hqc := code_lt q
    have hne := code_inj hq
    refine (ih (causeAt q c m s) fun x hx => hl x (List.mem_cons_of_mem _ hx)).trans (par_causeAt_other q c m s ⟨?_, ?_, ?_, ?_, ?_, ?_, ?_⟩)
    · unfold OffGate protSafeCause; omega
    · unfold protSafeCause; omega
    · unfold protSafeCause protSafeCnt; omega
    · unfold protSafeCause protBrkCtrl; omega
    · unfold protSafeCause sysEvtLostCnt; omega
    · unfold protSafeCause gfmState; omega
    · unfold OffShadow protSafeCause modPsPer modPsP; omega

/-- A cause for several planes takes each of them that is READY, RUNNING or TEST to SAFE with its code. -/
theorem causeEach_safe {p : Plane} {c : Nat} (m : Ports) (l : List Plane) (s : State) (hc : c < 2 ^ 32) (hn : l.Nodup) (hp : p ∈ l)
    (hr : s.isl.prt = true) (ha : activeSt (lane s p).st = true) :
    (lane (causeEach l c m s) p).st = .safe ∧ par (causeEach l c m s) (protSafeCause p.code) = c := by
  induction l generalizing s with
  | nil => simp at hp
  | cons q t ih =>
    obtain ⟨h1, h2⟩ := List.nodup_cons.1 hn
    rcases List.mem_cons.1 hp with rfl | hp
    · have h3 := causeAt_safe m hc hr ha
      have h4 := causeEach_keeps c m t _ h3.1 fun x hx e => h1 (e ▸ hx)
      exact ⟨by show (lane (causeEach t c m _) p).st = _; rw [h4.1]; exact h3.1, h4.2.trans h3.2⟩
    · have hq : p ≠ q := fun e => h1 (e ▸ hp)
      exact ih (causeAt q c m s) h2 hp (by simpa using hr) (by rw [lane_causeAt_other c m s hq]; exact ha)

/-- A cause of R179 takes every plane that is READY, RUNNING or TEST to SAFE with its code. -/
theorem causeEvery_safe {p : Plane} {c : Nat} (m : Ports) (s : State) (hc : c < 2 ^ 32) (hr : s.isl.prt = true)
    (ha : activeSt (lane s p).st = true) :
    (lane (causeEvery c m s) p).st = .safe ∧ par (causeEvery c m s) (protSafeCause p.code) = c :=
  causeEach_safe m allPlanes s hc (by decide) (by cases p <;> decide) hr ha

end Sys2Proof.Machine
end

