-- ==== Sys2Proof/WellFormed.lean ====
section
/-! DEFINITION. Sys2Proof/WellFormed.lean: the operands that the wire formats and the hardware admit for each row: header fields of
R321 in their widths, payload fields of R331, R336, R339, R340, R350, port and unit numbers of R1, R8, R37. -/

namespace Sys2Proof

/-- A channel has an IPv4 address and a UDP port. -/
def Chan.ok : Chan → Bool
  | .spi => true
  | .udp ip port => decide (ip < 2 ^ 32) && decide (port < 65536)

/-- Header fields in their widths (R321). -/
def Env.ok (e : Env) : Bool :=
  e.chan.ok && decide (e.seq < 65536) && decide (e.handle < 2 ^ 32) && decide (e.flags < 256) && decide (e.stamp < 2 ^ 64) &&
    decide (e.crc < 2 ^ 32)

/-- The payload of an URGENT command (R331). -/
def UPay.ok (u : UPay) : Bool := decide (u.b0 < 256) && decide (u.resv < 2 ^ 24) && decide (u.group < 2 ^ 32)

/-- The payload of a plane command (R336). -/
def PPay.ok (p : PPay) : Bool := decide (p.code < 256) && decide (p.resv < 2 ^ 24)

/-- An entry of SET_PARAM (R350). -/
def PEntry.ok (x : PEntry) : Bool := decide (x.id < 65536) && decide (x.grp < 256) && decide (x.resv < 256)

/-- The prefix of a data packet (R339). -/
def Pre.ok (p : Pre) : Bool := decide (p.unit < 2 ^ 32) && decide (p.offset < 65536) && decide (p.b6 < 256) && decide (p.grp < 256)

/-- A data packet (R339). -/
def DataPay.ok (p : DataPay) : Bool := p.pre.ok && decide (p.data.length ≤ 1432)

/-- A slot payload (R340). -/
def SlotPay.ok (p : SlotPay) : Bool := decide (p.slot < 256) && decide (p.resv < 2 ^ 24)

/-- The payload of ACQ_READ (R340). -/
def ReadPay.ok (p : ReadPay) : Bool :=
  decide (p.src < 256) && decide (p.slot < 256) && decide (p.resv < 65536) && decide (p.num < 2 ^ 32) && decide (p.first < 2 ^ 32) &&
    decide (p.count < 2 ^ 32)

/-- The payload of FRAME_SEND (R287, R338). -/
def FramePay.ok (p : FramePay) : Bool :=
  decide (p.port < 256) && decide (p.launch < 2 ^ 48) && decide (p.base < 4) && decide (p.queue < 8) && decide (p.bytes.length ≤ 1416)

/-- A row's operands are ones the hardware can bring. -/
def wellFormed : Instr → Bool
  | .stop e u => e.ok && u.ok
  | .pulseBlock e u => e.ok && u.ok
  | .asc e u => e.ok && u.ok
  | .tripGroup e u => e.ok && u.ok
  | .planeEnable e p => e.ok && p.ok
  | .planeArm e p => e.ok && p.ok
  | .planeArmReady _ => true
  | .planeArmTimeout _ => true
  | .planeStart e p => e.ok && p.ok
  | .planeStop e p => e.ok && p.ok
  | .stopLimit _ => true
  | .planeDisarm e p => e.ok && p.ok
  | .planeDisable e p => e.ok && p.ok
  | .clearSafe e p => e.ok && p.ok
  | .testEnter e p => e.ok && p.ok
  | .testExit e p => e.ok && p.ok
  | .testGo e _ => e.ok
  | .testSequenceEnd fail => fail.all (fun x => decide (x < 36))
  | .gfmSync e p => e.ok && p.ok
  | .syncTimeout => true
  | .dcPrecharge e p => e.ok && p.ok
  | .preFail => true
  | .dcDischarge e p => e.ok && p.ok
  | .disTime => true
  | .setParamControl e es resv => e.ok && es.all PEntry.ok && decide (resv < 65536)
  | .setParam e es resv => e.ok && es.all PEntry.ok && decide (resv < 65536)
  | .modeWrite e _ _ => e.ok
  | .getParam e ids => e.ok && ids.all (fun x => decide (x < 65536))
  | .acqTrigger e => e.ok
  | .acqRelease e p => e.ok && p.ok
  | .replayStart e => e.ok
  | .replayStop e => e.ok
  | .stepBack e => e.ok
  | .handleQuery e h => e.ok && decide (h < 2 ^ 32)
  | .handleCancel e h => e.ok && decide (h < 2 ^ 32)
  | .txnOpen e => e.ok
  | .txnPrepare e => e.ok
  | .prepared => true
  | .txnCommit e kc => e.ok && decide (kc < 2 ^ 64)
  | .txnAbort e => e.ok
  | .txnTimeout => true
  | .txnSwitch => true
  | .txnGroupSwitch _ => true
  | .selfTest e mask => e.ok && decide (mask < 2 ^ 32)
  | .reset e sel resv => e.ok && decide (sel < 256) && decide (resv < 2 ^ 24)
  | .saveSettings e => e.ok
  | .fwUpdate e len kind resv base => e.ok && decide (len < 2 ^ 32) && decide (kind < 256) && decide (resv < 2 ^ 24) && decide (base.length = 64)
  | .fwData e p => e.ok && p.ok
  | .fwActivate e resv kh => e.ok && decide (resv < 2 ^ 56) && decide (kh < 2 ^ 64)
  | .fwActivateHitless e resv kh => e.ok && decide (resv < 2 ^ 56) && decide (kh < 2 ^ 64)
  | .hitlessReady _ => true
  | .hitlessSwap _ => true
  | .tansyRestart => true
  | .tansyRestartDone => true
  | .restartMax => true
  | .attest e nonce => e.ok && decide (nonce.length = 32)
  | .debugUnlock e t => e.ok && decide (t.length = 104)
  | .groupAction e p => e.ok && decide (p.length ≤ 1440)
  | .groupDecide => true
  | .groupConfirm => true
  | .groupApply => true
  | .rgtWrite e p => e.ok && p.ok
  | .rgtRead e p => e.ok && p.ok
  | .acqRead e p => e.ok && p.ok
  | .acqArchive e p => e.ok && p.ok
  | .replayLoad e p tiles => e.ok && p.ok && decide (tiles < 2 ^ 32)
  | .replayData e p => e.ok && p.ok
  | .frameSend e p => e.ok && p.ok
  | .packetWrite _ _ => true
  | .packetRead _ => true
  | .windowRead addr => decide (addr < 256)
  | .windowWrite addr v crc => decide (addr < 256) && decide (v < 2 ^ 32) && decide (crc < 2 ^ 32)
  | .setValid e _ _ => e.ok
  | .timeLatch e _ => e.ok
  | .comparatorArm e tc base _ => e.ok && decide (tc < 16) && decide (base < 4)
  | .comparatorDisarm e tc base => e.ok && decide (tc < 16) && decide (base < 4)
  | .phaseStep e _ => e.ok
  | .phaseStepApply => true
  | .refSelWrite e _ => e.ok
  | .refModeWrite e _ _ => e.ok
  | .ybusSurvey e _ => e.ok
  | .goCold e => e.ok
  | .take e => e.ok
  | .release e => e.ok
  | .confirm e => e.ok
  | .confirmTime => true
  | .captureEnable e _ => e.ok
  | .captureStop e _ => e.ok
  | .queueDisable e port _ => e.ok && decide (port < 2)
  | .haltNFall => true
  | .haltNRise => true
  | .stoLow _ => true
  | .stoHigh => true
  | .resetNLow => true
  | .externalResetEntry => true
  | .supplyLow v => decide (v < 65536)
  | .supplyLoss => true
  | .powerFailRecord => true
  | .corePowerDown => true
  | .mcRelayDrop => true
  | .powerUp _ => true
  | .pllmLocked => true
  | .fastStartLoaded _ => true
  | .settingsLoaded _ _ hw => decide (hw < 256)
  | .tansyExtRunning => true
  | .islandStopped _ => true
  | .supervisorReset => true
  | .islandReset _ => true
  | .keepAliveLoss ports => ports.all (fun x => decide (x < 36))
  | .uvloDeclare n _ => decide (n < 36)
  | .uvloRelease n _ => decide (n < 36)
  | .shortDesat l => l.all (fun x => decide (x.1 < 36))
  | .shortHard n _ => decide (n < 36)
  | .shortStagger => true
  | .deferredTurnOff n => decide (n < 36)
  | .gatePwrHigh n mw => decide (n < 36) && decide (mw < 65536)
  | .gateBudget p => decide (p.gate < 65536) && decide (p.input < 65536)
  | .tBaseUpdate t => decide (-32768 ≤ t) && decide (t < 32768)
  | .mpSupply n => decide (n < 24)
  | .busPresentChange _ => true
  | .brkAuxChange _ => true
  | .mcAuxChange _ => true
  | .brkMismatch _ => true
  | .brkDelay => true
  | .tripOutput w => decide (w.lines.length = 24) && decide (w.edges.length = 8)
  | .ascStep => true
  | .forcedAscEnd => true
  | .cutArrival _ => true
  | .cutAck _ => true
  | .boundaryCount _ => true
  | .controlStrobe bs => decide (bs.length = 24)
  | .commitPoint _ => true
  | .adaptWindowEnd _ => true
  | .sreCheck => true
  | .carrierReload _ bs _ => decide (bs.length = 24)
  | .feedGapStep _ => true
  | .publish _ _ => true
  | .teaselRead _ => true
  | .refItemWrite _ _ => true
  | .outerBoundary _ => true
  | .encLost enc => decide (enc < 2)
  | .encoderIndex enc => decide (enc.what < 2)
  | .stuck n _ _ => decide (n < 24)
  | .clkFault n _ => decide (n < 24)
  | .manchesterLockLost n _ _ => decide (n < 24)
  | .manchErr n _ _ => decide (n < 24)
  | .frozen n => decide (n < 24)
  | .streamValid n _ => decide (n < 24)
  | .skewAuto n _ => decide (n < 24)
  | .meterOutput bs => decide (bs.length = 24)
  | .clkHoldover => true
  | .refQualified _ => true
  | .clkAltUsed => true
  | .freqWindow _ => true
  | .holdoverMax => true
  | .clkFallback => true
  | .clkReturn => true
  | .clkPrtHold => true
  | .ptpSync _ => true
  | .pathDelayMeasure port _ => decide (port < 2)
  | .pdHoldTimeout => true
  | .ptpHoldover => true
  | .ptpForward port _ _ => decide (port < 2)
  | .replicaRealign found => decide (found.length = 9)
  | .tcFire tc => decide (tc.what < 16)
  | .launch port _ => decide (port < 2)
  | .linkDown port => decide (port < 2)
  | .recordClose => true
  | .slowStreamEntry => true
  | .replayEnd _ => true
  | .yarrowHead => true
  | .yclkRequestPulse => true
  | .surveyStart => true
  | .surveyDone _ => true
  | .alignmentMark _ part => decide (0 ≤ part) && decide (part < 1)
  | .carrierMark _ => true
  | .groupTrigger _ _ => true
  | .groupTriggerApply => true
  | .presenceChange _ => true
  | .bulkData _ => true
  | .eventsLost => true
  | .heartbeatSend da _ _ => decide (da < 2 ^ 32)
  | .heartbeatReceive link _ _ => decide (link < 2)
  | .snapFragment link part seq da _ data =>
    decide (link < 2) && decide (part < 256) && decide (seq < 2 ^ 32) && decide (da < 2 ^ 32) && decide (data.length = 516)
  | .pathDown link _ => decide (link < 2)
  | .fail => true
  | .roleWindow => true
  | .takeover _ => true
  | .takeFail step => decide (step < 256)
  | .descriptorSend => true
  | .descriptorReceive src _ => decide (src < 2 ^ 32)
  | .grpMemberLost pos => decide (pos < 16)
  | .debugHalt => true
  | .debugResume => true
  | .jtagInstruction _ => true
  | .pllPLocked => true
  | .linkUp port _ => decide (port < 2)
  | .frameForward port pcp _ => decide (port < 2) && pcp.all (fun x => decide (x < 8))
  | .headChange => true
  | .yclkLost => true
  | .archiveComplete => true
  | .settingsSaved => true
  | .selfTestComplete hw => decide (hw < 256)

end Sys2Proof
end

