-- ==== Sys2Proof/Tests/Slice0.lean ====
section
/-! SUPPORT. Sys2Proof/Tests/Slice0.lean: the smoke tests of WellFormed, tests of single steps, and for every statement with
premises a witness: concrete states and operands that meet the premises of each of its clauses together. -/

open Sys2Proof Sys2Proof.Machine

namespace Sys2Proof.Tests

set_option maxRecDepth 20000
set_option Elab.async false
set_option linter.unusedVariables false

/-- A header every check accepts. -/
def e0 : Env := { chan := .spi, seq := 1 }

/-! ## WellFormed refuses an ill-formed term at each of its checks -/


theorem test_wf_accepts : wellFormed (.stop e0 { b0 := 1 }) = true ∧ wellFormed (.setParam e0 [{ id := 1, val := 0 }] 0) = true ∧
    wellFormed (.rgtWrite e0 { pre := { unit := 0, offset := 0 } }) = true ∧ wellFormed (.gatePwrHigh 35 0) = true := by decide

theorem test_wf_header : wellFormed (.txnOpen { e0 with chan := .udp (2 ^ 32) 0 }) = false ∧
    wellFormed (.txnOpen { e0 with chan := .udp 0 65536 }) = false ∧ wellFormed (.txnOpen { e0 with seq := 65536 }) = false ∧
    wellFormed (.txnOpen { e0 with handle := 2 ^ 32 }) = false ∧ wellFormed (.txnOpen { e0 with flags := 256 }) = false ∧
    wellFormed (.txnOpen { e0 with stamp := 2 ^ 64 }) = false ∧ wellFormed (.txnOpen { e0 with crc := 2 ^ 32 }) = false := by decide

theorem test_wf_urgent : wellFormed (.stop e0 { b0 := 256 }) = false ∧ wellFormed (.asc e0 { b0 := 1, resv := 2 ^ 24 }) = false ∧
    wellFormed (.tripGroup e0 { b0 := 1, group := 2 ^ 32 }) = false ∧ wellFormed (.pulseBlock e0 { b0 := 256 }) = false := by decide

theorem test_wf_plane : wellFormed (.planeArm e0 { code := 256 }) = false ∧
    wellFormed (.planeStart e0 { code := 0, resv := 2 ^ 24 }) = false ∧ wellFormed (.gfmSync e0 { code := 256 }) = false ∧
    wellFormed (.dcPrecharge e0 { code := 256 }) = false := by decide

theorem test_wf_params : wellFormed (.setParam e0 [{ id := 65536, val := 0 }] 0) = false ∧
    wellFormed (.setParam e0 [{ id := 1, val := 0, grp := 256 }] 0) = false ∧
    wellFormed (.setParam e0 [{ id := 1, val := 0, resv := 256 }] 0) = false ∧ wellFormed (.setParam e0 [] 65536) = false ∧
    wellFormed (.setParamControl e0 [] 65536) = false ∧ wellFormed (.getParam e0 [65536]) = false := by decide

theorem test_wf_data : wellFormed (.rgtWrite e0 { pre := { unit := 2 ^ 32, offset := 0 } }) = false ∧
    wellFormed (.rgtWrite e0 { pre := { unit := 0, offset := 65536 } }) = false ∧
    wellFormed (.fwData e0 { pre := { unit := 0, offset := 0, b6 := 256 } }) = false ∧
    wellFormed (.replayData e0 { pre := { unit := 0, offset := 0, grp := 256 } }) = false ∧
    wellFormed (.rgtRead e0 { unit := 2 ^ 32, offset := 0 }) = false ∧
    wellFormed (.fwData e0 { pre := { unit := 0, offset := 0 }, data := List.replicate 1433 0 }) = false := by decide +kernel

theorem test_wf_slots : wellFormed (.acqRelease e0 { slot := 256 }) = false ∧
    wellFormed (.acqArchive e0 { slot := 0, resv := 2 ^ 24 }) = false ∧ wellFormed (.replayLoad e0 { slot := 0 } (2 ^ 32)) = false ∧
    wellFormed (.acqRead e0 { src := 256 }) = false ∧ wellFormed (.acqRead e0 { src := 0, slot := 256 }) = false ∧
    wellFormed (.acqRead e0 { src := 0, resv := 65536 }) = false ∧ wellFormed (.acqRead e0 { src := 0, num := 2 ^ 32 }) = false ∧
    wellFormed (.acqRead e0 { src := 0, first := 2 ^ 32 }) = false ∧ wellFormed (.acqRead e0 { src := 0, count := 2 ^ 32 }) = false := by
  decide

theorem test_wf_frames : wellFormed (.frameSend e0 { port := 256 }) = false ∧
    wellFormed (.frameSend e0 { port := 0, launch := 2 ^ 48 }) = false ∧ wellFormed (.frameSend e0 { port := 0, base := 4 }) = false ∧
    wellFormed (.frameSend e0 { port := 0, queue := 8 }) = false ∧
    wellFormed (.frameSend e0 { port := 0, bytes := List.replicate 1417 0 }) = false := by decide +kernel

theorem test_wf_host : wellFormed (.handleQuery e0 (2 ^ 32)) = false ∧ wellFormed (.handleCancel e0 (2 ^ 32)) = false ∧
    wellFormed (.txnCommit e0 (2 ^ 64)) = false ∧ wellFormed (.selfTest e0 (2 ^ 32)) = false ∧ wellFormed (.reset e0 256 0) = false ∧
    wellFormed (.reset e0 0 (2 ^ 24)) = false ∧ wellFormed (.fwUpdate e0 (2 ^ 32) 0 0 []) = false ∧
    wellFormed (.fwUpdate e0 1 256 0 []) = false ∧ wellFormed (.fwUpdate e0 1 0 (2 ^ 24) []) = false ∧
    wellFormed (.fwUpdate e0 1 0 0 []) = false ∧ wellFormed (.fwActivate e0 (2 ^ 56) 0) = false ∧
    wellFormed (.fwActivate e0 0 (2 ^ 64)) = false ∧ wellFormed (.fwActivateHitless e0 (2 ^ 56) 0) = false ∧
    wellFormed (.attest e0 []) = false ∧ wellFormed (.debugUnlock e0 []) = false ∧
    wellFormed (.groupAction e0 (List.replicate 1441 0)) = false := by decide +kernel

theorem test_wf_window : wellFormed (.windowRead 256) = false ∧ wellFormed (.windowWrite 256 0 0) = false ∧
    wellFormed (.windowWrite 3 (2 ^ 32) 0) = false ∧ wellFormed (.windowWrite 3 0 (2 ^ 32)) = false := by decide

theorem test_wf_units : wellFormed (.comparatorArm e0 16 0 0) = false ∧ wellFormed (.comparatorArm e0 0 4 0) = false ∧
    wellFormed (.comparatorDisarm e0 16 0) = false ∧ wellFormed (.tcFire ⟨16, 0⟩) = false ∧ wellFormed (.queueDisable e0 2 0) = false ∧
    wellFormed (.uvloDeclare 36 .vcc) = false ∧ wellFormed (.uvloRelease 36 .vee) = false ∧ wellFormed (.shortHard 36 true) = false ∧
    wellFormed (.shortDesat [(36, true)]) = false ∧ wellFormed (.deferredTurnOff 36) = false ∧ wellFormed (.keepAliveLoss [36]) = false ∧
    wellFormed (.testSequenceEnd [36]) = false ∧ wellFormed (.gatePwrHigh 36 0) = false ∧ wellFormed (.gatePwrHigh 0 65536) = false ∧
    wellFormed (.mpSupply 24) = false ∧ wellFormed (.stuck 24 false 0) = false ∧ wellFormed (.frozen 24) = false := by decide

theorem test_wf_values : wellFormed (.supplyLow 65536) = false ∧ wellFormed (.gateBudget ⟨65536, 0⟩) = false ∧
    wellFormed (.gateBudget ⟨0, 65536⟩) = false ∧
    wellFormed (.tBaseUpdate 32768) = false ∧ wellFormed (.tBaseUpdate (-32769)) = false ∧
    wellFormed (.settingsLoaded 0 (.words [] []) 256) = false ∧
    wellFormed (.tripOutput ⟨[], List.replicate 8 0⟩) = false ∧ wellFormed (.tripOutput ⟨List.replicate 24 0, []⟩) = false ∧
    wellFormed (.controlStrobe []) = false ∧ wellFormed (.meterOutput []) = false ∧
    wellFormed (.carrierReload .g [] .none) = false ∧
    wellFormed (.encLost 2) = false ∧ wellFormed (.encoderIndex ⟨2, 0⟩) = false ∧ wellFormed (.skewAuto 24 true) = false ∧
    wellFormed (.clkFault 24 ⟨0, true⟩) = false ∧ wellFormed (.alignmentMark 0 1) = false ∧ wellFormed (.alignmentMark 0 (-1)) = false ∧
    wellFormed (.selfTestComplete 256) = false ∧
    wellFormed (.replicaRealign []) = false := by decide +kernel

theorem test_wf_links : wellFormed (.pathDelayMeasure 2 ⟨false, 0⟩) = false ∧ wellFormed (.linkUp 2 true) = false ∧
    wellFormed (.linkDown 2) = false ∧ wellFormed (.launch 2 0) = false ∧ wellFormed (.frameForward 2 none []) = false ∧
    wellFormed (.frameForward 0 (some 8) []) = false ∧ wellFormed (.heartbeatSend (2 ^ 32) 0 0) = false ∧
    wellFormed (.heartbeatReceive 2 0 ⟨0, []⟩) = false ∧
    wellFormed (.snapFragment 2 0 0 0 0 (List.replicate 516 0)) = false ∧
    wellFormed (.snapFragment 0 256 0 0 0 (List.replicate 516 0)) = false ∧
    wellFormed (.snapFragment 0 0 (2 ^ 32) 0 0 (List.replicate 516 0)) = false ∧
    wellFormed (.snapFragment 0 0 0 (2 ^ 32) 0 (List.replicate 516 0)) = false ∧ wellFormed (.snapFragment 0 0 0 0 0 []) = false ∧
    wellFormed (.pathDown 2 0) = false ∧ wellFormed (.takeFail 256) = false ∧
    wellFormed (.descriptorReceive (2 ^ 32) []) = false ∧ wellFormed (.grpMemberLost 16) = false := by decide

/-! ## States the tests start from -/

/-- A module that runs: every island up, clocked, and healthy. -/
def up : State := { State.reset with
  isl := { ctl := true, app := true, sys := true, acq := true, sysUp := true, health := true, mdclk := true, mdRun := true,
           ext := true, power := true } }
/-- Write these parameters (identifier, value). -/
def prm (l : List (Nat × Nat)) (s : State) : State := l.foldl (fun t x => setPar x.1 x.2 t) s
/-- Measured port n carries this signal code, valid and past its 64 samples. -/
def sig (n code : Nat) (s : State) : State :=
  setMport n { valid := true, prtValid := true, run := 64 } (setPar (measRoute n) code s)
/-- Both halves of the DC link are measured. -/
def dc (s : State) : State := sig 0 0x40 (sig 1 0x41 s)
/-- Put a plane into a state. -/
def lst (p : Plane) (x : PState) (s : State) : State := updLane p (fun l => { l with st := x }) s
/-- Every Safe Region Entry and both halves of the DC link are good. -/
def good : State := dc { up with params :=
  [(ctlSreCrc 0, 2324772522), (ctlSreCrc 1, 2324772522), (ctlSreCrc 2, 2324772522), (ctlSreCrc 3, 2324772522)] }
/-- `good` with plane B in this state. -/
def gB (x : PState) : State := lst .b x good
/-- Plane B waits to arm, with every gate supply good. -/
def armS : State := updLane .b (fun l => { l with st := .stopped, arming := some 5 }) { good with prt := { good.prt with uvVcc := 0 } }
/-- A parameter list. -/
def w (l : List (Nat × Nat)) : List PEntry := l.map fun x => { id := x.1, val := BitVec.ofNat 32 x.2 }
/-- The carrier PLL in this state. -/
def pll (k : Nat) (s : State) : State := setPar clkPllmStatus (par s clkPllmStatus / 4 * 4 + k) s
/-- Change the acquisition engine. -/
def aqs (f : Acq → Acq) (s : State) : State := { s with acq := f s.acq }
/-- Put a record slot. -/
def slots (n : Nat) (x : Slot) (s : State) : State := aqs (fun a => { a with slots := a.slots.set n x }) s
/-- An open handle. -/
def op (h o : Nat) (s : State) : State := { s with host := { s.host with ops := s.host.ops ++ [{ handle := h, opcode := o, chan := .spi }] } }
/-- A closed record in this slot. -/
def cl (n : Nat) (s : State) : State := slots n { st := .closed, num := 3, count := 2, ring := [{ k := 1, words := [1] }, { k := 0, words := [2] }], status := 1 } s
/-- A transaction under its handle. -/
def tx (x : Txn) (s : State) : State := op x.handle 0x0110 { s with txn := some x }
/-- A closed record selected for replay. -/
def rpS : State := prm [(acqRpSrc, 0)] (cl 0 good)
/-- Change the protection state. -/
def prt (f : Prt → Prt) (s : State) : State := { s with prt := f s.prt }
/-- Change the island state. -/
def isl (f : Isl → Isl) (s : State) : State := { s with isl := f s.isl }
/-- A plane that runs. -/
def run (p : Plane) : State := lst p .running good
/-- The upper switch of the first leg of plane B. -/
def b1 : Ports := 1#36 <<< 33
/-- Change a modulator. -/
def md (p : Plane) (f : Mod → Mod) (s : State) : State := setMod p (f (modr s p)) s
/-- Change the redundancy state. -/
def red (f : Red → Red) (s : State) : State := { s with red := f s.red }
/-- Change the firmware state. -/
def fw (f : Fw → Fw) (s : State) : State := { s with fw := f s.fw }
/-- A signed group action payload of this kind. -/
def grp (k : Nat) : List Byte := le 4 9 ++ [BitVec.ofNat 8 k, 0] ++ le 2 18 ++ le 6 30000000 ++ le 6 100000000 ++ le 4 0 ++ [1, 2] ++ List.replicate 16 1
/-- A group action of this kind. -/
def act (k : Nat) : GAct := { handle := 263, id := 9, kind := k, payload := grp 2, tDecide := 30000000, tApply := 100000000 }
/-- The only member of group 77. -/
def g1 : State := prm [(redGroupId, 77), (redGrpSize, 1), (redGrpAddr, 5)] good
/-- A group action under way. -/
def ga (a : GAct) (s : State) : State := op a.handle 0x0140 (red (fun r => { r with act := some a }) s)
/-- `g1` with a synchronous Y bus. -/
def gy : State := prm [(ybusStatus, 32 + 4096)] { g1 with time := { g1.time with busOk := true } }
/-- A group descriptor of group g for position p. -/
def desc (g p : Nat) : List Byte :=
  let b := le 2 0xD7A5 ++ [1, BitVec.ofNat 8 p] ++ le 4 g ++ List.replicate 244 7
  b ++ le 4 (crc32c b)
/-- Put a firmware slot. -/
def fslot (n : Nat) (x : FwSlot) (s : State) : State := fw (fun f => if n = 0 then { f with slotA := x } else { f with slotB := x }) s
/-- A hitless activation under its handle. -/
def hit (h : Hitless) (s : State) : State := op h.handle 0x0131 (fw (fun f => { f with hitless := some h }) s)
/-- Take a redundancy role. -/
def role (n : Nat) (s : State) : State := red (fun r => { r with role := n }) s
/-- Change the time state. -/
def tim (f : Time → Time) (s : State) : State := { s with time := f s.time }
/-- The carrier PLL status as a whole. -/
def pllS (k : Nat) (s : State) : State := prm [(clkPllmStatus, k)] s
/-- The Y bus is open in this state. -/
def ub (k : Nat) : State := isl (fun i => { i with yOpen := true }) (prm [(ybusStatus, k)] good)
/-- Change both Ethernet ports. -/
def ey (f : Eth → Eth) (s : State) : State := { s with eth0 := f s.eth0, eth1 := f s.eth1 }
/-- A PTP slave in lock. -/
def ptp (s : State) : State := prm [(netPtpEn, 3), (timeStepLimit, 1000)] (tim (fun t => { t with master := some 9, servo := 2, net := 50000000, pd := [some 100, some 200] }) s)
/-- A survey of a bus of three members. -/
def surv : Survey := { pos := 1, delays := [100, 300, 500], bus := 7000 }
/-- A replay under its handle. -/
def rps (r : Replay) (s : State) : State := op 5 0x42 { s with replay := r }
/-- A CLEAR_SAFE that waits at a plane. -/
def cp : List (Option Env × Nat) := [(some { chan := .spi, seq := 1 }, 0)]
/-- A parameter list with the group of each entry. -/
def wg (l : List (Nat × Nat × Nat)) : List PEntry := l.map fun x => { id := x.1, val := BitVec.ofNat 32 x.2.1, grp := x.2.2 }
/-- A MODE action that sets the voltage reference. -/
def mode : List Byte := le 4 9 ++ [1, 0] ++ le 2 8 ++ le 6 30000000 ++ le 6 100000000 ++ le 4 0 ++ le 2 gfmVSet ++ [0, 0] ++ le 4 16384
/-- A packet: STOP of plane B in class 0, or PLANE_START in class 1. -/
def stopB (r : Nat) : List Byte :=
  let b := le 2 0xD7A4 ++ [1, BitVec.ofNat 8 (r % 16)] ++ le 2 (if r = 0 then 1 else 0x0012) ++ le 2 1 ++ le 4 0 ++
    le 2 (if r = 0 then 8 else 4) ++ [0, 0] ++ le 8 0 ++ (if r = 0 then [8, 0, 0, 0, 0, 0, 0, 0] else [3, 0, 0, 0])
  b ++ le 4 (crc32c b)
/-- The words of a tile that R110 accepts on plane G. -/
def zeroD : List Byte := (List.replicate 64 ([1, 0, 0, 0] ++ [0, 0, 1, 0] ++ List.replicate 24 (0 : Byte))).flatten
/-- The tile of these words. -/
def zeroT : List Byte := zeroD ++ le 4 22390613

theorem zero_crc : crc32c zeroD = 22390613 := by decide +kernel

theorem zeroT_status : imageStatus zeroT = stOk := by
  have h : zeroT.take 2048 = zeroD := by decide +kernel
  unfold imageStatus; rw [h, zero_crc]; decide +kernel

/-- Its words but for the CRC, as a fragment of an owner. -/
def fr (l : Nat) : List Frag := [{ unit := 3, owner := l, got := List.range 2048, bytes := (zeroD.zipIdx.filter fun x => x.1 ≠ 0).map fun x => (x.2, x.1) }]
/-- A heartbeat. -/
def hb : List Byte := frameOf 1 (List.replicate 13 2)
/-- A snapshot fragment. -/
def snf : List Byte := frameOf 2 ([3] ++ le 4 5 ++ List.replicate 516 0)
/-- A record fills slot 0, and two trigger units are on. -/
def post : State := aqs (fun a => { a with active := some 0, armed := BitVec.allOnes 32 }) (slots 0 { st := .filling, num := 5, count := 300 }
  (prm [(acqTuCtrl 3, 9), (acqTuCtrl 4, 11), (acqCtrl, 1)] good))

/-- One switch of plane B is on, and the front command is a PULSE_BLOCK of plane B. -/
def onB : State := { lst .b .running up with prt := { up.prt with upper := b1 }, pending := [.pulseBlock e0 { b0 := 8 }] }

/-- The SPI channel has answered its command 5. -/
def fifth : State := { up with host := { up.host with spi := { started := true, last := 5, replies := [(5, 0, {})] } } }

/-! ## Single steps -/

/-- What a next state shows. -/
def shows (o : Host.Outcome State Fault Refusal) (p : State → Bool) : Bool :=
  match o with | .next t => p t | _ => false

/-- The status and the payload of the reply the SPI channel keeps last. -/
def replied (s : State) : Option (Nat × List Byte) := s.host.spi.replies.head?.map fun r => (r.2.2.status, r.2.2.payload)

/-- CRC-32C of the nine digits 1 to 9: the check value published with the parameters of R110. -/
theorem test_crc : crc32c [0x31, 0x32, 0x33, 0x34, 0x35, 0x36, 0x37, 0x38, 0x39] = 0xE3069283 := by decide +kernel

/-- An empty queue idles. -/
theorem test_idle : step State.reset = .next State.reset := rfl

/-- STOP takes the plane its mask names, RUNNING, to SAFE, and leaves the others (R331). -/
theorem test_stop : shows (exec (.stop e0 { b0 := 8 }) (lst .b .running (lst .g .running up))) (fun t =>
    decide ((lane t .b).st = .safe) && decide ((lane t .g).st = .running)) = true := by decide +kernel

/-- A mask of 0 does nothing (R332). -/
theorem test_stop_no_plane : shows (exec (.stop e0 { b0 := 0 }) (lst .b .running up)) (fun t => decide ((lane t .b).st = .running)) = true := by
  decide +kernel

/-- PULSE_BLOCK withdraws both switches of its plane. -/
theorem test_pulseBlock : shows (step onB) (fun t => decide (t.prt.upper = 0) && decide (t.prt.lower = 0) && t.pending.isEmpty) = true := by
  decide +kernel

/-- GET_PARAM of one ID answers the count, two zero bytes, the ID, two zero bytes and the value, little-endian (R349). -/
theorem test_getParam : shows (exec (.getParam e0 [ctlStopRamp 0]) (prm [(ctlStopRamp 0, 0x1234)] up)) (fun t =>
    decide (replied t = some (0, [1, 0, 0, 0, 0x0A, 0x07, 0, 0, 0x34, 0x12, 0, 0]))) = true := by decide +kernel

/-- A write of a read-only parameter fails as READ_ONLY, 0x21, and writes nothing, not even the entry before it; the reply names the index and
the ID of the entry (R350). -/
theorem test_setParam_readOnly : shows (exec (.setParam e0 [{ id := netEthQEn 0, val := 3 }, { id := clkPllmStatus, val := 1 }] 0) up) (fun t =>
    decide (replied t = some (0x21, [1, 0, BitVec.ofNat 8 clkPllmStatus, BitVec.ofNat 8 (clkPllmStatus / 256)])) && decide (par t (netEthQEn 0) = par up (netEthQEn 0))) = true := by decide +kernel

/-- The same command again is answered by the stored reply and runs once (R329). -/
theorem test_repeat : shows (exec (.txnOpen e0) up) (fun t => shows (exec (.txnOpen e0) t) (fun u =>
    decide (u.host.ops.length = 1) && decide (u.host.spi.replies.length = 1))) = true := by decide +kernel

/-- A SEQ of the past is counted (R329). -/
theorem test_stale : shows (exec (.txnOpen { e0 with seq := 4 }) fifth) (fun t =>
    decide (par t sysStaleCnt = 1) && t.txn.isNone) = true := by decide +kernel

/-- A second transaction fails as BUSY, 0x30 (R353). -/
theorem test_second_txn : shows (exec (.txnOpen { e0 with seq := 2 }) (tx { handle := 263 } up)) (fun t =>
    decide ((replied t).map (·.1) = some 0x30)) = true := by decide +kernel

/-- A number that is no port does nothing. -/
theorem test_no_unit : exec (.gatePwrHigh 36 0) up = .next up := rfl

/-! ## Witnesses of the premises -/

theorem test_witness_EnableAndArmAPlane :
    (∃ (e : Env) (p : Plane) (s : State), Fresh opEnable 1 e s ∧ LaneFree p s ∧ enableStatus p (acceptSeq e s) = stOk) ∧
    (∃ (e : Env) (p : Plane) (s : State), Fresh opDisable 1 e s ∧ LaneFree p s ∧ (lane s p).st = .stopped) ∧
    (∃ (e : Env) (p : Plane) (s : State), Fresh opArm 1 e s ∧ Room s ∧ LaneFree p s ∧ armStatus p (acceptSeq e s) = stOk) ∧
    (∃ (p : Plane) (h : Nat) (s : State), (lane s p).arming = some h ∧ (lane s p).queued = [] ∧ uvloFree p s = true ∧ stoHighNow s =
      true ∧ signalsOk p s = true ∧ s.isl.sys = true ∧ s.pins.haltLow = false ∧ s.prt.chopAct = false) ∧
    (∃ (p : Plane) (h : Nat) (s : State), (lane s p).arming = some h ∧ h ≠ 0 ∧ (lane s p).queued = [] ∧ s.isl.sys = true) :=
  ⟨⟨e0, .b, lst .b .off up, by decide +kernel⟩,
   ⟨e0, .b, lst .b .stopped up, by decide +kernel⟩,
   ⟨e0, .b, gB .stopped, by decide +kernel⟩,
   ⟨.b, 5, armS, by decide +kernel⟩,
   ⟨.b, 263, op 263 opArm (updLane .b (fun l => { l with arming := some 263 }) (lst .b .stopped up)), by decide +kernel⟩⟩

theorem test_witness_StartingAndStoppingAPlane :
    (∃ (e : Env) (p : Plane) (s : State), Fresh opStart 1 e s ∧ LaneFree p s ∧ startStatus p (acceptSeq e s) = stOk) ∧
    (∃ (p : Plane) (s : State), (lane s p).startPend = true ∧ (lane s p).st = .ready) ∧
    (∃ (e : Env) (p : Plane) (s : State), Fresh opStop 1 e s ∧ Room s ∧ LaneFree p s ∧ (lane s p).st = .running) ∧
    (∃ (p : Plane) (s : State), (lane s p).st = .running ∧ (lane s p).stopping.isSome = true ∧ (lane s p).stopNow = true ∧
      s.pins.haltLow = false ∧ stoHighNow s = true) :=
  ⟨⟨e0, .b, prm [(ctlBVChop, 5)] (lst .b .ready up), by decide +kernel⟩,
   ⟨.b, updLane .b (fun l => { l with startPend := true }) (lst .b .ready up), by decide +kernel⟩,
   ⟨e0, .b, lst .b .running up, by decide +kernel⟩,
   ⟨.b, updLane .b (fun l => { l with stopping := some 0, stopNow := true, queued := [(263, opDisarm)] }) (op 263 opDisarm (lst .b
      .running up)), by decide +kernel⟩⟩

theorem test_witness_DisarmAndTest :
    (∃ (e : Env) (p : Plane) (s : State), Fresh opDisarm 1 e s ∧ LaneFree p s ∧ (lane s p).st = .ready) ∧
    (∃ (e : Env) (p : Plane) (s : State), Fresh opTestEnter 1 e s ∧ LaneFree p s ∧ testStatus p (acceptSeq e s) = stOk) ∧
    (∃ (e : Env) (p : Plane) (s : State), Fresh opTestExit 1 e s ∧ LaneFree p s ∧ (lane s p).st = .test ∧ stoHighNow s = true ∧
      s.pins.haltLow = false ∧ s.prt.chopAct = false) :=
  ⟨⟨e0, .b, prm [(ctlBVChop, 5)] (lst .b .ready up), by decide +kernel⟩,
   ⟨e0, .b, prm [(protTestKind, 2)] (lst .b .ready up), by decide +kernel⟩,
   ⟨e0, .b, lst .b .test up, by decide +kernel⟩⟩

theorem test_witness_ClearSafeWaitsForTheStrobe :
    (∃ (e : Env) (p : Plane) (s : State), Fresh opClear 1 e s ∧ LaneFree p s ∧ clearFits p (acceptSeq e s) = true) ∧
    (∃ (e : Env) (p : Plane) (s : State), (lane s p).clearPend = [(some e, 0)] ∧ (lane s p).queued = [] ∧ clearFits p s = true) ∧
    (∃ (e : Env) (p : Plane) (s : State), (lane s p).clearPend = [(some e, 0)] ∧ (lane s p).queued = [] ∧ clearFits p s = false) ∧
    (∃ (e : Env) (p : Plane) (s : State), Fresh opClear 1 e s ∧ LaneFree p s ∧ (lane s p).st ≠ .safe) :=
  ⟨⟨e0, .b, gB .safe, by decide +kernel⟩,
   ⟨e0, .b, updLane .b (fun l => { l with clearPend := cp }) (gB .safe), by decide +kernel⟩,
   ⟨e0, .b, updLane .b (fun l => { l with clearPend := cp }) (lst .b .safe up), by decide +kernel⟩,
   ⟨e0, .b, lst .b .off up, by decide +kernel⟩⟩

theorem test_witness_UrgentCommands :
    (∃ (e : Env) (p : Plane) (s : State), s.isl.prt = true ∧ s.isl.sys = true ∧ activeSt (lane s p).st = true ∧ urgentListed s e.chan =
      true ∧ e.flags = 0) ∧
    (∃ (e : Env) (p : Plane) (s : State) (g : Nat), s.isl.prt = true ∧ s.isl.sys = true ∧ activeSt (lane s p).st = true ∧ urgentListed s
      e.chan = true ∧ e.flags = 0 ∧ g = par s redGroupId ∧ g ≠ 0) ∧
    (∃ (e : Env) (s : State), s.isl.prt = true ∧ s.isl.sys = true ∧ par s sysCrcErrCnt < 65535) ∧
    (∃ (e : Env) (s : State) (u : UPay), s.isl.prt = true ∧ s.isl.sys = true ∧ u.group ≠ par s redGroupId ∧ par s sysTripForeignCnt <
      65535) :=
  ⟨⟨e0, .b, prm [(ctlBVChop, 5)] (lst .b .ready up), by decide +kernel⟩,
   ⟨e0, .b, prm [(redGroupId, 7)] (lst .b .running up), 7, by decide +kernel⟩,
   ⟨e0, lst .b .off up, by decide +kernel⟩,
   ⟨e0, lst .b .off up, { b0 := 16, resv := 1, group := 2 }, by decide +kernel⟩⟩

theorem test_witness_PulseBlockTurnsThePlaneOff :
    ∃ (e : Env) (p : Plane) (s : State), s.isl.prt = true ∧ s.isl.sys = true ∧ activeSt (lane s p).st = true ∧ urgentListed s e.chan =
      true ∧ e.flags = 0 ∧ (p = .b → s.prt.chopOn = false) :=
  ⟨e0, .b, prm [(ctlBVChop, 5)] (lst .b .ready up), by decide +kernel⟩

theorem test_witness_SetParamChecksThenWrites :
    (∃ (e : Env) (es : List PEntry) (s : State), e.handle = 0 ∧ 1 ≤ es.length ∧ es.length ≤ 64 ∧ txnBusy s = false ∧ Fresh 0x0101 1 e s
      ∧ paramFailure .config es (acceptSeq e s) = none) ∧
    (∃ (e : Env) (es : List PEntry) (s : State), ∃ i x st, e.handle = 0 ∧ 1 ≤ es.length ∧ es.length ≤ 64 ∧ txnBusy s = false ∧ Fresh
      0x0101 1 e s ∧ paramFailure .config es (acceptSeq e s) = some (i, x, st)) ∧
    (∃ (e : Env) (es : List PEntry) (s : State), e.handle = 0 ∧ 1 ≤ es.length ∧ es.length ≤ 64 ∧ txnBusy s = false ∧ Fresh 0x0030 1 e s
      ∧ paramFailure .control es (acceptSeq e s) = none) ∧
    (∃ (x : PEntry) (d : PDef) (l : List PEntry) (s : State), paramRow x.id = some d) ∧
    (∃ (x : PEntry) (d : PDef) (l : List PEntry) (s : State), paramRow x.id = some d ∧ d.commit = .boundary) ∧
    (∃ (x : PEntry) (d : PDef) (l : List PEntry) (s : State), paramRow x.id = some d ∧ d.commit = .reset) ∧
    (∃ (x : PEntry) (d : PDef) (l : List PEntry) (s : State), paramRow x.id = some d ∧ d.commit ≠ .boundary ∧ d.commit ≠ .reset) :=
  ⟨⟨e0, w [(clkTcCycles, 500), (netEthQEn 0, 3)], up, by decide +kernel⟩,
   ⟨e0, w [(1, 1)], up, _, _, _, by decide +kernel, by decide +kernel, by decide +kernel, by decide +kernel, by decide +kernel, rfl⟩,
   ⟨e0, w [(protTestKind, 1)], up, by decide +kernel⟩,
   ⟨{ id := 272, val := 500 }, _, w [(clkTcCycles, 500), (netEthQEn 0, 3)], up, rfl⟩,
   ⟨{ id := 1793, val := 1 }, _, [{ id := ctlMode 0, val := 1 }], up, rfl, by decide +kernel⟩,
   ⟨{ id := 5895, val := 1 }, _, [{ id := 0x1707, val := 1 }], up, rfl, by decide +kernel⟩,
   ⟨{ id := 272, val := 500 }, _, w [(clkTcCycles, 500), (netEthQEn 0, 3)], up, rfl, by decide +kernel, by decide +kernel⟩⟩

theorem test_witness_TestPatternsNeverNameBothSwitches :
    ∃ (e : Env) (k : Nat) (n : Nat) (v : Word) (s : State), Fresh 0x0101 1 e s ∧ e.handle = 0 ∧ txnBusy s = false ∧ k < 3 ∧ n < 16 ∧ 16
      * k + n < 36 ∧ (k = 2 → v.toNat < 256) ∧ v.getLsbD (2 * n) = true ∧ v.getLsbD (2 * n + 1) = true :=
  ⟨e0, 0, 0, 7, updLane .m (fun l => { l with fifo := [2 ^ 60, 8] }) (lst .m .running up), by decide +kernel⟩

theorem test_witness_GetParamReads :
    (∃ (e : Env) (ids : List Nat) (s : State), Fresh 0x0100 9 e s ∧ s.isl.recovery = false ∧ 1 ≤ ids.length ∧ ids.length ≤ 64 ∧
      firstUndefined 0 ids = none ∧ e.flags.testBit 3 = false) ∧
    (∃ (e : Env) (ids : List Nat) (s : State), ∃ i id, Fresh 0x0100 9 e s ∧ s.isl.recovery = false ∧ 1 ≤ ids.length ∧ ids.length ≤ 64 ∧
      firstUndefined 0 ids = some (i, id)) ∧
    (∃ (e : Env) (ids : List Nat) (s : State), Fresh 0x0100 9 e s ∧ s.isl.recovery = false ∧ 1 ≤ ids.length ∧ ids.length ≤ 64 ∧
      firstUndefined 0 ids = none ∧ e.flags.testBit 3 = true ∧ (∀ i ∈ ids, i < 0x0F00 ∨ 0x1140 ≤ i)) :=
  ⟨⟨e0, [272, 1282, 4845], up, by decide +kernel⟩,
   ⟨e0, [7], lst .b .running up, _, _, by decide +kernel, by decide +kernel, by decide +kernel, by decide +kernel, rfl⟩,
   ⟨{ e0 with flags := 8 }, [272, 1282, 4845], up, by decide +kernel⟩⟩

theorem test_witness_ParameterWritesWithEffects :
    (∃ (e : Env) (v : Word) (s : State), Writes e [(protTestGo, v)] s ∧ v ≠ 0) ∧
    (∃ (e : Env) (v : Word) (s : State), Writes e [(protTestGo, v)] s ∧ v = 0) ∧
    (∃ (e : Env) (v : Word) (s : State) (p : Plane), Writes e [(modSetValid p.code, v)] s ∧ v ≠ 0) ∧
    (∃ (e : Env) (v : Word) (s : State) (p : Plane), Writes e [(modSetValid p.code, v)] s ∧ v = 0) ∧
    (∃ (e : Env) (v : Word) (s : State) (p : Plane), Writes e [(ctlMode p.code, v)] s) ∧
    (∃ (e : Env) (v : Word) (s : State) (p : Plane), (lane s p).st = .running ∧ (modr s p).carrier = true) ∧
    (∃ (e : Env) (v : Word) (s : State) (p : Plane), (lane s p).st = .running ∧ (modr s p).carrier = false) ∧
    (∃ (e : Env) (v : Word) (s : State), Writes e [(clkPhaseStep, v)] s) ∧
    (∃ (e : Env) (v : Word) (s : State), Writes e [(timeLatch, v)] s ∧ v ≠ 0) ∧
    (∃ (e : Env) (v : Word) (s : State), Writes e [(ybusSurvey, v)] s ∧ v ≠ 0 ∧ onYbus s = true) ∧
    (∃ (e : Env) (v : Word) (s : State) (n : Nat), n < 2 ∧ Writes e [(netEthQEn n, v)] s) ∧
    (∃ (e : Env) (v : Word) (s : State), pllm s = 1 ∧ Writes e [(clkRefSel, v)] s) ∧
    (∃ (e : Env) (v : Word) (s : State) (bw : Bool), pllm s = 1 ∧ Writes e [(if bw then clkPllmBw else clkRefMode, v)] s ∧ parBits s
      clkPllmStatus 3 2 = par s clkRefSel ∧ parBit s clkPllmStatus 7 = true) :=
  ⟨⟨e0, 1, lst .b .test up, by decide +kernel⟩,
   ⟨e0, 0, lst .b .test up, by decide +kernel⟩,
   ⟨e0, 1, prm [(modPsSrc 0, 1)] up, .g, by decide +kernel⟩,
   ⟨e0, 0, prm [(modPsSrc 1, 1)] up, .m, by decide +kernel⟩,
   ⟨e0, 0, lst .b .off up, .b, by decide +kernel⟩,
   ⟨e0, 0, md .g (fun m => { m with carrier := true }) (lst .g .running up), .g, by decide +kernel⟩,
   ⟨e0, 0, lst .b .running up, .b, by decide +kernel⟩,
   ⟨e0, 0, lst .b .off up, by decide +kernel⟩,
   ⟨e0, 1, lst .b .off up, by decide +kernel⟩,
   ⟨e0, 1, { prm [(ybusStatus, 16)] up with isl := { up.isl with yOpen := true } }, by decide +kernel⟩,
   ⟨e0, 0, lst .b .off up, 0, by decide +kernel⟩,
   ⟨e0, 1, pll 1 up, by decide +kernel⟩,
   ⟨e0, 1, prm [(clkPllmStatus, 129)] up, true, by decide +kernel⟩⟩

theorem test_witness_Comparators :
    (∃ (e : Env) (tc : Nat) (b : Nat) (w : BitVec 48) (s : State), tc < 16 ∧ Writes e
      [(timeTcEvtLo tc, w.truncate 32), (timeTcEvtHi tc, (w >>> 32).truncate 32), (timeTcCtrl tc, BitVec.ofNat 32 (b % 4 + 4))] s ∧
      signedOf 48 (toBits 48 ((baseField s (b % 4) 0 : Int) - w.toNat)) < 0) ∧
    (∃ (e : Env) (tc : Nat) (b : Nat) (w : BitVec 48) (s : State), tc < 16 ∧ Writes e
      [(timeTcEvtLo tc, w.truncate 32), (timeTcEvtHi tc, (w >>> 32).truncate 32), (timeTcCtrl tc, BitVec.ofNat 32 (b % 4 + 4))] s ∧
      0 ≤ signedOf 48 (toBits 48 ((baseField s (b % 4) 0 : Int) - w.toNat)) ∧ s.isl.acq = true) ∧
    (∃ (e : Env) (tc : Nat) (b : Nat) (s : State), tc < 16 ∧ Writes e [(timeTcCtrl tc, BitVec.ofNat 32 (b % 4))] s) ∧
    (∃ (tc : Nat) (c : Nat) (s : State), tc < 16 ∧ tcDue s tc c = true) ∧
    (∃ (tc : Nat) (c : Nat) (s : State), (16 ≤ tc ∨ tcDue s tc c = false)) :=
  ⟨⟨e0, 0, 0, 1, lst .b .off up, by decide +kernel⟩,
   ⟨e0, 0, 0, 0, lst .b .off up, by decide +kernel⟩,
   ⟨e0, 0, 0, lst .b .off up, by decide +kernel⟩,
   ⟨3, 1, prm [(timeTcCtrl 3, 5)] up, by decide +kernel⟩,
   ⟨0, 0, lst .b .off up, by decide +kernel⟩⟩

theorem test_witness_CaptureAndRecords :
    (∃ (e : Env) (v : Word) (s : State), s.isl.acq = true ∧ Writes e [(acqCtrl, v ||| 1)] s ∧ parBit s acqCtrl 0 = false ∧ (slotAt s
      0).st = .free ∧ s.acq.slots.length = 8) ∧
    (∃ (e : Env) (v : Word) (s : State) (n : Nat), s.isl.acq = true ∧ Writes e [(acqCtrl, v &&& ~~~1)] s ∧ parBit s acqCtrl 0 = true ∧
      s.acq.active = some n ∧ n < s.acq.slots.length) ∧
    (∃ (e : Env) (u : Nat) (s : State), Fresh 0x0040 1 e s ∧ u < 32 ∧ tuOn s u = true ∧ tuKind s u = 4 ∧ s.acq.armed.getLsbD u = true) ∧
    (∃ (x : Rat × Nat) (l : List (Rat × Nat)) (s : State), s.ybus.apply = x :: l) ∧
    (∃ (e : Env) (n : Nat) (s : State), Fresh 0x0041 1 e s ∧ n < slotCount s ∧ n < s.acq.slots.length ∧ (slotAt s n).st = .closed ∧
      (replaying s = false ∨ s.replay.slot ≠ n) ∧ (∀ o ∈ s.acq.reads, o.slot ≠ some n) ∧ (∀ h, s.acq.arch ≠ some (h, n))) ∧
    (∃ (e : Env) (n : Nat) (s : State), Fresh 0x0041 1 e s ∧ n < slotCount s ∧ n < s.acq.slots.length ∧ (slotAt s n).st ≠ .closed) ∧
    (∃ (n : Nat) (s : State), s.acq.active = some n ∧ n < s.acq.slots.length ∧ closeDue s = true) ∧
    (∃ (s : State), closeDue s = false) ∧
    (∃ (s : State), s.isl.acq = true ∧ parBit s acqCtrl 1 = true ∧ (if s.time.stall then s.acq.slowAt + 20000000 ≤ s.time.mono else par
      s acqSlowDiv ≤ s.time.cyc - s.acq.slowCyc)) :=
  ⟨⟨e0, 0, prm [(acqChSrc 0, 1), (acqPre, 100), (acqPost, 100)] up, by decide +kernel⟩,
   ⟨e0, 2, { prm [(acqCtrl, 1)] up with acq := { up.acq with active := some 0, slots := up.acq.slots.set 0 { st := .filling } } }, 0,
      by decide +kernel⟩,
   ⟨e0, 3, prm [(acqTuCtrl 3, 9)] up, by decide +kernel⟩,
   ⟨({ up with ybus := { up.ybus with apply := [(5, 1), (6, 1)] } }).ybus.apply.headD (0, 0),
      ({ up with ybus := { up.ybus with apply := [(5, 1), (6, 1)] } }).ybus.apply.tail,
      { up with ybus := { up.ybus with apply := [(5, 1), (6, 1)] } }, by decide +kernel⟩,
   ⟨e0, 2, prm [(acqSlots, 3)] (cl 2 up), by decide +kernel, by decide +kernel, by decide +kernel, by decide +kernel,
      by decide +kernel, by decide +kernel, fun h => by rw
      [show (prm [(acqSlots, 3)] (cl 2 up)).acq.arch = none from by decide +kernel]; simp⟩,
   ⟨e0, 0, lst .b .off up, by decide +kernel⟩,
   ⟨0, aqs (fun a => { a with active := some 0 }) (slots 0 { st := .post, left := 0, num := 5, kt := some 3, count := 3 } up),
      by decide +kernel⟩,
   ⟨lst .b .off up, by decide +kernel⟩,
   ⟨prm [(acqCtrl, 2), (acqSlowDiv, 1)] { up with time := { up.time with cyc := 5 } }, by decide +kernel⟩⟩

theorem test_witness_ReplaysStartAndEnd :
    (∃ (e : Env) (s : State), Fresh 0x0042 1 e s ∧ Room s ∧ replayStatus (acceptSeq e s) = stOk) ∧
    (∃ (s : State), replaying s = true ∧ s.isl.acq = true ∧ s.replay.played = false ∧ s.replay.active = false ∧ s.replay.bad = none ∧
      s.replay.go = true) ∧
    (∃ (e : Env) (s : State), ∃ h, Fresh 0x0043 1 e s ∧ s.replay.handle = some h) ∧
    (∃ (e : Env) (s : State), Fresh 0x0043 1 e s ∧ replaying s = false) ∧
    (∃ (h : Nat) (s : State), s.replay.handle = some h ∧ tansyUp s = true ∧ s.replay.played = true) ∧
    (∃ (h : Nat) (s : State), s.replay.handle = some h ∧ tansyUp s = true ∧ s.replay.active = true ∧ s.replay.sub = none) ∧
    (∃ (h : Nat) (s : State) (n : Nat), ∃ i, s.replay.handle = some h ∧ tansyUp s = true ∧ beforeTile s n = some i ∧ s.replay.played =
      false) ∧
    (∃ (s : State) (r : RpEnd), s.replay = {}) :=
  ⟨⟨e0, prm [(acqRpMode, 6), (acqRpMap 0, 65536 + 0x4000), (acqRpMap 1, 65536 + 0x4101), (acqRpLen, 1)] (slots 0
      { st := .closed, num := 3, count := 2, ring := [{ k := 1, words := [1, 1] }, { k := 0, words := [2, 2] }], routes := [0x40, 0x41], status := 1 }
      (lst .b .stopped up)), by decide +kernel⟩,
   ⟨rps { handle := some 5, go := true, len := 2, loops := 1 } up, by decide +kernel⟩,
   ⟨e0, op 5 0x0042 { up with replay := { up.replay with handle := some 5, played := true } }, _, by decide +kernel, rfl⟩,
   ⟨e0, lst .b .off up, by decide +kernel⟩,
   ⟨5, op 5 0x0042 { up with replay := { up.replay with handle := some 5, played := true } }, by decide +kernel⟩,
   ⟨5, rps { handle := some 5, active := true, len := 2, loops := 1 } up, by decide +kernel⟩,
   ⟨5, rps { handle := some 5, go := true, len := 2, loops := 1 } up, 1, _, by decide +kernel, by decide +kernel, rfl,
      by decide +kernel⟩,
   ⟨lst .b .off up, .last, by decide +kernel⟩⟩

theorem test_witness_RecordTransfers :
    (∃ (e : Env) (n : Nat) (s : State), Fresh 0x0210 1 e s ∧ Room s ∧ s.isl.acq = true ∧ n < slotCount s ∧ n < s.acq.slots.length ∧
      (slotAt s n).st = .closed) ∧
    (∃ (e : Env) (n : Nat) (s : State), Fresh 0x0211 1 e s ∧ Room s ∧ n < slotCount s ∧ n < s.acq.slots.length ∧ (slotAt s n).st =
      .closed ∧ s.acq.arch = none) ∧
    (∃ (h : Nat) (n : Nat) (s : State), s.acq.arch = some (h, n) ∧ n < s.acq.slots.length ∧ tansyUp s = true) ∧
    (∃ (e : Env) (n : Nat) (tiles : Nat) (s : State), Fresh 0x0212 1 e s ∧ Room s ∧ n < slotCount s ∧ n < s.acq.slots.length ∧ (slotAt s
      n).st = .free ∧ s.acq.load = none ∧ 1 ≤ tiles ∧ tiles ≤ dataTiles s + 1) ∧
    (∃ (e : Env) (p : DataPay) (o : LoadOp) (f : Frag) (fs : List Frag) (s : State), Fresh 0x0213 1 e s ∧ dataLen p.data = true ∧
      s.acq.load = some o ∧ o.handle = e.handle ∧ p.pre.b6 = 0 ∧ p.pre.grp = 0 ∧ p.pre.unit < o.total ∧ p.pre.offset + p.data.length
      ≤ 4096 ∧ (tabGet (fun _ => []) (slotAt s o.slot).raw p.pre.unit).length = 0 ∧ addFrag p.pre.unit 0 0 p.pre.offset p.data
      o.frags = some (f, fs) ∧ fragWhole 4096 f = none) ∧
    (∃ (e : Env) (p : DataPay) (s : State), Fresh 0x0213 1 e s ∧ dataLen p.data = true ∧ s.acq.load = none) ∧
    (∃ (o : ReadOp) (l : List ReadOp) (s : State), s.acq.reads = o :: l ∧ bulkRoom s o.handle = true ∧ o.tiles = [] ∧ tansyUp s = true) ∧
    (∃ (o : ReadOp) (l : List ReadOp) (s : State), ∃ u b r, s.acq.reads = o :: l ∧ bulkRoom s o.handle = true ∧ o.tiles = (u, b) :: r ∧
      o.off + 1424 < b.length) ∧
    (∃ (b : Bool) (s : State), s.acq.reads = []) ∧
    (∃ (b : Bool) (o : ReadOp) (l : List ReadOp) (s : State), s.acq.reads = o :: l ∧ bulkRoom s o.handle = false) :=
  ⟨⟨e0, 2, prm [(acqSlots, 3)] (cl 2 up), by decide +kernel⟩,
   ⟨e0, 2, prm [(acqSlots, 3)] (cl 2 up), by decide +kernel⟩,
   ⟨7, 2, op 7 0x0211 (aqs (fun a => { a with arch := some (7, 2) }) (cl 2 up)), by decide +kernel⟩,
   ⟨e0, 0, 1, lst .b .off up, by decide +kernel⟩,
   ⟨{ chan := .spi, seq := 1, handle := 7 }, { pre := { unit := 1, offset := 4 }, data := [1, 2, 3, 4] }, (op 7 0x0212 (aqs (fun a =>
      { a with load := some { handle := 7, slot := 2, total := 3 } }) (slots 2 { st := .loading } up))).acq.load.getD
      { handle := 1, slot := 0, total := 1 }, (addFrag 1 0 0 4 [0x01#8, 0x02#8, 0x03#8, 0x04#8] ((op 7 0x0212 (aqs (fun a =>
      { a with load := some { handle := 7, slot := 2, total := 3 } }) (slots 2 { st := .loading } up))).acq.load.elim []
      (·.frags))).elim { unit := 0 } (·.1), (addFrag 1 0 0 4 [0x01#8, 0x02#8, 0x03#8, 0x04#8] ((op 7 0x0212 (aqs (fun a =>
      { a with load := some { handle := 7, slot := 2, total := 3 } }) (slots 2 { st := .loading } up))).acq.load.elim []
      (·.frags))).elim [] (·.2), op 7 0x0212 (aqs (fun a => { a with load := some { handle := 7, slot := 2, total := 3 } }) (slots 2
      { st := .loading } up)), by decide +kernel⟩,
   ⟨e0, { pre := { unit := 1, offset := 4 }, data := [1, 2, 3, 4] }, up, by decide +kernel⟩,
   ⟨(op 7 0x0210 (aqs (fun a => { a with reads := [{ handle := 7 }] }) up)).acq.reads.headD { handle := 1 }, (op 7 0x0210 (aqs (fun a
      => { a with reads := [{ handle := 7 }] }) up)).acq.reads.tail, op 7 0x0210 (aqs (fun a =>
      { a with reads := [{ handle := 7 }] }) up), by decide +kernel⟩,
   ⟨(op 7 0x0210 (aqs (fun a => { a with reads := [{ handle := 7, tiles := [(1, List.replicate 3000 0)] }] }) (cl 2
      up))).acq.reads.headD { handle := 1 }, (op 7 0x0210 (aqs (fun a =>
      { a with reads := [{ handle := 7, tiles := [(1, List.replicate 3000 0)] }] }) (cl 2 up))).acq.reads.tail, op 7 0x0210 (aqs
      (fun a => { a with reads := [{ handle := 7, tiles := [(1, List.replicate 3000 0)] }] }) (cl 2 up)), _, _, _,
      by decide +kernel, by decide +kernel, rfl, by decide +kernel⟩,
   ⟨true, lst .b .off up, by decide +kernel⟩,
   ⟨true,
      ({ aqs (fun a => { a with reads := [{ handle := 7 }] }) (op 7 0x0210 up) with host := { (op 7 0x0210 up).host with out := List.replicate 64 {} } }).acq.reads.headD
      { handle := 1 },
      ({ aqs (fun a => { a with reads := [{ handle := 7 }] }) (op 7 0x0210 up) with host := { (op 7 0x0210 up).host with out := List.replicate 64 {} } }).acq.reads.tail,
      { aqs (fun a => { a with reads := [{ handle := 7 }] }) (op 7 0x0210 up) with host := { (op 7 0x0210 up).host with out := List.replicate 64 {} } },
      by decide +kernel⟩⟩

theorem test_witness_HandleQueryAnswers :
    (∃ (e : Env) (h : Nat) (s : State) (o : Op), Fresh 0x0060 1 e s ∧ findOp s h = some o) ∧
    (∃ (e : Env) (h : Nat) (s : State) (d : Done), Fresh 0x0060 1 e s ∧ findOp s h = none ∧ s.host.log.find? (fun x => decide (x.handle
      = h)) = some d) ∧
    (∃ (e : Env) (h : Nat) (s : State), Fresh 0x0060 1 e s ∧ findOp s h = none ∧ s.host.log.find? (fun x => decide (x.handle = h)) =
      none) :=
  ⟨⟨e0, 5, op 5 0x0042 { up with replay := { up.replay with handle := some 5, played := true } }, (op 5 0x0042
      { up with replay := { up.replay with handle := some 5, played := true } }).host.ops.headD
      { handle := 1, opcode := 1, chan := .spi }, by decide +kernel⟩,
   ⟨e0, 263, { up with host := { up.host with log := [{ handle := 263, status := 0, payload := [1, 2] }] } },
      ({ up with host := { up.host with log := [{ handle := 263, status := 0, payload := [1, 2] }] } }).host.log.headD
      { handle := 1, status := 0, payload := [] }, by decide +kernel⟩,
   ⟨e0, 0, lst .b .off up, by decide +kernel⟩⟩

theorem test_witness_CancelsAndLostEvents :
    (∃ (e : Env) (h : Nat) (o : Op) (s : State), ∃ m, Fresh 0x0061 1 e s ∧ findOp s h = some o ∧ o.opcode = 0x0120 ∧ s.isl.selfTest =
      some (h, m) ∧ (∀ p, (lane s p).stopping ≠ some h)) ∧
    (∃ (e : Env) (h : Nat) (o : Op) (s : State) (p : Plane), Fresh 0x0061 1 e s ∧ findOp s h = some o ∧ o.opcode = opArm ∧ (lane s
      p).arming = some h ∧ (lane s p).queued = [] ∧ (lane s p).clearPend = [] ∧ (∀ q, (lane s q).stopping ≠ some h) ∧ (∀ q, q ≠ p →
      (lane s q).arming ≠ some h ∧ (∀ x ∈ (lane s q).queued, x.1 ≠ h) ∧ (∀ x ∈ (lane s q).clearPend, x.2 ≠ h))) ∧
    (∃ (e : Env) (h : Nat) (o : Op) (s : State), Fresh 0x0061 1 e s ∧ findOp s h = some o ∧ (o.opcode = 0x0122 ∨ (o.opcode = opStop ∧ ∃
      p, (lane s p).stopping = some h))) ∧
    (∃ (e : Env) (h : Nat) (s : State), Fresh 0x0061 1 e s ∧ findOp s h = none) ∧
    (∃ (s : State), s.isl.sys = true ∧ 0 < s.host.lost ∧ s.host.out.length < 64) ∧
    (∃ (s : State), s.host.lost = 0) :=
  ⟨⟨e0, 263, ({ op 263 0x0120 up with isl := { up.isl with selfTest := some (263, 3) } }).host.ops.headD
      { handle := 1, opcode := 1, chan := .spi }, { op 263 0x0120 up with isl := { up.isl with selfTest := some (263, 3) } }, _,
      by decide +kernel, by decide +kernel, by decide +kernel, rfl, fun p => by cases p <;> decide +kernel⟩,
   ⟨e0, 263, (op 263 opArm (updLane .b (fun l => { l with arming := some 263 }) (lst .b .stopped up))).host.ops.headD
      { handle := 1, opcode := 1, chan := .spi }, op 263 opArm (updLane .b (fun l => { l with arming := some 263 }) (lst .b .stopped
      up)), .b, by decide +kernel, by decide +kernel, by decide +kernel, by decide +kernel, by decide +kernel, by decide +kernel,
      fun p => by cases p <;> decide +kernel, fun p => by cases p <;> decide +kernel⟩,
   ⟨e0, 263, (fw (fun f => { f with saving := some (263, 1, { seq := 4 }) }) (op 263 0x0122 up)).host.ops.headD
      { handle := 1, opcode := 1, chan := .spi }, fw (fun f => { f with saving := some (263, 1, { seq := 4 }) }) (op 263 0x0122 up),
      by decide +kernel, by decide +kernel, .inl (by decide +kernel)⟩,
   ⟨e0, 0, lst .b .off up, by decide +kernel⟩,
   ⟨{ up with host := { up.host with lost := 3 } }, by decide +kernel⟩,
   ⟨lst .b .off up, by decide +kernel⟩⟩

theorem test_witness_TransactionsOpenAndEnd :
    (∃ (e : Env) (s : State), Fresh 0x0110 3 e s ∧ Room s ∧ s.txn = none) ∧
    (∃ (e : Env) (s : State) (x : Txn), Fresh 0x0110 3 e s ∧ Room s ∧ s.txn = some x) ∧
    (∃ (e : Env) (x : Txn) (o : Op) (s : State), Fresh 0x0113 1 e s ∧ s.txn = some x ∧ x.handle = e.handle ∧ findOp s x.handle = some o
      ∧ (x.st ≠ .committing ∨ (x.grp = 0 ∧ x.ctlDone = false ∧ switchDue x s = false))) ∧
    (∃ (x : Txn) (s : State) (o : Op), s.txn = some x ∧ x.st ≠ .committing ∧ tansyUp s = true ∧ findOp s x.handle = some o) ∧
    (∃ (x : Txn) (s : State), s.txn = some x ∧ x.st = .committing) :=
  ⟨⟨e0, lst .b .off up, by decide +kernel⟩,
   ⟨{ chan := .spi, seq := 1, handle := 263 }, tx { handle := 263 } up, (tx { handle := 263 } up).txn.getD { handle := 1 },
      by decide +kernel⟩,
   ⟨{ chan := .spi, seq := 1, handle := 263 }, (tx { handle := 263 } up).txn.getD { handle := 1 }, (tx { handle := 263 }
      up).host.ops.headD { handle := 1, opcode := 1, chan := .spi }, tx { handle := 263 } up, by decide +kernel⟩,
   ⟨(tx { handle := 263 } up).txn.getD { handle := 1 }, tx { handle := 263 } up, (tx { handle := 263 } up).host.ops.headD
      { handle := 1, opcode := 1, chan := .spi }, by decide +kernel⟩,
   ⟨(tx { handle := 263, st := .committing } up).txn.getD { handle := 1 }, tx { handle := 263, st := .committing } up,
      by decide +kernel⟩⟩

theorem test_witness_TransactionsPrepareAndCommit :
    (∃ (e : Env) (x : Txn) (s : State), Fresh 0x0111 1 e s ∧ s.txn = some x ∧ x.handle = e.handle ∧ x.st = .openT ∧ groupsOk x = true) ∧
    (∃ (x : Txn) (s : State), s.txn = some x ∧ x.st = .preparing ∧ prepareBad x s = none) ∧
    (∃ (x : Txn) (s : State) (o : Op), ∃ f, s.txn = some x ∧ x.st = .preparing ∧ prepareBad x s = some f ∧ tansyUp s = true ∧ findOp s
      x.handle = some o) ∧
    (∃ (e : Env) (x : Txn) (k : Nat) (c : Nat) (s : State), Fresh 0x0112 1 e s ∧ s.txn = some x ∧ x.handle = e.handle ∧ x.st = .prepared
      ∧ c = (if k = 0 then boundaryAhead (acceptSeq e s) else k) ∧ commitStatus x c (acceptSeq e s) = stOk) :=
  ⟨⟨{ chan := .spi, seq := 1, handle := 263 }, (tx { handle := 263 } up).txn.getD { handle := 1 }, tx { handle := 263 } up,
      by decide +kernel⟩,
   ⟨(tx { handle := 263, st := .preparing, entries := w [(clkTcCycles, 500)] } up).txn.getD { handle := 1 }, tx
      { handle := 263, st := .preparing, entries := w [(clkTcCycles, 500)] } up, by decide +kernel⟩,
   ⟨(tx { handle := 263, st := .preparing, entries := w [(clkTcCycles, 7)] } up).txn.getD { handle := 1 }, tx
      { handle := 263, st := .preparing, entries := w [(clkTcCycles, 7)] } up, (tx
      { handle := 263, st := .preparing, entries := w [(clkTcCycles, 7)] } up).host.ops.headD
      { handle := 1, opcode := 1, chan := .spi }, _, by decide +kernel, by decide +kernel, rfl, by decide +kernel,
      by decide +kernel⟩,
   ⟨{ chan := .spi, seq := 1, handle := 263 }, (tx { handle := 263, st := .prepared, entries := w [(clkTcCycles, 500)] } up).txn.getD
      { handle := 1 }, 5000, 5000, tx { handle := 263, st := .prepared, entries := w [(clkTcCycles, 500)] } up, by decide +kernel⟩⟩

theorem test_witness_TransactionsSwitch :
    (∃ (x : Txn) (s : State), s.txn = some x ∧ x.st = .committing ∧ switchDue x s = true ∧ s.isl.halted = false ∧ missing x s = [] ∧
      s.isl.ctl = true) ∧
    (∃ (x : Txn) (s : State), s.txn = some x ∧ x.st = .committing ∧ switchDue x s = false ∧ s.isl.ctl = true ∧ x.grp = 0) ∧
    (∃ (x : Txn) (s : State), s.txn = some x ∧ x.st = .committing ∧ s.isl.halted = true) ∧
    (∃ (x : Txn) (s : State), s.txn = some x ∧ x.grp ≠ 0 ∧ x.ctlDone = false ∧ tansyUp s = true) :=
  ⟨⟨(tx { handle := 263, st := .committing } up).txn.getD { handle := 1 }, tx { handle := 263, st := .committing } up,
      by decide +kernel⟩,
   ⟨({ tx { handle := 263, st := .committing, kc := 3, due := 3, entries := w [(netEthQEn 0, 3)] } up with free := 0 }).txn.getD
      { handle := 1 },
      { tx { handle := 263, st := .committing, kc := 3, due := 3, entries := w [(netEthQEn 0, 3)] } up with free := 0 },
      by decide +kernel⟩,
   ⟨(isl (fun i => { i with halted := true }) (tx { handle := 263, st := .committing } up)).txn.getD { handle := 1 }, isl (fun i =>
      { i with halted := true }) (tx { handle := 263, st := .committing } up), by decide +kernel⟩,
   ⟨(tx { handle := 263, st := .committing, kc := 3, due := 300, grp := 1, entries := w [(netEthQEn 0, 3)] } up).txn.getD
      { handle := 1 }, tx { handle := 263, st := .committing, kc := 3, due := 300, grp := 1, entries := w [(netEthQEn 0, 3)] } up,
      by decide +kernel⟩⟩

theorem test_witness_SyncPrechargeAndDischarge :
    (∃ (e : Env) (s : State), Fresh 0x0020 1 e s ∧ Room s ∧ syncFits (acceptSeq e s) = true) ∧
    (∃ (e : Env) (s : State), Fresh 0x0020 1 e s ∧ Room s ∧ syncFits (acceptSeq e s) = false) ∧
    (∃ (h : Nat) (s : State), opsOf s 0x0020 = [h] ∧ tansyUp s = true) ∧
    (∃ (s : State), opsOf s 0x0020 = []) ∧
    (∃ (e : Env) (s : State), Room s ∧ Fresh 0x0021 1 e s ∧ dcFits true (acceptSeq e s) = true) ∧
    (∃ (e : Env) (s : State), Room s ∧ Fresh 0x0022 1 e s ∧ dcFits false (acceptSeq e s) = true) ∧
    (∃ (h : Nat) (s : State), opsOf s 0x0021 = [h] ∧ tansyUp s = true) ∧
    (∃ (h : Nat) (s : State), opsOf s 0x0022 = [h] ∧ tansyUp s = true) ∧
    (∃ (h : Nat) (s : State), opsOf s 0x0022 = [h] ∧ tansyUp s = true ∧ opsOf s 0x0021 = [] ∧ vdcNow s < (par s ctlBDisV : Nat)) ∧
    (∃ (s : State), opsOf s 0x0021 = [] ∧ opsOf s 0x0022 = []) :=
  ⟨⟨e0,
      { prm [(gfmState, 2), (gfmLaw, 0), (gfmBrkMode, 1), (gfmFlags, 0)] (sig 2 0x16 (sig 3 0x17 (sig 4 0x18 (lst .g .running up)))) with pins := { up.pins with busPresent := true } },
      by decide +kernel⟩,
   ⟨e0, lst .b .off up, by decide +kernel⟩,
   ⟨263, op 263 0x0020 up, by decide +kernel⟩,
   ⟨lst .b .off up, by decide +kernel⟩,
   ⟨e0, sig 2 0x36 (lst .b .running up), by decide +kernel⟩,
   ⟨e0, lst .b .running up, by decide +kernel⟩,
   ⟨263, op 263 0x0021 up, by decide +kernel⟩,
   ⟨263, op 263 0x0022 up, by decide +kernel⟩,
   ⟨263, op 263 0x0022 up, by decide +kernel⟩,
   ⟨lst .b .off up, by decide +kernel⟩⟩

theorem test_witness_OuterBoundariesAndEncoderLoss :
    (∃ (o : OuterIn) (s : State), boundaryDue s = true ∧ s.fw.hitless = none ∧ s.replay.active = false) ∧
    (∃ (o : OuterIn) (s : State), boundaryDue s = false) ∧
    (∃ (n : Nat) (s : State), n < 2 ∧ encoderOf s = some n ∧ s.isl.app = true ∧ par s msdEncFallback = 1 ∧ u124 s msdSlFmin ≤ absR (lane
      s .m).ref.f) ∧
    (∃ (n : Nat) (s : State), n < 2 ∧ encoderOf s = some n ∧ s.isl.app = true ∧ ¬(par s msdEncFallback = 1 ∧ u124 s msdSlFmin ≤ absR
      (lane s .m).ref.f) ∧ (lane s .m).st = .running ∧ (lane s .m).stopping = none) ∧
    (∃ (n : Nat) (s : State), n < 2 ∧ encoderOf s ≠ some n) :=
  ⟨⟨{ fObs := 50 }, lst .b .off up, by decide +kernel⟩,
   ⟨{ fObs := 50 }, setPar clkSampleLo 3 (tx { handle := 263, st := .committing, kc := 3, due := 3, entries := w [(netEthQEn 0, 3)] }
      up), by decide +kernel⟩,
   ⟨0, prm [(msdEncFallback, 1), (msdFeedback, 1)] (updLane .m (fun l => { l with ref := { l.ref with f := 100 } }) (lst .m .running
      up)), by decide +kernel⟩,
   ⟨0, prm [(msdEncFallback, 1), (msdFeedback, 1)] (lst .m .running up), by decide +kernel⟩,
   ⟨0, lst .b .off up, by decide +kernel⟩⟩

theorem test_witness_GroupActionsAndDescriptors :
    (∃ (e : Env) (l : List Byte) (s : State), Fresh 0x0140 1 e s ∧ Room s ∧ 24 ≤ l.length ∧ l.length ≤ 1440 ∧ l.length = 24 + fieldAt l
      6 2 ∧ groupStatus l (acceptSeq e s) = stOk) ∧
    (∃ (a : GAct) (s : State), s.red.act = some a ∧ a.decided = true ∧ a.begun = false ∧ groupRuns s = true ∧ a.kind ≠ 3 ∧ missingAt s =
      none ∧ (∀ d ∈ members s, d.verdict = 3 ∧ d.action = a.id)) ∧
    (∃ (a : GAct) (s : State), s.red.act = some a ∧ a.begun = true ∧ groupRuns s = true ∧ txnBusy s = false ∧ a.kind = 1 ∧ paramFailure
      .config (modeEntries a.payload) s = none) ∧
    (∃ (a : GAct) (s : State), s.red.act = some a ∧ a.begun = true ∧ groupRuns s = true ∧ txnBusy s = false ∧ a.kind = 2 ∧ ilvStatus
      a.payload s = stOk) ∧
    (∃ (x : Int) (a : GAct) (s : State), s.red.act = some a ∧ a.waits = true ∧ groupRuns s = true) ∧
    (∃ (s : State), s.red.act = none) ∧
    (∃ (s : State), groupRuns s = true ∧ par s redGrpAddr ≠ 0 ∧ s.eth0.up = true ∧ s.eth1.up = true) ∧
    (∃ (src : Nat) (b : List Byte) (s : State), groupRuns s = true ∧ b.length = 256 ∧ fieldAt b 0 2 = 0xD7A5 ∧ fieldAt b 2 1 = 1 ∧
      crc32c (b.take 252) = fieldAt b 252 4 ∧ fieldAt b 4 4 ≠ par s redGroupId) ∧
    (∃ (src : Nat) (b : List Byte) (s : State), groupRuns s = true ∧ b.length = 256 ∧ fieldAt b 0 2 = 0xD7A5 ∧ fieldAt b 2 1 = 1 ∧
      crc32c (b.take 252) = fieldAt b 252 4 ∧ fieldAt b 4 4 = par s redGroupId ∧ fieldAt b 3 1 ≠ yPos s ∧ (∀ d ∈ s.red.descs, d.pos
      ≠ fieldAt b 3 1)) ∧
    (∃ (q : Nat) (s : State), (∃ d ∈ s.red.descs, d.pos = q)) ∧
    (∃ (q : Nat) (s : State), (∀ d ∈ s.red.descs, d.pos ≠ q)) :=
  ⟨⟨e0, grp 2, g1, by decide +kernel⟩,
   ⟨(ga { act 2 with decided := true } (red (fun r => { r with shown := (9, 0, 3, 0) }) gy)).red.act.getD
      { handle := 1, id := 1, kind := 1 }, ga { act 2 with decided := true } (red (fun r => { r with shown := (9, 0, 3, 0) }) gy),
      by decide +kernel⟩,
   ⟨(ga { act 1 with payload := mode, decided := true, begun := true } gy).red.act.getD { handle := 1, id := 1, kind := 1 }, ga
      { act 1 with payload := mode, decided := true, begun := true } gy, by decide +kernel⟩,
   ⟨(ga { act 2 with decided := true, begun := true } gy).red.act.getD { handle := 1, id := 1, kind := 1 }, ga
      { act 2 with decided := true, begun := true } gy, by decide +kernel⟩,
   ⟨(-3), (ga { act 2 with decided := true, begun := true, waits := true } gy).red.act.getD { handle := 1, id := 1, kind := 1 }, ga
      { act 2 with decided := true, begun := true, waits := true } gy, by decide +kernel⟩,
   ⟨lst .b .off up, by decide +kernel⟩,
   ⟨{ g1 with eth0 := { g1.eth0 with up := true }, eth1 := { g1.eth1 with up := true } }, by decide +kernel⟩,
   ⟨5, desc 78 3, g1, by decide +kernel⟩,
   ⟨5, desc 77 3, { g1 with eth0 := { g1.eth0 with up := true }, eth1 := { g1.eth1 with up := true } }, by decide +kernel⟩,
   ⟨4, red (fun r => { r with descs := [{ pos := 4 }] }) g1, by decide +kernel⟩,
   ⟨0, lst .b .off up, by decide +kernel⟩⟩

theorem test_witness_SpiFrames :
    (∃ (b : List Byte) (s : State), s.isl.prt = true ∧ isCommand b = true ∧ headStatus b = stOk ∧ fieldAt b 3 1 % 4 ≠ 0) ∧
    (∃ (b : List Byte) (s : State), s.isl.prt = true ∧ isCommand b = false) ∧
    (∃ (p : Packet) (l : List Packet) (n : Nat) (s : State), s.isl.prt = true ∧ s.host.out = p :: l) ∧
    (∃ (a : Nat) (s : State), s.isl.prt = true) ∧
    (∃ (a : Nat) (v : Nat) (c : Nat) (s : State), s.isl.prt = true ∧ crc32c ([0xC3] ++ le 1 a ++ le 4 v) ≠ c) ∧
    (∃ (a : Nat) (v : Nat) (c : Nat) (s : State), s.isl.prt = true ∧ crc32c ([0xC3] ++ le 1 3 ++ le 4 v) = c) ∧
    (∃ (a : Nat) (v : Nat) (c : Nat) (r : Bool) (b : List Byte) (s : State), s.isl.prt = false ∧ alive s = true) :=
  ⟨⟨stopB 1, lst .b .running up, by decide +kernel⟩,
   ⟨[], lst .b .off up, by decide +kernel⟩,
   ⟨({ up with host := { up.host with out := [{}, {}] } }).host.out.headD {},
      ({ up with host := { up.host with out := [{}, {}] } }).host.out.tail, 100,
      { up with host := { up.host with out := [{}, {}] } }, by decide +kernel⟩,
   ⟨0, lst .b .off up, by decide +kernel⟩,
   ⟨0, 0, 0, lst .b .off up, by decide +kernel⟩,
   ⟨3, 5, 2681106642, up, by decide +kernel⟩,
   ⟨0, 0, 0, true, [], isl (fun i => { i with prt := false }) up, by decide +kernel⟩⟩

theorem test_witness_RgtTransfers :
    (∃ (e : Env) (p : DataPay) (f : Frag) (fs : List Frag) (s : State), Fresh 0x0200 1 e s ∧ dataLen p.data = true ∧ e.handle = 0 ∧
      txnBusy s = false ∧ p.pre.b6 = 0 ∧ p.pre.grp = 0 ∧ p.pre.unit < 192 ∧ p.pre.offset + p.data.length ≤ 2052 ∧ addFrag p.pre.unit
      0 0 p.pre.offset p.data s.rgt.frags = some (f, fs) ∧ fragWhole 2052 f = none) ∧
    (∃ (e : Env) (p : Pre) (s : State), Fresh 0x0201 1 e s ∧ p.b6 = 0 ∧ p.grp = 0 ∧ p.unit < 192 ∧ p.offset < 2052) ∧
    (∃ (e : Env) (p : Pre) (s : State), Fresh 0x0201 1 e s ∧ 192 ≤ p.unit) :=
  ⟨⟨e0, { pre := { unit := 1, offset := 4 }, data := [1, 2, 3, 4] }, (addFrag 1 0 0 4 [0x01#8, 0x02#8, 0x03#8, 0x04#8]
      (up).rgt.frags).elim { unit := 0 } (·.1), (addFrag 1 0 0 4 [0x01#8, 0x02#8, 0x03#8, 0x04#8] (up).rgt.frags).elim [] (·.2), up,
      by decide +kernel⟩,
   ⟨e0, ({ pre := { unit := 0, offset := 0 } } : DataPay).pre, lst .b .off up, by decide +kernel⟩,
   ⟨e0, ({ pre := { unit := 192, offset := 8 }, data := [1, 2, 3, 4] } : DataPay).pre, up, by decide +kernel⟩⟩

theorem test_witness_RedundancyAndConfirmWrites :
    (∃ (e : Env) (s : State), Writes e [(redCtrl, 2)] s ∧ par s redHashPolicy ≠ 1) ∧
    (∃ (e : Env) (s : State), Writes e [(redCtrl, 4)] s ∧ s.red.role = 1 ∧ s.red.failReq = none) ∧
    (∃ (n : Nat) (s : State) (e : Env), s.fw.run = some n ∧ n < 2 ∧ (slotOf s n).st = 2 ∧ Writes e [(fwCtrl, 1)] s) ∧
    (∃ (n : Nat) (s : State), s.fw.run = some n ∧ n < 2 ∧ (slotOf s n).st = 2 ∧ par s fwConfirmTime ≠ 0 ∧ s.fw.stopped = false) ∧
    (∃ (s : State), s.fw.stopped = true) :=
  ⟨⟨e0, prm [(redRole, 2)] (role 2 up), by decide +kernel⟩,
   ⟨e0, { up with red := { up.red with role := 1 } }, by decide +kernel⟩,
   ⟨1, prm [(fwConfirmTime, 5)] (fw (fun f => { f with run := some 1 }) (fslot 1 { st := 2 } up)), e0, by decide +kernel⟩,
   ⟨1, prm [(fwConfirmTime, 5)] (fw (fun f => { f with run := some 1 }) (fslot 1 { st := 2 } up)), by decide +kernel⟩,
   ⟨fw (fun f => { f with stopped := true }) up, by decide +kernel⟩⟩

theorem test_witness_ConfirmRaisesTheSecurityVersion :
    (∃ (n : Nat) (s : State) (e : Env), s.fw.run = some n ∧ n < 2 ∧ (slotOf s n).st = 2 ∧ Writes e [(fwCtrl, 1)] s) ∧
    (∃ (n : Nat) (s : State), s.fw.run = some n ∧ n < 2 ∧ (slotOf s n).st = 2 ∧ par s fwConfirmTime ≠ 0 ∧ s.fw.stopped = false) ∧
    (∃ (m : List Byte) (s : State), fieldAt m 8 4 < s.fw.secVer) :=
  ⟨⟨1, prm [(fwConfirmTime, 5)] (fw (fun f => { f with run := some 1 }) (fslot 1 { st := 2 } up)), e0, by decide +kernel⟩,
   ⟨1, prm [(fwConfirmTime, 5)] (fw (fun f => { f with run := some 1 }) (fslot 1 { st := 2 } up)), by decide +kernel⟩,
   ⟨List.replicate 16 0, fw (fun f => { f with secVer := 7 }) up, by decide +kernel⟩⟩

theorem test_witness_HeartbeatsAndPaths :
    (∃ (d a c0 : Nat) (s : State), s.isl.aon = true ∧ s.red.failing = none) ∧
    (∃ (d a c0 : Nat) (s : State), ∃ c, s.isl.aon = true ∧ s.red.failing = some c) ∧
    (∃ (n : Nat) (a : Nat) (b : List Byte) (s : State), n < 2 ∧ s.isl.aon = true ∧ frameIs 1 14 b = true) ∧
    (∃ (n : Nat) (a : Nat) (b : List Byte) (s : State), n < 2 ∧ s.isl.aon = true ∧ frameIs 3 4 b = true) ∧
    (∃ (n : Nat) (m : Nat) (s : State), n < 2 ∧ s.isl.aon = true ∧ (pathOf s n).up = true ∧ 8 ≤ (pathOf s n).miss + m ∧ m ≠ 0) ∧
    (∃ (d a c0 n m : Nat) (b : List Byte) (s : State), n < 2 ∧ s.isl.aon = false) :=
  ⟨⟨0, 0, 0, lst .b .off up, by decide +kernel⟩,
   ⟨1, 2, 3, red (fun r => { r with failing := some 3 }) up, _, by decide +kernel, rfl⟩,
   ⟨1, 2, hb, red (fun r => { r with pathB := { up := 3 } }) up, by decide +kernel⟩,
   ⟨1, 2, frameOf 3 [1, 2, 3], up, by decide +kernel⟩,
   ⟨0, 33, red (fun r => { r with role := 2, pathA := { up := true }, snaps := [{}] }) (fw (fun f =>
      { f with run := some 1, nonce := List.replicate 16 0 }) (fslot 1
      { st := 3, flash := ((Config.sha512 (List.replicate 832 0)).zipIdx.filterMap fun x => if x.1 = 0 then none else some (832 + x.2, x.1)) }
      up)), by decide +kernel⟩,
   ⟨0, 0, 0, 0, 0, [], { up with isl := { up.isl with aon := false } }, by decide +kernel⟩⟩

theorem test_witness_FailRolesAndTakeovers :
    (∃ (n i q d a : Nat) (x b : List Byte) (s : State), n < 2 ∧ s.isl.aon = true ∧ b = snapFrame i q d x ∧ frameIs 2 522 b = true ∧
      fieldAt b 1 1 < 8 ∧ s.red.inSnap = none) ∧
    (∃ (c : Nat) (s : State), s.red.failReq = some c ∧ s.red.role = 1 ∧ s.isl.aon = true) ∧
    (∃ (s : State), s.red.role ≠ 1) ∧
    (∃ (s : State), s.red.window = true ∧ s.isl.aon = true ∧ par s redRole = 1) ∧
    (∃ (s : State), s.red.window = true ∧ s.isl.aon = true ∧ par s redRole = 2) ∧
    (∃ (s : State), s.red.window = true ∧ s.isl.aon = true ∧ par s redRole = 0) ∧
    (∃ (s : State), s.red.window = false) ∧
    (∃ (a : Nat) (s : State), s.isl.aon = true ∧ s.red.role = 3 ∧ par s redRole = 2 ∧ s.red.failSeen = true ∧ par s redHashPolicy ≠ 1) ∧
    (∃ (k : Nat) (s : State), s.red.role = 4) ∧
    (∃ (a : Nat) (k : Nat) (s : State), s.red.role = 1) :=
  ⟨⟨1, fieldAt snf 1 1, fieldAt snf 2 4, fieldAt snf 6 4, 2, snf.drop 10, snf, up, by decide +kernel⟩,
   ⟨4, red (fun r => { r with role := 1, failReq := some 4 }) up, by decide +kernel⟩,
   ⟨lst .b .off up, by decide +kernel⟩,
   ⟨prm [(redRole, 1)] (red (fun r => { r with window := true }) up), by decide +kernel⟩,
   ⟨prm [(redRole, 2)] (red (fun r => { r with window := true }) up), by decide +kernel⟩,
   ⟨red (fun r => { r with window := true }) up, by decide +kernel⟩,
   ⟨lst .b .off up, by decide +kernel⟩,
   ⟨5, prm [(redRole, 2)] (red (fun r => { r with role := 3, failSeen := true }) up), by decide +kernel⟩,
   ⟨3, role 4 up, by decide +kernel⟩,
   ⟨1, 0, { up with red := { up.red with role := 1 } }, by decide +kernel⟩⟩

theorem test_witness_HaltAndStoWithdrawEnable :
    (∃ (p : Plane) (s : State), s.isl.prt = true ∧ activeSt (lane s p).st = true) ∧
    (∃ (p : Plane) (s : State) (b : Bool), s.isl.prt = true ∧ activeSt (lane s p).st = true) ∧
    (∃ (s : State), s.pins.haltLow = true) ∧
    (∃ (s : State), stoHighNow s = false) ∧
    (∃ (s : State), s.pins.haltLow = false) :=
  ⟨⟨.b, prm [(ctlBVChop, 5)] (lst .b .ready up), by decide +kernel⟩,
   ⟨.b, prm [(ctlBVChop, 5)] (lst .b .ready up), true, by decide +kernel⟩,
   ⟨{ prt (fun r => { r with enable := 0 }) up with pins := { up.pins with haltLow := true } }, by decide +kernel⟩,
   ⟨{ up with pins := { up.pins with sto1 := false } }, by decide +kernel⟩,
   ⟨lst .b .off up, by decide +kernel⟩⟩

theorem test_witness_SystemResets :
    (∃ (p : Plane) (s : State), s.prt.resetting = none ∧ alive s = true ∧ s.isl.prt = true ∧ activeSt (lane s p).st = true) ∧
    (∃ (k : Nat) (s : State), s.prt.resetting = some k ∧ k < 4 ∧ par s sysResetCnt < 65535) ∧
    (∃ (s : State), s.prt.resetting = none) ∧
    (∃ (e : Env) (s : State), Fresh 0x0121 1 e s ∧ s.prt.resetting = none ∧ (∀ p, (lane s p).st = .off ∨ (lane s p).st = .stopped ∨
      (lane s p).st = .ready)) ∧
    (∃ (s : State), s.prt.resetting = none ∧ s.isl.ctl = false ∧ parBit s sysAutoReset 0 = true ∧ s.prt.supplyLoss = false ∧ s.isl.prt =
      true) :=
  ⟨⟨.b, prm [(ctlBVChop, 5)] (lst .b .ready up), by decide +kernel⟩,
   ⟨1, prt (fun r => { r with resetting := some 1 }) (lst .b .running up), by decide +kernel⟩,
   ⟨lst .b .off up, by decide +kernel⟩,
   ⟨e0, lst .b .off up, by decide +kernel, by decide +kernel, fun p => by cases p <;> decide +kernel⟩,
   ⟨prm [(sysAutoReset, 1)] (isl (fun i => { i with ctl := false }) up), by decide +kernel⟩⟩

theorem test_witness_InputLossAndBreakers :
    (∃ (v : Nat) (s : State), s.isl.prt = true ∧ v < 65536) ∧
    (∃ (p : Plane) (s : State), s.isl.prt = true ∧ s.prt.supplyLoss = false ∧ activeSt (lane s p).st = true) ∧
    (∃ (s : State), s.prt.supplyLoss = true ∧ s.isl.sys = true) ∧
    (∃ (s : State), s.prt.supplyLoss = true) ∧
    (∃ (s : State), s.prt.supplyLoss = false) ∧
    (∃ (s : State), parBit s protBrkCtrl 1 = false ∧ s.pins.mcAux = true ∧ s.prt.mcMis = false) ∧
    (∃ (s : State), parBit s protBrkCtrl 0 = false ∧ s.pins.brkAux = true ∧ s.prt.holdMis = false) ∧
    (∃ (s : State), s.prt.mcMis = true) ∧
    (∃ (s : State), s.prt.holdMis = true) ∧
    (∃ (s : State), (lane s .g).st = .safe ∧ parBit s protBrkCtrl 0 = true) ∧
    (∃ (s : State), (lane s .g).st ≠ .safe) :=
  ⟨⟨0, lst .b .off up, by decide +kernel⟩,
   ⟨.b, prm [(ctlBVChop, 5)] (lst .b .ready up), by decide +kernel⟩,
   ⟨prt (fun r => { r with supplyLoss := true }) up, by decide +kernel⟩,
   ⟨prt (fun r => { r with supplyLoss := true }) up, by decide +kernel⟩,
   ⟨lst .b .off up, by decide +kernel⟩,
   ⟨prm [(protBrkCtrl, 0)] { up with pins := { up.pins with mcAux := true } }, by decide +kernel⟩,
   ⟨{ up with pins := { up.pins with brkAux := true } }, by decide +kernel⟩,
   ⟨prt (fun r => { r with mcMis := true }) up, by decide +kernel⟩,
   ⟨prt (fun r => { r with holdMis := true }) up, by decide +kernel⟩,
   ⟨prm [(protBrkCtrl, 3)] (lst .g .safe up), by decide +kernel⟩,
   ⟨lst .b .off up, by decide +kernel⟩⟩

theorem test_witness_StartUp :
    (∃ (s : State), s.isl.prt = true ∧ alive s = true ∧ s.prt.supplyLoss = false ∧ s.red.take = none ∧ pllm s = 0 ∧ s.isl.askRecovery =
      true) ∧
    (∃ (s : State), pllm s = 3) ∧
    (∃ (n : Nat) (b : Bool) (s : State), s.fw.chosen = some n ∧ s.fw.run = none ∧ s.isl.sys = true) ∧
    (∃ (s : State), s.isl.sys = true ∧ s.isl.sysUp = true ∧ extOk s = true) ∧
    (∃ (a : Nat) (h : Nat) (m : Migr) (s : State), s.fw.run.isSome = true ∧ s.isl.sysUp = false ∧ s.isl.sys = true ∧ s.prt.resetting =
      none ∧ s.red.role = 0 ∧ s.fw.copy0 = none ∧ s.fw.copy1 = none) ∧
    (∃ (a : Nat) (h : Nat) (m : Migr) (s : State) (n : Nat), ∃ r, s.fw.run.isSome = true ∧ s.isl.sysUp = false ∧ s.isl.sys = true ∧
      s.prt.resetting = none ∧ s.red.role = 0 ∧ newestRec s = some (n, r) ∧ r.schema = schemaOf (runManifest s)) ∧
    (∃ (a : Nat) (h : Nat) (m : Migr) (s : State), (s.isl.sysUp = true ∨ s.prt.resetting.isSome = true)) :=
  ⟨⟨isl (fun i => { i with askRecovery := true, ctl := false, sys := false, acq := false }) up, by decide +kernel⟩,
   ⟨prm [(clkPllmStatus, 3)] up, by decide +kernel⟩,
   ⟨1, true, { up with fw := { up.fw with chosen := some 1 } }, by decide +kernel⟩,
   ⟨lst .b .off up, by decide +kernel⟩,
   ⟨3, 4, .words [] [], { isl (fun i => { i with sysUp := false }) up with fw := { up.fw with run := some 0 } }, by decide +kernel⟩,
   ⟨0, 0, .words [] [], fw (fun f => { f with run := some 0, copy0 := some { seq := 3 } })
      { up with isl := { up.isl with sysUp := false } }, 0, _, by decide +kernel, by decide +kernel, by decide +kernel,
      by decide +kernel, by decide +kernel, rfl, by decide +kernel⟩,
   ⟨0, 0, .words [] [], lst .b .off up, by decide +kernel⟩⟩

theorem test_witness_IslandsAndDebug :
    (∃ (p : Plane) (s : State), s.isl.ctl = true ∧ s.isl.prt = true ∧ activeSt (lane s p).st = true) ∧
    (∃ (s : State), s.isl.sys = true) ∧
    (∃ (x : Island) (s : State), islandRuns s x = false) ∧
    (∃ (l : List (Nat × Bool)) (s : State), resetFits .acq s = true ∧ par s sysResetCnt < 65535) ∧
    (∃ (l : List (Nat × Bool)) (s : State), resetFits .aon s = true) ∧
    (∃ (x : Restart) (s : State), islandRuns s x.island = true) ∧
    (∃ (s : State), s.isl.ctl = true ∧ s.isl.session = true) ∧
    (∃ (s : State), s.isl.ctl = true ∧ s.isl.session = false) ∧
    (∃ (p : Plane) (s : State), s.isl.halted = true ∧ (∀ q, (modr s q).stale = false)) ∧
    (∃ (s : State), s.isl.halted = false) ∧
    (∃ (s : State) (i : JtagIns), alive s = true ∧ (i = JtagIns.idcode ∨ i = JtagIns.bypass)) ∧
    (∃ (s : State), alive s = true ∧ allOff s = true ∧ (s.fw.life = 0 ∨ s.fw.life = 2)) ∧
    (∃ (s : State) (i : JtagIns), alive s = true ∧ (allOff s = false ∨ s.fw.life = 1) ∧ (i = JtagIns.debug ∨ i = JtagIns.extest)) :=
  ⟨⟨.b, prm [(ctlBVChop, 5)] (lst .b .ready up), by decide +kernel⟩,
   ⟨lst .b .off up, by decide +kernel⟩,
   ⟨.ctl, prm [(sysAutoReset, 1)] (isl (fun i => { i with ctl := false }) up), by decide +kernel⟩,
   ⟨[], isl (fun i => { i with acq := false }) up, by decide +kernel⟩,
   ⟨[], { up with isl := { up.isl with aon := false } }, by decide +kernel⟩,
   ⟨⟨.app, []⟩, lst .b .off up, by decide +kernel⟩,
   ⟨isl (fun i => { i with session := true }) up, by decide +kernel⟩,
   ⟨lst .b .off up, by decide +kernel⟩,
   ⟨.g, prm [(modSync 0, 1)] (isl (fun i => { i with session := true, halted := true }) up), by decide +kernel, fun p =>
      by cases p <;> decide +kernel⟩,
   ⟨lst .b .off up, by decide +kernel⟩,
   ⟨lst .b .off up, .idcode, by decide +kernel⟩,
   ⟨fw (fun f => { f with life := 0 }) up, by decide +kernel⟩,
   ⟨lst .b .off up, .debug, by decide +kernel⟩⟩

theorem test_witness_KeepAliveAndUndervoltage :
    (∃ (n : Nat) (m : Mon) (s : State), n < 36 ∧ alive s = true ∧ monitored n s = true) ∧
    (∃ (n : Nat) (m : Mon) (s : State), (monitored n s = false ∨ 36 ≤ n)) :=
  ⟨⟨33, .vcc, prm [(gateSupply 33, 0)] (prt (fun r => { r with supOn := BitVec.allOnes 36 }) (lst .b .running up)), by decide +kernel⟩,
   ⟨0, .vcc, lst .b .off up, by decide +kernel⟩⟩

theorem test_witness_ShortCircuitsAndDeferrals :
    (∃ (n : Nat) (b : Bool) (s : State), n < 36 ∧ alive s = true ∧ s.isl.prt = true ∧ activeSt (lane s (planeOfPort n)).st = true ∧ par
      s (gateFaultCnt n) < 65535 ∧ shortSeen true n b s = true) ∧
    (∃ (n : Nat) (b : Bool) (s : State), n < 36 ∧ alive s = true ∧ s.isl.prt = true ∧ activeSt (lane s (planeOfPort n)).st = true ∧ par
      s (gateFaultCnt n) < 65535 ∧ shortSeen false n b s = true ∧ turningOff n b s = false) ∧
    (∃ (n : Nat) (b : Bool) (s : State), shortSeen true n b s = false) ∧
    (∃ (n : Nat) (k : Nat) (a : Bool) (b : Bool) (s : State), n < k ∧ k < 36 ∧ planeOfPort n = planeOfPort k ∧ s.isl.prt = true ∧
      shortSeen false n a s = true ∧ shortSeen false k b s = true ∧ turningOff n a s = false ∧ turningOff k b s = false ∧ par s
      protShortStagger ≠ 0) ∧
    (∃ (g : Ports × Ports) (r : List (Ports × Ports)) (s : State), s.prt.stagger = g :: r) ∧
    (∃ (s : State), s.prt.stagger = []) ∧
    (∃ (n : Nat) (s : State), n < 36 ∧ alive s = true ∧ (s.prt.deferUp ||| s.prt.deferLo).getLsbD n = true) ∧
    (∃ (n : Nat) (s : State), (s.prt.deferUp ||| s.prt.deferLo) &&& portBit n = 0) :=
  ⟨⟨33, true, prt (fun r => { r with upper := b1, enable := b1, permit := b1, modEnable := b1, modPulse := b1 }) (lst .b .running up),
      by decide +kernel⟩,
   ⟨33, true, prt (fun r => { r with upper := b1, enable := b1, permit := b1, modEnable := b1, modPulse := b1 }) (lst .b .running up),
      by decide +kernel⟩,
   ⟨0, true, lst .b .off up, by decide +kernel⟩,
   ⟨33, 34, true, true, (prm [(gateCtrl 33, 15), (gateCtrl 34, 15), (protShortStagger, 5)]
      { lst .b .running up with prt := { up.prt with supOn := BitVec.allOnes 36, upper := 3#36 <<< 33, onAge := [(33, 5000), (34, 5000)] } }),
      by decide +kernel⟩,
   ⟨(8, 16), [], prt (fun r => { r with stagger := [(8, 16)], deferUp := 16, deferLo := 12 }) (lst .g .running up), by decide +kernel⟩,
   ⟨lst .b .off up, by decide +kernel⟩,
   ⟨3, prt (fun r => { r with stagger := [(8, 16)], deferUp := 16, deferLo := 12 }) (lst .g .running up), by decide +kernel⟩,
   ⟨0, lst .b .off up, by decide +kernel⟩⟩

theorem test_witness_UnavailableSwitches :
    ∃ (n : Nat) (s : State), n < 36 :=
  ⟨0, lst .b .off up, by decide +kernel⟩

theorem test_witness_PowerAndTemperatureLimits :
    (∃ (n : Nat) (w : Nat) (s : State), n < 36 ∧ alive s = true ∧ w < 65536) ∧
    (∃ (p : Plane) (w : Nat) (x : Nat) (s : State), s.isl.prt = true ∧ w < 65536 ∧ x < 65536 ∧ (lane s p).st = .running ∧ gateLimit s <
      (w : Rat)) ∧
    (∃ (p : Plane) (w : Nat) (x : Nat) (s : State), s.isl.prt = true ∧ w < 65536 ∧ x < 65536 ∧ (lane s p).st = .running ∧ (w : Rat) ≤
      gateLimit s) ∧
    (∃ (p : Plane) (x : Int) (s : State), alive s = true ∧ s.isl.prt = true ∧ activeSt (lane s p).st = true ∧ x < 32768 ∧ 9500 ≤ x) ∧
    (∃ (p : Plane) (x : Int) (s : State), alive s = true ∧ s.isl.prt = true ∧ activeSt (lane s p).st = true ∧ x < 32768 ∧ -32768 ≤ x ∧ x
      < 9500) ∧
    (∃ (n : Nat) (s : State), n < 24 ∧ s.prt.m5v.getLsbD n = true) ∧
    (∃ (n : Nat) (s : State), s.prt.m5v.getLsbD n = false) :=
  ⟨⟨0, 0, lst .b .off up, by decide +kernel⟩,
   ⟨.b, 11000, 0, prm [(protBrkCtrl, 3)] (lst .b .running up), by decide +kernel⟩,
   ⟨.b, 0, 0, lst .b .running up, by decide +kernel⟩,
   ⟨.b, (9600), lst .b .running up, by decide +kernel⟩,
   ⟨.b, (0), prm [(ctlBVChop, 5)] (lst .b .ready up), by decide +kernel⟩,
   ⟨1, prt (fun r => { r with m5v := 2 }) up, by decide +kernel⟩,
   ⟨0, lst .b .off up, by decide +kernel⟩⟩

theorem test_witness_CutsAndAscSteps :
    (∃ (p : Plane) (a : Nat) (c : Cut) (s : State), s.isl.ctl = true ∧ s.isl.halted = false ∧ s.prt.cuts = [c] ∧ c.plane = p.code ∧
      c.stage = 1 ∧ c.tag = (modr s p).bnd) ∧
    (∃ (p : Plane) (a : Nat) (c : Cut) (s : State), s.isl.ctl = true ∧ s.isl.halted = false ∧ s.prt.cuts = [c] ∧ c.plane = p.code ∧
      c.stage = 1 ∧ c.tag ≠ (modr s p).bnd) ∧
    (∃ (p : Plane) (c : Cut) (s : State), s.prt.cuts = [c] ∧ c.plane = p.code ∧ c.stage = 2) ∧
    (∃ (p : Plane) (s : State), s.prt.cutNow.getLsbD p.code = true ∧ s.isl.prt = true ∧ activeSt (lane s p).st = true ∧ par s
      (protCutCnt p.code) < 65535 ∧ par s (protTripLimit p.code) ≤ min 255 (par s (protTripRun p.code) + 1)) ∧
    (∃ (p : Plane) (s : State), s.prt.cutNow.getLsbD p.code = true ∧ s.isl.prt = true ∧ activeSt (lane s p).st = true ∧ par s
      (protCutCnt p.code) < 65535 ∧ min 255 (par s (protTripRun p.code) + 1) < par s (protTripLimit p.code)) ∧
    (∃ (m : Ports) (s : State), (lane s .m).st = .safe ∧ s.prt.ascStep ≠ 0 ∧ (ascSteps s (lane s .m).sub)[s.prt.ascStep]? = some m) ∧
    (∃ (s : State), (s.prt.ascStep = 0 ∨ (lane s .m).st ≠ .safe)) ∧
    (∃ (s : State), s.prt.forcedAsc = true ∧ s.prt.ascWanted = false) :=
  ⟨⟨.g, 0, (prt (fun r => { r with cuts := [{ plane := 0, ports := 5, tag := 0, stage := 1 }] }) (lst .g .running up)).prt.cuts.headD
      { plane := 0, ports := 1, tag := 0 }, prt (fun r => { r with cuts := [{ plane := 0, ports := 5, tag := 0, stage := 1 }] })
      (lst .g .running up), by decide +kernel⟩,
   ⟨.m, 0, (prt (fun r => { r with cuts := [{ plane := 1, ports := 5, tag := 3, stage := 1 }] }) (lst .m .running up)).prt.cuts.headD
      { plane := 0, ports := 1, tag := 0 }, prt (fun r => { r with cuts := [{ plane := 1, ports := 5, tag := 3, stage := 1 }] })
      (lst .m .running up), by decide +kernel⟩,
   ⟨.m, (prt (fun r => { r with cuts := [{ plane := 1, ports := 512, tag := 3, stage := 2 }] }) (lst .m .running up)).prt.cuts.headD
      { plane := 0, ports := 1, tag := 0 }, prt (fun r => { r with cuts := [{ plane := 1, ports := 512, tag := 3, stage := 2 }] })
      (lst .m .running up), by decide +kernel⟩,
   ⟨.m, prm [(protTripLimit 1, 3), (protTripRun 1, 2)] (prt (fun r => { r with cutNow := 15 }) (lst .m .running up)),
      by decide +kernel⟩,
   ⟨.m, prm [(protTripLimit 1, 30), (protTripRun 1, 2)] (prt (fun r => { r with cutNow := 15 }) (lst .m .running up)),
      by decide +kernel⟩,
   ⟨149504, prt (fun r => { r with ascStep := 1 }) (updLane .m (fun l => { l with st := .safe, sub := .ascLow }) up),
      by decide +kernel⟩,
   ⟨lst .b .off up, by decide +kernel⟩,
   ⟨prt (fun r => { r with forcedAsc := true }) up, by decide +kernel⟩⟩

theorem test_witness_StreamsAreLostAndReturn :
    (∃ (n : Nat) (a : Int) (s : State), n < 24 ∧ alive s = true ∧ par s (measRoute n) ≠ 0 ∧ (mport s n).loss = none ∧ par s (measCoding
      n) ≠ 1) ∧
    (∃ (n : Nat) (a : Int) (s : State), n < 24 ∧ alive s = true ∧ par s (measRoute n) ≠ 0 ∧ (mport s n).loss = none) ∧
    (∃ (n : Nat) (a : Int) (s : State), n < 24 ∧ alive s = true ∧ par s (measRoute n) ≠ 0 ∧ (mport s n).loss = none ∧ par s (measCoding
      n) = 1) ∧
    (∃ (n : Nat) (a : Int) (s : State), n < 24 ∧ alive s = true ∧ par s (measRoute n) ≠ 0 ∧ (mport s n).loss = none ∧ par s (measFrzN n)
      ≠ 0 ∧ par s (measFrzN n) ≤ (mport s n).same + 1) ∧
    (∃ (n : Nat) (a : Int) (b : Bool) (s : State), par s (measRoute n) = 0) ∧
    (∃ (n : Nat) (a : Int) (p : Plane) (s : State), n < 24 ∧ alive s = true ∧ s.isl.prt = true ∧ par s (measRoute n) = 0x40 ∧ par s
      (measCoding n) ≠ 1 ∧ activeSt (lane s p).st = true) ∧
    (∃ (n : Nat) (s : State), n < 24 ∧ alive s = true ∧ par s (measRoute n) ≠ 0 ∧ parBit s (measStatus n) 7 = false ∧ (mport s n).run =
      64) ∧
    (∃ (n : Nat) (s : State), n < 24 ∧ alive s = true ∧ par s (measRoute n) ≠ 0 ∧ parBit s (measStatus n) 7 = false ∧ (mport s n).prtRun
      = 64) ∧
    (∃ (n : Nat) (u : Bool) (s : State), ∃ k, n < 24 ∧ alive s = true ∧ par s measSkewAuto ≠ 0 ∧ par s (measRoute n) ≠ 0 ∧ par s (measCoding
      n) ≠ 1 ∧ (mport s n).skewLeft = 0 ∧ skewFound u (mport s n).skewHist = some (some k)) ∧
    (∃ (n : Nat) (u : Bool) (s : State), n < 24 ∧ alive s = true ∧ par s measSkewAuto ≠ 0 ∧ par s (measRoute n) ≠ 0 ∧ par s (measCoding n) ≠ 1 ∧
      (mport s n).skewLeft = 0 ∧ skewFound u (mport s n).skewHist = some none) ∧
    (∃ (l : List Nat) (s : State), s.isl.ctl = true ∧ s.isl.mdRun = true ∧ s.isl.halted = false) :=
  ⟨⟨2, (0),
      { prm [(gfmState, 2), (gfmLaw, 0), (gfmBrkMode, 1), (gfmFlags, 0)] (sig 2 0x16 (sig 3 0x17 (sig 4 0x18 (lst .g .running up)))) with pins := { up.pins with busPresent := true } },
      by decide +kernel⟩,
   ⟨2, (0),
      { prm [(gfmState, 2), (gfmLaw, 0), (gfmBrkMode, 1), (gfmFlags, 0)] (sig 2 0x16 (sig 3 0x17 (sig 4 0x18 (lst .g .running up)))) with pins := { up.pins with busPresent := true } },
      by decide +kernel⟩,
   ⟨1, (0), prm [(measCoding 1, 1)] (run .b), by decide +kernel⟩,
   ⟨1, (0), setMport 1 { same := 7, val := 5, valid := true } (prm [(measFrzN 1, 3)] (run .b)), by decide +kernel⟩,
   ⟨0, (0), true, lst .b .off up, by decide +kernel⟩,
   ⟨0, (0), .b, prm [(ctlBVChop, 5)] (gB .ready), by decide +kernel⟩,
   ⟨2,
      { prm [(gfmState, 2), (gfmLaw, 0), (gfmBrkMode, 1), (gfmFlags, 0)] (sig 2 0x16 (sig 3 0x17 (sig 4 0x18 (lst .g .running up)))) with pins := { up.pins with busPresent := true } },
      by decide +kernel⟩,
   ⟨1, setMport 1 { prtRun := 64, valid := true } good, by decide +kernel⟩,
   ⟨1, true, prm [(measSkewAuto, 2)] (setMport 1 { skewHist := [0, 0, 5, 6, 0, 0, 0, 0, 0, 0], valid := true } good), _, by decide +kernel,
      by decide +kernel, by decide +kernel, by decide +kernel, by decide +kernel, by decide +kernel, rfl⟩,
   ⟨1, false, prm [(measSkewAuto, 2)] (setMport 1 { skewHist := [1, 0, 5, 6, 0, 0, 1, 0, 0, 1], valid := true, prtValid := true } good),
      by decide +kernel⟩,
   ⟨[], lst .b .off up, by decide +kernel⟩⟩

theorem test_witness_StrobesAndCommitPoints :
    (∃ (l : List Nat) (s : State), s.isl.ctl = true ∧ s.txn = none) ∧
    (∃ (l : List Nat) (s : State), s.isl.ctl = true ∧ s.isl.halted = true) ∧
    (∃ (l : List Nat) (s : State), s.isl.ctl = false) ∧
    (∃ (s : State), s.isl.ctl = true ∧ s.isl.halted = false) ∧
    (∃ (l : List Plane) (s : State), s.isl.ctl = true ∧ s.isl.halted = false) ∧
    (∃ (l : List Plane) (s : State), (s.isl.ctl = false ∨ s.isl.halted = true)) :=
  ⟨⟨[], lst .b .off up, by decide +kernel⟩,
   ⟨[], prm [(modSync 0, 1)] (isl (fun i => { i with session := true, halted := true }) up), by decide +kernel⟩,
   ⟨[], prm [(sysAutoReset, 1)] (isl (fun i => { i with ctl := false }) up), by decide +kernel⟩,
   ⟨lst .b .off up, by decide +kernel⟩,
   ⟨[.b], lst .b .off up, by decide +kernel⟩,
   ⟨[.b], prm [(modSync 0, 1)] (isl (fun i => { i with session := true, halted := true }) up), by decide +kernel⟩⟩

theorem test_witness_StalledReads :
    (∃ (p : Plane) (s : State), s.isl.ctl = true ∧ s.isl.halted = false ∧ groupHeld p s = false ∧ (lane s p).fifo = []) ∧
    (∃ (p : Plane) (s : State), ∃ w l, s.isl.ctl = true ∧ s.isl.halted = false ∧ groupHeld p s = false ∧ (lane s p).fifo = w :: l ∧
      (lane s p).col01 = [] ∧ (lane s p).colWait = []) ∧
    (∃ (l : List Plane) (s : State), s.isl.ctl = true ∧ s.isl.halted = false) :=
  ⟨⟨.b, lst .b .off up, by decide +kernel⟩,
   ⟨.m, updLane .m (fun l => { l with fifo := [2 ^ 60, 8] }) (lst .m .running up), _, _, by decide +kernel, by decide +kernel,
      by decide +kernel, rfl, by decide +kernel, by decide +kernel⟩,
   ⟨[.b], lst .b .off up, by decide +kernel⟩⟩

theorem test_witness_AdaptationTripsAndSafeRegion :
    (∃ (p : Plane) (s : State), (lane s p).st = .running ∧ (modr s p).carrier = false ∧ p ≠ .b ∧ par s (ctlAdaptN p.code) ≤ (lane s
      p).win) ∧
    (∃ (p : Plane) (s : State), (lane s p).st ≠ .running) ∧
    (∃ (p : Plane) (s : State), s.isl.prt = true ∧ activeSt (lane s p).st = true ∧ sreOk s p = false) ∧
    (∃ (s : State), (∀ p, activeSt (lane s p).st = false)) ∧
    (∃ (l : List Nat) (e : List Nat) (p : Plane) (f : Nat) (s : State), s.isl.prt = true ∧ (s.isl.mdRun = true ∨ s.prt.holdUp = true) ∧
      f < ftCount p ∧ ftNow (writeCuts (tripMeas l e (agePorts s))) p f = true ∧ ftClass s p f ≠ 0 ∧ poweredSt (lane s p).st = true) ∧
    (∃ (l : List Nat) (e : List Nat) (s : State), s.isl.prt = true ∧ (s.isl.mdRun = true ∨ s.prt.holdUp = true) ∧ allStopped s = true) ∧
    (∃ (l : List Nat) (e : List Nat) (s : State), s.isl.mdRun = false ∧ s.prt.holdUp = false) :=
  ⟨⟨.g, prm [(ctlAdaptN 0, 5)] (updLane .g (fun l => { l with win := 7, nsw := 3 }) (lst .g .running up)), by decide +kernel⟩,
   ⟨.b, lst .b .off up, by decide +kernel⟩,
   ⟨.b, prm [(ctlBVChop, 5)] (lst .b .ready up), by decide +kernel⟩,
   ⟨lst .b .off up, fun p => by cases p <;> decide +kernel⟩,
   ⟨[0], [], .b, 0, prm [(protFtSrc 3 0, 0x140), (protFtHi 3 0, 2 ^ 32 - 65536), (protFtAct 3 0, 1 * 2 ^ 20 + 7)] (gB .ready),
      by decide +kernel⟩,
   ⟨[], [], lst .b .off up, by decide +kernel⟩,
   ⟨[], [], isl (fun i => { i with mdRun := false }) up, by decide +kernel⟩⟩

theorem test_witness_CountersFeedersAndMask :
    (∃ (p : Plane) (l : List Nat) (s : State), counterRuns p s = true) ∧
    (∃ (p : Plane) (s : State), counterRuns p s = true ∧ firstStep (modr s p) = none) ∧
    (∃ (p : Plane) (f : FeedStep) (s : State), counterRuns p s = true ∧ firstStep (modr s p) = some f) ∧
    (∃ (p : Plane) (l : List Nat) (w : RaceWrite) (s : State), counterRuns p s = false) ∧
    (∃ (n : Nat) (a : Nat) (p : Plane) (s : State), n < 2 ∧ s.isl.ctl = true ∧ s.isl.halted = false ∧ maskSrc s p = 1 ∧ parBits s
      (modMaskCtrl p.code) 6 1 = n) ∧
    (∃ (n : Nat) (a : Nat) (s : State), s.isl.halted = true) :=
  ⟨⟨.m, [7], lst .m .running up, by decide +kernel⟩,
   ⟨.m, lst .m .running up, by decide +kernel⟩,
   ⟨.g, (firstStep (modr (md .g (fun m => { m with steps := [{ phase := 0, toPos := true, step := 2, due := 3 }] }) (lst .g .running
      up)) .g)).getD { phase := 0, toPos := true, step := 2, due := 0 }, md .g (fun m =>
      { m with steps := [{ phase := 0, toPos := true, step := 2, due := 3 }] }) (lst .g .running up), by decide +kernel⟩,
   ⟨.b, [], .word, lst .b .off up, by decide +kernel⟩,
   ⟨0, 0, .m, prm [(modMaskCtrl 1, 16 + 14)] (lst .m .running up), by decide +kernel⟩,
   ⟨0, 0, prm [(modSync 0, 1)] (isl (fun i => { i with session := true, halted := true }) up), by decide +kernel⟩⟩

theorem test_witness_ReferenceItems :
    (∃ (p : Plane) (w : BitVec 64) (s : State), s.isl.ctl = true ∧ (lane s p).fifo.length ≤ 16) ∧
    (∃ (p : Plane) (w : BitVec 64) (s : State), s.isl.ctl = false) ∧
    (∃ (p : Plane) (s : State), s.isl.ctl = true ∧ s.isl.halted = false ∧ groupHeld p s = true) ∧
    (∃ (p : Plane) (s : State), s.isl.ctl = true ∧ s.isl.halted = false ∧ groupHeld p s = false ∧ (lane s p).fifo = []) ∧
    (∃ (p : Plane) (s : State), ∃ w l, s.isl.ctl = true ∧ s.isl.halted = false ∧ groupHeld p s = false ∧ (lane s p).fifo = w :: l ∧
      (lane s p).fifo.length ≤ 16) ∧
    (∃ (p : Plane) (s : State) (r : RefSet), s.isl.ctl = true ∧ s.isl.halted = false) ∧
    (∃ (p : Plane) (s : State), ∃ a b, s.isl.ctl = true ∧ s.isl.halted = false ∧ groupHeld p s = true ∧ (lane s p).k0 = some a ∧ (lane s
      p).k1 = some b) :=
  ⟨⟨.b, 0, lst .b .off up, by decide +kernel⟩,
   ⟨.g, 0, prm [(sysAutoReset, 1)] (isl (fun i => { i with ctl := false }) up), by decide +kernel⟩,
   ⟨.g, updLane .g (fun l => { l with k0 := some { mark := 0 }, k1 := some { mark := 1 } }) (lst .g .running up), by decide +kernel⟩,
   ⟨.b, lst .b .off up, by decide +kernel⟩,
   ⟨.m, updLane .m (fun l => { l with fifo := [2 ^ 60, 8] }) (lst .m .running up), _, _, by decide +kernel, by decide +kernel,
      by decide +kernel, rfl, by decide +kernel⟩,
   ⟨.b, lst .b .off up, { f := 50 }, by decide +kernel⟩,
   ⟨.g, updLane .g (fun l => { l with k0 := some { mark := 0 }, k1 := some { mark := 1 } }) (lst .g .running up), _, _,
      by decide +kernel, by decide +kernel, by decide +kernel, rfl, rfl⟩⟩

theorem test_witness_ReferencesAndFallback :
    (∃ (s : State), pllm s = 1) ∧
    (∃ (s : State), pllm s = 0) ∧
    (∃ (s : State), par s clkRefSel ≠ 3 ∧ mayQualify (par s clkRefSel) s = true) ∧
    (∃ (s : State), par s clkRefAlt ≠ 3 ∧ mayQualify (par s clkRefAlt) s = true) ∧
    (∃ (s : State), pllm s = 2 ∧ par s clkRefAlt ≠ 3 ∧ parBit s clkPllmStatus 8 = true) ∧
    (∃ (w : FreqWin) (s : State), s.isl.prt = true) ∧
    (∃ (p : Plane) (s : State), s.isl.prt = true ∧ activeSt (lane s p).st = true ∧ onFbo s = false ∧ s.clk.fbReq = false ∧ pllm s = 2) ∧
    (∃ (p : Plane) (s : State) (w : FreqWin), s.isl.prt = true ∧ activeSt (lane s p).st = true ∧ onFbo s = false ∧ s.clk.fbReq = false ∧
      5000 < absI w.pllm ∧ absI w.xref ≤ 1500) ∧
    (∃ (s : State), s.clk.fbReq = true ∧ s.prt.ascStep = 0) ∧
    (∃ (s : State), s.clk.fbReq = true ∧ s.prt.ascStep ≠ 0) ∧
    (∃ (s : State), onFbo s = true ∧ pllm s = 1 ∧ absI (signedOf 16 (par s clkPllmFerr)) ≤ 500) ∧
    (∃ (s : State), par s clkPllpStatus = 1) ∧
    (∃ (s : State), s.isl.power = true) ∧
    (∃ (s : State), pllm s ≠ 0 ∧ onFbo s = false ∧ phasePend s ≠ 0) :=
  ⟨⟨pll 1 up, by decide +kernel⟩,
   ⟨lst .b .off up, by decide +kernel⟩,
   ⟨lst .b .off up, by decide +kernel⟩,
   ⟨prm [(clkRefAlt, 1)] (pllS (2 + 256) up), by decide +kernel⟩,
   ⟨prm [(clkRefAlt, 1)] (pllS (2 + 256) up), by decide +kernel⟩,
   ⟨{ pllm := 6000, xref := 100, yclk := none, clamp := false, fbo := 80 }, lst .b .off up, by decide +kernel⟩,
   ⟨.m, pllS 2 (lst .m .running up), by decide +kernel⟩,
   ⟨.b, prm [(ctlBVChop, 5)] (lst .b .ready up), { pllm := 6000, xref := 100, yclk := none, clamp := false, fbo := 80 },
      by decide +kernel⟩,
   ⟨pllS 1 { up with clk := { fbReq := true } }, by decide +kernel⟩,
   ⟨prt (fun r => { r with ascStep := 1 }) { up with clk := { fbReq := true } }, by decide +kernel⟩,
   ⟨pllS (1 + 32) up, by decide +kernel⟩,
   ⟨prm [(clkPllpStatus, 1), (clkPhasePend, 3)] (pllS 1 up), by decide +kernel⟩,
   ⟨lst .b .off up, by decide +kernel⟩,
   ⟨prm [(clkPllpStatus, 1), (clkPhasePend, 3)] (pllS 1 up), by decide +kernel⟩⟩

theorem test_witness_SyncsAndPathDelays :
    (∃ (m : PtpSync) (s : State), m.port < 2 ∧ s.isl.sys = true ∧ s.isl.restart = false ∧ parBit s netPtpEn m.port = true ∧ m.domain =
      par s netPtpDomain ∧ m.ieee = decide (par s netPtpTransport = 1) ∧ s.time.master = some m.master ∧ s.time.servo = 2 ∧
      s.time.cand = [] ∧ par s (netEthAsym m.port) = 0 ∧ absI m.offset ≤ par s timeStepLimit) ∧
    (∃ (m : PtpSync) (s : State), m.port < 2 ∧ s.isl.sys = true ∧ s.isl.restart = false ∧ parBit s netPtpEn m.port = true ∧ m.domain =
      par s netPtpDomain ∧ m.ieee = decide (par s netPtpTransport = 1) ∧ s.time.master = some m.master ∧ s.time.servo = 2 ∧
      s.time.cand = [] ∧ par s (netEthAsym m.port) = 0 ∧ (par s timeStepLimit : Int) < -m.offset) ∧
    (∃ (m : PtpSync) (s : State), m.port < 2 ∧ s.isl.sys = true ∧ s.isl.restart = false ∧ parBit s netPtpEn m.port = true ∧ m.domain =
      par s netPtpDomain ∧ m.ieee = decide (par s netPtpTransport = 1) ∧ s.time.master = some m.master ∧ s.time.servo = 2 ∧
      s.time.cand = [] ∧ par s (netEthAsym m.port) = 0 ∧ (par s timeStepLimit : Int) < m.offset) ∧
    (∃ (m : PtpSync) (s : State) (e : Env), m.port < 2 ∧ s.isl.sys = true ∧ s.isl.restart = false ∧ parBit s netPtpEn m.port = true ∧
      m.domain = par s netPtpDomain ∧ m.ieee = decide (par s netPtpTransport = 1) ∧ s.time.master = some m.master ∧ s.time.servo = 2
      ∧ s.time.cand = [] ∧ par s (netEthAsym m.port) = 0 ∧ Fresh 0x0050 1 e s ∧ 0 < s.time.offset) ∧
    (∃ (n : Nat) (b : Bool) (d : Int) (old : Int) (s : State), n < 2 ∧ s.isl.sys = true ∧ s.isl.restart = false ∧ parBit s netPtpEn n =
      true ∧ b = decide (par s netPtpDelay = 1) ∧ s.time.pd.length = 2 ∧ s.time.pd.getD n none = some old ∧ pdHolding s = false ∧
      absI (d - old) ≤ par s netPdStep) ∧
    (∃ (n : Nat) (b : Bool) (d : Int) (old : Int) (s : State), n < 2 ∧ s.isl.sys = true ∧ s.isl.restart = false ∧ parBit s netPtpEn n =
      true ∧ b = decide (par s netPtpDelay = 1) ∧ s.time.pd.length = 2 ∧ s.time.pd.getD n none = some old ∧ pdHolding s = false ∧
      (par s netPdStep : Int) < absI (d - old)) ∧
    (∃ (s : State), s.time.servo = 4) ∧
    (∃ (s : State), s.time.servo ≠ 4) ∧
    (∃ (s : State), s.isl.sys = true ∧ s.isl.restart = false) ∧
    (∃ (n : Nat) (r : Int) (s : State), n < 2 ∧ forwards s = true ∧ par s netPtpTc ≠ 0 ∧ par s netPtpDelay ≠ 1) ∧
    (∃ (n : Nat) (r : Int) (s : State) (k : Nat) (x : Int), n < 2 ∧ forwards s = true ∧ par s netPtpTc ≠ 0 ∧ par s netPtpDelay ≠ 1) :=
  ⟨⟨{ port := 1, master := 9, offset := 0, freq := 0, slew := 0, err := 1 }, ptp up, by decide +kernel⟩,
   ⟨{ port := 1, master := 9, offset := -2000000, freq := 0, slew := 0, err := 1 }, ptp up, by decide +kernel⟩,
   ⟨{ port := 1, master := 9, offset := 2000000, freq := 0, slew := 0, err := 1 }, ptp up, by decide +kernel⟩,
   ⟨{ port := 0, master := 9, offset := 0, freq := 0, slew := 0, err := 1 }, tim (fun t => { t with offset := 4000, suspect := true })
      (ptp up), e0, by decide +kernel⟩,
   ⟨1, false, (300), (200), ptp up, by decide +kernel⟩,
   ⟨0, false, (30000), (100), ptp up, by decide +kernel⟩,
   ⟨tim (fun t => { t with servo := 4 }) (ptp up), by decide +kernel⟩,
   ⟨lst .b .off up, by decide +kernel⟩,
   ⟨lst .b .off up, by decide +kernel⟩,
   ⟨1, (4), prm [(netPtpTc, 1)] (ey (fun x => { x with up := true }) up), by decide +kernel⟩,
   ⟨1, (4), prm [(netPtpTc, 1)] (ey (fun x => { x with up := true }) up), 0, (0), by decide +kernel⟩⟩

theorem test_witness_EthernetPorts :
    (∃ (n : Nat) (g : Bool) (s : State), n < 2) ∧
    (∃ (n : Nat) (s : State), n < 2) ∧
    (∃ (n : Nat) (c : Option Nat) (b : List Byte) (s : State), n < 2 ∧ forwards s = true ∧ (ethOf s (1 - n)).queues.length = 8) ∧
    (∃ (e : Env) (p : FramePay) (s : State), Fresh 0x0230 1 e s ∧ 60 ≤ p.bytes.length ∧ p.bytes.length ≤ 1416 ∧ p.resv = 0 ∧ p.port < 2
      ∧ p.base < 3 ∧ p.queue < 8 ∧ p.hp = false ∧ (ethOf s p.port).queues.length = 8 ∧ parBit s (netEthQEn p.port) p.queue = true) ∧
    (∃ (e : Env) (p : FramePay) (s : State), Fresh 0x0230 1 e s ∧ 60 ≤ p.bytes.length ∧ p.bytes.length ≤ 1416 ∧ p.resv = 0 ∧ p.port < 2
      ∧ p.base < 3 ∧ p.queue < 8 ∧ p.hp = false ∧ (ethOf s p.port).queues.length = 8 ∧ parBit s (netEthQEn p.port) p.queue = false) ∧
    (∃ (n : Nat) (dt : Nat) (s : State), n < 2 ∧ (ethOf s n).up = false) ∧
    (∃ (n : Nat) (dt : Nat) (f : Frame) (l : List Frame) (s : State), n < 2 ∧ (ethOf s n).up = true ∧ (ethOf s n).queues.length = 8 ∧
      (ethOf s n).queues.getD 7 [] = f :: l ∧ f.base = 0 ∧ f.handle = none ∧ f.ptp = none) :=
  ⟨⟨0, true, lst .b .off up, by decide +kernel⟩,
   ⟨0, lst .b .off up, by decide +kernel⟩,
   ⟨1, none, [], prm [(netPtpTc, 1)] (ey (fun x => { x with up := true }) up), by decide +kernel⟩,
   ⟨e0, { port := 1, queue := 3, bytes := List.replicate 60 4 }, prm [(netEthQEn 1, 255)] (ey (fun x => { x with up := true }) up),
      by decide +kernel⟩,
   ⟨e0, { port := 1, queue := 3, bytes := List.replicate 60 4 }, prm [(netEthQEn 1, 0)] up, by decide +kernel⟩,
   ⟨0, 0, lst .b .off up, by decide +kernel⟩,
   ⟨0, 5, (ey (fun x =>
      { x with up := true, queues := [[{ bytes := [1] }], [], [{}], [], [], [], [], [{ bytes := List.replicate 60 4 }, {}]] })
      up).eth0.queues[7].headD {}, (ey (fun x =>
      { x with up := true, queues := [[{ bytes := [1] }], [], [{}], [], [], [], [], [{ bytes := List.replicate 60 4 }, {}]] })
      up).eth0.queues[7].tail, ey (fun x =>
      { x with up := true, queues := [[{ bytes := [1] }], [], [{}], [], [], [], [], [{ bytes := List.replicate 60 4 }, {}]] }) up,
      by decide +kernel⟩⟩

theorem test_witness_HeadPresenceAndSurveys :
    (∃ (s : State), onYbus s = true ∧ isHead s = false) ∧
    (∃ (s : State), isHead s = true) ∧
    (∃ (s : State), onYbus s = true ∧ isHead s = true) ∧
    (∃ (s : State), isHead s = false) ∧
    (∃ (s : State), s.ybus.absent = true ∧ onYbus s = true) ∧
    (∃ (s : State), onYbus s = true) ∧
    (∃ (v : Survey) (s : State), parBit s ybusStatus 6 = true ∧ onYbus s = true ∧ isHead s = false ∧ v.pos < v.delays.length ∧
      v.delays.length ≤ 16 ∧ latOf v.delays ≤ 2000 ∧ (∀ d ∈ v.delays, d < 65536)) ∧
    (∃ (v : Survey) (s : State), parBit s ybusStatus 6 = false) :=
  ⟨⟨{ ub 0 with ybus := { up.ybus with absent := true } }, by decide +kernel⟩,
   ⟨{ prm [(ybusStatus, 16)] up with isl := { up.isl with yOpen := true } }, by decide +kernel⟩,
   ⟨{ prm [(ybusStatus, 16)] up with isl := { up.isl with yOpen := true } }, by decide +kernel⟩,
   ⟨lst .b .off up, by decide +kernel⟩,
   ⟨{ ub 0 with ybus := { up.ybus with absent := true } }, by decide +kernel⟩,
   ⟨{ prm [(ybusStatus, 16)] up with isl := { up.isl with yOpen := true } }, by decide +kernel⟩,
   ⟨surv, ub 64, by decide +kernel⟩,
   ⟨surv, lst .b .off up, by decide +kernel⟩⟩

theorem test_witness_MarksAndTriggersOnTheBus :
    (∃ (m : Int) (f a : Rat) (s : State), a = m + f ∧ onYbus s = true) ∧
    (∃ (x : Int) (s : State), s.isl.ctl = true ∧ timeBad s = false) ∧
    (∃ (tr : Rat) (o : Nat) (s : State), onYbus s = true ∧ parBit s ybusStatus 6 = false ∧ parBit s ybusStatus 5 = true ∧ o < 16 ∧ o <
      s.ybus.d.length) ∧
    (∃ (tr : Rat) (s : State), onYbus s = true) ∧
    (∃ (m : Int) (a : Rat) (n : Nat) (s : State), onYbus s = false) :=
  ⟨⟨3, 1 / 2, 7 / 2, { prm [(ybusStatus, 16)] up with isl := { up.isl with yOpen := true } }, by decide +kernel⟩,
   ⟨(0), lst .b .off up, by decide +kernel⟩,
   ⟨(5000), 1, { ub 32 with ybus := { up.ybus with d := [100, 300] } }, by decide +kernel⟩,
   ⟨(0), { prm [(ybusStatus, 16)] up with isl := { up.isl with yOpen := true } }, by decide +kernel⟩,
   ⟨0, 0, 0, lst .b .off up, by decide +kernel⟩⟩

theorem test_witness_SelfTestsSettingsAndUpdates :
    (∃ (e : Env) (m : Nat) (s : State), Fresh 0x0120 1 e s ∧ Room s ∧ 1 ≤ m ∧ m < 256 ∧ allStopped s = true ∧ s.isl.selfTest = none) ∧
    (∃ (e : Env) (m : Nat) (s : State), Fresh 0x0120 1 e s ∧ Room s ∧ 1 ≤ m ∧ m < 256 ∧ allStopped s = false) ∧
    (∃ (x : Nat) (h : Nat) (m : Nat) (s : State), s.isl.selfTest = some (h, m) ∧ m < 256 ∧ tansyUp s = true) ∧
    (∃ (e : Env) (s : State), Fresh 0x0122 1 e s ∧ Room s ∧ s.fw.hitless = none ∧ s.fw.saving = none) ∧
    (∃ (h : Nat) (n : Nat) (r : Rec) (s : State), s.fw.saving = some (h, n, r) ∧ tansyUp s = true) ∧
    (∃ (s : State), s.fw.saving = none) ∧
    (∃ (e : Env) (len : Nat) (kind : Nat) (b : List Byte) (s : State), Fresh 0x0130 1 e s ∧ Room s ∧ b.length = 64 ∧ updateStatus len
      kind 0 b (acceptSeq e s) = stOk) ∧
    (∃ (e : Env) (p : DataPay) (s : State) (u : Upd) (f : Frag) (fs : List Frag), Fresh 0x0220 1 e s ∧ dataLen p.data = true ∧ s.fw.upd
      = some u ∧ u.handle = e.handle ∧ p.pre.b6 = 0 ∧ p.pre.grp = 0 ∧ p.pre.unit < blockCount u ∧ u.next ≤ p.pre.unit ∧ (∀ x ∈
      u.ahead, x.1 ≠ p.pre.unit) ∧ p.pre.offset + p.data.length ≤ blockLen u p.pre.unit ∧ addFrag p.pre.unit 0 0 p.pre.offset p.data
      u.frags = some (f, fs) ∧ fragWhole (blockLen u p.pre.unit) f = none) ∧
    (∃ (e : Env) (p : DataPay) (s : State), Fresh 0x0220 1 e s ∧ dataLen p.data = true ∧ s.fw.upd = none) ∧
    (∃ (e : Env) (k : Nat) (s : State), Fresh 0x0131 1 e s ∧ Room s ∧ groupActivates s = false ∧ s.prt.resetting = none ∧ activateStatus
      false k (acceptSeq e s) = stOk) :=
  ⟨⟨e0, 1, lst .b .off up, by decide +kernel⟩,
   ⟨e0, 1, prm [(ctlBVChop, 5)] (lst .b .ready up), by decide +kernel⟩,
   ⟨1, 263, 5, isl (fun i => { i with selfTest := some (263, 5) }) (op 263 0x0120 up), by decide +kernel⟩,
   ⟨e0, lst .b .off up, by decide +kernel⟩,
   ⟨263, 1, (fw (fun f => { f with saving := some (263, 1, { seq := 4 }) }) (op 263 0x0122 up)).fw.saving.elim {} (·.2.2), fw (fun f
      => { f with saving := some (263, 1, { seq := 4 }) }) (op 263 0x0122 up), by decide +kernel⟩,
   ⟨lst .b .off up, by decide +kernel⟩,
   ⟨e0, 1000, 0, List.replicate 64 0, up, by decide +kernel⟩,
   ⟨{ chan := .spi, seq := 1, handle := 263 }, { pre := { unit := 0, offset := 8 }, data := [1, 2, 3, 4] }, fw (fun f =>
      { f with upd := some { handle := 263, len := 10000, kind := 0 } }) (op 263 0x0130 up), (fw (fun f =>
      { f with upd := some { handle := 263, len := 10000, kind := 0 } }) (op 263 0x0130 up)).fw.upd.getD
      { handle := 1, len := 100, kind := 0 }, (addFrag 0 0 0 8 [0x01#8, 0x02#8, 0x03#8, 0x04#8] ((fw (fun f =>
      { f with upd := some { handle := 263, len := 10000, kind := 0 } }) (op 263 0x0130 up)).fw.upd.elim [] (·.frags))).elim
      { unit := 0 } (·.1), (addFrag 0 0 0 8 [0x01#8, 0x02#8, 0x03#8, 0x04#8] ((fw (fun f =>
      { f with upd := some { handle := 263, len := 10000, kind := 0 } }) (op 263 0x0130 up)).fw.upd.elim [] (·.frags))).elim []
      (·.2), by decide +kernel⟩,
   ⟨{ chan := .spi, seq := 1, handle := 7 }, { pre := { unit := 1, offset := 4 }, data := [1, 2, 3, 4] }, op 7 0x0212 (aqs (fun a =>
      { a with load := some { handle := 7, slot := 2, total := 3 } }) (slots 2 { st := .loading } up)), by decide +kernel⟩,
   ⟨e0, 3, fslot 0 { st := 1 } up, by decide +kernel⟩⟩

theorem test_witness_HitlessActivationAndUnlock :
    (∃ (e : Env) (k : Nat) (s : State), Fresh 0x0131 1 e s ∧ Room s ∧ groupActivates s = false ∧ activateStatus true k (acceptSeq e s) =
      stOk) ∧
    (∃ (h : Hitless) (l : List (Nat × Word)) (x : List (Nat × List Byte)) (s : State), s.fw.hitless = some h ∧ h.stage = 1 ∧ h.ask = 0 ∧
      compsOk (slotOf s (otherSlot s)) = true ∧ convertFails l s = none) ∧
    (∃ (h : Hitless) (i : Nat) (w : Nat) (s : State), s.fw.hitless = some h ∧ h.stage = 1 ∧ tansyUp s = true) ∧
    (∃ (h : Hitless) (s : State), s.fw.hitless = some h ∧ h.stage = 3 ∧ 0 ≤ markDiff (sampleK s) h.kh) ∧
    (∃ (h : Hitless) (s : State), s.fw.hitless = some h ∧ h.stage = 4 ∧ h.wrote = true ∧ h.back = false) ∧
    (∃ (s : State), s.fw.hitless = none) ∧
    (∃ (h : Hitless) (s : State), s.fw.hitless = some h ∧ h.stage = 5 ∧ s.isl.restart = true ∧ s.isl.sys = true ∧ h.back = false) ∧
    (∃ (s : State), s.isl.restart = true ∧ s.isl.sys = true) ∧
    (∃ (s : State), s.isl.restart = false) ∧
    (∃ (e : Env) (b : List Byte) (s : State), Fresh 0x0132 1 e s ∧ b.length = 32) ∧
    (∃ (e : Env) (b : List Byte) (s : State), Fresh 0x0133 1 e s ∧ b.length = 104 ∧ fieldAt b 3 1 = 0 ∧ fieldAt b 36 4 = 0 ∧ allStopped
      s = true ∧ tokenOk b s = false) :=
  ⟨⟨e0, 0, fslot 0 { st := 1 } up, by decide +kernel⟩,
   ⟨(hit { handle := 263 } up).fw.hitless.getD { handle := 1 }, [], [], hit { handle := 263 } up, by decide +kernel⟩,
   ⟨(hit { handle := 263 } up).fw.hitless.getD { handle := 1 }, 0, 0, hit { handle := 263 } up, by decide +kernel⟩,
   ⟨(hit { handle := 263, stage := 3 } up).fw.hitless.getD { handle := 1 }, hit { handle := 263, stage := 3 } up, by decide +kernel⟩,
   ⟨(hit { handle := 263, stage := 4, wrote := true } up).fw.hitless.getD { handle := 1 }, hit
      { handle := 263, stage := 4, wrote := true } up, by decide +kernel⟩,
   ⟨lst .b .off up, by decide +kernel⟩,
   ⟨(isl (fun i => { i with restart := true }) (hit { handle := 263, stage := 5 } up)).fw.hitless.getD { handle := 1 }, isl (fun i =>
      { i with restart := true }) (hit { handle := 263, stage := 5 } up), by decide +kernel⟩,
   ⟨isl (fun i => { i with restart := true }) (hit { handle := 263, stage := 5 } up), by decide +kernel⟩,
   ⟨lst .b .off up, by decide +kernel⟩,
   ⟨e0, List.replicate 32 5, up, by decide +kernel⟩,
   ⟨e0, List.replicate 104 0, up, by decide +kernel⟩⟩

/-- A reserve in its slot, with everything that GO_COLD asks for but the signature of its image. -/
def cold : State := red (fun r => { r with role := 2, pathA := { up := true }, snaps := [{}] })
  (fw (fun f => { f with run := some 1 }) (fslot 1 { st := 3 } up))

theorem coldFits_cold (h : fastStartOk (acceptSeq e0 cold) 1 = true) : coldFits (acceptSeq e0 cold) = true := by
  have h1 : (acceptSeq e0 cold).fw.run = some 1 := by decide +kernel
  have h2 : (decide ((acceptSeq e0 cold).red.role = 2) && !(acceptSeq e0 cold).prt.supplyLoss && (acceptSeq e0 cold).prt.resetting.isNone && allStopped (acceptSeq e0 cold) && (acceptSeq e0 cold).txn.isNone &&
    (acceptSeq e0 cold).host.ops.isEmpty && anyPath (acceptSeq e0 cold) && !(acceptSeq e0 cold).red.snaps.isEmpty) = true := by
    decide +kernel
  have h3 : (slotOf (acceptSeq e0 cold) 1).st = 3 := by decide +kernel
  simp only [coldFits, h1, h2, h3, h, decide_true, Bool.and_self]

/-- GO_COLD passes its checks where the image of the slot that runs is signed: the signature is an open function of Config. -/
theorem test_witness_goCold (h : fastStartOk (acceptSeq e0 cold) 1 = true) : ∃ (e : Env) (s : State), Writes e [(redCtrl, 1)] s := by
  refine ⟨e0, cold, by decide +kernel, by decide +kernel, by decide +kernel, ?_⟩
  have h1 := coldFits_cold h
  have h2 : stateLaw (acceptSeq e0 cold) redCtrl 1 = true := by
    have : stateLaw (acceptSeq e0 cold) redCtrl 1 = redCtrlFits (acceptSeq e0 cold) 1 := by rfl
    rw [this, redCtrlFits, h1]; decide
  have h3 : stateUnit (acceptSeq e0 cold) redCtrl 1 = true := by decide +kernel
  have h4 : entryAlone false (acceptSeq e0 cold) { id := redCtrl, val := 1#32 } = 0 := by decide +kernel
  have h5 : classStatus false (acceptSeq e0 cold) { id := redCtrl, val := 1#32 } = 0 := by decide +kernel
  have h6 : jointBad [{ id := redCtrl, val := 1#32 }] (acceptSeq e0 cold) = none := by decide +kernel
  have h7 : stateStatus (acceptSeq e0 cold) redCtrl 1 = 0 := by
    simp only [stateStatus, h2, h3]; decide +kernel
  have h8 : stepsBad [{ id := redCtrl, val := 1#32 }] (acceptSeq e0 cold) = none := by decide +kernel
  simp [paramFailure, firstBad, entryStatus, h4, h5, h6, h7, h8, firstFail, stOk]

/-- DEBUG_UNLOCK: whatever token the keys of Config accept meets the rest of its premises. -/
theorem test_witness_unlock (b : List Byte) (h : tokenOk b up = true) (hl : b.length = 104) (h1 : fieldAt b 3 1 = 0) (h2 : fieldAt b 36 4 = 0) :
    ∃ (e : Env) (b : List Byte) (s : State), Fresh 0x0133 1 e s ∧ b.length = 104 ∧ fieldAt b 3 1 = 0 ∧ fieldAt b 36 4 = 0 ∧
      allStopped s = true ∧ tokenOk b s = true :=
  ⟨e0, b, up, by decide +kernel, hl, h1, h2, by decide +kernel, h⟩

theorem test_witness_StepRunsTheFrontCommand : (∃ (c : Instr) (l : List Instr) (s : State), s.pending = c :: l) ∧ (∃ s : State, s.pending = [] ∧ (s.prt.holdUp && s.prt.mcGone) = false) ∧
    (∃ s : State, s.pending = [] ∧ s.prt.holdUp = true ∧ s.prt.mcGone = true) :=
  ⟨⟨.headChange, [], { up with pending := [.headChange] }, rfl⟩, ⟨State.reset, rfl, rfl⟩,
   { up with prt := { up.prt with holdUp := true, mcGone := true } }, rfl, rfl, rfl⟩

theorem test_witness_NoPortCommandsBothSwitches : (∃ s t : State, NoShoot s ∧ step s = .next t ∧ s.prt.upper ≠ 0) ∧ NoShoot State.reset ∧
    (∃ (n : Nat) (s : State), n < 36 ∧ (heldUpper s).getLsbD n = false ∧ (heldLower s).getLsbD n = false) :=
  ⟨⟨onB, _, by decide +kernel, rfl, by decide +kernel⟩, by decide +kernel, 35, { up with prt := { up.prt with supOn := BitVec.allOnes 36 } }, by decide +kernel⟩

theorem test_witness_EveryStepKeepsParamsCanonical : (∃ s t : State, ParamsOk s ∧ step s = .next t ∧ s.params ≠ []) ∧ ParamsOk State.reset :=
  ⟨⟨{ good with pending := [.sreCheck] }, _, by decide +kernel, rfl, by decide +kernel⟩, by decide +kernel⟩

theorem test_witness_InterruptLineAndItsBits : (∃ s : State, s.isl.sys = true) ∧
    (∃ (c : Instr) (p : Plane) (s t : State), exec c s = .next t ∧ (lane s p).st ≠ .safe ∧ (lane t p).st = .safe) :=
  ⟨⟨up, rfl⟩, .haltNFall, .b, lst .b .running up, _, rfl, by decide +kernel, by decide +kernel⟩

theorem test_witness_CommandsFollowTheirSequence :
    (∃ (e : Env) (flags : Nat) (s : State), serving s e.chan = true ∧ srcListed s e.chan = true ∧ e.flags &&& flags = e.flags ∧
      (repeated (chanSt s e.chan) e).isSome = true) ∧
    (∃ (e : Env) (flags : Nat) (s : State), serving s e.chan = true ∧ srcListed s e.chan = true ∧ e.flags &&& flags = e.flags ∧
      repeated (chanSt s e.chan) e = none ∧ (chanSt s e.chan).started = true ∧ seqDiff (chanSt s e.chan) e ≤ 0) ∧
    (∃ (op : Nat) (e : Env) (flags : Nat) (needs : State → Bool) (body : Nat → State → State × Ans) (s : State),
      serving s e.chan = true ∧ srcListed s e.chan = true ∧ e.flags &&& flags = e.flags ∧ repeated (chanSt s e.chan) e = none ∧
      ((chanSt s e.chan).started = true → 0 < seqDiff (chanSt s e.chan) e) ∧ par s sysSeqGapCnt < 65535 ∧
      runStatus op s = stOk ∧ needs (acceptSeq e s) = false ∧
      ∃ u st pl, body (nextHandle s) (acceptSeq e s) = (u, .now st pl)) :=
  ⟨⟨{ e0 with seq := 5 }, 1, fifth, by decide +kernel⟩, ⟨{ e0 with seq := 4 }, 1, fifth, by decide +kernel⟩,
   ⟨0x0100, { e0 with seq := 7 }, 1, fun _ => false, fun _ s => (s, .now stOk []), fifth, by decide +kernel, by decide +kernel,
    by decide +kernel, by decide +kernel, by decide +kernel, by decide +kernel, by decide +kernel, rfl, _, _, _, rfl⟩⟩

theorem test_witness_SourcesMatchByPrefix : (∃ ip addr len : Nat, ip < 2 ^ 32 ∧ addr < 2 ^ 32 ∧ len ≤ 32 ∧ srcMatches ip addr len = true) ∧
    (∃ ip addr len : Nat, ip < 2 ^ 32 ∧ addr < 2 ^ 32 ∧ len ≤ 32 ∧ srcMatches ip addr len = false) :=
  ⟨⟨2 ^ 32 - 1, 2 ^ 31, 1, by decide⟩, 2 ^ 31 + 1, 2 ^ 31, 32, by decide⟩

/-- A next state of a row of service, and of a row of the plant. -/
theorem test_witness_Frames : (∃ s t : State, exec (.getParam e0 [clkTcCycles]) s = .next t) ∧ (∃ s t : State, exec .haltNFall s = .next t) :=
  ⟨⟨up, _, rfl⟩, up, _, rfl⟩

/-- The members of a group of one that publishes no descriptor but its own. -/
theorem members_own (s : State) (h0 : yPos s = 0) (hd : s.red.descs = []) : members s = [ownDesc s] := by
  simp [members, h0, hd, List.range, List.range.loop]

/-- The one member of group 77, whose own position clashes, at t_decide. -/
def alone : State := ga (act 2) (red (fun r => { r with clash := [0] }) g1)

/-- The one member of group 77, on a synchronous Y bus, at t_decide. -/
def agreed : State := ga (act 2) (red (fun r => { r with shown := (9, 0, 1, 0) }) gy)

theorem par_noteAgree (a : GAct) (s : State) (id : Nat) (h : id ≠ redGrpAgree) : par (noteAgree a s) id = par s id := by
  simp only [noteAgree, par, setPar, tabGet_set_other _ _ _ h]

theorem test_witness_groupDisagrees : ∃ (a : GAct) (s : State), s.red.act = some a ∧ a.decided = false ∧ groupRuns s = true ∧
    ∃ x l, disagreements a (noteAgree a s) = x :: l := by
  refine ⟨act 2, alone, by decide +kernel, by decide +kernel, by decide +kernel, List.exists_cons_of_ne_nil ?_⟩
  have h : missingAt (noteAgree (act 2) alone) = none := by
    simp only [missingAt, members_own (noteAgree (act 2) alone) (by decide +kernel) (by decide +kernel)]
    decide +kernel
  have hc : (noteAgree (act 2) alone).red.clash.contains (ownDesc (noteAgree (act 2) alone)).pos = true := by decide +kernel
  simp [disagreements, h, members_own (noteAgree (act 2) alone) (by decide +kernel) (by decide +kernel), rowsOf, List.contains_iff_mem.mp hc]

theorem test_witness_groupAgrees : ∃ (a : GAct) (s : State), s.red.act = some a ∧ a.decided = false ∧ groupRuns s = true ∧
    disagreements a (noteAgree a s) = [] ∧ (∀ d ∈ members (noteAgree a s), d.verdict = 1) := by
  have hy : par (noteAgree (act 2) agreed) ybusStatus = 4128 := by rw [par_noteAgree _ _ _ (by decide)]; decide +kernel
  have hp : yPos (noteAgree (act 2) agreed) = 0 := by simp only [yPos, parBits, hy]; decide
  have hm := members_own (noteAgree (act 2) agreed) hp (by decide +kernel)
  have h : missingAt (noteAgree (act 2) agreed) = none := by
    simp only [missingAt, hm, par_noteAgree _ _ _ (by decide : redGrpSize ≠ redGrpAgree)]; decide +kernel
  have hc : (noteAgree (act 2) agreed).red.clash = [] := by decide +kernel
  have hb : (noteAgree (act 2) agreed).time.busOk = true := by decide +kernel
  have h5 : (ownDesc (noteAgree (act 2) agreed)).yStatus.testBit 5 = true := by simp only [ownDesc, hy, hb]; decide +kernel
  have h12 : (ownDesc (noteAgree (act 2) agreed)).yStatus.testBit 12 = true := by simp only [ownDesc, hy, hb]; decide +kernel
  have hf : onFbo (noteAgree (act 2) agreed) = false := by
    simp only [onFbo, parBit, par_noteAgree _ _ _ (by decide : clkPllmStatus ≠ redGrpAgree)]; decide +kernel
  have h7 : (ownDesc (noteAgree (act 2) agreed)).tState.testBit 7 = false := by
    simp only [ownDesc, timeStateWord, hf]; decide +kernel
  have hv : (ownDesc (noteAgree (act 2) agreed)).verdict = 1 := by decide +kernel
  have hk : (act 2).kind = 2 := rfl
  refine ⟨act 2, agreed, by decide +kernel, by decide +kernel, by decide +kernel, ?_, ?_⟩
  · simp [disagreements, h, hm, rowsOf, hc, h5, h12, h7, hv, hk]
  · simp [hm, hv]

/-- An URGENT STOP of plane B in a packet. -/
theorem test_witness_urgentPacket : ∃ (b : List Byte) (s : State) (p : Plane), s.isl.prt = true ∧ isCommand b = true ∧ headStatus b = stOk ∧
    fieldAt b 3 1 % 4 = 0 ∧ kindResv b = 0 ∧ fieldAt b 4 2 = 1 ∧ fieldAt b 14 1 = 0 ∧ urgentPay (payloadOf b) = { b0 := 2 ^ p.code } ∧
    s.isl.sys = true ∧ activeSt (lane s p).st = true :=
  ⟨stopB 0, lst .b .running up, .b, by decide +kernel⟩

/-- The fragments of a snapshot but for the one that comes. -/
def seven : List (Nat × List Byte) := ((List.range 8).filter (· ≠ fieldAt snf 1 1)).map fun j => (j, List.replicate 512 0)

/-- The eighth fragment of a snapshot. -/
theorem test_witness_lastFragment : ∃ (n i q d a : Nat) (y b : List Byte) (s : State) (l : List (Nat × List Byte)) (w : List Byte), n < 2 ∧
    s.isl.aon = true ∧ b = snapFrame i q d y ∧ frameIs 2 522 b = true ∧ fieldAt b 1 1 < 8 ∧ s.red.inSnap = some (fieldAt b 2 4, l) ∧
    (∀ x ∈ l, x.1 ≠ fieldAt b 1 1) ∧ (∀ j, j < 8 → j = fieldAt b 1 1 ∨ ∃ x ∈ l, x.1 = j) ∧
    (w = ((List.range 8).flatMap fun j => match ((fieldAt b 1 1, (b.drop 10).take 512) :: l).find? fun x => x.1 = j with
      | some x => x.2
      | none => [])) ∧
    (∀ x ∈ s.red.snaps, fieldAt x.bytes 4 4 ≠ fieldAt w 4 4) :=
  ⟨1, fieldAt snf 1 1, fieldAt snf 2 4, fieldAt snf 6 4, 2, snf.drop 10, snf,
   red (fun r => { r with inSnap := some (fieldAt snf 2 4, seven) }) up, seven, _, by decide, by decide +kernel, by decide +kernel,
   by decide +kernel, by decide +kernel, rfl, by decide +kernel, by decide +kernel, rfl, fun _ h => nomatch h⟩

/-- A module at the first lock of PLL_M, with a GOOD slot. -/
def booting : State :=
  fslot 1 { st := 4 } (fslot 0 { st := 3 } (isl (fun i => { i with ctl := false, sys := false, acq := false, app := false }) up))

/-- The boot of a slot whose fast-start image verifies: the signature is an open function of Config. -/
theorem test_witness_boot (h : fastStartOk booting 0 = true) : ∃ (n : Nat) (s : State), s.isl.prt = true ∧ alive s = true ∧
    s.prt.supplyLoss = false ∧ s.red.take = none ∧ pllm s = 0 ∧ s.isl.askRecovery = false ∧ trialSlot s = none ∧
    goodSlot s = some n ∧ fastStartOk s n = true :=
  ⟨0, booting, by decide +kernel, by decide +kernel, by decide +kernel, by decide +kernel, by decide +kernel, by decide +kernel,
   by decide +kernel, by decide +kernel, h⟩

/-- ISL_SYS found stopped while slot 0 runs. -/
def sysDown : State := fw (fun f => { f with run := some 0 }) (isl (fun i => { i with sys := false, sysUp := false }) up)

/-- ISL_SYS may be restarted where TANSY_CORE of the slot that runs verifies. -/
theorem test_witness_sysReset (h : coreOk sysDown 0 = true) : ∃ s : State, resetFits .sys s = true := by
  refine ⟨sysDown, ?_⟩
  have h1 : islandRuns sysDown .sys = false := by decide +kernel
  have h2 : resetSpaced (islandNo .sys) sysDown = true := by decide +kernel
  have h3 : (sysDown.isl.prt && !sysDown.prt.supplyLoss && !sysDown.isl.recovery) = true := by decide +kernel
  have h4 : sysDown.fw.run = some 0 := by decide +kernel
  simp only [resetFits, h1, h2, h3, h4, h, Bool.not_false, Bool.and_self]

/-- A transaction whose owner has sent the words of tile 3. -/
def staging : State := tx { handle := 263 } { up with rgt := { up.rgt with frags := fr 263 } }

/-- The CRC of that tile. -/
def lastWord : DataPay := { pre := { unit := 3, offset := 2048 }, data := zeroT.drop 2048 }

/-- The words of tile 3 sent outside a transaction. -/
def direct : State := { up with rgt := { up.rgt with frags := fr 0 } }

theorem direct_whole : (addFrag 3 0 0 2048 lastWord.data direct.rgt.frags).any (fun x => fragWhole 2052 x.1 == some zeroT) = true := by
  decide +kernel

/-- The owner of a fragment is nothing that its bytes depend on. -/
theorem staging_whole : (addFrag 3 0 263 2048 lastWord.data staging.rgt.frags).any (fun x => fragWhole 2052 x.1 == some zeroT) = true := by
  have h : (addFrag 3 0 263 2048 lastWord.data staging.rgt.frags).map (fun x => (x.1.bytes, x.1.got)) =
      (addFrag 3 0 0 2048 lastWord.data direct.rgt.frags).map (fun x => (x.1.bytes, x.1.got)) := by decide +kernel
  have hw := direct_whole
  cases hx : addFrag 3 0 263 2048 lastWord.data staging.rgt.frags <;>
    cases hy : addFrag 3 0 0 2048 lastWord.data direct.rgt.frags <;> rw [hx, hy] at h <;> rw [hy] at hw
  · exact hw
  · cases h
  · cases h
  · simp only [Option.map_some, Option.some.injEq, Prod.mk.injEq] at h
    simp only [Option.any_some, fragWhole, h.1, h.2] at hw ⊢
    exact hw

/-- A tile completed for a transaction. -/
theorem test_witness_stagedTile : ∃ (e : Env) (p : DataPay) (x : Txn) (f : Frag) (fs : List Frag) (img : List Byte) (s : State),
    Fresh 0x0200 1 e s ∧ dataLen p.data = true ∧ s.txn = some x ∧ x.st = .openT ∧ x.handle = e.handle ∧ e.handle ≠ 0 ∧ p.pre.b6 = 0 ∧
    (p.pre.grp = 0 ∨ x.seqT = true) ∧ p.pre.unit < 192 ∧ p.pre.offset + p.data.length ≤ 2052 ∧
    addFrag p.pre.unit p.pre.grp e.handle p.pre.offset p.data s.rgt.frags = some (f, fs) ∧ fragWhole 2052 f = some img ∧
    imageStatus img = stOk ∧ groupFull x p.pre.grp p.pre.unit = false := by
  have h := staging_whole
  cases hx : addFrag 3 0 263 2048 lastWord.data staging.rgt.frags with
  | none => rw [hx] at h; cases h
  | some x =>
    rw [hx] at h
    exact ⟨{ e0 with handle := 263 }, lastWord, { handle := 263 }, x.1, x.2, zeroT, staging, by decide +kernel, by decide +kernel, rfl,
      rfl, rfl, by decide, rfl, .inl rfl, by decide, by decide +kernel, hx, by simpa using h, zeroT_status, by decide +kernel⟩

theorem test_witness_directTile : (∃ (e : Env) (p : DataPay) (f : Frag) (fs : List Frag) (s : State), ∃ img, Fresh 0x0200 1 e s ∧
      dataLen p.data = true ∧ e.handle = 0 ∧ txnBusy s = false ∧ p.pre.b6 = 0 ∧ p.pre.grp = 0 ∧ p.pre.unit < 192 ∧
      p.pre.offset + p.data.length ≤ 2052 ∧ addFrag p.pre.unit 0 0 p.pre.offset p.data s.rgt.frags = some (f, fs) ∧
      fragWhole 2052 f = some img ∧ directStatus s p.pre.unit img = stOk) := by
  have h := direct_whole
  cases hx : addFrag 3 0 0 2048 lastWord.data direct.rgt.frags with
  | none => rw [hx] at h; cases h
  | some x =>
    rw [hx] at h
    exact ⟨e0, lastWord, x.1, x.2, direct, zeroT, by decide +kernel, by decide +kernel, rfl, rfl, rfl, rfl, by decide,
      by decide +kernel, hx, by simpa using h, by unfold directStatus; rw [zeroT_status]; decide +kernel⟩

/-- The same while plane G, whose window holds the tile, is READY. -/
def powered : State := lst .g .ready (prm [(rgtBase 0, 3)] direct)

/-- A tile that a direct write refuses. -/
theorem test_witness_directTileBad :
    (∃ (e : Env) (p : DataPay) (f : Frag) (fs : List Frag) (s : State), ∃ img, Fresh 0x0200 1 e s ∧
      dataLen p.data = true ∧ e.handle = 0 ∧ txnBusy s = false ∧ p.pre.b6 = 0 ∧ p.pre.grp = 0 ∧ p.pre.unit < 192 ∧
      p.pre.offset + p.data.length ≤ 2052 ∧ addFrag p.pre.unit 0 0 p.pre.offset p.data s.rgt.frags = some (f, fs) ∧
      fragWhole 2052 f = some img ∧ directStatus s p.pre.unit img ≠ stOk ∧ directStatus s p.pre.unit img ≠ stAccepted) := by
  have h : (addFrag 3 0 0 2048 lastWord.data powered.rgt.frags).any (fun x => fragWhole 2052 x.1 == some zeroT) = true := direct_whole
  cases hx : addFrag 3 0 0 2048 lastWord.data powered.rgt.frags with
  | none => rw [hx] at h; cases h
  | some x =>
    rw [hx] at h
    exact ⟨e0, lastWord, x.1, x.2, powered, zeroT, by decide +kernel, by decide +kernel, rfl, rfl, rfl, rfl, by decide,
      by decide +kernel, hx, by simpa using h, by unfold directStatus; rw [zeroT_status]; decide +kernel,
      by unfold directStatus; rw [zeroT_status]; decide +kernel⟩

end Sys2Proof.Tests
end

section
/-! PROOFS. What a settling of the gate blocks can leave on, and the properties of the gate outputs that an entry into SAFE keeps
(R162, R173, R175, R179). -/

namespace Sys2Proof.Machine

/-! ## What a settling leaves on -/

/-- A turn-off waits only at an upper switch that is on and that its port does not hold off (R173). -/
theorem settle_deferUp {b : Bool} {m : Ports} {s : State} {n : Nat} (h : (settle b m s).prt.deferUp.getLsbD n = true) :
    s.prt.upper.getLsbD n = true ∧ (heldUpper s).getLsbD n = false := by
  simp only [settle, deferred, stickPorts_prt, updPrt_prt, BitVec.getLsbD_and, BitVec.getLsbD_not, Bool.and_eq_true,
    Bool.not_eq_true'] at h
  obtain ⟨⟨⟨-, hon⟩, -, hheld⟩, -⟩ := h
  exact ⟨hon, hheld⟩

theorem settle_deferLo {b : Bool} {m : Ports} {s : State} {n : Nat} (h : (settle b m s).prt.deferLo.getLsbD n = true) :
    s.prt.lower.getLsbD n = true ∧ (heldLower s).getLsbD n = false := by
  simp only [settle, deferred, stickPorts_prt, updPrt_prt, BitVec.getLsbD_and, BitVec.getLsbD_not, Bool.and_eq_true,
    Bool.not_eq_true'] at h
  obtain ⟨⟨⟨-, hon⟩, -, hheld⟩, -⟩ := h
  exact ⟨hon, hheld⟩

/-- An upper switch is on after a settling because its inputs select it, or because its turn-off waits by R173 or R175. -/
theorem settle_upper {b : Bool} {m : Ports} {s : State} {n : Nat} (h : (settle b m s).prt.upper.getLsbD n = true) :
    (wantUpper s).getLsbD n = true ∨ (settle b m s).prt.deferUp.getLsbD n = true ∨
      ((staggered s).1.getLsbD n = true ∧ s.prt.upper.getLsbD n = true ∧ (starved s).getLsbD n = false) := by
  simp only [settle, stickPorts_prt, updPrt_prt, BitVec.getLsbD_and, BitVec.getLsbD_or, BitVec.getLsbD_not, Bool.and_eq_true,
    Bool.or_eq_true, Bool.not_eq_true'] at h ⊢
  tauto

theorem settle_lower {b : Bool} {m : Ports} {s : State} {n : Nat} (h : (settle b m s).prt.lower.getLsbD n = true) :
    (wantLower s).getLsbD n = true ∨ (settle b m s).prt.deferLo.getLsbD n = true ∨
      ((staggered s).2.getLsbD n = true ∧ s.prt.lower.getLsbD n = true ∧ (starved s).getLsbD n = false) := by
  simp only [settle, stickPorts_prt, updPrt_prt, BitVec.getLsbD_and, BitVec.getLsbD_or, BitVec.getLsbD_not, Bool.and_eq_true,
    Bool.or_eq_true, Bool.not_eq_true'] at h ⊢
  tauto

/-- Without ENABLE no switch is selected (R162). -/
theorem want_unenabled {s : State} (h : enableIn s = 0) : wantUpper s = 0 ∧ wantLower s = 0 := by
  simp [wantUpper, wantLower, h]

theorem want_held {s : State} {n : Nat} :
    ((heldUpper s).getLsbD n = true → (wantUpper s).getLsbD n = false) ∧
    ((heldLower s).getLsbD n = true → (wantLower s).getLsbD n = false) := by
  constructor <;> intro h <;> simp [wantUpper, wantLower, h]

/-- A set of ports lies in another when each of its ports does. -/
theorem ports_diff_zero {x y : Ports} (h : ∀ n, x.getLsbD n = true → y.getLsbD n = true) : x &&& ~~~y = 0 := by
  apply BitVec.eq_of_getLsbD_eq
  intro n _
  cases hx : x.getLsbD n
  · simp [hx]
  · simp [hx, h n hx]

/-- Without ENABLE a settling turns no switch on. -/
theorem settle_unenabled {s : State} (b : Bool) (m : Ports) (h : enableIn s = 0) :
    (settle b m s).prt.upper &&& ~~~s.prt.upper = 0 ∧ (settle b m s).prt.lower &&& ~~~s.prt.lower = 0 := by
  obtain ⟨hU, hL⟩ := want_unenabled h
  constructor <;> apply ports_diff_zero <;> intro n hn
  · obtain hw | hd | ⟨-, hon, -⟩ := settle_upper hn
    · simp [hU] at hw
    · exact (settle_deferUp hd).1
    · exact hon
  · obtain hw | hd | ⟨-, hon, -⟩ := settle_lower hn
    · simp [hL] at hw
    · exact (settle_deferLo hd).1
    · exact hon

/-! ## Properties of the gate outputs that an entry into SAFE keeps -/

/-- The gate outputs with what makes them wait, the monitors' declarations, and whether ENABLE is withdrawn at every port. -/
structure GateView where
  upper : Ports
  lower : Ports
  deferUp : Ports
  deferLo : Ports
  stagger : List (Ports × Ports)
  uvVcc : Ports
  uvVee : Ports
  uvVboot : Ports
  withdrawn : Bool

/-- The gate outputs of a state. -/
def gateView (s : State) : GateView :=
  ⟨s.prt.upper, s.prt.lower, s.prt.deferUp, s.prt.deferLo, s.prt.stagger, s.prt.uvVcc, s.prt.uvVee, s.prt.uvVboot, withdrawn s⟩

theorem gateView_congr {s t : State} (h1 : t.prt = s.prt) (h2 : t.pins = s.pins) (h3 : t.isl = s.isl) : gateView t = gateView s := by
  simp [gateView, withdrawn, h1, h2, h3]

@[simp] theorem withdrawn_settle (b : Bool) (m : Ports) (s : State) : withdrawn (settle b m s) = withdrawn s := by simp [withdrawn]

@[simp] theorem gateView_override (m x y : Ports) (s : State) : gateView (override m x y s) = gateView s := rfl

@[simp] theorem gateView_ascApply (sub : SafeSub) (k : Nat) (s : State) : gateView (ascApply sub k s) = gateView s := by
  unfold ascApply
  split <;> rfl

@[simp] theorem gateView_enterSub (sub : SafeSub) (s : State) : gateView (enterSub sub s) = gateView s := by
  cases sub
  case pulseBlock => rfl
  all_goals simp [enterSub]

@[simp] theorem gateView_safePattern (p : Plane) (st : PState) (sub : SafeSub) (s : State) :
    gateView (safePattern p st sub s) = gateView s := by
  cases p
  case m => simp [safePattern]
  all_goals rfl

@[simp] theorem gateView_enterState (p : Plane) (st : PState) (sub : SafeSub) (s : State) :
    gateView (enterState p st sub s) = gateView s := gateView_congr (by simp) (by simp) (by simp)

@[simp] theorem gateView_noteFallback (b : Bool) (s : State) : gateView (noteFallback b s) = gateView s := by
  unfold noteFallback
  split
  · exact gateView_congr (s := updPrt (fun r => { r with mcFallback := true }) s) (by simp) (by simp) (by simp)
  · rfl

@[simp] theorem gateView_showShadow (p : Plane) (w : PeriodSet) (s : State) : gateView (showShadow p w s) = gateView s :=
  gateView_congr (by simp) (by simp) (by simp)

@[simp] theorem gateView_initMod (p : Plane) (s : State) : gateView (initMod p s) = gateView s := by
  unfold initMod
  split
  · exact gateView_congr (by simp) (by simp) (by simp)
  · simp [gateView, withdrawn]

@[simp] theorem gateView_dropMc (s : State) : gateView (dropMc s) = gateView s := gateView_congr (by simp) (by simp) (by simp)

@[simp] theorem gateView_quitLane (p : Plane) (s : State) : gateView (quitLane p s) = gateView s :=
  gateView_congr (by simp) (by simp) (by simp)

/-- A property of the gate outputs that every settling keeps. -/
structure SettleKeeps (I : State → Prop) : Prop where
  congr : ∀ {s t : State}, gateView t = gateView s → I s → I t
  at_settle : ∀ (b : Bool) (m : Ports) {s : State}, I s → I (settle b m s)

section
variable {I : State → Prop} (k : SettleKeeps I)
include k

theorem SettleKeeps.at_enterSafe (p : Plane) (c : Nat) (m : Ports) {s : State} (h : I s) : I (enterSafe p c m s) := by
  unfold enterSafe
  dsimp only
  refine k.congr (by rw [gateView_dropMc, gateView_quitLane]) (k.at_settle true m (k.congr ?_ h))
  rw [gateView_initMod, gateView_safePattern, gateView_enterState, gateView_noteFallback]
  exact gateView_congr (by simp) (by simp) (by simp)

theorem SettleKeeps.at_rechoose {s : State} (h : I s) : I (rechoose s) := by
  unfold rechoose
  dsimp only
  split
  · refine k.congr (gateView_dropMc _) ?_
    split
    · exact k.congr (gateView_noteFallback ..) h
    · exact k.at_settle true 0 (k.congr (by rw [gateView_enterSub, gateView_enterState, gateView_noteFallback]) h)
  · exact h

theorem SettleKeeps.at_causeAt (p : Plane) (c : Nat) (m : Ports) {s : State} (h : I s) : I (causeAt p c m s) := by
  unfold causeAt
  split
  · exact h
  · split
    any_goals exact k.at_enterSafe p c m h
    · split
      · exact k.at_rechoose h
      · exact h
    · exact h

theorem SettleKeeps.at_causeEach (l : List Plane) (c : Nat) (m : Ports) {s : State} (h : I s) : I (causeEach l c m s) := by
  induction l generalizing s with
  | nil => exact h
  | cons p t ih => exact ih (k.at_causeAt p c m h)

end

/-! ## HALT_N and STO (R31, R32, R187) -/

/-- ENABLE is withdrawn at every port, and no switch is on but those whose turn-off R173 defers or R175 staggers. -/
def OnlyWaiting (s : State) : Prop :=
  withdrawn s = true ∧ s.prt.upper &&& ~~~(s.prt.deferUp ||| (staggered s).1) = 0 ∧
    s.prt.lower &&& ~~~(s.prt.deferLo ||| (staggered s).2) = 0

theorem staggered_congr {s t : State} (h : t.prt.stagger = s.prt.stagger) : staggered t = staggered s := by simp [staggered, h]

/-- A settling while ENABLE is withdrawn leaves only the switches that wait. -/
theorem settle_onlyWaiting {s : State} (b : Bool) (m : Ports) (h : withdrawn s = true) : OnlyWaiting (settle b m s) := by
  obtain ⟨hU, hL⟩ := want_unenabled (s := s) (by simp [enableIn, h])
  have hg : staggered (settle b m s) = staggered s := staggered_congr (by simp)
  refine ⟨by simpa using h, ports_diff_zero fun n hn => ?_, ports_diff_zero fun n hn => ?_⟩
  · obtain hw | hd | ⟨hs, -, -⟩ := settle_upper hn
    · simp [hU] at hw
    · simp [hd]
    · simp [hg, hs]
  · obtain hw | hd | ⟨hs, -, -⟩ := settle_lower hn
    · simp [hL] at hw
    · simp [hd]
    · simp [hg, hs]

theorem onlyWaiting_kept : SettleKeeps OnlyWaiting where
  congr := by
    intro s t e h
    simp only [gateView, GateView.mk.injEq] at e
    obtain ⟨hu, hl, hdu, hdl, hst, -, -, -, hw⟩ := e
    simpa only [OnlyWaiting, hu, hl, hdu, hdl, hw, staggered_congr hst] using h
  at_settle := fun b m _ h => settle_onlyWaiting b m h.1

@[simp] theorem forceBlock_planes (l : List Plane) (s : State) : (forceBlock l s).planes = s.planes :=
  foldl_same (·.planes) _ (fun s p => by split <;> simp) l s

@[simp] theorem forceBlock_isl (l : List Plane) (s : State) : (forceBlock l s).isl = s.isl :=
  foldl_same (·.isl) _ (fun s p => by split <;> simp) l s

@[simp] theorem forceBlock_pins (l : List Plane) (s : State) : (forceBlock l s).pins = s.pins :=
  foldl_same (·.pins) _ (fun s p => by split <;> simp) l s

@[simp] theorem lane_forceBlock (l : List Plane) (s : State) (p : Plane) : lane (forceBlock l s) p = lane s p :=
  lane_congr (by simp) p

@[simp] theorem gateView_forceBlock (l : List Plane) (s : State) : gateView (forceBlock l s) = gateView s :=
  foldl_same gateView _ (fun s p => by split <;> rfl) l s

theorem forceBlock_cons (q : Plane) (t : List Plane) (s : State) : forceBlock (q :: t) s = forceBlock t (forceBlock [q] s) := rfl

/-- A forced PULSE_BLOCK stays forced while others are. -/
theorem forceBlock_keeps (l : List Plane) {s : State} {n : Nat} (h : s.prt.forcedBlock.getLsbD n = true) :
    (forceBlock l s).prt.forcedBlock.getLsbD n = true := by
  induction l generalizing s with
  | nil => exact h
  | cons q t ih =>
    rw [forceBlock_cons]
    refine ih ?_
    simp only [forceBlock, List.foldl_cons, List.foldl_nil]
    split <;> simp [h]

/-- PULSE_BLOCK is forced at every powered plane of the list (R179). -/
theorem forceBlock_forced {l : List Plane} {p : Plane} {s : State} (hp : p ∈ l) (h : poweredSt (lane s p).st = true) :
    (forceBlock l s).prt.forcedBlock.getLsbD p.code = true := by
  induction l generalizing s with
  | nil => simp at hp
  | cons q t ih =>
    rw [forceBlock_cons]
    obtain rfl | hp := List.mem_cons.1 hp
    · exact forceBlock_keeps t (by simp [forceBlock, h, code_lt p])
    · exact ih hp (by rw [lane_forceBlock]; exact h)

theorem activeSt_powered {st : PState} (h : activeSt st = true) : poweredSt st = true := by cases st <;> simp_all [activeSt, poweredSt]

@[simp] theorem lane_withPins (s : State) (x : Pins) (p : Plane) : lane { s with pins := x } p = lane s p := by cases p <;> rfl

/-- HALT_N low takes an active plane to SAFE with cause 0x0B (R31). -/
theorem haltFall_safe {p : Plane} {s : State} (hr : s.isl.prt = true) (ha : activeSt (lane s p).st = true) :
    (lane (haltFall s) p).st = .safe ∧ par (haltFall s) (protSafeCause p.code) = 0x0B :=
  causeEvery_safe 0 _ (by decide) (by simpa using hr) (by simpa using ha)

/-- HALT_N low leaves only the switches on that wait (R31). -/
theorem haltFall_onlyWaiting (s : State) : OnlyWaiting (haltFall s) :=
  onlyWaiting_kept.at_causeEach _ _ _ (settle_onlyWaiting true 0 (by simp [withdrawn]))

@[simp] theorem haltFall_pins (s : State) : (haltFall s).pins = { s.pins with haltLow := true } := by simp [haltFall]

/-- An STO channel low takes an active plane to SAFE with cause 0x0C, PULSE_BLOCK forced (R187). -/
theorem stoLow_safe {p : Plane} (b : Bool) {s : State} (hr : s.isl.prt = true) (ha : activeSt (lane s p).st = true) :
    (lane (stoLow b s) p).st = .safe ∧ par (stoLow b s) (protSafeCause p.code) = 0x0C ∧
      (stoLow b s).prt.forcedBlock.getLsbD p.code = true := by
  refine and_assoc.1 ⟨causeEvery_safe 0 _ (by decide) (by simpa using hr) (by simpa using ha), ?_⟩
  rw [stoLow, causeEvery_prt_forcedBlock]
  exact forceBlock_forced (by cases p <;> decide) (by simpa using activeSt_powered ha)

/-- An STO channel low leaves only the switches on that wait (R32). -/
theorem stoLow_onlyWaiting (b : Bool) (s : State) : OnlyWaiting (stoLow b s) := by
  refine onlyWaiting_kept.at_causeEach _ _ _ (onlyWaiting_kept.congr (gateView_forceBlock ..) (settle_onlyWaiting true 0 ?_))
  cases b <;> simp [withdrawn]

theorem stoLow_pin (b : Bool) (s : State) : (if b then (stoLow b s).pins.sto2 else (stoLow b s).pins.sto1) = false := by
  cases b <;> simp [stoLow]

/-- When a withdrawal ends Sorrel's ENABLE registers are 0, and with no modulator output enabled no port turns on (R31, R187; log
entry 13). -/
theorem enablesOff_off (s : State) : (enablesOff s).prt.enable = 0 ∧
    (s.prt.modEnable = 0 → (enablesOff s).prt.upper &&& ~~~s.prt.upper = 0 ∧ (enablesOff s).prt.lower &&& ~~~s.prt.lower = 0) := by
  refine ⟨by simp [enablesOff], fun hm => ?_⟩
  have hen : enableIn (updPrt (fun r => { r with enable := 0, ascStep := 0, chopOn := false }) s) = 0 := by simp [enableIn, hm]
  exact settle_unenabled false 0 hen

@[simp] theorem enablesOff_planes (s : State) : (enablesOff s).planes = s.planes := by simp [enablesOff]
@[simp] theorem enablesOff_time (s : State) : (enablesOff s).time = s.time := by simp [enablesOff]
@[simp] theorem enablesOff_pins (s : State) : (enablesOff s).pins = s.pins := by simp [enablesOff]

/-- Settles O35: a settling under the withdrawal leaves only the switches that wait, which no entry into SAFE undoes, and one with
ENABLE 0 everywhere turns none on. -/
theorem haltAndStoWithdrawEnable : Obligations.HaltAndStoWithdrawEnable := by
  unfold Obligations.HaltAndStoWithdrawEnable
  refine ⟨fun p s hr ha => ⟨?_, fun b => ?_⟩, fun s h => ?_, fun s h => ?_, fun s h => ?_⟩
  · obtain ⟨hst, hc⟩ := haltFall_safe hr ha
    obtain ⟨-, hU, hL⟩ := haltFall_onlyWaiting s
    exact ⟨haltFall s, rfl, hst, hc, by simp, hU, hL⟩
  · obtain ⟨hst, hc, hf⟩ := stoLow_safe b hr ha
    obtain ⟨-, hU, hL⟩ := stoLow_onlyWaiting b s
    exact ⟨stoLow b s, rfl, hst, hc, stoLow_pin b s, hf, hU, hL⟩
  · obtain ⟨hen, hoff⟩ := enablesOff_off { s with pins := { s.pins with haltLow := false } }
    exact ⟨_, congrArg Host.Outcome.next (if_pos h), by simp, hen, hoff, by simp, by simp⟩
  · obtain ⟨hen, hoff⟩ := enablesOff_off { s with pins := { s.pins with sto1 := true, sto2 := true } }
    exact ⟨_, congrArg Host.Outcome.next (if_neg (by simp [h])), by simp [stoHighNow], hen, hoff, by simp, by simp⟩
  · exact congrArg Host.Outcome.next (if_neg (by simp [h]))

end Sys2Proof.Machine
end

section
/-! PROOFS. Keep-alive and undervoltage (R23, R169, R170). -/

namespace Sys2Proof.Machine

/-- The ports at which a monitor declares undervoltage. -/
def declaredAt (m : Mon) (s : State) : Ports :=
  match m with
  | .vcc => s.prt.uvVcc
  | .vboot => s.prt.uvVboot
  | .vee => s.prt.uvVee

theorem getLsbD_portBit {n : Nat} (h : n < 36) : (portBit n).getLsbD n = true := by simp [portBit, h]

theorem declaredAt_congr {s t : State} (h : gateView t = gateView s) (m : Mon) : declaredAt m t = declaredAt m s := by
  simp only [gateView, GateView.mk.injEq] at h
  obtain ⟨-, -, -, -, -, hcc, hee, hboot, -⟩ := h
  cases m
  · exact hcc
  · exact hboot
  · exact hee

theorem declaredAt_settle (m : Mon) (b : Bool) (x : Ports) (s : State) : declaredAt m (settle b x s) = declaredAt m s := by
  cases m <;> simp [declaredAt, settle]

/-- A declaration adds the port to the monitor's, and a release takes it out. -/
theorem declaredAt_setMon (n : Nat) (m : Mon) (on : Bool) (s : State) :
    declaredAt m (setMon n m on s) = if on then declaredAt m s ||| portBit n else declaredAt m s &&& ~~~portBit n := by
  cases m <;> rfl

@[simp] theorem setMon_isl (n : Nat) (m : Mon) (on : Bool) (s : State) : (setMon n m on s).isl = s.isl := rfl
@[simp] theorem lane_setMon (n : Nat) (m : Mon) (on : Bool) (s : State) (p : Plane) : lane (setMon n m on s) p = lane s p :=
  lane_updPrt _ s p

/-- A monitor declares undervoltage at a port: its upper switch is off, and the lower one too unless the monitor is VBOOT. -/
def UvOff (n : Nat) (m : Mon) (s : State) : Prop :=
  (declaredAt m s).getLsbD n = true ∧ s.prt.upper.getLsbD n = false ∧ (m ≠ .vboot → s.prt.lower.getLsbD n = false)

/-- A port holds its switches off where a monitor declares undervoltage, and no stagger lasts there (R169, R175). -/
theorem declaredAt_holds {m : Mon} {s : State} {n : Nat} (h : (declaredAt m s).getLsbD n = true) :
    (heldUpper s).getLsbD n = true ∧ (starved s).getLsbD n = true ∧ (m ≠ .vboot → (heldLower s).getLsbD n = true) := by
  cases m <;> simp_all [declaredAt, heldUpper, heldLower, starved]

/-- A settling turns the switches off where a monitor declares undervoltage (R169). -/
theorem settle_uvOff {n : Nat} {m : Mon} {s : State} (b : Bool) (x : Ports) (h : (declaredAt m s).getLsbD n = true) :
    UvOff n m (settle b x s) := by
  obtain ⟨hU, hst, hL⟩ := declaredAt_holds h
  refine ⟨by rw [declaredAt_settle]; exact h, Bool.eq_false_iff.2 fun hn => ?_, fun hm => Bool.eq_false_iff.2 fun hn => ?_⟩
  · obtain hw | hd | ⟨-, -, hs⟩ := settle_upper hn
    · simp [want_held.1 hU] at hw
    · simp [(settle_deferUp hd).2] at hU
    · simp [hs] at hst
  · obtain hw | hd | ⟨-, -, hs⟩ := settle_lower hn
    · simp [want_held.2 (hL hm)] at hw
    · simp [(settle_deferLo hd).2] at hL
      exact hm hL
    · simp [hs] at hst

theorem uvOff_kept (n : Nat) (m : Mon) : SettleKeeps (UvOff n m) where
  congr := by
    intro s t e h
    have hd := declaredAt_congr e m
    simp only [gateView, GateView.mk.injEq] at e
    obtain ⟨hu, hl, -⟩ := e
    simpa only [UvOff, hd, hu, hl] using h
  at_settle := fun b x _ h => settle_uvOff b x h.1

/-- A declaration at a monitored port turns its switches off (R169). -/
theorem uvloDeclare_uvOff {n : Nat} (m : Mon) {s : State} (hn : n < 36) (hm : monitored n s = true) :
    UvOff n m (uvloDeclare n m s) := by
  rw [uvloDeclare, if_pos hm]
  refine (uvOff_kept n m).at_rechoose ((uvOff_kept n m).at_causeAt _ _ _ (settle_uvOff false 0 ?_))
  simp [declaredAt_setMon, getLsbD_portBit hn]

/-- A declaration at a monitored port of an active plane takes the plane to SAFE with cause 0x04 (R170). -/
theorem uvloDeclare_safe {n : Nat} (m : Mon) {s : State} (hm : monitored n s = true) (hr : s.isl.prt = true)
    (ha : activeSt (lane s (planeOfPort n)).st = true) :
    (lane (uvloDeclare n m s) (planeOfPort n)).st = .safe ∧
      par (uvloDeclare n m s) (protSafeCause (planeOfPort n).code) = 0x04 := by
  have hp := code_lt (planeOfPort n)
  obtain ⟨hst, hc⟩ := causeAt_safe (p := planeOfPort n) (c := 0x04) 0 (s := settle false 0 (setMon n m true s)) (by decide)
    (by simpa using hr) (by simpa using ha)
  rw [uvloDeclare, if_pos hm]
  refine ⟨by rw [rechoose_st]; exact hst, (par_rechoose _ ?_ ?_ ?_).trans hc⟩
  · unfold OffGate protSafeCause; omega
  · unfold protSafeCause protBrkCtrl; omega
  · unfold protSafeCause sysEvtLostCnt; omega

theorem declaredAt_kept (m : Mon) (x : Ports) : SettleKeeps (declaredAt m · = x) where
  congr := fun e h => (declaredAt_congr e m).trans h
  at_settle := fun b y s h => (declaredAt_settle m b y s).trans h

theorem declaredAt_rechoose (m : Mon) (s : State) : declaredAt m (rechoose s) = declaredAt m s :=
  (declaredAt_kept m _).at_rechoose rfl

/-- A release takes the port out of the monitor's declarations, and no plane changes its state (R169). -/
theorem uvloRelease_clears {n : Nat} (m : Mon) {s : State} (hm : monitored n s = true) :
    declaredAt m (uvloRelease n m s) = declaredAt m s &&& ~~~portBit n ∧
      ∀ q, (lane (uvloRelease n m s) q).st = (lane s q).st := by
  rw [uvloRelease, if_pos hm]
  refine ⟨?_, fun q => by rw [rechoose_st, lane_settle, lane_setMon]⟩
  rw [declaredAt_rechoose, declaredAt_settle, declaredAt_setMon]
  rfl

/-- At a port, or a number that is none, without an evaluated monitor the two events change nothing (R37, R170; log entry 65). -/
theorem unmonitored_unchanged {n : Nat} (m : Mon) {s : State} (h : monitored n s = false ∨ 36 ≤ n) :
    onPort n (uvloDeclare n m) s = .next s ∧ onPort n (uvloRelease n m) s = .next s := by
  obtain hm | hn := h
  · simp [onPort, uvloDeclare, uvloRelease, hm]
  · simp [onPort, Nat.not_lt.2 hn]

@[simp] theorem keepAliveLoss_kaHold (m : Ports) (s : State) : (keepAliveLoss m s).prt.kaHold = s.prt.kaHold ||| m := by
  simp [keepAliveLoss]

/-- A gate block that has lost its keep-alive has no ENABLE (R23). -/
theorem keepAliveLoss_enableIn (m : Ports) (s : State) : enableIn (keepAliveLoss m s) &&& m = 0 := by
  apply BitVec.eq_of_getLsbD_eq
  intro n _
  unfold enableIn
  split
  · simp
  · cases hm : m.getLsbD n <;> simp [hm]

/-- Settles O40: the hold of R23 masks ENABLE, and a port holds its switches off where a monitor declares undervoltage, over the
settlings of an entry into SAFE too. -/
theorem keepAliveAndUndervoltage : Obligations.KeepAliveAndUndervoltage := by
  unfold Obligations.KeepAliveAndUndervoltage
  refine ⟨fun l s => ?_, fun n m s hn hv hm => ⟨?_, ?_⟩, fun n m s h => unmonitored_unchanged m h⟩
  · exact ⟨keepAliveLoss (portsOf l) s, rfl, by simp, keepAliveLoss_enableIn _ s, by simp [keepAliveLoss], by simp [keepAliveLoss],
      by simp [keepAliveLoss]⟩
  · obtain ⟨hd, hU, hL⟩ := uvloDeclare_uvOff m hn hm
    exact ⟨uvloDeclare n m s, congrArg Host.Outcome.next (if_pos (by simp [hn, hv])), hU, hL, by rintro rfl; exact hd,
      by rintro rfl; exact hd, by rintro rfl; exact hd, uvloDeclare_safe m hm⟩
  · obtain ⟨hd, hst⟩ := uvloRelease_clears m hm
    exact ⟨uvloRelease n m s, congrArg Host.Outcome.next (if_pos (by simp [hn, hv])), by rintro rfl; exact hd,
      by rintro rfl; exact hd, by rintro rfl; exact hd, hst⟩

end Sys2Proof.Machine
end

section
/-! The refutation of O46. -/

namespace Sys2Proof.Machine

/-- ISL_CTL runs, and a word for CLK.SAMPLE_LO waits for the next bundle. -/
def indexWaits : State := { isl := { ctl := true }, wait := [(clkSampleLo, 5#32)] }

/-- The bundle of the commit point takes the waiting word (R351), so that the sample index moves there. -/
theorem sampleK_commitPoint_indexWaits : sampleK indexWaits = 0 ∧ sampleK (commitPoint [] indexWaits) = 5 := by
  decide +kernel

/-- Refutes O46: at the commit point the words that wait for a bundle come into force (R351), and the statement's fifth clause, over
every state, keeps the sample index there also where one of those words is for CLK.SAMPLE_LO. -/
theorem not_strobesAndCommitPoints : ¬ Obligations.StrobesAndCommitPoints := by
  unfold Obligations.StrobesAndCommitPoints
  rintro ⟨-, -, -, -, hkeep, -⟩
  obtain ⟨t, ht, -, hk, -⟩ := hkeep [] indexWaits rfl rfl
  have he : t = commitPoint [] indexWaits := by injection ht.symm
  obtain ⟨h0, h5⟩ := sampleK_commitPoint_indexWaits
  rw [he, h5, h0] at hk
  exact absurd hk (by decide)

end Sys2Proof.Machine
end

section
/-! PROOFS. The end of what ISL_SYS had under way does not reach the island's own bits: it runs, SYS_UP is set, and bit 3 of HWIN_IRQ
stays as it is (R346, R419). -/

namespace Sys2Proof.Machine

/-- Whether ISL_SYS runs, SYS_UP, and bit 3 of HWIN_IRQ. -/
def sysView (s : State) : Bool × Bool × Bool := (s.isl.sys, s.isl.sysUp, s.host.irq.getLsbD 3)

theorem sysView_congr {s t : State} (h1 : t.isl = s.isl) (h2 : t.host.irq = s.host.irq) : sysView t = sysView s := by
  simp [sysView, h1, h2]

/-! ## Parts of a step -/

@[simp] theorem sysView_setPar (id v : Nat) (s : State) : sysView (setPar id v s) = sysView s := rfl
@[simp] theorem sysView_setParBit (id b : Nat) (on : Bool) (s : State) : sysView (setParBit id b on s) = sysView s := rfl
@[simp] theorem sysView_setParBits (id lo n v : Nat) (s : State) : sysView (setParBits id lo n v s) = sysView s := rfl
@[simp] theorem sysView_count (id : Nat) (s : State) : sysView (count id s) = sysView s := rfl
@[simp] theorem sysView_updPrt (f : Prt → Prt) (s : State) : sysView (updPrt f s) = sysView s := rfl
@[simp] theorem sysView_updLane (p : Plane) (f : Lane → Lane) (s : State) : sysView (updLane p f s) = sysView s := rfl
@[simp] theorem sysView_updMod (p : Plane) (f : Mod → Mod) (s : State) : sysView (updMod p f s) = sysView s := rfl
@[simp] theorem sysView_updAcq (f : Acq → Acq) (s : State) : sysView (updAcq f s) = sysView s := rfl
@[simp] theorem sysView_updGfm (f : Gfm → Gfm) (s : State) : sysView (updGfm f s) = sysView s := rfl
@[simp] theorem sysView_updRgt (f : Rgt → Rgt) (s : State) : sysView (updRgt f s) = sysView s := rfl
@[simp] theorem sysView_updRed (f : Red → Red) (s : State) : sysView (updRed f s) = sysView s := rfl
@[simp] theorem sysView_updFw (f : Fw → Fw) (s : State) : sysView (updFw f s) = sysView s := rfl
@[simp] theorem sysView_bumpFree (s : State) : sysView (bumpFree s) = sysView s := rfl

@[simp] theorem sysView_updEth (n : Nat) (f : Eth → Eth) (s : State) : sysView (updEth n f s) = sysView s := by
  unfold updEth
  split <;> rfl

@[simp] theorem sysView_raiseNum (n d : Nat) (s : State) : sysView (raiseNum n d s) = sysView s := sysView_congr (by simp) (by simp)
@[simp] theorem sysView_raiseFlag (id b d : Nat) (s : State) : sysView (raiseFlag id b d s) = sysView s :=
  sysView_congr (by simp) (by simp)
@[simp] theorem sysView_complete (h st c : Nat) (r : List Byte) (s : State) : sysView (complete h st c r s) = sysView s :=
  sysView_congr (by simp) (by simp)
@[simp] theorem sysView_cancelAll (l : List Nat) (c : Nat) (s : State) : sysView (cancelAll l c s) = sysView s :=
  foldl_same sysView _ (fun s x => by simp) l s
@[simp] theorem sysView_enterState (p : Plane) (st : PState) (sub : SafeSub) (s : State) :
    sysView (enterState p st sub s) = sysView s := sysView_congr (by simp) (by simp)
@[simp] theorem sysView_settle (b : Bool) (m : Ports) (s : State) : sysView (settle b m s) = sysView s :=
  sysView_congr (by simp) (by simp)
@[simp] theorem sysView_override (m x y : Ports) (s : State) : sysView (override m x y s) = sysView s := rfl
@[simp] theorem sysView_suppliesOn (p : Plane) (s : State) : sysView (suppliesOn p s) = sysView s := rfl
@[simp] theorem sysView_suppliesOff (p : Plane) (s : State) : sysView (suppliesOff p s) = sysView s := rfl
@[simp] theorem sysView_releaseOvr (p : Plane) (s : State) : sysView (releaseOvr p s) = sysView s :=
  sysView_congr (by simp) (by simp)
@[simp] theorem sysView_initMod (p : Plane) (s : State) : sysView (initMod p s) = sysView s := sysView_congr (by simp) (by simp)

/-! ## Entries into SAFE -/

@[simp] theorem sysView_enterSafe (p : Plane) (c : Nat) (m : Ports) (s : State) : sysView (enterSafe p c m s) = sysView s := by
  simp [sysView, enterSafe_irq]

@[simp] theorem sysView_rechoose (s : State) : sysView (rechoose s) = sysView s := by
  refine sysView_congr (by simp) ?_
  unfold rechoose
  dsimp only
  repeat' split
  all_goals simp [noteFallback_irq]

@[simp] theorem sysView_causeAt (p : Plane) (c : Nat) (m : Ports) (s : State) : sysView (causeAt p c m s) = sysView s := by
  unfold causeAt
  repeat' split
  all_goals simp

@[simp] theorem sysView_forceBlock (l : List Plane) (s : State) : sysView (forceBlock l s) = sysView s :=
  foldl_same sysView _ (fun s p => by split <;> rfl) l s

/-! ## Plane commands -/

@[simp] theorem sysView_enterReady (p : Plane) (s : State) : sysView (enterReady p s) = sysView s := by
  unfold enterReady
  dsimp only
  repeat' split
  all_goals simp

@[simp] theorem sysView_endReplay (st cause : Nat) (s : State) : sysView (endReplay st cause s) = sysView s := by
  unfold endReplay
  split
  · rfl
  · simp only [sysView_complete, sysView_raiseFlag, sysView_setPar]
    rfl

@[simp] theorem sysView_doEnable (p : Plane) (s : State) : sysView (doEnable p s) = sysView s := by
  simp [doEnable, startCounter, rebinLane]

@[simp] theorem sysView_doDisable (p : Plane) (s : State) : sysView (doDisable p s) = sysView s := by
  unfold doDisable
  dsimp only
  split <;> simp

@[simp] theorem sysView_sixTable (s : State) : sysView (sixTable s) = sysView s := by
  unfold sixTable
  extract_lets put lo src s1
  have h1 : sysView s1 = sysView s := sysView_setParBit ..
  split
  · exact (foldl_same sysView put (fun s x => rfl) _ s1).trans h1
  · exact h1

@[simp] theorem sysView_doStart (p : Plane) (s : State) : sysView (doStart p s) = sysView s := by
  unfold doStart
  dsimp only
  split <;> simp

@[simp] theorem sysView_doDisarm (p : Plane) (s : State) : sysView (doDisarm p s) = sysView s := by simp [doDisarm]

@[simp] theorem sysView_doTestEnter (p : Plane) (s : State) : sysView (doTestEnter p s) = sysView s := by
  simp [doTestEnter, driveTest]

@[simp] theorem sysView_doTestExit (p : Plane) (s : State) : sysView (doTestExit p s) = sysView s := by simp [doTestExit]

@[simp] theorem sysView_planeWork (op : Nat) (p : Plane) (h : Nat) (s : State) : sysView (planeWork op p h s).1 = sysView s := by
  unfold planeWork
  dsimp only
  repeat' split
  all_goals simp [beginStop]

@[simp] theorem sysView_runQueue (p : Plane) (n : Nat) (s : State) : sysView (runQueue p n s) = sysView s := by
  induction n generalizing s with
  | zero => rfl
  | succ n ih =>
    unfold runQueue
    dsimp only
    repeat' split
    all_goals simp [ih]

@[simp] theorem sysView_drainQueue (p : Plane) (s : State) : sysView (drainQueue p s) = sysView s := by
  unfold drainQueue
  split <;> simp

/-! ## The ends of operations -/

theorem sysView_eachPlane {f : Plane → State → State} (h : ∀ p s, sysView (f p s) = sysView s) (s : State) :
    sysView (eachPlane f s) = sysView s := foldl_same sysView _ (fun s p => h p s) _ s

@[simp] theorem sysView_cancelPlane (h cause : Nat) (p : Plane) (s : State) : sysView (cancelPlane h cause p s) = sysView s := by
  unfold cancelPlane
  dsimp only
  repeat' split
  all_goals simp

@[simp] theorem sysView_completeOps (op st cause : Nat) (s : State) : sysView (completeOps op st cause s) = sysView s :=
  foldl_same sysView _ (fun s h => by simp) _ s

@[simp] theorem sysView_setBrk (b : Nat) (on : Bool) (s : State) : sysView (setBrk b on s) = sysView s := by
  unfold setBrk
  dsimp only
  repeat' split
  all_goals simp

@[simp] theorem sysView_endSync (st cause : Nat) (s : State) : sysView (endSync st cause s) = sysView s := by
  have h1 : sysView ((opsOf s 0x0020).foldl (fun s h => complete h st cause [] s) s) = sysView s := sysView_completeOps ..
  unfold endSync
  dsimp only
  repeat' split
  all_goals simp [permitOff, setAct, h1]

@[simp] theorem sysView_endDischarge (st cause : Nat) (s : State) : sysView (endDischarge st cause s) = sysView s := by
  unfold endDischarge
  split <;> simp

@[simp] theorem sysView_endTxn (st cause : Nat) (r : List Byte) (s : State) : sysView (endTxn st cause r s) = sysView s := by
  unfold endTxn
  split
  · rfl
  · rw [sysView_complete]
    rfl

@[simp] theorem sysView_abortTxn (s : State) : sysView (abortTxn s) = sysView s := by
  unfold abortTxn
  split
  · rfl
  · repeat' split
    any_goals exact sysView_endTxn ..
    rfl

@[simp] theorem sysView_ftInject (s : State) : sysView (ftInject s) = sysView s :=
  foldl_same sysView _ (fun s x => by split <;> simp) _ s

@[simp] theorem sysView_endSelfTest (st cause pass fail : Nat) (s : State) : sysView (endSelfTest st cause pass fail s) = sysView s := by
  unfold endSelfTest
  split
  · rfl
  · rw [sysView_complete]
    refine Eq.trans (b := sysView (if (pass + fail).testBit 6 then ftInject s else s)) rfl ?_
    split <;> simp

@[simp] theorem sysView_cancelSelfTest (cause : Nat) (s : State) : sysView (cancelSelfTest cause s) = sysView s := by
  unfold cancelSelfTest
  split <;> simp

@[simp] theorem sysView_dropSave (cause : Nat) (s : State) : sysView (dropSave cause s) = sysView s := by
  unfold dropSave
  split <;> simp

@[simp] theorem sysView_updSlotFw (n : Nat) (f : FwSlot → FwSlot) (s : State) : sysView (updSlotFw n f s) = sysView s := rfl

@[simp] theorem sysView_endUpdate (st cause : Nat) (s : State) : sysView (endUpdate st cause s) = sysView s := by
  unfold endUpdate
  dsimp only
  repeat' split
  all_goals simp

@[simp] theorem sysView_dropStaged (h : Hitless) (s : State) : sysView (dropStaged h s) = sysView s := by
  unfold dropStaged
  split <;> rfl

@[simp] theorem sysView_endAct (h st : Nat) (s : State) : sysView (endAct h st s) = sysView s := by
  unfold endAct
  repeat' split
  all_goals rfl

@[simp] theorem sysView_endActivation (st cause : Nat) (s : State) : sysView (endActivation st cause s) = sysView s := by
  unfold endActivation
  split
  · rfl
  · simp only [sysView_complete, sysView_endAct, sysView_updFw]
    repeat' split
    all_goals simp

@[simp] theorem sysView_cancelGroup (cause : Nat) (s : State) : sysView (cancelGroup cause s) = sysView s := by
  unfold cancelGroup
  split <;> simp

@[simp] theorem sysView_holdSlot (n : Nat) (up : Bool) (s : State) : sysView (holdSlot n up s) = sysView s := rfl

@[simp] theorem sysView_endRead (o : ReadOp) (st cause : Nat) (s : State) : sysView (endRead o st cause s) = sysView s := by
  simp only [endRead, sysView_complete]
  split <;> simp

@[simp] theorem sysView_cancelArchive (cause : Nat) (s : State) : sysView (cancelArchive cause s) = sysView s := by
  unfold cancelArchive
  split <;> simp

@[simp] theorem sysView_endLoad (o : LoadOp) (st cause : Nat) (slot : Slot) (s : State) :
    sysView (endLoad o st cause slot s) = sysView s := by
  simp only [endLoad, sysView_complete]
  rfl

@[simp] theorem sysView_cancelFrame (h cause : Nat) (s : State) : sysView (cancelFrame h cause s) = sysView s := by
  simp [cancelFrame]

/-- The cancellation of an operation (R361). -/
@[simp] theorem sysView_cancelOp (o : Op) (cause : Nat) (s : State) : sysView (cancelOp o cause s) = sysView s := by
  unfold cancelOp
  dsimp only
  split
  · exact sysView_eachPlane (sysView_cancelPlane o.handle cause) s
  · repeat' split
    all_goals simp

@[simp] theorem sysView_stopSequence (s : State) : sysView (stopSequence s) = sysView s := by
  unfold stopSequence
  repeat' split
  all_goals simp

@[simp] theorem sysView_txnAtReset (s : State) : sysView (txnAtReset s) = sysView s := by
  unfold txnAtReset
  repeat' split
  all_goals simp

@[simp] theorem sysView_endOutstanding (s : State) : sysView (endOutstanding s) = sysView s :=
  (foldl_same sysView _ (fun s o => by split <;> simp) _ _).trans (sysView_txnAtReset s)

/-! ## The restart of ISL_SYS -/

@[simp] theorem sysView_dropSwap (s : State) : sysView (dropSwap s) = sysView s := by
  unfold dropSwap
  repeat' split
  all_goals simp

@[simp] theorem sysView_flushLate (keep : Nat → Bool) (s : State) : sysView (flushLate keep s) = sysView s :=
  foldl_same sysView _ (fun s x => by repeat' split
                                      all_goals simp) _ _

@[simp] theorem sysView_flushHeld (s : State) : sysView (flushHeld s) = sysView s :=
  (foldl_same sysView _ (fun s p => sysView_congr (by simp) (by simp)) _ _).trans
    (foldl_same sysView _ (fun s r => sysView_congr (by simp) (by simp)) _ _)

@[simp] theorem sysView_startHealth (s : State) : sysView (startHealth s) = sysView s := by
  unfold startHealth
  dsimp only
  split <;> rfl

@[simp] theorem sysView_loseEntries (l : List (Nat × Bool)) (s : State) : sysView (loseEntries l s) = sysView s := rfl

/-- ISL_SYS runs again with SYS_UP set and bit 3 of HWIN_IRQ (R346). -/
theorem sysView_restartSys (l : List (Nat × Bool)) (s : State) : sysView (restartSys l s) = (true, true, true) := by
  simp only [restartSys, sysView_startHealth, sysView_flushHeld, sysView_endOutstanding, sysView_flushLate, sysView_loseEntries,
    sysView_dropSwap]
  simp [sysView, colClear]

end Sys2Proof.Machine
end

section
/-! PROOFS. Islands that stop, island resets and the debug halt (R17, R63, R152, R346, R419). -/

namespace Sys2Proof.Machine

/-! ## An island stops (R17) -/

@[simp] theorem endTxn_isl (st c : Nat) (r : List Byte) (s : State) : (endTxn st c r s).isl = s.isl := by
  unfold endTxn
  split
  · rfl
  · rw [complete_isl]
    rfl

@[simp] theorem lane_endTxn (st c : Nat) (r : List Byte) (s : State) (p : Plane) : lane (endTxn st c r s) p = lane s p := by
  unfold endTxn
  split
  · rfl
  · rw [lane_complete]
    rfl

theorem par_endTxn (st c : Nat) (r : List Byte) (s : State) {j : Nat} (h : j ≠ sysEvtLostCnt) : par (endTxn st c r s) j = par s j := by
  unfold endTxn
  split
  · rfl
  · rw [par_complete _ _ _ _ _ h]
    rfl

@[simp] theorem stopSequence_isl (s : State) : (stopSequence s).isl = s.isl := by
  unfold stopSequence
  repeat' split
  all_goals simp

@[simp] theorem lane_stopSequence (s : State) (p : Plane) : lane (stopSequence s) p = lane s p := by
  unfold stopSequence
  repeat' split
  all_goals simp

theorem par_stopSequence (s : State) {j : Nat} (h : j ≠ sysEvtLostCnt) : par (stopSequence s) j = par s j := by
  unfold stopSequence
  repeat' split
  all_goals simp [par_endTxn _ _ _ _ h]

theorem protSafeCause_ne_evtLost (p : Plane) : protSafeCause p.code ≠ sysEvtLostCnt := by cases p <;> decide

/-- ISL_CTL that stops takes every active plane to SAFE with cause 0x07. -/
theorem islandDown_ctl {p : Plane} {s : State} (hr : s.isl.prt = true) (ha : activeSt (lane s p).st = true) :
    (islandDown .ctl s).isl.ctl = false ∧ (islandDown .ctl s).isl.health = false ∧ (lane (islandDown .ctl s) p).st = .safe ∧
      par (islandDown .ctl s) (protSafeCause p.code) = 0x07 := by
  have hl : lane (stopHealth { s with isl := { s.isl with ctl := false } }) p = lane s p := by cases p <;> rfl
  obtain ⟨hs, hc⟩ := causeEvery_safe (p := p) (c := 0x07) 0 (stopHealth { s with isl := { s.isl with ctl := false } }) (by decide) hr
    (by rw [hl]; exact ha)
  exact ⟨by simp [islandDown, stopHealth], by simp [islandDown, stopHealth], hs, hc⟩

/-- A stop of ISL_CTL: what the island's end gives stands, whether or not a sequence of groups stops too (R359). -/
theorem islandStopped_ctl {p : Plane} {s : State} (h : s.isl.ctl = true) (hr : s.isl.prt = true)
    (ha : activeSt (lane s p).st = true) :
    (islandStopped .ctl s).isl.ctl = false ∧ (islandStopped .ctl s).isl.health = false ∧
      (lane (islandStopped .ctl s) p).st = .safe ∧ par (islandStopped .ctl s) (protSafeCause p.code) = 0x07 := by
  have he : islandStopped .ctl s = stopSequence (islandDown .ctl (updFw (fun f => { f with stopped := true }) s)) := if_pos h
  have hd := islandDown_ctl (p := p) (s := updFw (fun f => { f with stopped := true }) s) hr (by cases p <;> exact ha)
  rw [he, stopSequence_isl, lane_stopSequence, par_stopSequence _ (protSafeCause_ne_evtLost p)]
  exact hd

/-! ## Island resets (R346, R419) -/

@[simp] theorem startHealth_planes (s : State) : (startHealth s).planes = s.planes := by
  unfold startHealth
  dsimp only
  split <;> rfl
@[simp] theorem startHealth_prt (s : State) : (startHealth s).prt = s.prt := by
  unfold startHealth
  dsimp only
  split <;> rfl
@[simp] theorem startHealth_time (s : State) : (startHealth s).time = s.time := by
  unfold startHealth
  dsimp only
  split <;> rfl
@[simp] theorem startHealth_red (s : State) : (startHealth s).red = s.red := by
  unfold startHealth
  dsimp only
  split <;> rfl
@[simp] theorem startHealth_params (s : State) : (startHealth s).params = s.params := by
  unfold startHealth
  dsimp only
  split <;> rfl
@[simp] theorem startHealth_acq (s : State) : (startHealth s).isl.acq = s.isl.acq := by
  unfold startHealth
  dsimp only
  split <;> rfl
@[simp] theorem startHealth_aon (s : State) : (startHealth s).isl.aon = s.isl.aon := by
  unfold startHealth
  dsimp only
  split <;> rfl

@[simp] theorem noteReset_planes (n : Nat) (s : State) : (noteReset n s).planes = s.planes := by simp [noteReset]
@[simp] theorem noteReset_prt (n : Nat) (s : State) : (noteReset n s).prt = s.prt := by simp [noteReset]
@[simp] theorem noteReset_red (n : Nat) (s : State) : (noteReset n s).red = s.red := by simp [noteReset]

/-- A reset that fits is counted (R419). -/
theorem par_noteReset (n : Nat) {s : State} (h : par s sysResetCnt < 65535) :
    par (noteReset n s) sysResetCnt = par s sysResetCnt + 1 := by
  have hs : ∀ t : State, par (setParBits sysResetCause 4 4 n t) sysResetCnt = par t sysResetCnt :=
    fun t => par_setParBits_other 4 4 n t (by decide)
  unfold noteReset
  rw [par_count, hs]
  · rfl
  · rw [hs]
    exact h

/-- Bit b of a number, taken away where it is set, is clear. -/
theorem testBit_sub_two_pow {x b : Nat} (h : x.testBit b = true) : (x - 2 ^ b).testBit b = false := by
  have hx := Nat.testBit_two_pow_add_eq (x - 2 ^ b) b
  rw [Nat.add_sub_cancel' (Nat.ge_two_pow_of_testBit h), h] at hx
  simpa using hx.symm

/-- Clearing a bit of a parameter shows it clear. -/
theorem parBit_setParBit_clear (id b : Nat) (s : State) : parBit (setParBit id b false s) id b = false := by
  have hlt := par_lt s id
  simp only [parBit, setParBit, Bool.false_eq_true, if_false, par_setPar_same]
  split
  case isTrue h =>
    rw [Nat.mod_eq_of_lt (Nat.lt_of_le_of_lt (Nat.sub_le ..) hlt)]
    exact testBit_sub_two_pow h
  case isFalse h =>
    rw [Nat.mod_eq_of_lt hlt]
    exact Bool.not_eq_true _ ▸ h

/-- The comparators of some measurements disarm: TC_CTRL bit 2 is 0. -/
def disarmTc (l : List Nat) (s : State) : State := l.foldl (fun s n => setParBit (timeTcCtrl n) 2 false s) s

@[simp] theorem disarmTc_planes (l : List Nat) (s : State) : (disarmTc l s).planes = s.planes :=
  foldl_same (·.planes) _ (fun s n => by simp) l s
@[simp] theorem disarmTc_prt (l : List Nat) (s : State) : (disarmTc l s).prt = s.prt :=
  foldl_same (·.prt) _ (fun s n => by simp) l s
@[simp] theorem disarmTc_isl (l : List Nat) (s : State) : (disarmTc l s).isl = s.isl :=
  foldl_same (·.isl) _ (fun s n => by simp) l s

/-- Disarming leaves every word that is no TC_CTRL of the list. -/
theorem par_disarmTc {l : List Nat} {j : Nat} (h : ∀ n ∈ l, j ≠ timeTcCtrl n) (s : State) : par (disarmTc l s) j = par s j := by
  induction l generalizing s with
  | nil => rfl
  | cons k t ih =>
    rw [List.forall_mem_cons] at h
    exact (ih h.2 _).trans (par_setParBit_other 2 false s h.1)

/-- A disarmed comparator stays disarmed while others are disarmed. -/
theorem disarmTc_clear {l : List Nat} {n : Nat} (hn : n ∈ l) (s : State) : parBit (disarmTc l s) (timeTcCtrl n) 2 = false := by
  have hstep : ∀ k t, disarmTc (k :: t) s = disarmTc t (setParBit (timeTcCtrl k) 2 false s) := fun _ _ => rfl
  induction l generalizing s with
  | nil => exact absurd hn (by simp)
  | cons k t ih =>
    rw [hstep]
    by_cases hm : n ∈ t
    · exact ih hm _ fun _ _ => rfl
    · obtain rfl : n = k := (List.mem_cons.1 hn).resolve_right hm
      have hne : ∀ m ∈ t, timeTcCtrl n ≠ timeTcCtrl m := by
        rintro m hmt he
        have : n = m := by simp only [timeTcCtrl] at he; omega
        exact hm (this ▸ hmt)
      rw [parBit, par_disarmTc hne, ← parBit]
      exact parBit_setParBit_clear _ 2 s

theorem restartAcq_eq (s : State) : restartAcq s = startHealth (updTime (fun t => { t with busOk := false })
    (colClear [8] (disarmTc (List.range 16) { s with isl := { s.isl with acq := true } }))) := by
  simp only [restartAcq, disarmTc]

/-- The words after a restart of ISL_ACQ are those of the disarmed comparators. -/
theorem par_restartAcq (s : State) (j : Nat) :
    par (restartAcq s) j = par (disarmTc (List.range 16) { s with isl := { s.isl with acq := true } }) j :=
  par_congr (by simp [restartAcq_eq, colClear, updTime]) j

/-- ISL_ACQ restarts alone: it runs, its comparators are disarmed, T_BUS is invalid (R419). -/
theorem restartAcq_view (s : State) : (restartAcq s).isl.acq = true ∧
    (∀ n, n < 16 → parBit (restartAcq s) (timeTcCtrl n) 2 = false) ∧ (restartAcq s).time.busOk = false ∧
    par (restartAcq s) sysResetCnt = par s sysResetCnt ∧ (restartAcq s).planes = s.planes ∧ (restartAcq s).prt = s.prt := by
  have hne : ∀ n ∈ List.range 16, sysResetCnt ≠ timeTcCtrl n := by decide
  refine ⟨?_, fun n hn => ?_, ?_, ?_, ?_, ?_⟩
  · simp [restartAcq_eq, colClear, updTime]
  · rw [parBit, par_restartAcq]
    exact disarmTc_clear (List.mem_range.2 hn) _
  · simp [restartAcq_eq, updTime]
  · rw [par_restartAcq, par_disarmTc hne]
    rfl
  · simp [restartAcq_eq, colClear, updTime]
  · simp [restartAcq_eq, colClear, updTime]

/-- ISL_AON restarts: its paths are down, and its role is to be taken anew (R419). -/
theorem restartAon_view (s : State) : (restartAon s).isl.aon = true ∧ (restartAon s).red.role = 0 ∧
    (restartAon s).red.window = true ∧ (restartAon s).red.pathA = {} ∧ (restartAon s).red.pathB = {} ∧
    (restartAon s).red.snaps = s.red.snaps ∧ (restartAon s).planes = s.planes := by
  simp [restartAon, colClear, updRed]

theorem islandReset_acq (l : List (Nat × Bool)) {s : State} (h : resetFits .acq s = true) :
    islandReset .acq l s = restartAcq (noteReset (islandNo .acq) s) := by simp [islandReset, h]

theorem islandReset_sys (l : List (Nat × Bool)) {s : State} (h : resetFits .sys s = true) :
    islandReset .sys l s = restartSys l (noteReset (islandNo .sys) s) := by simp [islandReset, h]

theorem islandReset_aon (l : List (Nat × Bool)) {s : State} (h : resetFits .aon s = true) :
    islandReset .aon l s = restartAon (noteReset (islandNo .aon) s) := by simp [islandReset, h]

/-- An island that runs is not reset alone. -/
theorem islandReset_running {i : Island} (l : List (Nat × Bool)) {s : State} (h : islandRuns s i = true) : islandReset i l s = s := by
  simp [islandReset, resetFits, h]

/-- ISL_SYS runs again with SYS_UP set and bit 3 of HWIN_IRQ. -/
theorem restartSys_up (l : List (Nat × Bool)) (s : State) : (restartSys l s).isl.sys = true ∧ (restartSys l s).isl.sysUp = true ∧
    (restartSys l s).host.irq &&& 8 = 8 := by
  have hv := sysView_restartSys l s
  simp only [sysView, Prod.mk.injEq] at hv
  obtain ⟨hs, hu, hb⟩ := hv
  exact ⟨hs, hu, by ext i hi; interval_cases i <;> simp_all⟩

/-! ## Debug halt (R152) -/

/-- The step of a resume at one plane: ALIGNED falls where SYNC = YMRK. -/
def unalignAt (s : State) (p : Plane) : State :=
  if par s (modSync p.code) = 1 then updMod p (fun m => { m with aligned := false }) s else s

theorem unalign_eq (s : State) : unalign s = allPlanes.foldl unalignAt s := rfl

@[simp] theorem unalignAt_planes (s : State) (p : Plane) : (unalignAt s p).planes = s.planes := by
  unfold unalignAt
  split <;> rfl
@[simp] theorem unalignAt_params (s : State) (p : Plane) : (unalignAt s p).params = s.params := by
  unfold unalignAt
  split <;> rfl
@[simp] theorem unalignAt_prt (s : State) (p : Plane) : (unalignAt s p).prt = s.prt := by
  unfold unalignAt
  split <;> rfl
@[simp] theorem unalignAt_isl (s : State) (p : Plane) : (unalignAt s p).isl = s.isl := by
  unfold unalignAt
  split <;> rfl

@[simp] theorem unalign_planes (s : State) : (unalign s).planes = s.planes := foldl_same (·.planes) _ unalignAt_planes _ s
@[simp] theorem unalign_params (s : State) : (unalign s).params = s.params := foldl_same (·.params) _ unalignAt_params _ s
@[simp] theorem unalign_prt (s : State) : (unalign s).prt = s.prt := foldl_same (·.prt) _ unalignAt_prt _ s
@[simp] theorem unalign_isl (s : State) : (unalign s).isl = s.isl := foldl_same (·.isl) _ unalignAt_isl _ s

theorem modr_unalignAt_same (s : State) (p : Plane) :
    modr (unalignAt s p) p = if par s (modSync p.code) = 1 then { modr s p with aligned := false } else modr s p := by
  unfold unalignAt
  split <;> simp

theorem modr_unalignAt_other {p q : Plane} (s : State) (h : q ≠ p) : modr (unalignAt s p) q = modr s q := by
  unfold unalignAt
  split
  · exact modr_setMod_other _ s h
  · rfl

/-- After the steps of some planes a modulator has lost ALIGNED where its plane is one of them with SYNC = YMRK. -/
theorem modr_foldl_unalignAt (l : List Plane) (s : State) (p : Plane) : modr (l.foldl unalignAt s) p =
    if p ∈ l ∧ par s (modSync p.code) = 1 then { modr s p with aligned := false } else modr s p := by
  induction l generalizing s with
  | nil => simp
  | cons q t ih =>
    rw [List.foldl_cons, ih, par_congr (unalignAt_params s q)]
    by_cases hq : p = q
    · subst hq
      rw [modr_unalignAt_same]
      by_cases hy : par s (modSync p.code) = 1 <;> simp [hy]
    · simp [modr_unalignAt_other s hq, hq]

theorem modr_unalign (s : State) (p : Plane) :
    modr (unalign s) p = if par s (modSync p.code) = 1 then { modr s p with aligned := false } else modr s p := by
  have hp : p ∈ allPlanes := by cases p <;> decide
  rw [unalign_eq, modr_foldl_unalignAt]
  simp [hp]

theorem stale_unalign (s : State) (p : Plane) : (modr (unalign s) p).stale = (modr s p).stale := by
  rw [modr_unalign]
  split <;> rfl

/-- With no modulator waiting for its initial set, the resume loads none. -/
theorem foldl_initStale {s : State} (h : ∀ q, (modr s q).stale = false) (l : List Plane) :
    l.foldl (fun s p => if (modr s p).stale then initMod p s else s) s = s := by
  induction l with
  | nil => rfl
  | cons q t ih => simp [h q, ih]

/-- A halted ISL_CTL with no modulator waiting resumes as it was, ALIGNED apart. -/
theorem debugResume_eq {s : State} (hh : s.isl.halted = true) (h : ∀ q, (modr s q).stale = false) :
    debugResume s = unalign { s with isl := { s.isl with halted := false } } := by
  have hm : ∀ q, modr { s with isl := { s.isl with halted := false } } q = modr s q := fun q => modr_congr rfl q
  rw [debugResume, if_pos hh]
  exact foldl_initStale (fun q => by rw [stale_unalign, hm, h]) _

/-! ## JTAG (R63) -/

/-- IDCODE and BYPASS are in force in a powered module. -/
theorem jtag_always {i : JtagIns} {s : State} (hv : alive s = true) (hi : i = .idcode ∨ i = .bypass) :
    jtag i s = { s with isl := { s.isl with jtagIns := some i } } := by
  obtain rfl | rfl := hi <;> simp [jtag, hv]

/-- Where R63 permits it the debug instruction opens a session. -/
theorem jtag_debug {s : State} (hv : alive s = true) (ho : jtagOpen s = true) :
    jtag .debug s = { s with isl := { s.isl with jtagIns := some .debug, session := true } } := by simp [jtag, hv, ho]

theorem jtag_extest {s : State} (hv : alive s = true) (ho : jtagOpen s = true) :
    jtag .extest s = { s with isl := { s.isl with jtagIns := some .extest } } := by simp [jtag, hv, ho]

theorem jtagOpen_of_allOff {s : State} (ha : allOff s = true) (hl : s.fw.life = 0 ∨ s.fw.life = 2) : jtagOpen s = true := by
  simpa [jtagOpen, ha] using hl

theorem jtagOpen_refused {s : State} (h : allOff s = false ∨ s.fw.life = 1) : jtagOpen s = false := by
  obtain h | h := h <;> simp [jtagOpen, h]

/-- EXTEST and the debug instruction where they are not permitted: no instruction is in force. -/
theorem jtag_refused {i : JtagIns} {s : State} (hv : alive s = true) (h : allOff s = false ∨ s.fw.life = 1)
    (hi : i = .debug ∨ i = .extest) : jtag i s = { s with isl := { s.isl with jtagIns := none } } := by
  obtain rfl | rfl := hi <;> simp [jtag, hv, jtagOpen_refused h]

/-- Settles O39: each event is its equation (the stop of an island, the reset of one that fits, the resume of a halt without a stale
modulator, an instruction with the module powered) with what its parts leave as they were. -/
theorem islandsAndDebug : Obligations.IslandsAndDebug := by
  unfold Obligations.IslandsAndDebug
  refine ⟨fun p s hc hr ha => ⟨_, rfl, islandStopped_ctl hc hr ha⟩, fun s hs => ?_, fun x s hx => ?_,
    fun l s => ⟨fun hf hn => ?_, fun hf => ?_, fun hf => ?_⟩, fun x s hx => congrArg Host.Outcome.next (islandReset_running x.lost hx),
    fun s hc => ⟨fun ho => ?_, fun ho => ?_⟩, fun p s hh hst => ?_, fun s hh => ?_, fun s hv => ⟨fun i hi => ?_, fun ha hl => ?_,
    fun h i hi => congrArg Host.Outcome.next (jtag_refused hv h hi)⟩⟩
  case refine_1 => exact ⟨_, congrArg Host.Outcome.next (if_pos hs), rfl, rfl, rfl, rfl, rfl, rfl⟩
  case refine_2 => exact congrArg Host.Outcome.next (if_neg (by simp [hx]))
  case refine_3 =>
    obtain ⟨hacq, htc, hbus, hcnt, hpl, hprt⟩ := restartAcq_view (noteReset (islandNo .acq) s)
    rw [par_noteReset _ hn] at hcnt
    exact ⟨_, congrArg Host.Outcome.next (islandReset_acq l hf), hacq, htc, hbus, hcnt, hpl.trans (noteReset_planes ..),
      hprt.trans (noteReset_prt ..)⟩
  case refine_4 => exact ⟨_, congrArg Host.Outcome.next (islandReset_sys l hf), restartSys_up l _⟩
  case refine_5 =>
    obtain ⟨haon, hrole, hwin, hA, hB, hsn, hpl⟩ := restartAon_view (noteReset (islandNo .aon) s)
    exact ⟨_, congrArg Host.Outcome.next (islandReset_aon l hf), haon, hrole, hwin, hA, hB, by rw [hsn, noteReset_red],
      hpl.trans (noteReset_planes ..)⟩
  case refine_6 => exact congrArg Host.Outcome.next (if_pos (by simp [hc, ho]))
  case refine_7 => exact congrArg Host.Outcome.next (if_neg (by simp [ho]))
  case refine_8 =>
    have hm : ∀ q, modr { s with isl := { s.isl with halted := false } } q = modr s q := fun q => modr_congr rfl q
    have hy := modr_unalign { s with isl := { s.isl with halted := false } } p
    rw [hm] at hy
    refine ⟨_, congrArg Host.Outcome.next (debugResume_eq hh hst), by simp, fun h => hy.trans (if_pos h),
      fun h => hy.trans (if_neg h), by simp, by simp, by simp⟩
  case refine_9 => exact congrArg Host.Outcome.next (if_neg (by simp [hh]))
  case refine_10 => exact congrArg Host.Outcome.next (jtag_always hv hi)
  case refine_11 =>
    have ho := jtagOpen_of_allOff ha hl
    exact ⟨congrArg Host.Outcome.next (jtag_debug hv ho), congrArg Host.Outcome.next (jtag_extest hv ho)⟩

end Sys2Proof.Machine
end

section
/-! PROOFS. The bits of a parameter word under a write of one bit or of one field, and what raising a flag leaves of them. -/

namespace Sys2Proof.Machine

/-! ## The bits of a word -/

/-- A word in which a field of n bits from bit lo is replaced, as the bits above, of and below the field. -/
theorem putBits_eq (w lo n v : Nat) : w - 2 ^ lo * bits w lo n + 2 ^ lo * (v % 2 ^ n) =
    2 ^ lo * (2 ^ n * (w / 2 ^ lo / 2 ^ n) + v % 2 ^ n) + w % 2 ^ lo := by
  have hw := Nat.div_add_mod w (2 ^ lo)
  have hq := congrArg (2 ^ lo * ·) (Nat.div_add_mod (w / 2 ^ lo) (2 ^ n))
  simp only [Nat.mul_add] at hq
  simp only [bits, Nat.mul_add]
  omega

/-- A replaced field shows its own bits, and the word's bits elsewhere. -/
theorem testBit_putBits (w lo n v c : Nat) : (w - 2 ^ lo * bits w lo n + 2 ^ lo * (v % 2 ^ n)).testBit c =
    if lo ≤ c ∧ c < lo + n then v.testBit (c - lo) else w.testBit c := by
  rw [putBits_eq, Nat.testBit_two_pow_mul_add _ (Nat.mod_lt _ (Nat.two_pow_pos lo)),
    Nat.testBit_two_pow_mul_add _ (Nat.mod_lt _ (Nat.two_pow_pos n))]
  by_cases h1 : c < lo
  · simp [h1, Nat.not_le.2 h1]
  · by_cases h2 : c - lo < n
    · have h3 : lo ≤ c ∧ c < lo + n := by omega
      simp [h1, h2, h3]
    · have h3 : ¬ (lo ≤ c ∧ c < lo + n) := by omega
      have h4 : c - lo - n + n + lo = c := by omega
      simp only [h1, h2, h3, if_false, Nat.testBit_div_two_pow, h4]

/-- A parameter word has no bit above bit 31. -/
theorem parBit_high (s : State) (id : Nat) {c : Nat} (h : 32 ≤ c) : parBit s id c = false :=
  Nat.testBit_lt_two_pow (Nat.lt_of_lt_of_le (par_lt s id) (Nat.pow_le_pow_right (by decide) h))

theorem parBit_setPar_same (id v : Nat) (s : State) (c : Nat) : parBit (setPar id v s) id c = (decide (c < 32) && v.testBit c) := by
  rw [parBit, par_setPar_same, Nat.testBit_mod_two_pow]

theorem parBit_setPar_other {id j : Nat} (v : Nat) (s : State) (c : Nat) (h : j ≠ id) :
    parBit (setPar id v s) j c = parBit s j c := by
  simp [parBit, par_setPar_other v s h]

/-- A write of a field leaves the bits outside it. -/
theorem parBit_setParBits_off {lo n c : Nat} (id v : Nat) (s : State) (h : c < lo ∨ lo + n ≤ c) :
    parBit (setParBits id lo n v s) id c = parBit s id c := by
  by_cases hc : c < 32
  · rw [setParBits, parBit_setPar_same, testBit_putBits, if_neg (by omega)]
    simp [parBit, hc]
  · rw [parBit_high _ _ (Nat.not_lt.1 hc), parBit_high _ _ (Nat.not_lt.1 hc)]

/-- A write of a field shows the value's bits in it. -/
theorem parBit_setParBits_on {lo n c : Nat} (id v : Nat) (s : State) (hc : c < 32) (h : lo ≤ c ∧ c < lo + n) :
    parBit (setParBits id lo n v s) id c = v.testBit (c - lo) := by
  rw [setParBits, parBit_setPar_same, testBit_putBits, if_pos h]
  simp [hc]

/-- Clearing a bit is the write of a field of one bit. -/
theorem setParBit_false (id b : Nat) (s : State) : setParBit id b false s = setParBits id b 1 0 s := by
  have hb := Nat.toNat_testBit (par s id) b
  simp only [setParBit, setParBits, bits, Bool.false_eq_true, if_false, Nat.pow_one, ← hb]
  cases (par s id).testBit b <;> simp

/-- A write of one bit leaves the others. -/
theorem parBit_setParBit_off {b c : Nat} (id : Nat) (on : Bool) (s : State) (h : c ≠ b) :
    parBit (setParBit id b on s) id c = parBit s id c := by
  cases on with
  | false => rw [setParBit_false, parBit_setParBits_off id 0 s (by omega)]
  | true =>
    by_cases hc : c < 32
    · rw [setParBit, parBit_setPar_same, if_pos rfl, Nat.testBit_or, Nat.testBit_two_pow_of_ne (Ne.symm h)]
      simp [parBit, hc]
    · rw [parBit_high _ _ (Nat.not_lt.1 hc), parBit_high _ _ (Nat.not_lt.1 hc)]

theorem parBit_setParBit_other {id j : Nat} (b : Nat) (on : Bool) (s : State) (c : Nat) (h : j ≠ id) :
    parBit (setParBit id b on s) j c = parBit s j c := by
  simp [parBit, par_setParBit_other b on s h]

theorem parBit_setParBits_other {id j : Nat} (lo n v : Nat) (s : State) (c : Nat) (h : j ≠ id) :
    parBit (setParBits id lo n v s) j c = parBit s j c := by
  simp [parBit, par_setParBits_other lo n v s h]

/-! ## Flags -/

theorem parBit_raiseFlag_other {id j : Nat} (b d : Nat) (s : State) (c : Nat) (h : j ≠ id) (hl : j ≠ sysEvtLostCnt) :
    parBit (raiseFlag id b d s) j c = parBit s j c := by
  simp [parBit, par_raiseFlag_other b d s h hl]

/-- Raising a flag leaves the word's other bits. -/
theorem parBit_raiseFlag_off {id b c : Nat} (d : Nat) (s : State) (h : c ≠ b) (hl : id ≠ sysEvtLostCnt) :
    parBit (raiseFlag id b d s) id c = parBit s id c := by
  rw [← parBit_setParBit_off id true s h]
  simp [parBit, raiseFlag, par_flagEvent _ _ _ _ hl]

end Sys2Proof.Machine
end

section
/-! PROOFS. Gate power, the gate budget, the baseplate temperature and the measurement supplies (R43, R44, R51, R65, R67). -/

namespace Sys2Proof.Machine

/-! ## Gate power (R43, R44) -/

/-- PSUP shows the power of a port. -/
theorem par_gatePwrHigh {n w : Nat} (s : State) (hn : n < 36) (hw : w < 65536) : par (gatePwrHigh n w s) (gatePsup n) = w := by
  have hset : par (setPar (gatePsup n) (w % 65536) s) (gatePsup n) = w := by rw [par_setPar_same]; omega
  unfold gatePwrHigh
  dsimp only
  split
  · rw [par_raiseFlag_other _ _ _ (by simp only [gatePsup, gateStatus]; omega) (by simp only [gatePsup, sysEvtLostCnt]; omega),
      hset]
  · exact hset

/-- A port with its own isolated supply raises its flag above 4.0 W. -/
theorem gatePwrHigh_flag {n w : Nat} {s : State} (h : 4000 < w) (hs : par s (gateSupply n) = 0) :
    parBit (gatePwrHigh n w s) (gateStatus n) 7 = true := by
  rw [gatePwrHigh, if_pos ⟨h, hs⟩]
  exact parBit_raiseFlag _ _ _ _ (by decide) (by simp only [gateStatus, sysEvtLostCnt]; omega)

theorem gatePwrHigh_frame (n w : Nat) (s : State) : (gatePwrHigh n w s).planes = s.planes ∧ (gatePwrHigh n w s).prt = s.prt ∧
    (gatePwrHigh n w s).time = s.time := by
  unfold gatePwrHigh
  dsimp only
  split <;> simp

/-! ## The gate budget (R43) -/

/-- The state with the two input powers shown. -/
def showPower (w x : Nat) (s : State) : State := setPar sysPIn (x % 65536) (setPar sysPGate (w % 65536) s)

theorem par_showPower {w x : Nat} (s : State) (hw : w < 65536) (hx : x < 65536) :
    par (showPower w x s) sysPGate = w ∧ par (showPower w x s) sysPIn = x := by
  rw [showPower, par_setPar_other _ _ (by decide), par_setPar_same, par_setPar_same]
  omega

@[simp] theorem lane_showPower (w x : Nat) (s : State) (p : Plane) : lane (showPower w x s) p = lane s p := by simp [showPower]

/-- The limit rests on the temperature, which the powers shown leave alone. -/
@[simp] theorem gateLimit_showPower (w x : Nat) (s : State) : gateLimit (showPower w x s) = gateLimit s := by
  have ht : tBase (showPower w x s) = tBase s := by
    rw [tBase, showPower, par_setPar_other _ _ (by decide), par_setPar_other _ _ (by decide), tBase]
  simp only [gateLimit, ht]

/-- Above the limit every RUNNING plane goes to SAFE with cause 0x0A. -/
theorem gateBudget_above {w x : Nat} {s : State} (hr : s.isl.prt = true) (h : gateLimit s < (w : Rat)) :
    gateBudget w x s = causeEach (allPlanes.filter fun q => (lane s q).st = .running) 0x0A 0 (raiseNum 0x03 w (showPower w x s)) := by
  have h' : gateLimit (showPower w x s) < (w : Rat) := by simpa using h
  have hl : ∀ q, lane (showPower w x s) q = lane s q := lane_showPower w x s
  simp only [← hl]
  simp only [gateBudget, hr, Bool.not_true, Bool.false_eq_true, if_false]
  exact if_pos h'

theorem gateBudget_within {w x : Nat} {s : State} (hr : s.isl.prt = true) (h : (w : Rat) ≤ gateLimit s) :
    gateBudget w x s = showPower w x s := by
  have h' : ¬ gateLimit (showPower w x s) < (w : Rat) := by simpa using h
  simp only [gateBudget, hr, Bool.not_true, Bool.false_eq_true, if_false]
  exact if_neg h'

/-- Causes of entries into SAFE leave a word that no plane's entry writes. -/
theorem par_causeEach_off {j : Nat} (l : List Plane) (c : Nat) (m : Ports) (s : State) (h : ∀ p, OffSafe p j) :
    par (causeEach l c m s) j = par s j := foldl_same (par · j) _ (fun s p => par_causeAt_other p c m s (h p)) l s

/-- No entry into SAFE writes a word of the SYS block below SYS.TXN_STATE. -/
theorem offSafe_sys {j : Nat} (p : Plane) (h : j < sysTxnState) : OffSafe p j := by
  simp only [sysTxnState] at h
  refine ⟨Or.inl (by omega), ?_, ?_, ?_, ?_, ?_, Or.inl ?_⟩
  · simp only [protSafeCause]; omega
  · simp only [protSafeCnt]; omega
  · simp only [protBrkCtrl]; omega
  · simp only [sysEvtLostCnt]; omega
  · simp only [gfmState]; omega
  · simp only [modPsPer]; omega

/-- A mean above the limit: the powers are shown, and a RUNNING plane is in SAFE with cause 0x0A. -/
theorem gateBudget_above_view {p : Plane} {w x : Nat} {s : State} (hr : s.isl.prt = true) (hw : w < 65536) (hx : x < 65536)
    (hp : (lane s p).st = .running) (h : gateLimit s < (w : Rat)) :
    par (gateBudget w x s) sysPGate = w ∧ par (gateBudget w x s) sysPIn = x ∧ (lane (gateBudget w x s) p).st = .safe ∧
      par (gateBudget w x s) (protSafeCause p.code) = 0x0A := by
  obtain ⟨hg, hi⟩ := par_showPower s hw hx
  rw [gateBudget_above hr h]
  refine ⟨?_, ?_, causeEach_safe 0 _ _ (by decide) ((by decide : allPlanes.Nodup).filter _) ?_ (by simpa [showPower] using hr) ?_⟩
  · rw [par_causeEach_off _ _ _ _ fun p => offSafe_sys p (by decide), par_raiseNum _ _ _ (by decide), hg]
  · rw [par_causeEach_off _ _ _ _ fun p => offSafe_sys p (by decide), par_raiseNum _ _ _ (by decide), hi]
  · exact List.mem_filter.2 ⟨by cases p <;> decide, by simpa using hp⟩
  · rw [lane_congr (raiseNum_planes ..), lane_showPower, hp]
    rfl

/-! ## The baseplate temperature (R65) -/

/-- A temperature of 16 bits reads as it was written. -/
theorem tBase_of_par {x : Int} {s : State} (hlo : -32768 ≤ x) (hhi : x < 32768) (h : par s sysTBase = toBits 16 x) :
    tBase s = x := by
  simp only [tBase, h, signedOf, toBits]
  split <;> omega

/-- The OVERTEMP condition after an update: it begins at 87 °C and is re-armed below 85 °C. -/
def overtempAt (x : Int) (held : Bool) : Bool := decide (8700 ≤ x) || (held && decide (8500 ≤ x))

/-- The state with the temperature shown and the condition updated. -/
def showTemp (x : Int) (s : State) : State :=
  let s1 := setPar sysTBase (toBits 16 x) s
  if 8700 ≤ x ∧ !s.prt.overtemp then raiseNum 0x04 (toBits 16 x) (updPrt (fun r => { r with overtemp := true }) s1)
  else if x < 8500 then updPrt (fun r => { r with overtemp := false }) s1 else s1

theorem tBaseUpdate_eq {x : Int} {s : State} (hv : alive s = true) :
    tBaseUpdate x s = if 9500 ≤ x then causeEvery 0x09 0 (showTemp x s) else showTemp x s := by
  simp only [tBaseUpdate, hv, Bool.not_true, Bool.false_eq_true, if_false]
  rfl

theorem par_showTemp (x : Int) (s : State) : par (showTemp x s) sysTBase = toBits 16 x := by
  have hb : toBits 16 x < 2 ^ 32 := by simp only [toBits]; omega
  have hset : par (setPar sysTBase (toBits 16 x) s) sysTBase = toBits 16 x := by rw [par_setPar_same, Nat.mod_eq_of_lt hb]
  unfold showTemp
  dsimp only
  split
  · rw [par_raiseNum _ _ _ (by decide), par_updPrt, hset]
  · split <;> simpa using hset

@[simp] theorem showTemp_planes (x : Int) (s : State) : (showTemp x s).planes = s.planes := by
  unfold showTemp
  dsimp only
  repeat' split
  all_goals simp
@[simp] theorem showTemp_isl (x : Int) (s : State) : (showTemp x s).isl = s.isl := by
  unfold showTemp
  dsimp only
  repeat' split
  all_goals simp

theorem showTemp_overtemp (x : Int) (s : State) : (showTemp x s).prt.overtemp = overtempAt x s.prt.overtemp := by
  unfold showTemp overtempAt
  dsimp only
  split
  case isTrue h => simp [h.1]
  case isFalse h =>
    split
    case isTrue hx => simp [show ¬ 8500 ≤ x by omega, show ¬ 8700 ≤ x by omega]
    case isFalse hx =>
      have hx' : 8500 ≤ x := by omega
      cases ho : s.prt.overtemp <;> simp_all

/-- At 95 °C every active plane goes to SAFE with cause 0x09. -/
theorem tBaseUpdate_hot {p : Plane} {x : Int} {s : State} (hv : alive s = true) (hr : s.isl.prt = true)
    (ha : activeSt (lane s p).st = true) (hx : 9500 ≤ x) (hhi : x < 32768) :
    tBase (tBaseUpdate x s) = x ∧ (lane (tBaseUpdate x s) p).st = .safe ∧ par (tBaseUpdate x s) (protSafeCause p.code) = 0x09 := by
  rw [tBaseUpdate_eq hv, if_pos hx]
  refine ⟨tBase_of_par (by omega) hhi ?_, causeEvery_safe 0 _ (by decide) (by simpa using hr) ?_⟩
  · exact (par_causeEach_off _ _ _ _ fun p => offSafe_sys p (by decide)).trans (par_showTemp x s)
  · rwa [lane_congr (showTemp_planes x s)]

/-! ## Measurement supplies (R51, R67) -/

theorem mpSupply_marks {n : Nat} {s : State} (h : s.prt.m5v.getLsbD n = true) :
    (mpSupply n s).prt.mpLimit = s.prt.mpLimit ||| (1#24 <<< n) ∧ (mpSupply n s).planes = s.planes ∧
      (mpSupply n s).time = s.time := by
  rw [mpSupply, if_pos h]
  simp

/-- Settles O43: each event is its case of the model's step, and no entry into SAFE writes the words that show the powers and the
temperature. -/
theorem powerAndTemperatureLimits : Obligations.PowerAndTemperatureLimits := by
  unfold Obligations.PowerAndTemperatureLimits
  refine ⟨fun n w s hn hv hw => ?_, fun p w x s hr hw hx hp => ⟨fun h => ?_, fun h => ?_⟩,
    fun p x s hv hr ha hhi => ⟨fun hx => ?_, fun hlo hx => ?_⟩, fun n s hn h => ?_, fun n s h => ?_⟩
  case refine_1 =>
    exact ⟨gatePwrHigh n w s, congrArg Host.Outcome.next (if_pos (by simp [hn, hv])), par_gatePwrHigh s hn hw, gatePwrHigh_flag,
      gatePwrHigh_frame n w s⟩
  case refine_2 => exact ⟨gateBudget w x s, rfl, gateBudget_above_view hr hw hx hp h⟩
  case refine_3 =>
    obtain ⟨hg, hi⟩ := par_showPower s hw hx
    exact ⟨showPower w x s, congrArg Host.Outcome.next (gateBudget_within hr h), hg, hi, rfl, rfl⟩
  case refine_4 => exact ⟨tBaseUpdate x s, rfl, tBaseUpdate_hot hv hr ha hx hhi⟩
  case refine_5 =>
    exact ⟨showTemp x s, congrArg Host.Outcome.next ((tBaseUpdate_eq hv).trans (if_neg (by omega))),
      tBase_of_par hlo hhi (par_showTemp x s), by simp, showTemp_overtemp x s⟩
  case refine_6 => exact ⟨mpSupply n s, congrArg Host.Outcome.next (if_pos hn), mpSupply_marks h⟩
  case refine_7 =>
    have hm : mpSupply n s = s := if_neg (by simp [h])
    exact congrArg Host.Outcome.next (by simp [hm])

end Sys2Proof.Machine
end

section
/-! PROOFS. The loss of the input with its record and hold-up, and the breaker relays and their inputs (R40, R41, R44, R55, R62, R188 to
R190, R213). -/

namespace Sys2Proof.Machine

/-! ## The events sent last (R386) -/

@[simp] theorem sendDst_recent (p : Packet) (n : Nat) (s : State) : (sendDst p n s).host.recent = s.host.recent := by
  unfold sendDst
  split <;> rfl

@[simp] theorem pushSpi_recent (p : Packet) (s : State) : (pushSpi p s).host.recent = s.host.recent := by
  unfold pushSpi
  split <;> rfl

/-- While Tansy works a raised event is the last in the record of events, with the time of its raising. -/
theorem raiseNum_recent {s : State} (n d : Nat) (h : tansyUp s = true) :
    (raiseNum n d s).host.recent.head? = some (0x0020, monoNs s) := by
  unfold raiseNum flagEvent sendAsync
  rw [if_pos h]
  simp only [routeAsync, sendDst_recent]
  split <;> simp [noteEvent, eventPacket]

/-! ## The input voltage (R40, R44) -/

/-- SUPPLY_LOW holds below 18 V once an excursion to 16.0 V or more has begun it (R40). -/
def lowAt (v : Nat) (held : Bool) : Bool := decide (v < 1800) && (held || decide (1600 ≤ v))

/-- SYS.VIN shown, and SUPPLY_LOW as it then holds. -/
def showVin (v : Nat) (s : State) : State :=
  updPrt (fun r => { r with supplyLow := lowAt v r.supplyLow }) (setPar sysVin (v % 65536) s)

/-- An excursion that begins SUPPLY_LOW raises its event; each other change of the input is shown alone. -/
theorem supplyLow_eq {v : Nat} {s : State} (hr : s.isl.prt = true) :
    supplyLow v s = if 1600 ≤ v ∧ v < 1800 ∧ s.prt.supplyLow = false then raiseNum 0x01 (v % 65536) (showVin v s)
      else showVin v s := by
  have hkeep : ∀ u : State, lowAt v u.prt.supplyLow = u.prt.supplyLow →
      updPrt (fun r => { r with supplyLow := lowAt v r.supplyLow }) u = u := fun u h => by simp only [updPrt, h]
  simp only [supplyLow, hr, Bool.not_true, Bool.false_eq_true, if_false]
  by_cases h18 : 1800 ≤ v
  · rw [if_pos h18, if_neg (by omega), showVin]
    simp [lowAt, Nat.not_lt.2 h18]
  · by_cases h16 : 1600 ≤ v
    · cases hl : s.prt.supplyLow
      · rw [if_neg h18, if_pos (by simp [h16]), if_pos (by simp [h16]; omega), showVin]
        simp [lowAt, h16, Nat.lt_of_not_le h18]
      · rw [if_neg h18, if_neg (by simp), if_neg (by simp), showVin, hkeep]
        simp [lowAt, hl, Nat.lt_of_not_le h18]
    · rw [if_neg h18, if_neg (by simp [h16]), if_neg (by simp [h16]), showVin, hkeep]
      simp [lowAt, h16, Nat.lt_of_not_le h18]

theorem par_showVin {v : Nat} (s : State) (h : v < 65536) : par (showVin v s) sysVin = v := by
  rw [showVin, par_updPrt, par_setPar_same]
  omega

theorem supplyLow_view {v : Nat} {s : State} (hr : s.isl.prt = true) (hv : v < 65536) : par (supplyLow v s) sysVin = v ∧
    (supplyLow v s).prt = { s.prt with supplyLow := lowAt v s.prt.supplyLow } ∧ (supplyLow v s).planes = s.planes ∧
    (supplyLow v s).time = s.time := by
  have hpar := par_showVin s hv
  rw [supplyLow_eq hr]
  split
  · exact ⟨(par_raiseNum _ _ _ (by decide)).trans hpar, raiseNum_prt .., raiseNum_planes .., raiseNum_time ..⟩
  · exact ⟨hpar, rfl, rfl, rfl⟩

/-! ## SUPPLY_LOSS (R41, R55, R188) -/

@[simp] theorem requestFail_planes (c : Nat) (s : State) : (requestFail c s).planes = s.planes := by
  unfold requestFail
  split <;> rfl
@[simp] theorem requestFail_params (c : Nat) (s : State) : (requestFail c s).params = s.params := by
  unfold requestFail
  split <;> rfl
@[simp] theorem requestFail_prt (c : Nat) (s : State) : (requestFail c s).prt = s.prt := by
  unfold requestFail
  split <;> rfl
@[simp] theorem requestFail_pins (c : Nat) (s : State) : (requestFail c s).pins = s.pins := by
  unfold requestFail
  split <;> rfl
@[simp] theorem requestFail_time (c : Nat) (s : State) : (requestFail c s).time = s.time := by
  unfold requestFail
  split <;> rfl

@[simp] theorem setBrk_planes (b : Nat) (on : Bool) (s : State) : (setBrk b on s).planes = s.planes := by
  unfold setBrk
  dsimp only
  repeat' split
  all_goals simp
@[simp] theorem setBrk_time (b : Nat) (on : Bool) (s : State) : (setBrk b on s).time = s.time := by
  unfold setBrk
  dsimp only
  repeat' split
  all_goals simp

/-- De-energising a relay changes no register of the gate blocks. -/
@[simp] theorem setBrk_false_prt (b : Nat) (s : State) : (setBrk b false s).prt = s.prt := by
  simp only [setBrk, Bool.false_eq_true, if_false]
  split <;> simp

/-- A relay that is de-energised shows it (R189). -/
theorem setBrk_false_ctrl (b : Nat) (s : State) : parBit (setBrk b false s) protBrkCtrl b = false := by
  simp only [setBrk, Bool.false_eq_true, if_false]
  split
  · rw [parBit_setParBit_other _ _ _ _ (by decide)]
    exact parBit_setParBit_clear ..
  · exact parBit_setParBit_clear ..

/-- De-energising HOLD ends a permit (R213). -/
theorem setBrk_hold_permit (s : State) : gPermit (setBrk 0 false s) = false := parBit_setParBit_clear gfmState 7 _

theorem par_setBrk_other {b j : Nat} (s : State) (h1 : j ≠ protBrkCtrl) (h2 : j ≠ gfmState) :
    par (setBrk b false s) j = par s j := by
  simp only [setBrk, Bool.false_eq_true, if_false]
  split
  · rw [par_setParBit_other _ _ _ h2, par_setParBit_other _ _ _ h1]
  · exact par_setParBit_other _ _ _ h1

theorem protSafeCause_ne_brk (p : Plane) : protSafeCause p.code ≠ protBrkCtrl := by cases p <;> decide
theorem protSafeCause_ne_gfmState (p : Plane) : protSafeCause p.code ≠ gfmState := by cases p <;> decide

/-- The planes and the relays at a declared loss, with its FAIL frame asked for. -/
def lossActs (s : State) : State :=
  requestFail 1 (setBrk 0 false (causeEvery 0x08 0 (raiseNum 0x02 0 (updPrt (fun r => { r with supplyLoss := true }) s))))

theorem supplyLoss_eq {s : State} (hr : s.isl.prt = true) (hl : s.prt.supplyLoss = false) :
    supplyLoss s = presence false { lossActs s with isl := { (lossActs s).isl with health := false } } := by
  simp only [supplyLoss, hr, hl, Bool.not_true, Bool.false_eq_true, if_false]
  rfl

/-- The loss takes an active plane to SAFE with cause 0x08 and de-energises HOLD. -/
theorem lossActs_view {p : Plane} {s : State} (hr : s.isl.prt = true) (ha : activeSt (lane s p).st = true) :
    (lane (lossActs s) p).st = .safe ∧ par (lossActs s) (protSafeCause p.code) = 0x08 ∧ parBit (lossActs s) protBrkCtrl 0 = false ∧
      (lossActs s).prt.supplyLoss = true := by
  obtain ⟨hst, hc⟩ := causeEvery_safe (p := p) (c := 0x08) 0 (raiseNum 0x02 0 (updPrt (fun r => { r with supplyLoss := true }) s))
    (by decide) (by simpa using hr) (by rw [lane_congr (raiseNum_planes ..), lane_updPrt]; exact ha)
  refine ⟨?_, ?_, ?_, ?_⟩
  · rw [lossActs, lane_congr (requestFail_planes ..), lane_congr (setBrk_planes ..)]
    exact hst
  · rw [lossActs, par_congr (requestFail_params ..), par_setBrk_other _ (protSafeCause_ne_brk p) (protSafeCause_ne_gfmState p)]
    exact hc
  · rw [lossActs, parBit_congr (requestFail_params ..)]
    exact setBrk_false_ctrl 0 _
  · simp [lossActs]

theorem supplyLoss_view {p : Plane} {s : State} (hr : s.isl.prt = true) (hl : s.prt.supplyLoss = false)
    (ha : activeSt (lane s p).st = true) :
    (lane (supplyLoss s) p).st = .safe ∧ par (supplyLoss s) (protSafeCause p.code) = 0x08 ∧
      parBit (supplyLoss s) protBrkCtrl 0 = false ∧ (supplyLoss s).prt.supplyLoss = true ∧ (supplyLoss s).isl.health = false ∧
      (supplyLoss s).isl.yOpen = false := by
  obtain ⟨hst, hc, hb, hs⟩ := lossActs_view hr ha
  rw [supplyLoss_eq hr hl]
  exact ⟨(congrArg Lane.st (lane_congr rfl p)).trans hst, hc, hb, hs, rfl, rfl⟩

/-! ## After the loss (R41, R189) -/

theorem powerFailRecord_written {s : State} (hl : s.prt.supplyLoss = true) (hs : s.isl.sys = true) :
    ∃ x, (powerFailRecord s).fw.ring.head? = some x ∧ x.mono = monoNs s ∧ x.net = netNs s ∧ x.events = s.host.recent ∧
      (powerFailRecord s).planes = s.planes ∧ (powerFailRecord s).prt = s.prt ∧ (powerFailRecord s).params = s.params := by
  rw [powerFailRecord, if_pos (by simp [hl, hs])]
  exact ⟨_, rfl, rfl, rfl, rfl, rfl, rfl, rfl⟩

theorem corePowerDown_view {s : State} (hl : s.prt.supplyLoss = true) :
    (corePowerDown s).isl.ctl = false ∧ (corePowerDown s).isl.sys = false ∧ (corePowerDown s).isl.acq = false ∧
      (corePowerDown s).isl.app = false ∧ (corePowerDown s).isl.aon = s.isl.aon ∧
      (corePowerDown s).prt.holdUp = (s.isl.prt && s.isl.mdRun) ∧ (corePowerDown s).eth0.up = false ∧
      (corePowerDown s).eth1.up = false ∧ (corePowerDown s).planes = s.planes ∧ (corePowerDown s).params = s.params := by
  rw [corePowerDown, if_pos hl]
  exact ⟨rfl, rfl, rfl, rfl, rfl, rfl, rfl, rfl, rfl, rfl⟩

theorem mcRelayDrop_view {s : State} (hl : s.prt.supplyLoss = true) :
    parBit (mcRelayDrop s) protBrkCtrl 1 = false ∧ (mcRelayDrop s).prt.mcGone = true ∧ (mcRelayDrop s).planes = s.planes ∧
      (mcRelayDrop s).time = s.time := by
  rw [mcRelayDrop, if_pos hl]
  exact ⟨setBrk_false_ctrl 1 _, by simp, by simp, by simp⟩

/-- Without a loss the three instants are without effect. -/
theorem noLoss_unchanged {s : State} (h : s.prt.supplyLoss = false) :
    powerFailRecord s = s ∧ corePowerDown s = s ∧ mcRelayDrop s = s :=
  ⟨if_neg (by simp [h]), if_neg (by simp [h]), if_neg (by simp [h])⟩

/-! ## The breaker inputs (R62, R188, R190) -/

theorem splitCheck_view (s : State) :
    (splitCheck s).pins = s.pins ∧ (splitCheck s).planes = s.planes ∧ (splitCheck s).prt = s.prt := by
  unfold splitCheck
  dsimp only
  split <;> simp

/-- The MC relay de-energised for 200 ms with its auxiliary closed raises MC_MISMATCH once. -/
theorem brkMismatch_mc {s : State} (h1 : parBit s protBrkCtrl 1 = false) (h2 : s.pins.mcAux = true) (h3 : s.prt.mcMis = false) :
    parBit (brkMismatch true s) protBrkStatus 9 = true ∧ (brkMismatch true s).prt.mcMis = true ∧
      (brkMismatch true s).planes = s.planes := by
  rw [brkMismatch, if_pos rfl, if_pos (by simp [h1, h2, h3])]
  exact ⟨parBit_raiseFlag _ _ _ _ (by decide) (by decide), by simp, by simp⟩

theorem brkMismatch_hold {s : State} (h1 : parBit s protBrkCtrl 0 = false) (h2 : s.pins.brkAux = true)
    (h3 : s.prt.holdMis = false) :
    parBit (brkMismatch false s) protBrkStatus 8 = true ∧ (brkMismatch false s).prt.holdMis = true ∧
      (brkMismatch false s).planes = s.planes := by
  rw [brkMismatch, if_neg (by decide), if_pos (by simp [h1, h2, h3])]
  exact ⟨parBit_raiseFlag _ _ _ _ (by decide) (by decide), by simp, by simp⟩

theorem brkMismatch_raised {s : State} :
    (s.prt.mcMis = true → brkMismatch true s = s) ∧ (s.prt.holdMis = true → brkMismatch false s = s) := by
  constructor <;> intro h <;> simp [brkMismatch, h]

/-- Plane G in SAFE for BRK_DELAY de-energises HOLD, and with it the permit. -/
theorem brkDelay_view {s : State} (hg : (lane s .g).st = .safe) (hb : parBit s protBrkCtrl 0 = true) :
    parBit (brkDelay s) protBrkCtrl 0 = false ∧ gPermit (brkDelay s) = false ∧ (brkDelay s).planes = s.planes ∧
      (brkDelay s).time = s.time := by
  rw [brkDelay, if_pos ⟨hg, hb⟩]
  refine ⟨?_, ?_, by simp, by simp⟩
  · rw [parBit_congr (requestFail_params ..)]
    exact setBrk_false_ctrl 0 s
  · rw [gPermit, parBit_congr (requestFail_params ..)]
    exact setBrk_hold_permit s

/-- Settles O37: each event is its case of the model's step; the loss acts on the planes by the cause 0x08, and no part of it after
that writes a plane's state or cause. -/
theorem inputLossAndBreakers : Obligations.InputLossAndBreakers := by
  unfold Obligations.InputLossAndBreakers
  refine ⟨fun v s hr hv => ?_, fun p s hr hl ha => ?_, fun s hl => ⟨fun hs => ?_, ?_, ?_⟩, fun s hl => ?_, fun b s => ⟨?_, ?_, ?_⟩,
    fun s => ⟨fun h1 h2 h3 => ?_, fun h1 h2 h3 => ?_, fun h => ?_, fun h => ?_⟩, fun s hg hb => ?_, fun s hg => ?_⟩
  case refine_1 =>
    obtain ⟨hpar, hprt, hpl, ht⟩ := supplyLow_view hr hv
    refine ⟨supplyLow v s, rfl, hpar, hprt, fun h16 h18 hl hup => ?_, fun h => ?_, hpl, ht⟩
    · rw [supplyLow_eq hr, if_pos ⟨h16, h18, hl⟩]
      exact raiseNum_recent (s := showVin v s) _ _ hup
    · have hno : ¬ (1600 ≤ v ∧ v < 1800 ∧ s.prt.supplyLow = false) := by
        rintro ⟨h16, h18, hl⟩
        simp [Nat.not_lt.2 h16, Nat.not_le.2 h18, hl] at h
      rw [supplyLow_eq hr, if_neg hno]
      rfl
  case refine_2 => exact ⟨supplyLoss s, rfl, supplyLoss_view hr hl ha⟩
  case refine_3 =>
    obtain ⟨x, hx⟩ := powerFailRecord_written hl hs
    exact ⟨powerFailRecord s, x, rfl, hx⟩
  case refine_4 => exact ⟨corePowerDown s, rfl, corePowerDown_view hl⟩
  case refine_5 => exact ⟨mcRelayDrop s, rfl, mcRelayDrop_view hl⟩
  case refine_6 =>
    obtain ⟨hrec, hcore, hmc⟩ := noLoss_unchanged hl
    exact ⟨congrArg Host.Outcome.next hrec, congrArg Host.Outcome.next hcore, congrArg Host.Outcome.next hmc⟩
  case refine_7 => exact ⟨_, rfl, splitCheck_view { s with pins := { s.pins with busPresent := b } }⟩
  case refine_8 => exact ⟨_, rfl, rfl⟩
  case refine_9 => exact ⟨_, rfl, rfl⟩
  case refine_10 => exact ⟨brkMismatch true s, rfl, brkMismatch_mc h1 h2 h3⟩
  case refine_11 => exact ⟨brkMismatch false s, rfl, brkMismatch_hold h1 h2 h3⟩
  case refine_12 => exact congrArg Host.Outcome.next (brkMismatch_raised.1 h)
  case refine_13 => exact congrArg Host.Outcome.next (brkMismatch_raised.2 h)
  case refine_14 => exact ⟨brkDelay s, rfl, brkDelay_view hg hb⟩
  case refine_15 => exact congrArg Host.Outcome.next (if_neg (by simp [hg]))

end Sys2Proof.Machine
end

section
/-! PROOFS. The system resets: how one begins and what the islands are when they enter it (R58, R66, R416 to R418, R426). -/

namespace Sys2Proof.Machine

/-! ## A reset begins (R58, R418) -/

@[simp] theorem closeRecord_planes (n : Nat) (s : State) : (closeRecord n s).planes = s.planes := by
  unfold closeRecord
  split
  · rfl
  · simp [updSlot]
@[simp] theorem closeRecord_isl (n : Nat) (s : State) : (closeRecord n s).isl = s.isl := by
  unfold closeRecord
  split
  · rfl
  · simp [updSlot]
@[simp] theorem closeRecord_pins (n : Nat) (s : State) : (closeRecord n s).pins = s.pins := by
  unfold closeRecord
  split
  · rfl
  · simp [updSlot]

/-- Closing a record writes words of the ACQ block alone. -/
theorem par_closeRecord {j : Nat} (n : Nat) (s : State) (h1 : j ≠ acqEvents) (h2 : j ≠ acqRecNum) (h3 : j ≠ sysEvtLostCnt) :
    par (closeRecord n s) j = par s j := by
  unfold closeRecord
  split
  · rfl
  · rw [par_raiseFlag_other _ _ _ h1 h3, par_setPar_other _ _ h2]
    rfl

theorem beginReset_eq {k : Nat} {s : State} (h : s.prt.resetting = none) :
    beginReset k s = updPrt (fun r => { r with resetting := some k }) (closeRecord 2 (causeEvery 0x0D 0 s)) := by
  simp [beginReset, h]

/-- A reset that begins notes its kind and leaves the islands and the pins. -/
theorem beginReset_noted (k : Nat) {s : State} (h : s.prt.resetting = none) :
    (beginReset k s).prt.resetting = some k ∧ (beginReset k s).isl = s.isl ∧ (beginReset k s).pins = s.pins := by
  rw [beginReset_eq h]
  simp

/-- A reset that begins takes every active plane to SAFE with cause 0x0D. -/
theorem beginReset_safe {p : Plane} {s : State} (k : Nat) (h : s.prt.resetting = none) (hr : s.isl.prt = true)
    (ha : activeSt (lane s p).st = true) :
    (lane (beginReset k s) p).st = .safe ∧ par (beginReset k s) (protSafeCause p.code) = 0x0D := by
  obtain ⟨hst, hc⟩ := causeEvery_safe (c := 0x0D) 0 s (by decide) hr ha
  rw [beginReset_eq h, lane_updPrt, par_updPrt, lane_congr (closeRecord_planes ..)]
  refine ⟨hst, (par_closeRecord _ _ ?_ ?_ (protSafeCause_ne_evtLost p)).trans hc⟩ <;> cases p <;> decide

/-- RESET_N low at a powered module begins an external reset (R58). -/
theorem resetPin_view {p : Plane} {s : State} (h : s.prt.resetting = none) (hv : alive s = true) (hr : s.isl.prt = true)
    (ha : activeSt (lane s p).st = true) :
    (lane (resetPin s) p).st = .safe ∧ par (resetPin s) (protSafeCause p.code) = 0x0D ∧ (resetPin s).prt.resetting = some 1 ∧
      (resetPin s).pins.resetLow = true := by
  have he : resetPin s = requestFail 2 (beginReset 1 { s with pins := { s.pins with resetLow := true } }) := if_pos hv
  obtain ⟨hk, -, hpin⟩ := beginReset_noted 1 (s := { s with pins := { s.pins with resetLow := true } }) h
  obtain ⟨hst, hc⟩ := beginReset_safe (p := p) 1 (s := { s with pins := { s.pins with resetLow := true } }) h hr
    (by rwa [lane_withPins])
  rw [he, lane_congr (requestFail_planes ..), par_congr (requestFail_params ..), requestFail_prt, requestFail_pins]
  exact ⟨hst, hc, hk, by rw [hpin]⟩

/-- RESET with every plane OFF, STOPPED or READY is carried out (R416). -/
theorem resetCommand_ok {s : State} (h : ∀ p, (lane s p).st = .off ∨ (lane s p).st = .stopped ∨ (lane s p).st = .ready) :
    resetCommand 0 0 s = (beginReset 2 { s with isl := { s.isl with askRecovery := false } }, say stOk) := by
  have hall : (allPlanes.all fun p => (lane s p).st == .off || (lane s p).st == .stopped || (lane s p).st == .ready) = true := by
    rw [List.all_eq_true]
    intro p _
    obtain hp | hp | hp := h p <;> simp [hp]
  rw [resetCommand, if_neg (by decide), if_pos hall]
  rfl

/-- A fresh RESET answers OK and begins a COMMAND reset. -/
theorem execReset_view {e : Env} {s : State} (hf : Fresh 0x0121 1 e s) (hn : s.prt.resetting = none)
    (h : ∀ p, (lane s p).st = .off ∨ (lane s p).st = .stopped ∨ (lane s p).st = .ready) :
    ∃ t, exec (.reset e 0 0) s = .next t ∧ Answered 2 0x0121 e stOk e.handle [] t ∧ t.prt.resetting = some 2 ∧
      t.isl.askRecovery = false := by
  have hb := resetCommand_ok (s := acceptSeq e s) (by simpa using h)
  obtain ⟨hk, hi, -⟩ := beginReset_noted 2
    (s := { acceptSeq e s with isl := { (acceptSeq e s).isl with askRecovery := false } }) (by simpa using hn)
  refine ⟨_, congrArg Host.Outcome.next (serve_now hf (by simp) hb), lastKept_answer .., ?_, ?_⟩
  · rw [answer_prt]
    exact hk
  · rw [answer_isl, hi]

/-- Sorrel resets the system when ISL_CTL stays stopped under AUTO_RESET (R417). -/
theorem supervisorReset_begins {s : State} (hc : s.isl.ctl = false) (ha : parBit s sysAutoReset 0 = true)
    (hl : s.prt.supplyLoss = false) (hr : s.isl.prt = true) : supervisorReset s = beginReset 3 s :=
  if_pos (by simp [hc, ha, hl, hr])

/-! ## The islands enter reset (R418, R426) -/

/-- A reset counts on SYS.RESET_CNT. -/
theorem par_resetWords {k : Nat} {keep : Bool} {s t : State} (ht : t.params = resetWords k keep s)
    (h : par s sysResetCnt < 65535) : par t sysResetCnt = par s sysResetCnt + 1 := by
  have hset : par (setPar sysResetCnt (par s sysResetCnt) { params := [] }) sysResetCnt = par s sysResetCnt := by
    rw [par_setPar_same]
    omega
  have hcnt := par_count sysResetCnt (setPar sysResetCnt (par s sysResetCnt) { params := [] }) (by rwa [hset])
  rw [hset] at hcnt
  have hrate : ∀ v u, par (setPar redAonRate v u) sysResetCnt = par u sysResetCnt := fun v u => par_setPar_other v u (by decide)
  have hstart : ∀ u, par (setParBit sysStartEvents 2 true u) sysResetCnt = par u sysResetCnt :=
    fun u => par_setParBit_other 2 true u (by decide)
  have hboot : ∀ v u, par (setPar fwBootCnt v u) sysResetCnt = par u sysResetCnt := fun v u => par_setPar_other v u (by decide)
  have hcause : ∀ v u, par (setPar sysResetCause v u) sysResetCnt = par u sysResetCnt := fun v u => par_setPar_other v u (by decide)
  rw [par_congr ht]
  repeat' split
  all_goals simp only [hrate, hstart, hboot, hcause, hcnt]

/-- Flash, OTP and boot control keep the OTP words through a reset. -/
theorem keptFw_otp (s : State) : (keptFw s).owner = s.fw.owner ∧ (keptFw s).secVer = s.fw.secVer := by
  have hd : ∀ h : Hitless, (dropStaged h s).fw.owner = s.fw.owner ∧ (dropStaged h s).fw.secVer = s.fw.secVer := by
    intro h
    unfold dropStaged setCopy
    split
    · simp only [updFw_fw]
      split <;> exact ⟨rfl, rfl⟩
    · exact ⟨rfl, rfl⟩
  unfold keptFw
  dsimp only
  split
  · split
    · exact hd _
    · exact ⟨rfl, rfl⟩
  · exact ⟨rfl, rfl⟩

/-- A system reset leaves the planes OFF, the gate registers at their reset values and no handle; it keeps OTP and is counted. -/
theorem systemReset_view (k : Nat) (keep : Bool) {s : State} (h : par s sysResetCnt < 65535) :
    (∀ p, (lane (systemReset k keep s) p).st = .off) ∧ (systemReset k keep s).prt.ovr = BitVec.allOnes 36 ∧
      (systemReset k keep s).prt.enable = 0 ∧ (systemReset k keep s).prt.upper = 0 ∧ (systemReset k keep s).prt.lower = 0 ∧
      (systemReset k keep s).host.ops = [] ∧ par (systemReset k keep s) sysResetCnt = par s sysResetCnt + 1 ∧
      (systemReset k keep s).fw.owner = s.fw.owner ∧ (systemReset k keep s).fw.secVer = s.fw.secVer ∧
      (systemReset k keep s).prt.resetting = none := by
  obtain ⟨ho, hs⟩ := keptFw_otp s
  exact ⟨fun p => by cases p <;> rfl, rfl, rfl, rfl, rfl, rfl, par_resetWords rfl h, ho, hs, rfl⟩

/-- The state in which the islands enter reset, with RESET_N as it stands then. -/
def resetState (k : Nat) (s : State) : State := systemReset k true { s with pins := { s.pins with resetLow := !resetHigh s } }

theorem lane_holdReset (s : State) (p : Plane) : lane (holdReset s) p = lane s p := lane_congr rfl p
theorem par_holdReset (s : State) (id : Nat) : par (holdReset s) id = par s id := par_congr rfl id

theorem resetEntry_eq {k : Nat} {s : State} (h : s.prt.resetting = some k) :
    resetEntry s = if resetHigh s then resetState k s else holdReset (resetState k s) := by
  simp only [resetEntry, h]
  rfl

/-- While RESET_N is low the islands are held in reset, and otherwise leave it (R58). -/
theorem resetEntry_held {k : Nat} {s : State} (h : s.prt.resetting = some k) :
    (resetEntry s).isl.inReset = !resetHigh s ∧ (resetEntry s).isl.prt = resetHigh s := by
  rw [resetEntry_eq h]
  cases resetHigh s <;> exact ⟨rfl, rfl⟩

/-- Holding the islands in reset changes nothing that the reset left but which islands run. -/
theorem resetEntry_view {k : Nat} {s : State} (h : s.prt.resetting = some k) (hc : par s sysResetCnt < 65535) :
    (∀ p, (lane (resetEntry s) p).st = .off) ∧ (resetEntry s).prt.ovr = BitVec.allOnes 36 ∧ (resetEntry s).prt.enable = 0 ∧
      (resetEntry s).prt.upper = 0 ∧ (resetEntry s).prt.lower = 0 ∧ (resetEntry s).host.ops = [] ∧
      par (resetEntry s) sysResetCnt = par s sysResetCnt + 1 ∧ (resetEntry s).fw.owner = s.fw.owner ∧
      (resetEntry s).fw.secVer = s.fw.secVer ∧ (resetEntry s).prt.resetting = none := by
  have hv := systemReset_view k true (s := { s with pins := { s.pins with resetLow := !resetHigh s } }) hc
  rw [resetEntry_eq h]
  split
  · exact hv
  · obtain ⟨hoff, hovr, hen, hup, hlo, hops, hcnt, hkept⟩ := hv
    exact ⟨fun p => by rw [lane_holdReset]; exact hoff p, hovr, hen, hup, hlo, hops, by rw [par_holdReset]; exact hcnt, hkept⟩

theorem resetHigh_of_high {s : State} (h : s.pins.resetLow = false) : resetHigh s = true := by simp [resetHigh, h]

/-- Settles O36: a reset that begins acts on the planes by the cause 0x0D; the islands then enter it with reset values but for what R418
keeps, and RESET_N low holds them there. -/
theorem systemResets : Obligations.SystemResets := by
  unfold Obligations.SystemResets
  refine ⟨fun p s hn hv hr ha => ⟨resetPin s, rfl, resetPin_view hn hv hr ha⟩, fun k s hk _ hc => ?_, fun s hn => ?_,
    fun e s hf hn h => execReset_view hf hn h, fun s hn hc ha hl hr => ?_⟩
  · obtain ⟨hoff, hovr, hen, hup, hlo, hops, hcnt, hown, hver, hres⟩ := resetEntry_view hk hc
    obtain ⟨hin, hprt⟩ := resetEntry_held hk
    exact ⟨resetEntry s, rfl, hoff, hovr, hen, hup, hlo, hops, hcnt, hown, hver, hres, hin, hprt,
      fun h => hprt.trans (resetHigh_of_high h)⟩
  · have he : resetEntry s = s := by simp [resetEntry, hn]
    exact congrArg Host.Outcome.next he
  · obtain ⟨hk, -⟩ := beginReset_noted 3 hn
    exact ⟨_, congrArg Host.Outcome.next (supervisorReset_begins hc ha hl hr), hk⟩

end Sys2Proof.Machine
end

section
/-! PROOFS. The head of the chain, YCLK, presence and surveys on the Yarrow bus (R55, R66, R282, R309 to R311). -/

namespace Sys2Proof.Machine

/-! ## The head of the chain (R309) -/

/-- YCLK that ceases to be a reference moves no plane, no time base and nothing of YBUS.STATUS. -/
theorem disqualifyYclk_view (s : State) : (disqualifyYclk s).planes = s.planes ∧ (disqualifyYclk s).time = s.time ∧
    par (disqualifyYclk s) ybusStatus = par s ybusStatus := by
  have hbit : ∀ b u, par (setParBit clkPllmStatus b false u) ybusStatus = par u ybusStatus :=
    fun b u => par_setParBit_other b false u (by decide)
  have hfield : ∀ lo n v u, par (setParBits clkPllmStatus lo n v u) ybusStatus = par u ybusStatus :=
    fun lo n v u => par_setParBits_other lo n v u (by decide)
  have hcnt : ∀ u, par (count clkHoldCnt u) ybusStatus = par u ybusStatus := fun u => par_count_other u (by decide)
  have hflag : ∀ u, par (raiseFlag clkEvents 0 0 u) ybusStatus = par u ybusStatus :=
    fun u => par_raiseFlag_other 0 0 u (by decide) (by decide)
  simp only [disqualifyYclk, clkHoldover, enterHoldover, setPllm]
  repeat' split
  all_goals simp [hbit, hfield, hcnt, hflag]

theorem becomeHead_eq {s : State} (h : onYbus s = true) (hh : isHead s = false) :
    becomeHead s = raiseFlag ybusEvents 0 0 (disqualifyYclk (setParBits ybusStatus 0 5 16 s)) := if_neg (by simp [h, hh])

/-- A module on the bus that becomes head stands at position 0 and raises HEAD_CHANGE. -/
theorem becomeHead_view {s : State} (h : onYbus s = true) (hh : isHead s = false) :
    isHead (becomeHead s) = true ∧ yPos (becomeHead s) = 0 ∧ parBit (becomeHead s) ybusEvents 0 = true ∧
      (becomeHead s).planes = s.planes ∧ (becomeHead s).time = s.time := by
  obtain ⟨hpl, ht, hst⟩ := disqualifyYclk_view (setParBits ybusStatus 0 5 16 s)
  have hpar : par (becomeHead s) ybusStatus = par (setParBits ybusStatus 0 5 16 s) ybusStatus := by
    rw [becomeHead_eq h hh, par_raiseFlag_other _ _ _ (by decide) (by decide), hst]
  refine ⟨?_, ?_, ?_, ?_, ?_⟩
  · rw [isHead, parBit, hpar]
    exact parBit_setParBits_on ybusStatus 16 s (by decide) (by decide)
  · simp only [yPos, parBits, hpar, setParBits, par_setPar_same, bits]
    omega
  · rw [becomeHead_eq h hh]
    exact parBit_raiseFlag _ _ _ _ (by decide) (by decide)
  · rw [becomeHead_eq h hh, raiseFlag_planes, hpl, setParBits_planes]
  · rw [becomeHead_eq h hh, raiseFlag_time, ht, setParBits_time]

/-- The head that sees YPRS again is head no more and raises HEAD_CHANGE. -/
theorem loseHead_view {s : State} (h : onYbus s = true) (hh : isHead s = true) :
    isHead (loseHead s) = false ∧ parBit (loseHead s) ybusEvents 0 = true ∧ (loseHead s).planes = s.planes ∧
      (loseHead s).time = s.time := by
  rw [loseHead, if_neg (by simp [h, hh])]
  refine ⟨?_, parBit_raiseFlag _ _ _ _ (by decide) (by decide), by simp, by simp⟩
  rw [isHead, parBit_raiseFlag_other _ _ _ _ (by decide) (by decide)]
  exact parBit_setParBit_clear ybusStatus 4 s

/-- A module that is head already does not become it, and counts its own clock. -/
theorem head_unchanged {s : State} (h : isHead s = true) : becomeHead s = s ∧ yclkLost s = s :=
  ⟨if_pos (by simp [h]), if_pos h⟩

/-! ## YCLK (R282, R309) -/

@[simp] theorem parBit_updYbus (f : Ybus → Ybus) (s : State) (id b : Nat) : parBit (updYbus f s) id b = parBit s id b := rfl
@[simp] theorem parBit_updTime (f : Time → Time) (s : State) (id b : Nat) : parBit (updTime f s) id b = parBit s id b := rfl
@[simp] theorem parBit_emit (w : Wire) (s : State) (id b : Nat) : parBit (emit w s) id b = parBit s id b := rfl

theorem yclkLost_eq {s : State} (h : isHead s = false) : yclkLost s = updTime (fun t => { t with busOk := false })
    (updYbus (fun y => { y with absent := true }) (setParBit ybusStatus 13 false s)) := if_neg (by simp [h])

theorem yclkLost_view {s : State} (h : isHead s = false) : (yclkLost s).time = { s.time with busOk := false } ∧
    (yclkLost s).ybus = { s.ybus with absent := true } ∧ parBit (yclkLost s) ybusStatus 13 = false ∧
    (yclkLost s).planes = s.planes := by
  rw [yclkLost_eq h]
  simp [parBit_setParBit_clear]

/-- After an absence the module asks for a survey by the request pulse. -/
theorem yclkBack_view {s : State} (ha : s.ybus.absent = true) (h : onYbus s = true) :
    (yclkBack s).wire = s.wire ++ [.yarrow 1 1000] ∧ (yclkBack s).ybus = { s.ybus with absent := false } ∧
      parBit (yclkBack s) ybusStatus 13 = true ∧ (yclkBack s).planes = s.planes ∧ (yclkBack s).time = s.time := by
  rw [yclkBack, if_pos ⟨ha, h⟩]
  refine ⟨by simp [emit], by simp, ?_, by simp, by simp⟩
  simp [parBit_setParBit]

/-! ## Surveys (R310, R311) -/

theorem surveyStart_view {s : State} (h : onYbus s = true) : parBit (surveyStart s) ybusStatus 6 = true ∧
    (surveyStart s).planes = s.planes ∧ (surveyStart s).time = s.time ∧ (surveyStart s).ybus = s.ybus := by
  rw [surveyStart, if_pos h]
  exact ⟨parBit_setParBit ybusStatus 6 s (by decide), setParBit_planes .., setParBit_time .., setParBit_ybus ..⟩

theorem noteDiscontinuity_view (x : Int) (s : State) : (noteDiscontinuity x s).planes = s.planes ∧
    (noteDiscontinuity x s).time = s.time ∧ (noteDiscontinuity x s).ybus = s.ybus ∧
    (noteDiscontinuity x s).params = s.params := by
  unfold noteDiscontinuity
  split <;> exact ⟨rfl, rfl, rfl, rfl⟩

/-- T_BUS is set and valid, whatever its difference; no plane and nothing of the bus's survey changes. -/
theorem setBus_view (t : Rat) (s : State) : (setBus t s).time.bus = t ∧ (setBus t s).time.busOk = true ∧
    (setBus t s).planes = s.planes ∧ (setBus t s).ybus = s.ybus := by
  unfold setBus
  extract_lets d s1
  obtain ⟨hpl, ht, hy, -⟩ := noteDiscontinuity_view (roundAway d) s1
  split
  · rw [raiseFlag_time, raiseFlag_planes, raiseFlag_ybus, hpl, ht, hy]
    exact ⟨rfl, rfl, rfl, rfl⟩
  · exact ⟨rfl, rfl, rfl, rfl⟩

/-- The set of T_BUS raises at most the discontinuity's flag. -/
theorem parBit_setBus (t : Rat) (s : State) {j c : Nat} (h : j = ybusEvents → c ≠ 4) (hl : j ≠ sysEvtLostCnt) :
    parBit (setBus t s) j c = parBit s j c := by
  unfold setBus
  extract_lets d s1
  obtain ⟨-, -, -, hpar⟩ := noteDiscontinuity_view (roundAway d) s1
  have hs1 : parBit s1 j c = parBit s j c := rfl
  split
  · by_cases hj : j = ybusEvents
    · rw [hj, parBit_raiseFlag_off _ _ (h hj) (by decide), ← hj, parBit_congr hpar, hs1]
    · rw [parBit_raiseFlag_other _ _ _ _ hj hl, parBit_congr hpar, hs1]
  · exact hs1

theorem par_setBus (t : Rat) (s : State) {j : Nat} (h : j ≠ ybusEvents) (hl : j ≠ sysEvtLostCnt) :
    par (setBus t s) j = par s j :=
  Nat.eq_of_testBit_eq fun _ => parBit_setBus t s (fun e => absurd e h) hl

/-- YBUS.STATUS after a survey whose result holds: no survey runs, and the last one has completed. -/
def surveyStatus (v : Survey) (s : State) : State :=
  setParBit ybusStatus 5 true (setParBit ybusStatus 6 false
    (setParBits ybusStatus 7 5 (min 31 v.delays.length) (setParBits ybusStatus 0 4 v.pos s)))

/-- A survey's results shown, before T_BUS is set. -/
def surveyShown (v : Survey) (s : State) : State :=
  raiseFlag ybusEvents 1 0 (setPar ybusLat (latOf v.delays % 65536) (setPar ybusDelay (v.delays.getD v.pos 0)
    (updYbus (fun y => { y with d := v.delays }) (surveyStatus v s))))

theorem surveyStatus_bits (v : Survey) (s : State) : parBit (surveyStatus v s) ybusStatus 6 = false ∧
    parBit (surveyStatus v s) ybusStatus 5 = true ∧ isHead (surveyStatus v s) = isHead s := by
  refine ⟨?_, parBit_setParBit ybusStatus 5 _ (by decide), ?_⟩
  · rw [surveyStatus, parBit_setParBit_off _ _ _ (by decide)]
    exact parBit_setParBit_clear ybusStatus 6 _
  · simp only [isHead, surveyStatus]
    rw [parBit_setParBit_off _ _ _ (by decide), parBit_setParBit_off _ _ _ (by decide), parBit_setParBits_off _ _ _ (by decide),
      parBit_setParBits_off _ _ _ (by decide)]

/-- What the results show leaves YBUS.STATUS as the survey's end set it. -/
theorem parBit_surveyShown_status (v : Survey) (s : State) (c : Nat) :
    parBit (surveyShown v s) ybusStatus c = parBit (surveyStatus v s) ybusStatus c := by
  rw [surveyShown, parBit_raiseFlag_other _ _ _ _ (by decide) (by decide), parBit_setPar_other _ _ _ (by decide),
    parBit_setPar_other _ _ _ (by decide), parBit_updYbus]

theorem par_surveyShown {v : Survey} (s : State) (hp : v.pos < v.delays.length) (hL : latOf v.delays ≤ 2000)
    (hd : ∀ d ∈ v.delays, d < 65536) :
    par (surveyShown v s) ybusLat = latOf v.delays ∧ par (surveyShown v s) ybusDelay = v.delays.getD v.pos 0 := by
  have hown : v.delays.getD v.pos 0 < 65536 := by
    rw [List.getD_eq_getElem _ _ hp]
    exact hd _ (List.getElem_mem hp)
  rw [surveyShown, par_raiseFlag_other _ _ _ (by decide) (by decide), par_raiseFlag_other _ _ _ (by decide) (by decide),
    par_setPar_same, par_setPar_other _ _ (by decide), par_setPar_same]
  omega

/-- A survey of a member that ends with its result in range shows it and sets T_BUS. -/
theorem surveyDone_eq {v : Survey} {s : State} (hs : parBit s ybusStatus 6 = true) (h : onYbus s = true) (hh : isHead s = false)
    (hn : v.delays.length ≤ 16) (hL : latOf v.delays ≤ 2000) :
    surveyDone v s = setBus (v.bus + (v.delays.getD v.pos 0 : Rat) / 100) (surveyShown v s) := by
  have hhead : ¬ isHead (surveyShown v s) = true := by
    rw [isHead, parBit_surveyShown_status, ← isHead, (surveyStatus_bits v s).2.2, hh]
    decide
  rw [surveyDone, if_neg (by simp [hs, h])]
  simp only [hn, hL, hh, decide_true, Bool.and_self, if_true, Bool.false_eq_true, if_false]
  exact if_neg hhead

/-- Such a survey leaves L, the module's own delay and T_BUS as R310 and R311 give them. -/
theorem surveyDone_view {v : Survey} {s : State} (hs : parBit s ybusStatus 6 = true) (h : onYbus s = true) (hh : isHead s = false)
    (hp : v.pos < v.delays.length) (hn : v.delays.length ≤ 16) (hL : latOf v.delays ≤ 2000) (hd : ∀ d ∈ v.delays, d < 65536) :
    par (surveyDone v s) ybusLat = latOf v.delays ∧ par (surveyDone v s) ybusDelay = v.delays.getD v.pos 0 ∧
      (surveyDone v s).ybus.d = v.delays ∧ parBit (surveyDone v s) ybusStatus 6 = false ∧
      parBit (surveyDone v s) ybusStatus 5 = true ∧ parBit (surveyDone v s) ybusEvents 1 = true ∧
      (surveyDone v s).time.bus = v.bus + (v.delays.getD v.pos 0 : Rat) / 100 ∧ (surveyDone v s).time.busOk = true ∧
      (surveyDone v s).planes = s.planes := by
  obtain ⟨hlat, hown⟩ := par_surveyShown s hp hL hd
  obtain ⟨h6, h5, -⟩ := surveyStatus_bits v s
  rw [surveyDone_eq hs h hh hn hL]
  obtain ⟨hb, hok, hpl, hy⟩ := setBus_view (v.bus + (v.delays.getD v.pos 0 : Rat) / 100) (surveyShown v s)
  refine ⟨?_, ?_, ?_, ?_, ?_, ?_, hb, hok, ?_⟩
  · rw [par_setBus _ _ (by decide) (by decide), hlat]
  · rw [par_setBus _ _ (by decide) (by decide), hown]
  · rw [hy, surveyShown, raiseFlag_ybus]
    rfl
  · rw [parBit_setBus _ _ (by decide) (by decide), parBit_surveyShown_status, h6]
  · rw [parBit_setBus _ _ (by decide) (by decide), parBit_surveyShown_status, h5]
  · rw [parBit_setBus _ _ (by decide) (by decide)]
    exact parBit_raiseFlag _ _ _ _ (by decide) (by decide)
  · rw [hpl]
    simp [surveyShown, surveyStatus]

/-- Settles O55: each event is its case of the model's step; the bits of YBUS.STATUS are followed through the writes of its other bits
and fields, and T_BUS through the flag that a discontinuity raises. -/
theorem headPresenceAndSurveys : Obligations.HeadPresenceAndSurveys := by
  unfold Obligations.HeadPresenceAndSurveys
  refine ⟨fun s h hh => ⟨becomeHead s, rfl, becomeHead_view h hh⟩, fun s hh => ?_,
    fun s h hh => ⟨loseHead s, rfl, loseHead_view h hh⟩, fun s hh => ⟨yclkLost s, rfl, yclkLost_view hh⟩,
    fun s ha h => ⟨yclkBack s, rfl, yclkBack_view ha h⟩, fun b s => ⟨presence b s, rfl, rfl, rfl, rfl, rfl⟩,
    fun s h => ⟨surveyStart s, rfl, surveyStart_view h⟩,
    fun v s hs h hh hp hn hL hd => ⟨surveyDone v s, rfl, surveyDone_view hs h hh hp hn hL hd⟩, fun v s hs => ?_⟩
  · obtain ⟨hhead, hclk⟩ := head_unchanged hh
    exact ⟨congrArg Host.Outcome.next hhead, congrArg Host.Outcome.next hclk⟩
  · exact congrArg Host.Outcome.next (if_pos (by simp [hs]))

end Sys2Proof.Machine
end

section
/-! PROOFS. Losses of measurement streams in ISL_CTL and ISL_PRT, their return, the end of a skew calibration, and the length of the
METER window (R70, R83 to R87, R178). -/

namespace Sys2Proof.Machine

/-! ## Measurement ports -/

@[simp] theorem mport_updMport_same (n : Nat) (f : MPort → MPort) (s : State) : mport (updMport n f s) n = f (mport s n) :=
  mport_setMport_same ..

theorem mport_updMport_other {n j : Nat} (f : MPort → MPort) (s : State) (h : j ≠ n) : mport (updMport n f s) j = mport s j :=
  mport_setMport_other _ s h

/-- A port depends on the measurement ports alone. -/
theorem mport_congr {s t : State} (h : t.meas = s.meas) (n : Nat) : mport t n = mport s n := by simp [mport, h]

@[simp] theorem mport_setPar (id v : Nat) (s : State) (n : Nat) : mport (setPar id v s) n = mport s n := rfl
@[simp] theorem mport_setParBit (id b : Nat) (on : Bool) (s : State) (n : Nat) : mport (setParBit id b on s) n = mport s n := rfl

theorem measStatus_ne_measLost (n : Nat) : measStatus n ≠ measLost := by simp only [measStatus, measLost]; omega

theorem isManch_iff (s : State) (n : Nat) : isManch s n = true ↔ par s (measCoding n) = 1 := decide_eq_true_iff

/-! ## Events at a port (R37, R66) -/

/-- At a port of a module that is powered and out of reset an event has its effect. -/
theorem onMport_acts {n : Nat} (f : State → State) {s : State} (hn : n < 24) (hv : alive s = true) :
    onMport n f s = .next (f s) := by simp [onMport, hn, hv]

/-- An event whose effect leaves the state as it is, at whatever port. -/
theorem onMport_unchanged {n : Nat} {f : State → State} {s : State} (h : f s = s) : onMport n f s = .next s := by simp [onMport, h]

/-! ## Losses in ISL_CTL (R84, R85) -/

/-- What a loss in ISL_CTL leaves of port n: the criterion's bit and the port's bit of MEAS.LOST are set, the port has the criterion
and holds R85's sample, and the lanes and the gate registers are as they were. -/
def LostAs (k : Loss) (n : Nat) (a : Int) (s t : State) : Prop :=
  parBit t (measStatus n) (lossBit k) = true ∧ parBit t measLost n = true ∧ (mport t n).loss = some k ∧
    (mport t n).held = heldFor k a (mport s n) ∧ t.planes = s.planes ∧ t.prt = s.prt

theorem lossBit_lt (k : Loss) : lossBit k < 32 := by cases k <;> decide

theorem ctlLoss_lostAs {k : Loss} {n : Nat} (a : Int) {s : State} (hn : n < 24) (h : (mport s n).loss = none) :
    LostAs k n a s (ctlLoss n a k s) := by
  refine ⟨?_, parBit_setParBit _ _ _ (by omega), ?_, ?_, rfl, rfl⟩
  · rw [ctlLoss, parBit_setParBit_other _ _ _ _ (measStatus_ne_measLost n)]
    exact parBit_setParBit _ _ _ (lossBit_lt k)
  · simp [ctlLoss, h]
  · simp [ctlLoss, h]

theorem declareLoss_lostAs {k : Loss} {n : Nat} (a : Int) {s : State} (hn : n < 24) (hr : par s (measRoute n) ≠ 0)
    (h : (mport s n).loss = none) : LostAs k n a s (declareLoss n a false k s) := by
  rw [declareLoss, if_neg hr]
  exact ctlLoss_lostAs a hn h

/-! ## The pair fault (R84) -/

/-- A driver's load that leaves its range is the loss of the port. -/
theorem clkFault_lostAs {n : Nat} (a : Int) {s : State} (hn : n < 24) (hr : par s (measRoute n) ≠ 0) (h : (mport s n).loss = none) :
    LostAs .clkFault n a s (clkFault n a true s) ∧ (mport (clkFault n a true s) n).pair = true := by
  have heq : clkFault n a true s = ctlLoss n a .clkFault (updMport n (fun p => { p with pair := true }) s) := if_neg hr
  obtain ⟨hbit, hport, hloss, hheld, hpl, hprt⟩ := ctlLoss_lostAs (k := .clkFault) a
    (s := updMport n (fun p => { p with pair := true }) s) hn (by simpa using h)
  rw [heq]
  refine ⟨⟨hbit, hport, hloss, ?_, hpl, hprt⟩, by simp [ctlLoss]⟩
  rw [hheld, mport_updMport_same]
  rfl

/-- A load back in its range (log entry 77) clears the pair fault alone. -/
theorem clkFault_cleared {n : Nat} (a : Int) {s : State} (hr : par s (measRoute n) ≠ 0) :
    clkFault n a false s = updMport n (fun p => { p with pair := false }) s := if_neg hr

/-! ## The outcomes of the rows of R84 -/

section
variable {n : Nat} {s : State}

theorem execStuck_nrz (b : Bool) (a : Int) (hn : n < 24) (hv : alive s = true) (hc : par s (measCoding n) ≠ 1) :
    execStuck n b a s = .next (declareLoss n a b .stuck s) :=
  (onMport_acts _ hn hv).trans (congrArg Host.Outcome.next (if_neg (mt (isManch_iff s n).1 hc)))

theorem execManchesterLockLost_manch (b : Bool) (a : Int) (hn : n < 24) (hv : alive s = true) (hc : par s (measCoding n) = 1) :
    execManchesterLockLost n b a s = .next (declareLoss n a b .clkFault s) :=
  (onMport_acts _ hn hv).trans (congrArg Host.Outcome.next (if_pos ((isManch_iff s n).2 hc)))

theorem execManchErr_manch (b : Bool) (a : Int) (hn : n < 24) (hv : alive s = true) (hc : par s (measCoding n) = 1) :
    execManchErr n b a s = .next (declareLoss n a b .manchErr s) :=
  (onMport_acts _ hn hv).trans (congrArg Host.Outcome.next (if_pos ((isManch_iff s n).2 hc)))

theorem execFrozen_repeated (hn : n < 24) (hv : alive s = true) (h0 : par s (measFrzN n) ≠ 0)
    (h : par s (measFrzN n) ≤ (mport s n).same + 1) : execFrozen n s = .next (declareLoss n 0 false .frozen s) :=
  (onMport_acts _ hn hv).trans (congrArg Host.Outcome.next (if_pos ⟨h0, h⟩))

/-- No row of R84 has an effect at a port with route 0. -/
theorem losses_unrouted (a : Int) (b : Bool) (hr : par s (measRoute n) = 0) :
    execStuck n b a s = .next s ∧ execClkFault n ⟨a, b⟩ s = .next s ∧ execManchesterLockLost n b a s = .next s ∧
      execManchErr n b a s = .next s ∧ execFrozen n s = .next s := by
  have hd : ∀ a b k, declareLoss n a b k s = s := fun _ _ _ => if_pos hr
  refine ⟨onMport_unchanged ?_, onMport_unchanged (if_pos hr), onMport_unchanged ?_, onMport_unchanged ?_, onMport_unchanged ?_⟩
  all_goals simp only [hd, ite_self]

end

/-! ## The loss of a DC-link half in ISL_PRT (R86, R178) -/

/-- The end of protective chopping touches the gate registers alone. -/
theorem chopStop_frame (s : State) : (chopStop s).planes = s.planes ∧ (chopStop s).meas = s.meas ∧ (chopStop s).isl = s.isl := by
  unfold chopStop
  dsimp only
  split
  · split <;> simp
  · simp

/-- Every plane rests on the upper DC-link half: its loss is a cause for every plane. -/
theorem lossAction_dcLink (s : State) : lossAction 0x40 s = causeEvery 0x06 0 (chopStop s) := by simp [lossAction]

theorem lossAction_dcLink_view {p : Plane} {s : State} (hr : s.isl.prt = true) (ha : activeSt (lane s p).st = true) :
    (lane (lossAction 0x40 s) p).st = .safe ∧ par (lossAction 0x40 s) (protSafeCause p.code) = 0x06 ∧
      (lossAction 0x40 s).meas = s.meas := by
  obtain ⟨hpl, hmeas, hisl⟩ := chopStop_frame s
  obtain ⟨hst, hcause⟩ := causeEvery_safe (p := p) (c := 0x06) 0 (chopStop s) (by decide) (by rw [hisl, hr])
    (by rw [lane_congr hpl, ha])
  rw [lossAction_dcLink]
  exact ⟨hst, hcause, by rw [causeEvery_meas, hmeas]⟩

/-- The state with a loss in ISL_PRT masked and flagged (R86), before Sorrel's action. -/
def prtMarked (n : Nat) (k : Loss) (s : State) : State :=
  raiseFlag (measStatus n) 6 n (setParBit measLost n true (setParBit (measStatus n) (lossBit k) true
    (updMport n (fun p => { p with prtValid := false, prtRun := 0, prtSince := 0 }) s)))

theorem prtLoss_eq (n : Nat) (k : Loss) (s : State) : prtLoss n k s = lossAction (par s (measRoute n)) (prtMarked n k s) := rfl

theorem prtMarked_planes (n : Nat) (k : Loss) (s : State) : (prtMarked n k s).planes = s.planes := by simp [prtMarked]
theorem prtMarked_isl (n : Nat) (k : Loss) (s : State) : (prtMarked n k s).isl = s.isl := by simp [prtMarked]

theorem prtMarked_invalid (n : Nat) (k : Loss) (s : State) : (mport (prtMarked n k s) n).prtValid = false := by
  rw [prtMarked, mport_congr (raiseFlag_meas ..)]
  simp

/-- The upper half's loss in ISL_PRT takes an active plane to SAFE with cause 0x06, and masks the stream. -/
theorem prtLoss_dcLink {p : Plane} {n : Nat} {s : State} (k : Loss) (hr : s.isl.prt = true) (hc : par s (measRoute n) = 0x40)
    (ha : activeSt (lane s p).st = true) :
    (lane (prtLoss n k s) p).st = .safe ∧ par (prtLoss n k s) (protSafeCause p.code) = 0x06 ∧
      (mport (prtLoss n k s) n).prtValid = false := by
  obtain ⟨hst, hcause, hmeas⟩ := lossAction_dcLink_view (p := p) (s := prtMarked n k s) (by rw [prtMarked_isl, hr])
    (by rw [lane_congr (prtMarked_planes n k s), ha])
  rw [prtLoss_eq, hc]
  exact ⟨hst, hcause, by rw [mport_congr hmeas, prtMarked_invalid]⟩

/-! ## Streams that are valid again (R87) -/

theorem streamValid_ctl {n : Nat} {s : State} (hr : par s (measRoute n) ≠ 0) (he : parBit s (measStatus n) 7 = false)
    (h : (mport s n).run = 64) : streamValid n false s = updMport n (fun p => { p with valid := true }) s := by
  simp [streamValid, hr, he, h]

theorem streamValid_prt {n : Nat} {s : State} (hr : par s (measRoute n) ≠ 0) (he : parBit s (measStatus n) 7 = false)
    (h : (mport s n).prtRun = 64) : streamValid n true s = updMport n (fun p => { p with prtValid := true }) s := by
  simp [streamValid, hr, he, h]

/-! ## The end of a skew calibration (R70) -/

/-- Without a recorded phase a calibration finds nothing. -/
theorem skewFound_nil (u : Bool) : skewFound u [] = none := rfl

section
variable {n : Nat} {u : Bool} {s : State} (ha : par s measSkewAuto ≠ 0) (hr : par s (measRoute n) ≠ 0)
  (hc : par s (measCoding n) ≠ 1) (hl : (mport s n).skewLeft = 0)
include ha hr hc hl

/-- A calibration of a routed NRZ port that has recorded its bits and finds something ends. -/
theorem skewAuto_due {x : Option Nat} (hf : skewFound u (mport s n).skewHist = some x) :
    ¬ (par s measSkewAuto = 0 ∨ par s (measRoute n) = 0 ∨ isManch s n = true ∨ (mport s n).skewHist.isEmpty = true ∨
      (mport s n).skewLeft ≠ 0) := by
  have hh : (mport s n).skewHist ≠ [] := fun e => by rw [e, skewFound_nil] at hf; cases hf
  simp [ha, hr, hc, hl, hh, isManch_iff]

/-- An open eye gives the port its SKEW. -/
theorem skewAuto_found {k : Nat} (hf : skewFound u (mport s n).skewHist = some (some k)) :
    par (skewAuto n u s) (measSkew n) = k % 32 ∧ (mport (skewAuto n u s) n).skewHist = [] ∧
      (skewAuto n u s).planes = s.planes := by
  rw [skewAuto, if_neg (skewAuto_due ha hr hc hl hf), hf]
  refine ⟨?_, by simp, rfl⟩
  rw [par_setPar_same]
  omega

/-- A closed eye is flagged, and the signal is invalid in both islands. -/
theorem skewAuto_closed (hf : skewFound u (mport s n).skewHist = some none) :
    parBit (skewAuto n u s) (measStatus n) 7 = true ∧ (mport (skewAuto n u s) n).valid = false ∧
      (mport (skewAuto n u s) n).prtValid = false ∧ (skewAuto n u s).planes = s.planes := by
  rw [skewAuto, if_neg (skewAuto_due ha hr hc hl hf), hf]
  exact ⟨parBit_setParBit _ _ _ (by decide), by simp, by simp, rfl⟩

end

/-! ## METER outputs (R83) -/

@[simp] theorem bumpManch_params (s : State) : (bumpManch s).params = s.params := by unfold bumpManch; split <;> rfl
@[simp] theorem bumpManch_planes (s : State) : (bumpManch s).planes = s.planes := by unfold bumpManch; split <;> rfl
@[simp] theorem bumpManch_prt (s : State) : (bumpManch s).prt = s.prt := by unfold bumpManch; split <;> rfl
@[simp] theorem bumpManch_time (s : State) : (bumpManch s).time = s.time := by unfold bumpManch; split <;> rfl

/-- The METER filters of every port are written back, and nothing else of the lanes, the gate registers or the time. -/
theorem meterOutput_frame (l : List Nat) (s : State) : (meterOutput l s).planes = s.planes ∧ (meterOutput l s).prt = s.prt ∧
    (meterOutput l s).time = s.time :=
  ⟨foldl_same State.planes (fun s (x : Nat × MPort × Rat) => setMport x.1 x.2.1 s) (fun _ _ => rfl) _ s,
    foldl_same State.prt (fun s (x : Nat × MPort × Rat) => setMport x.1 x.2.1 s) (fun _ _ => rfl) _ s,
    foldl_same State.time (fun s (x : Nat × MPort × Rat) => setMport x.1 x.2.1 s) (fun _ _ => rfl) _ s⟩

theorem par_meterOutput (l : List Nat) (s : State) : par (meterOutput l s) measMaLenNow = nextLen s % 2 ^ 32 := par_setPar_same ..

/-- While ISL_CTL drives MDCLK, a METER output shows the window's next length. -/
theorem meterOutput_view (l : List Nat) {s : State} (hi : s.isl.ctl = true) (hm : s.isl.mdRun = true) (hh : s.isl.halted = false) :
    ∃ t, execMeterOutput l s = .next t ∧ par t measMaLenNow = nextLen s % 2 ^ 32 ∧ t.planes = s.planes ∧ t.prt = s.prt ∧
      t.time = s.time := by
  obtain ⟨hpl, hprt, htime⟩ := meterOutput_frame l s
  refine ⟨bumpManch (meterOutput l s), congrArg Host.Outcome.next (if_pos (by simp [hi, hm, hh])), ?_, ?_, ?_, ?_⟩
  · rw [par_congr (bumpManch_params _), par_meterOutput]
  · rw [bumpManch_planes, hpl]
  · rw [bumpManch_prt, hprt]
  · rw [bumpManch_time, htime]

/-- Settles O45: each row of R84 is the loss of its criterion, with R85's sample, and has no effect at route 0; the loss of the upper
DC-link half is a cause for every plane; and the returns, the calibration and the METER output are their cases of the model's step. -/
theorem streamsAreLostAndReturn : Obligations.StreamsAreLostAndReturn := by
  unfold Obligations.StreamsAreLostAndReturn
  refine ⟨fun n a s hn hv hr hl => ⟨fun hc => ?stuck, ?pairFault, ?pairBack, fun hc => ⟨?lockLost, ?violations⟩,
      fun h0 h => ?frozen⟩,
    fun n a b s hr => losses_unrouted a b hr, fun n a p s hn hv hp hr hc ha => ?dcLink,
    fun n s hn hv hr he => ⟨fun h => ?validCtl, fun h => ?validPrt⟩,
    fun n u s hn hv ha hr hc hl => ⟨fun k hf => ⟨_, onMport_acts _ hn hv, skewAuto_found ha hr hc hl hf⟩,
      fun hf => ⟨_, onMport_acts _ hn hv, skewAuto_closed ha hr hc hl hf⟩⟩,
    fun l s hi hm hh => meterOutput_view l hi hm hh⟩
  case stuck => exact ⟨_, execStuck_nrz false a hn hv hc, declareLoss_lostAs a hn hr hl⟩
  case pairFault =>
    obtain ⟨⟨hbit, hport, hloss, hheld, hframe⟩, hpair⟩ := clkFault_lostAs a hn hr hl
    exact ⟨_, onMport_acts _ hn hv, hbit, hport, hloss, hpair, hheld, hframe⟩
  case pairBack =>
    refine ⟨_, (onMport_acts _ hn hv).trans (congrArg Host.Outcome.next (clkFault_cleared a hr)), ?_, rfl, rfl, rfl⟩
    exact mport_updMport_same ..
  case lockLost =>
    obtain ⟨hbit, hport, hloss, -, hframe⟩ := declareLoss_lostAs (k := .clkFault) a hn hr hl
    exact ⟨_, execManchesterLockLost_manch false a hn hv hc, hbit, hport, hloss, hframe⟩
  case violations =>
    obtain ⟨hbit, hport, hloss, -, hframe⟩ := declareLoss_lostAs (k := .manchErr) a hn hr hl
    exact ⟨_, execManchErr_manch false a hn hv hc, hbit, hport, hloss, hframe⟩
  case frozen =>
    obtain ⟨hbit, hport, hloss, -, hframe⟩ := declareLoss_lostAs (k := .frozen) 0 hn hr hl
    exact ⟨_, execFrozen_repeated hn hv h0 h, hbit, hport, hloss, hframe⟩
  case dcLink =>
    have heq : declareLoss n a true .stuck s = prtLoss n .stuck s := if_neg (by omega)
    exact ⟨_, (execStuck_nrz true a hn hv hc).trans (congrArg Host.Outcome.next heq), prtLoss_dcLink .stuck hp hr ha⟩
  case validCtl =>
    exact ⟨_, (onMport_acts _ hn hv).trans (congrArg Host.Outcome.next (streamValid_ctl hr he h)), mport_updMport_same .., rfl,
      fun j hj => mport_updMport_other _ s hj, rfl, rfl⟩
  case validPrt =>
    exact ⟨_, (onMport_acts _ hn hv).trans (congrArg Host.Outcome.next (streamValid_prt hr he h)), mport_updMport_same .., rfl,
      fun j hj => mport_updMport_other _ s hj, rfl, rfl⟩

end Sys2Proof.Machine
end

section
/-! PROOFS. The plane commands of the host and the ends of PLANE_ARM (R88, R89, R336, R337). -/

namespace Sys2Proof.Machine

/-! ## Service of a plane command (R336, R337) -/

theorem planeOf_code (p : Plane) : planeOf p.code = some p := by cases p <;> rfl

/-- Only the two long commands need a handle at a plane without an operation in progress. -/
theorem planeNeeds_free {op : Nat} {p : Plane} {s : State} (hl : LaneFree p s) :
    planeNeeds op { code := p.code } s = (op == opArm || op == opStop) := by
  simp [planeNeeds, planeOf_code, hl]

/-- At a plane without an operation in progress a command is worked at once. -/
theorem planeBody_free {op : Nat} {p : Plane} {s : State} (e : Env) (h : Nat) (hl : LaneFree p s) (hc : op ≠ opClear) :
    planeBody op e { code := p.code } h s =
      if (planeWork op p h s).2 = stAccepted then accepted op e (fun _ => (planeWork op p h (allocHandle op e.chan s)).1) s
      else ((planeWork op p h s).1, say (planeWork op p h s).2) := by
  simp [planeBody, planeOf_code, hl, hc]

theorem laneFree_acceptSeq {p : Plane} {s : State} (e : Env) (hl : LaneFree p s) : LaneFree p (acceptSeq e s) := by
  simpa only [LaneFree, lane_acceptSeq] using hl

/-- A short plane command whose checks pass is answered OK, on the state after its work. -/
theorem planeCommand_done {op : Nat} {e : Env} {p : Plane} {s t : State} (hf : Fresh op 1 e s) (hl : LaneFree p s)
    (hc : op ≠ opClear) (ha : op ≠ opArm) (hs : op ≠ opStop)
    (hw : planeWork op p (nextHandle s) (acceptSeq e s) = (t, stOk)) :
    planeCommand op e { code := p.code } s = answer 1 op e stOk e.handle [] t := by
  have hl' := laneFree_acceptSeq e hl
  refine serve_now (st := stOk) hf (fun h => ?_) ?_
  · simp [planeNeeds_free hl', ha, hs] at h
  · rw [planeBody_free e _ hl' hc, hw]
    rfl

/-- A long plane command whose checks pass is accepted, and its work runs under the handle allocated for it. -/
theorem planeCommand_accepted {op : Nat} {e : Env} {p : Plane} {s : State} (hf : Fresh op 1 e s) (hr : Room s) (hl : LaneFree p s)
    (hc : op ≠ opClear) (hw : (planeWork op p (nextHandle s) (acceptSeq e s)).2 = stAccepted) :
    planeCommand op e { code := p.code } s = answer 1 op e stAccepted (nextHandle s) []
      (planeWork op p (nextHandle s) (allocHandle op e.chan (acceptSeq e s))).1 := by
  refine serve_now (st := stAccepted) hf (fun _ => hr) ?_
  rw [planeBody_free e _ (laneFree_acceptSeq e hl) hc, if_pos hw]
  rfl

/-- The handle of an accepted command is outstanding after any work that leaves the operations as they are. -/
theorem accepted_of_answer {op : Nat} {e : Env} {s t : State} (hr : Room s)
    (ht : t.host.ops = (allocHandle op e.chan (acceptSeq e s)).host.ops) :
    Accepted 1 op e s (answer 1 op e stAccepted (nextHandle s) [] t) := by
  refine ⟨lastKept_answer .., ?_⟩
  have hfind := findOp_allocHandle op e.chan (acceptSeq e s) (by simpa [Room] using hr)
  rw [nextHandle_acceptSeq] at hfind
  rw [findOp_answer, ← hfind]
  simp only [findOp, ht]

/-! ## PLANE_ENABLE and PLANE_DISABLE (R89) -/

theorem planeWork_enable {p : Plane} {s : State} (h : Nat) (hs : enableStatus p s = stOk) :
    planeWork opEnable p h s = (doEnable p s, stOk) := by simp [planeWork, hs]

theorem planeWork_disable {p : Plane} {s : State} (h : Nat) (hs : (lane s p).st = .stopped) :
    planeWork opDisable p h s = (doDisable p s, stOk) := by simp [planeWork, hs]

@[simp] theorem startCounter_planes (p : Plane) (s : State) : (startCounter p s).planes = s.planes := rfl
@[simp] theorem startCounter_prt (p : Plane) (s : State) : (startCounter p s).prt = s.prt := rfl

@[simp] theorem rebinLane_prt (hys : Bool) (p : Plane) (v i f : Rat) (s : State) : (rebinLane hys p v i f s).prt = s.prt := rfl

/-- PLANE_ENABLE clears the lane's context and keeps what waits in the FIFO. -/
theorem lane_doEnable (p : Plane) (s : State) : (lane (doEnable p s) p).st = .stopped ∧ (lane (doEnable p s) p).z = {} ∧
    (lane (doEnable p s) p).weight = 0 ∧ (lane (doEnable p s) p).fifo = (lane s p).fifo := by
  rw [doEnable, lane_enterState_same, lane_congr (startCounter_planes ..), lane_initMod]
  simp [rebinLane, freshLane]

theorem lane_doEnable_other {p q : Plane} (s : State) (h : q ≠ p) : lane (doEnable p s) q = lane s q := by
  rw [doEnable, lane_enterState_other _ _ _ h, lane_congr (startCounter_planes ..), lane_initMod]
  simp [rebinLane, lane_updLane_other _ _ h]

/-- No gate output moves at PLANE_ENABLE. -/
theorem doEnable_outputs (p : Plane) (s : State) :
    (doEnable p s).prt.upper = s.prt.upper ∧ (doEnable p s).prt.lower = s.prt.lower := by simp [doEnable]

@[simp] theorem endReplay_planes (st c : Nat) (s : State) : (endReplay st c s).planes = s.planes := by
  unfold endReplay
  split
  · rfl
  · simp only [complete_planes, raiseFlag_planes, setPar_planes]
    rfl
@[simp] theorem endReplay_prt (st c : Nat) (s : State) : (endReplay st c s).prt = s.prt := by
  unfold endReplay
  split
  · rfl
  · simp only [complete_prt, raiseFlag_prt, setPar_prt]
    rfl
@[simp] theorem endReplay_mods (st c : Nat) (s : State) : (endReplay st c s).mods = s.mods := by
  unfold endReplay
  split
  · rfl
  · simp only [complete_mods, raiseFlag_mods, setPar_mods]
    rfl

/-- PLANE_DISABLE: the plane is OFF, and a replay that ends with it changes no lane (R318). -/
theorem doDisable_planes (p : Plane) (s : State) : (doDisable p s).planes = (enterState p .off .pulseBlock s).planes := by
  unfold doDisable
  dsimp only
  split <;> simp
@[simp] theorem doDisable_prt (p : Plane) (s : State) : (doDisable p s).prt = s.prt := by
  unfold doDisable
  dsimp only
  split <;> simp
@[simp] theorem doDisable_mods (p : Plane) (s : State) : (doDisable p s).mods = s.mods := by
  unfold doDisable
  dsimp only
  split <;> simp

/-! ## PLANE_ARM (R89) -/

/-- The checks of PLANE_ARM read nothing that the allocation of a handle writes. -/
theorem armStatus_allocHandle (p : Plane) (op : Nat) (c : Chan) (s : State) : armStatus p (allocHandle op c s) = armStatus p s := by
  unfold allocHandle
  split <;> rfl

theorem planeWork_arm {p : Plane} {s : State} (h : Nat) (hs : armStatus p s = stOk) :
    planeWork opArm p h s = (updLane p (fun l => { l with arming := some h }) (suppliesOn p s), stAccepted) := by simp [planeWork, hs]

/-- The ports set to OFF are those of the GATE block's words. -/
theorem offPorts_congr {s t : State} (h : ∀ n, n < 36 → par t (gateSupply n) = par s (gateSupply n)) : offPorts t = offPorts s := by
  unfold offPorts
  exact congrArg portsOf (List.filter_congr fun n hn => by rw [h n (List.mem_range.1 hn)])

theorem offPorts_arming (op : Nat) (e : Env) (s : State) : offPorts (allocHandle op e.chan (acceptSeq e s)) = offPorts s :=
  offPorts_congr fun n _ => by
    rw [par_congr (allocHandle_params ..), par_acceptSeq _ _ (by simp only [gateSupply, sysSeqGapCnt]; omega)]

/-! ## READY (R89, R437) -/

/-- A plane that enters READY, before the causes that hold as levels. -/
def readied (p : Plane) (s : State) : State :=
  updLane p (fun l => { l with first := true, feRun := [0, 0, 0, 0, 0, 0] })
    (settle false 0 (enterState p .ready .pulseBlock (initMod p (releaseOvr p s))))

/-- With HALT_N and the STO channels high no cause holds as a level. -/
theorem enterReady_eq {p : Plane} {s : State} (hh : s.pins.haltLow = false) (hs : stoHighNow s = true) :
    enterReady p s = readied p s := by
  have hp : (readied p s).pins = s.pins := by simp [readied]
  have hh' : (readied p s).pins.haltLow = false := by rw [hp, hh]
  have hs' : stoHighNow (readied p s) = true := by rw [stoHighNow, hp]; exact hs
  simp only [enterReady]
  rw [← readied]
  simp [hh', hs']

theorem lane_readied (p : Plane) (s : State) :
    lane (readied p s) p = { lane s p with st := .ready, sub := .pulseBlock, first := true, feRun := [0, 0, 0, 0, 0, 0] } := by
  simp [readied]

theorem lane_readied_other {p q : Plane} (s : State) (h : q ≠ p) : lane (readied p s) q = lane s q := by
  simp [readied, lane_updLane_other _ _ h, lane_enterState_other _ _ _ h]

/-- Without protective chopping the override of every port of the plane is released. -/
theorem readied_ovr {p : Plane} {s : State} (h : s.prt.chopAct = false) : (readied p s).prt.ovr = s.prt.ovr &&& ~~~planeMask p := by
  have hall : planeMask p &&& 0xFFFFFFFFF#36 = planeMask p := by cases p <;> rfl
  simp [readied, releaseOvr, writePermit, h, hall]

/-- The permission of the plane is written, but for the legs withdrawn by R178. -/
theorem readied_permit (p : Plane) (s : State) :
    (readied p s).prt.permit = (s.prt.permit &&& ~~~planeMask p) ||| (planeMask p &&& ~~~s.prt.legOff) := by
  simp only [readied, updLane_prt, settle_prt_permit, enterState_prt, initMod_prt_permit, releaseOvr, writePermit, updPrt_prt]
  ext i hi
  simp only [BitVec.getElem_or, BitVec.getElem_and, BitVec.getElem_not]
  cases s.prt.permit[i] <;> cases (planeMask p)[i] <;> simp

/-! ## The ends of PLANE_ARM (R89) -/

/-- With no command queued at the plane its queue leaves everything as it is. -/
theorem drainQueue_empty {p : Plane} {s : State} (h : (lane s p).queued = []) : drainQueue p s = s := by
  unfold drainQueue
  split
  · unfold runQueue
    dsimp only
    rw [h]
    split <;> rfl
  · rfl

@[simp] theorem startSkew_planes (f : Nat → Bool) (s : State) : (startSkew f s).planes = s.planes := by
  unfold startSkew
  split
  · rfl
  · exact foldl_same (·.planes) _ (fun s n => by split <;> rfl) _ s
@[simp] theorem startSkew_prt (f : Nat → Bool) (s : State) : (startSkew f s).prt = s.prt := by
  unfold startSkew
  split
  · rfl
  · exact foldl_same (·.prt) _ (fun s n => by split <;> rfl) _ s
@[simp] theorem lane_startSkew (f : Nat → Bool) (s : State) (p : Plane) : lane (startSkew f s) p = lane s p :=
  lane_congr (startSkew_planes f s) p

/-- The plane whose arming ends in READY: the state before the queue is tried. -/
def armed (p : Plane) (h : Nat) (s : State) : State :=
  complete h stOk cNone [] (startSkew (fun c => (usersOf c).contains p)
    (readied p (updLane p (fun l => { l with arming := none }) s)))

theorem armReady_eq {p : Plane} {h : Nat} {s : State} (ha : (lane s p).arming = some h) (hq : (lane s p).queued = [])
    (hu : uvloFree p s = true) (hs : stoHighNow s = true) (hg : signalsOk p s = true) (hi : s.isl.sys = true)
    (hh : s.pins.haltLow = false) : armReady p s = armed p h s := by
  have hr : enterReady p (updLane p (fun l => { l with arming := none }) s) = readied p (updLane p (fun l => { l with arming := none }) s) :=
    enterReady_eq hh hs
  have hq' : (lane (armed p h s) p).queued = [] := by simp [armed, lane_readied, hq]
  simp only [armReady, ha, hu, hs, hg, hi, Bool.and_self, if_true, hr]
  exact drainQueue_empty hq'

/-- The plane whose arming has timed out: the state before the queue is tried. -/
def disarmed (p : Plane) (h : Nat) (s : State) : State :=
  complete h stWrongState cNone [] (settle false 0 (suppliesOff p (updLane p (fun l => { l with arming := none }) s)))

theorem armTimeout_eq {p : Plane} {h : Nat} {s : State} (ha : (lane s p).arming = some h) (h0 : h ≠ 0)
    (hq : (lane s p).queued = []) (hi : s.isl.sys = true) : armTimeout p s = disarmed p h s := by
  have hq' : (lane (disarmed p h s) p).queued = [] := by simp [disarmed, hq]
  simp only [armTimeout, ha, hi, if_true, h0, if_false]
  exact drainQueue_empty hq'

/-- Settles O7: each command is its work on the state after acceptance, and each end of PLANE_ARM is the plane's entry into READY,
or its supplies off, with an empty queue. -/
theorem enableAndArmAPlane : Obligations.EnableAndArmAPlane := by
  unfold Obligations.EnableAndArmAPlane
  refine ⟨fun e p s hf hl hs => ?enable, fun e p s hf hl hs => ?disable, fun e p s hf hr hl hs => ?arm,
    fun p h s ha hq hu hs hg hi hh hc => ?ready, fun p h s ha h0 hq hi => ?timeout⟩
  case enable =>
    obtain ⟨hst, hz, hw, hfifo⟩ := lane_doEnable p (acceptSeq e s)
    obtain ⟨hU, hL⟩ := doEnable_outputs p (acceptSeq e s)
    refine ⟨_, congrArg Host.Outcome.next (planeCommand_done hf hl (by decide) (by decide) (by decide) (planeWork_enable _ hs)),
      lastKept_answer .., ?_, ?_, ?_, ?_, fun q hq => ?_, ?_, ?_⟩
    all_goals simp only [lane_answer, answer_prt, hst, hz, hw, hfifo, hU, hL, acceptSeq_prt, lane_acceptSeq]
    rw [lane_doEnable_other _ hq, lane_acceptSeq]
  case disable =>
    have hs' : (lane (acceptSeq e s) p).st = .stopped := by rw [lane_acceptSeq, hs]
    refine ⟨_, congrArg Host.Outcome.next (planeCommand_done hf hl (by decide) (by decide) (by decide) (planeWork_disable _ hs')),
      lastKept_answer .., ?_, fun q hq => ?_, by simp, by simp⟩
    · rw [lane_answer, lane_congr (doDisable_planes ..), lane_enterState_same]
    · rw [lane_answer, lane_congr (doDisable_planes ..), lane_enterState_other _ _ _ hq, lane_acceptSeq]
  case arm =>
    have hs' := (armStatus_allocHandle p opArm e.chan (acceptSeq e s)).trans hs
    have heq := planeCommand_accepted hf hr hl (by decide) (congrArg Prod.snd (planeWork_arm (nextHandle s) hs))
    rw [planeWork_arm _ hs'] at heq
    have hoff := offPorts_arming opArm e s
    have hpl : lane (allocHandle opArm e.chan (acceptSeq e s)) = lane s := funext fun q => lane_congr (by simp) q
    refine ⟨_, congrArg Host.Outcome.next heq, accepted_of_answer hr rfl, ?_, fun q hq => ?_, ?_, ?_, ?_, ?_⟩
    · simp [hpl]
    · simp [lane_updLane_other _ _ hq, hpl]
    all_goals simp [suppliesOn, hoff]
  case ready =>
    refine ⟨_, congrArg Host.Outcome.next (armReady_eq ha hq hu hs hg hi hh), ?_, ?_, ?_, ?_, fun q hq => ?_⟩
    · simp [armed, lane_readied]
    · simp [armed, lane_readied]
    · simpa [armed] using readied_ovr (p := p) (s := updLane p (fun l => { l with arming := none }) s) hc
    · simp [armed, readied_permit]
    · simp [armed, lane_readied_other _ hq, lane_updLane_other _ _ hq]
  case timeout =>
    refine ⟨_, congrArg Host.Outcome.next (armTimeout_eq ha h0 hq hi), ?_, ?_, ?_, fun q hq => ?_⟩
    · simp [disarmed]
    · simp [disarmed]
    · simp [disarmed, suppliesOff]
    · simp [disarmed, lane_updLane_other _ _ hq]

end Sys2Proof.Machine
end

section
/-! PROOFS. PLANE_START and PLANE_STOP with the strobe's parts for one plane, and the limit of a stop (R89, R90). -/

namespace Sys2Proof.Machine

/-! ## PLANE_START (R89) -/

theorem planeWork_start {p : Plane} {s : State} (h : Nat) (hs : startStatus p s = stOk) :
    planeWork opStart p h s = (doStart p s, stOk) := by simp [planeWork, hs]

/-- Campion's writes at a start of plane M (R226) change no lane, no gate register and no modulator. -/
theorem sixTable_frame (s : State) :
    (sixTable s).planes = s.planes ∧ (sixTable s).prt = s.prt ∧ (sixTable s).mods = s.mods := by
  unfold sixTable
  extract_lets put lo src s1
  have hpl : s1.planes = s.planes := setParBit_planes ..
  have hprt : s1.prt = s.prt := setParBit_prt ..
  have hmods : s1.mods = s.mods := setParBit_mods ..
  split
  · exact ⟨(foldl_same State.planes put (fun _ _ => rfl) _ s1).trans hpl, (foldl_same State.prt put (fun _ _ => rfl) _ s1).trans hprt,
      (foldl_same State.mods put (fun _ _ => rfl) _ s1).trans hmods⟩
  · exact ⟨hpl, hprt, hmods⟩

/-- An accepted start marks the plane. -/
theorem doStart_frame (p : Plane) (s : State) :
    (doStart p s).planes = (updLane p (fun l => { l with startPend := true }) s).planes ∧ (doStart p s).prt = s.prt ∧
      (doStart p s).mods = s.mods := by
  unfold doStart
  dsimp only
  split
  · exact sixTable_frame _
  · exact ⟨rfl, rfl, rfl⟩

/-! ## The strobe of a start (R89) -/

@[simp] theorem clearCas_planes (p : Plane) (s : State) : (clearCas p s).planes = s.planes := by
  exact foldl_same (·.planes) (fun s n => updMport n (putCas p none) s) (fun _ _ => rfl) (List.range 24) s
@[simp] theorem clearCas_mods (p : Plane) (s : State) : (clearCas p s).mods = s.mods := by
  exact foldl_same (·.mods) (fun s n => updMport n (putCas p none) s) (fun _ _ => rfl) (List.range 24) s
@[simp] theorem clearCas_params (p : Plane) (s : State) : (clearCas p s).params = s.params := by
  exact foldl_same (·.params) (fun s n => updMport n (putCas p none) s) (fun _ _ => rfl) (List.range 24) s
@[simp] theorem lane_clearCas (p q : Plane) (s : State) : lane (clearCas p s) q = lane s q := lane_congr (clearCas_planes p s) q
@[simp] theorem modr_clearCas (p q : Plane) (s : State) : modr (clearCas p s) q = modr s q := modr_congr (clearCas_mods p s) q
@[simp] theorem par_clearCas (p : Plane) (s : State) (j : Nat) : par (clearCas p s) j = par s j := par_congr (clearCas_params p s) j

@[simp] theorem lane_releaseChop (p q : Plane) (s : State) : lane (releaseChop p s) q = lane s q := by
  unfold releaseChop
  split <;> simp
@[simp] theorem modr_releaseChop (p q : Plane) (s : State) : modr (releaseChop p s) q = modr s q := by
  unfold releaseChop
  split <;> simp
theorem par_releaseChop (p : Plane) (s : State) {j : Nat} (h : OffGate j) : par (releaseChop p s) j = par s j := by
  unfold releaseChop
  split
  · rw [par_settle _ _ _ h, par_updPrt]
  · rfl

@[simp] theorem lane_drivePlane (p q : Plane) (s : State) : lane (drivePlane p s) q = lane s q := by simp [drivePlane]
@[simp] theorem modr_drivePlane (p q : Plane) (s : State) : modr (drivePlane p s) q = modr s q := by simp [drivePlane]
theorem par_drivePlane (p : Plane) (s : State) {j : Nat} (h : OffGate j) : par (drivePlane p s) j = par s j := by
  simp [drivePlane, par_settle _ _ _ h]

/-- Showing the carrier's output changes no lane. -/
@[simp] theorem lane_showCarrier (p q : Plane) (c : Int) (s : State) : lane (showCarrier p c s) q = lane s q := by
  unfold showCarrier
  split <;> simp [refreshOut]
/-- The patterns kept at the pulse interface stay while the carrier's output is shown. -/
@[simp] theorem past_showCarrier (p : Plane) (c : Int) (s : State) : (modr (showCarrier p c s) p).past = (modr s p).past := by
  unfold showCarrier
  split <;> simp [refreshOut]
theorem par_showCarrier (p : Plane) (c : Int) (s : State) {j : Nat} (h : OffGate j) : par (showCarrier p c s) j = par s j := by
  unfold showCarrier
  split <;> simp [refreshOut, par_drivePlane _ _ h]

@[simp] theorem lane_startSupport (p q : Plane) (s : State) : lane (startSupport p s) q = lane s q := by
  unfold startSupport
  split
  · exact lane_congr rfl q
  · rfl

theorem offGate_bandScale (p : Plane) : OffGate (ctlBandScale p.code) := by
  have := code_lt p
  exact Or.inl (by simp only [ctlBandScale]; omega)

section
variable {p : Plane} {s : State} (hm : (lane s p).startPend = true) (hr : (lane s p).st = .ready)
include hm hr

/-- A marked READY plane is RUNNING after its strobe, with its first decision to come. -/
theorem lane_strobeStart : (lane (strobeStart p s) p).st = .running ∧ (lane (strobeStart p s) p).first = true ∧
    (lane (strobeStart p s) p).startPend = false := by
  rw [strobeStart, if_pos ⟨hm, hr⟩]
  simp

theorem par_strobeStart_bandScale : par (strobeStart p s) (ctlBandScale p.code) = 0x1000 := by
  rw [strobeStart, if_pos ⟨hm, hr⟩]
  dsimp only
  rw [par_showCarrier _ _ _ (offGate_bandScale p), par_releaseChop _ _ (offGate_bandScale p), par_clearCas, par_updMod, par_updLane,
    par_setPar_same]
  rfl

theorem past_strobeStart : (modr (strobeStart p s) p).past = [] := by
  rw [strobeStart, if_pos ⟨hm, hr⟩]
  simp

end

theorem lane_strobeStart_other {p q : Plane} (s : State) (h : q ≠ p) : lane (strobeStart p s) q = lane s q := by
  unfold strobeStart
  split
  · simp [lane_updLane_other _ _ h, lane_enterState_other _ _ _ h]
  · rfl

/-! ## PLANE_STOP (R90) -/

theorem planeWork_stop {p : Plane} {s : State} (h : Nat) (hs : (lane s p).st = .running) :
    planeWork opStop p h s = (beginStop p h s, stAccepted) := by simp [planeWork, hs]

/-- The lane of a plane whose stop is done, before it enters READY. -/
abbrev stopEnded (l : Lane) : Lane :=
  { l with stopping := none, queued := [], stopNow := false, rampN := 0, quiet := 0, dec := none, latched := none }

/-- With HALT_N and the STO channels high the plane is READY at the end of its stop; the completions change no lane. -/
theorem finishStop_planes {p : Plane} {s : State} (hh : s.pins.haltLow = false) (hs : stoHighNow s = true) :
    (finishStop p s).planes = (readied p (updLane p stopEnded s)).planes := by
  have hr : enterReady p (updLane p stopEnded s) = readied p (updLane p stopEnded s) := enterReady_eq hh hs
  unfold finishStop
  dsimp only
  rw [hr]
  repeat' split
  all_goals simp

theorem strobeStop_eq {p : Plane} {s : State} (hr : (lane s p).st = .running) (hs : (lane s p).stopping.isSome = true)
    (hn : (lane s p).stopNow = true) : strobeStop p s = finishStop p s := if_pos ⟨hr, hs, Or.inl hn⟩

/-- Settles O8: a start marks the plane and its strobe makes it RUNNING; a stop is accepted, marked by its limit, and its strobe is
the plane's entry into READY. -/
theorem startingAndStoppingAPlane : Obligations.StartingAndStoppingAPlane := by
  unfold Obligations.StartingAndStoppingAPlane
  refine ⟨fun e p s hf hl hs => ?start, fun p s hm hr => ?strobeOfStart, fun e p s hf hr hl hs => ?stop, fun p s => ?limit,
    fun p s hr hs hn hh ht => ?strobeOfStop⟩
  case start =>
    obtain ⟨hpl, hprt, hmods⟩ := doStart_frame p (acceptSeq e s)
    refine ⟨_, congrArg Host.Outcome.next (planeCommand_done hf hl (by decide) (by decide) (by decide) (planeWork_start _ hs)),
      lastKept_answer .., ?_, fun q hq => ?_, by simp [hprt], by simp [hmods]⟩
    · rw [lane_answer, lane_congr hpl, lane_updLane_same, lane_acceptSeq]
    · rw [lane_answer, lane_congr hpl, lane_updLane_other _ _ hq, lane_acceptSeq]
  case strobeOfStart =>
    obtain ⟨hst, hfirst, hpend⟩ := lane_strobeStart hm hr
    exact ⟨hst, par_strobeStart_bandScale hm hr, hfirst, hpend, past_strobeStart hm hr, fun q hq => lane_strobeStart_other s hq⟩
  case stop =>
    have hpl : lane (allocHandle opStop e.chan (acceptSeq e s)) = lane s := funext fun q => lane_congr (by simp) q
    have heq := planeCommand_accepted hf hr hl (by decide)
      (congrArg Prod.snd (planeWork_stop (p := p) (s := acceptSeq e s) (nextHandle s) (by rw [lane_acceptSeq, hs])))
    rw [planeWork_stop _ (by rw [hpl, hs])] at heq
    refine ⟨_, congrArg Host.Outcome.next heq, accepted_of_answer hr rfl, ?_, fun q hq => ?_, ?_, ?_⟩
    · simp [beginStop, hpl]
    · simp [beginStop, lane_updLane_other _ _ hq, hpl]
    all_goals simp [beginStop]
  case limit => exact ⟨stopLimit p s, rfl, lane_updLane_same .., fun q hq => lane_updLane_other _ s hq, rfl, rfl⟩
  case strobeOfStop =>
    have hl : ∀ q, lane (strobeStop p s) q = lane (readied p (updLane p stopEnded s)) q := fun q => by
      rw [strobeStop_eq hr hs hn, lane_congr (finishStop_planes hh ht)]
    refine ⟨?_, ?_, ?_, fun q hq => ?_⟩
    · simp [hl, lane_readied]
    · simp [hl, lane_readied, stopEnded]
    · simp [hl, lane_readied, stopEnded]
    · rw [hl, lane_readied_other _ hq, lane_updLane_other _ s hq]

end Sys2Proof.Machine
end

section
/-! PROOFS. PLANE_DISARM, TEST and the end of a test sequence (R89, R186). -/

namespace Sys2Proof.Machine

/-! ## Operations on every plane in turn -/

/-- Each lane is as the operation on its own plane leaves it, where that leaves the other lanes as they are. -/
theorem lane_eachPlane {R : Lane → Lane → Prop} {f : Plane → State → State} (hown : ∀ p s, R (lane s p) (lane (f p s) p))
    (hother : ∀ p q s, q ≠ p → lane (f p s) q = lane s q) (s : State) (p : Plane) : R (lane s p) (lane (eachPlane f s) p) := by
  have he : eachPlane f s = f .b (f .d (f .m (f .g s))) := rfl
  rw [he]
  cases p
  case g =>
    rw [hother .b .g _ (by decide), hother .d .g _ (by decide), hother .m .g _ (by decide)]
    exact hown .g s
  case m =>
    rw [hother .b .m _ (by decide), hother .d .m _ (by decide), ← hother .g .m s (by decide)]
    exact hown .m _
  case d =>
    rw [hother .b .d _ (by decide), ← hother .g .d s (by decide), ← hother .m .d _ (by decide)]
    exact hown .d _
  case b =>
    rw [← hother .g .b s (by decide), ← hother .m .b _ (by decide), ← hother .d .b _ (by decide)]
    exact hown .b _

/-! ## PLANE_DISARM (R89) -/

theorem planeWork_disarm {p : Plane} {s : State} (h : Nat) (hs : (lane s p).st = .ready) :
    planeWork opDisarm p h s = (doDisarm p s, stOk) := by simp [planeWork, hs]

theorem doDisarm_st (p : Plane) (s : State) : (lane (doDisarm p s) p).st = .stopped := by simp [doDisarm]

theorem lane_doDisarm_other {p q : Plane} (s : State) (h : q ≠ p) : lane (doDisarm p s) q = lane s q := by
  simp [doDisarm, lane_enterState_other _ _ _ h, lane_updLane_other _ _ h]

/-- The supplies of the plane are off, and Sorrel's override holds its ports with ENABLE 0. -/
theorem doDisarm_ports (p : Plane) (s : State) : (doDisarm p s).prt.supOn = s.prt.supOn &&& ~~~planeMask p ∧
    (doDisarm p s).prt.ovr = s.prt.ovr ||| planeMask p ∧ (doDisarm p s).prt.enable = s.prt.enable &&& ~~~planeMask p := by
  simp [doDisarm, suppliesOff, override]

/-! ## TEST (R89, R186) -/

theorem planeWork_testEnter {p : Plane} {s : State} (h : Nat) (hs : testStatus p s = stOk) :
    planeWork opTestEnter p h s = (doTestEnter p s, stOk) := by simp [planeWork, hs]

theorem planeWork_testExit {p : Plane} {s : State} (h : Nat) (hs : (lane s p).st = .test) :
    planeWork opTestExit p h s = (doTestExit p s, stOk) := by simp [planeWork, hs]

/-- Driving a plane's test pattern changes the gate blocks alone. -/
@[simp] theorem lane_driveTest (p q : Plane) (s : State) : lane (driveTest p s) q = lane s q := by simp [driveTest]
@[simp] theorem driveTest_time (p : Plane) (s : State) : (driveTest p s).time = s.time := by simp [driveTest]
@[simp] theorem driveTest_ovr (p : Plane) (s : State) : (driveTest p s).prt.ovr = s.prt.ovr ||| planeMask p := by
  simp [driveTest, override]

theorem lane_doTestEnter (p : Plane) (s : State) : (lane (doTestEnter p s) p).st = .test ∧
    (lane (doTestEnter p s) p).testKind = par s protTestKind ∧ (lane (doTestEnter p s) p).testBusy = false := by simp [doTestEnter]

theorem lane_doTestEnter_other {p q : Plane} (s : State) (h : q ≠ p) : lane (doTestEnter p s) q = lane s q := by
  simp [doTestEnter, lane_enterState_other _ _ _ h, lane_updLane_other _ _ h]

theorem doTestEnter_ovr (p : Plane) (s : State) : (doTestEnter p s).prt.ovr = s.prt.ovr ||| planeMask p := by simp [doTestEnter]

/-- With HALT_N and the STO channels high the plane leaves TEST for READY. -/
theorem doTestExit_eq {p : Plane} {s : State} (hh : s.pins.haltLow = false) (hs : stoHighNow s = true) :
    doTestExit p s = readied p (updLane p (fun l => { l with testBusy := false }) s) := enterReady_eq hh hs

/-! ## Bits that stay set -/

/-- A set bit stays set while bits are set. -/
theorem parBit_setParBit_keeps {id j c : Nat} (b : Nat) {s : State} (h : parBit s j c = true) :
    parBit (setParBit id b true s) j c = true := by
  by_cases hj : j = id
  · subst hj
    by_cases hc : c = b
    · subst hc
      refine parBit_setParBit _ _ _ (Nat.lt_of_not_le fun h32 => ?_)
      rw [parBit_high _ _ h32] at h
      exact absurd h (by decide)
    · rw [parBit_setParBit_off _ _ _ hc, h]
  · rw [parBit_setParBit_other _ _ _ _ hj, h]

/-- A fold keeps what each of its steps keeps. -/
theorem foldl_keeps {β : Type} {P : State → Prop} {g : State → β → State} (h : ∀ s x, P s → P (g s x)) (l : List β) {s : State}
    (hs : P s) : P (l.foldl g s) := by
  induction l generalizing s with
  | nil => exact hs
  | cons x t ih => exact ih (h s x hs)

/-- The gate blocks' settling sets sticky bits and clears none. -/
theorem parBit_settle_keeps {j c : Nat} (b : Bool) (m : Ports) {s : State} (h : parBit s j c = true) :
    parBit (settle b m s) j c = true := by
  unfold settle
  refine foldl_keeps (P := fun u => parBit u j c = true) (fun u n hu => ?_) _ h
  split
  · exact parBit_setParBit_keeps _ hu
  · exact hu

theorem parBit_driveTest_keeps {j c : Nat} (p : Plane) {s : State} (h : parBit s j c = true) :
    parBit (driveTest p s) j c = true := parBit_settle_keeps _ _ h

/-! ## The end of a test sequence (R186) -/

/-- SELF_OK, or SELF_FAIL, at every port of a plane whose self-check ends. -/
def setSelf (fail : List Nat) (p : Plane) (s : State) : State :=
  (List.range 36).foldl (fun s n =>
    if planeOfPort n = p then setParBit (gateStatus n) (if fail.contains n then 10 else 9) true s else s) s

@[simp] theorem setSelf_planes (fail : List Nat) (p : Plane) (s : State) : (setSelf fail p s).planes = s.planes :=
  foldl_same (·.planes) _ (fun s n => by split <;> simp) _ s
@[simp] theorem setSelf_time (fail : List Nat) (p : Plane) (s : State) : (setSelf fail p s).time = s.time :=
  foldl_same (·.time) _ (fun s n => by split <;> simp) _ s
@[simp] theorem lane_setSelf (fail : List Nat) (p q : Plane) (s : State) : lane (setSelf fail p s) q = lane s q :=
  lane_congr (setSelf_planes ..) q

theorem parBit_setSelf_keeps {j c : Nat} (fail : List Nat) (p : Plane) {s : State} (h : parBit s j c = true) :
    parBit (setSelf fail p s) j c = true := by
  refine foldl_keeps (P := fun u => parBit u j c = true) (fun u n hu => ?_) _ h
  split
  · exact parBit_setParBit_keeps _ hu
  · exact hu

/-- The bit of a self-check's outcome at a port. -/
abbrev selfBit (fail : List Nat) (n : Nat) : Nat := if fail.contains n then 10 else 9

/-- A port of the plane shows the outcome of its self-check. -/
theorem parBit_setSelf {n : Nat} (fail : List Nat) (s : State) (hn : n < 36) :
    parBit (setSelf fail (planeOfPort n) s) (gateStatus n) (selfBit fail n) = true := by
  obtain ⟨l, r, hlr⟩ := List.append_of_mem (List.mem_range.2 hn)
  rw [setSelf, hlr, List.foldl_append, List.foldl_cons, if_pos rfl]
  refine foldl_keeps (P := fun u => parBit u (gateStatus n) (selfBit fail n) = true) (fun u k hu => ?_) _
    (parBit_setParBit _ _ _ (by split <;> decide))
  split
  · exact parBit_setParBit_keeps _ hu
  · exact hu

/-- A sequence in progress at a plane in TEST ends. -/
def sequenceDone (fail : List Nat) (p : Plane) (s : State) : State :=
  let s1 := driveTest p (updLane p (fun l => { l with testBusy := false }) s)
  raiseNum 0x0F (p.code + 256 * (lane s p).testKind) (if (lane s p).testKind = 2 then setSelf fail p s1 else s1)

theorem endSequence_eq (fail : List Nat) (p : Plane) (s : State) :
    endSequence fail p s = if (lane s p).st = .test ∧ (lane s p).testBusy = true then sequenceDone fail p s else s := by
  by_cases ht : (lane s p).st = .test <;> cases hb : (lane s p).testBusy <;> simp [endSequence, sequenceDone, setSelf, ht, hb]

theorem lane_sequenceDone (fail : List Nat) (p : Plane) (s : State) :
    lane (sequenceDone fail p s) p = { lane s p with testBusy := false } := by
  unfold sequenceDone
  dsimp only
  rw [lane_congr (raiseNum_planes ..)]
  split <;> simp

theorem lane_endSequence_other (fail : List Nat) {p q : Plane} (s : State) (h : q ≠ p) :
    lane (endSequence fail p s) q = lane s q := by
  rw [endSequence_eq]
  split
  · unfold sequenceDone
    dsimp only
    rw [lane_congr (raiseNum_planes ..)]
    split <;> simp [lane_updLane_other _ _ h]
  · rfl

/-- What the end of the sequences leaves of a lane: its state and kind, and no sequence in progress in TEST. -/
abbrev SequenceEnded (l l' : Lane) : Prop :=
  l'.st = l.st ∧ l'.testBusy = (l.testBusy && decide (l.st ≠ .test)) ∧ l'.testKind = l.testKind

theorem endSequence_ended (fail : List Nat) (p : Plane) (s : State) :
    SequenceEnded (lane s p) (lane (endSequence fail p s) p) := by
  rw [endSequence_eq]
  split
  case isTrue h => simp [SequenceEnded, lane_sequenceDone, h]
  case isFalse h => cases hb : (lane s p).testBusy <;> simp_all [SequenceEnded]

theorem endSequence_time (fail : List Nat) (p : Plane) (s : State) : (endSequence fail p s).time = s.time := by
  rw [endSequence_eq]
  split
  · unfold sequenceDone
    dsimp only
    rw [raiseNum_time]
    split <;> simp
  · rfl

theorem parBit_raiseNum {j : Nat} (n d c : Nat) (s : State) (h : j ≠ sysEvtLostCnt) :
    parBit (raiseNum n d s) j c = parBit s j c := by simp [parBit, par_raiseNum, h]

theorem gateStatus_ne_evtLost (n : Nat) : gateStatus n ≠ sysEvtLostCnt := by simp only [gateStatus, sysEvtLostCnt]; omega

/-- The sticky bits of a port that are set stay set at the end of a sequence. -/
theorem parBit_endSequence_keeps {n c : Nat} (fail : List Nat) (p : Plane) {s : State} (h : parBit s (gateStatus n) c = true) :
    parBit (endSequence fail p s) (gateStatus n) c = true := by
  rw [endSequence_eq]
  split
  · unfold sequenceDone
    dsimp only
    rw [parBit_raiseNum _ _ _ _ (gateStatus_ne_evtLost n)]
    split
    · exact parBit_setSelf_keeps _ _ (parBit_driveTest_keeps _ h)
    · exact parBit_driveTest_keeps _ h
  · exact h

/-- A self-check is in progress at a plane in TEST. -/
abbrev SelfChecking (l : Lane) : Prop := l.st = .test ∧ l.testBusy = true ∧ l.testKind = 2

/-- The end of a self-check shows its outcome at each port of the plane. -/
theorem parBit_endSequence {n : Nat} (fail : List Nat) {s : State} (hn : n < 36) (h : SelfChecking (lane s (planeOfPort n))) :
    parBit (endSequence fail (planeOfPort n) s) (gateStatus n) (selfBit fail n) = true := by
  obtain ⟨ht, hb, hk⟩ := h
  rw [endSequence_eq, if_pos ⟨ht, hb⟩, sequenceDone, if_pos hk, parBit_raiseNum _ _ _ _ (gateStatus_ne_evtLost n)]
  exact parBit_setSelf fail _ hn

/-- Over the ends at several planes, the one at the port's own plane shows the outcome and the others keep it. -/
theorem parBit_foldl_endSequence {n : Nat} (fail : List Nat) (l : List Plane) {s : State} (hn : n < 36) (hp : planeOfPort n ∈ l)
    (h : SelfChecking (lane s (planeOfPort n))) :
    parBit (l.foldl (fun s p => endSequence fail p s) s) (gateStatus n) (selfBit fail n) = true := by
  induction l generalizing s with
  | nil => simp at hp
  | cons q t ih =>
    by_cases hq : planeOfPort n = q
    · subst hq
      exact foldl_keeps (P := fun u => parBit u (gateStatus n) (selfBit fail n) = true)
        (fun u p hu => parBit_endSequence_keeps fail p hu) t (parBit_endSequence fail hn h)
    · refine ih ((List.mem_cons.1 hp).resolve_left hq) ?_
      rwa [lane_endSequence_other fail s hq]

/-- Settles O9: each command is its work on the state after acceptance, and the end of the sequences is the end of each plane's. -/
theorem disarmAndTest : Obligations.DisarmAndTest := by
  unfold Obligations.DisarmAndTest
  refine ⟨fun e p s hf hl hs => ?disarm, fun e p s hf hl hs => ?testEnter, fun e p s hf hl hs ht hh hc => ?testExit,
    fun fail s => ⟨testSequenceEnd fail s, rfl, ?lanes, fun n hn ht hb hk => ?selfCheck, ?time⟩⟩
  case disarm =>
    have hs' : (lane (acceptSeq e s) p).st = .ready := by rw [lane_acceptSeq, hs]
    obtain ⟨hsup, hovr, hen⟩ := doDisarm_ports p (acceptSeq e s)
    refine ⟨_, congrArg Host.Outcome.next (planeCommand_done hf hl (by decide) (by decide) (by decide) (planeWork_disarm _ hs')),
      lastKept_answer .., ?_, fun q hq => ?_, ?_, ?_, ?_⟩
    · rw [lane_answer, doDisarm_st]
    · rw [lane_answer, lane_doDisarm_other _ hq, lane_acceptSeq]
    all_goals simp only [answer_prt, hsup, hovr, hen, acceptSeq_prt]
  case testEnter =>
    obtain ⟨hst, hkind, hbusy⟩ := lane_doTestEnter p (acceptSeq e s)
    refine ⟨_, congrArg Host.Outcome.next (planeCommand_done hf hl (by decide) (by decide) (by decide) (planeWork_testEnter _ hs)),
      lastKept_answer .., ?_, ?_, ?_, fun q hq => ?_, ?_⟩
    · rw [lane_answer, hst]
    · rw [lane_answer, hkind, par_acceptSeq _ _ (by decide)]
    · rw [lane_answer, hbusy]
    · rw [lane_answer, lane_doTestEnter_other _ hq, lane_acceptSeq]
    · rw [answer_prt, doTestEnter_ovr, acceptSeq_prt]
  case testExit =>
    have hs' : (lane (acceptSeq e s) p).st = .test := by rw [lane_acceptSeq, hs]
    have heq : doTestExit p (acceptSeq e s) = readied p (updLane p (fun l => { l with testBusy := false }) (acceptSeq e s)) :=
      doTestExit_eq (by rw [acceptSeq_pins, hh]) (by simpa only [stoHighNow, acceptSeq_pins] using ht)
    refine ⟨_, congrArg Host.Outcome.next (planeCommand_done hf hl (by decide) (by decide) (by decide) (planeWork_testExit _ hs')),
      lastKept_answer .., ?_, ?_, fun q hq => ?_⟩
    · simp [heq, lane_readied]
    · have hc' : (updLane p (fun l => { l with testBusy := false }) (acceptSeq e s)).prt.chopAct = false := by simpa using hc
      simp [heq, readied_ovr hc']
    · simp [heq, lane_readied_other _ hq, lane_updLane_other _ _ hq]
  case lanes =>
    exact lane_eachPlane (R := SequenceEnded) (endSequence_ended fail) (fun p q s hq => lane_endSequence_other fail s hq) s
  case selfCheck =>
    exact parBit_foldl_endSequence fail allPlanes hn (by cases planeOfPort n <;> decide) ⟨ht, hb, hk⟩
  case time => exact foldl_same State.time _ (fun s p => endSequence_time fail p s) allPlanes s

end Sys2Proof.Machine
end

section
/-! PROOFS. The reset state (chapter 15). Settles O2. -/

namespace Sys2Proof.Machine
open Sys2Proof

/-- Every plane comes out of reset OFF (R88). -/
theorem reset_lane_off (p : Plane) : (lane State.reset p).st = .off := by
  cases p <;> rfl

/-- Every slot comes out of reset FREE. -/
theorem reset_slot_free (n : Nat) (hn : n < 8) : (slotAt State.reset n).st = .free := by
  interval_cases n <;> rfl

/-- No switch is commanded, so no port commands both of its switches. -/
theorem reset_noShoot : NoShoot State.reset := by decide

/-- The parameter store is empty: every parameter reads its reset word. -/
theorem reset_paramsOk : ParamsOk State.reset := by decide

end Sys2Proof.Machine

namespace Sys2Proof
open Sys2Proof.Machine

/-- Settles O2. -/
theorem resetState : Obligations.ResetState := by
  unfold Obligations.ResetState
  exact ⟨reset_lane_off, rfl, rfl, rfl, rfl, rfl, rfl, rfl, rfl, reset_slot_free, rfl, rfl, rfl,
    reset_noShoot, reset_paramsOk⟩

end Sys2Proof
end

section
/-! PROOFS. Transfers of Region Gain Table tiles (R110, R339, R358). Settles O30. -/

namespace Sys2Proof.Machine

/-! ## What a tile's checks and a tile's write depend on -/

theorem inWindow_congr {s t : State} {p : Plane} (hb : par t (rgtBase p.code) = par s (rgtBase p.code))
    (hz : par t (rgtSize p.code) = par s (rgtSize p.code)) : inWindow t p = inWindow s p := by
  funext n
  unfold inWindow windowTiles axes
  rw [hb, hz]

/-- The checks of R110 read the windows' words and the planes' states. -/
theorem directStatus_congr {s t : State} (hpl : t.planes = s.planes)
    (hb : ∀ p : Plane, par t (rgtBase p.code) = par s (rgtBase p.code))
    (hz : ∀ p : Plane, par t (rgtSize p.code) = par s (rgtSize p.code)) : directStatus t = directStatus s := by
  funext n img
  have hw : inWindow t = inWindow s := funext fun p => inWindow_congr (hb p) (hz p)
  have hl : lane t = lane s := funext fun p => lane_congr hpl p
  simp only [directStatus, tileWindowsOk, hw, hl]

@[simp] theorem evict_rgt (n : Nat) (s : State) : (evict n s).rgt = s.rgt :=
  foldl_same (·.rgt) _ (fun s p => updLane_rgt p _ s) _ s

/-- A direct write puts the image in the place that the tile maps to, and moves no tile. -/
theorem writeTile_tile (n : Nat) (img : List Byte) (s : State) :
    (writeTile n img s).rgt.ptr = s.rgt.ptr ∧ tileAt (writeTile n img s) (physTile s n) = imageTile img := by
  simp [writeTile, setBad, putTile, tileAt]

/-! ## RGT_WRITE (R339) -/

/-- The fragments that RGT_WRITE keeps. -/
def withFrags (fs : List Frag) (s : State) : State := updRgt (fun r => { r with frags := fs }) s

/-- The state on which a completed tile is checked: the command accepted, the tile's fragment used up. -/
def assembled (e : Env) (f : Frag) (fs : List Frag) (s : State) : State := dropFrag f (withFrags fs (acceptSeq e s))

theorem assembled_planes (e : Env) (f : Frag) (fs : List Frag) (s : State) : (assembled e f fs s).planes = s.planes := by
  simp [assembled, dropFrag, withFrags]

theorem assembled_txn (e : Env) (f : Frag) (fs : List Frag) (s : State) : (assembled e f fs s).txn = s.txn := by
  simp [assembled, dropFrag, withFrags]

theorem assembled_tiles (e : Env) (f : Frag) (fs : List Frag) (s : State) :
    (assembled e f fs s).rgt.tiles = s.rgt.tiles ∧ (assembled e f fs s).rgt.ptr = s.rgt.ptr := by
  simp [assembled, dropFrag, withFrags]

theorem par_assembled (e : Env) (f : Frag) (fs : List Frag) (s : State) {id : Nat} (h : id ≠ sysSeqGapCnt) :
    par (assembled e f fs s) id = par s id :=
  (par_congr (s := acceptSeq e s) (by simp [assembled, dropFrag, withFrags]) id).trans (par_acceptSeq e s h)

theorem directStatus_assembled (e : Env) (f : Frag) (fs : List Frag) (s : State) :
    directStatus (assembled e f fs s) = directStatus s :=
  directStatus_congr (assembled_planes ..)
    (fun p => par_assembled e f fs s (by cases p <;> decide)) fun p => par_assembled e f fs s (by cases p <;> decide)

/-- A fragment that passes the checks of R339, at a place for it: kept, or its complete tile taken. -/
theorem rgtWrite_fragment {e : Env} {p : DataPay} {f : Frag} {fs : List Frag} {s : State} (hw : writeTarget e.handle s = stOk)
    (h6 : p.pre.b6 = 0) (hg : p.pre.grp = 0 ∨ e.handle ≠ 0 ∧ ∃ x, s.txn = some x ∧ x.seqT = true) (hu : p.pre.unit < 192)
    (ho : p.pre.offset + p.data.length ≤ 2052)
    (ha : addFrag p.pre.unit p.pre.grp e.handle p.pre.offset p.data s.rgt.frags = some (f, fs)) :
    rgtWrite e p (acceptSeq e s) = match fragWhole 2052 f with
      | none => (withFrags fs (acceptSeq e s), say stOk)
      | some img => takeTile e.handle p.pre img (assembled e f fs s) := by
  have hw' : writeTarget e.handle (acceptSeq e s) = stOk := by
    rw [← hw]
    simp only [writeTarget, txnBusy, acceptSeq_txn]
  simp only [rgtWrite, hw', acceptSeq_rgt, acceptSeq_txn, ha]
  rw [if_neg (by simp), if_neg]
  · rfl
  · rintro (h | h | h | h)
    · exact h h6
    · obtain hz | ⟨hh, x, hx, hxs⟩ := hg
      · exact h.1 hz
      · simp [hx, hxs, hh] at h
    · omega
    · omega

/-- RGT_WRITE with data of a lawful length is served as a short command. -/
theorem execRgtWrite_answer {e : Env} {p : DataPay} {s t : State} {st : Nat} (hf : Fresh 0x0200 1 e s) (hd : dataLen p.data = true)
    (hst : st ≠ stAccepted) (hb : rgtWrite e p (acceptSeq e s) = (t, say st)) :
    exec (.rgtWrite e p) s = .next (answer 3 0x0200 e st e.handle [] t) := by
  refine congrArg Host.Outcome.next ?_
  simp only [withLength, hd, Bool.not_true, Bool.false_and, Bool.false_eq_true, if_false]
  exact (serve_now hf (fun h => absurd h Bool.false_ne_true) hb).trans (by rw [if_neg hst])

theorem execRgtRead_answer {e : Env} {p : Pre} {s : State} {st : Nat} {pl : List Byte} (hf : Fresh 0x0201 1 e s)
    (hst : st ≠ stAccepted) (hb : rgtRead p (acceptSeq e s) = (acceptSeq e s, .now st pl)) :
    exec (.rgtRead e p) s = .next (answer 3 0x0201 e st e.handle pl (acceptSeq e s)) :=
  congrArg Host.Outcome.next ((serve_now hf (fun h => absurd h Bool.false_ne_true) hb).trans (by rw [if_neg hst]))

/-- Outside a transaction a completed tile is written where the checks of R110 pass, and otherwise answered with their status. -/
theorem takeTile_direct {p : Pre} {img : List Byte} {s : State} :
    takeTile 0 p img s = if directStatus s p.unit img = stOk then (writeTile p.unit img s, say stOk)
      else (s, say (directStatus s p.unit img)) := rfl

/-- In its transaction a completed tile that passes the checks on its image is staged, in the place of an earlier one. -/
theorem takeTile_staged {h : Nat} {p : Pre} {img : List Byte} {x : Txn} {s : State} (hh : h ≠ 0) (hx : s.txn = some x)
    (hi : imageStatus img = stOk) (hg : groupFull x p.grp p.unit = false) :
    takeTile h p img s = ({ s with txn := some { x with tiles := stagedOther x p.grp p.unit ++ [(p.grp, p.unit, img)] } }, say stOk) := by
  simp [takeTile, hh, hx, hi, hg]

/-- Settles O30: every form is its body's answer on the state after acceptance, in which tiles, pointers, transaction and planes
are as before. -/
theorem rgtTransfers : Obligations.RgtTransfers := by
  unfold Obligations.RgtTransfers
  refine ⟨fun e p f fs s hf hd h0 hb h6 hg hu ho ha => ?_, fun e p x f fs img s hf hd hx hxo hxh h0 h6 hg hu ho ha hw hi hgf => ?staged,
    fun e p s hf => ⟨fun h6 hg hu ho => ?read, fun hu => ?beyond⟩⟩
  · have ha' : addFrag p.pre.unit p.pre.grp e.handle p.pre.offset p.data s.rgt.frags = some (f, fs) := by rw [hg, h0]; exact ha
    have htarget : writeTarget e.handle s = stOk := by simp [writeTarget, h0, hb, need]
    have hrgt := rgtWrite_fragment htarget h6 (.inl hg) hu ho ha'
    refine ⟨fun hw => ?incomplete, fun img hw => ⟨fun hok => ?written, fun hbad hacc => ?refused⟩⟩
    case incomplete =>
      rw [hw] at hrgt
      refine ⟨_, execRgtWrite_answer hf hd (by decide) hrgt, ?_, by simp [withFrags], by simp [withFrags]⟩
      rw [h0]
      exact lastKept_answer ..
    case written =>
      rw [hw] at hrgt
      simp only [h0] at hrgt
      rw [takeTile_direct, directStatus_assembled, if_pos hok] at hrgt
      obtain ⟨hptr, htile⟩ := writeTile_tile p.pre.unit img (assembled e f fs s)
      rw [(assembled_tiles e f fs s).2] at hptr
      refine ⟨_, execRgtWrite_answer hf hd (by decide) hrgt, ?_, ?_, by rw [answer_rgt, hptr]⟩
      · rw [h0]
        exact lastKept_answer ..
      · rw [← htile]
        simp only [tileAt, physTile, answer_rgt, hptr, (assembled_tiles e f fs s).2]
    case refused =>
      rw [hw] at hrgt
      simp only [h0] at hrgt
      rw [takeTile_direct, directStatus_assembled, if_neg hbad] at hrgt
      refine ⟨_, execRgtWrite_answer hf hd hacc hrgt, ?_, ?_, ?_⟩
      · rw [h0]
        exact lastKept_answer ..
      · rw [answer_rgt, (assembled_tiles e f fs s).1]
      · rw [answer_planes, assembled_planes]
  case staged =>
    have htarget : writeTarget e.handle s = stOk := by simp [writeTarget, h0, hx, hxh, hxo, need]
    have hrgt := rgtWrite_fragment htarget h6 (hg.imp id fun hs => ⟨h0, x, hx, hs⟩) hu ho ha
    rw [hw] at hrgt
    simp only at hrgt
    rw [takeTile_staged h0 ((assembled_txn e f fs s).trans hx) hi hgf] at hrgt
    refine ⟨_, execRgtWrite_answer hf hd (by decide) hrgt, lastKept_answer .., by simp, ?_, ?_⟩
    · rw [answer_rgt]
      exact (assembled_tiles e f fs s).1
    · rw [answer_planes]
      exact assembled_planes e f fs s
  case read =>
    have hbody : rgtRead p (acceptSeq e s) = (acceptSeq e s, .now stOk (preBytes p ++
        ((tileImage (tileAt s (physTile s p.unit))).drop p.offset).take 1432)) := by
      simp only [rgtRead, tileAt, physTile, acceptSeq_rgt]
      exact if_neg (by omega)
    exact ⟨_, execRgtRead_answer hf (by decide) hbody, lastKept_answer .., by simp, by simp⟩
  case beyond =>
    have hbody : rgtRead p (acceptSeq e s) = (acceptSeq e s, say stBadParam) := if_pos (.inr (.inr (.inl hu)))
    exact ⟨_, execRgtRead_answer hf (by decide) hbody, lastKept_answer .., by simp⟩

end Sys2Proof.Machine
end

section
/-! PROOFS. Stalled reads of a thread and the commit point that ends them (R121, R123). Settles O47. -/

namespace Sys2Proof.Machine

/-! ## A read of the FIFO (R123) -/

theorem teaselRead_empty {p : Plane} {s : State} (hg : groupHeld p s = false) (hf : (lane s p).fifo = []) :
    teaselRead p s = updLane p (fun l => { l with stalled := true }) s := by
  simp [teaselRead, hg, hf]

/-- With nothing waiting at COL01 the FIFO is not refilled. -/
theorem fillFifo_none_waiting {l : Lane} (hc : l.col01 = []) (hw : l.colWait = []) : (fillFifo l).fifo = l.fifo := by
  simp [fillFifo, hc, hw]

/-- An item goes into the group being read; the FIFO and the stall are not touched. -/
theorem takeItem_keeps (w : BitVec 64) (l : Lane) : (takeItem w l).fifo = l.fifo ∧ (takeItem w l).stalled = l.stalled := by
  unfold takeItem
  dsimp only
  split <;> exact ⟨rfl, rfl⟩

/-- A read of a FIFO with an item takes the oldest, whether the item is lawful or raises an event. -/
theorem lane_teaselRead {p : Plane} {w : BitVec 64} {l : List (BitVec 64)} {s : State} (hg : groupHeld p s = false)
    (hf : (lane s p).fifo = w :: l) (hc : (lane s p).col01 = []) (hw : (lane s p).colWait = []) :
    (lane (teaselRead p s) p).fifo = l ∧ (lane (teaselRead p s) p).stalled = (lane s p).stalled := by
  have hfill : (fillFifo { lane s p with fifo := l }).fifo = l := fillFifo_none_waiting hc hw
  obtain ⟨hfifo, hstall⟩ := takeItem_keeps w (fillFifo { lane s p with fifo := l })
  simp only [teaselRead, hg, hf, Bool.false_eq_true, if_false]
  split
  · rw [lane_updLane_same, lane_updLane_same, hfifo, hstall]
    exact ⟨hfill, rfl⟩
  · rw [lane_congr (raiseNum_planes ..), lane_updLane_same]
    exact ⟨hfill, rfl⟩

/-! ## The threads at the commit point (R121) -/

/-- A pre-empted thread is not stalled, with a published set or without one. -/
theorem commitThread_unstalled (p : Plane) (s : State) : (lane (commitThread p s) p).stalled = false := by
  simp only [commitThread]
  split
  · simp
  · split
    · simp
    · split <;> simp

theorem lane_commitThread_other {p q : Plane} (s : State) (h : q ≠ p) : lane (commitThread p s) q = lane s q := by
  simp only [commitThread]
  split
  · simp [lane_updLane_other _ _ h]
  · split
    · simp [lane_updLane_other _ _ h]
    · split <;> simp [lane_updLane_other _ _ h]

/-! ## The rest of the commit point moves no lane (R295, R351) -/

theorem takeWaiting_setPar_planes (eng : Engine) (s : State) : (takeWaiting eng setPar s).planes = s.planes := by
  simp only [takeWaiting]
  exact foldl_same (·.planes) _ (fun s (w : Nat × Word) => setPar_planes w.1 w.2.toNat s) _ _

@[simp] theorem updSlot_planes (n : Nat) (f : Slot → Slot) (s : State) : (updSlot n f s).planes = s.planes := rfl
@[simp] theorem fillSlot_planes (n : Nat) (s : State) : (fillSlot n s).planes = s.planes := rfl

@[simp] theorem nextRecord_planes (s : State) : (nextRecord s).planes = s.planes := by
  unfold nextRecord
  split
  · simp
  · split <;> simp

@[simp] theorem recordClose_planes (s : State) : (recordClose s).planes = s.planes := by
  unfold recordClose
  split <;> simp

@[simp] theorem storeBundle_planes (b : Bundle) (s : State) : (storeBundle b s).planes = s.planes := by
  unfold storeBundle
  split
  · rfl
  · dsimp only
    split <;> simp

@[simp] theorem countN_planes (id n : Nat) (s : State) : (countN id n s).planes = s.planes := by
  induction n generalizing s with
  | zero => rfl
  | succ n ih => exact (ih _).trans (count_planes id s)

@[simp] theorem takeTrigger_planes (mask : Nat) (s : State) : (takeTrigger mask s).planes = s.planes := by
  unfold takeTrigger
  split
  · rfl
  · dsimp only
    split
    · split <;> simp
    · split
      · simp
      · split
        · simp
        · rfl

@[simp] theorem groupFire_planes (u : Nat) (s : State) : (groupFire u s).1.planes = s.planes := by
  unfold groupFire
  split
  · rfl
  · simp

/-- One unit that fires: the state, and the units so far that stay local. -/
def fireOne (a : State × List Nat) (u : Nat) : State × List Nat :=
  let s1 := setPar acqTuFired (par a.1 acqTuFired ||| 2 ^ u) a.1
  if parBit s1 (acqTuCtrl u) 12 then
    let g := groupFire u s1
    (g.1, if g.2 then u :: a.2 else a.2)
  else (s1, u :: a.2)

theorem fireUnits_eq (us : List Nat) (s : State) :
    fireUnits us s = takeTrigger (maskOf (us.foldl fireOne (s, [])).2) (us.foldl fireOne (s, [])).1 := rfl

theorem fireOne_planes (a : State × List Nat) (u : Nat) : (fireOne a u).1.planes = a.1.planes := by
  simp only [fireOne]
  split <;> simp

theorem foldl_fireOne_planes (us : List Nat) (a : State × List Nat) : (us.foldl fireOne a).1.planes = a.1.planes := by
  induction us generalizing a with
  | nil => rfl
  | cons u us ih => exact (ih _).trans (fireOne_planes a u)

@[simp] theorem fireUnits_planes (us : List Nat) (s : State) : (fireUnits us s).planes = s.planes := by
  rw [fireUnits_eq, takeTrigger_planes, foldl_fireOne_planes]

@[simp] theorem captureBundle_planes (s : State) : (captureBundle s).planes = s.planes := by
  unfold captureBundle
  split
  · rfl
  · simp only [evalUnits, fireUnits_planes, updAcq_planes]
    split <;> simp

/-- After the commit point every lane is as its thread's pre-emption left it. -/
theorem commitPoint_planes {l : List Plane} {s : State} (hc : s.isl.ctl = true) (hh : s.isl.halted = false) :
    (commitPoint l s).planes = (eachPlane commitThread (eachPlane (commitLane l) s)).planes := by
  simp only [commitPoint, hc, hh, Bool.not_true, Bool.or_self, Bool.false_eq_true, if_false, captureBundle_planes,
    takeWaiting_setPar_planes]

/-- Settles O47: a read either stalls or takes the oldest item, and the commit point pre-empts every thread. -/
theorem stalledReads : Obligations.StalledReads := by
  unfold Obligations.StalledReads
  refine ⟨fun p s hc hh hg => ⟨fun hf => ?empty, fun w l hf hcol hw => ?item⟩, fun l s hc hh => ?commit⟩
  case empty =>
    have heq : exec (.teaselRead p) s = .next (updLane p (fun l => { l with stalled := true }) s) :=
      congrArg Host.Outcome.next (by simp [hc, hh, teaselRead_empty hg hf])
    exact ⟨_, heq, by simp, fun q hq => lane_updLane_other _ _ hq, by simp, by simp⟩
  case item =>
    have heq : exec (.teaselRead p) s = .next (teaselRead p s) := congrArg Host.Outcome.next (by simp [hc, hh])
    exact ⟨_, heq, lane_teaselRead hg hf hcol hw⟩
  case commit =>
    refine ⟨_, rfl, fun p => ?_⟩
    rw [lane_congr (commitPoint_planes hc hh)]
    exact lane_eachPlane (R := fun _ l => l.stalled = false) commitThread_unstalled
      (fun p q s hq => lane_commitThread_other s hq) _ p

end Sys2Proof.Machine
end

section
/-! PROOFS. The end of an adaptation window (R94) and the check of the Safe Region Entries (R112, R114). -/

namespace Sys2Proof.Machine

/-! ## The adaptation window (R94) -/

theorem clampI_mem {lo hi : Int} (h : lo ≤ hi) (x : Int) : lo ≤ clampI lo hi x ∧ clampI lo hi x ≤ hi := by
  unfold clampI
  split
  · omega
  · split <;> omega

/-- The end of a whole window writes a clamped scale and starts the next window, and changes nothing else. -/
theorem adaptEnd_whole {p : Plane} {s : State} (hr : (lane s p).st = .running) (hc : (modr s p).carrier = false) (hb : p ≠ .b)
    (hn : par s (ctlAdaptN p.code) ≤ (lane s p).win) :
    ∃ x : Int, adaptEnd p s = setPar (ctlBandScale p.code) (clampI 0x400 0x4000 x).toNat
      (updLane p (fun l => { l with nsw := 0, win := 0 }) s) := by
  unfold adaptEnd
  exact ⟨_, if_pos (by simp [hr, hc, hb, hn])⟩

theorem adaptEnd_outside {p : Plane} {s : State} (h : (lane s p).st ≠ .running) : adaptEnd p s = s := if_neg fun hc => h hc.1

/-! ## A plane bound for SAFE (R179) -/

/-- The plane is READY, RUNNING or TEST, or in SAFE with the cause given, and ISL_PRT runs. -/
def BoundSafe (p : Plane) (c : Nat) (s : State) : Prop :=
  s.isl.prt = true ∧ (activeSt (lane s p).st = true ∨ (lane s p).st = .safe ∧ par s (protSafeCause p.code) = c)

/-- The plane is in SAFE with the cause given. -/
def SafeWith (p : Plane) (c : Nat) (s : State) : Prop := (lane s p).st = .safe ∧ par s (protSafeCause p.code) = c

theorem boundSafe_congr {p : Plane} {c : Nat} {s t : State} (h : BoundSafe p c s) (hi : t.isl = s.isl) (hl : lane t p = lane s p)
    (hp : par t (protSafeCause p.code) = par s (protSafeCause p.code)) : BoundSafe p c t := by
  unfold BoundSafe at h ⊢
  rwa [hi, hl, hp]

/-- A cause at a plane bound for SAFE with that cause brings it there. -/
theorem BoundSafe.causeAt_self {p : Plane} {c : Nat} {s : State} (m : Ports) (hc : c < 2 ^ 32) (h : BoundSafe p c s) :
    SafeWith p c (causeAt p c m s) := by
  obtain ⟨hp, ha | ⟨hst, hcause⟩⟩ := h
  · exact causeAt_safe m hc hp ha
  · obtain ⟨h1, h2⟩ := causeAt_stays c m hst
    exact ⟨h1, h2.trans hcause⟩

theorem BoundSafe.causeAt {p : Plane} {c : Nat} {s : State} (q : Plane) (m : Ports) (hc : c < 2 ^ 32) (h : BoundSafe p c s) :
    BoundSafe p c (causeAt q c m s) := by
  by_cases hq : q = p
  · subst hq
    exact ⟨by simpa using h.1, .inr (h.causeAt_self m hc)⟩
  · exact boundSafe_congr h (by simp) (lane_causeAt_other c m s (Ne.symm hq))
      (par_causeEach_cause c m [q] s fun r hr => by rw [List.mem_singleton] at hr; exact hr ▸ hq)

/-- Once in SAFE with the cause, a plane stays so under the same cause at any plane. -/
theorem SafeWith.causeAt {p : Plane} {c : Nat} {s : State} (q : Plane) (m : Ports) (h : SafeWith p c s) :
    SafeWith p c (causeAt q c m s) := by
  by_cases hq : q = p
  · subst hq
    obtain ⟨h1, h2⟩ := causeAt_stays c m h.1
    exact ⟨h1, h2.trans h.2⟩
  · refine ⟨by rw [lane_causeAt_other c m s (Ne.symm hq)]; exact h.1, ?_⟩
    exact (par_causeEach_cause c m [q] s fun r hr => by rw [List.mem_singleton] at hr; exact hr ▸ hq).trans h.2

/-- A fold keeps what its steps at its own elements keep. -/
theorem foldl_keeps_mem {β : Type} {P : State → Prop} {g : State → β → State} {l : List β} (h : ∀ s, ∀ y ∈ l, P s → P (g s y))
    {s : State} (hs : P s) : P (l.foldl g s) := by
  induction l generalizing s with
  | nil => exact hs
  | cons y t ih => exact ih (fun s z hz => h s z (List.mem_cons_of_mem _ hz)) (h s y (List.mem_cons_self ..) hs)

/-- A fold whose steps keep one property reaches another at one of its elements, and later steps keep that too. -/
theorem foldl_reaches {β : Type} {Q P : State → Prop} {g : State → β → State} {x : β} (hx : ∀ s, Q s → P (g s x)) {l : List β}
    (hQ : ∀ s, ∀ y ∈ l, Q s → Q (g s y)) (hP : ∀ s, ∀ y ∈ l, P s → P (g s y)) (hm : x ∈ l) {s : State} (hs : Q s) :
    P (l.foldl g s) := by
  induction l generalizing s with
  | nil => simp at hm
  | cons y t ih =>
    have hQ' := fun s z (hz : z ∈ t) => hQ s z (List.mem_cons_of_mem _ hz)
    have hP' := fun s z (hz : z ∈ t) => hP s z (List.mem_cons_of_mem _ hz)
    obtain rfl | hm := List.mem_cons.1 hm
    · exact foldl_keeps_mem hP' (hx s hs)
    · exact ih hQ' hP' hm (hQ s y (List.mem_cons_self ..) hs)

/-! ## The check of the Safe Region Entries (R112, R114) -/

/-- The check at one plane. -/
def sreStep (s : State) (p : Plane) : State :=
  if activeSt (lane s p).st && !sreOk s p then causeAt p 0x05 0 (raiseNum 0x08 p.code s) else s

theorem sreCheck_eq (s : State) : sreCheck s = allPlanes.foldl sreStep s := rfl

/-- The words of a Safe Region Entry and its CRC lie off what an entry of any plane into SAFE writes. -/
theorem offSafe_sre (p q : Plane) {i : Nat} (h : i ≤ 8) : OffSafe q (ctlSre p.code i) := by
  have hp := code_lt p
  have hq := code_lt q
  refine ⟨Or.inl ?_, ?_, ?_, ?_, ?_, ?_, Or.inl ?_⟩
  all_goals simp only [ctlSre, protSafeCause, protSafeCnt, protBrkCtrl, sysEvtLostCnt, gfmState, modPsPer]; omega

theorem sreOk_congr {p : Plane} {s t : State} (h : ∀ i, i ≤ 8 → par t (ctlSre p.code i) = par s (ctlSre p.code i)) :
    sreOk t p = sreOk s p := by
  have hb : sreBytes t p = sreBytes s p := by
    unfold sreBytes
    exact List.flatMap_congr fun i hi => by rw [h i (by have := List.mem_range.1 hi; omega)]
  have hc : par t (ctlSreCrc p.code) = par s (ctlSreCrc p.code) := by
    have he : ctlSreCrc p.code = ctlSre p.code 8 := by simp only [ctlSreCrc, ctlSre]; omega
    rw [he, h 8 (by omega)]
  rw [sreOk, sreOk, hb, hc]

/-- The check at one plane writes no plane's Safe Region Entry. -/
theorem sreOk_sreStep (p q : Plane) (s : State) : sreOk (sreStep s q) p = sreOk s p := by
  unfold sreStep
  split
  · refine sreOk_congr fun i hi => ?_
    have hoff := offSafe_sre p q hi
    rw [par_causeAt_other q _ _ _ hoff, par_raiseNum _ _ _ hoff.2.2.2.2.1]
  · rfl

theorem safeCause_ne_evtLost (p : Plane) : protSafeCause p.code ≠ sysEvtLostCnt := by
  simp only [protSafeCause, sysEvtLostCnt]; omega

/-- Event words aside, raising an event changes nothing of a plane's safety. -/
theorem boundSafe_raiseNum {p : Plane} {c : Nat} {s : State} (n d : Nat) (h : BoundSafe p c s) : BoundSafe p c (raiseNum n d s) :=
  boundSafe_congr h (by simp) (lane_congr (by simp) p) (par_raiseNum n d s (safeCause_ne_evtLost p))

theorem safeWith_raiseNum {p : Plane} {c : Nat} {s : State} (n d : Nat) (h : SafeWith p c s) : SafeWith p c (raiseNum n d s) := by
  unfold SafeWith at h ⊢
  rwa [lane_congr (raiseNum_planes ..), par_raiseNum n d s (safeCause_ne_evtLost p)]

/-- A plane that is active with a bad entry is in SAFE with cause 0x05 after the check. -/
theorem sreCheck_safe {p : Plane} {s : State} (hi : s.isl.prt = true) (ha : activeSt (lane s p).st = true) (hb : sreOk s p = false) :
    SafeWith p 0x05 (sreCheck s) := by
  rw [sreCheck_eq]
  refine foldl_reaches (Q := fun u => BoundSafe p 0x05 u ∧ sreOk u p = false) (x := p) (fun u ⟨hu, hbad⟩ => ?here)
    (fun u q _ ⟨hu, hbad⟩ => ⟨?bound, (sreOk_sreStep p q u).trans hbad⟩) (fun u q _ hu => ?stays) (by cases p <;> decide)
    ⟨⟨hi, .inl ha⟩, hb⟩
  case here =>
    obtain hact | hsafe := hu.2
    · rw [sreStep, if_pos (by simp [hact, hbad])]
      exact (boundSafe_raiseNum 0x08 p.code hu).causeAt_self 0 (by decide)
    · rw [sreStep, if_neg (by simp [hsafe.1, activeSt])]
      exact hsafe
  case bound =>
    unfold sreStep
    split
    · exact (boundSafe_raiseNum 0x08 q.code hu).causeAt q 0 (by decide)
    · exact hu
  case stays =>
    unfold sreStep
    split
    · exact (safeWith_raiseNum 0x08 q.code hu).causeAt q 0
    · exact hu

/-- With no plane active the check does nothing. -/
theorem sreCheck_inactive {s : State} (h : ∀ p, activeSt (lane s p).st = false) : sreCheck s = s := by
  rw [sreCheck_eq]
  refine foldl_keeps (P := (· = s)) (fun u q hu => ?_) allPlanes rfl
  subst hu
  exact if_neg (by simp [h q])

end Sys2Proof.Machine
end

section
/-! PROOFS. The comparators of ISL_PRT at one output (R176): what a comparator reads, and its state after every one is evaluated. -/

namespace Sys2Proof.Machine

/-! ## What a comparator reads -/

/-- No counter of the comparators and not the count of lost events. -/
def OffCounts (j : Nat) : Prop := j ≠ sysEvtLostCnt ∧ ∀ (q : Plane) (g : Nat), g < 8 → j ≠ protFtCnt q.code g

/-- Two states in which every signal of the TRIP filters reads the same. -/
structure SameTrip (s t : State) : Prop where
  meas : t.meas = s.meas
  noRoute : t.prt.noRoute = s.prt.noRoute
  holdUp : t.prt.holdUp = s.prt.holdUp
  time : t.time = s.time
  word : ∀ j, OffCounts j → par t j = par s j

theorem offCounts_low {j : Nat} (h : j < 0x1210) (hj : j ≠ sysEvtLostCnt) : OffCounts j :=
  ⟨hj, fun q g _ => by simp only [protFtCnt]; omega⟩

/-- The words of a comparator before its counter are none of the counters. -/
theorem offCounts_word {p : Plane} {f k j : Nat} (hf : f < 8) (hk : k < 5) (hj : j = 0x1210 + 0x40 * p.code + 6 * f + k) :
    OffCounts j := by
  have hp := code_lt p
  refine ⟨by simp only [sysEvtLostCnt]; omega, fun q g hg => ?_⟩
  have hq := code_lt q
  simp only [protFtCnt]
  obtain hpq | hpq | hpq := lt_trichotomy p.code q.code <;> omega

section
variable (p : Plane) {f : Nat} (hf : f < 8)
include hf

theorem offCounts_src : OffCounts (protFtSrc p.code f) := offCounts_word (p := p) hf (k := 0) (by decide) rfl
theorem offCounts_hi : OffCounts (protFtHi p.code f) := offCounts_word (p := p) hf (k := 1) (by decide) (by simp only [protFtHi]; omega)
theorem offCounts_lo : OffCounts (protFtLo p.code f) := offCounts_word (p := p) hf (k := 2) (by decide) (by simp only [protFtLo]; omega)
theorem offCounts_hys : OffCounts (protFtHys p.code f) := offCounts_word (p := p) hf (k := 3) (by decide) (by simp only [protFtHys]; omega)
theorem offCounts_act : OffCounts (protFtAct p.code f) := offCounts_word (p := p) hf (k := 4) (by decide) (by simp only [protFtAct]; omega)

end

theorem ftCount_le (p : Plane) : ftCount p ≤ 8 := by cases p <;> decide

section
variable {s t : State} (h : SameTrip s t)
include h

theorem SameTrip.mdBit : mdBit t = mdBit s := by
  unfold Machine.mdBit mdDiv
  rw [h.holdUp, h.time]

theorem SameTrip.sigPort : sigPort t = sigPort s := by
  funext c
  unfold Machine.sigPort
  refine List.find?_congr fun n hn => ?_
  have hlt := List.mem_range.1 hn
  rw [h.word (measRoute n) (offCounts_low (by simp only [measRoute]; omega) (by simp only [measRoute, sysEvtLostCnt]; omega))]

theorem SameTrip.mport : mport t = mport s := funext fun n => by unfold Machine.mport; rw [h.meas]

theorem SameTrip.sigPrtOk : sigPrtOk t = sigPrtOk s := funext fun c => by unfold Machine.sigPrtOk; rw [h.sigPort, h.mport]

theorem SameTrip.tripRecon (sel : MPort → Int) : tripRecon sel t = tripRecon sel s := by
  funext c n
  unfold Machine.tripRecon
  rw [h.sigPort, h.mport, h.sigPrtOk, h.word ctlGThreeWire (offCounts_low (by decide) (by decide))]

theorem SameTrip.tripSig (sel : MPort → Int) : tripSig sel t = tripSig sel s := by
  funext c
  unfold Machine.tripSig
  rw [h.sigPort, h.mport, h.tripRecon, h.noRoute]

theorem SameTrip.tripSum (sel : MPort → Int) : tripSum sel t = tripSum sel s := by
  funext l
  induction l with
  | nil => rfl
  | cons x l ih =>
    unfold Machine.tripSum tripRaw
    rw [ih, h.sigPrtOk, h.tripSig]

theorem SameTrip.tripSrc (sel : MPort → Int) : tripSrc sel t = tripSrc sel s := by
  funext c
  unfold Machine.tripSrc
  rw [h.tripSum, h.tripSig]

theorem SameTrip.ftValue (p : Plane) {f : Nat} (hf : f < 8) : ftValue t p f = ftValue s p f := by
  unfold Machine.ftValue
  rw [h.tripSrc, h.tripSrc, h.mdBit, h.word _ (offCounts_src p hf)]

/-- A comparator that was tripped, or whose state is the same, is tripped again on the same signals. -/
theorem SameTrip.ftNow_true {p : Plane} {f : Nat} (hf : f < 8) (hb : s.prt.tripped.getLsbD (8 * p.code + f) = true →
    t.prt.tripped.getLsbD (8 * p.code + f) = true) (hs : ftNow s p f = true) : ftNow t p f = true := by
  unfold Machine.ftNow parQ at hs ⊢
  rw [h.ftValue p hf, h.word _ (offCounts_hi p hf), h.word _ (offCounts_lo p hf), h.word _ (offCounts_hys p hf)]
  split at hs
  · exact hs
  · simp only [Bool.or_eq_true, Bool.and_eq_true] at hs ⊢
    exact hs.imp id fun hw => ⟨hb hw.1, hw.2⟩

end

/-! ## The evaluation of one comparator -/

theorem sameTrip_ftEval (p : Plane) {f : Nat} (hf : f < 8) (s : State) : SameTrip s (ftEval p f s) := by
  unfold ftEval
  dsimp only
  split
  · refine ⟨by simp, by simp, by simp, by simp, fun j hj => ?_⟩
    rw [par_raiseNum _ _ _ hj.1, par_count_other _ (hj.2 p f hf)]
    rfl
  · exact ⟨rfl, rfl, rfl, rfl, fun j _ => rfl⟩

@[simp] theorem ftEval_planes (p : Plane) (f : Nat) (s : State) : (ftEval p f s).planes = s.planes := by
  unfold ftEval
  dsimp only
  split <;> simp
@[simp] theorem ftEval_isl (p : Plane) (f : Nat) (s : State) : (ftEval p f s).isl = s.isl := by
  unfold ftEval
  dsimp only
  split <;> simp
@[simp] theorem ftEval_time (p : Plane) (f : Nat) (s : State) : (ftEval p f s).time = s.time := by
  unfold ftEval
  dsimp only
  split <;> simp

theorem ftEval_tripped (p : Plane) (f : Nat) (s : State) : (ftEval p f s).prt.tripped =
    if ftNow s p f then s.prt.tripped ||| (1#26 <<< (8 * p.code + f)) else s.prt.tripped &&& ~~~(1#26 <<< (8 * p.code + f)) := by
  unfold ftEval
  dsimp only
  split <;> simp

/-- Only one comparator has a given place in the tripped state. -/
theorem ftPlace_inj {p q : Plane} {f g : Nat} (hf : f < 8) (hg : g < 8) (h : 8 * p.code + f = 8 * q.code + g) : p = q ∧ f = g := by
  have hc : p.code = q.code := by omega
  refine ⟨?_, by omega⟩
  by_contra hne
  exact code_inj hne hc

theorem ftPlace_lt (p : Plane) {f : Nat} (hf : f < ftCount p) : 8 * p.code + f < 26 := by
  cases p <;> simp only [ftCount, Plane.code] at hf ⊢ <;> omega

/-- The evaluation of a comparator that trips sets its bit. -/
theorem ftEval_trips {p : Plane} {f : Nat} {s : State} (hf : f < ftCount p) (h : ftNow s p f = true) :
    (ftEval p f s).prt.tripped.getLsbD (8 * p.code + f) = true := by
  have hlt := ftPlace_lt p hf
  rw [ftEval_tripped, if_pos h]
  simp [hlt]

/-- The evaluation of another comparator leaves the bit. -/
theorem ftEval_tripped_other {p q : Plane} {f g : Nat} (s : State) (h : 8 * p.code + f ≠ 8 * q.code + g) :
    (ftEval q g s).prt.tripped.getLsbD (8 * p.code + f) = s.prt.tripped.getLsbD (8 * p.code + f) := by
  rw [ftEval_tripped]
  have hbit : (1#26 <<< (8 * q.code + g)).getLsbD (8 * p.code + f) = false := by
    simp only [BitVec.getLsbD_shiftLeft, BitVec.getLsbD_one]
    have : ¬ (8 * p.code + f - (8 * q.code + g) = 0 ∧ ¬ 8 * p.code + f < 8 * q.code + g) := by omega
    simp
    omega
  split
  · simp [BitVec.getLsbD_or, hbit]
  · rw [BitVec.getLsbD_and, BitVec.getLsbD_not, hbit]
    by_cases hlt : 8 * p.code + f < 26
    · simp [hlt]
    · simp [BitVec.getLsbD_of_ge _ _ (Nat.le_of_not_lt hlt)]

/-- A comparator that reads as tripped does so after any evaluation. -/
theorem ftNow_ftEval {p q : Plane} {f g : Nat} {s : State} (hf : f < ftCount p) (hg : g < ftCount q) (h : ftNow s p f = true) :
    ftNow (ftEval q g s) p f = true := by
  have hf8 := Nat.lt_of_lt_of_le hf (ftCount_le p)
  have hg8 := Nat.lt_of_lt_of_le hg (ftCount_le q)
  refine (sameTrip_ftEval q hg8 s).ftNow_true hf8 (fun hb => ?_) h
  by_cases heq : 8 * p.code + f = 8 * q.code + g
  · obtain ⟨rfl, rfl⟩ := ftPlace_inj hf8 hg8 heq
    exact ftEval_trips hf h
  · rw [ftEval_tripped_other s heq, hb]

/-! ## The evaluation of every comparator -/

/-- Every comparator of every plane, in order. -/
def allFts : List (Plane × Nat) := allPlanes.flatMap fun p => (List.range (ftCount p)).map fun f => (p, f)

/-- The evaluation of one of them. -/
def ftStep (s : State) (x : Plane × Nat) : State := ftEval x.1 x.2 s

theorem eachFt_ftEval (s : State) : eachFt ftEval s = allFts.foldl ftStep s := by
  unfold eachFt allFts
  rw [List.foldl_flatMap]
  simp only [List.foldl_map, ftStep]

theorem mem_allFts {p : Plane} {f : Nat} : (p, f) ∈ allFts ↔ f < ftCount p := by
  have hp : p ∈ allPlanes := by cases p <;> decide
  simp [allFts, hp]

@[simp] theorem eachFt_ftEval_planes (s : State) : (eachFt ftEval s).planes = s.planes := by
  rw [eachFt_ftEval]
  exact foldl_same (·.planes) ftStep (fun s x => ftEval_planes x.1 x.2 s) _ s
@[simp] theorem eachFt_ftEval_isl (s : State) : (eachFt ftEval s).isl = s.isl := by
  rw [eachFt_ftEval]
  exact foldl_same (·.isl) ftStep (fun s x => ftEval_isl x.1 x.2 s) _ s
@[simp] theorem eachFt_ftEval_time (s : State) : (eachFt ftEval s).time = s.time := by
  rw [eachFt_ftEval]
  exact foldl_same (·.time) ftStep (fun s x => ftEval_time x.1 x.2 s) _ s

theorem par_eachFt_ftEval {j : Nat} (hj : OffCounts j) (s : State) : par (eachFt ftEval s) j = par s j := by
  rw [eachFt_ftEval]
  exact foldl_keeps_mem (P := fun u => par u j = par s j) (g := ftStep) (fun u x hx hu =>
    ((sameTrip_ftEval x.1 (Nat.lt_of_lt_of_le (mem_allFts.1 hx) (ftCount_le x.1)) u).word j hj).trans hu) rfl

/-- A comparator that reads as tripped at an output is in the tripped state after every comparator is evaluated. -/
theorem eachFt_ftEval_tripped {p : Plane} {f : Nat} {s : State} (hf : f < ftCount p) (h : ftNow s p f = true) :
    (eachFt ftEval s).prt.tripped.getLsbD (8 * p.code + f) = true := by
  rw [eachFt_ftEval]
  refine (foldl_reaches (Q := fun u => ftNow u p f = true)
    (P := fun u => ftNow u p f = true ∧ u.prt.tripped.getLsbD (8 * p.code + f) = true)
    (g := ftStep) (x := (p, f)) (fun u hu => ⟨ftNow_ftEval hf hf hu, ftEval_trips hf hu⟩) (fun u y hy hu => ftNow_ftEval hf (mem_allFts.1 hy) hu)
    (fun u y hy hu => ⟨ftNow_ftEval hf (mem_allFts.1 hy) hu.1, ?_⟩) (mem_allFts.2 hf) h).2
  by_cases heq : 8 * p.code + f = 8 * y.1.code + y.2
  · obtain ⟨hpq, hfg⟩ := ftPlace_inj (Nat.lt_of_lt_of_le hf (ftCount_le p))
      (Nat.lt_of_lt_of_le (mem_allFts.1 hy) (ftCount_le y.1)) heq
    rw [ftStep, ← hpq, ← hfg]
    exact ftEval_trips hf hu.1
  · rw [ftStep, ftEval_tripped_other u heq, hu.2]

end Sys2Proof.Machine
end

section
/-! PROOFS. The end of a TRIP window (R176, R177, R184, R186). Settles O48. -/

namespace Sys2Proof.Machine

/-! ## The comparators' states through an entry into SAFE -/

@[simp] theorem settle_prt_tripped (b : Bool) (m : Ports) (s : State) : (settle b m s).prt.tripped = s.prt.tripped := by simp [settle]

@[simp] theorem override_prt_tripped (m x y : Ports) (s : State) : (override m x y s).prt.tripped = s.prt.tripped := rfl

@[simp] theorem initMod_prt_tripped (p : Plane) (s : State) : (initMod p s).prt.tripped = s.prt.tripped := by
  unfold initMod
  split <;> simp

@[simp] theorem ascApply_prt_tripped (b : SafeSub) (k : Nat) (s : State) : (ascApply b k s).prt.tripped = s.prt.tripped := by
  unfold ascApply
  split <;> rfl

@[simp] theorem enterSub_prt_tripped (b : SafeSub) (s : State) : (enterSub b s).prt.tripped = s.prt.tripped := by
  unfold enterSub
  split <;> simp

@[simp] theorem noteFallback_prt_tripped (b : Bool) (s : State) : (noteFallback b s).prt.tripped = s.prt.tripped := by
  unfold noteFallback
  split <;> simp

@[simp] theorem safePattern_prt_tripped (p : Plane) (st : PState) (b : SafeSub) (s : State) :
    (safePattern p st b s).prt.tripped = s.prt.tripped := by
  unfold safePattern
  split <;> simp

@[simp] theorem enterSafe_prt_tripped (p : Plane) (c : Nat) (m : Ports) (s : State) :
    (enterSafe p c m s).prt.tripped = s.prt.tripped := by simp [enterSafe]

@[simp] theorem rechoose_prt_tripped (s : State) : (rechoose s).prt.tripped = s.prt.tripped := by
  unfold rechoose
  dsimp only
  split
  · split <;> simp
  · rfl

@[simp] theorem causeAt_prt_tripped (p : Plane) (c : Nat) (m : Ports) (s : State) :
    (causeAt p c m s).prt.tripped = s.prt.tripped := by
  unfold causeAt
  split
  · rfl
  · split
    any_goals exact enterSafe_prt_tripped p c m s
    · split
      · exact rechoose_prt_tripped s
      · rfl
    · rfl

@[simp] theorem causeEach_prt_tripped (l : List Plane) (c : Nat) (m : Ports) (s : State) :
    (causeEach l c m s).prt.tripped = s.prt.tripped := foldl_same (·.prt.tripped) _ (fun s p => causeAt_prt_tripped p c m s) l s

@[simp] theorem causeEvery_prt_tripped (c : Nat) (m : Ports) (s : State) : (causeEvery c m s).prt.tripped = s.prt.tripped :=
  causeEach_prt_tripped allPlanes c m s

/-! ## The clocks of the gate blocks and the TRIP filters -/

theorem ageTest_st (d : Nat) (p q : Plane) (s : State) : (lane (ageTest d p s) q).st = (lane s q).st := by
  unfold ageTest
  split
  · rw [lane_driveTest]
    by_cases h : q = p
    · simp [h]
    · rw [lane_updLane_other _ _ h]
  · rfl

@[simp] theorem ageTest_isl (d : Nat) (p : Plane) (s : State) : (ageTest d p s).isl = s.isl := by
  unfold ageTest
  split <;> simp [driveTest]

theorem par_ageTest (d : Nat) (p : Plane) (s : State) {j : Nat} (h : OffGate j) : par (ageTest d p s) j = par s j := by
  unfold ageTest
  split
  · simp [driveTest, par_settle _ _ _ h]
  · rfl

theorem ageTest_idle {p : Plane} {s : State} (d : Nat) (h : (lane s p).st ≠ .test) : ageTest d p s = s := if_neg fun hc => h hc.1

theorem agePorts_st (s : State) (q : Plane) : (lane (agePorts s) q).st = (lane s q).st := by
  unfold agePorts
  exact foldl_keeps (P := fun u => (lane u q).st = (lane s q).st) (fun u p hu => (ageTest_st _ p q u).trans hu) allPlanes (by simp)

@[simp] theorem agePorts_isl (s : State) : (agePorts s).isl = s.isl := by
  unfold agePorts
  exact foldl_keeps (P := fun u => u.isl = s.isl) (fun u p hu => (ageTest_isl _ p u).trans hu) allPlanes (by simp)

theorem par_agePorts (s : State) {j : Nat} (h : OffGate j) : par (agePorts s) j = par s j := by
  unfold agePorts
  exact foldl_keeps (P := fun u => par u j = par s j) (fun u p hu => (par_ageTest _ p u h).trans hu) allPlanes
    (by simp [par_settle _ _ _ h])

/-- Without a plane in TEST the clocks alone advance. -/
theorem agePorts_frame {s : State} (h : ∀ p, (lane s p).st ≠ .test) : (agePorts s).planes = s.planes ∧ (agePorts s).time = s.time := by
  unfold agePorts
  refine foldl_keeps (P := fun u => u.planes = s.planes ∧ u.time = s.time) (fun u p hu => ?_) allPlanes ⟨by simp, by simp⟩
  rw [ageTest_idle _ (by rw [lane_congr hu.1]; exact h p)]
  exact hu

/-- The TRIP filter of one port takes the bits of a window. -/
def tripPort (bs edges : List Nat) (s : State) (n : Nat) : State :=
  if par s (measRoute n) = 0 then s
  else updMport n (fun p =>
    let x := prtBits s n (bs.getD n 0) (edges.take 8) p.rxPrt
    tripComb s n (feed tripBit x.1 8 { p with rxPrt := x.2 })) s

theorem tripMeas_eq (bs edges : List Nat) (s : State) :
    tripMeas bs edges s = bumpManch ((List.range 24).foldl (tripPort bs edges) s) := rfl

/-- The state that the comparators of an output see. -/
def tripRead (l e : List Nat) (s : State) : State := writeCuts (tripMeas l e (agePorts s))

/-- The TRIP filters write the measurement ports alone. -/
theorem tripRead_frame (l e : List Nat) (s : State) : (tripRead l e s).planes = (agePorts s).planes ∧
    (tripRead l e s).isl = (agePorts s).isl ∧ (tripRead l e s).params = (agePorts s).params ∧
    (tripRead l e s).time = (agePorts s).time := by
  have hstep : ∀ u n, (tripPort l e u n).planes = u.planes ∧ (tripPort l e u n).isl = u.isl ∧
      (tripPort l e u n).params = u.params ∧ (tripPort l e u n).time = u.time := fun u n => by
    unfold tripPort
    split <;> exact ⟨rfl, rfl, rfl, rfl⟩
  have hisl : ∀ u, (bumpManch u).isl = u.isl := fun u => by unfold bumpManch; split <;> rfl
  simp only [tripRead, writeCuts, tripMeas_eq, updPrt_planes, updPrt_isl, updPrt_params, updPrt_time, bumpManch_planes, hisl,
    bumpManch_params, bumpManch_time]
  exact ⟨foldl_same (·.planes) (tripPort l e) (fun u n => (hstep u n).1) _ _,
    foldl_same (·.isl) (tripPort l e) (fun u n => (hstep u n).2.1) _ _,
    foldl_same (·.params) (tripPort l e) (fun u n => (hstep u n).2.2.1) _ _,
    foldl_same (·.time) (tripPort l e) (fun u n => (hstep u n).2.2.2) _ _⟩

/-- The state in which the comparators act: every one evaluated. -/
def tripJudged (l e : List Nat) (s : State) : State := eachFt ftEval (tripRead l e s)

theorem tripJudged_isl (l e : List Nat) (s : State) : (tripJudged l e s).isl = s.isl := by
  simp [tripJudged, (tripRead_frame l e s).2.1]

theorem tripJudged_st (l e : List Nat) (s : State) (q : Plane) : (lane (tripJudged l e s) q).st = (lane s q).st := by
  rw [tripJudged, lane_congr (eachFt_ftEval_planes ..), lane_congr (tripRead_frame l e s).1, agePorts_st]

theorem par_tripJudged (l e : List Nat) (s : State) {j : Nat} (h : OffCounts j) (hg : OffGate j) :
    par (tripJudged l e s) j = par s j := by
  rw [tripJudged, par_eachFt_ftEval h, par_congr (tripRead_frame l e s).2.2.1, par_agePorts s hg]

/-! ## The action word of a comparator -/

theorem ftClass_congr {s t : State} {p : Plane} {f : Nat} (h : par t (protFtAct p.code f) = par s (protFtAct p.code f)) :
    ftClass t p f = ftClass s p f ∧ ftPorts t p f = ftPorts s p f := by
  unfold ftClass ftPorts parBits
  rw [h]
  exact ⟨rfl, rfl⟩

theorem offGate_act (p : Plane) (f : Nat) : OffGate (protFtAct p.code f) := Or.inr (by simp only [protFtAct]; omega)

/-- No entry into SAFE writes the action word of a comparator. -/
theorem offSafe_act (p q : Plane) {f : Nat} (hf : f < 8) : OffSafe q (protFtAct p.code f) := by
  have hp := code_lt p
  have hq := code_lt q
  refine ⟨offGate_act p f, ?_, ?_, ?_, ?_, ?_, Or.inr ?_⟩
  all_goals simp only [protFtAct, protSafeCause, protSafeCnt, protBrkCtrl, sysEvtLostCnt, gfmState, modPsP]
  all_goals obtain hpq | hpq | hpq := lt_trichotomy p.code q.code <;> omega

/-! ## The cuts (R146, R177) -/

theorem makeCut_permit (p : Plane) (m : Ports) (s : State) : (makeCut p m s).prt.permit = s.prt.permit &&& ~~~m := by
  unfold makeCut
  split
  next hm =>
    rw [hm]
    exact (BitVec.and_allOnes (w := 36)).symm
  · rfl

/-- The cut of one comparator. -/
def cutStep (s : State) (x : Plane × Nat) : State := makeCut x.1 (ftPorts s x.1 x.2) s

theorem cutStep_frame (s : State) (x : Plane × Nat) : (cutStep s x).planes = s.planes ∧ (cutStep s x).isl = s.isl ∧
    (cutStep s x).params = s.params ∧ (cutStep s x).time = s.time ∧ (cutStep s x).prt.tripped = s.prt.tripped := by
  unfold cutStep makeCut
  split <;> exact ⟨rfl, rfl, rfl, rfl, rfl⟩

/-- Cuts only withdraw permission. -/
theorem cutStep_permit_keeps {m : Ports} {s : State} (x : Plane × Nat) (h : s.prt.permit &&& m = 0) :
    (cutStep s x).prt.permit &&& m = 0 := by
  rw [cutStep, makeCut_permit, BitVec.and_assoc, BitVec.and_comm (~~~_), ← BitVec.and_assoc, h]
  exact BitVec.zero_and

/-- The permission of a comparator's port set is withdrawn at its own cut. -/
theorem cutStep_permit {m : Ports} {p : Plane} {f : Nat} {s : State} (h : ftPorts s p f = m) :
    (cutStep s (p, f)).prt.permit &&& m = 0 := by
  rw [cutStep, makeCut_permit, h, BitVec.and_assoc]
  ext i hi
  simp

/-- The cuts of every comparator that acts. -/
def cutAll (s : State) : State := (ftActing s).foldl cutStep s

theorem cutAll_frame (s : State) : (cutAll s).planes = s.planes ∧ (cutAll s).isl = s.isl ∧ (cutAll s).params = s.params ∧
    (cutAll s).prt.tripped = s.prt.tripped :=
  ⟨foldl_same (·.planes) cutStep (fun u x => (cutStep_frame u x).1) _ s,
    foldl_same (·.isl) cutStep (fun u x => (cutStep_frame u x).2.1) _ s,
    foldl_same (·.params) cutStep (fun u x => (cutStep_frame u x).2.2.1) _ s,
    foldl_same (·.prt.tripped) cutStep (fun u x => (cutStep_frame u x).2.2.2.2) _ s⟩

theorem cutAll_permit {p : Plane} {f : Nat} {s : State} (h : (p, f) ∈ ftActing s) : (cutAll s).prt.permit &&& ftPorts s p f = 0 :=
  foldl_reaches (Q := fun u => u.params = s.params) (P := fun u => u.prt.permit &&& ftPorts s p f = 0) (g := cutStep) (x := (p, f))
    (fun _ hu => cutStep_permit (ftClass_congr (par_congr hu _)).2) (fun u y _ hu => (cutStep_frame u y).2.2.1.trans hu)
    (fun _ y _ hu => cutStep_permit_keeps y hu) h rfl

/-! ## The causes of the comparators (R177, R179) -/

theorem mem_ftActing {p : Plane} {f : Nat} {s : State} (hf : f < ftCount p)
    (ht : s.prt.tripped.getLsbD (8 * p.code + f) = true) (hp : poweredSt (lane s p).st = true) (hc : ftClass s p f ≠ 0) :
    (p, f) ∈ ftActing s := by
  have hall : p ∈ allPlanes := by cases p <;> decide
  simp only [ftActing, List.mem_flatMap, List.mem_map, List.mem_filter, List.mem_range]
  exact ⟨p, hall, f, ⟨hf, by simp [ht, hp, hc]⟩, rfl⟩

theorem ftCause_gates (soft : Ports) (s : State) (x : Plane × Nat) : (ftCause soft s x).prt.permit = s.prt.permit ∧
    (ftCause soft s x).prt.tripped = s.prt.tripped := by
  unfold ftCause
  split <;> simp

theorem BoundSafe.causeEvery {p : Plane} {c : Nat} {s : State} (m : Ports) (hc : c < 2 ^ 32) (h : BoundSafe p c s) :
    BoundSafe p c (causeEvery c m s) := by
  unfold Machine.causeEvery causeEach
  exact foldl_keeps (fun u q hu => hu.causeAt q m hc) allPlanes h

theorem SafeWith.causeEvery {p : Plane} {c : Nat} {s : State} (m : Ports) (h : SafeWith p c s) : SafeWith p c (causeEvery c m s) := by
  unfold Machine.causeEvery causeEach
  exact foldl_keeps (fun u q hu => hu.causeAt q m) allPlanes h

/-- Every cause of a comparator has the code 0x01. -/
theorem BoundSafe.ftCause {p : Plane} {s : State} (soft : Ports) (x : Plane × Nat) (h : BoundSafe p 0x01 s) :
    BoundSafe p 0x01 (ftCause soft s x) := by
  unfold Machine.ftCause
  split
  · exact h.causeAt x.1 soft (by decide)
  · exact h.causeEvery soft (by decide)
  · exact h

theorem SafeWith.ftCause {p : Plane} {s : State} (soft : Ports) (x : Plane × Nat) (h : SafeWith p 0x01 s) :
    SafeWith p 0x01 (ftCause soft s x) := by
  unfold Machine.ftCause
  split
  · exact h.causeAt x.1 soft
  · exact h.causeEvery soft
  · exact h

/-- A comparator of class SAFE brings its plane there. -/
theorem BoundSafe.ftCause_self {p : Plane} {f : Nat} {s : State} (soft : Ports) (h : BoundSafe p 0x01 s) (hc : ftClass s p f = 2) :
    SafeWith p 0x01 (Machine.ftCause soft s (p, f)) := by
  simp only [Machine.ftCause, hc]
  exact h.causeAt_self soft (by decide)

theorem par_ftCause {j : Nat} (soft : Ports) (s : State) (x : Plane × Nat) (h : ∀ q, OffSafe q j) :
    par (ftCause soft s x) j = par s j := by
  unfold ftCause
  split
  · exact par_causeAt_other x.1 _ _ _ (h x.1)
  · exact par_causeEach_off allPlanes _ _ _ h
  · rfl

/-- The soft turn-off of an output: the port sets of every comparator that acts. -/
def softPorts (s : State) : Ports := (ftActing s).foldl (fun m x => m ||| ftPorts s x.1 x.2) 0

theorem ftActs_eq (s : State) :
    ftActs s = (ftActing s).foldl (ftCause (softPorts s)) (settle true (softPorts s) (cutAll s)) := rfl

/-- The comparators that act withdraw the permission of their port sets and leave the comparators' states. -/
theorem ftActs_gates (s : State) : (ftActs s).prt.permit = (cutAll s).prt.permit ∧ (ftActs s).prt.tripped = s.prt.tripped := by
  rw [ftActs_eq]
  constructor
  · exact (foldl_same (·.prt.permit) _ (fun u x => (ftCause_gates _ u x).1) _ _).trans (settle_prt_permit ..)
  · exact (foldl_same (·.prt.tripped) _ (fun u x => (ftCause_gates _ u x).2) _ _).trans
      ((settle_prt_tripped ..).trans (cutAll_frame s).2.2.2)

theorem ftActs_safe {p : Plane} {f : Nat} {s : State} (hm : (p, f) ∈ ftActing s) (hf : f < 8) (hc : ftClass s p f = 2)
    (hi : s.isl.prt = true) (ha : activeSt (lane s p).st = true) : SafeWith p 0x01 (ftActs s) := by
  obtain ⟨hpl, hisl, hpar, -⟩ := cutAll_frame s
  rw [ftActs_eq]
  refine foldl_reaches (Q := fun u => BoundSafe p 0x01 u ∧ par u (protFtAct p.code f) = par s (protFtAct p.code f)) (x := (p, f))
    (fun u ⟨hu, hw⟩ => hu.ftCause_self _ ((ftClass_congr hw).1.trans hc))
    (fun u y _ ⟨hu, hw⟩ => ⟨hu.ftCause _ y, (par_ftCause _ u y fun q => offSafe_act p q hf).trans hw⟩)
    (fun u y _ hu => hu.ftCause _ y) hm ⟨⟨?_, .inl ?_⟩, ?_⟩
  · rw [settle_isl, hisl, hi]
  · rw [lane_settle, lane_congr hpl, ha]
  · rw [par_settle _ _ _ (offGate_act p f), par_congr hpar]

/-- No comparator acts while every plane is OFF or STOPPED. -/
theorem ftActing_stopped {s : State} (h : ∀ p, poweredSt (lane s p).st = false) : ftActing s = [] := by
  simp [ftActing, h]

/-! ## The STATIC test and protective chopping (R184, R186) -/

theorem staticCheck_gates (s : State) : (staticCheck s).prt.permit = s.prt.permit ∧ (staticCheck s).prt.tripped = s.prt.tripped := by
  unfold staticCheck
  split
  · exact ⟨rfl, rfl⟩
  · split <;> simp

/-- The end of a STATIC test reaches no plane that is in SAFE. -/
theorem SafeWith.staticCheck {p : Plane} {c : Nat} {s : State} (h : SafeWith p c s) : SafeWith p c (staticCheck s) := by
  unfold Machine.staticCheck
  split
  · exact h
  · split
    · have hnot : ∀ q ∈ allPlanes.filter fun q => decide ((lane s q).st = .test ∧ (lane s q).testKind = 0), q ≠ p := fun q hq he => by
        have hst := (decide_eq_true_iff.1 (List.mem_filter.1 hq).2).1
        rw [he, h.1] at hst
        cases hst
      obtain ⟨hl, hp⟩ := causeEach_keeps 0x12 0 _ s h.1 hnot
      exact ⟨by rw [hl]; exact h.1, hp.trans h.2⟩
    · exact h

theorem staticCheck_untested {s : State} (h : ∀ p, (lane s p).st ≠ .test) : staticCheck s = s := by
  have hnil : (allPlanes.filter fun p => decide ((lane s p).st = .test ∧ (lane s p).testKind = 0)) = [] := by simp [h]
  unfold staticCheck
  split
  · rfl
  · rw [hnil]
    split <;> rfl

theorem chopStop_gates (s : State) : (chopStop s).prt.permit = s.prt.permit ∧ (chopStop s).prt.tripped = s.prt.tripped ∧
    (chopStop s).time = s.time := by
  unfold chopStop
  dsimp only
  split
  · split <;> simp
  · simp

theorem par_chopStop (s : State) {j : Nat} (h : OffGate j) : par (chopStop s) j = par s j := by
  unfold chopStop
  dsimp only
  split
  · split <;> simp [par_settle _ _ _ h]
  · simp

theorem chopEval_frame (s : State) : (chopEval s).planes = s.planes ∧ (chopEval s).time = s.time ∧
    (chopEval s).prt.permit = s.prt.permit ∧ (chopEval s).prt.tripped = s.prt.tripped := by
  obtain ⟨hpermit, htripped, htime⟩ := chopStop_gates s
  unfold chopEval
  dsimp only
  split
  · simp
  · split
    · exact ⟨(chopStop_frame s).1, htime, hpermit, htripped⟩
    · exact ⟨rfl, rfl, rfl, rfl⟩

theorem par_chopEval (s : State) {j : Nat} (h : OffGate j) : par (chopEval s) j = par s j := by
  unfold chopEval
  dsimp only
  split
  · simp [par_settle _ _ _ h]
  · split
    · exact par_chopStop s h
    · rfl

theorem SafeWith.chopEval {p : Plane} {c : Nat} {s : State} (h : SafeWith p c s) : SafeWith p c (chopEval s) := by
  have hp := code_lt p
  exact ⟨by rw [lane_congr (chopEval_frame s).1]; exact h.1,
    (par_chopEval s (Or.inr (by simp only [protSafeCause]; omega))).trans h.2⟩

/-! ## The end of a TRIP window -/

theorem execTripOutput_eq {l e : List Nat} {s : State} (hi : s.isl.prt = true) (hm : s.isl.mdRun = true ∨ s.prt.holdUp = true) :
    exec (.tripOutput ⟨l, e⟩) s = .next (chopEval (staticCheck (ftActs (tripJudged l e s)))) :=
  congrArg Host.Outcome.next (if_pos (by simpa [hi] using hm))

/-- With every plane OFF or STOPPED the window's end moves no lane. -/
theorem tripOutput_stopped {l e : List Nat} {s : State} (h : ∀ p, poweredSt (lane s p).st = false) :
    (chopEval (staticCheck (ftActs (tripJudged l e s)))).planes = s.planes ∧
      (chopEval (staticCheck (ftActs (tripJudged l e s)))).time = s.time := by
  have hnotest : ∀ p, (lane s p).st ≠ .test := fun p hp => by have := h p; rw [hp] at this; cases this
  obtain ⟨hages, haget⟩ := agePorts_frame hnotest
  obtain ⟨hreads, -, -, hreadt⟩ := tripRead_frame l e s
  have hjudged : (tripJudged l e s).planes = s.planes := by rw [tripJudged, eachFt_ftEval_planes, hreads, hages]
  have hjudgedt : (tripJudged l e s).time = s.time := by rw [tripJudged, eachFt_ftEval_time, hreadt, haget]
  have hnone : ftActing (tripJudged l e s) = [] := ftActing_stopped fun p => by rw [lane_congr hjudged, h]
  have hacts : ftActs (tripJudged l e s) = settle true 0 (tripJudged l e s) := by
    simp only [ftActs_eq, softPorts, cutAll, hnone, List.foldl_nil]
  have hstatic : staticCheck (ftActs (tripJudged l e s)) = ftActs (tripJudged l e s) :=
    staticCheck_untested fun p => by rw [hacts, lane_settle, lane_congr hjudged]; exact hnotest p
  obtain ⟨hchop, hchopt, -, -⟩ := chopEval_frame (staticCheck (ftActs (tripJudged l e s)))
  rw [hchop, hchopt, hstatic, hacts, settle_planes, settle_time]
  exact ⟨hjudged, hjudgedt⟩

/-- Settles O48: the window's end writes a clamped scale; the check takes a bad entry's plane to SAFE; and a tripped comparator is
among those that act, which cut their ports and then bring their planes to SAFE. -/
theorem adaptationTripsAndSafeRegion : Obligations.AdaptationTripsAndSafeRegion := by
  unfold Obligations.AdaptationTripsAndSafeRegion
  refine ⟨fun p s hr hc hb hn => ?adapt, fun p s h => congrArg Host.Outcome.next (adaptEnd_outside h),
    fun p s hi ha hb => ⟨_, rfl, sreCheck_safe hi ha hb⟩, fun s h => congrArg Host.Outcome.next (sreCheck_inactive h),
    fun l e p f s hi hm hf hnow hc hp => ?trip, fun l e s hi hm hst => ?stopped, fun l e s hm hh => ?still⟩
  case adapt =>
    obtain ⟨x, heq⟩ := adaptEnd_whole hr hc hb hn
    obtain ⟨hlo, hhi⟩ := clampI_mem (show (0x400 : Int) ≤ 0x4000 by decide) x
    refine ⟨_, congrArg Host.Outcome.next heq, ?_, ?_, by simp, fun q hq => ?_, by simp, by simp, by simp⟩
    · rw [par_setPar_same]
      omega
    · rw [par_setPar_same]
      omega
    · rw [lane_setPar, lane_updLane_other _ _ hq]
  case trip =>
    have hf8 := Nat.lt_of_lt_of_le hf (ftCount_le p)
    have htripped : (tripJudged l e s).prt.tripped.getLsbD (8 * p.code + f) = true := eachFt_ftEval_tripped hf hnow
    obtain ⟨hclass, hports⟩ := ftClass_congr (par_tripJudged l e s (offCounts_act p hf8) (offGate_act p f))
    have hm' : (p, f) ∈ ftActing (tripJudged l e s) :=
      mem_ftActing hf htripped (by rw [tripJudged_st, hp]) (by rw [hclass]; exact hc)
    obtain ⟨-, -, hpermit, htrip⟩ := chopEval_frame (staticCheck (ftActs (tripJudged l e s)))
    refine ⟨_, execTripOutput_eq hi hm, ?_, ?_, fun h2 ha => ?_⟩
    · rw [hpermit, (staticCheck_gates _).1, (ftActs_gates _).1, ← hports]
      exact cutAll_permit hm'
    · rw [htrip, (staticCheck_gates _).2, (ftActs_gates _).2, htripped]
    · exact (ftActs_safe hm' hf8 (hclass.trans h2) (by rw [tripJudged_isl, hi]) (by rw [tripJudged_st, ha])).staticCheck.chopEval
  case stopped =>
    have hst' : ∀ p, poweredSt (lane s p).st = false := fun p => by
      simpa using List.all_eq_true.1 hst p (by cases p <;> decide)
    exact ⟨_, execTripOutput_eq hi hm, tripOutput_stopped hst'⟩
  case still => exact congrArg Host.Outcome.next (if_neg (by simp [hm, hh]))

end Sys2Proof.Machine
end

section
/-! PROOFS. Cuts, their acknowledgement and count, the steps of an ASC and the end of a forced ASC (R146, R147, R178, R179, R183).
Settles O44. -/

namespace Sys2Proof.Machine

/-! ## The output of a modulator -/

@[simp] theorem drivePlane_planes (p : Plane) (s : State) : (drivePlane p s).planes = s.planes := by simp [drivePlane]
@[simp] theorem drivePlane_time (p : Plane) (s : State) : (drivePlane p s).time = s.time := by simp [drivePlane]

@[simp] theorem settle_prt_cuts (b : Bool) (m : Ports) (s : State) : (settle b m s).prt.cuts = s.prt.cuts := by simp [settle]

@[simp] theorem refreshOut_planes (p : Plane) (s : State) : (refreshOut p s).planes = s.planes := by simp [refreshOut]
@[simp] theorem refreshOut_time (p : Plane) (s : State) : (refreshOut p s).time = s.time := by simp [refreshOut]
@[simp] theorem refreshOut_cuts (p : Plane) (s : State) : (refreshOut p s).prt.cuts = s.prt.cuts := by simp [refreshOut, drivePlane]
theorem par_refreshOut (p : Plane) (s : State) {j : Nat} (h : OffGate j) : par (refreshOut p s) j = par s j := by
  simp [refreshOut, par_drivePlane _ _ h]

/-- Of the modulator only the output at the pulse interface is renewed. -/
@[simp] theorem modr_refreshOut (p : Plane) (s : State) :
    modr (refreshOut p s) p = { modr s p with out := throughCut p s (modr s p).src } := by simp [refreshOut]

/-- Keeping the output writes the modulator's history and its end, and nothing else. -/
theorem keepUntil_eq (p : Plane) (x : Int) (s : State) :
    ∃ l y, keepUntil p x s = updMod p (fun m => { m with past := l, accTo := y }) s := by
  unfold keepUntil
  split
  · exact ⟨[], x, rfl⟩
  · exact ⟨_, max (modr s p).accTo x, rfl⟩

theorem keepTo_eq (p : Plane) (x : Nat) (s : State) :
    ∃ l y, keepTo p x s = updMod p (fun m => { m with past := l, accTo := y }) s := keepUntil_eq ..

/-! ## Cuts in ISL_CTL (R146) -/

/-- The one cut under way arrives: it is acknowledged, and the latch takes its ports when its tag names the period in force. -/
theorem cutArrival_view {p : Plane} {a : Nat} {c : Cut} {s : State} (hi : s.isl.ctl = true) (hh : s.isl.halted = false)
    (hc : s.prt.cuts = [c]) (hp : c.plane = p.code) (h1 : c.stage = 1) :
    (modr (cutArrival p a s) p).cut = (modr s p).cut ||| (if c.tag = (modr s p).bnd then ofPorts p c.ports else 0) ∧
      (cutArrival p a s).prt.cuts = [{ c with stage := 2 }] ∧ (cutArrival p a s).time = s.time ∧
      (cutArrival p a s).planes = s.planes := by
  obtain ⟨l, y, hk⟩ := keepTo_eq p a s
  unfold cutArrival
  rw [if_neg (by simp [hi, hh]), hk]
  split <;> simp [*]

/-! ## The acknowledgement in ISL_PRT (R146, R178) -/

/-- With the one cut acknowledged no other names its ports, so that they have their permission back, but for withdrawn legs. -/
theorem cutAck_view {p : Plane} {c : Cut} {s : State} (hc : s.prt.cuts = [c]) (hp : c.plane = p.code) (h2 : c.stage = 2) :
    (cutAck p s).prt.cuts = [] ∧ (cutAck p s).prt.permit = s.prt.permit ||| (c.ports &&& ~~~s.prt.legOff) ∧
      (cutAck p s).time = s.time ∧ (cutAck p s).planes = s.planes := by
  simp [cutAck, writePermit, hc, hp, h2, BitVec.and_assoc, -BitVec.reduceAllOnes]

/-! ## Boundary counts (R147) -/

/-- A boundary count with a cut of its period is noted, and PROT.x.CUT_CNT counts it. -/
def cutCounted (p : Plane) (s : State) : State :=
  count (protCutCnt p.code) (updPrt (fun r => { r with
    seen := r.seen.set p.code (modr s p).bnd, cutNow := r.cutNow &&& ~~~(1#4 <<< p.code) }) s)

/-- TRIP_RUN after one more period with a cut. -/
abbrev nextTripRun (p : Plane) (s : State) : Nat := min 255 (par s (protTripRun p.code) + 1)

theorem nextTripRun_mem (p : Plane) (s : State) : 0 < nextTripRun p s ∧ nextTripRun p s ≤ 255 := by simp only [nextTripRun]; omega

theorem boundaryCount_limit {p : Plane} {s : State} (hc : s.prt.cutNow.getLsbD p.code = true)
    (h : par s (protTripLimit p.code) ≤ nextTripRun p s) :
    boundaryCount p s = causeAt p 0x02 0 (setPar (protTripRun p.code) 0 (cutCounted p s)) := by
  unfold boundaryCount
  simp only [hc, if_true]
  exact if_pos ⟨h, (nextTripRun_mem p s).1.ne'⟩

theorem boundaryCount_below {p : Plane} {s : State} (hc : s.prt.cutNow.getLsbD p.code = true)
    (h : nextTripRun p s < par s (protTripLimit p.code)) :
    boundaryCount p s = setPar (protTripRun p.code) (nextTripRun p s) (cutCounted p s) := by
  unfold boundaryCount
  simp only [hc, if_true]
  exact if_neg fun hn => absurd hn.1 (Nat.not_le.2 h)

theorem par_cutCounted {p : Plane} {s : State} (h : par s (protCutCnt p.code) < 65535) :
    par (cutCounted p s) (protCutCnt p.code) = par s (protCutCnt p.code) + 1 := par_count _ _ h

theorem tripRun_ne_cutCnt (p : Plane) : protCutCnt p.code ≠ protTripRun p.code := by simp only [protCutCnt, protTripRun]; omega

/-- TRIP_RUN and CUT_CNT of a plane lie off what its entry into SAFE writes. -/
theorem offSafe_trip {p : Plane} {j : Nat} (h : j = protTripRun p.code ∨ j = protCutCnt p.code) : OffSafe p j := by
  have hp := code_lt p
  refine ⟨Or.inr ?_, ?_, ?_, ?_, ?_, ?_, Or.inr ?_⟩
  all_goals simp only [protTripRun, protCutCnt, protSafeCause, protSafeCnt, protBrkCtrl, sysEvtLostCnt, gfmState, modPsP] at h ⊢; omega

/-- At TRIP_LIMIT an active plane goes to SAFE with cause 0x02, and TRIP_RUN starts again. -/
theorem boundaryCount_safe {p : Plane} {s : State} (hc : s.prt.cutNow.getLsbD p.code = true) (hi : s.isl.prt = true)
    (ha : activeSt (lane s p).st = true) (hn : par s (protCutCnt p.code) < 65535)
    (h : par s (protTripLimit p.code) ≤ nextTripRun p s) :
    SafeWith p 0x02 (boundaryCount p s) ∧ par (boundaryCount p s) (protTripRun p.code) = 0 ∧
      par (boundaryCount p s) (protCutCnt p.code) = par s (protCutCnt p.code) + 1 := by
  rw [boundaryCount_limit hc h]
  refine ⟨causeAt_safe 0 (by decide) (by simpa [cutCounted] using hi) (by simpa [cutCounted] using ha), ?_, ?_⟩
  · rw [par_causeAt_other p _ _ _ (offSafe_trip (.inl rfl)), par_setPar_same, Nat.zero_mod]
  · rw [par_causeAt_other p _ _ _ (offSafe_trip (.inr rfl)), par_setPar_other _ _ (tripRun_ne_cutCnt p), par_cutCounted hn]

/-- Below TRIP_LIMIT the period is counted and no lane moves. -/
theorem boundaryCount_counts {p : Plane} {s : State} (hc : s.prt.cutNow.getLsbD p.code = true)
    (hn : par s (protCutCnt p.code) < 65535) (h : nextTripRun p s < par s (protTripLimit p.code)) :
    par (boundaryCount p s) (protTripRun p.code) = nextTripRun p s ∧
      par (boundaryCount p s) (protCutCnt p.code) = par s (protCutCnt p.code) + 1 ∧ (boundaryCount p s).planes = s.planes := by
  rw [boundaryCount_below hc h]
  refine ⟨?_, ?_, by simp [cutCounted]⟩
  · rw [par_setPar_same]
    exact Nat.mod_eq_of_lt (by have := (nextTripRun_mem p s).2; omega)
  · rw [par_setPar_other _ _ (tripRun_ne_cutCnt p), par_cutCounted hn]

/-! ## The steps of an ASC and the end of a forced ASC (R179, R183) -/

/-- The next step of a move into an ASC sets its ports to the pattern, with ENABLE 1. -/
theorem ascNext_step {m : Ports} {s : State} (hst : (lane s .m).st = .safe) (h0 : s.prt.ascStep ≠ 0)
    (hm : (ascSteps s (lane s .m).sub)[s.prt.ascStep]? = some m) :
    (ascNext s).prt.enable = s.prt.enable ||| m ∧
      (ascNext s).prt.pulse = (s.prt.pulse &&& ~~~m) ||| (ascPulse s (lane s .m).sub &&& m) ∧
      (ascNext s).planes = s.planes ∧ (ascNext s).time = s.time := by
  rw [ascNext, if_pos ⟨hst, h0⟩]
  simp [ascApply, hm]

/-- Without a step to come, or outside SAFE, there is none. -/
theorem ascNext_none {s : State} (h : s.prt.ascStep = 0 ∨ (lane s .m).st ≠ .safe) : ascNext s = s :=
  if_neg fun hn => h.elim hn.2 fun hs => hs hn.1

theorem forcedAscEnd_view {s : State} (hf : s.prt.forcedAsc = true) (hw : s.prt.ascWanted = false) :
    (forcedAscEnd s).prt.forcedAsc = false ∧ (∀ q, (lane (forcedAscEnd s) q).st = (lane s q).st) ∧
      (forcedAscEnd s).time = s.time := by
  rw [forcedAscEnd, if_pos (by simp [hf, hw])]
  exact ⟨by simp, fun q => by rw [rechoose_st, lane_updPrt], by simp⟩

/-- Settles O44: a cut that arrives, its acknowledgement and its count act as the one cut under way says; the steps of an ASC and
the end of a forced one change gates alone, and choose plane M's sub-state again. -/
theorem cutsAndAscSteps : Obligations.CutsAndAscSteps := by
  unfold Obligations.CutsAndAscSteps
  refine ⟨fun p a c s hi hh hc hp h1 => ?arrival, fun p c s hc hp h2 => ⟨_, rfl, cutAck_view hc hp h2⟩,
    fun p s hc hi ha hn => ⟨fun h => ?limit, fun h => ⟨_, rfl, boundaryCount_counts hc hn h⟩⟩,
    fun m s hst h0 hm => ⟨_, rfl, ascNext_step hst h0 hm⟩, fun s h => congrArg Host.Outcome.next (ascNext_none h),
    fun s hf hw => ⟨_, rfl, forcedAscEnd_view hf hw⟩⟩
  case arrival =>
    obtain ⟨hcut, hrest⟩ := cutArrival_view (a := a) hi hh hc hp h1
    exact ⟨fun ht => ⟨_, rfl, by rw [if_pos ht] at hcut; exact hcut, hrest⟩,
      fun ht => ⟨_, rfl, by rw [if_neg ht] at hcut; simpa using hcut, hrest⟩⟩
  case limit =>
    obtain ⟨⟨hst, hcause⟩, hrun, hcnt⟩ := boundaryCount_safe hc hi ha hn h
    exact ⟨_, rfl, hst, hcause, hrun, hcnt⟩

end Sys2Proof.Machine
end

section
/-! PROOFS. The carrier counter's turning points and feeder steps, and the mask steps of an encoder index (R133, R134, R137, R139, R143,
R150, R152). Settles O49. -/

namespace Sys2Proof.Machine

/-! ## Views of the counter and of the lanes -/

/-- Of a modulator, the counter's direction and its two sets. -/
structure CounterView where
  up : Bool
  armed : Bool
  seedWait : Bool
  active : PeriodSet
  shadow : PeriodSet

def counterView (m : Mod) : CounterView := ⟨m.up, m.armed, m.seedWait, m.active, m.shadow⟩

/-- The time bases and the planes' states. -/
def laneView (s : State) : Time × (Plane → PState) := (s.time, fun q => (lane s q).st)

theorem laneView_congr {s t : State} (h1 : t.planes = s.planes) (h2 : t.time = s.time) : laneView t = laneView s := by
  simp only [laneView, h2, lane_congr h1]

theorem laneView_eq {s t : State} (h : laneView t = laneView s) : t.time = s.time ∧ ∀ q, (lane t q).st = (lane s q).st :=
  ⟨congrArg Prod.fst h, fun q => congrFun (congrArg Prod.snd h) q⟩

@[simp] theorem laneView_updMod (p : Plane) (f : Mod → Mod) (s : State) : laneView (updMod p f s) = laneView s :=
  laneView_congr (by simp) (by simp)
@[simp] theorem laneView_setPar (id v : Nat) (s : State) : laneView (setPar id v s) = laneView s := rfl
@[simp] theorem laneView_count (id : Nat) (s : State) : laneView (count id s) = laneView s := rfl
@[simp] theorem laneView_raiseFlag (id b d : Nat) (s : State) : laneView (raiseFlag id b d s) = laneView s :=
  laneView_congr (by simp) (by simp)
@[simp] theorem laneView_refreshOut (p : Plane) (s : State) : laneView (refreshOut p s) = laneView s :=
  laneView_congr (by simp) (by simp)

@[simp] theorem laneView_modSticky (p : Plane) (b : Nat) (c : Option Nat) (s : State) : laneView (modSticky p b c s) = laneView s := by
  cases c <;> simp [modSticky]

@[simp] theorem modr_modSticky (p q : Plane) (b : Nat) (c : Option Nat) (s : State) : modr (modSticky p b c s) q = modr s q := by
  cases c <;> exact modr_congr (by simp [modSticky]) q

@[simp] theorem laneView_keepUntil (p : Plane) (x : Int) (s : State) : laneView (keepUntil p x s) = laneView s := by
  obtain ⟨l, y, h⟩ := keepUntil_eq p x s
  rw [h, laneView_updMod]

@[simp] theorem laneView_keepTo (p : Plane) (x : Nat) (s : State) : laneView (keepTo p x s) = laneView s := laneView_keepUntil ..

@[simp] theorem laneView_showCarrier (p : Plane) (x : Int) (s : State) : laneView (showCarrier p x s) = laneView s := by
  unfold showCarrier
  split <;> simp

/-- Showing the carrier's output writes the outputs of the mode source and of the modulator. -/
theorem modr_showCarrier (p : Plane) (x : Int) (s : State) :
    ∃ a b, modr (showCarrier p x s) p = { modr s p with src := a, out := b } := by
  unfold showCarrier
  split
  · exact ⟨patAt (modr s p) x, _, by rw [modr_refreshOut, modr_updMod_same]⟩
  · exact ⟨(modr s p).src, (modr s p).out, rfl⟩

/-- Neither the times, nor a plane's state, nor the direction and the sets of the counter change. -/
structure KeepsCounter (p : Plane) (s t : State) : Prop where
  lanes : laneView t = laneView s
  counter : counterView (modr t p) = counterView (modr s p)

theorem KeepsCounter.refl (p : Plane) (s : State) : KeepsCounter p s s := ⟨rfl, rfl⟩

theorem KeepsCounter.trans {p : Plane} {s t u : State} (h : KeepsCounter p s t) (h' : KeepsCounter p t u) : KeepsCounter p s u :=
  ⟨h'.lanes.trans h.lanes, h'.counter.trans h.counter⟩

theorem KeepsCounter.up {p : Plane} {s t : State} (h : KeepsCounter p s t) : (modr t p).up = (modr s p).up :=
  congrArg CounterView.up h.counter

theorem keepsCounter_updMod {f : Mod → Mod} (p : Plane) (s : State)
    (h : ∀ m, counterView (f m) = counterView m := by intro m; rfl) : KeepsCounter p s (updMod p f s) :=
  ⟨laneView_updMod .., by rw [modr_updMod_same, h]⟩

/-- What leaves the modulators alone keeps the counter. -/
theorem keepsCounter_of_modr {p : Plane} {s t : State} (hl : laneView t = laneView s) (hm : modr t p = modr s p) :
    KeepsCounter p s t := ⟨hl, by rw [hm]⟩

theorem showCarrier_keeps (p : Plane) (x : Int) (s : State) : KeepsCounter p s (showCarrier p x s) := by
  obtain ⟨a, b, h⟩ := modr_showCarrier p x s
  exact ⟨laneView_showCarrier p x s, by rw [h]; rfl⟩

/-! ## The stages of a turning point (R134, R137) -/

/-- The counter has turned, and at the end of a period the boundary count is written. -/
def afterTurn (p : Plane) (s : State) : State :=
  let t := nextTurn (modr s p)
  let s2 := updMod p turned (keepUntil p t s)
  if !(modr s p).up && (carrierOn s p || ((modr s p).seedWait && (lane s p).st == .running)) then endPeriod p t s2 else s2

/-- The exit at V, or what the reload takes. -/
def afterSets (p : Plane) (valley : Bool) (was : Pat) (w : RaceWrite) (s : State) : State :=
  if valley && (modr s p).seedWait then exitAtValley p s
  else if reloadTakes s p valley && !(modr s p).seedWait then rampCount p (reload p was w s) else s

/-- The carrier-aligned samples, the alignment, and the output that the carrier shows. -/
def afterShow (p : Plane) (bs : List Nat) (k : Nat) (valley : Bool) (t : Int) (s : State) : State :=
  showCarrier p t (if valley then alignValley p t (takeCas p bs k s) else takeCas p bs k s)

theorem turnEvent_eq (p : Plane) (bs : List Nat) (w : RaceWrite) (s : State) : turnEvent p bs true w s =
    afterShow p bs ((nextTurn (modr s p)).toNat / mdDiv s) (!(modr s p).up) (nextTurn (modr s p))
      (afterSets p (!(modr s p).up) (patAt (modr s p) (nextTurn (modr s p) - 1)) w (afterTurn p s)) := rfl

/-! ## The turn itself -/

theorem endPeriod_keeps (p : Plane) (x : Int) (s : State) : KeepsCounter p s (endPeriod p x s) := by
  unfold endPeriod
  split
  · exact .refl p s
  · exact keepsCounter_updMod p s

@[simp] theorem par_endPeriod (p : Plane) (x : Int) (s : State) (j : Nat) : par (endPeriod p x s) j = par s j := by
  unfold endPeriod
  split <;> simp

/-- The direction is reversed; the sets, the lanes and every parameter stay. -/
theorem afterTurn_view (p : Plane) (s : State) : laneView (afterTurn p s) = laneView s ∧
    counterView (modr (afterTurn p s) p) = { counterView (modr s p) with up := !(modr s p).up } ∧
    ∀ j, par (afterTurn p s) j = par s j := by
  obtain ⟨l, y, h⟩ := keepUntil_eq p (nextTurn (modr s p)) s
  simp only [afterTurn, h]
  split
  · exact ⟨by rw [(endPeriod_keeps ..).lanes]; simp, by rw [(endPeriod_keeps ..).counter]; simp [counterView, turned], by simp⟩
  · exact ⟨by simp, by simp [counterView, turned], by simp⟩

/-! ## The sets (R137, R139, R158) -/

theorem exitAtValley_up (p : Plane) (s : State) : laneView (exitAtValley p s) = laneView s ∧
    (modr (exitAtValley p s) p).up = (modr s p).up := by
  unfold exitAtValley
  split
  · exact ⟨by simp, by rw [modr_count, modr_updMod_same]; rfl⟩
  · exact ⟨rfl, rfl⟩

theorem rampCount_keeps (p : Plane) (s : State) : KeepsCounter p s (rampCount p s) := by
  unfold rampCount
  dsimp only
  split
  · split <;> exact keepsCounter_updMod p s
  · exact .refl p s

theorem turnSets_up (p : Plane) (gap : Nat) (takes : Bool) (was : Pat) (m : Mod) : (turnSets p gap takes was m).up = m.up := by
  unfold turnSets
  split
  · split <;> rfl
  · split <;> rfl

theorem turnSets_armed {p : Plane} {gap : Nat} {was : Pat} {m : Mod} (hw : m.seedWait = false) (ha : m.armed = true) :
    counterView (turnSets p gap true was m) = { counterView m with active := m.shadow, armed := false } := by
  rw [turnSets, if_neg (by simp [hw]), if_pos (by simp [ha])]
  rfl

theorem reload_up (p : Plane) (was : Pat) (w : RaceWrite) (s : State) : laneView (reload p was w s) = laneView s ∧
    (modr (reload p was w s) p).up = (modr s p).up := by
  unfold reload
  dsimp only
  repeat' split
  all_goals simp [turnSets_up]

/-- An armed shadow comes into force, disarmed (R139). -/
theorem reload_armed {p : Plane} {s : State} (was : Pat) (ha : (modr s p).armed = true) (hw : (modr s p).seedWait = false) :
    counterView (modr (reload p was .none s) p) = { counterView (modr s p) with active := (modr s p).shadow, armed := false } := by
  simp only [reload, ha, if_true]
  rw [if_neg (by decide), modr_updMod_same, turnSets_armed hw ha]

/-- Neither the exit nor a reload turns the counter or moves a lane. -/
theorem afterSets_up (p : Plane) (valley : Bool) (was : Pat) (w : RaceWrite) (s : State) :
    laneView (afterSets p valley was w s) = laneView s ∧ (modr (afterSets p valley was w s) p).up = (modr s p).up := by
  unfold afterSets
  split
  · exact exitAtValley_up p s
  · split
    · have hr := rampCount_keeps p (reload p was w s)
      exact (reload_up p was w s).imp hr.lanes.trans hr.up.trans
    · exact ⟨rfl, rfl⟩

/-- A turning point that RELOAD takes puts an armed shadow in force. -/
theorem afterSets_armed {p : Plane} {valley : Bool} {s : State} (was : Pat) (ha : (modr s p).armed = true)
    (hw : (modr s p).seedWait = false) (ht : reloadTakes s p valley = true) :
    counterView (modr (afterSets p valley was .none s) p) =
      { counterView (modr s p) with active := (modr s p).shadow, armed := false } := by
  rw [afterSets, if_neg (by simp [hw]), if_pos (by simp [ht, hw]), (rampCount_keeps ..).counter, reload_armed was ha hw]

/-! ## Samples, alignment and output (R80, R153, R154) -/

theorem laneView_casTaken (p : Plane) (s : State) : laneView (updLane p (fun l => { l with casTaken := true }) s) = laneView s := by
  refine Prod.ext (by simp [laneView]) (funext fun q => ?_)
  by_cases hq : q = p
  · simp [laneView, hq]
  · simp [laneView, lane_updLane_other _ _ hq]

theorem takeCas_keeps (p : Plane) (bs : List Nat) (k : Nat) (s : State) : KeepsCounter p s (takeCas p bs k s) := by
  unfold takeCas
  split
  · exact .refl p s
  · extract_lets osr ns s1
    have h1 : KeepsCounter p s s1 := by
      refine keepsCounter_of_modr (foldl_same laneView _ (fun u n => ?_) ns s) (foldl_same (modr · p) _ (fun u n => ?_) ns s)
      · rfl
      · exact modr_congr rfl p
    split
    · exact h1.trans (keepsCounter_of_modr (laneView_count ..) (modr_count ..))
    · exact h1.trans (keepsCounter_of_modr (laneView_casTaken p s1) (modr_updLane ..))

theorem loseAlign_keeps (p : Plane) (s : State) : KeepsCounter p s (loseAlign p s) := by
  unfold loseAlign
  split
  · exact (keepsCounter_updMod p s).trans (keepsCounter_of_modr (laneView_modSticky ..) (modr_modSticky ..))
  · exact .refl p s

theorem keepsCounter_setPar (p : Plane) (id v : Nat) (s : State) : KeepsCounter p s (setPar id v s) :=
  keepsCounter_of_modr (laneView_setPar ..) (modr_setPar ..)

theorem alignMark_keeps (p : Plane) (v k : Int) (s : State) : KeepsCounter p s (alignMark p v k s) := by
  unfold alignMark
  extract_lets e lim lead whole s1 s2 missed
  have h1 : KeepsCounter p s s1 := (keepsCounter_updMod p s).trans (keepsCounter_setPar ..)
  have h2 : KeepsCounter p s s2 := by
    unfold s2
    split
    · exact h1.trans (keepsCounter_setPar ..)
    · exact h1
  split
  · exact h2.trans (loseAlign_keeps p s2)
  · split
    · exact h2.trans (keepsCounter_updMod p s2)
    · exact h2

theorem alignValley_keeps (p : Plane) (v : Int) (s : State) : KeepsCounter p s (alignValley p v s) := by
  unfold alignValley
  dsimp only
  split
  · split
    · exact alignMark_keeps p v _ s
    · exact .refl p s
  · exact keepsCounter_updMod p s

theorem afterShow_keeps (p : Plane) (bs : List Nat) (k : Nat) (valley : Bool) (t : Int) (s : State) :
    KeepsCounter p s (afterShow p bs k valley t s) := by
  have hc := takeCas_keeps p bs k s
  unfold afterShow
  split
  · exact (hc.trans (alignValley_keeps ..)).trans (showCarrier_keeps ..)
  · exact hc.trans (showCarrier_keeps ..)

/-! ## Turning points (R134, R137, R139) -/

theorem reloadTakes_congr {s t : State} (h : ∀ j, par t j = par s j) (p : Plane) (v : Bool) : reloadTakes t p v = reloadTakes s p v := by
  rw [reloadTakes, reloadTakes, h]

theorem turnEvent_up (p : Plane) (bs : List Nat) (w : RaceWrite) (s : State) : laneView (turnEvent p bs true w s) = laneView s ∧
    (modr (turnEvent p bs true w s) p).up = !(modr s p).up := by
  obtain ⟨hl, hc, -⟩ := afterTurn_view p s
  refine ⟨by rw [turnEvent_eq, (afterShow_keeps ..).lanes, (afterSets_up ..).1, hl], ?_⟩
  rw [turnEvent_eq, (afterShow_keeps ..).up, (afterSets_up ..).2]
  exact congrArg CounterView.up hc

theorem turnEvent_armed {p : Plane} {s : State} (bs : List Nat) (ha : (modr s p).armed = true) (hw : (modr s p).seedWait = false)
    (ht : reloadTakes s p (!(modr s p).up) = true) :
    (modr (turnEvent p bs true .none s) p).active = (modr s p).shadow ∧ (modr (turnEvent p bs true .none s) p).armed = false := by
  obtain ⟨-, hc, hpar⟩ := afterTurn_view p s
  have harm : (modr (afterTurn p s) p).armed = true := (congrArg CounterView.armed hc).trans ha
  have hwait : (modr (afterTurn p s) p).seedWait = false := (congrArg CounterView.seedWait hc).trans hw
  have hshadow : (modr (afterTurn p s) p).shadow = (modr s p).shadow := congrArg CounterView.shadow hc
  have hview : counterView (modr (turnEvent p bs true .none s) p) =
      { counterView (modr (afterTurn p s) p) with active := (modr (afterTurn p s) p).shadow, armed := false } := by
    rw [turnEvent_eq, (afterShow_keeps ..).counter, afterSets_armed _ harm hwait ((reloadTakes_congr hpar p _).trans ht)]
  exact ⟨(congrArg CounterView.active hview).trans hshadow, congrArg CounterView.armed hview⟩

/-! ## Feeder steps (R143) -/

theorem feedEvent_none {p : Plane} {s : State} (h : firstStep (modr s p) = none) : feedEvent p s = s := by simp [feedEvent, h]

/-- The history of the output takes no part in a feeder step. -/
theorem feedStep_history (gap : Nat) (f : FeedStep) (m : Mod) (l : List (Pat × Nat)) (y : Int) :
    feedStep gap f { m with past := l, accTo := y } = { feedStep gap f m with past := l, accTo := y } := by
  unfold feedStep
  dsimp only
  split <;> rfl

theorem feedEvent_first {p : Plane} {f : FeedStep} {s : State} (h : firstStep (modr s p) = some f) :
    laneView (feedEvent p s) = laneView s ∧
      (modr (feedEvent p s) p).steps = (feedStep (par s (modFeedGap p.code)) f (modr s p)).steps ∧
      (modr (feedEvent p s) p).inUse = (feedStep (par s (modFeedGap p.code)) f (modr s p)).inUse := by
  obtain ⟨l, y, hk⟩ := keepUntil_eq p f.due s
  simp only [feedEvent, h]
  obtain ⟨a, b, hs⟩ := modr_showCarrier p f.due (updMod p (feedStep (par s (modFeedGap p.code)) f) (keepUntil p f.due s))
  refine ⟨by simp, ?_⟩
  rw [hs, modr_updMod_same, hk, modr_updMod_same, feedStep_history]
  exact ⟨rfl, rfl⟩

/-! ## Mask steps (R150) -/

/-- The parameters of a plane's mask: its control word and its pointer. -/
def maskView (p : Plane) (s : State) : Nat × Nat := (par s (modMaskCtrl p.code), par s (modMaskPtr p.code))

/-- An index edge of an encoder at one plane. -/
def indexAt (enc a : Nat) (s : State) (p : Plane) : State :=
  if maskSrc s p = 1 ∧ parBits s (modMaskCtrl p.code) 6 1 = enc then maskStep p a s else s

theorem encoderIndex_eq {enc a : Nat} {s : State} (hi : s.isl.ctl = true) (hh : s.isl.halted = false) :
    encoderIndex enc a s = allPlanes.foldl (indexAt enc a) s := if_neg (by simp [hi, hh])

theorem maskLen_le (s : State) (p : Plane) : maskLen s p ≤ 8 := by
  unfold maskLen parBits bits
  omega

theorem par_keepTo (p : Plane) (x : Nat) (s : State) (j : Nat) : par (keepTo p x s) j = par s j := by
  obtain ⟨l, y, h⟩ := keepTo_eq p x s
  rw [h, par_updMod]

theorem offGate_mask (p : Plane) : OffGate (modMaskCtrl p.code) ∧ OffGate (modMaskPtr p.code) := by
  have := code_lt p
  exact ⟨Or.inl (by simp only [modMaskCtrl]; omega), Or.inl (by simp only [modMaskPtr]; omega)⟩

@[simp] theorem laneView_indexAt (enc a : Nat) (s : State) (p : Plane) : laneView (indexAt enc a s p) = laneView s := by
  unfold indexAt maskStep
  split <;> simp

/-- A mask step advances the plane's own pointer, modulo L. -/
theorem par_maskStep (p : Plane) (a : Nat) (s : State) :
    par (maskStep p a s) (modMaskPtr p.code) = (par s (modMaskPtr p.code) + 1) % maskLen s p := by
  have hlen := maskLen_le s p
  have hlt : (par s (modMaskPtr p.code) + 1) % maskLen s p < maskLen s p := Nat.mod_lt _ (Nat.succ_pos _)
  rw [maskStep, par_refreshOut _ _ (offGate_mask p).2, par_setPar_same]
  exact Nat.mod_eq_of_lt (by omega)

theorem maskView_indexAt_other {p q : Plane} (enc a : Nat) (s : State) (h : q ≠ p) : maskView p (indexAt enc a s q) = maskView p s := by
  have hc := code_inj h
  unfold indexAt
  split
  · simp only [maskView, maskStep]
    rw [par_refreshOut _ _ (offGate_mask p).1, par_refreshOut _ _ (offGate_mask p).2,
      par_setPar_other _ _ (by simp only [modMaskCtrl, modMaskPtr]; omega), par_setPar_other _ _ (by simp only [modMaskPtr]; omega),
      par_keepTo, par_keepTo]
  · rfl

theorem maskView_foldl_indexAt {l : List Plane} {p : Plane} (enc a : Nat) (h : p ∉ l) (s : State) :
    maskView p (l.foldl (indexAt enc a) s) = maskView p s :=
  foldl_keeps_mem (P := fun u => maskView p u = maskView p s)
    (fun u _ hq hu => (maskView_indexAt_other enc a u (ne_of_mem_of_not_mem hq h)).trans hu) rfl

theorem allPlanes_split (p : Plane) : ∃ l r, allPlanes = l ++ p :: r ∧ p ∉ l ∧ p ∉ r := by
  cases p
  · exact ⟨[], [.m, .d, .b], by decide⟩
  · exact ⟨[.g], [.d, .b], by decide⟩
  · exact ⟨[.g, .m], [.b], by decide⟩
  · exact ⟨[.g, .m, .d], [], by decide⟩

/-- An index edge advances the pointer of each plane that INDEX and this encoder select; the steps of other planes do not reach it. -/
theorem encoderIndex_view {enc a : Nat} {p : Plane} {s : State} (hi : s.isl.ctl = true) (hh : s.isl.halted = false)
    (hsrc : maskSrc s p = 1) (henc : parBits s (modMaskCtrl p.code) 6 1 = enc) :
    par (encoderIndex enc a s) (modMaskPtr p.code) = (par s (modMaskPtr p.code) + 1) % maskLen s p ∧
      laneView (encoderIndex enc a s) = laneView s := by
  rw [encoderIndex_eq hi hh]
  refine ⟨?_, foldl_same laneView _ (laneView_indexAt enc a) _ _⟩
  obtain ⟨l, r, hlist, hl, hr⟩ := allPlanes_split p
  rw [hlist, List.foldl_append, List.foldl_cons]
  have hbefore := maskView_foldl_indexAt enc a hl s
  have hafter := maskView_foldl_indexAt enc a hr (indexAt enc a (l.foldl (indexAt enc a) s) p)
  obtain ⟨hctrl, hptr⟩ := Prod.mk.inj hbefore
  have hstep : indexAt enc a (l.foldl (indexAt enc a) s) p = maskStep p a (l.foldl (indexAt enc a) s) :=
    if_pos ⟨by rw [maskSrc, parBits, hctrl]; exact hsrc, by rw [parBits, hctrl]; exact henc⟩
  rw [(Prod.mk.inj hafter).2, hstep, par_maskStep, hptr, maskLen, maskLen, parBits, parBits, hctrl]

/-- Settles O49: a turning point turns the counter, reloads and shows its output in stages, of which only the first changes the
direction and only the second the sets; a mask step changes its own plane's pointer. -/
theorem countersFeedersAndMask : Obligations.CountersFeedersAndMask := by
  unfold Obligations.CountersFeedersAndMask
  refine ⟨fun p l s hr => ?turn, fun p s hr hn => ?idle, fun p f s hr hf => ?feed, fun p l w s hr => ?stopped,
    fun n a p s hn hi hh hsrc henc => ?index, fun n a s hh => ?halted⟩
  case turn =>
    obtain ⟨hl, hup⟩ := turnEvent_up p l .none s
    obtain ⟨htime, hst⟩ := laneView_eq hl
    exact ⟨_, congrArg Host.Outcome.next (if_pos hr), hup, htime, hst, turnEvent_armed l⟩
  case idle => exact congrArg Host.Outcome.next ((if_pos hr).trans (feedEvent_none hn))
  case feed =>
    obtain ⟨hl, hsteps, huse⟩ := feedEvent_first hf
    obtain ⟨htime, hst⟩ := laneView_eq hl
    exact ⟨_, congrArg Host.Outcome.next (if_pos hr), hsteps, huse, htime, hst⟩
  case stopped =>
    have hf : ¬ counterRuns p s = true := by simp [hr]
    exact ⟨congrArg Host.Outcome.next (if_neg hf), congrArg Host.Outcome.next (if_neg hf)⟩
  case index =>
    obtain ⟨hptr, hl⟩ := encoderIndex_view (a := a) hi hh hsrc henc
    obtain ⟨htime, hst⟩ := laneView_eq hl
    exact ⟨_, congrArg Host.Outcome.next (if_pos hn), hptr, htime, hst⟩
  case halted =>
    have hs : encoderIndex n a s = s := if_pos (by simp [hh])
    exact congrArg Host.Outcome.next (by simp [hs])

end Sys2Proof.Machine
end

section
/-! PROOFS. Alignment marks, carrier marks, group triggers and request pulses on the Yarrow bus (R153, R281, R309, R312). Settles O56. -/

namespace Sys2Proof.Machine

/-! ## Alignment marks (R281) -/

/-- The mark is stamped with the replica of T_NET and with T_BUS at its compensated instant. -/
def stamped (a : Rat) (s : State) : State :=
  updTime (fun t => { t with
    stamp := (repAt s 3 (markCycles a s)).floor.toNat, stampBus := busCount (masterAt s 5 (markCycles a s)) }) s

theorem alignmentMark_eq {a : Rat} {s : State} (h : onYbus s = true) :
    alignmentMark a s = crossCheck (pairCheck (yPos (stamped a s)) (stamped a s)) := if_neg (by simp [h])

theorem markStamps_alone {s : State} (h : s.red.descs = []) : markStamps s = [(yPos s, s.time.stamp)] := by simp [markStamps, h]

theorem markStamps_one {d : Desc} {s : State} (h : s.red.descs = [d]) (hm : absI ((d.mark : Int) - s.time.stampBus) < 5000000) :
    markStamps s = [(yPos s, s.time.stamp), (d.pos, d.stamp)] := by simp [markStamps, h, hm]

theorem pairCheck_alone {s : State} (h : s.red.descs = []) : pairCheck (yPos s) s = s := by simp [pairCheck, markStamps_alone h]

theorem crossCheck_alone {s : State} (h : s.red.descs = []) : crossCheck s = s := by simp [crossCheck, markStamps_alone h]

/-- A stamp of the same mark that differs by more than 250 ns raises TIME_XCHK for its pair. -/
theorem pairCheck_one {d : Desc} {s : State} (h : s.red.descs = [d]) (hm : absI ((d.mark : Int) - s.time.stampBus) < 5000000)
    (hp : d.pos ≠ yPos s) (hd : 250 < stampDiff s.time.stamp d.stamp) :
    pairCheck (yPos s) s = raiseFlag timeEvents 5 (yPos s + 256 * d.pos) s := by
  simp [pairCheck, markStamps_one h hm, hp, hd]

/-- Two stamps of a mark leave their difference in TIME.XCHK_ERR. -/
theorem crossCheck_one {d : Desc} {s : State} (h : s.red.descs = [d]) (hm : absI ((d.mark : Int) - s.time.stampBus) < 5000000) :
    crossCheck s = setPar timeXchkErr (min (2 ^ 32 - 1) (stampDiff s.time.stamp d.stamp)) s := by
  simp [crossCheck, markStamps_one h hm, pairsOf]

theorem pairCheck_frame (n : Nat) (s : State) : (pairCheck n s).planes = s.planes ∧ (pairCheck n s).prt = s.prt ∧
    (pairCheck n s).time = s.time := by
  unfold pairCheck
  dsimp only
  split
  · exact ⟨rfl, rfl, rfl⟩
  · exact ⟨foldl_same (·.planes) _ (fun _ _ => by simp) _ s, foldl_same (·.prt) _ (fun _ _ => by simp) _ s,
      foldl_same (·.time) _ (fun _ _ => by simp) _ s⟩

/-- The cross-check leaves the stamps, the lanes and the gates alone. -/
theorem crossCheck_frame (s : State) : (crossCheck s).planes = s.planes ∧ (crossCheck s).prt = s.prt ∧
    (crossCheck s).time.stamp = s.time.stamp ∧ (crossCheck s).time.stampBus = s.time.stampBus := by
  unfold crossCheck
  dsimp only
  repeat' split
  all_goals simp

theorem alignmentMark_frame {a : Rat} {s : State} (h : onYbus s = true) : (alignmentMark a s).planes = s.planes ∧
    (alignmentMark a s).prt = s.prt ∧ (alignmentMark a s).time.stamp = (stamped a s).time.stamp ∧
    (alignmentMark a s).time.stampBus = (stamped a s).time.stampBus := by
  rw [alignmentMark_eq h]
  obtain ⟨hpl, hprt, hst, hbus⟩ := crossCheck_frame (pairCheck (yPos (stamped a s)) (stamped a s))
  obtain ⟨hpl', hprt', htime⟩ := pairCheck_frame (yPos (stamped a s)) (stamped a s)
  exact ⟨hpl.trans hpl', hprt.trans hprt', hst.trans (by rw [htime]), hbus.trans (by rw [htime])⟩

theorem alignmentMark_alone {a : Rat} {s : State} (h : onYbus s = true) (hd : s.red.descs = []) :
    alignmentMark a s = stamped a s := by
  have hd' : (stamped a s).red.descs = [] := hd
  rw [alignmentMark_eq h, pairCheck_alone hd', crossCheck_alone hd']

/-- The one other member's stamp of this mark, more than 250 ns away, raises TIME_XCHK and shows the difference. -/
theorem alignmentMark_one {a : Rat} {d : Desc} {s : State} (h : onYbus s = true) (hd : s.red.descs = [d]) (hp : d.pos ≠ yPos s)
    (hm : absI ((d.mark : Int) - (stamped a s).time.stampBus) < 5000000)
    (hx : 250 < stampDiff (stamped a s).time.stamp d.stamp) :
    parBit (alignmentMark a s) timeEvents 5 = true ∧
      par (alignmentMark a s) timeXchkErr = min (2 ^ 32 - 1) (stampDiff (stamped a s).time.stamp d.stamp) := by
  have hpair : pairCheck (yPos (stamped a s)) (stamped a s) =
      raiseFlag timeEvents 5 (yPos (stamped a s) + 256 * d.pos) (stamped a s) := pairCheck_one hd hm hp hx
  have hcross := crossCheck_one (s := raiseFlag timeEvents 5 (yPos (stamped a s) + 256 * d.pos) (stamped a s)) (d := d)
    (by rw [raiseFlag_red]; exact hd) (by rw [raiseFlag_time]; exact hm)
  rw [alignmentMark_eq h, hpair, hcross, raiseFlag_time]
  refine ⟨?_, ?_⟩
  · rw [parBit_setPar_other _ _ _ (by decide)]
    exact parBit_raiseFlag _ _ _ _ (by decide) (by decide)
  · rw [par_setPar_same]
    exact Nat.mod_eq_of_lt (by omega)

/-! ## Carrier marks (R153) -/

/-- A mark as one modulator takes it, with the gap to the mark before. -/
def markAt (x : Int) (s : State) (p : Plane) : State :=
  updMod p (fun m => { m with mark := some x, markGap := match m.mark with | some k => (x - k).toNat | none => 0 }) s

theorem carrierMark_eq {x : Int} {s : State} (hi : s.isl.ctl = true) (hb : timeBad s = false) :
    carrierMark x s = allPlanes.foldl (markAt x) s := if_pos (by simp [hi, hb])

theorem markAt_same (x : Int) (s : State) (p : Plane) : (modr (markAt x s p) p).mark = some x := by
  rw [markAt, modr_updMod_same]

theorem markAt_keeps {x : Int} {p : Plane} {s : State} (q : Plane) (h : (modr s p).mark = some x) :
    (modr (markAt x s q) p).mark = some x := by
  by_cases hq : p = q
  · exact hq ▸ markAt_same x s p
  · rw [markAt, updMod, modr_setMod_other _ _ hq, h]

theorem carrierMark_view {x : Int} {s : State} (hi : s.isl.ctl = true) (hb : timeBad s = false) :
    (∀ p, (modr (carrierMark x s) p).mark = some x) ∧ (carrierMark x s).planes = s.planes ∧ (carrierMark x s).prt = s.prt ∧
      (carrierMark x s).params = s.params ∧ (carrierMark x s).red = s.red := by
  rw [carrierMark_eq hi hb]
  refine ⟨fun p => ?_, foldl_same (·.planes) _ (fun _ _ => by simp [markAt]) _ s, foldl_same (·.prt) (markAt x) (fun _ _ => rfl) _ s,
    foldl_same (·.params) (markAt x) (fun _ _ => rfl) _ s, foldl_same (·.red) (markAt x) (fun _ _ => rfl) _ s⟩
  exact foldl_reaches (Q := fun _ => True) (P := fun u => (modr u p).mark = some x) (g := markAt x) (x := p)
    (fun u _ => markAt_same x u p) (fun _ _ _ _ => trivial)
    (fun _ q _ hu => markAt_keeps q hu) (by cases p <;> decide) trivial

/-- An ILV action at its mark writes parameters and publishes its verdict; modulators, lanes and gates stay. -/
theorem ilvAtMark_frame (s : State) : (ilvAtMark s).mods = s.mods ∧ (ilvAtMark s).planes = s.planes ∧ (ilvAtMark s).prt = s.prt := by
  unfold ilvAtMark
  split
  · split
    · simp only [complete_mods, complete_planes, complete_prt, updRed_mods, updRed_planes, updRed_prt, showVerdict]
      exact ⟨foldl_same (·.mods) _ (by intros; rfl) _ s, foldl_same (·.planes) _ (by intros; rfl) _ s,
        foldl_same (·.prt) _ (by intros; rfl) _ s⟩
    · exact ⟨rfl, rfl, rfl⟩
  · exact ⟨rfl, rfl, rfl⟩

theorem ilvAtMark_idle {s : State} (h : s.red.act = none) : ilvAtMark s = s := by simp [ilvAtMark, h]

/-! ## Group triggers and request pulses (R309, R312) -/

/-- A pulse of the nominal width of a position on the chain names that position. -/
theorem originOf_width {o n : Nat} (h16 : o < 16) (hn : o < n) : originOf (50 * (o + 1)) n = some o := by
  unfold originOf
  refine List.find?_range_eq_some.2 ⟨decide_eq_true ?_, List.mem_range.2 (by omega), fun j hj => ?_⟩
  · unfold absI
    split <;> omega
  · have hfar : 10 < absI (50 * ((o : Int) + 1) - 50 * (j + 1)) := by
      unfold absI
      split <;> omega
    simpa using hfar

theorem groupTrigger_origin {tr : Rat} {o : Nat} {s : State} (h : onYbus s = true) (h6 : parBit s ybusStatus 6 = false)
    (h5 : parBit s ybusStatus 5 = true) (h16 : o < 16) (hn : o < s.ybus.d.length) :
    groupTrigger tr (50 * (o + 1)) s = updYbus (fun y => { y with
      edge := some tr, apply := y.apply ++ [(applyAt s tr (some o), 0)], trig := applyAt s tr (some o) }) s := by
  have hreq : ¬ absI (((50 * (o + 1) : Nat) : Int) - 1000) ≤ 10 := by
    unfold absI
    split <;> omega
  unfold groupTrigger
  rw [if_neg (by simp [h])]
  dsimp only
  rw [if_neg hreq, if_neg (by simp [h6, h5]), originOf_width h16 hn]
  rfl

theorem groupTrigger_request {tr : Rat} {s : State} (h : onYbus s = true) :
    groupTrigger tr 1000 s = raiseFlag ybusEvents 3 0 (updYbus (fun y => { y with edge := some tr }) s) := by
  rw [groupTrigger, if_neg (by simp [h])]
  exact if_pos (by decide)

/-- Off the bus neither a mark nor a pulse has an effect. -/
theorem offYbus_unchanged {s : State} (h : onYbus s = false) : (∀ a, alignmentMark a s = s) ∧ ∀ tr n, groupTrigger tr n s = s :=
  ⟨fun _ => if_pos (by simp [h]), fun _ _ => if_pos (by simp [h])⟩

/-- Settles O56: a mark is stamped, and only another member's stamp of it can raise a flag; a carrier mark reaches each modulator
in turn; a pulse names its origin by its width, or is a request. -/
theorem marksAndTriggersOnTheBus : Obligations.MarksAndTriggersOnTheBus := by
  unfold Obligations.MarksAndTriggersOnTheBus
  refine ⟨fun m f a s ha h => ?mark, fun x s hi hb => ?carrier, fun tr o s h h6 h5 h16 hn => ?trigger, fun tr s h => ?request,
    fun m a n s h => ?off⟩
  case mark =>
    subst ha
    obtain ⟨hpl, hprt, hst, hbus⟩ := alignmentMark_frame (a := m + f) h
    refine ⟨_, rfl, hst, hbus, hpl, hprt, fun hd => ?_, fun d hd hp hm hx => ?_⟩
    · rw [alignmentMark_alone h hd]
      exact ⟨rfl, rfl⟩
    · rw [hbus] at hm
      rw [hst] at hx ⊢
      exact alignmentMark_one h hd hp hm hx
  case carrier =>
    obtain ⟨hmark, hpl, hprt, hpar, hred⟩ := carrierMark_view (x := x) hi hb
    obtain ⟨hmods, hpl', hprt'⟩ := ilvAtMark_frame (carrierMark x s)
    refine ⟨_, rfl, fun p => (congrArg Mod.mark (modr_congr hmods p)).trans (hmark p), hpl'.trans hpl, hprt'.trans hprt, fun hn => ?_⟩
    rw [ilvAtMark_idle (by rw [hred, hn]), hpar]
  case trigger =>
    exact ⟨_, congrArg Host.Outcome.next (groupTrigger_origin h h6 h5 h16 hn), rfl, rfl, rfl, rfl⟩
  case request =>
    refine ⟨_, congrArg Host.Outcome.next (groupTrigger_request h), parBit_raiseFlag _ _ _ _ (by decide) (by decide), ?_, ?_⟩
    · rw [raiseFlag_ybus]
      rfl
    · rw [raiseFlag_planes]
      rfl
  case off =>
    obtain ⟨hmark, htrigger⟩ := offYbus_unchanged h
    exact ⟨congrArg Host.Outcome.next (hmark _), congrArg Host.Outcome.next (htrigger a n)⟩

end Sys2Proof.Machine
end

section
/-! PROOFS. What leaves the registers of ISL_PRT as they were: one frame lemma for each function of the model that does not touch the
gate blocks. -/

namespace Sys2Proof.Machine
open Sys2Proof

@[simp] theorem foldl_prt {α : Type} {f : State → α → State} (h : ∀ s x, (f s x).prt = s.prt) (l : List α) (s : State) :
    (l.foldl f s).prt = s.prt := foldl_same (·.prt) f h l s

@[simp] theorem ite_prt {c : Prop} [Decidable c] (a b : State) : (if c then a else b).prt = if c then a.prt else b.prt := by
  split <;> rfl

@[simp] theorem ite_fst_prt {α : Type} {c : Prop} [Decidable c] (a b : State × α) :
    (if c then a else b).1.prt = if c then a.1.prt else b.1.prt := by split <;> rfl

theorem foldl_fst_prt {α β : Type} {f : State × β → α → State × β} (h : ∀ a x, (f a x).1.prt = a.1.prt) (l : List α)
    (a : State × β) :
    (l.foldl f a).1.prt = a.1.prt := by
  induction l generalizing a with
  | nil => rfl
  | cons x t ih => exact (ih _).trans (h a x)

/-! ## Counters and resets of the islands -/

@[simp] theorem countN_prt (id k : Nat) (s : State) : (countN id k s).prt = s.prt := by
  induction k generalizing s with
  | zero => rfl
  | succ k ih => simp [countN, ih]

@[simp] theorem leaveReset_prt (s : State) : (leaveReset s).prt = s.prt := by
  unfold leaveReset
  repeat' split
  all_goals simp

@[simp] theorem colClear_prt (cs : List Nat) (s : State) : (colClear cs s).prt = s.prt := rfl
@[simp] theorem flushLate_prt (keep : Nat → Bool) (s : State) : (flushLate keep s).prt = s.prt := by
  refine (foldl_prt (fun s x => ?_) _ _).trans (updHost_prt ..)
  repeat' split
  all_goals simp

/-! ## Protection -/

@[simp] theorem gatePwrHigh_prt (n mw : Nat) (s : State) : (gatePwrHigh n mw s).prt = s.prt := by
  obtain ⟨-, hprt, -⟩ := gatePwrHigh_frame n mw s
  exact hprt

@[simp] theorem splitCheck_prt (s : State) : (splitCheck s).prt = s.prt := by simp [splitCheck]

/-! ## Measurement -/

@[simp] theorem recCount_prt (div : Nat) (s : State) : (recCount div s).prt = s.prt := rfl
@[simp] theorem strobeMeas_prt (len div : Nat) (bs : List Nat) (s : State) : (strobeMeas len div bs s).prt = s.prt := by
  simp [strobeMeas]

@[simp] theorem startMdclk_prt (s : State) : (startMdclk s).prt = s.prt := by simp [startMdclk]
@[simp] theorem ctlLoss_prt (n : Nat) (at' : Int) (k : Loss) (s : State) : (ctlLoss n at' k s).prt = s.prt := by simp [ctlLoss]
@[simp] theorem clkFault_prt (n : Nat) (at' : Int) (faulty : Bool) (s : State) : (clkFault n at' faulty s).prt = s.prt := by
  simp [clkFault]

@[simp] theorem streamValid_keeps_prt (n : Nat) (inPrt : Bool) (s : State) : (streamValid n inPrt s).prt = s.prt := by
  simp [streamValid]

@[simp] theorem skewAuto_prt (n : Nat) (up : Bool) (s : State) : (skewAuto n up s).prt = s.prt := by
  unfold skewAuto
  dsimp only
  repeat' split
  all_goals simp

@[simp] theorem meterOutput_prt (bs : List Nat) (s : State) : (meterOutput bs s).prt = s.prt := by
  obtain ⟨-, hprt, -⟩ := meterOutput_frame bs s
  exact hprt

@[simp] theorem meterCycle_prt (s : State) : (meterCycle s).prt = s.prt := by simp [meterCycle]

/-! ## The Region Gain Table -/

@[simp] theorem setBad_prt (t : Nat) (on : Bool) (s : State) : (setBad t on s).prt = s.prt := by simp [setBad]
@[simp] theorem evict_prt (t : Nat) (s : State) : (evict t s).prt = s.prt := foldl_prt (fun _ _ => updLane_prt ..) _ s
@[simp] theorem tileFails_prt (t : Nat) (s : State) : (tileFails t s).prt = s.prt := by simp [tileFails]
@[simp] theorem takeEntry_prt (p : Plane) (e : Entry) (sre : Bool) (s : State) : (takeEntry p e sre s).prt = s.prt := by
  simp [takeEntry]

@[simp] theorem regionLookup_prt (p : Plane) (s : State) : (regionLookup p s).prt = s.prt := by simp [regionLookup]
@[simp] theorem scrub_prt (s : State) : (scrub s).prt = s.prt := by unfold scrub; split <;> simp

/-! ## Modulators -/

@[simp] theorem keepUntil_prt (p : Plane) (x : Int) (s : State) : (keepUntil p x s).prt = s.prt := by simp [keepUntil]
@[simp] theorem modSticky_prt (p : Plane) (bit : Nat) (cnt : Option Nat) (s : State) : (modSticky p bit cnt s).prt = s.prt := by
  unfold modSticky
  split <;> simp

@[simp] theorem reload_prt (p : Plane) (was : Pat) (w : RaceWrite) (s : State) : (reload p was w s).prt = s.prt := by
  simp [reload]

@[simp] theorem endPeriod_prt (p : Plane) (x : Int) (s : State) : (endPeriod p x s).prt = s.prt := by simp [endPeriod]
@[simp] theorem clearCas_prt (p : Plane) (s : State) : (clearCas p s).prt = s.prt := foldl_prt (fun _ _ => updMport_prt ..) _ s
@[simp] theorem takeCas_prt (p : Plane) (bs : List Nat) (k : Nat) (s : State) : (takeCas p bs k s).prt = s.prt := by
  unfold takeCas
  dsimp only
  repeat' split
  case isTrue => rfl
  all_goals
    simp only [count_prt, updLane_prt]
    exact foldl_prt (fun _ _ => updMport_prt ..) _ s

@[simp] theorem exitAtValley_prt (p : Plane) (s : State) : (exitAtValley p s).prt = s.prt := by simp [exitAtValley]
@[simp] theorem rampCount_prt (p : Plane) (s : State) : (rampCount p s).prt = s.prt := by simp [rampCount]
@[simp] theorem keepTo_prt (p : Plane) (x : Nat) (s : State) : (keepTo p x s).prt = s.prt := by simp [keepTo]

/-! ## Clocks -/

@[simp] theorem setPllm_prt (st ref : Nat) (s : State) : (setPllm st ref s).prt = s.prt := by simp [setPllm]
@[simp] theorem enterHoldover_prt (s : State) : (enterHoldover s).prt = s.prt := by simp [enterHoldover]
@[simp] theorem relock_prt (ref : Nat) (s : State) : (relock ref s).prt = s.prt := by simp [relock]
@[simp] theorem clkHoldover_prt (s : State) : (clkHoldover s).prt = s.prt := by simp [clkHoldover]
@[simp] theorem refQualified_prt (alt : Bool) (s : State) : (refQualified alt s).prt = s.prt := by simp [refQualified]
@[simp] theorem clkAltUsed_prt (s : State) : (clkAltUsed s).prt = s.prt := by simp [clkAltUsed]
@[simp] theorem refSelWritten_prt (s : State) : (refSelWritten s).prt = s.prt := by simp [refSelWritten]
@[simp] theorem refAltWritten_prt (old v : Nat) (s : State) : (refAltWritten old v s).prt = s.prt := by simp [refAltWritten]
@[simp] theorem refModeWritten_prt (s : State) : (refModeWritten s).prt = s.prt := by simp [refModeWritten]
@[simp] theorem clkFallback_prt (s : State) : (clkFallback s).prt = s.prt := by simp [clkFallback]
@[simp] theorem clkReturn_prt (s : State) : (clkReturn s).prt = s.prt := by simp [clkReturn]
@[simp] theorem disqualify_prt (w : FreqWin) (s : State) : (disqualify w s).prt = s.prt := by simp [disqualify]
@[simp] theorem phaseStepApply_prt (s : State) : (phaseStepApply s).prt = s.prt := by
  unfold phaseStepApply
  dsimp only
  split
  · rfl
  · exact foldl_prt (fun s p => updMod_prt ..) _ _

@[simp] theorem replicaRealign_prt (found : List Rat) (s : State) : (replicaRealign found s).prt = s.prt := rfl
@[simp] theorem advanceBases_prt (c : Rat) (s : State) : (advanceBases c s).prt = s.prt := rfl
@[simp] theorem advanceTime_prt (s : State) : (advanceTime s).prt = s.prt := by simp [advanceTime]
@[simp] theorem nextIndex_prt (s : State) : (nextIndex s).prt = s.prt := by simp [nextIndex]
@[simp] theorem advanceGrid_prt (s : State) : (advanceGrid s).prt = s.prt := by simp [advanceGrid]

/-! ## Carrier counters -/

@[simp] theorem loseAlign_prt (p : Plane) (s : State) : (loseAlign p s).prt = s.prt := by simp [loseAlign]
@[simp] theorem alignMark_prt (p : Plane) (valley mark : Int) (s : State) : (alignMark p valley mark s).prt = s.prt := by
  simp [alignMark]

@[simp] theorem alignValley_prt (p : Plane) (valley : Int) (s : State) : (alignValley p valley s).prt = s.prt := by
  unfold alignValley
  dsimp only
  repeat' split
  all_goals simp

@[simp] theorem carrierMark_prt (at' : Int) (s : State) : (carrierMark at' s).prt = s.prt := by
  unfold carrierMark
  split
  · exact foldl_prt (fun s p => updMod_prt ..) _ s
  · rfl

@[simp] theorem maskSector_prt (p : Plane) (s : State) : (maskSector p s).prt = s.prt := by simp [maskSector]
@[simp] theorem maskApply_prt (p : Plane) (s : State) : (maskApply p s).prt = s.prt := by unfold maskApply; split <;> simp
@[simp] theorem debugHalt_prt (s : State) : (debugHalt s).prt = s.prt := by simp [debugHalt]

/-! ## Lanes -/

@[simp] theorem dropLegs_prt (s : State) : (dropLegs s).prt = s.prt := by simp [dropLegs]
@[simp] theorem noteRecon_prt (s : State) : (noteRecon s).prt = s.prt := by
  unfold noteRecon
  dsimp only
  repeat' split
  all_goals simp

@[simp] theorem laneRegion_prt (p : Plane) (s : State) : (laneRegion p s).prt = s.prt := by simp [laneRegion]

/-! ## Service of a command -/

@[simp] theorem turnAway_prt (cls op : Nat) (e : Env) (st : Nat) (s : State) : (turnAway cls op e st s).prt = s.prt := by
  simp [turnAway]

theorem serveSeq_keeps {P : Prt → Prop} {cls op : Nat} {e : Env} {needs : State → Bool} {body : Nat → State → State × Ans}
    (hb : ∀ n s, P s.prt → P (body n s).1.prt) {s : State} (h : P s.prt) :
    P (serveSeq cls op e needs body s).prt := by
  unfold serveSeq
  dsimp only
  have hr : P (if runStatus op (acceptSeq e s) = stOk then body (nextHandle (acceptSeq e s)) (acceptSeq e s)
      else (acceptSeq e s, say (runStatus op (acceptSeq e s)))).1.prt := by
    split
    · exact hb _ _ (by simpa using h)
    · simpa using h
  repeat' split
  all_goals simp_all

@[simp] theorem serveSeq_prt {cls op : Nat} {e : Env} {needs : State → Bool} {body : Nat → State → State × Ans} (hb : ∀ n s,
    (body n s).1.prt = s.prt) (s : State) :
    (serveSeq cls op e needs body s).prt = s.prt := serveSeq_keeps (P := (· = s.prt)) (fun n t h => (hb n t).trans h) rfl

theorem serve_keeps {P : Prt → Prop} {cls op : Nat} {e : Env} {flags : Nat} {needs : State → Bool}
    {body : Nat → State → State × Ans} (hb : ∀ n s, P s.prt → P (body n s).1.prt) {s : State} (h : P s.prt) :
    P (serve cls op e flags needs body s).prt := by
  unfold serve
  repeat' split
  case isFalse.isFalse.isFalse => exact serveSeq_keeps hb h
  all_goals simpa using h

@[simp] theorem serve_prt {cls op : Nat} {e : Env} {flags : Nat} {needs : State → Bool} {body : Nat → State → State × Ans}
    (hb : ∀ n s, (body n s).1.prt = s.prt) (s : State) :
    (serve cls op e flags needs body s).prt = s.prt := serve_keeps (P := (· = s.prt)) (fun n t h => (hb n t).trans h) rfl

theorem withLength_keeps {P : Prt → Prop} {ok : Bool} {cls op : Nat} {e : Env} {f : State → State} (hf : ∀ s, P s.prt → P
    (f s).prt) {s : State} (h : P s.prt) :
    P (withLength ok cls op e f s).prt := by
  unfold withLength
  split
  · simpa using h
  · exact hf s h

@[simp] theorem withLength_prt {ok : Bool} {cls op : Nat} {e : Env} {f : State → State} (hf : ∀ s, (f s).prt = s.prt)
    (s : State) :
    (withLength ok cls op e f s).prt = s.prt := withLength_keeps (P := (· = s.prt)) (fun t h => (hf t).trans h) rfl

@[simp] theorem serveShort_prt {cls op : Nat} {e : Env} {body : State → State × Ans} (hb : ∀ s, (body s).1.prt = s.prt)
    (s : State) :
    (serveShort cls op e body s).prt = s.prt := serve_prt (fun _ => hb) s

@[simp] theorem serveLong_prt {cls op : Nat} {e : Env} {body : Nat → State → State × Ans} (hb : ∀ n s,
    (body n s).1.prt = s.prt) (s : State) :
    (serveLong cls op e body s).prt = s.prt := serve_prt hb s

@[simp] theorem accepted_prt {op : Nat} {e : Env} {work : State → State} (hw : ∀ s, (work s).prt = s.prt) (s : State) :
    (accepted op e work s).1.prt = s.prt := by simp [accepted, hw]

@[simp] theorem refuse_prt (st : Nat) (s : State) : (refuse st s).1.prt = s.prt := rfl
@[simp] theorem done_prt {f : State → State} (hf : ∀ s, (f s).prt = s.prt) (s : State) : (done f s).1.prt = s.prt := hf s

/-! ## Acquisition -/

@[simp] theorem updSlot_prt (n : Nat) (f : Slot → Slot) (s : State) : (updSlot n f s).prt = s.prt := by simp [updSlot]
@[simp] theorem fillSlot_prt (n : Nat) (s : State) : (fillSlot n s).prt = s.prt := by simp [fillSlot]
@[simp] theorem nextRecord_prt (s : State) : (nextRecord s).prt = s.prt := by
  unfold nextRecord
  repeat' split
  all_goals simp

@[simp] theorem closeRecord_prt (status : Nat) (s : State) : (closeRecord status s).prt = s.prt := by
  unfold closeRecord
  split <;> simp

@[simp] theorem recordClose_prt (s : State) : (recordClose s).prt = s.prt := by simp [recordClose]
@[simp] theorem startCapture_prt (s : State) : (startCapture s).prt = s.prt := by simp [startCapture]
@[simp] theorem stopCapture_prt (s : State) : (stopCapture s).prt = s.prt := by simp [stopCapture]
@[simp] theorem storeBundle_prt (b : Bundle) (s : State) : (storeBundle b s).prt = s.prt := by unfold storeBundle; split <;> simp
@[simp] theorem startPost_prt (n mask : Nat) (s : State) : (startPost n mask s).prt = s.prt := by simp [startPost]
@[simp] theorem takeTrigger_prt (mask : Nat) (s : State) : (takeTrigger mask s).prt = s.prt := by
  unfold takeTrigger
  repeat' split
  all_goals simp

@[simp] theorem groupFire_prt (u : Nat) (s : State) : (groupFire u s).1.prt = s.prt := by unfold groupFire; split <;> simp
@[simp] theorem fireUnits_prt (us : List Nat) (s : State) : (fireUnits us s).prt = s.prt := by
  unfold fireUnits
  dsimp only
  rw [takeTrigger_prt]
  refine foldl_fst_prt (fun a u => ?_) _ _
  split <;> simp

@[simp] theorem fireKind_prt (kind : Nat) (sel : Nat → Bool) (s : State) : (fireKind kind sel s).prt = s.prt := by simp [fireKind]
@[simp] theorem evalUnits_prt (s : State) : (evalUnits s).prt = s.prt := by simp [evalUnits]
@[simp] theorem captureBundle_prt (s : State) : (captureBundle s).prt = s.prt := by simp [captureBundle]
@[simp] theorem noteDiscontinuity_prt (step : Int) (s : State) : (noteDiscontinuity step s).prt = s.prt := by
  unfold noteDiscontinuity
  split <;> simp

@[simp] theorem slowStream_prt (s : State) : (slowStream s).prt = s.prt := by simp [slowStream]

/-! ## Replay and records -/

@[simp] theorem holdSlot_prt (n : Nat) (up : Bool) (s : State) : (holdSlot n up s).prt = s.prt := by simp [holdSlot]
@[simp] theorem armReplay_prt (h : Nat) (s : State) : (armReplay h s).prt = s.prt := by simp [armReplay]
@[simp] theorem replayTileBad_prt (tile : Nat) (s : State) : (replayTileBad tile s).prt = s.prt := by
  unfold replayTileBad
  split <;> simp

@[simp] theorem replayEnds_prt (r : RpEnd) (s : State) : (replayEnds r s).prt = s.prt := by unfold replayEnds; split <;> simp
@[simp] theorem playSample_prt (s : State) : (playSample s).prt = s.prt := rfl
@[simp] theorem replayStrobe_prt (s : State) : (replayStrobe s).prt = s.prt := by simp [replayStrobe]
@[simp] theorem replayComparator_prt (tc : Nat) (s : State) : (replayComparator tc s).prt = s.prt := by simp [replayComparator]
@[simp] theorem injectCheck_prt (s : State) : (injectCheck s).prt = s.prt := by simp [injectCheck]
@[simp] theorem endRead_prt (o : ReadOp) (st cause : Nat) (s : State) : (endRead o st cause s).prt = s.prt := by
  unfold endRead
  split <;> simp

@[simp] theorem bulkData_prt (bad : Bool) (s : State) : (bulkData bad s).prt = s.prt := by
  unfold bulkData
  dsimp only
  repeat' split
  all_goals simp

@[simp] theorem releaseSlot_prt (n : Nat) (s : State) : (releaseSlot n s).prt = s.prt := by
  unfold releaseSlot
  dsimp only
  split <;> simp

@[simp] theorem archiveComplete_prt (s : State) : (archiveComplete s).prt = s.prt := by unfold archiveComplete; split <;> simp
@[simp] theorem endLoad_prt (o : LoadOp) (st cause : Nat) (slot : Slot) (s : State) : (endLoad o st cause slot s).prt = s.prt := by
  simp [endLoad]

@[simp] theorem replayData_prt (e : Env) (p : DataPay) (s : State) : (replayData e p s).1.prt = s.prt := by
  unfold replayData
  repeat' split
  all_goals simp

/-! ## Network time and the Ethernet ports -/

@[simp] theorem latchBases_prt (s : State) : (latchBases s).prt = s.prt := by simp [latchBases]
@[simp] theorem atTime_prt {f : State → State} (hf : ∀ s, (f s).prt = s.prt) (c : Rat) (s : State) :
    (atTime c f s).prt = s.prt := by
  simp [atTime, hf]

@[simp] theorem driveMarks_prt (n : Nat) (s : State) : (driveMarks n s).prt = s.prt := by simp [driveMarks]
@[simp] theorem updEth_prt (n : Nat) (f : Eth → Eth) (s : State) : (updEth n f s).prt = s.prt := by simp [updEth]
@[simp] theorem dropQueues_prt (n : Nat) (q : Nat → Bool) (s : State) : (dropQueues n q s).prt = s.prt := by simp [dropQueues]
@[simp] theorem queueFrame_prt (n q : Nat) (f : Frame) (s : State) : (queueFrame n q f s).prt = s.prt := by simp [queueFrame]
@[simp] theorem frameForward_prt (n : Nat) (pcp : Option Nat) (bytes : List Byte) (s : State) :
    (frameForward n pcp bytes s).prt = s.prt := by simp [frameForward]

@[simp] theorem sendHead_prt (n q : Nat) (f : Frame) (s : State) : (sendHead n q f s).prt = s.prt := by
  unfold sendHead
  cases f.ptp with
  | some k => dsimp only; split <;> simp
  | none => cases f.handle <;> simp

@[simp] theorem discardHead_prt (n q : Nat) (f : Frame) (s : State) : (discardHead n q f s).prt = s.prt := by
  unfold discardHead
  split <;> simp

@[simp] theorem serveQueue_prt (n dt q : Nat) (guard : Option Nat) (k : Nat) (s : State) :
    (serveQueue n dt q guard k s).1.prt = s.prt := by
  induction k generalizing s with
  | zero => rfl
  | succ k ih =>
    unfold serveQueue
    dsimp only
    repeat' split
    all_goals simp [ih]

@[simp] theorem servePort_prt (n dt : Nat) (s : State) : (servePort n dt s).prt = s.prt := by
  unfold servePort
  split
  · rfl
  · refine foldl_fst_prt (fun a q => ?_) _ _
    split <;> simp

@[simp] theorem stepQueue_prt (n q k : Nat) (a : State × Bool) : (stepQueue n q k a).1.prt = a.1.prt := by
  induction k generalizing a with
  | zero => rfl
  | succ k ih =>
    unfold stepQueue
    dsimp only
    repeat' split
    all_goals simp [ih]

@[simp] theorem stepFrames_prt (n : Nat) (s : State) : (stepFrames n s).prt = s.prt := by
  unfold stepFrames
  split
  · rfl
  · exact foldl_fst_prt (fun a q => stepQueue_prt ..) _ _

@[simp] theorem ptpForward_prt (n : Nat) (m : PtpMsg) (res : Int) (s : State) : (ptpForward n m res s).prt = s.prt := by
  unfold ptpForward
  repeat' split
  all_goals simp

@[simp] theorem ptpTick_prt (s : State) : (ptpTick s).prt = s.prt := by
  unfold ptpTick
  extract_lets s1 w
  have h1 : s1.prt = s.prt := by
    unfold s1
    split
    · rfl
    · exact foldl_prt (fun s n => foldl_prt (fun s k => queueFrame_prt ..) _ s) _ _
  split
  · rfl
  · split
    · exact h1
    · refine (foldl_prt (fun s n => ?_) _ _).trans h1
      split <;> simp

@[simp] theorem writeRate_prt (slew : Int) (s : State) : (writeRate slew s).prt = s.prt := by simp [writeRate]
@[simp] theorem groupMoved_prt (s : State) : (groupMoved s).prt = s.prt := rfl
@[simp] theorem groupKh_prt (s : State) : (groupKh s).prt = s.prt := by unfold groupKh; split <;> simp
@[simp] theorem clearSuspect_prt (s : State) : (clearSuspect s).prt = s.prt := by simp [clearSuspect]
@[simp] theorem servoStep_prt (off : Int) (s : State) : (servoStep off s).prt = s.prt := by simp [servoStep]
@[simp] theorem newMaster_prt (port m : Nat) (s : State) : (newMaster port m s).prt = s.prt := by unfold newMaster; split <;> simp
@[simp] theorem ptpHoldover_prt (s : State) : (ptpHoldover s).prt = s.prt := by simp [ptpHoldover]
@[simp] theorem acceptDelay_prt (port : Nat) (d : Int) (s : State) : (acceptDelay port d s).prt = s.prt := by simp [acceptDelay]
@[simp] theorem pathDelay_prt (port : Nat) (d : Int) (s : State) : (pathDelay port d s).prt = s.prt := by
  unfold pathDelay
  split <;> simp

@[simp] theorem frameSend_prt (e : Env) (p : FramePay) (h : Nat) (s : State) : (frameSend e p h s).1.prt = s.prt := by
  simp [frameSend]

/-! ## Teasel -/

@[simp] theorem writeItem_prt (p : Plane) (w : BitVec 64) (s : State) : (writeItem p w s).prt = s.prt := by simp [writeItem]
@[simp] theorem writeGroup_prt (p : Plane) (g : Group) (s : State) : (writeGroup p g s).prt = s.prt := by simp [writeGroup]
@[simp] theorem teaselRead_prt (p : Plane) (s : State) : (teaselRead p s).prt = s.prt := by
  unfold teaselRead
  repeat' split
  all_goals simp

@[simp] theorem publish_prt (p : Plane) (user : Option RefSet) (s : State) : (publish p user s).prt = s.prt := by
  unfold publish
  split <;> simp

@[simp] theorem commitThread_prt (p : Plane) (s : State) : (commitThread p s).prt = s.prt := by
  unfold commitThread
  dsimp only
  split <;> simp

/-! ## Trip measurement -/

@[simp] theorem ftInject_prt (s : State) : (ftInject s).prt = s.prt := by simp [ftInject]
@[simp] theorem eachFt_prt {f : Plane → Nat → State → State} (hf : ∀ p i s, (f p i s).prt = s.prt) (s : State) :
    (eachFt f s).prt = s.prt := foldl_prt (fun s p => foldl_prt (fun s i => hf p i s) _ s) _ s

@[simp] theorem tripMeas_prt (bs edges : List Nat) (s : State) : (tripMeas bs edges s).prt = s.prt := by simp [tripMeas]

/-! ## Planes -/

@[simp] theorem sixTable_prt (s : State) : (sixTable s).prt = s.prt := by
  obtain ⟨-, hprt, -⟩ := sixTable_frame s
  exact hprt

@[simp] theorem doStart_prt (p : Plane) (s : State) : (doStart p s).prt = s.prt := by
  obtain ⟨-, hprt, -⟩ := doStart_frame p s
  exact hprt

@[simp] theorem beginStop_prt (p : Plane) (h : Nat) (s : State) : (beginStop p h s).prt = s.prt := by simp [beginStop]
@[simp] theorem stopLimit_prt (p : Plane) (s : State) : (stopLimit p s).prt = s.prt := by simp [stopLimit]

/-! ## The strobe -/

@[simp] theorem dropExit_prt (p : Plane) (s : State) : (dropExit p s).prt = s.prt := by simp [dropExit]
@[simp] theorem modeWritten_prt (p : Plane) (v : Nat) (s : State) : (modeWritten p v s).prt = s.prt := by simp [modeWritten]
@[simp] theorem phaseWritten_prt (p : Plane) (old v : Nat) (s : State) : (phaseWritten p old v s).prt = s.prt := by
  simp [phaseWritten]

@[simp] theorem laneWord_prt (id v : Nat) (s : State) : (laneWord id v s).prt = s.prt := by unfold laneWord; split <;> simp
@[simp] theorem takeWaiting_prt {f : Nat → Nat → State → State} (hf : ∀ i v s, (f i v s).prt = s.prt) (eng : Engine) (s : State) :
    (takeWaiting eng f s).prt = s.prt := foldl_prt (fun s _ => hf _ _ s) _ _

@[simp] theorem writeSet_prt (p : Plane) (set : PeriodSet) (s : State) : (writeSet p set s).prt = s.prt := by simp [writeSet]
@[simp] theorem takeContext_prt (p : Plane) (d : Dec) (s : State) : (takeContext p d s).prt = s.prt := by simp [takeContext]
@[simp] theorem enterBand_prt (n : Nat) (p : Plane) (d : Dec) (s : State) : (enterBand n p d s).prt = s.prt := by
  unfold enterBand
  dsimp only
  rw [takeContext_prt, updLane_prt, count_prt, updMod_prt, clearCas_prt, endPeriod_prt]

@[simp] theorem shiftMark_prt (n : Nat) (p : Plane) (s : State) : (shiftMark n p s).prt = s.prt := by simp [shiftMark]
@[simp] theorem shiftPlane_prt (n : Nat) (p : Plane) (s : State) : (shiftPlane n p s).prt = s.prt := by simp [shiftPlane]
@[simp] theorem countSwitching_prt (p : Plane) (old : Pat) (s : State) : (countSwitching p old s).prt = s.prt := by
  simp [countSwitching]

@[simp] theorem startSupport_prt (p : Plane) (s : State) : (startSupport p s).prt = s.prt := by simp [startSupport]
@[simp] theorem restartStrobe_prt (s : State) : (restartStrobe s).prt = s.prt := by simp [restartStrobe]
@[simp] theorem newRatio_prt (s : State) : (newRatio s).prt = s.prt := by simp [newRatio]
@[simp] theorem takeSamples_prt (n : Nat) (bs : List Nat) (s : State) : (takeSamples n bs s).prt = s.prt := by simp [takeSamples]
@[simp] theorem measureLane_prt (p : Plane) (s : State) : (measureLane p s).prt = s.prt := by simp [measureLane]
@[simp] theorem keepWeights_prt (s : State) : (keepWeights s).prt = s.prt := by simp [keepWeights]
@[simp] theorem decideCarrier_prt (p : Plane) (s : State) : (decideCarrier p s).prt = s.prt := by simp [decideCarrier]
@[simp] theorem exitStep_prt (p : Plane) (s : State) : (exitStep p s).prt = s.prt := by simp [exitStep]
@[simp] theorem seedExit_prt (p : Plane) (d : Dec) (s : State) : (seedExit p d s).prt = s.prt := by simp [seedExit]
@[simp] theorem decideBand_prt (p : Plane) (s : State) : (decideBand p s).prt = s.prt := by simp [decideBand]
@[simp] theorem decideIdle_prt (p : Plane) (s : State) : (decideIdle p s).prt = s.prt := by simp [decideIdle]
@[simp] theorem addSums_prt (s : State) : (addSums s).prt = s.prt := rfl
@[simp] theorem eachPlane_prt {f : Plane → State → State} (hf : ∀ p s, (f p s).prt = s.prt) (s : State) :
    (eachPlane f s).prt = s.prt := foldl_prt (fun s p => hf p s) _ s

@[simp] theorem switchKind_prt (s : State) : (switchKind s).prt = s.prt := by unfold switchKind; split <;> simp
@[simp] theorem adaptEnd_prt (p : Plane) (s : State) : (adaptEnd p s).prt = s.prt := by simp [adaptEnd]

/-! ## The commit point -/

@[simp] theorem latch_prt (p : Plane) (s : State) : (latch p s).prt = s.prt := by simp [latch]

/-! ## The Yarrow bus -/

@[simp] theorem disqualifyYclk_prt (s : State) : (disqualifyYclk s).prt = s.prt := by simp [disqualifyYclk]
@[simp] theorem becomeHead_prt (s : State) : (becomeHead s).prt = s.prt := by simp [becomeHead]
@[simp] theorem loseHead_prt (s : State) : (loseHead s).prt = s.prt := by simp [loseHead]
@[simp] theorem presence_prt (on : Bool) (s : State) : (presence on s).prt = s.prt := rfl
@[simp] theorem yclkLost_prt (s : State) : (yclkLost s).prt = s.prt := by simp [yclkLost]
@[simp] theorem yclkBack_prt (s : State) : (yclkBack s).prt = s.prt := by simp [yclkBack]
@[simp] theorem surveyStart_prt (s : State) : (surveyStart s).prt = s.prt := by simp [surveyStart]
@[simp] theorem setBus_prt (t : Rat) (s : State) : (setBus t s).prt = s.prt := by simp [setBus]
@[simp] theorem surveyDone_prt (v : Survey) (s : State) : (surveyDone v s).prt = s.prt := by simp [surveyDone]
@[simp] theorem crossCheck_prt (s : State) : (crossCheck s).prt = s.prt := by
  obtain ⟨-, hprt, -⟩ := crossCheck_frame s
  exact hprt

@[simp] theorem pairCheck_prt (pos : Nat) (s : State) : (pairCheck pos s).prt = s.prt := by
  obtain ⟨-, hprt, -⟩ := pairCheck_frame pos s
  exact hprt

@[simp] theorem alignmentMark_prt (at' : Rat) (s : State) : (alignmentMark at' s).prt = s.prt := by simp [alignmentMark]
@[simp] theorem groupTrigger_prt (tr : Rat) (width : Nat) (s : State) : (groupTrigger tr width s).prt = s.prt := by
  simp [groupTrigger]

@[simp] theorem applyTrigger_prt (s : State) : (applyTrigger s).prt = s.prt := by unfold applyTrigger; split <;> simp

/-! ## Plane G's laws -/

@[simp] theorem setAct_prt (a : Nat) (s : State) : (setAct a s).prt = s.prt := rfl
@[simp] theorem campionStop_prt (p : Plane) (s : State) : (campionStop p s).prt = s.prt := by simp [campionStop]
@[simp] theorem stepEst_prt (s : State) : (stepEst s).prt = s.prt := by simp [stepEst]
@[simp] theorem gReadback_prt (s : State) : (gReadback s).prt = s.prt := by simp [gReadback]
@[simp] theorem gMeasure_prt (s : State) : (gMeasure s).prt = s.prt := by simp [gMeasure]
@[simp] theorem busDisagree_prt (o : GEst) (s : State) : (busDisagree o s).prt = s.prt := by simp [busDisagree]
@[simp] theorem gGroup_prt (d q vd vq f : Rat) (k : Nat) (s : State) : (gGroup d q vd vq f k s).prt = s.prt := by simp [gGroup]
@[simp] theorem gNone_prt (s : State) : (gNone s).prt = s.prt := by simp [gNone]
@[simp] theorem swing_prt (o : GEst) (wset : Rat) (s : State) : (swing o wset s).prt = s.prt := by simp [swing]
@[simp] theorem blended_prt (dem : Rat × Rat) (s : State) : (blended dem s).2.prt = s.prt := by unfold blended; split <;> simp
@[simp] theorem formGroup_prt (o : GEst) (frame : Rat) (k : Nat) (s : State) : (formGroup o frame k s).prt = s.prt := by
  simp [formGroup]

@[simp] theorem followGroup_prt (o : GEst) (wset : Rat) (k : Nat) (s : State) : (followGroup o wset k s).prt = s.prt := by
  simp [followGroup]

@[simp] theorem startBlend_prt (init dem : Rat × Rat) (s : State) : (startBlend init dem s).prt = s.prt := by simp [startBlend]
@[simp] theorem switchAt_prt (kind : Nat) (s : State) : (switchAt kind s).prt = s.prt := by simp [switchAt]
@[simp] theorem toFormLaw_prt (o : GEst) (th f : Rat) (s : State) : (toFormLaw o th f s).prt = s.prt := by simp [toFormLaw]
@[simp] theorem toFollowLaw_prt (o : GEst) (th f : Rat) (s : State) : (toFollowLaw o th f s).prt = s.prt := by simp [toFollowLaw]
@[simp] theorem startLaw_prt (o : GEst) (s : State) : (startLaw o s).prt = s.prt := by simp [startLaw]
@[simp] theorem takeStart_prt (o : GEst) (r : Restored) (s : State) : (takeStart o r s).prt = s.prt := by simp [takeStart]
@[simp] theorem startG_prt (o : GEst) (s : State) : (startG o s).prt = s.prt := by
  unfold startG
  repeat' split
  all_goals simp

@[simp] theorem takeRamp_prt (s : State) : (takeRamp s).prt = s.prt := by
  unfold takeRamp
  repeat' split
  all_goals simp

@[simp] theorem limitStep_prt (s : State) : (limitStep s).prt = s.prt := by simp [limitStep]
@[simp] theorem gridLoss_prt (o : GEst) (opened : Bool) (s : State) : (gridLoss o opened s).prt = s.prt := by simp [gridLoss]
@[simp] theorem rampStep_prt (s : State) : (rampStep s).prt = s.prt := by simp [rampStep]
@[simp] theorem formStep_prt (o : GEst) (s : State) : (formStep o s).prt = s.prt := by simp [formStep]
@[simp] theorem followStep_prt (o : GEst) (s : State) : (followStep o s).prt = s.prt := by simp [followStep]
@[simp] theorem endLaw_prt (s : State) : (endLaw s).prt = s.prt := by simp [endLaw]
@[simp] theorem injectEnd_prt (written : Bool) (s : State) : (injectEnd written s).prt = s.prt := by simp [injectEnd]
@[simp] theorem followRun_prt (o : GEst) (opened : Bool) (req : Option Nat) (s : State) :
    (followRun o opened req s).prt = s.prt := by simp [followRun]

@[simp] theorem gfmSyncBody_prt (e : Env) (p : PPay) (_h : Nat) (s : State) : (gfmSyncBody e p _h s).1.prt = s.prt := by
  unfold gfmSyncBody
  repeat' split
  · rfl
  · exact accepted_prt (fun s => by simp) s
  · rfl

/-! ## Planes M, D and B -/

@[simp] theorem ifStep_prt (o : OuterIn) (s : State) : (ifStep o s).prt = s.prt := by simp [ifStep]
@[simp] theorem encLost_prt (n : Nat) (s : State) : (encLost n s).prt = s.prt := by simp [encLost]
@[simp] theorem accountMeasure_prt (o : OuterIn) (w : Rat) (s : State) : (accountMeasure o w s).prt = s.prt := by
  simp [accountMeasure]

@[simp] theorem exhaustion_prt (f w : Rat) (s : State) : (exhaustion f w s).prt = s.prt := by
  unfold exhaustion
  dsimp only
  repeat' split
  all_goals simp

@[simp] theorem noteOwner_prt (s : State) : (noteOwner s).prt = s.prt := by simp [noteOwner]
@[simp] theorem setInertia_prt (f w : Rat) (s : State) : (setInertia f w s).prt = s.prt := by simp [setInertia]
@[simp] theorem writePSet_prt (prec : Rat) (s : State) : (writePSet prec s).prt = s.prt := by simp [writePSet]
@[simp] theorem fieldWeaken_prt (v : Rat × Rat) (s : State) : (fieldWeaken v s).prt = s.prt := by simp [fieldWeaken]
@[simp] theorem writeMask_prt (id v : Nat) (s : State) : (writeMask id v s).prt = s.prt := rfl
@[simp] theorem sixStep_prt (o : OuterIn) (f : Rat) (v : Rat × Rat) (s : State) : (sixStep o f v s).1.prt = s.prt := by
  simp [sixStep]

@[simp] theorem mGain_prt (f : Rat) (s : State) : (mGain f s).prt = s.prt := by simp [mGain]
@[simp] theorem mGroup_prt (o : OuterIn) (th f w : Rat) (s : State) : (mGroup o th f w s).prt = s.prt := by simp [mGroup]
@[simp] theorem dStep_prt (pv : Rat) (s : State) : (dStep pv s).prt = s.prt := by simp [dStep]
@[simp] theorem dcBody_prt (op : Nat) (e : Env) (p : PPay) (_h : Nat) (s : State) : (dcBody op e p _h s).1.prt = s.prt := by
  unfold dcBody
  split
  · rfl
  · split
    · exact accepted_prt (fun s => by split <;> simp) s
    · rfl

@[simp] theorem completeOps_prt (op st cause : Nat) (s : State) : (completeOps op st cause s).prt = s.prt := by simp [completeOps]
@[simp] theorem endDischarge_prt (st cause : Nat) (s : State) : (endDischarge st cause s).prt = s.prt := by simp [endDischarge]
@[simp] theorem bStep_prt (s : State) : (bStep s).prt = s.prt := by simp [bStep]

/-! ## Firmware slots -/

@[simp] theorem updSlotFw_prt (n : Nat) (f : FwSlot → FwSlot) (s : State) : (updSlotFw n f s).prt = s.prt := by simp [updSlotFw]
@[simp] theorem setCopy_prt (n : Nat) (r : Option Rec) (s : State) : (setCopy n r s).prt = s.prt := by simp [setCopy]
@[simp] theorem dropStaged_prt (h : Hitless) (s : State) : (dropStaged h s).prt = s.prt := by unfold dropStaged; split <;> simp
@[simp] theorem endAct_prt (h st : Nat) (s : State) : (endAct h st s).prt = s.prt := by unfold endAct; split <;> simp
@[simp] theorem endActivation_prt (st cause : Nat) (s : State) : (endActivation st cause s).prt = s.prt := by
  unfold endActivation
  split <;> simp

/-! ## The pair -/

@[simp] theorem setRole_prt (r : Nat) (s : State) : (setRole r s).prt = s.prt := by simp [setRole]
@[simp] theorem updPath_prt (link : Nat) (f : Path → Path) (s : State) : (updPath link f s).prt = s.prt := by simp [updPath]
@[simp] theorem writeSnapshot_prt (s : State) : (writeSnapshot s).prt = s.prt := by simp [writeSnapshot]
@[simp] theorem bothLinks_prt (kind : Nat) (b : List Byte) (s : State) : (bothLinks kind b s).prt = s.prt := by simp [bothLinks]
@[simp] theorem failFrame_prt (c : Nat) (s : State) : (failFrame c s).prt = s.prt := by simp [failFrame]
@[simp] theorem sendFail_prt (s : State) : (sendFail s).prt = s.prt := by unfold sendFail; dsimp only; split <;> simp
@[simp] theorem calibrate_prt (tick : Bool) (n aon : Nat) (s : State) : (calibrate tick n aon s).prt = s.prt := by
  unfold calibrate
  split <;> simp

@[simp] theorem sendHb_prt (s : State) : (sendHb s).prt = s.prt := by unfold sendHb; split <;> simp
@[simp] theorem sendFragment_prt (da : Nat) (s : State) : (sendFragment da s).prt = s.prt := by
  unfold sendFragment
  split <;> simp

@[simp] theorem heartbeatSend_prt (da aon edge : Nat) (s0 : State) : (heartbeatSend da aon edge s0).prt = s0.prt := by
  unfold heartbeatSend
  dsimp only
  repeat' split
  all_goals simp

@[simp] theorem countMisses_prt (link n : Nat) (s : State) : (countMisses link n s).prt = s.prt := by simp [countMisses]
@[simp] theorem pathGood_prt (link : Nat) (s : State) : (pathGood link s).prt = s.prt := by simp [pathGood]
@[simp] theorem takeHb_prt (h : Hb) (s : State) : (takeHb h s).prt = s.prt := by simp [takeHb]
@[simp] theorem heartbeatReceive_prt (link missed aon : Nat) (b : List Byte) (s : State) :
    (heartbeatReceive link missed aon b s).prt = s.prt := by simp [heartbeatReceive]

@[simp] theorem pathDown_prt (link missed : Nat) (s : State) : (pathDown link missed s).prt = s.prt := by simp [pathDown]
@[simp] theorem keepSnap_prt (b : List Byte) (s : State) : (keepSnap b s).prt = s.prt := by simp [keepSnap]
@[simp] theorem snapFragment_prt (aon : Nat) (b : List Byte) (s : State) : (snapFragment aon b s).prt = s.prt := by
  simp [snapFragment]

@[simp] theorem roleWindow_prt (s : State) : (roleWindow s).prt = s.prt := by
  unfold roleWindow
  repeat' split
  all_goals simp

@[simp] theorem restoreSetpoints_prt (b : List Byte) (s : State) : (restoreSetpoints b s).prt = s.prt := by
  simp [restoreSetpoints]

@[simp] theorem giveStart_prt (p : Plane) (step : Nat) (s : State) : (giveStart p step s).prt = s.prt := by simp [giveStart]
@[simp] theorem takeStarts_prt (s : State) : (takeStarts s).prt = s.prt := by simp [takeStarts]
@[simp] theorem takeDone_prt (s : State) : (takeDone s).prt = s.prt := by simp [takeDone]

/-! ## Campion -/

@[simp] theorem keepRefs_prt (p : Plane) (src s : State) : (keepRefs p src s).prt = s.prt := by simp [keepRefs]
@[simp] theorem withIndex_prt (k : Nat) (s : State) : (withIndex k s).prt = s.prt := by simp [withIndex]

/-! ## Checks of a parameter write -/

@[simp] theorem withWords_prt (es : List PEntry) (s : State) : (withWords es s).prt = s.prt := by
  refine (foldl_prt (fun s e => ?_) _ _).trans (foldl_prt (fun _ _ => setPar_prt ..) _ s)
  repeat' split
  all_goals simp

/-! ## Settings -/

@[simp] theorem commitStaged_prt (s : State) : (commitStaged s).prt = s.prt := by simp [commitStaged]
@[simp] theorem confirm_prt (s : State) : (confirm s).prt = s.prt := by unfold confirm; split <;> simp
@[simp] theorem confirmTime_prt (s : State) : (confirmTime s).prt = s.prt := by simp [confirmTime]
@[simp] theorem saveBegin_prt (h : Nat) (s : State) : (saveBegin h s).prt = s.prt := by simp [saveBegin]
@[simp] theorem settingsSaved_prt (s : State) : (settingsSaved s).prt = s.prt := by unfold settingsSaved; split <;> simp

/-! ## Parameter writes -/

@[simp] theorem armShadow_prt (p : Plane) (s : State) : (armShadow p s).prt = s.prt := by simp [armShadow]
@[simp] theorem addSteps_prt (v : Nat) (s : State) : (addSteps v s).prt = s.prt := by simp [addSteps]
@[simp] theorem shadowWord_prt (p : Plane) (off v : Nat) (s : State) : (shadowWord p off v s).prt = s.prt := by simp [shadowWord]
@[simp] theorem captureWritten_prt (old v : Nat) (s : State) : (captureWritten old v s).prt = s.prt := by simp [captureWritten]
@[simp] theorem waitWord_prt (id v : Nat) (s : State) : (waitWord id v s).prt = s.prt := rfl
@[simp] theorem storeWord_prt (id v : Nat) (s : State) : (storeWord id v s).prt = s.prt := rfl

/-! ## SET_PARAM -/

@[simp] theorem stageWrite_prt (ctl : Bool) (h : Nat) (es : List PEntry) (s : State) : (stageWrite ctl h es s).1.prt = s.prt := by
  unfold stageWrite
  repeat' split
  all_goals simp

/-! ## Transactions -/

@[simp] theorem putTile_prt (p : Nat) (t : Tile) (s : State) : (putTile p t s).prt = s.prt := by simp [putTile]
@[simp] theorem writeTile_prt (t : Nat) (img : List Byte) (s : State) : (writeTile t img s).prt = s.prt := by simp [writeTile]
@[simp] theorem takeTile_prt (h : Nat) (p : Pre) (img : List Byte) (s : State) : (takeTile h p img s).1.prt = s.prt := by
  unfold takeTile
  repeat' split
  all_goals simp

@[simp] theorem dropFrag_prt (f : Frag) (s : State) : (dropFrag f s).prt = s.prt := by simp [dropFrag]
@[simp] theorem rgtWrite_prt (e : Env) (p : DataPay) (s : State) : (rgtWrite e p s).1.prt = s.prt := by
  unfold rgtWrite
  repeat' split
  all_goals simp

@[simp] theorem rgtRead_prt (p : Pre) (s : State) : (rgtRead p s).1.prt = s.prt := by unfold rgtRead; split <;> simp
@[simp] theorem freeSpares_prt (t : Txn) (s : State) : (freeSpares t s).prt = s.prt := by simp [freeSpares]
@[simp] theorem endTxn_prt (st cause : Nat) (results : List Byte) (s : State) : (endTxn st cause results s).prt = s.prt := by
  unfold endTxn
  split <;> simp

@[simp] theorem onTxn_prt {f : Txn → State → State × Ans} (hf : ∀ t s, (f t s).1.prt = s.prt) (e : Env)
    (ok : TxnState → Bool) (s : State) :
    (onTxn e ok f s).1.prt = s.prt := by
  unfold onTxn
  repeat' split
  case h_2.isFalse.isTrue => exact hf _ s
  all_goals rfl

@[simp] theorem copyGroup_prt (g : Nat) (s : State) : (copyGroup g s).prt = s.prt := by unfold copyGroup; split <;> simp
@[simp] theorem preparedEvent_prt (t : Txn) (id isl st : Nat) (s : State) : (preparedEvent t id isl st s).prt = s.prt := by
  unfold preparedEvent
  split <;> simp

@[simp] theorem prepared_prt (s : State) : (prepared s).prt = s.prt := by
  unfold prepared
  repeat' split
  all_goals simp

@[simp] theorem abortTxn_prt (s : State) : (abortTxn s).prt = s.prt := by unfold abortTxn; split <;> simp
@[simp] theorem txnTimeout_prt (s : State) : (txnTimeout s).prt = s.prt := by unfold txnTimeout; split <;> simp
@[simp] theorem swapTiles_prt (t : Txn) (s : State) : (swapTiles t s).prt = s.prt := by simp [swapTiles]
@[simp] theorem afterSwitch_prt (t : Txn) (gone : List Nat) (s : State) : (afterSwitch t gone s).prt = s.prt := by
  simp [afterSwitch]

/-! ## Reset -/

@[simp] theorem holdReset_prt (s : State) : (holdReset s).prt = s.prt := rfl
@[simp] theorem powerFailRecord_prt (s : State) : (powerFailRecord s).prt = s.prt := by simp [powerFailRecord]
@[simp] theorem jtag_prt (i : JtagIns) (s : State) : (jtag i s).prt = s.prt := by
  unfold jtag
  repeat' split
  all_goals simp

/-! ## Firmware -/

@[simp] theorem beginUpdate_prt (h len kind : Nat) (s : State) : (beginUpdate h len kind s).prt = s.prt := by simp [beginUpdate]
@[simp] theorem fwUpdate_prt (e : Env) (len kind resv : Nat) (base : List Byte) (h : Nat) (s : State) :
    (fwUpdate e len kind resv base h s).1.prt = s.prt := by unfold fwUpdate; dsimp only; split <;> simp

@[simp] theorem endUpdate_prt (st cause : Nat) (s : State) : (endUpdate st cause s).prt = s.prt := by
  unfold endUpdate
  split <;> simp

@[simp] theorem finishImage_prt (s : State) : (finishImage s).prt = s.prt := by simp [finishImage]
@[simp] theorem slotWrite_prt (off : Nat) (bs : List Byte) (s : State) : (slotWrite off bs s).prt = s.prt := by simp [slotWrite]
@[simp] theorem deltaRecords_prt (n : Nat) (b : List Byte) (s : State) : (deltaRecords n b s).1.prt = s.prt := by
  induction n generalizing b s with
  | zero => rfl
  | succ n ih =>
    unfold deltaRecords
    dsimp only
    repeat' split
    all_goals simp [ih]

@[simp] theorem deltaBlock_prt (u : Upd) (bs : List Byte) (last : Bool) (s : State) : (deltaBlock u bs last s).prt = s.prt := by
  unfold deltaBlock
  dsimp only
  split <;> simp

@[simp] theorem takeOwnerKey_prt (b : List Byte) (s : State) : (takeOwnerKey b s).prt = s.prt := by simp [takeOwnerKey]
@[simp] theorem takeRevoke_prt (b : List Byte) (s : State) : (takeRevoke b s).prt = s.prt := by simp [takeRevoke]
@[simp] theorem takeBlock_prt (u : Upd) (bs : List Byte) (s : State) : (takeBlock u bs s).prt = s.prt := by simp [takeBlock]
@[simp] theorem drainBlocks_prt (k : Nat) (s : State) : (drainBlocks k s).prt = s.prt := by
  induction k generalizing s with
  | zero => rfl
  | succ k ih =>
    unfold drainBlocks
    repeat' split
    all_goals simp [ih]

@[simp] theorem fwData_prt (e : Env) (p : DataPay) (s : State) : (fwData e p s).1.prt = s.prt := by
  unfold fwData
  dsimp only
  repeat' split
  all_goals simp

@[simp] theorem beginHitless_prt (h kh : Nat) (s : State) : (beginHitless h kh s).prt = s.prt := by simp [beginHitless]
@[simp] theorem fwActivateHitless_prt (e : Env) (resv kh h : Nat) (s : State) :
    (fwActivateHitless e resv kh h s).1.prt = s.prt := by simp [fwActivateHitless]

@[simp] theorem stageMigrated_prt (ws : List (Nat × Word)) (ts : List (Nat × List Byte)) (s : State) :
    (stageMigrated ws ts s).prt = s.prt := by unfold stageMigrated; split <;> simp

@[simp] theorem hitlessReady_prt (mig : Migr) (s : State) : (hitlessReady mig s).prt = s.prt := by
  unfold hitlessReady
  repeat' split
  all_goals simp

@[simp] theorem hitlessSwap_prt (w : SwapWrite) (s : State) : (hitlessSwap w s).prt = s.prt := by
  unfold hitlessSwap
  split <;> simp

@[simp] theorem endBeforeRestart_prt (s : State) : (endBeforeRestart s).prt = s.prt := by
  unfold endBeforeRestart
  extract_lets s1 s2 s3 drop s4
  have h1 : s1.prt = s.prt := foldl_prt (fun s o => endRead_prt ..) _ s
  have h2 : s2.prt = s1.prt := by unfold s2; split <;> simp
  have h3 : s3.prt = s2.prt := by unfold s3; split <;> simp
  have hd : ∀ n (s : State), (drop n s).prt = s.prt := fun n s => by simp [drop]
  have h4 : s4.prt = s.prt := by rw [hd, hd, h3, h2, h1]
  rw [← h4]
  repeat' split
  all_goals simp

@[simp] theorem tansyRestart_prt (s : State) : (tansyRestart s).prt = s.prt := by unfold tansyRestart; split <;> simp
@[simp] theorem flushHeld_prt (s : State) : (flushHeld s).prt = s.prt := by simp [flushHeld]
@[simp] theorem takeMigrated_prt (h : Hitless) (s : State) : (takeMigrated h s).prt = s.prt := by
  unfold takeMigrated
  split <;> simp

@[simp] theorem drawNonce_prt (s : State) : (drawNonce s).prt = s.prt := by simp [drawNonce]
@[simp] theorem debugUnlock_prt (t : List Byte) (s : State) : (debugUnlock t s).1.prt = s.prt := by simp [debugUnlock]
@[simp] theorem attest_prt (nonce : List Byte) (s : State) : (attest nonce s).1.prt = s.prt := rfl

/-! ## Handles -/

@[simp] theorem showTests_prt (pass fail : Nat) (s : State) : (showTests pass fail s).prt = s.prt := by simp [showTests]
@[simp] theorem selfTest_prt (mask : Nat) (e : Env) (h : Nat) (s : State) : (selfTest mask e h s).1.prt = s.prt := by
  simp [selfTest]

@[simp] theorem endSelfTest_prt (st cause pass fail : Nat) (s : State) : (endSelfTest st cause pass fail s).prt = s.prt := by
  unfold endSelfTest
  split <;> simp

@[simp] theorem selfTestComplete_prt (hw : Nat) (s : State) : (selfTestComplete hw s).prt = s.prt := by
  unfold selfTestComplete
  split <;> simp

@[simp] theorem cancelSelfTest_prt (cause : Nat) (s : State) : (cancelSelfTest cause s).prt = s.prt := by
  unfold cancelSelfTest
  split <;> simp

@[simp] theorem handleQuery_prt (h : Nat) (s : State) : (handleQuery h s).1.prt = s.prt := by
  unfold handleQuery
  repeat' split
  all_goals simp

@[simp] theorem cancelFrame_prt (h cause : Nat) (s : State) : (cancelFrame h cause s).prt = s.prt := by simp [cancelFrame]
@[simp] theorem cancelGroup_prt (cause : Nat) (s : State) : (cancelGroup cause s).prt = s.prt := by
  unfold cancelGroup
  split <;> simp

@[simp] theorem cancelArchive_prt (cause : Nat) (s : State) : (cancelArchive cause s).prt = s.prt := by
  unfold cancelArchive
  split <;> simp

@[simp] theorem dropSave_prt (cause : Nat) (s : State) : (dropSave cause s).prt = s.prt := by unfold dropSave; split <;> simp

/-! ## Groups -/

@[simp] theorem descriptorSend_prt (s : State) : (descriptorSend s).prt = s.prt := by simp [descriptorSend]
@[simp] theorem descriptorReceive_prt (src : Nat) (b : List Byte) (s : State) : (descriptorReceive src b s).prt = s.prt := by
  simp [descriptorReceive]

@[simp] theorem memberLost_prt (pos : Nat) (s : State) : (memberLost pos s).prt = s.prt := by simp [memberLost]
@[simp] theorem showVerdict_prt (v st : Nat) (s : State) : (showVerdict v st s).prt = s.prt := by simp [showVerdict]
@[simp] theorem beginAction_prt (p : List Byte) (h : Nat) (s : State) : (beginAction p h s).prt = s.prt := by simp [beginAction]
@[simp] theorem deferAction_prt (a : GAct) (pos row : Nat) (more : List (Nat × Nat)) (s : State) :
    (deferAction a pos row more s).prt = s.prt := by simp [deferAction]

@[simp] theorem noteAgree_prt (a : GAct) (s : State) : (noteAgree a s).prt = s.prt := by simp [noteAgree]
@[simp] theorem groupDecide_prt (s : State) : (groupDecide s).prt = s.prt := by
  unfold groupDecide
  dsimp only
  repeat' split
  all_goals simp

@[simp] theorem failAction_prt (a : GAct) (st : Nat) (s : State) : (failAction a st s).prt = s.prt := by simp [failAction]
@[simp] theorem groupConfirm_prt (s : State) : (groupConfirm s).prt = s.prt := by
  unfold groupConfirm
  dsimp only
  repeat' split
  all_goals simp

@[simp] theorem applied_prt (a : GAct) (s : State) : (applied a s).prt = s.prt := by simp [applied]
@[simp] theorem ilvAtMark_prt (s : State) : (ilvAtMark s).prt = s.prt := by
  obtain ⟨-, -, hprt⟩ := ilvAtMark_frame s
  exact hprt

/-! ## Islands -/

@[simp] theorem stopHealth_prt (s : State) : (stopHealth s).prt = s.prt := rfl
@[simp] theorem stopSequence_prt (s : State) : (stopSequence s).prt = s.prt := by unfold stopSequence; split <;> simp
@[simp] theorem dropAcq_prt (s : State) : (dropAcq s).prt = s.prt := by
  unfold dropAcq
  extract_lets s1 s2 s3 s4
  have h1 : s1.prt = s.prt := by unfold s1; split <;> simp
  have h3 : s3.prt = s1.prt := (foldl_prt (fun s o => endRead_prt ..) _ _).trans (endReplay_prt ..)
  have h4 : s4.prt = s3.prt := by unfold s4; split <;> simp
  rw [cancelArchive_prt, h4, h3, h1]

@[simp] theorem dropSwap_prt (s : State) : (dropSwap s).prt = s.prt := by unfold dropSwap; split <;> simp
@[simp] theorem txnAtReset_prt (s : State) : (txnAtReset s).prt = s.prt := by unfold txnAtReset; split <;> simp
@[simp] theorem loseEntries_prt (lost : List (Nat × Bool)) (s : State) : (loseEntries lost s).prt = s.prt := by simp [loseEntries]
@[simp] theorem restartAcq_prt (s : State) : (restartAcq s).prt = s.prt := by
  obtain ⟨-, -, -, -, -, hprt⟩ := restartAcq_view s
  exact hprt

@[simp] theorem restartAon_prt (s : State) : (restartAon s).prt = s.prt := by simp [restartAon]

/-! ## The boot -/

@[simp] theorem enterRecovery_prt (s : State) : (enterRecovery s).prt = s.prt := by simp [enterRecovery]
@[simp] theorem selectSlot_prt (k : Nat) (s : State) : (selectSlot k s).prt = s.prt := by
  induction k generalizing s with
  | zero => simp [selectSlot]
  | succ k ih =>
    unfold selectSlot
    dsimp only
    repeat' split
    all_goals simp [ih]

@[simp] theorem bootRom_prt (s : State) : (bootRom s).prt = s.prt := by unfold bootRom; dsimp only; split <;> simp
@[simp] theorem pllmLocked_prt (s0 : State) : (pllmLocked s0).prt = s0.prt := by simp [pllmLocked]
@[simp] theorem fastStartLoaded_prt (lockstep : Bool) (s : State) : (fastStartLoaded lockstep s).prt = s.prt := by
  unfold fastStartLoaded
  split <;> simp

@[simp] theorem takeRec_prt (n : Nat) (r : Rec) (s : State) : (takeRec n r s).prt = s.prt := by simp [takeRec]
@[simp] theorem takeStored_prt (s : State) : (takeStored s).prt = s.prt := foldl_prt (fun _ _ => setPar_prt ..) _ s
@[simp] theorem markUnwritten_prt (s : State) : (markUnwritten s).prt = s.prt := by simp [markUnwritten]
@[simp] theorem takeClock_prt (s : State) : (takeClock s).prt = s.prt := by simp [takeClock]
@[simp] theorem powerUpTests_prt (hw : Nat) (s : State) : (powerUpTests hw s).prt = s.prt := by simp [powerUpTests]
@[simp] theorem lateFlags_prt (s : State) : (lateFlags s).prt = s.prt := by
  have ha : ∀ id b (s : State), (if parBit s id b then flagEvent id b 0 s else s).prt = s.prt := fun id b s => by split <;> simp
  unfold lateFlags
  extract_lets again s1
  have h1 : s1.prt = s.prt := by simp only [s1, again, ha]
  rw [← h1]
  repeat' split
  all_goals simp

@[simp] theorem tansyExtRunning_prt (s : State) : (tansyExtRunning s).prt = s.prt := by simp [tansyExtRunning]

/-! ## URGENT commands -/

@[simp] theorem noteUrgent_prt (c : Chan) (s : State) : (noteUrgent c s).prt = s.prt := by simp [noteUrgent]
@[simp] theorem propagate_prt (mask group : Nat) (s : State) : (propagate mask group s).prt = s.prt := by simp [propagate]
@[simp] theorem urgentEvent_prt (op mask : Nat) (e : Env) (s : State) : (urgentEvent op mask e s).prt = s.prt := by
  simp [urgentEvent]

@[simp] theorem urgentReply_prt (op : Nat) (e : Env) (done : Bool) (mask : Nat) (s : State) :
    (urgentReply op e done mask s).prt = s.prt := by simp [urgentReply]

/-! ## The HOST port -/

@[simp] theorem misoOnes_prt (n : Nat) (s : State) : (misoOnes n s).prt = s.prt := by simp [misoOnes]
@[simp] theorem miso_prt (bs : List Byte) (s : State) : (miso bs s).prt = s.prt := by simp [miso]
@[simp] theorem spiRefuse_prt (b : List Byte) (st : Nat) (s : State) : (spiRefuse b st s).prt = s.prt := by simp [spiRefuse]
@[simp] theorem packetRead_prt (n : Nat) (s : State) : (packetRead n s).prt = s.prt := by
  unfold packetRead
  repeat' split
  all_goals simp

@[simp] theorem winErr_prt (s : State) : (winErr s).prt = s.prt := by simp [winErr]
@[simp] theorem windowRead_prt (addr : Nat) (s : State) : (windowRead addr s).prt = s.prt := by simp [windowRead]
theorem hwinWrite_prt {addr v : Nat} {s t : State} (h : hwinWrite addr v s = some t) : t.prt = s.prt := by
  unfold hwinWrite at h
  split at h
  case h_4 => cases h
  all_goals
    obtain rfl := Option.some.inj h
    rfl

@[simp] theorem windowWrite_prt (addr v crc : Nat) (s : State) : (windowWrite addr v crc s).prt = s.prt := by
  unfold windowWrite
  dsimp only
  split
  · simp
  · cases h : hwinWrite addr v (miso (List.replicate 6 0) s)
    case none => simp
    case some t => simp [hwinWrite_prt h]

@[simp] theorem eventsLost_prt (s : State) : (eventsLost s).prt = s.prt := by simp [eventsLost]

end Sys2Proof.Machine
end

section
/-! PROOFS. No port ever commands both its switches (R162). Each function that touches the gate blocks keeps the switches of every port
apart: it changes neither of them, turns switches off, or settles the gate blocks, and a settling turns on only a switch whose partner
is off. Settles O3. -/

namespace Sys2Proof.Machine
open Sys2Proof

/-- No port commands both its switches. The name stands for `NoShoot` without being unfolded at each use. -/
def Apart (s : State) : Prop := NoShoot s

/-- What a command gives commands no port's both switches. -/
def Keeps (o : Host.Outcome State Fault Refusal) : Prop := ∀ t, o = .next t → Apart t

theorem Keeps.next {t : State} (ht : Apart t) : Keeps (.next t) := by
  rintro _ ⟨⟩
  exact ht

theorem Apart.frame {s t : State} (hp : t.prt = s.prt) (hs : Apart s) : Apart t := by
  rw [Apart, NoShoot, hp]
  exact hs

theorem Apart.subset {s t : State} (hu : ∀ n, t.prt.upper.getLsbD n = true → s.prt.upper.getLsbD n = true)
    (hl : ∀ n, t.prt.lower.getLsbD n = true → s.prt.lower.getLsbD n = true) (hs : Apart s) :
    Apart t := by
  apply BitVec.eq_of_getLsbD_eq
  intro n _
  have hn : (s.prt.upper.getLsbD n && s.prt.lower.getLsbD n) = false := by simpa using congrArg (·.getLsbD n) hs
  have := hu n
  have := hl n
  simp only [BitVec.getLsbD_and]
  grind

theorem Apart.at_updPrt {f : Prt → Prt} {s : State} (hu : (f s.prt).upper = s.prt.upper)
    (hl : (f s.prt).lower = s.prt.lower) (hs : Apart s) :
    Apart (updPrt f s) := by
  rw [Apart, NoShoot, updPrt_prt, hu, hl]
  exact hs

theorem Apart.at_ite {c : Prop} [Decidable c] {s t : State} (hs : Apart s) (ht : Apart t) : Apart (if c then s else t) := by
  split <;> assumption

theorem Apart.at_foldl {α : Type} {f : State → α → State} {l : List α} {s : State} (hf : ∀ s x, Apart s → Apart (f s x))
    (hs : Apart s) :
    Apart (l.foldl f s) := by
  induction l generalizing s with
  | nil => exact hs
  | cons x t ih => exact ih (hf s x hs)

theorem Apart.at_serve {cls op flags : Nat} {e : Env} {needs : State → Bool} {body : Nat → State → State × Ans} {s : State}
    (hb : ∀ n s, Apart s → Apart (body n s).1) (hs : Apart s) :
    Apart (serve cls op e flags needs body s) :=
  serve_keeps (P := fun r => r.upper &&& r.lower = 0) hb hs

theorem Apart.at_serveShort {cls op : Nat} {e : Env} {body : State → State × Ans} {s : State}
    (hb : ∀ s, Apart s → Apart (body s).1) (hs : Apart s) :
    Apart (serveShort cls op e body s) :=
  .at_serve (fun _ => hb) hs

theorem Apart.at_serveLong {cls op : Nat} {e : Env} {body : Nat → State → State × Ans} {s : State}
    (hb : ∀ n s, Apart s → Apart (body n s).1) (hs : Apart s) :
    Apart (serveLong cls op e body s) :=
  .at_serve hb hs

theorem Apart.at_withLength {ok : Bool} {cls op : Nat} {e : Env} {f : State → State} {s : State}
    (hf : ∀ s, Apart s → Apart (f s)) (hs : Apart s) :
    Apart (withLength ok cls op e f s) :=
  withLength_keeps (P := fun r => r.upper &&& r.lower = 0) hf hs

theorem Apart.at_accepted {op : Nat} {e : Env} {work : State → State} {s : State} (hw : ∀ s, Apart s → Apart (work s))
    (hs : Apart s) :
    Apart (accepted op e work s).1 :=
  hw _ (.frame (by simp) hs)

theorem Apart.at_done {f : State → State} {s : State} (hf : ∀ s, Apart s → Apart (f s)) (hs : Apart s) : Apart (done f s).1 :=
  hf s hs

theorem Apart.at_atTime {c : Rat} {f : State → State} {s : State} (hf : ∀ s, Apart s → Apart (f s)) (hs : Apart s) :
    Apart (atTime c f s) :=
  hf _ (.frame (by simp) hs)

theorem Apart.at_eachPlane {f : Plane → State → State} {s : State} (hf : ∀ p s, Apart s → Apart (f p s)) (hs : Apart s) :
    Apart (eachPlane f s) :=
  .at_foldl (fun s p => hf p s) hs

theorem Apart.at_eachFt {f : Plane → Nat → State → State} {s : State} (hf : ∀ p i s, Apart s → Apart (f p i s)) (hs : Apart s) :
    Apart (eachFt f s) :=
  .at_foldl (fun _ p => .at_foldl (fun s i => hf p i s)) hs

theorem Apart.at_ite_fst {α : Type} {c : Prop} [Decidable c] {x y : State × α} (hx : Apart x.1) (hy : Apart y.1) :
    Apart (if c then x else y).1 := by
  split <;> assumption

theorem Apart.at_takeWaiting {eng : Engine} {f : Nat → Nat → State → State} {s : State}
    (hf : ∀ i v s, Apart s → Apart (f i v s)) (hs : Apart s) :
    Apart (takeWaiting eng f s) :=
  .at_foldl (fun s _ => hf _ _ s) hs

/-! ### Counters and resets of the islands -/

theorem Apart.at_setBrk {b : Nat} {on : Bool} {s : State} (hs : Apart s) : Apart (setBrk b on s) :=
  .at_ite hs (.frame (by simp) hs)

theorem Apart.at_leaveLaw {withdraw : Bool} {s : State} (hs : Apart s) : Apart (leaveLaw withdraw s) :=
  .frame (setParBits_prt ..) (.at_ite (.at_setBrk hs) hs)

/-! ### The gate blocks -/

theorem Apart.at_settle {bySorrel : Bool} {soft : Ports} {s : State} (hs : Apart s) : Apart (settle bySorrel soft s) :=
  settle_noShoot _ _ _ hs

theorem Apart.at_ascApply {sub : SafeSub} {k : Nat} {s : State} (hs : Apart s) : Apart (ascApply sub k s) := by
  unfold ascApply
  split
  · exact hs
  · exact .at_updPrt rfl rfl hs

theorem Apart.at_override {m pulse en : Ports} {s : State} (hs : Apart s) : Apart (override m pulse en s) :=
  .at_updPrt rfl rfl hs

theorem Apart.at_writePermit {m : Ports} {s : State} (hs : Apart s) : Apart (writePermit m s) := .at_updPrt rfl rfl hs
theorem Apart.at_releaseOvr {p : Plane} {s : State} (hs : Apart s) : Apart (releaseOvr p s) :=
  .at_writePermit (.at_updPrt rfl rfl hs)

theorem Apart.at_chopStop {s : State} (hs : Apart s) : Apart (chopStop s) :=
  .at_ite (.at_settle (.at_ite (.at_updPrt rfl rfl (.at_override (.at_updPrt rfl rfl hs))) (.at_override
    (.at_updPrt rfl rfl hs)))) (.at_updPrt rfl rfl hs)

theorem Apart.at_enterSub {sub : SafeSub} {s : State} (hs : Apart s) : Apart (enterSub sub s) := by
  unfold enterSub
  split
  · exact .at_updPrt rfl rfl (.at_override hs)
  · exact .at_ascApply (.at_override hs)

theorem Apart.at_noteFallback {fb : Bool} {s : State} (hs : Apart s) : Apart (noteFallback fb s) :=
  .at_ite (.frame (raiseNum_prt ..) (.at_updPrt rfl rfl hs)) hs

theorem Apart.at_rechoose {s : State} (hs : Apart s) : Apart (rechoose s) :=
  .at_ite (.frame (dropMc_prt ..) (.at_ite (.at_noteFallback hs) (.at_settle (.at_enterSub (.frame (enterState_prt ..)
    (.at_noteFallback hs)))))) hs

theorem Apart.at_initMod {p : Plane} {s : State} (hs : Apart s) : Apart (initMod p s) :=
  .at_ite hs (.at_updPrt rfl rfl (.frame (by simp) hs))

theorem Apart.at_quitLane {p : Plane} {s : State} (hs : Apart s) : Apart (quitLane p s) :=
  .frame (updLane_prt ..) (.at_ite (.frame (by simp) hs) (.at_ite (.at_leaveLaw (.frame (by simp) hs)) (.frame (by simp) hs)))

theorem Apart.at_safePattern {p : Plane} {old : PState} {sub : SafeSub} {s : State} (hs : Apart s) :
    Apart (safePattern p old sub s) := by
  unfold safePattern
  split
  · exact .at_enterSub hs
  · exact .at_override (.at_updPrt rfl rfl hs)
  · exact .at_override hs

theorem Apart.at_enterSafe {p : Plane} {code : Nat} {soft : Ports} {s : State} (hs : Apart s) :
    Apart (enterSafe p code soft s) :=
  .frame (dropMc_prt ..) (.at_quitLane (.at_settle (.at_initMod (.at_safePattern (.frame (enterState_prt ..)
    (.at_noteFallback hs))))))

theorem Apart.at_causeAt {p : Plane} {code : Nat} {soft : Ports} {s : State} (hs : Apart s) : Apart (causeAt p code soft s) :=
  .at_ite hs (by split; exacts [(.at_enterSafe hs), (.at_enterSafe hs), (.at_enterSafe hs), (.at_ite (.at_rechoose hs) hs), hs])

theorem Apart.at_causeEach {ps : List Plane} {code : Nat} {soft : Ports} {s : State} (hs : Apart s) :
    Apart (causeEach ps code soft s) :=
  .at_foldl (fun _ _ h => .at_causeAt h) hs

theorem Apart.at_causeEvery {code : Nat} {soft : Ports} {s : State} (hs : Apart s) : Apart (causeEvery code soft s) :=
  .at_causeEach hs

theorem Apart.at_forceBlock {ps : List Plane} {s : State} (hs : Apart s) : Apart (forceBlock ps s) :=
  .at_foldl (fun _ _ h => .at_ite (.at_updPrt rfl rfl h) h) hs

theorem Apart.at_forceAsc {s : State} (hs : Apart s) : Apart (forceAsc s) := .at_ite (.at_updPrt rfl rfl hs) hs
theorem Apart.at_suppliesOn {p : Plane} {s : State} (hs : Apart s) : Apart (suppliesOn p s) := .at_updPrt rfl rfl hs
theorem Apart.at_suppliesOff {p : Plane} {s : State} (hs : Apart s) : Apart (suppliesOff p s) := .at_updPrt rfl rfl hs

/-! ### Protection -/

theorem Apart.at_enablesOff {s : State} (hs : Apart s) : Apart (enablesOff s) := .at_settle (.at_updPrt rfl rfl hs)
theorem Apart.at_haltFall {s : State} (hs : Apart s) : Apart (haltFall s) := .at_causeEvery (.at_settle hs)
theorem Apart.at_haltRise {s : State} (hs : Apart s) : Apart (haltRise s) := .at_ite (.at_enablesOff hs) hs
theorem Apart.at_stoLow {second : Bool} {s : State} (hs : Apart s) : Apart (stoLow second s) :=
  .at_causeEvery (.at_forceBlock (.at_settle hs))

theorem Apart.at_stoHigh {s : State} (hs : Apart s) : Apart (stoHigh s) := .at_ite hs (.at_enablesOff hs)
theorem Apart.at_keepAliveLoss {m : Ports} {s : State} (hs : Apart s) : Apart (keepAliveLoss m s) :=
  .at_settle (.at_updPrt rfl rfl hs)

theorem Apart.at_setMon {n : Nat} {m : Mon} {on : Bool} {s : State} (hs : Apart s) : Apart (setMon n m on s) := by
  cases m <;> exact hs

theorem Apart.at_uvloDeclare {n : Nat} {m : Mon} {s : State} (hs : Apart s) : Apart (uvloDeclare n m s) :=
  .at_ite (.at_rechoose (.at_causeAt (.at_settle (.at_setMon hs)))) hs

theorem Apart.at_uvloRelease {n : Nat} {m : Mon} {s : State} (hs : Apart s) : Apart (uvloRelease n m s) :=
  .at_ite (.at_rechoose (.at_settle (.at_setMon hs))) hs

theorem Apart.at_latchFault {hard : Bool} {n : Nat} {up : Bool} {s : State} (hs : Apart s) :
    Apart (latchFault hard n up s) := by
  have h1 : Apart (updPrt (fun r => if up then { r with faultH := r.faultH ||| portBit n }
      else { r with faultL := r.faultL ||| portBit n }) s) := .at_updPrt (by cases up <;> rfl) (by cases up <;> rfl) hs
  exact .frame (raiseFlag_prt ..) (.at_ite (.at_updPrt rfl rfl (.frame (count_prt ..) h1)) (.frame (count_prt ..) h1))

theorem Apart.at_shortDesat {l : List (Nat × Bool)} {s : State} (hs : Apart s) : Apart (shortDesat l s) :=
  .at_foldl (fun _ _ h => .at_causeAt h) (.at_settle (.at_foldl (fun _ _ h => .at_latchFault h) (.at_ite hs
    (.at_updPrt rfl rfl hs))))

theorem Apart.at_shortHard {n : Nat} {up : Bool} {s : State} (hs : Apart s) : Apart (shortHard n up s) :=
  .at_ite (.at_causeAt (.at_settle (.at_latchFault (.at_updPrt rfl rfl hs)))) hs

theorem Apart.at_shortStagger {s : State} (hs : Apart s) : Apart (shortStagger s) := by
  unfold shortStagger
  split
  · exact hs
  · exact .at_settle (.at_updPrt rfl rfl hs)

theorem Apart.at_deferredTurnOff {n : Nat} {s : State} (hs : Apart s) : Apart (deferredTurnOff n s) := by
  refine .at_ite hs (.at_settle ?_)
  refine .subset (fun n h => ?_) (fun n h => ?_) hs
  · exact (by simpa using h : _ ∧ _).1
  · exact (by simpa using h : _ ∧ _).1

theorem Apart.at_gateBudget {p pin : Nat} {s : State} (hs : Apart s) : Apart (gateBudget p pin s) :=
  .at_ite hs (.at_ite (.at_causeEach (.frame (by simp) hs)) hs)

theorem Apart.at_tBaseUpdate {t : Int} {s : State} (hs : Apart s) : Apart (tBaseUpdate t s) :=
  .at_ite hs (.at_ite (.at_causeEvery (.at_ite (.frame (raiseNum_prt ..) (.at_updPrt rfl rfl hs)) (.at_ite
    (.at_updPrt rfl rfl hs) hs))) (.at_ite (.frame (raiseNum_prt ..) (.at_updPrt rfl rfl hs)) (.at_ite
      (.at_updPrt rfl rfl hs) hs)))

theorem Apart.at_mpSupply {n : Nat} {s : State} (hs : Apart s) : Apart (mpSupply n s) :=
  .at_ite (.frame (raiseNum_prt ..) (.at_updPrt rfl rfl hs)) hs

theorem Apart.at_brkMismatch {mc : Bool} {s : State} (hs : Apart s) : Apart (brkMismatch mc s) :=
  .at_ite (.at_ite (.frame (raiseFlag_prt ..) (.at_updPrt rfl rfl hs)) hs) (.at_ite (.frame (raiseFlag_prt ..)
    (.at_updPrt rfl rfl hs)) hs)

theorem Apart.at_ascNext {s : State} (hs : Apart s) : Apart (ascNext s) := .at_ite (.at_settle (.at_ascApply hs)) hs
theorem Apart.at_forcedAscEnd {s : State} (hs : Apart s) : Apart (forcedAscEnd s) :=
  .at_ite (.at_rechoose (.at_updPrt rfl rfl hs)) hs

theorem Apart.at_drivePlane {p : Plane} {s : State} (hs : Apart s) : Apart (drivePlane p s) :=
  .at_settle (.at_updPrt rfl rfl hs)

theorem Apart.at_refreshOut {p : Plane} {s : State} (hs : Apart s) : Apart (refreshOut p s) := .at_drivePlane hs
theorem Apart.at_cutAck {p : Plane} {s : State} (hs : Apart s) : Apart (cutAck p s) :=
  .at_settle (.at_writePermit (.at_updPrt rfl rfl hs))

theorem Apart.at_boundaryCount {p : Plane} {s : State} (hs : Apart s) : Apart (boundaryCount p s) :=
  .at_ite (.at_causeAt (.frame (setPar_prt ..) (.at_ite (.frame (count_prt ..) (.at_updPrt rfl rfl hs))
    (.at_updPrt rfl rfl hs)))) (.frame (setPar_prt ..) (.at_ite (.frame (count_prt ..) (.at_updPrt rfl rfl hs))
      (.at_updPrt rfl rfl hs)))

/-! ### Measurement -/

theorem Apart.at_takeM5v {s : State} (hs : Apart s) : Apart (takeM5v s) := .at_updPrt rfl rfl hs
theorem Apart.at_withdrawLeg {n : Nat} {s : State} (hs : Apart s) : Apart (withdrawLeg n s) :=
  .at_settle (.at_updPrt rfl rfl hs)

theorem Apart.at_lossAction {code : Nat} {s : State} (hs : Apart s) : Apart (lossAction code s) :=
  .at_ite hs (.at_ite (.at_withdrawLeg hs) (.at_ite hs (.at_ite (.at_causeEvery (.at_chopStop hs)) (.at_causeEach hs))))

theorem Apart.at_prtLoss {n : Nat} {k : Loss} {s : State} (hs : Apart s) : Apart (prtLoss n k s) :=
  .at_lossAction (.frame (by simp) hs)

theorem Apart.at_declareLoss {n : Nat} {at' : Int} {inPrt : Bool} {k : Loss} {s : State} (hs : Apart s) :
    Apart (declareLoss n at' inPrt k s) :=
  .at_ite hs (.at_ite (.at_prtLoss hs) (.frame (by simp) hs))

/-! ### The Region Gain Table -/

theorem Apart.at_sreCheck {s : State} (hs : Apart s) : Apart (sreCheck s) :=
  .at_foldl (fun _ _ h => .at_ite (.at_causeAt (.frame (by simp) h)) h) hs

/-! ### Modulators -/

theorem Apart.at_showCarrier {p : Plane} {cyc : Int} {s : State} (hs : Apart s) : Apart (showCarrier p cyc s) :=
  .at_ite (.at_refreshOut hs) hs

theorem Apart.at_cutArrival {p : Plane} {at' : Nat} {s : State} (hs : Apart s) : Apart (cutArrival p at' s) :=
  .at_ite hs (.at_refreshOut (.frame (updMod_prt ..) (.at_updPrt rfl rfl (.frame (by simp) hs))))

/-! ### Clocks -/

theorem Apart.at_startFallback {s : State} (hs : Apart s) : Apart (startFallback s) := .at_ite hs (.at_causeEvery hs)
theorem Apart.at_freqWindow {w : FreqWin} {s : State} (hs : Apart s) : Apart (freqWindow w s) :=
  .at_ite hs (.at_ite (.at_startFallback (.frame (by simp) hs)) (.frame (by simp) hs))

/-! ### Carrier counters -/

theorem Apart.at_turnEvent {p : Plane} {bs : List Nat} {cas : Bool} {w : RaceWrite} {s : State} (hs : Apart s) :
    Apart (turnEvent p bs cas w s) :=
  .at_showCarrier (.frame (by simp) hs)

theorem Apart.at_feedEvent {p : Plane} {s : State} (hs : Apart s) : Apart (feedEvent p s) := by
  unfold feedEvent
  split
  · exact hs
  · exact .at_showCarrier (.frame (by simp) hs)

theorem Apart.at_carrierReload {p : Plane} {bs : List Nat} {w : RaceWrite} {s : State} (hs : Apart s) :
    Apart (carrierReload p bs w s) :=
  .at_ite (.at_turnEvent hs) hs

theorem Apart.at_catchUp {p : Plane} {bs : List Nat} {x : Int} {k : Nat} {s : State} (hs : Apart s) :
    Apart (catchUp p bs x k s) := by
  induction k generalizing s with
  | zero => exact hs
  | succ k ih =>
    unfold catchUp
    dsimp only
    split
    · exact .at_ite (ih (.at_feedEvent hs)) hs
    · exact .at_ite (ih (.at_turnEvent hs)) hs

theorem Apart.at_atStrobe {p : Plane} {x : Int} {s : State} (hs : Apart s) : Apart (atStrobe p x s) :=
  .at_ite (.at_turnEvent (by split; exacts [(.at_ite (.at_feedEvent hs) hs), hs])) (by split; exacts [(.at_ite
    (.at_feedEvent hs) hs), hs])

theorem Apart.at_maskStep {p : Plane} {x : Nat} {s : State} (hs : Apart s) : Apart (maskStep p x s) :=
  .at_refreshOut (.frame (by simp) hs)

theorem Apart.at_encoderIndex {enc at' : Nat} {s : State} (hs : Apart s) : Apart (encoderIndex enc at' s) :=
  .at_ite hs (.at_foldl (fun _ _ h => .at_ite (.at_maskStep h) h) hs)

theorem Apart.at_maskComparator {tc at' : Nat} {s : State} (hs : Apart s) : Apart (maskComparator tc at' s) :=
  .at_ite hs (.at_foldl (fun _ _ h => .at_ite (.at_maskStep h) h) hs)

theorem Apart.at_debugResume {s : State} (hs : Apart s) : Apart (debugResume s) :=
  .at_ite (.at_foldl (fun _ _ h => .at_ite (.at_initMod h) h) (.frame (by simp) hs)) hs

/-! ### Lanes -/

theorem Apart.at_requestSafe {p : Plane} {s : State} (hs : Apart s) : Apart (requestSafe p s) :=
  .at_ite hs (.frame (updLane_prt ..) (.at_causeAt hs))

theorem Apart.at_feExpire {p : Plane} {leg : Nat} {s : State} (hs : Apart s) : Apart (feExpire p leg s) := by
  unfold feExpire
  split
  · exact .frame (by simp) hs
  · exact .at_ite (.frame (by simp) hs) (.at_requestSafe (.frame (by simp) hs))
  · exact .at_requestSafe (.frame (by simp) hs)

theorem Apart.at_supervise {p : Plane} {m : Meas} {s : State} (hs : Apart s) : Apart (supervise p m s) :=
  .at_ite (.at_foldl (fun _ _ h => .at_ite (.at_feExpire h) h) hs) hs

/-! ### Network time and the Ethernet ports -/

theorem Apart.at_fireComparator {tc at' : Nat} {s : State} (hs : Apart s) : Apart (fireComparator tc at' s) :=
  .at_atTime (fun _ h => .frame (replayComparator_prt ..) (.frame (fireKind_prt ..) (.at_maskComparator (.frame (by simp) h)))) hs

theorem Apart.at_armComparator {tc : Nat} {s : State} (hs : Apart s) : Apart (armComparator tc s) :=
  .at_ite (.at_fireComparator hs) hs

theorem Apart.at_tcFire {tc at' : Nat} {s : State} (hs : Apart s) : Apart (tcFire tc at' s) :=
  .at_ite (.at_fireComparator hs) hs

theorem Apart.at_dueComparators {n : Nat} {s : State} (hs : Apart s) : Apart (dueComparators n s) :=
  .at_foldl (fun _ _ h => .at_ite (.at_fireComparator h) h) hs

theorem Apart.at_stepNet {d : Int} {s : State} (hs : Apart s) : Apart (stepNet d s) :=
  .at_ite (.frame (by simp) hs) (.frame (stepFrames_prt ..) (.frame (stepFrames_prt ..) (.at_foldl (fun _ _ h => .at_ite
    (.at_fireComparator h) h) (.frame (by simp) hs))))

theorem Apart.at_treatOffset {off slew : Int} {s : State} (hs : Apart s) : Apart (treatOffset off slew s) :=
  .at_ite (.frame (by simp) hs) (.at_ite (.frame (writeRate_prt ..) (.frame (clearSuspect_prt ..) (.frame (raiseFlag_prt ..)
    (.at_stepNet hs)))) (.frame (by simp) hs))

theorem Apart.at_ptpSync {m : PtpSync} {s0 : State} (hs : Apart s0) : Apart (ptpSync m s0) := by
  unfold ptpSync
  extract_lets s off s1 lim s2
  have h1 : Apart s1 := .frame (by simp [s1, s]) hs
  have h2 : Apart s2 := .frame (by simp [s2]) h1
  exact .at_ite hs <| .at_ite h1 <|
    .at_ite (.frame (flagEvent_prt ..) (.frame (writeRate_prt ..) (.frame (updTime_prt ..) (.at_stepNet h2))))
      (.frame (servoStep_prt ..) (.at_treatOffset h2))

theorem Apart.at_stepBack {s : State} (hs : Apart s) : Apart (stepBack s).1 := by
  unfold stepBack
  split
  · exact .frame (by simp) hs
  · exact .at_done (fun _ h => .frame (raiseFlag_prt ..) (.frame (clearSuspect_prt ..) (.frame (updTime_prt ..)
      (.at_stepNet h)))) hs

/-! ### Trip measurement -/

theorem Apart.at_ftEval {p : Plane} {f : Nat} {s : State} (hs : Apart s) : Apart (ftEval p f s) :=
  .at_ite (.frame (raiseNum_prt ..) (.frame (count_prt ..) (.at_updPrt rfl rfl hs))) (.at_updPrt rfl rfl hs)

theorem Apart.at_makeCut {p : Plane} {m : Ports} {s : State} (hs : Apart s) : Apart (makeCut p m s) :=
  .at_ite hs (.at_updPrt rfl rfl hs)

theorem Apart.at_ftCause {soft : Ports} {x : Plane × Nat} {s : State} (hs : Apart s) : Apart (ftCause soft s x) := by
  unfold ftCause
  split
  · exact .at_causeAt hs
  · exact .at_causeEvery hs
  · exact hs

theorem Apart.at_ftActs {s : State} (hs : Apart s) : Apart (ftActs s) :=
  .at_foldl (fun _ _ h => .at_ftCause h) (.at_settle (.at_foldl (fun _ _ h => .at_makeCut h) hs))

theorem Apart.at_writeCuts {s : State} (hs : Apart s) : Apart (writeCuts s) := .at_updPrt rfl rfl hs
theorem Apart.at_chopEval {s : State} (hs : Apart s) : Apart (chopEval s) :=
  .at_ite (.at_settle (.at_override (.at_updPrt rfl rfl hs))) (.at_ite (.at_chopStop hs) hs)

theorem Apart.at_staticCheck {s : State} (hs : Apart s) : Apart (staticCheck s) := by
  unfold staticCheck
  split
  · exact hs
  · exact .at_ite (.at_causeEach hs) hs

theorem Apart.at_driveTest {p : Plane} {s : State} (hs : Apart s) : Apart (driveTest p s) := .at_settle (.at_override hs)
theorem Apart.at_ageTest {d : Nat} {p : Plane} {s : State} (hs : Apart s) : Apart (ageTest d p s) :=
  .at_ite (.at_driveTest hs) hs

theorem Apart.at_agePorts {s : State} (hs : Apart s) : Apart (agePorts s) :=
  .at_foldl (fun _ _ h => .at_ageTest h) (.at_settle (.at_updPrt rfl rfl hs))

theorem Apart.at_tripOutput {bs edges : List Nat} {s : State} (hs : Apart s) : Apart (tripOutput bs edges s) :=
  .at_ite (.at_chopEval (.at_staticCheck (.at_ftActs (.at_eachFt (fun _ _ _ h => .at_ftEval h) (.at_writeCuts (.frame
    (tripMeas_prt ..) (.at_agePorts hs))))))) hs

/-! ### Planes -/

theorem Apart.at_goPlane {p : Plane} {s : State} (hs : Apart s) : Apart (goPlane p s) := .at_ite hs (.at_driveTest hs)
theorem Apart.at_endSequence {fail : List Nat} {p : Plane} {s : State} (hs : Apart s) : Apart (endSequence fail p s) :=
  .at_ite hs (.frame (raiseNum_prt ..) (.at_ite (.at_foldl (fun _ _ h => .frame (by simp) h) (.at_driveTest hs))
    (.at_driveTest hs)))

theorem Apart.at_testSequenceEnd {fail : List Nat} {s : State} (hs : Apart s) : Apart (testSequenceEnd fail s) :=
  .at_foldl (fun _ _ h => .at_endSequence h) hs

theorem Apart.at_doEnable {p : Plane} {s : State} (hs : Apart s) : Apart (doEnable p s) :=
  .frame (enterState_prt ..) (.frame (startCounter_prt ..) (.at_initMod (.frame (by simp) hs)))

theorem Apart.at_enterReady {p : Plane} {s : State} (hs : Apart s) : Apart (enterReady p s) :=
  .at_ite (.at_ite (.at_causeAt (.frame (updLane_prt ..) (.at_settle (.frame (enterState_prt ..) (.at_initMod
    (.at_releaseOvr hs)))))) (.frame (updLane_prt ..) (.at_settle (.frame (enterState_prt ..) (.at_initMod
      (.at_releaseOvr hs)))))) (.at_causeAt (.at_forceBlock (.at_ite (.at_causeAt (.frame (updLane_prt ..) (.at_settle (.frame
        (enterState_prt ..) (.at_initMod (.at_releaseOvr hs)))))) (.frame (updLane_prt ..) (.at_settle (.frame (enterState_prt
          ..) (.at_initMod (.at_releaseOvr hs))))))))

theorem Apart.at_doDisarm {p : Plane} {s : State} (hs : Apart s) : Apart (doDisarm p s) :=
  .at_settle (.frame (enterState_prt ..) (.frame (updLane_prt ..) (.at_suppliesOff (.at_override (.at_updPrt rfl rfl hs)))))

theorem Apart.at_doTestEnter {p : Plane} {s : State} (hs : Apart s) : Apart (doTestEnter p s) :=
  .at_driveTest (.frame (enterState_prt ..) (.at_updPrt rfl rfl hs))

theorem Apart.at_doTestExit {p : Plane} {s : State} (hs : Apart s) : Apart (doTestExit p s) := .at_enterReady hs
theorem Apart.at_doClear {p : Plane} {s : State} (hs : Apart s) : Apart (doClear p s) := .at_enterReady (.at_updPrt rfl rfl hs)
theorem Apart.at_planeWork {op : Nat} {p : Plane} {h : Nat} {s : State} (hs : Apart s) : Apart (planeWork op p h s).1 := by
  unfold planeWork
  extract_lets short need
  have hshort : ∀ st {f : State → State}, Apart (f s) → Apart (short st f).1 := fun st f hf => .at_ite_fst hf hs
  exact .at_ite_fst (hshort _ (.at_doEnable hs)) <|
    .at_ite_fst (.at_ite_fst (.frame (updLane_prt ..) (.at_suppliesOn hs)) hs) <|
    .at_ite_fst (hshort _ (.frame (by simp) hs)) <| .at_ite_fst (.at_ite_fst (.frame (by simp) hs) hs) <|
    .at_ite_fst (hshort _ (.at_doDisarm hs)) <| .at_ite_fst (hshort _ (.frame (by simp) hs)) <|
    .at_ite_fst hs <| .at_ite_fst (hshort _ (.at_doTestEnter hs)) (hshort _ (.at_doTestExit hs))

theorem Apart.at_runQueue {p : Plane} {k : Nat} {s : State} (hs : Apart s) : Apart (runQueue p k s) := by
  induction k generalizing s with
  | zero => exact hs
  | succ k ih =>
    have hw : ∀ h op t, Apart (planeWork op p h (updLane p (fun l => { l with queued := t }) s)).1 :=
      fun h op t => .at_planeWork (.frame (updLane_prt ..) hs)
    unfold runQueue
    dsimp only
    split
    · exact hs
    · split
      · exact hs
      · exact .at_ite (.at_ite (.frame (updLane_prt ..) (hw ..)) (hw ..)) (ih (.frame (complete_prt ..) (hw ..)))

theorem Apart.at_drainQueue {p : Plane} {s : State} (hs : Apart s) : Apart (drainQueue p s) := .at_ite (.at_runQueue hs) hs
theorem Apart.at_planeBody {op : Nat} {e : Env} {pay : PPay} {h : Nat} {s : State} (hs : Apart s) :
    Apart (planeBody op e pay h s).1 := by
  unfold planeBody
  split
  · exact hs
  · split
    · exact hs
    · dsimp only
      repeat' split
      · exact hs
      · exact .at_accepted (fun _ h => .frame (updLane_prt ..) h) hs
      · exact .frame (updLane_prt ..) (.at_planeWork hs)
      · exact .at_accepted (fun _ _ => .at_planeWork (.frame (allocHandle_prt ..) hs)) hs
      · exact .at_planeWork hs

theorem Apart.at_planeCommand {op : Nat} {e : Env} {pay : PPay} {s : State} (hs : Apart s) : Apart (planeCommand op e pay s) :=
  .at_serve (fun _ _ h => .at_planeBody h) hs

theorem Apart.at_armReady {p : Plane} {s : State} (hs : Apart s) : Apart (armReady p s) := by
  unfold armReady
  split
  · exact .at_ite (.at_drainQueue (.frame (complete_prt ..) (.frame (startSkew_prt ..) (.at_enterReady hs)))) hs
  · exact hs

theorem Apart.at_armTimeout {p : Plane} {s : State} (hs : Apart s) : Apart (armTimeout p s) := by
  unfold armTimeout
  split
  · exact .at_ite (.at_ite (.frame (takeFails_prt ..) (.at_drainQueue (.frame (complete_prt ..) (.at_settle
      (.at_suppliesOff hs))))) (.at_drainQueue (.frame (complete_prt ..) (.at_settle (.at_suppliesOff hs))))) hs
  · exact hs

theorem Apart.at_finishStop {p : Plane} {s : State} (hs : Apart s) : Apart (finishStop p s) := by
  unfold finishStop
  extract_lets l s1 s2 s3 s4
  have h2 : Apart s2 := .at_enterReady (.frame (updLane_prt ..) hs)
  have h3 : Apart s3 := .at_ite (.at_leaveLaw (.frame (cancelAll_prt ..) h2)) h2
  have h4 : Apart s4 := .frame (by unfold s4; split <;> simp) h3
  exact .frame (cancelAll_prt ..) h4

theorem Apart.at_strobeClear {p : Plane} {s : State} (hs : Apart s) : Apart (strobeClear p s) := by
  unfold strobeClear
  split
  · exact hs
  · exact .at_drainQueue (.at_foldl (fun _ _ h => by split <;> exact (.frame (by simp) h)) (.at_ite (.at_doClear hs) hs))

/-! ### The strobe -/

theorem Apart.at_applyDec {n : Nat} {p : Plane} {s : State} (hs : Apart s) : Apart (applyDec n p s) := by
  unfold applyDec
  extract_lets l m s0
  have h0 : Apart s0 := .frame (by simp [s0]) hs
  have hend : Apart (endPeriod p n s0) := .frame (endPeriod_prt ..) h0
  refine .at_ite hend ?_
  split
  · exact .at_ite h0 hend
  · refine .at_ite (.at_finishStop (.at_ite h0 hend)) (.at_ite (.frame (enterBand_prt ..) h0) (.at_ite ?_ ?_))
    · split <;> exact .frame (by simp) h0
    · split <;> exact .frame (by simp) h0

theorem Apart.at_strobeStop {p : Plane} {s : State} (hs : Apart s) : Apart (strobeStop p s) := .at_ite (.at_finishStop hs) hs
theorem Apart.at_releaseChop {p : Plane} {s : State} (hs : Apart s) : Apart (releaseChop p s) :=
  .at_ite (.at_settle (.at_updPrt rfl rfl hs)) hs

theorem Apart.at_strobeStart {p : Plane} {s : State} (hs : Apart s) : Apart (strobeStart p s) :=
  .at_ite (.at_showCarrier (.at_releaseChop (.frame (by simp) hs))) hs

theorem Apart.at_decideRunning {p : Plane} {s : State} (hs : Apart s) : Apart (decideRunning p s) := by
  unfold decideRunning
  extract_lets m s1 s2 q
  have h1 : Apart s1 := .at_supervise hs
  have h2 : Apart s2 := .at_ite h1 (.at_ite (.frame (by simp) h1) (.frame (by simp) h1))
  exact .at_ite h1 h2

theorem Apart.at_decideLane {p : Plane} {s : State} (hs : Apart s) : Apart (decideLane p s) :=
  .at_ite (.at_ite (.at_requestSafe hs) (.at_ite (.at_decideRunning hs) (.frame (by simp) hs))) hs

theorem Apart.at_ascWanted {s : State} (hs : Apart s) : Apart (ascWanted s) := .at_ite hs (.at_rechoose (.at_updPrt rfl rfl hs))
theorem Apart.at_beforeStrobe {n : Nat} {bs : List Nat} {s : State} (hs : Apart s) : Apart (beforeStrobe n bs s) :=
  .at_eachPlane (fun _ _ h => .frame (keepUntil_prt ..) (.at_ite (.at_showCarrier (.at_atStrobe (.at_catchUp h))) h)) hs

theorem Apart.at_applyStrobe {n : Nat} {s : State} (hs : Apart s) : Apart (applyStrobe n s) := by
  unfold applyStrobe
  exact .at_eachPlane (fun _ _ h => .at_strobeStart h) <|
    .at_eachPlane (fun _ _ h => .at_strobeClear h) <|
    .at_eachPlane (fun _ _ h => .frame (by simp) h) <|
    .at_eachPlane (fun _ _ h => .at_ite (.at_showCarrier h) (.at_refreshOut h)) <|
    .at_eachPlane (fun _ _ h => .at_strobeStop h) <|
    .at_eachPlane (fun _ _ h => .frame (by simp) h) <|
    .at_eachPlane (fun _ _ h => .at_applyDec h) <|
    .at_eachPlane (fun _ _ h => .frame (by simp) h) <|
    .at_takeWaiting (fun _ _ _ h => .frame (by simp) h) hs

theorem Apart.at_computeLanes {s : State} (hs : Apart s) : Apart (computeLanes s) :=
  .at_eachPlane (fun _ _ h => .frame (by simp) h) (.frame (injectCheck_prt ..) (.at_eachPlane (fun _ _ h => .at_decideLane h)
    (.frame (keepWeights_prt ..) (.at_eachPlane (fun _ _ h => .frame (by simp) h) (.at_ascWanted (.frame (by simp) hs))))))

theorem Apart.at_controlStrobe {switch : State → State} {bs : List Nat} {s0 : State} (hw : ∀ s, Apart s → Apart (switch s))
    (hs : Apart s0) :
    Apart (controlStrobe switch bs s0) := by
  unfold controlStrobe
  extract_lets n s s1 a s2 s3 s4 s5
  have h : Apart s := .frame (driveMarks_prt ..) (.at_dueComparators hs)
  have h1 : Apart s1 := .frame (ptpTick_prt ..) (.frame (nextIndex_prt ..) (.frame (advanceTime_prt ..) h))
  have h2 : Apart s2 := .at_applyStrobe (hw _ (.at_beforeStrobe h1))
  have h3 : Apart s3 := .frame (takeSamples_prt ..) (.at_eachPlane (fun _ _ h => .frame (updLane_prt ..) h) h2)
  have h4 : Apart s4 := .at_computeLanes h3
  have h5 : Apart s5 := .at_eachPlane (fun _ _ h => .at_ite (.frame (takeCas_prt ..) h) h) h4
  exact .at_ite (.at_ite (.frame (ptpTick_prt ..) (.frame (advanceTime_prt ..) h)) hs)
    (.at_ite (.at_eachPlane (fun _ _ h => .frame (shiftMark_prt ..) h) h1) (.frame (by simp) h5))

/-! ### The commit point -/

theorem Apart.at_overrun {p : Plane} {s : State} (hs : Apart s) : Apart (overrun p s) := .at_ite (.at_requestSafe hs) hs
theorem Apart.at_commitLane {late : List Plane} {p : Plane} {s : State} (hs : Apart s) : Apart (commitLane late p s) :=
  .at_ite hs (.at_ite (.at_overrun hs) (.frame (by simp) hs))

theorem Apart.at_commitPoint {late : List Plane} {s : State} (hs : Apart s) : Apart (commitPoint late s) :=
  .at_ite hs (.frame (captureBundle_prt ..) (.at_takeWaiting (fun _ _ _ h => h) (.at_eachPlane (fun _ _ h => .frame (by simp) h)
    (.at_eachPlane (fun _ _ h => .at_commitLane h) hs))))

/-! ### Plane G's laws -/

theorem Apart.at_permitOn {s : State} (hs : Apart s) : Apart (permitOn s) :=
  .at_ite hs (.frame (setParBit_prt ..) (.at_setBrk hs))

theorem Apart.at_permitOff {s : State} (hs : Apart s) : Apart (permitOff s) := .at_setBrk hs
theorem Apart.at_frtExit {s : State} (hs : Apart s) : Apart (frtExit s) := by
  unfold frtExit
  split
  · exact .at_permitOff (.frame (by simp) hs)
  · exact .frame (campionStop_prt ..) (.at_permitOff (.frame (by simp) hs))
  · exact .frame (by simp) hs

theorem Apart.at_frtStep {o : GEst} {s : State} (hs : Apart s) : Apart (frtStep o s) :=
  .at_ite hs (.at_ite (.frame (by simp) hs) (.at_ite hs (.at_ite (.at_frtExit hs) hs)))

theorem Apart.at_endSync {st cause : Nat} {s : State} (hs : Apart s) : Apart (endSync st cause s) := by
  unfold endSync
  extract_lets s1 s2
  have h1 : Apart s1 := .at_foldl (fun _ _ h => .frame (complete_prt ..) h) hs
  have h2 : Apart s2 := .frame (by simp [s2]) h1
  exact .at_ite (.at_ite (.at_permitOff h2) h2) h1

theorem Apart.at_deadPermit {o : GEst} {s : State} (hs : Apart s) : Apart (deadPermit o s) := .at_ite (.at_permitOn hs) hs
theorem Apart.at_auxEdge {s : State} (hs : Apart s) : Apart (auxEdge s) :=
  .at_ite (.at_ite (.at_permitOff (.frame (by simp) hs)) (.frame (by simp) hs)) hs

theorem Apart.at_syncStep {o : GEst} {s : State} (hs : Apart s) : Apart (syncStep o s) := by
  have hu : ∀ f, Apart (updGfm f s) := fun f => .frame (updGfm_prt ..) hs
  unfold syncStep
  extract_lets f dth dthp hund lf lv la fits s1 t n s2
  have h1 : Apart s1 := .frame (setPar_prt ..) hs
  have h2 : Apart s2 := .frame (updGfm_prt ..) h1
  exact .at_ite hs (.at_ite (.at_endSync (hu _)) (.at_ite (.at_endSync hs) (.at_ite (.at_endSync hs)
    (.at_ite (.at_ite (.at_permitOff (.frame (updGfm_prt ..) h1)) (.frame (updGfm_prt ..) h1))
      (.at_ite (.frame (raiseNum_prt ..) (.at_permitOn h2)) h2)))))

theorem Apart.at_gRun {o : GEst} {s : State} (hs : Apart s) : Apart (gRun o s) := by
  unfold gRun
  extract_lets opened s1 req s2 s3
  have h2 : Apart s2 := .frame (injectEnd_prt ..) (.at_frtStep (.frame (limitStep_prt ..)
    (.at_syncStep (.at_deadPermit (.at_auxEdge hs)))))
  have h3 : Apart s3 := .frame (updGfm_prt ..) h2
  exact .at_ite (.frame (startG_prt ..) hs) (.at_ite (.frame (followRun_prt ..) h3)
    (.at_ite (.frame (toFollowLaw_prt ..) h3) (.frame (by simp) h3)))

theorem Apart.at_gBoundary {s : State} (hs : Apart s) : Apart (gBoundary s) :=
  .at_ite (.at_gRun (.frame (by simp) hs)) (.frame (gNone_prt ..) (.at_auxEdge (.frame (by simp) hs)))

theorem Apart.at_lawWritten {v : Nat} {s : State} (hs : Apart s) : Apart (lawWritten v s) :=
  .frame (updGfm_prt ..) (.at_ite (.at_endSync hs) hs)

/-! ### Planes M, D and B -/

theorem Apart.at_dcLow {s : State} (hs : Apart s) : Apart (dcLow s) := by
  unfold dcLow
  extract_lets v n s1 s2
  have h1 : Apart s1 := .frame (updMsd_prt ..) hs
  have h2 : Apart s2 := .frame (raiseFlag_prt ..) h1
  refine .at_ite (.frame (updMsd_prt ..) hs) (.at_ite ?_ h1)
  split
  · exact .at_setBrk h2
  · exact .frame (campionStop_prt ..) h2
  · exact h2

theorem Apart.at_mBoundary {o : OuterIn} {s : State} (hs : Apart s) : Apart (mBoundary o s) := .at_dcLow (.frame (by simp) hs)

/-! ### The pair -/

theorem Apart.at_giveArm {p : Plane} {s : State} (hs : Apart s) : Apart (giveArm p s).1 := by
  unfold giveArm
  extract_lets s1
  have h1 : Apart s1 := .at_ite (.at_doEnable hs) hs
  repeat' split
  · exact h1
  · exact .frame (updLane_prt ..) (.at_suppliesOn h1)
  · exact h1

theorem Apart.at_givePlanes {c : Nat} {s : State} (hs : Apart s) : Apart (givePlanes c s) := by
  unfold givePlanes
  split
  · exact hs
  · extract_lets s1 b d g
    have h1 : Apart s1 := .frame (by unfold s1; split <;> simp) hs
    have hg : Apart g.1 := .at_giveArm (.at_giveArm (.at_giveArm h1))
    exact .at_ite hg (.frame (takeFails_prt ..) hg)

theorem Apart.at_beginTake {c : Nat} {s : State} (hs : Apart s) : Apart (beginTake c s) :=
  .at_ite (.frame (by simp) hs) (.at_ite hs (.at_givePlanes hs))

theorem Apart.at_takeover {c : Nat} {s : State} (hs : Apart s) : Apart (takeover c s) := .at_ite (.at_beginTake hs) hs
theorem Apart.at_takePermit {s : State} (hs : Apart s) : Apart (takePermit s) := by
  unfold takePermit
  split
  · exact .at_ite hs (.at_ite (.frame (by simp) hs) (.at_ite (.frame (by simp) hs) (.at_ite (.frame (takeDone_prt ..) (.at_ite
      (.frame (setPar_prt ..) (.at_permitOn hs)) hs)) hs)))
  · exact hs

theorem Apart.at_powerDownCold {s : State} : Apart (powerDownCold s) := (BitVec.zero_and : (0 : Ports) &&& 0 = 0)
theorem Apart.at_redCtrlWritten {v c : Nat} {s : State} (hs : Apart s) : Apart (redCtrlWritten v c s) :=
  .at_ite (.at_beginTake (.frame (by simp) hs)) (.at_ite .at_powerDownCold (.frame (by simp) hs))

/-! ### Campion -/

theorem Apart.at_campionWord {id v : Nat} {s : State} (hs : Apart s) : Apart (campionWord id v s) :=
  .at_ite (.at_lawWritten hs) (.frame (by simp) hs)

theorem Apart.at_allLaws {o : OuterIn} {s : State} (hs : Apart s) : Apart (allLaws o s) := .at_mBoundary (.at_gBoundary hs)
theorem Apart.at_dryRun {p : Plane} {o : OuterIn} {s real : State} (hs : Apart real) : Apart (dryRun p o s real) :=
  .at_ite (.frame (by simp) hs) (by split <;> exact (.frame (by simp) hs))

theorem Apart.at_twoBoundaries {o : OuterIn} {s : State} (hs : Apart s) : Apart (twoBoundaries o s) :=
  .at_allLaws (.frame (withIndex_prt ..) (.at_allLaws (.frame (by simp) hs)))

theorem Apart.at_lawsAt {o : OuterIn} {s : State} (hs : Apart s) : Apart (lawsAt o s) := by
  unfold lawsAt
  split
  · exact .at_allLaws hs
  · extract_lets s1 s2 s3
    have h2 : Apart s2 := .frame (updGfm_prt ..) (.at_ite (.frame rfl hs) hs)
    have h3 : Apart s3 := .frame (updFw_prt ..) (.at_ite (.at_twoBoundaries h2) (.at_allLaws h2))
    exact .at_ite (.at_allLaws hs) (.at_ite (.frame (updFw_prt ..) hs) (.at_ite (.frame (endActivation_prt ..) h3) h3))

theorem Apart.at_outerBoundary {o : OuterIn} {s : State} (hs : Apart s) : Apart (outerBoundary o s) := by
  unfold outerBoundary
  extract_lets s0 s1 real s2
  have h0 : Apart s0 := .frame (updRed_prt ..) (.frame (updGfm_prt ..) (.at_takeWaiting (fun _ _ _ h => .at_campionWord h) hs))
  have hr : Apart real := .frame (writeSnapshot_prt ..) (.at_takePermit (.at_lawsAt (.frame (takeStarts_prt ..) h0)))
  have h2 : Apart s2 := by
    unfold s2
    split
    · exact .at_dryRun hr
    · exact hr
  exact .at_ite hs (.frame (bumpFree_prt ..) h2)

/-! ### Parameter writes -/

theorem Apart.at_clearCounter {id : Nat} {s : State} (hs : Apart s) : Apart (clearCounter id s) :=
  .at_ite (.at_rechoose (.at_updPrt rfl rfl hs)) hs

theorem Apart.at_clearBits {id v : Nat} {s : State} (hs : Apart s) : Apart (clearBits id v s) :=
  .at_ite (.at_rechoose (.at_settle (.at_updPrt rfl rfl hs))) hs

theorem Apart.at_woWritten {id v : Nat} {s : State} (hs : Apart s) : Apart (woWritten id v s) :=
  .at_ite (.frame (by simp) hs) (.at_ite hs (.at_ite (.frame (by simp) hs) (.at_ite (.at_eachPlane (fun _ _ h =>
    .at_goPlane h) hs) (.at_ite (.frame (by simp) hs) (.at_ite (.at_redCtrlWritten hs) (.at_ite (.frame (by simp) hs)
      (by split; exacts [(.frame (by simp) hs), hs])))))))

theorem Apart.at_modWritten {p : Plane} {id v : Nat} {s : State} (hs : Apart s) : Apart (modWritten p id v s) :=
  .at_ite (.frame (by simp) hs) (.at_ite (.at_refreshOut (.frame (by simp) hs)) hs)

theorem Apart.at_testWritten {s : State} (hs : Apart s) : Apart (testWritten s) :=
  .at_eachPlane (fun _ _ h => .at_ite (.at_driveTest h) h) hs

theorem Apart.at_limitWritten {v : Nat} {s : State} (hs : Apart s) : Apart (limitWritten v s) :=
  .at_rechoose (.at_settle (.at_updPrt rfl rfl hs))

theorem Apart.at_rwWritten {id old v : Nat} {s : State} (hs : Apart s) : Apart (rwWritten id old v s) := by
  have hf : ∀ {t : State}, t.prt = s.prt → Apart t := fun h => .frame h hs
  unfold rwWritten
  refine .at_ite (.at_setBrk (.at_setBrk hs)) <| .at_ite (.at_testWritten hs) <| .at_ite (.at_limitWritten hs) <|
    .at_ite (.at_rechoose hs) <| .at_ite (.at_chopStop hs) <| .at_ite (hf (by simp)) <| .at_ite (hf (by simp)) <|
    .at_ite (hf (by simp)) <| .at_ite (hf (by simp)) <| .at_ite (hf (by simp)) <| .at_ite (hf (by simp)) <|
    .at_ite (.at_armComparator hs) ?_
  split
  · exact .at_modWritten hs
  · exact hs

theorem Apart.at_liveWrite {id v : Nat} {s : State} (hs : Apart s) : Apart (liveWrite id v s) := by
  unfold liveWrite
  split
  · exact hs
  · split
    · exact hs
    · exact .at_ite (.at_clearCounter hs) hs
    · exact .at_clearBits hs
    · exact .at_woWritten hs
    · exact .at_ite (.frame (by simp) hs) (.at_rwWritten hs)

theorem Apart.at_boundaryWord {id v : Nat} {s : State} (hs : Apart s) : Apart (boundaryWord id v s) := by
  unfold boundaryWord
  split
  · exact .frame (by simp) hs
  · exact .at_campionWord hs
  · exact hs

theorem Apart.at_applyEntry {e : PEntry} {s : State} (hs : Apart s) : Apart (applyEntry s e) := by
  unfold applyEntry
  split
  · exact hs
  · split
    · exact .frame (by simp) hs
    · exact .frame (by simp) hs
    · exact .at_liveWrite hs

theorem Apart.at_switchEntry {e : PEntry} {s : State} (hs : Apart s) : Apart (switchEntry s e) := by
  unfold switchEntry
  split
  · exact hs
  · split
    · exact .at_boundaryWord hs
    · exact .frame (by simp) hs
    · exact .at_liveWrite hs

/-! ### SET_PARAM -/

theorem Apart.at_applyAll {es : List PEntry} {s : State} (hs : Apart s) : Apart (applyAll es s) :=
  .at_foldl (fun _ _ h => .at_applyEntry h) hs

theorem Apart.at_directWrite {ctl : Bool} {es : List PEntry} {s : State} (hs : Apart s) : Apart (directWrite ctl es s).1 := by
  unfold directWrite
  split
  · exact .frame (by simp) hs
  · split
    · exact hs
    · exact .at_done (fun _ h => .at_applyAll h) hs

theorem Apart.at_paramBody {ctl : Bool} {h resv : Nat} {es : List PEntry} {s : State} (hs : Apart s) :
    Apart (paramBody ctl h resv es s).1 := by
  unfold paramBody
  split
  · exact .frame (by simp) hs
  · split
    · exact .at_directWrite hs
    · exact .frame (by simp) hs

theorem Apart.at_setParam {ctl : Bool} {e : Env} {es : List PEntry} {resv : Nat} {s : State} (hs : Apart s) :
    Apart (setParam ctl e es resv s) :=
  .at_withLength (fun _ h => .at_serveShort (fun _ h2 => .at_paramBody h2) h) hs

theorem Apart.at_readClear {ids : List Nat} {s : State} (hs : Apart s) : Apart (readClear ids s) :=
  .at_foldl (fun _ _ h => by split; exacts [(.at_ite (.at_clearCounter h) h), h]) hs

theorem Apart.at_getBody {clear : Bool} {ids : List Nat} {s : State} (hs : Apart s) : Apart (getBody clear ids s).1 := by
  unfold getBody
  split
  · exact .frame (by simp) hs
  · split
    · exact hs
    · exact .at_ite (.at_readClear hs) hs

theorem Apart.at_getParam {e : Env} {ids : List Nat} {s : State} (hs : Apart s) : Apart (getParam e ids s) :=
  .at_withLength (fun _ h => .at_serve (fun _ _ h2 => .at_getBody h2) h) hs

theorem Apart.at_writeWords {e : Env} {ws : List (Nat × Word)} {s : State} (hs : Apart s) : Apart (writeWords e ws s) :=
  .at_setParam hs

/-! ### Transactions -/

theorem Apart.at_switchCtl {t : Txn} {s : State} (hs : Apart s) : Apart (switchCtl t s) :=
  .frame (swapTiles_prt ..) (.at_foldl (fun _ _ h => .at_switchEntry h) hs)

theorem Apart.at_ctlSwitch {s : State} (hs : Apart s) : Apart (ctlSwitch s) := by
  unfold ctlSwitch
  split
  · exact .at_ite (.at_switchCtl hs) hs
  · exact hs

theorem Apart.at_switchGroup {t : Txn} {s : State} (hs : Apart s) : Apart (switchGroup t s) :=
  .at_ite (.at_switchCtl (.at_foldl (fun _ _ h => .at_switchEntry h) hs)) (.at_foldl (fun _ _ h => .at_switchEntry h) hs)

theorem Apart.at_txnSwitch {s : State} (hs : Apart s) : Apart (txnSwitch s) := by
  unfold txnSwitch
  split
  · exact hs
  · exact .at_ite hs (.frame (afterSwitch_prt ..) (.at_switchGroup hs))

theorem Apart.at_txnGroupSwitch {ok : Bool} {s : State} (hs : Apart s) : Apart (txnGroupSwitch ok s) := by
  unfold txnGroupSwitch
  split
  · exact hs
  · exact .at_ite hs (.at_ite (.frame (by simp) hs) (.at_txnSwitch hs))

/-! ### Resets -/

theorem Apart.at_beginReset {kind : Nat} {s : State} (hs : Apart s) : Apart (beginReset kind s) :=
  .at_ite hs (.at_updPrt rfl rfl (.frame (closeRecord_prt ..) (.at_causeEvery hs)))

theorem Apart.at_systemReset {kind : Nat} {keep : Bool} {s : State} : Apart (systemReset kind keep s) :=
  (BitVec.zero_and : (0 : Ports) &&& 0 = 0)

theorem Apart.at_resetPin {s : State} (hs : Apart s) : Apart (resetPin s) :=
  .at_ite (.frame (requestFail_prt ..) (.at_beginReset hs)) hs

theorem Apart.at_resetEntry {s : State} (hs : Apart s) : Apart (resetEntry s) := by
  unfold resetEntry
  split
  · exact .at_ite .at_systemReset (.frame (holdReset_prt ..) .at_systemReset)
  · exact hs

theorem Apart.at_resetCommand {sel resv : Nat} {s : State} (hs : Apart s) : Apart (resetCommand sel resv s).1 := by
  unfold resetCommand
  split
  · exact .frame (by simp) hs
  · split
    · exact .at_done (fun _ h => .at_beginReset h) hs
    · exact .frame (by simp) hs

theorem Apart.at_supervisorReset {s : State} (hs : Apart s) : Apart (supervisorReset s) := .at_ite (.at_beginReset hs) hs
theorem Apart.at_supplyLow {v : Nat} {s : State} (hs : Apart s) : Apart (supplyLow v s) :=
  .at_ite hs (.at_ite (.at_updPrt rfl rfl hs) (.at_ite (.frame (raiseNum_prt ..) (.at_updPrt rfl rfl hs)) hs))

theorem Apart.at_powerLost {s : State} : Apart (powerLost s) := (BitVec.zero_and : (0 : Ports) &&& 0 = 0)
theorem Apart.at_supplyLoss {s : State} (hs : Apart s) : Apart (supplyLoss s) :=
  .at_ite .at_powerLost (.at_ite hs (.frame (presence_prt ..) (.frame (requestFail_prt ..) (.at_setBrk (.at_causeEvery
    (.frame (raiseNum_prt ..) (.at_updPrt rfl rfl hs)))))))

theorem Apart.at_corePowerDown {s : State} (hs : Apart s) : Apart (corePowerDown s) := by
  unfold corePowerDown
  split <;> exact hs

theorem Apart.at_mcRelayDrop {s : State} (hs : Apart s) : Apart (mcRelayDrop s) :=
  .at_ite (.at_setBrk (.at_updPrt rfl rfl hs)) hs

theorem Apart.at_brkDelay {s : State} (hs : Apart s) : Apart (brkDelay s) :=
  .at_ite (.frame (requestFail_prt ..) (.at_setBrk hs)) hs

/-! ### Firmware activation -/

theorem Apart.at_fwActivate {e : Env} {resv kh h : Nat} {s : State} (hs : Apart s) : Apart (fwActivate e resv kh h s).1 := by
  unfold fwActivate
  dsimp only
  repeat' split
  case isFalse.isFalse.isFalse => exact .at_beginReset (.frame (by simp) hs)
  all_goals exact hs

theorem Apart.at_drainAll {s : State} (hs : Apart s) : Apart (drainAll s) := .at_foldl (fun _ _ h => .at_drainQueue h) hs
theorem Apart.at_tansyRestartDone {s : State} (hs : Apart s) : Apart (tansyRestartDone s) := by
  unfold tansyRestartDone
  split
  · exact hs
  · exact .at_ite hs (.frame (endActivation_prt ..) (.frame (raiseFlag_prt ..) (.frame (takeMigrated_prt ..) (.frame (updFw_prt
      ..) (.at_drainAll (.frame (by simp) hs))))))

/-! ### Handles -/

theorem Apart.at_cancelPlane {h cause : Nat} {p : Plane} {s : State} (hs : Apart s) : Apart (cancelPlane h cause p s) :=
  .at_ite (.frame (by simp) hs) (.at_ite (.at_drainQueue (.frame (by simp) hs)) (.at_ite (.at_drainQueue (.frame (complete_prt
    ..) (.at_settle (.at_suppliesOff hs)))) hs))

theorem Apart.at_cancelOp {o : Op} {cause : Nat} {s : State} (hs : Apart s) : Apart (cancelOp o cause s) := by
  unfold cancelOp
  dsimp only
  repeat' split
  · exact .at_eachPlane (fun _ _ h => .at_cancelPlane h) hs
  · exact .at_endSync hs
  all_goals exact .frame (by simp) hs

theorem Apart.at_handleCancel {h : Nat} {s : State} (hs : Apart s) : Apart (handleCancel h s).1 := by
  unfold handleCancel
  split
  · split
    · exact .at_done (fun _ h => .at_cancelOp h) hs
    · exact .frame (by simp) hs
  · split <;> exact (.frame (by simp) hs)

/-! ### Groups -/

theorem Apart.at_groupApply {s : State} (hs : Apart s) : Apart (groupApply s) := by
  unfold groupApply
  split
  · exact hs
  · exact .at_ite hs (by split; exacts [(.at_ite (.frame (by simp) hs) (by split; exacts [(.frame (by simp) hs), (.frame
      (applied_prt ..) (.at_applyAll hs))])), (.frame (by simp) hs), (.at_ite hs (.at_ite (.at_beginReset (.frame (by simp) hs))
        (.frame (by simp) hs)))])

/-! ### Islands -/

theorem Apart.at_islandDown {i : Island} {s : State} (hs : Apart s) : Apart (islandDown i s) := by
  unfold islandDown
  split
  · exact .at_causeEvery (.frame (by simp) hs)
  · exact .at_causeEach (.frame (by simp) hs)
  · exact .frame (by simp) hs
  · exact .frame (by simp) hs
  · exact hs
  · exact .at_settle (.at_updPrt rfl rfl (.at_setBrk (.frame (by simp) hs)))

theorem Apart.at_islandStopped {i : Island} {s : State} (hs : Apart s) : Apart (islandStopped i s) :=
  .at_ite (.at_ite (.at_islandDown hs) (.frame (stopSequence_prt ..) (.at_islandDown hs))) hs

theorem Apart.at_restartMax {s : State} (hs : Apart s) : Apart (restartMax s) := .at_ite (.at_islandStopped hs) hs
theorem Apart.at_endOutstanding {s : State} (hs : Apart s) : Apart (endOutstanding s) :=
  .at_foldl (fun _ _ h => .at_ite h (.frame (complete_prt ..) (.at_cancelOp h))) (.frame (by simp) hs)

theorem Apart.at_restartSys {lost : List (Nat × Bool)} {s : State} (hs : Apart s) : Apart (restartSys lost s) :=
  .frame (startHealth_prt ..) (.frame (flushHeld_prt ..) (.at_endOutstanding (.frame (by simp) hs)))

theorem Apart.at_islandReset {i : Island} {lost : List (Nat × Bool)} {s : State} (hs : Apart s) :
    Apart (islandReset i lost s) :=
  .at_ite hs (by split; exacts [(.at_restartSys (.frame (by simp) hs)), (.frame (by simp) hs), (.frame (by simp) hs), (.frame
    (by simp) hs)])

/-! ### The boot -/

theorem Apart.at_migrationFails {schema id status : Nat} {s : State} (hs : Apart s) :
    Apart (migrationFails schema id status s) :=
  .at_beginReset (by split; exacts [(.frame (by simp) hs), hs])

theorem Apart.at_openRole {aon : Nat} {s : State} (hs : Apart s) : Apart (openRole aon s) := .at_ite (.at_givePlanes hs) hs
theorem Apart.at_settingsIn {aon hw : Nat} {s : State} (hs : Apart s) : Apart (settingsIn aon hw s) := by
  unfold settingsIn
  extract_lets s1 a b s2
  have h1 : Apart s1 := .frame (by simp [s1]) hs
  have h2 : Apart a := .at_takeM5v h1
  have h3 : Apart s2 := .frame (by simp [s2]) h2
  exact .at_openRole (.frame (by simp) h3)

theorem Apart.at_settingsLoaded {aon : Nat} {mig : Migr} {hw : Nat} {s : State} (hs : Apart s) :
    Apart (settingsLoaded aon mig hw s) := by
  unfold settingsLoaded
  dsimp only
  repeat' split
  · exact hs
  · exact .at_migrationFails hs
  · exact .at_settingsIn (.frame (by simp) hs)
  · exact .at_migrationFails hs
  · exact .at_settingsIn (.frame (by simp) hs)
  · exact .at_migrationFails hs
  · exact .frame (raiseFlag_prt ..) (.frame (raiseFlag_prt ..) (.at_settingsIn hs))

/-! ### URGENT commands -/

theorem Apart.at_uAct {op mask : Nat} {s : State} (hs : Apart s) : Apart (uAct op mask s) := by
  unfold uAct
  split
  · exact .at_causeEach (.at_forceBlock hs)
  · exact .at_causeEach (.at_ite (.at_forceAsc hs) hs)
  · exact .at_causeEach hs

theorem Apart.at_urgentTake {op : Nat} {e : Env} {u : UPay} {s : State} (hs : Apart s) : Apart (urgentTake op e u s) :=
  .at_ite (.frame (propagate_prt ..) (.frame (noteUrgent_prt ..) (.at_uAct hs))) (.frame (noteUrgent_prt ..) (.at_uAct hs))

theorem Apart.at_urgent {op : Nat} {e : Env} {u : UPay} {s : State} (hs : Apart s) : Apart (urgent op e u s) :=
  .at_ite (.frame (by simp) hs) (.at_ite (.frame (urgentReply_prt ..) (.at_urgentTake hs)) (.frame (by simp) hs))

/-! ### The HOST port -/

theorem Apart.at_decoderAlone {b : List Byte} {s : State} (hs : Apart s) : Apart (decoderAlone b s) :=
  .at_ite hs (.at_ite (.at_urgentTake hs) hs)

theorem Apart.at_hostCommand {op : Nat} {e : Env} {pl : List Byte} {s : State} (hs : Apart s) :
    Keeps (hostCommand op e pl s) := by
  unfold hostCommand
  split
  case h_1 | h_2 | h_3 | h_4 | h_5 | h_6 | h_7 | h_8 | h_9 => exact .next (.at_planeCommand hs)
  case h_13 | h_22 => exact .next (.at_setParam hs)
  case h_18 => exact .next (.at_serveShort (fun _ h => .at_stepBack h) hs)
  case h_20 => exact .next (.at_serveShort (fun _ h => .at_handleCancel h) hs)
  case h_21 => exact .next (.at_getParam hs)
  case h_28 => exact .next (.at_serveShort (fun _ h => .at_resetCommand h) hs)
  case h_31 =>
    split
    · exact .next (.frame (serveLong_prt (fun _ _ => fwActivateHitless_prt ..) s) hs)
    · exact .next (.at_serveLong (fun _ _ h => .at_fwActivate h) hs)
  case h_32 => exact .next (.at_withLength (fun _ h => .at_serveShort (fun _ h => .frame (attest_prt ..) h) h) hs)
  case h_34 => exact .next (.at_withLength (fun _ h => .frame (by simp) h) hs)
  all_goals exact .next (.frame (by simp) hs)

theorem Apart.at_takePacket {b : List Byte} {s : State} (hs : Apart s) : Apart (takePacket b s) := by
  unfold takePacket
  extract_lets st op s1 u
  refine .at_ite (.frame (spiRefuse_prt ..) (.at_ite (.frame (count_prt ..) hs) hs)) (.at_ite (.at_urgent hs) ?_)
  split
  · exact Apart.at_hostCommand hs _ ‹_›
  · exact hs

theorem Apart.at_packetWrite {ready : Bool} {b : List Byte} {s0 : State} (hs : Apart s0) : Apart (packetWrite ready b s0) :=
  .at_ite (.frame (by simp) hs) (.at_ite (.at_ite (.at_takePacket (.frame (by simp) hs)) (.frame (by simp) hs)) (.frame
    (updHost_prt ..) (.at_ite (.at_decoderAlone (.frame (by simp) hs)) (.frame (by simp) hs))))

/-! ### A step -/

theorem exec_keeps (c : Instr) {s : State} (hs : Apart s) : Keeps (exec c s) := by
  cases c
  case stop | pulseBlock | asc | tripGroup => exact .next (.at_urgent hs)
  case planeEnable | planeArm | planeStart | planeStop | planeDisarm | planeDisable | clearSafe | testEnter | testExit =>
    exact .next (.at_planeCommand hs)
  case planeArmReady => exact .next (.at_armReady hs)
  case planeArmTimeout => exact .next (.at_armTimeout hs)
  case testGo | modeWrite | setValid | timeLatch | comparatorArm | comparatorDisarm | phaseStep | refSelWrite
      | refModeWrite | ybusSurvey | goCold | take | release | confirm | captureEnable | captureStop | queueDisable =>
    exact .next (.at_writeWords hs)
  case testSequenceEnd => exact .next (.at_testSequenceEnd hs)
  case syncTimeout => exact .next (.at_ite hs (.at_endSync hs))
  case setParamControl | setParam => exact .next (.at_setParam hs)
  case getParam => exact .next (.at_getParam hs)
  case stepBack => exact .next (.at_serveShort (fun _ h => .at_stepBack h) hs)
  case handleCancel => exact .next (.at_serveShort (fun _ h => .at_handleCancel h) hs)
  case txnSwitch =>
    refine .next ?_
    split
    · exact .at_ite (.at_txnSwitch hs) hs
    · exact hs
  case txnGroupSwitch => exact .next (.at_txnGroupSwitch hs)
  case reset => exact .next (.at_serveShort (fun _ h => .at_resetCommand h) hs)
  case fwActivate => exact .next (.at_serveLong (fun _ _ h => .at_fwActivate h) hs)
  case fwActivateHitless => exact .next (.frame (serveLong_prt (fun _ _ => fwActivateHitless_prt ..) s) hs)
  case tansyRestartDone => exact .next (.at_tansyRestartDone hs)
  case restartMax => exact .next (.at_restartMax hs)
  case attest => exact .next (.at_withLength (fun _ h => .at_serveShort (fun _ h => .frame (attest_prt ..) h) h) hs)
  case groupAction => exact .next (.at_withLength (fun _ h => .frame (by simp) h) hs)
  case groupApply => exact .next (.at_groupApply hs)
  case packetWrite => exact .next (.at_packetWrite hs)
  case haltNFall => exact .next (.at_haltFall hs)
  case haltNRise => exact .next (.at_haltRise hs)
  case stoLow => exact .next (.at_stoLow hs)
  case stoHigh => exact .next (.at_stoHigh hs)
  case resetNLow => exact .next (.at_resetPin hs)
  case externalResetEntry => exact .next (.at_resetEntry hs)
  case supplyLow => exact .next (.at_supplyLow hs)
  case supplyLoss => exact .next (.at_supplyLoss hs)
  case corePowerDown => exact .next (.at_corePowerDown hs)
  case mcRelayDrop => exact .next (.at_mcRelayDrop hs)
  case powerUp => exact .next .at_systemReset
  case settingsLoaded => exact .next (.at_settingsLoaded hs)
  case islandStopped => exact .next (.at_islandStopped hs)
  case supervisorReset => exact .next (.at_supervisorReset hs)
  case islandReset => exact .next (.at_islandReset hs)
  case keepAliveLoss => exact .next (.at_keepAliveLoss hs)
  case uvloDeclare => exact .next (.at_ite (.at_uvloDeclare hs) hs)
  case uvloRelease => exact .next (.at_ite (.at_uvloRelease hs) hs)
  case shortDesat => exact .next (.at_shortDesat hs)
  case shortHard => exact .next (.at_ite (.at_shortHard hs) hs)
  case shortStagger => exact .next (.at_shortStagger hs)
  case deferredTurnOff => exact .next (.at_ite (.at_deferredTurnOff hs) hs)
  case gateBudget => exact .next (.at_gateBudget hs)
  case tBaseUpdate => exact .next (.at_tBaseUpdate hs)
  case mpSupply => exact .next (.at_ite (.at_mpSupply hs) hs)
  case brkMismatch => exact .next (.at_brkMismatch hs)
  case brkDelay => exact .next (.at_brkDelay hs)
  case tripOutput => exact .next (.at_tripOutput hs)
  case ascStep => exact .next (.at_ascNext hs)
  case forcedAscEnd => exact .next (.at_forcedAscEnd hs)
  case cutArrival => exact .next (.at_cutArrival hs)
  case cutAck => exact .next (.at_cutAck hs)
  case boundaryCount => exact .next (.at_boundaryCount hs)
  case controlStrobe => exact .next (.at_controlStrobe (fun _ h => .at_ctlSwitch h) hs)
  case commitPoint => exact .next (.at_commitPoint hs)
  case sreCheck => exact .next (.at_sreCheck hs)
  case carrierReload => exact .next (.at_carrierReload hs)
  case feedGapStep => exact .next (.at_ite (.at_feedEvent hs) hs)
  case outerBoundary => exact .next (.at_outerBoundary hs)
  case encoderIndex => exact .next (.at_ite (.at_encoderIndex hs) hs)
  case stuck => exact .next (.at_ite (.at_ite hs (.at_declareLoss hs)) hs)
  case manchesterLockLost | manchErr | frozen => exact .next (.at_ite (.at_ite (.at_declareLoss hs) hs) hs)
  case freqWindow => exact .next (.at_freqWindow hs)
  case holdoverMax => exact .next (.at_ite (.at_startFallback hs) hs)
  case ptpSync => exact .next (.at_ite (.at_ptpSync hs) hs)
  case tcFire => exact .next (.at_ite (.at_tcFire hs) hs)
  case takeover => exact .next (.at_takeover hs)
  case debugResume => exact .next (.at_debugResume hs)
  all_goals exact .next (.frame (by simp) hs)

/-- A step is the idle block, or the command at the front of the queue. -/
theorem step_keeps {s : State} (hs : Apart s) : Keeps (step s) := by
  unfold step
  split
  · exact .next (.at_ite .at_powerLost hs)
  · exact exec_keeps _ (.frame rfl hs)

/-- Settles O3: every function of the model is shown to keep the gate registers, or to keep them apart; the only place where a
switch turns on is `settle`, which turns on what the inputs select and never the partner of a switch that stays on. -/
theorem noPortCommandsBothSwitches : Obligations.NoPortCommandsBothSwitches := by
  refine ⟨fun s t hs ht => step_keeps hs t ht, fun n s hn => ⟨fun hen => ?_, fun hfree => ?_, fun hfree => ?_, ?_⟩⟩
  · simp [wantUpper, wantLower, hen]
  · simp only [wantUpper, BitVec.getLsbD_and, BitVec.getLsbD_not, hfree]
    simp [hn, Bool.and_comm]
  · simp only [wantLower, BitVec.getLsbD_and, BitVec.getLsbD_not, hfree]
    simp [hn, Bool.and_comm]
  · simpa using congrArg (·.getLsbD n) (want_disjoint s)

end Sys2Proof.Machine
end

section
/-! PROOFS. The switches that are unavailable (R181): the sets of ports of the model as sets of numbers. Settles O42. -/

namespace Sys2Proof.Machine
open Sys2Proof

theorem getLsbD_portBit_eq {n : Nat} (hn : n < 36) (x : Nat) : (portBit x).getLsbD n = decide (n = x) := by
  rw [portBit, BitVec.getLsbD_shiftLeft]
  simp only [BitVec.getLsbD_one, hn, decide_true, Bool.true_and, ← decide_not, ← Bool.decide_and]
  exact decide_eq_decide.2 (by omega)

theorem getLsbD_foldl_portBit {n : Nat} (hn : n < 36) (l : List Nat) (m : Ports) :
    (l.foldl (fun m n => m ||| portBit n) m).getLsbD n = (m.getLsbD n || decide (n ∈ l)) := by
  induction l generalizing m with
  | nil => simp
  | cons x t ih => simp [ih, getLsbD_portBit_eq hn, Bool.or_assoc]

/-- The ports of a list are the bits of its set. -/
theorem getLsbD_portsOf {n : Nat} (hn : n < 36) (l : List Nat) : (portsOf l).getLsbD n = decide (n ∈ l) := by
  rw [portsOf, getLsbD_foldl_portBit hn]
  simp

theorem getLsbD_offPorts {n : Nat} (hn : n < 36) (s : State) : (offPorts s).getLsbD n = decide (par s (gateSupply n) = 2) := by
  rw [offPorts, getLsbD_portsOf hn]
  simp [hn]

/-- Settles O42: the sets of unavailable switches are unions of the listed sets, and the ports set to OFF are one of them. -/
theorem unavailableSwitches : Obligations.UnavailableSwitches := by
  intro n s hn
  constructor
  · simp only [unavUpper, BitVec.getLsbD_or, getLsbD_offPorts hn, Bool.or_eq_true, decide_eq_true_eq, or_assoc]
  · simp only [unavLower, BitVec.getLsbD_or, getLsbD_offPorts hn, Bool.or_eq_true, decide_eq_true_eq, or_assoc]

end Sys2Proof.Machine
end

section
/-! PROOFS. CLEAR_SAFE at the plane and at the strobe (R185). Settles O10. -/

namespace Sys2Proof.Machine
open Sys2Proof

/-! ## The command at the plane -/

theorem replies_acceptSeq (e : Env) (s : State) : (chanSt (acceptSeq e s) e.chan).replies = (chanSt s e.chan).replies := by
  unfold acceptSeq
  cases e.chan
  · dsimp only
    split <;> rfl
  · simp

theorem planeWork_clear (p : Plane) (h : Nat) (s : State) :
    planeWork opClear p h s = (s, if clearFits p s then stAccepted else stWrongState) := rfl

/-- A CLEAR_SAFE that fits waits at the plane. -/
theorem planeBody_clear_fits {p : Plane} {s : State} (e : Env) (h : Nat) (hl : LaneFree p s) (hc : clearFits p s = true) :
    planeBody opClear e { code := p.code } h s =
      (updLane p (fun l => { l with clearPend := l.clearPend ++ [(some e, 0)] }) s, .later) := by
  simp [planeBody, planeOf_code, hl, planeWork_clear, hc]

theorem planeBody_clear_unfit {p : Plane} {s : State} (e : Env) (h : Nat) (hl : LaneFree p s) (hc : clearFits p s = false) :
    planeBody opClear e { code := p.code } h s = (s, say stWrongState) := by
  simp [planeBody, planeOf_code, hl, planeWork_clear, hc, stWrongState, stAccepted]

/-- CLEAR_SAFE needs no handle at a plane without an operation in progress. -/
theorem planeNeeds_clear {p : Plane} {s : State} (hl : LaneFree p s) : planeNeeds opClear { code := p.code } s = false := by
  rw [planeNeeds_free hl]
  rfl

/-- Only a plane in SAFE fits, with HALT_N and the STO channels high (R185). -/
theorem of_clearFits {p : Plane} {s : State} (h : clearFits p s = true) :
    (lane s p).st = .safe ∧ s.pins.haltLow = false ∧ stoHighNow s = true := by
  simp only [clearFits, Bool.and_eq_true, beq_iff_eq, Bool.not_eq_true'] at h
  simp [h]

/-! ## The strobe -/

/-- The plane whose waiting commands are taken off its list. -/
def taken (p : Plane) (s : State) : State := updLane p (fun l => { l with clearPend := [] }) s

/-- No forced PULSE_BLOCK, forced active short or fallback is left at the plane. -/
def unforced (p : Plane) (s : State) : State :=
  updPrt (fun r => { r with
    forcedBlock := r.forcedBlock &&& ~~~(1#4 <<< p.code), forcedAsc := r.forcedAsc && decide (p ≠ .m),
    mcFallback := r.mcFallback && decide (p ≠ .m) }) s

theorem lane_taken (p : Plane) (s : State) : lane (taken p s) p = { lane s p with clearPend := [] } := by simp [taken]

theorem lane_taken_other {p q : Plane} (s : State) (h : q ≠ p) : lane (taken p s) q = lane s q := lane_updLane_other _ _ h

theorem lane_unforced (p q : Plane) (s : State) : lane (unforced p s) q = lane s q := rfl

/-- CLEAR_SAFE at its strobe is the plane's entry into READY. -/
theorem doClear_eq {p : Plane} {s : State} (hh : s.pins.haltLow = false) (hs : stoHighNow s = true) :
    doClear p s = readied p (unforced p s) :=
  enterReady_eq (s := unforced p s) hh hs

/-- At the strobe a plane that fits enters READY, as the lanes show it. -/
theorem lane_doClear_taken {p : Plane} {s : State} (h : clearFits p s = true) :
    lane (doClear p (taken p s)) p =
      { lane s p with clearPend := [], st := .ready, sub := .pulseBlock, first := true, feRun := [0, 0, 0, 0, 0, 0] } ∧
    OtherLanes p s (doClear p (taken p s)) := by
  obtain ⟨-, hh, hs⟩ := of_clearFits h
  have hd : doClear p (taken p s) = readied p (unforced p (taken p s)) := doClear_eq (by simpa [taken] using hh) hs
  rw [hd]
  refine ⟨by rw [lane_readied, lane_unforced, lane_taken], fun q hq => ?_⟩
  rw [lane_readied_other _ hq, lane_unforced, lane_taken_other _ hq]

/-- The command of the host that waits alone at a plane whose queue is empty is answered, after the plane's entry into READY where
its conditions hold. -/
theorem strobeClear_eq {e : Env} {p : Plane} {s : State} (hc : (lane s p).clearPend = [(some e, 0)]) (hq : (lane s p).queued = []) :
    strobeClear p s =
      if clearFits p s then answer 1 opClear e stOk e.handle [] (doClear p (taken p s))
      else answer 1 opClear e stWrongState e.handle [] (taken p s) := by
  cases hf : clearFits p s
  · simp [strobeClear, hc, hf, taken, drainQueue_empty, hq]
  · have hq' : (lane (doClear p (taken p s)) p).queued = [] := by rw [(lane_doClear_taken hf).1, hq]
    rw [taken] at hq'
    simp [strobeClear, hc, hf, taken, drainQueue_empty, hq']

/-- Settles O10: at the command by the service of a plane command, at the strobe by the plane's entry into READY. -/
theorem clearSafeWaitsForTheStrobe : Obligations.ClearSafeWaitsForTheStrobe := by
  refine ⟨fun e p s hf hl hc => ?waits, fun e p s hc hq => ⟨fun hf => ?fits, fun hf => ?unfit⟩, fun e p s hf hl hst => ?refused⟩
  case waits =>
    have hl' := laneFree_acceptSeq e hl
    refine ⟨_, congrArg Host.Outcome.next (serve_later hf (fun h => ?_) (planeBody_clear_fits e _ hl' hc)), by simp,
      fun q hq => by simp [lane_updLane_other _ _ hq], by simp, replies_acceptSeq e s⟩
    simp [planeNeeds_clear hl'] at h
  case fits =>
    obtain ⟨hp, hother⟩ := lane_doClear_taken hf
    rw [strobeClear_eq hc hq, if_pos hf]
    exact ⟨by rw [lane_answer, hp], by rw [lane_answer, hp], lastKept_answer .., fun q hq => by rw [lane_answer, hother q hq]⟩
  case unfit =>
    rw [strobeClear_eq hc hq, if_neg (by simp [hf])]
    exact ⟨by rw [lane_answer, lane_taken], lastKept_answer .., fun q hq => by rw [lane_answer, lane_taken_other _ hq],
      by simp [taken]⟩
  case refused =>
    have hl' := laneFree_acceptSeq e hl
    have hc : clearFits p (acceptSeq e s) = false :=
      Bool.eq_false_iff.2 fun h => hst ((lane_acceptSeq e s p).symm ▸ (of_clearFits h).1)
    refine ⟨_, congrArg Host.Outcome.next (serve_now (st := stWrongState) hf (fun h => ?_) (planeBody_clear_unfit e _ hl' hc)),
      lastKept_answer .., by simp, by simp⟩
    simp [planeNeeds_clear hl'] at h

end Sys2Proof.Machine
end

section
/-! PROOFS. Short circuits, groups that wait for SHORT_STAGGER, and deferred turn-offs (R171 to R175). Settles O41. -/

namespace Sys2Proof.Machine
open Sys2Proof

/-! ## A latched fault (R174) -/

/-- The fault bits, the switches and the switches that wait for SHORT_STAGGER, on one side of every port. -/
def faults (up : Bool) (s : State) : Ports := if up then s.prt.faultH else s.prt.faultL
def switches (up : Bool) (s : State) : Ports := if up then s.prt.upper else s.prt.lower
def side (up : Bool) (g : Ports × Ports) : Ports := if up then g.1 else g.2
def waiting (up : Bool) (s : State) : Ports := side up (staggered s)

/-- A switch whose fault is latched and that waits for no SHORT_STAGGER. -/
def Latched (n : Nat) (up : Bool) (s : State) : Prop := (faults up s).getLsbD n = true ∧ (waiting up s).getLsbD n = false

theorem Latched.congr {n : Nat} {up : Bool} {s t : State} (hH : t.prt.faultH = s.prt.faultH) (hL : t.prt.faultL = s.prt.faultL)
    (hg : t.prt.stagger = s.prt.stagger) (h : Latched n up s) : Latched n up t := by
  simpa only [Latched, faults, waiting, hH, hL, staggered_congr hg] using h

/-- A settling turns a latched switch off (R174). -/
theorem settle_latched {n : Nat} {up : Bool} {s : State} (b : Bool) (m : Ports) (h : Latched n up s) :
    (switches up (settle b m s)).getLsbD n = false := by
  obtain ⟨hf, hw⟩ := h
  refine Bool.eq_false_iff.2 fun hon => ?_
  cases up
  · have hheld : (heldLower s).getLsbD n = true := by simp [heldLower, show s.prt.faultL.getLsbD n = true from hf]
    obtain hsel | hdef | ⟨hst, -, -⟩ := settle_lower hon
    · simp [want_held.2 hheld] at hsel
    · simp [(settle_deferLo hdef).2] at hheld
    · exact absurd hst (Bool.eq_false_iff.1 hw)
  · have hheld : (heldUpper s).getLsbD n = true := by simp [heldUpper, show s.prt.faultH.getLsbD n = true from hf]
    obtain hsel | hdef | ⟨hst, -, -⟩ := settle_upper hon
    · simp [want_held.1 hheld] at hsel
    · simp [(settle_deferUp hdef).2] at hheld
    · exact absurd hst (Bool.eq_false_iff.1 hw)

/-- An entry into SAFE settles the gate blocks, with the faults and the groups that wait as they were. -/
theorem enterSafe_settles (p : Plane) (c : Nat) (m : Ports) (s : State) : ∃ t, (enterSafe p c m s).prt = (settle true m t).prt ∧
    t.prt.faultH = s.prt.faultH ∧ t.prt.faultL = s.prt.faultL ∧ t.prt.stagger = s.prt.stagger := by
  unfold enterSafe
  exact ⟨_, by rw [dropMc_prt, quitLane_prt], by simp, by simp, by simp⟩

theorem par_settle_faultCnt (b : Bool) (m : Ports) (n : Nat) (s : State) :
    par (settle b m s) (gateFaultCnt n) = par s (gateFaultCnt n) := by
  simp only [settle]
  refine (foldl_same (par · (gateFaultCnt n)) _ (fun s k => ?_) _ _).trans (par_updPrt ..)
  split
  · exact par_setParBit_other _ _ _ (by unfold gateFaultCnt gateStatus; omega)
  · rfl

theorem par_enterSafe_faultCnt {n : Nat} (hn : n < 36) (p : Plane) (c : Nat) (m : Ports) (s : State) :
    par (enterSafe p c m s) (gateFaultCnt n) = par s (gateFaultCnt n) := by
  have hp := code_lt p
  have hcause : gateFaultCnt n ≠ protSafeCause p.code := by unfold gateFaultCnt protSafeCause; omega
  have hcnt : gateFaultCnt n ≠ protSafeCnt p.code := by unfold gateFaultCnt protSafeCnt; omega
  have hbrk : gateFaultCnt n ≠ protBrkCtrl := by unfold gateFaultCnt protBrkCtrl; omega
  have hevt : gateFaultCnt n ≠ sysEvtLostCnt := by unfold gateFaultCnt sysEvtLostCnt; omega
  have hgfm : gateFaultCnt n ≠ gfmState := by unfold gateFaultCnt gfmState; omega
  have hshadow : OffShadow p (gateFaultCnt n) := by unfold OffShadow gateFaultCnt modPsPer modPsP; omega
  simp only [enterSafe, par_dropMc _ hbrk, par_quitLane _ _ hevt hbrk hgfm, par_settle_faultCnt, par_initMod_off _ _ hshadow,
    par_safePattern, par_enterState _ _ _ _ hevt, par_noteFallback _ _ hevt, par_updHost, par_count_other _ hcnt,
    par_setPar_other _ _ hcause]

/-- The end of a short circuit: the fault of the switch is latched, the switch is off, its plane in SAFE with cause 0x03, and the
port's FAULT_CNT at `k`. -/
def Tripped (n : Nat) (up : Bool) (k : Nat) (t : State) : Prop :=
  (faults up t).getLsbD n = true ∧ (switches up t).getLsbD n = false ∧ (lane t (planeOfPort n)).st = .safe ∧
    par t (protSafeCause (planeOfPort n).code) = 0x03 ∧ par t (gateFaultCnt n) = k

/-- Cause 0x03 at the active plane of a latched switch (R174, R179). -/
theorem causeAt_latched {n : Nat} {up : Bool} {s : State} (m : Ports) (hn : n < 36) (hr : s.isl.prt = true)
    (ha : activeSt (lane s (planeOfPort n)).st = true) (h : Latched n up s) :
    Tripped n up (par s (gateFaultCnt n)) (causeAt (planeOfPort n) 0x03 m s) := by
  obtain ⟨hst, hc⟩ := causeAt_safe (c := 0x03) m (by decide) hr ha
  refine ⟨?_, ?_, hst, hc, ?_⟩
  · exact (Latched.congr (by simp) (by simp) (by simp) h).1
  · obtain ⟨t, hprt, hH, hL, hg⟩ := enterSafe_settles (planeOfPort n) 0x03 m s
    rw [causeAt_active 0x03 m hr ha]
    simpa only [switches, hprt] using settle_latched true m (Latched.congr hH hL hg h)
  · rw [causeAt_active 0x03 m hr ha, par_enterSafe_faultCnt hn]

@[simp] theorem latchFault_planes (hard : Bool) (n : Nat) (up : Bool) (s : State) : (latchFault hard n up s).planes = s.planes := by
  simp [latchFault, apply_ite State.planes]
@[simp] theorem latchFault_isl (hard : Bool) (n : Nat) (up : Bool) (s : State) : (latchFault hard n up s).isl = s.isl := by
  simp [latchFault, apply_ite State.isl]
@[simp] theorem lane_latchFault (hard : Bool) (n : Nat) (up : Bool) (s : State) (p : Plane) :
    lane (latchFault hard n up s) p = lane s p := lane_congr (by simp) p

/-- Latching a fault adds to the faults of one side, and makes no switch wait (R174). -/
theorem latchFault_faults (hard : Bool) (n : Nat) (up : Bool) (s : State) :
    faults up (latchFault hard n up s) = faults up s ||| portBit n ∧ (latchFault hard n up s).prt.stagger = s.prt.stagger := by
  unfold latchFault
  extract_lets s1 s2 s3
  have h2 : faults up s2 = faults up s ||| portBit n ∧ s2.prt.stagger = s.prt.stagger := by cases up <;> exact ⟨rfl, rfl⟩
  have h3 : faults up s3 = faults up s2 ∧ s3.prt.stagger = s2.prt.stagger := by
    unfold s3
    split <;> exact ⟨rfl, rfl⟩
  rw [raiseFlag_prt, ← h2.1, ← h2.2, ← h3.1, ← h3.2]
  exact ⟨by simp only [faults, raiseFlag_prt], rfl⟩

/-- The port's FAULT_CNT counts the fault (R174). -/
theorem par_latchFault (hard : Bool) {n : Nat} (up : Bool) {s : State} (hc : par s (gateFaultCnt n) < 65535) :
    par (latchFault hard n up s) (gateFaultCnt n) = par s (gateFaultCnt n) + 1 := by
  have hst : gateFaultCnt n ≠ gateStatus n := by unfold gateFaultCnt gateStatus; omega
  have hevt : gateFaultCnt n ≠ sysEvtLostCnt := by unfold gateFaultCnt sysEvtLostCnt; omega
  unfold latchFault
  extract_lets s1 s2 s3
  have h1 : par (setParBit (gateStatus n) 5 hard s1) (gateFaultCnt n) = par s (gateFaultCnt n) := par_setParBit_other _ _ _ hst
  have h3 : par s3 (gateFaultCnt n) = par s2 (gateFaultCnt n) := by
    unfold s3
    split <;> rfl
  rw [par_raiseFlag_other _ _ _ hst hevt, h3, par_count _ _ (by rw [h1]; exact hc), h1]

/-- A switch that waits for no SHORT_STAGGER is latched once its fault is. -/
theorem latchFault_latched {hard : Bool} {n : Nat} {up : Bool} {s : State} (hn : n < 36) (hw : (waiting up s).getLsbD n = false) :
    Latched n up (latchFault hard n up s) := by
  obtain ⟨hf, hg⟩ := latchFault_faults hard n up s
  exact ⟨by rw [hf, BitVec.getLsbD_or, getLsbD_portBit hn, Bool.or_true], by
    simpa only [waiting, staggered_congr hg] using hw⟩

/-- One latched fault, settled: the switch is off and its plane in SAFE with cause 0x03. -/
theorem latchFault_trips (hard : Bool) {n : Nat} {up : Bool} {s : State} (b : Bool) (m : Ports) (hn : n < 36)
    (hr : s.isl.prt = true) (ha : activeSt (lane s (planeOfPort n)).st = true) (hc : par s (gateFaultCnt n) < 65535)
    (hw : (waiting up s).getLsbD n = false) :
    Tripped n up (par s (gateFaultCnt n) + 1) (causeAt (planeOfPort n) 0x03 0 (settle b m (latchFault hard n up s))) := by
  have h : Latched n up (settle b m (latchFault hard n up s)) :=
    Latched.congr (by simp) (by simp) (by simp) (latchFault_latched (hard := hard) hn hw)
  have hend := causeAt_latched 0 hn (by simpa using hr) (by simpa using ha) h
  rwa [par_settle_faultCnt, par_latchFault _ _ hc] at hend

/-! ## A hard short (R172) -/

/-- The groups that wait without a switch. -/
def unstaggered (n : Nat) (up : Bool) (s : State) : State :=
  updPrt (fun r => { r with
    stagger := r.stagger.map fun g => if up then (g.1 &&& ~~~portBit n, g.2) else (g.1, g.2 &&& ~~~portBit n) }) s

theorem side_foldl {up : Bool} {n : Nat} (l : List (Ports × Ports)) (a : Ports × Ports) (ha : (side up a).getLsbD n = false)
    (hl : ∀ g ∈ l, (side up g).getLsbD n = false) :
    (side up (l.foldl (fun a g => (a.1 ||| g.1, a.2 ||| g.2)) a)).getLsbD n = false := by
  induction l generalizing a with
  | nil => exact ha
  | cons g t ih =>
    refine ih _ ?_ fun x hx => hl x (List.mem_cons_of_mem _ hx)
    have hg := hl g List.mem_cons_self
    cases up <;> simp_all [side]

/-- A switch that is in no group waits for no SHORT_STAGGER. -/
theorem waiting_false {up : Bool} {n : Nat} {s : State} (h : ∀ g ∈ s.prt.stagger, (side up g).getLsbD n = false) :
    (waiting up s).getLsbD n = false :=
  side_foldl _ _ (by cases up <;> simp [side]) h

theorem waiting_unstaggered {n : Nat} (up : Bool) (s : State) (hn : n < 36) :
    (waiting up (unstaggered n up s)).getLsbD n = false := by
  refine waiting_false fun g hg => ?_
  obtain ⟨x, -, rfl⟩ := List.mem_map.1 hg
  cases up <;> simp [side, getLsbD_portBit hn]

theorem shortHard_eq {n : Nat} {up : Bool} {s : State} (h : shortSeen true n up s = true) :
    shortHard n up s = causeAt (planeOfPort n) 0x03 0 (settle false (portBit n) (latchFault true n up (unstaggered n up s))) :=
  if_pos h

/-- A hard short that the comparator sees (R172, R174). -/
theorem shortHard_trips {n : Nat} {up : Bool} {s : State} (hn : n < 36) (hr : s.isl.prt = true)
    (ha : activeSt (lane s (planeOfPort n)).st = true) (hc : par s (gateFaultCnt n) < 65535) (h : shortSeen true n up s = true) :
    Tripped n up (par s (gateFaultCnt n) + 1) (shortHard n up s) := by
  rw [shortHard_eq h]
  exact latchFault_trips true false _ hn (s := unstaggered n up s) hr ha hc (waiting_unstaggered up s hn)

/-! ## Desaturation (R171, R175) -/

/-- A group of one fault has no switch to wait. -/
theorem staggerGroup_one {n : Nat} (b : Bool) (hn : n < 36) : staggerGroup [(n, b)] = (0, 0) := by
  have hlow : lowestOf (planeOfPort n) [(n, b)] = n := by
    simp [lowestOf]
    omega
  simp [staggerGroup, hlow, portsOf]

/-- Of two faults of one plane the higher port's switch waits. -/
theorem staggerGroup_two {n k : Nat} (a b : Bool) (hnk : n < k) (hk : k < 36) (hp : planeOfPort n = planeOfPort k) :
    staggerGroup [(n, a), (k, b)] = (if b then portBit k else 0, if b then 0 else portBit k) := by
  have hlow : lowestOf (planeOfPort k) [(n, a), (k, b)] = n := by
    simp [lowestOf, hp]
    omega
  have hne : k ≠ n := by omega
  cases b <;> simp [staggerGroup, hlow, hp, hne, portsOf]

theorem shortDesat_one {n : Nat} {b : Bool} {s : State} (hn : n < 36) (h : shortSeen false n b s = true)
    (ht : turningOff n b s = false) :
    shortDesat [(n, b)] s = causeAt (planeOfPort n) 0x03 0 (settle false (portsOf [n]) (latchFault false n b s)) := by
  simp [shortDesat, hn, h, ht, staggerGroup_one]

/-- A desaturation that the comparator sees (R171, R174). -/
theorem shortDesat_trips {n : Nat} {b : Bool} {s : State} (hn : n < 36) (hr : s.isl.prt = true)
    (ha : activeSt (lane s (planeOfPort n)).st = true) (hc : par s (gateFaultCnt n) < 65535) (h : shortSeen false n b s = true)
    (ht : turningOff n b s = false) : Tripped n b (par s (gateFaultCnt n) + 1) (shortDesat [(n, b)] s) := by
  have hw : (waiting b s).getLsbD n = false := by cases b <;> simp_all [turningOff, waiting, side]
  rw [shortDesat_one hn h ht]
  exact latchFault_trips false false _ hn hr ha hc hw

/-- The group of two faults of one plane joins those that wait (R175). -/
theorem shortDesat_stagger {n k : Nat} {a b : Bool} {s : State} (hnk : n < k) (hk : k < 36) (hp : planeOfPort n = planeOfPort k)
    (hsn : shortSeen false n a s = true) (hsk : shortSeen false k b s = true) (htn : turningOff n a s = false)
    (htk : turningOff k b s = false) (hst : par s protShortStagger ≠ 0) :
    (shortDesat [(n, a), (k, b)] s).prt.stagger = s.prt.stagger ++ [(if b then portBit k else 0, if b then 0 else portBit k)] := by
  have hbit : portBit k ≠ 0#36 := fun h => by simpa [h] using getLsbD_portBit hk
  have hn : n < 36 := by omega
  cases b <;> simp [shortDesat, hn, hk, hsn, hsk, htn, htk, staggerGroup_two, hnk, hp, hst, hbit, (latchFault_faults ..).2]

/-! ## The end of a stagger (R175) -/

/-- SHORT_STAGGER ends the wait of the oldest group. -/
theorem shortStagger_eq {g : Ports × Ports} {r : List (Ports × Ports)} {s : State} (h : s.prt.stagger = g :: r) :
    shortStagger s = settle false (g.1 ||| g.2) (updPrt (fun x => { x with stagger := r }) s) := by
  simp [shortStagger, h]

/-- Every port of a set is latched on its side: no switch of the set is on after a settling with no group that waits. -/
theorem settle_latched_set {up : Bool} {m x : Ports} {s : State} (b : Bool) (hg : s.prt.stagger = [])
    (hx : x &&& ~~~faults up s = 0) :
    switches up (settle b m s) &&& x = 0 := by
  apply BitVec.eq_of_getLsbD_eq
  intro n hlt
  have hn : (x.getLsbD n && !(faults up s).getLsbD n) = false := by simpa [hlt] using congrArg (·.getLsbD n) hx
  cases hxn : x.getLsbD n
  · simp [hxn]
  · have hl : Latched n up s := ⟨by simpa [hxn] using hn, waiting_false (by simp [hg])⟩
    simp [settle_latched b m hl]

/-! ## The end of a deferral (R173) -/

theorem ageOf_foldl_zero (m : Ports) (l : List Nat) {n : Nat} (t : Tab Nat) (h : n ∈ l ∧ m.getLsbD n = true ∨ ageOf t n = 0) :
    ageOf (l.foldl (fun t n => if m.getLsbD n then tabSet (fun _ => 1000000) t n 0 else t) t) n = 0 := by
  induction l generalizing t with
  | nil => simpa using h
  | cons k r ih =>
    refine ih _ ?_
    by_cases hk : n = k
    · subst hk
      refine .inr ?_
      dsimp only
      split
      · exact tabGet_set_same ..
      · simp_all
    · have hkeep : ageOf (if m.getLsbD k then tabSet (fun _ => 1000000) t k 0 else t) n = ageOf t n := by
        split
        · exact tabGet_set_other _ _ _ hk
        · rfl
      rw [hkeep]
      simpa [hk] using h

/-- A port whose age is set to 0, or is 0, has the age 0. -/
theorem ageOf_putAge_zero {m : Ports} {n : Nat} {t : Tab Nat} (h : n < 36 ∧ m.getLsbD n = true ∨ ageOf t n = 0) :
    ageOf (putAge m (fun _ => 0) t) n = 0 :=
  ageOf_foldl_zero m _ t (by simpa using h)

/-- At a port with both switches off whose dead time runs from now, a settling leaves both off, and ends no soft turn-off. -/
theorem settle_dead {n : Nat} {s : State} (m : Ports) (hn : n < 36) (hU : s.prt.upper.getLsbD n = false)
    (hL : s.prt.lower.getLsbD n = false) :
    (settle false m s).prt.deferUp.getLsbD n = false ∧ (settle false m s).prt.deferLo.getLsbD n = false ∧
      (s.prt.soft.getLsbD n = true → (settle false m s).prt.soft.getLsbD n = true) ∧
      (ageOf s.prt.inAge n = 0 → par s (gateDt n) ≠ 0 →
        (settle false m s).prt.upper.getLsbD n = false ∧ (settle false m s).prt.lower.getLsbD n = false) := by
  refine ⟨by simp [settle, deferred, hU], by simp [settle, deferred, hL], fun hs => ?_, fun ha hd => ?_⟩
  · simp only [settle, stickPorts_prt, updPrt_prt, BitVec.getLsbD_and, BitVec.getLsbD_or, BitVec.getLsbD_not, hU, hL, hs]
    simp [hn]
  · have hready : ∀ x, (portsOf ((List.range 36).filter fun k =>
        deadCycles s k ≤ ageOf (putAge x (fun _ => 0) s.prt.inAge) k)).getLsbD n = false := fun x => by
      rw [getLsbD_portsOf hn]
      simp [ageOf_putAge_zero (.inr ha), deadCycles, hd]
    constructor <;> simp only [settle, stickPorts_prt, updPrt_prt, BitVec.getLsbD_and, BitVec.getLsbD_or, hready] <;>
      simp [deferred, hU, hL]

/-- The port whose turn-off begins: its switches off, the turn-off soft, and its dead time begun. -/
def turnedOff (x : Ports) (s : State) : State :=
  updPrt (fun r => { r with
    upper := r.upper &&& ~~~x, lower := r.lower &&& ~~~x, soft := r.soft ||| x,
    deferUp := r.deferUp &&& ~~~x, deferLo := r.deferLo &&& ~~~x, inAge := putAge x (fun _ => 0) r.inAge }) s

theorem deferredTurnOff_eq {n : Nat} {s : State} (h : (s.prt.deferUp ||| s.prt.deferLo) &&& portBit n ≠ 0) :
    deferredTurnOff n s = settle false 0 (turnedOff ((s.prt.deferUp ||| s.prt.deferLo) &&& portBit n) s) := if_neg h

/-- Settles O41: a latched switch is off after every settling, a group that joins those that wait leaves them from the front, and
the end of a deferral starts the dead time of its port. -/
theorem shortCircuitsAndDeferrals : Obligations.ShortCircuitsAndDeferrals := by
  refine ⟨fun n b s hn hv hr ha hc => ⟨fun h => ?hard, fun h ht => ?desat⟩, fun n b s h => ?unseen,
    fun n k a b s hnk hk hp hr hsn hsk htn htk hst => ?two, fun g r s hg => ?stagger, fun s hs => ?none,
    fun n s hn hv hd => ?deferral, fun n s hd => ?undeferred⟩
  case hard =>
    have ht := shortHard_trips hn hr ha hc h
    refine ⟨shortHard n b s, congrArg Host.Outcome.next (if_pos (by simp [hn, hv])), ?_⟩
    cases b <;> exact ht
  case desat =>
    have ht' := shortDesat_trips hn hr ha hc h ht
    refine ⟨_, rfl, ?_⟩
    cases b <;> exact ht'
  case unseen =>
    refine congrArg Host.Outcome.next ?_
    split
    · exact if_neg (by simp [h])
    · rfl
  case two => exact ⟨_, rfl, shortDesat_stagger hnk hk hp hsn hsk htn htk hst⟩
  case stagger =>
    refine ⟨_, rfl, ?_⟩
    rw [shortStagger_eq hg]
    refine ⟨by simp, by simp, by simp, by simp, fun hr hH hL => ?_⟩
    exact ⟨settle_latched_set (up := true) false hr hH, settle_latched_set (up := false) false hr hL⟩
  case none => simp [exec, execShortStagger, shortStagger, hs]
  case deferral =>
    set x := (s.prt.deferUp ||| s.prt.deferLo) &&& portBit n with hx
    have hbit : x.getLsbD n = true := by rw [hx, BitVec.getLsbD_and, hd, getLsbD_portBit hn]; rfl
    have hne : x ≠ 0 := fun h => by simp [h] at hbit
    obtain ⟨hdu, hdl, hsoft, hoff⟩ := settle_dead (n := n)
      (s := turnedOff x s) 0 hn (by simp [turnedOff, hbit]) (by simp [turnedOff, hbit])
    refine ⟨deferredTurnOff n s, congrArg Host.Outcome.next (if_pos (by simp [hn, hv])), ?_⟩
    rw [deferredTurnOff_eq hne, ← hx]
    refine ⟨by rw [BitVec.getLsbD_or, hdu, hdl]; rfl, hsoft (by simp [turnedOff, hbit]), fun hdt => ?_,
      by simp [turnedOff], by simp [turnedOff]⟩
    obtain ⟨hU, hL⟩ := hoff (ageOf_putAge_zero (.inl ⟨hn, hbit⟩)) hdt
    rw [BitVec.getLsbD_or, hU, hL]
    rfl
  case undeferred =>
    refine congrArg Host.Outcome.next ?_
    split
    · exact if_pos hd
    · rfl

end Sys2Proof.Machine
end

section
/-! PROOFS. A test pattern word that names both switches of a port (R164, R350). Settles O14. -/

namespace Sys2Proof.Machine
open Sys2Proof

/-! ## SET_PARAM outside a transaction (R350) -/

/-- A SET_PARAM of the CONFIG form outside a transaction that fails is answered with its status, the entry's index and its ID. -/
theorem setParam_fails {e : Env} {es : List PEntry} {i st : Nat} {x : PEntry} {s : State} (hf : Fresh 0x0101 1 e s)
    (hh : e.handle = 0) (ht : txnBusy s = false) (hl : 1 ≤ es.length ∧ es.length ≤ 64)
    (hp : paramFailure .config es (acceptSeq e s) = some (i, x, st)) (hst : st ≠ stAccepted) :
    setParam false e es 0 s = answer 2 0x0101 e st 0 (le 2 i ++ le 2 x.id) (acceptSeq e s) := by
  have ht' : txnBusy (acceptSeq e s) = false := by simpa only [txnBusy, acceptSeq_txn] using ht
  have hb : paramBody false e.handle 0 es (acceptSeq e s) = (acceptSeq e s, .now st (le 2 i ++ le 2 x.id)) := by
    simp [paramBody, hh, directWrite, ht', hp, failEntry]
  have hs := serve_now (cls := 2) (needs := fun _ => false) (body := fun _ => paramBody false e.handle 0 es) hf (by simp) hb
  rw [if_neg hst] at hs
  simpa [setParam, withLength, hl, hh] using hs

/-! ## The test pattern words (R164, R186) -/

/-- PROT.TEST_SW0 to SW2: read-write words of any value, SW2 with 8 bits. -/
theorem testSw_row : ∀ k < 3, ∃ d, paramRow (protTestSw0 + k) = some d ∧ d.acc = .rw ∧ d.chk = .any ∧
    d.width = (if k = 2 then 8 else 32) ∧ d.mask = 2 ^ d.width - 1 := by
  intro k hk
  have hrow : ∀ k < 3, (paramRow (protTestSw0 + k)).map (fun d => (d.acc, d.chk, d.width, d.mask)) =
      some (.rw, .any, if k = 2 then 8 else 32, 2 ^ (if k = 2 then 8 else 32) - 1) := by decide +kernel
  obtain ⟨d, hd, h⟩ := Option.map_eq_some_iff.1 (hrow k hk)
  simp only [Prod.mk.injEq] at h
  obtain ⟨hacc, hchk, hw, hm⟩ := h
  exact ⟨d, hd, hacc, hchk, hw, by rw [hm, hw]⟩

/-- A 2-bit field with both bits set is 3. -/
theorem bits_both {v n : Nat} (h0 : v.testBit (2 * n) = true) (h1 : v.testBit (2 * n + 1) = true) : bits v (2 * n) 2 = 3 := by
  rw [Nat.testBit_eq_decide_div_mod_eq, decide_eq_true_eq] at h0 h1
  rw [Nat.pow_succ, ← Nat.div_div_eq_div_mul] at h1
  unfold bits
  omega

/-- The field rule of R164 rejects a word that names both switches of a port. -/
theorem fieldStatus_testSw {k n v : Nat} (hk : k < 3) (hn : n < 16) (h : bits v (2 * n) 2 = 3) :
    fieldStatus (protTestSw0 + k) v = stWrongState := by
  have hall : (List.range 16).all (fun i => decide (bits v (2 * i) 2 ≠ 3)) = false := by
    simp only [List.all_eq_false, List.mem_range]
    exact ⟨n, hn, by simp [h]⟩
  have hblk : (protTestSw0 + k) / 256 = 0x12 := by unfold protTestSw0; omega
  have h1 : protTestSw0 + k ≠ protMAscPref := by unfold protTestSw0 protMAscPref; omega
  have h2 : protTestSw0 + k ≠ protTestDpPort := by unfold protTestSw0 protTestDpPort; omega
  have h3 : protTestSw0 ≤ protTestSw0 + k ∧ protTestSw0 + k ≤ protTestSw2 := by unfold protTestSw0 protTestSw2; omega
  simp only [fieldStatus, hblk, if_true, fieldProt, h1, h2, if_false, if_pos h3, hall]
  rfl

/-- No rule makes a test pattern word read-only. -/
theorem readOnlyNow_testSw {k : Nat} (hk : k < 3) (s : State) : readOnlyNow s (protTestSw0 + k) = false := by
  have h1 : ¬ protTestSw0 + k < 0x05E0 := by unfold protTestSw0; omega
  have h2 : modPlane (protTestSw0 + k) = none := if_neg (by unfold protTestSw0; omega)
  simp [readOnlyNow, h1, h2]

/-- Such a word fails pass 1 with WRONG_STATE. -/
theorem entryStatus_testSw {k n : Nat} {v : Word} (s : State) (hk : k < 3) (hn : n < 16) (hv : k = 2 → v.toNat < 256)
    (h0 : v.getLsbD (2 * n) = true) (h1 : v.getLsbD (2 * n + 1) = true) :
    entryStatus .config s { id := protTestSw0 + k, val := v } = stWrongState := by
  obtain ⟨d, hd, hacc, hchk, hw, hm⟩ := testSw_row k hk
  have hlt : v.toNat < 2 ^ d.width := by
    rw [hw]
    split
    · exact hv ‹_›
    · exact v.isLt
  have hmask : v.toNat &&& d.mask = v.toNat := by rw [hm, Nat.and_two_pow_sub_one_eq_mod, Nat.mod_eq_of_lt hlt]
  have hfield := fieldStatus_testSw hk hn (bits_both h0 h1)
  simp [entryStatus, entryAlone, hd, hacc, hlt, hmask, chkStatus, hchk, readOnlyNow_testSw hk, hfield, firstFail, need, stOk,
    stWrongState]

/-- Settles O14: the word fails pass 1 by its field rule, and a command that fails changes nothing. -/
theorem testPatternsNeverNameBothSwitches : Obligations.TestPatternsNeverNameBothSwitches := by
  intro e k n v s hf hh ht hk hn _ hv h0 h1
  have hst := entryStatus_testSw (acceptSeq e s) hk hn hv h0 h1
  have hp : paramFailure .config [{ id := protTestSw0 + k, val := v }] (acceptSeq e s) =
      some (0, { id := protTestSw0 + k, val := v }, stWrongState) := by
    simp [paramFailure, firstBad, hst, stWrongState, stOk]
  refine ⟨_, congrArg Host.Outcome.next (setParam_fails hf hh ht (by simp) hp (by decide)),
    lastKept_answer .., by simp, by simp, by simp⟩

end Sys2Proof.Machine
end

section
/-! PROOFS. Single parameter writes with effects (R139, R156, R186, R252, R262, R265, R269, R290, R310, R351). Settles O16. -/

namespace Sys2Proof.Machine
open Sys2Proof

/-! ## A SET_PARAM of one word (R350, R351) -/

/-- A write whose checks pass is answered OK on the state after its entry has taken effect. -/
theorem writeWords_one {e : Env} {id : Nat} {v : Word} {s : State} (h : Writes e [(id, v)] s) :
    writeWords e [(id, v)] s = answer 2 0x0101 e stOk 0 [] (applyEntry (acceptSeq e s) { id := id, val := v }) := by
  obtain ⟨hf, hh, ht, hp⟩ := h
  have ht' : txnBusy (acceptSeq e s) = false := by simpa only [txnBusy, acceptSeq_txn] using ht
  have hb : paramBody false e.handle 0 [{ id := id, val := v }] (acceptSeq e s) =
      (applyEntry (acceptSeq e s) { id := id, val := v }, .now stOk []) := by
    simp only [List.map_cons, List.map_nil] at hp
    simp [paramBody, hh, directWrite, ht', hp, applyAll, say]
  have hs := serve_now (cls := 2) (needs := fun _ => false) (body := fun _ => paramBody false e.handle 0 [{ id := id, val := v }]) hf
    (by simp) hb
  rw [if_neg (by decide)] at hs
  simpa [writeWords, setParam, withLength, hh] using hs

/-- What is written is a parameter of the table. -/
theorem row_of_writes {e : Env} {id : Nat} {v : Word} {s : State} (h : Writes e [(id, v)] s) : (paramRow id).isSome = true := by
  obtain ⟨-, -, -, hp⟩ := h
  refine Option.isSome_iff_ne_none.2 fun hn => ?_
  simp [paramFailure, firstBad, entryStatus, entryAlone, hn, firstFail, stOk, stBadParam] at hp

/-- The commit class and access of a parameter. -/
abbrev RowIs (id : Nat) (c : Commit) (a : Acc) : Prop := (paramRow id).map (fun d => (d.commit, d.acc)) = some (c, a)

theorem of_rowIs {id : Nat} {c : Commit} {a : Acc} (h : RowIs id c a) : ∃ d, paramRow id = some d ∧ d.commit = c ∧ d.acc = a := by
  obtain ⟨d, hd, he⟩ := Option.map_eq_some_iff.1 h
  exact ⟨d, hd, congrArg Prod.fst he, congrArg Prod.snd he⟩

/-- A word of class BOUNDARY waits for its engine. -/
theorem applyEntry_boundary {id : Nat} {v : Word} {a : Acc} (h : RowIs id .boundary a) (s : State) :
    applyEntry s { id := id, val := v } = { s with wait := s.wait ++ [(id, v)] } := by
  obtain ⟨d, hd, hc, -⟩ := of_rowIs h
  simp [applyEntry, hd, hc, waitWord]

/-- A write-only word of class LIVE has its effect at once. -/
theorem applyEntry_wo {id : Nat} {v : Word} (h : RowIs id .live .wo) (s : State) :
    applyEntry s { id := id, val := v } = woWritten id v.toNat s := by
  obtain ⟨d, hd, hc, ha⟩ := of_rowIs h
  simp [applyEntry, hd, hc, liveWrite, ha]

/-- A read-write word of class LIVE or STOPPED is in force and has its effect at once. -/
theorem applyEntry_rw {id : Nat} {v : Word} {c : Commit} (h : RowIs id c .rw) (hb : c ≠ .boundary) (hr : c ≠ .reset)
    (hm : isMaskPtr id = false) (s : State) :
    applyEntry s { id := id, val := v } = rwWritten id (par s id) v.toNat (setPar id v.toNat s) := by
  obtain ⟨d, hd, hc, ha⟩ := of_rowIs h
  have hlive : liveWrite id v.toNat s = rwWritten id (par s id) v.toNat (setPar id v.toNat s) := by simp [liveWrite, hd, ha, hm]
  rw [← hlive, applyEntry, hd]
  dsimp only
  rw [hc]
  cases c <;> simp_all

/-! ## The rows -/

theorem row_testGo : RowIs protTestGo .live .wo := by decide +kernel
theorem row_setValid (p : Plane) : (paramRow (modSetValid p.code)).isSome = true → RowIs (modSetValid p.code) .live .wo := by
  cases p <;> decide +kernel
theorem row_mode (p : Plane) : (paramRow (ctlMode p.code)).isSome = true → RowIs (ctlMode p.code) .boundary .rw := by
  cases p <;> decide +kernel
theorem row_phaseStep : RowIs clkPhaseStep .live .wo := by decide +kernel
theorem row_timeLatch : RowIs timeLatch .live .wo := by decide +kernel
theorem row_ybusSurvey : RowIs ybusSurvey .live .wo := by decide +kernel
theorem row_ethQEn : ∀ n < 2, RowIs (netEthQEn n) .live .rw := by decide +kernel
theorem row_refSel : RowIs clkRefSel .live .rw := by decide +kernel
theorem row_refMode (bw : Bool) : RowIs (if bw then clkPllmBw else clkRefMode) .stopped .rw := by cases bw <;> decide +kernel

/-! ## TEST_GO (R186) -/

/-- An idle plane in TEST whose kind is a sequence. -/
abbrev Idle (l : Lane) : Prop := l.st = .test ∧ l.testKind ≠ 0 ∧ l.testBusy = false

theorem goPlane_idle {p : Plane} {s : State} (h : Idle (lane s p)) :
    goPlane p s = driveTest p (updLane p (fun l => { l with testBusy := true, testAge := 0 }) s) := by
  obtain ⟨ht, hk, hb⟩ := h
  simp [goPlane, ht, hk, hb]

/-- A sequence starts at an idle lane; every other lane is as it was. -/
theorem lane_goPlane (p : Plane) (s : State) : Idle (lane s p) → lane (goPlane p s) p = { lane s p with testBusy := true, testAge := 0 } :=
  fun h => by simp [goPlane_idle h]

theorem lane_goPlane_other (p q : Plane) (s : State) (h : q ≠ p) : lane (goPlane p s) q = lane s q := by
  unfold goPlane
  dsimp only
  split
  · rfl
  · simp [lane_updLane_other _ _ h]

theorem lane_goAll {p : Plane} {s : State} (h : Idle (lane s p)) :
    lane (eachPlane goPlane s) p = { lane s p with testBusy := true, testAge := 0 } :=
  lane_eachPlane (R := fun l l' => Idle l → l' = { l with testBusy := true, testAge := 0 }) lane_goPlane lane_goPlane_other s p h

/-- The ports of a plane. -/
theorem getLsbD_planeMask (p : Plane) {n : Nat} (hn : n < 36) : (planeMask p).getLsbD n = decide (planeOfPort n = p) := by
  revert n
  cases p <;> decide

/-- The test pattern of a plane on its own ports, after it is driven: PULSE of the upper switch's code, ENABLE of either code. -/
theorem driveTest_ports (p : Plane) {n : Nat} (hn : n < 36) (s : State) :
    (driveTest p s).prt.pulse.getLsbD n =
      (if planeOfPort n = p then decide (portTest p s n = 2) else s.prt.pulse.getLsbD n) ∧
    (driveTest p s).prt.enable.getLsbD n =
      (if planeOfPort n = p then decide (portTest p s n = 2) || decide (portTest p s n = 1) else s.prt.enable.getLsbD n) := by
  simp only [driveTest, settle_prt_pulse, settle_prt_enable, override, updPrt_prt, BitVec.getLsbD_or, BitVec.getLsbD_and,
    BitVec.getLsbD_not, getLsbD_portsOf hn, getLsbD_planeMask p hn, hn]
  by_cases hp : planeOfPort n = p <;> simp [hp, hn]
/-! ### The patterns that the planes drive -/

/-- A property of one plane holds after an operation on every plane, where the plane's own brings it about and the others keep it and
what it needs. -/
theorem eachPlane_own {Q V : State → Prop} {f : Plane → State → State} {p : Plane} (hpre : ∀ q s, q ≠ p → Q s → Q (f q s))
    (hown : ∀ s, Q s → V (f p s)) (hpost : ∀ q s, q ≠ p → V s → V (f q s)) {s : State} (h : Q s) : V (eachPlane f s) := by
  have he : eachPlane f s = f .b (f .d (f .m (f .g s))) := rfl
  rw [he]
  cases p
  case g => exact hpost _ _ (by decide) (hpost _ _ (by decide) (hpost _ _ (by decide) (hown _ h)))
  case m => exact hpost _ _ (by decide) (hpost _ _ (by decide) (hown _ (hpre _ _ (by decide) h)))
  case d => exact hpost _ _ (by decide) (hown _ (hpre _ _ (by decide) (hpre _ _ (by decide) h)))
  case b => exact hown _ (hpre _ _ (by decide) (hpre _ _ (by decide) (hpre _ _ (by decide) h)))

/-- The plane whose sequence has begun. -/
def started (p : Plane) (s : State) : State := updLane p (fun l => { l with testBusy := true, testAge := 0 }) s

/-- The same lane, and the same words outside the gate ports. -/
def SameTest (p : Plane) (s t : State) : Prop := lane t p = lane s p ∧ ∀ j, OffGate j → par t j = par s j

theorem portTest_same {p : Plane} {s t : State} (h : SameTest p s t) (n : Nat) :
    portTest p (started p t) n = portTest p (started p s) n := by
  obtain ⟨hl, hp⟩ := h
  have hpar : ∀ j, OffGate j → par (started p t) j = par (started p s) j := fun j hj => by
    rw [started, started, par_updLane, par_updLane, hp j hj]
  have hlane : lane (started p t) p = lane (started p s) p := by simp [started, hl]
  have hfield : testField (started p t) n = testField (started p s) n := by
    unfold testField
    rw [hpar]
    split
    · decide
    · split <;> decide
  have hport : dpPort (started p t) = dpPort (started p s) := by
    unfold dpPort parBits
    rw [hpar _ (by decide)]
  have hbit : parBit (started p t) protTestDpPort 6 = parBit (started p s) protTestDpPort 6 := by
    unfold parBit
    rw [hpar _ (by decide)]
  have hon : ∀ l, dpOn l (started p t) = dpOn l (started p s) := fun l => by
    unfold dpOn
    rw [hpar protTestDpT1 (by decide), hpar protTestDpTgap (by decide), hpar protTestDpT2 (by decide)]
  simp only [portTest, hlane, hfield, hport, hbit, hon]

/-- Driving a plane's pattern changes no word outside the gate ports. -/
theorem par_goPlane (p : Plane) (s : State) {j : Nat} (h : OffGate j) : par (goPlane p s) j = par s j := by
  unfold goPlane
  dsimp only
  split
  · rfl
  · simp [driveTest, par_settle _ _ _ h]

/-- The ports of a plane show a pattern: Sorrel's override is on, with PULSE and ENABLE of the pattern's codes. -/
def Shows (p : Plane) (c : Nat → Nat) (t : State) : Prop := ∀ n < 36, planeOfPort n = p → t.prt.ovr.getLsbD n = true ∧
  t.prt.pulse.getLsbD n = decide (c n = 2) ∧ t.prt.enable.getLsbD n = (decide (c n = 2) || decide (c n = 1))

/-- A plane's own sequence shows its pattern; another plane's leaves the ports as they are. -/
theorem shows_goPlane_own {p : Plane} {s : State} (h : Idle (lane s p)) : Shows p (portTest p (started p s)) (goPlane p s) := by
  intro n hn hp
  obtain ⟨hpulse, hen⟩ := driveTest_ports p hn (started p s)
  rw [goPlane_idle h, ← started]
  exact ⟨by simp [getLsbD_planeMask p hn, hp], by simpa [hp] using hpulse, by simpa [hp] using hen⟩

theorem shows_goPlane_other {p q : Plane} {c : Nat → Nat} {s : State} (hq : q ≠ p) (h : Shows p c s) : Shows p c (goPlane q s) := by
  intro n hn hp
  obtain ⟨ho, hpulse, hen⟩ := h n hn hp
  unfold goPlane
  dsimp only
  split
  · exact ⟨ho, hpulse, hen⟩
  · obtain ⟨hpulse', hen'⟩ := driveTest_ports q hn (started q s)
    have hne : planeOfPort n ≠ q := fun e => hq (e.symm.trans hp)
    rw [if_neg hne] at hpulse' hen'
    rw [← started]
    exact ⟨by simp [started, ho], by rw [hpulse']; simpa [started] using hpulse, by rw [hen']; simpa [started] using hen⟩

/-- TEST_GO shows the pattern of every idle plane. -/
theorem shows_goAll {p : Plane} {s : State} (h : Idle (lane s p)) :
    Shows p (portTest p (started p s)) (eachPlane goPlane s) := by
  refine eachPlane_own (Q := SameTest p s) (fun q t hq ht => ?_) (fun t ht => ?_) (fun q t hq ht => shows_goPlane_other hq ht)
    ⟨rfl, fun j _ => rfl⟩
  · obtain ⟨hl, hp⟩ := ht
    exact ⟨(lane_goPlane_other q p t hq.symm).trans hl, fun j hj => (par_goPlane q t hj).trans (hp j hj)⟩
  · have hi : Idle (lane t p) := by rw [ht.1]; exact h
    have hs := shows_goPlane_own hi
    rwa [show portTest p (started p t) = portTest p (started p s) from funext (portTest_same ht)] at hs

/-- Under a double pulse the named switch is on at TEST_GO. -/
theorem portTest_doublePulse {p : Plane} {s : State} (hk : (lane s p).testKind = 1) (ht : 0 < par s protTestDpT1) :
    portTest p (started p s) (dpPort s) = if parBit s protTestDpPort 6 then 2 else 1 := by
  have hkind : (lane (started p s) p).testKind = 1 := by simp [started, hk]
  have hon : dpOn (lane (started p s) p) (started p s) = true := by simp [dpOn, started, ht]
  have hport : dpPort (started p s) = dpPort s := rfl
  have hbit : parBit (started p s) protTestDpPort 6 = parBit s protTestDpPort 6 := rfl
  simp only [portTest, hkind, hport, hon, hbit]
  rfl

/-- Under a self-check every switch is off. -/
theorem portTest_selfCheck {p : Plane} {s : State} (hk : (lane s p).testKind = 2) (n : Nat) : portTest p (started p s) n = 0 := by
  have hkind : (lane (started p s) p).testKind = 2 := by simp [started, hk]
  simp only [portTest, hkind]
  rfl

/-- Under a double pulse the named switch is on after TEST_GO; under a self-check every switch of the plane is off. -/
theorem goAll_doublePulse {p : Plane} {s : State} (h : Idle (lane s p)) (hk : (lane s p).testKind = 1) (hn : dpPort s < 36)
    (hp : planeOfPort (dpPort s) = p) (ht : 0 < par s protTestDpT1) :
    (eachPlane goPlane s).prt.ovr.getLsbD (dpPort s) = true ∧ (eachPlane goPlane s).prt.enable.getLsbD (dpPort s) = true ∧
      (eachPlane goPlane s).prt.pulse.getLsbD (dpPort s) = parBit s protTestDpPort 6 := by
  obtain ⟨ho, hpulse, hen⟩ := shows_goAll h (dpPort s) hn hp
  rw [portTest_doublePulse hk ht] at hpulse hen
  refine ⟨ho, hen.trans ?_, hpulse.trans ?_⟩ <;> cases parBit s protTestDpPort 6 <;> rfl

theorem goAll_selfCheck {p : Plane} {s : State} (h : Idle (lane s p)) (hk : (lane s p).testKind = 2) :
    (eachPlane goPlane s).prt.enable &&& planeMask p = 0 := by
  apply BitVec.eq_of_getLsbD_eq
  intro n hn
  by_cases hp : planeOfPort n = p
  · obtain ⟨-, -, hen⟩ := shows_goAll h n hn hp
    rw [BitVec.getLsbD_and, hen, portTest_selfCheck hk n]
    simp
  · rw [BitVec.getLsbD_and, getLsbD_planeMask p hn]
    simp [hp]
/-! ## SET_VALID, MODE and PHASE_STEP (R139, R156, R262, R351) -/

theorem woWritten_zero {id : Nat} (s : State) (h : id ≠ clkPhaseStep) : woWritten id 0 s = s := by simp [woWritten, h]

theorem woWritten_testGo {v : Nat} (s : State) (h : v ≠ 0) : woWritten protTestGo v s = eachPlane goPlane s := by
  rw [woWritten, if_neg (by decide), if_neg h, if_neg (by decide), if_pos rfl]

theorem woWritten_timeLatch {v : Nat} (s : State) (h : v ≠ 0) : woWritten timeLatch v s = latchBases s := by
  rw [woWritten, if_neg (by decide), if_neg h, if_pos rfl]

theorem woWritten_ybusSurvey {v : Nat} (s : State) (h : v ≠ 0) : woWritten ybusSurvey v s = surveyStart s := by
  rw [woWritten, if_neg (by decide), if_neg h, if_neg (by decide), if_neg (by decide), if_pos rfl]

theorem woWritten_setValid {p : Plane} {v : Nat} (s : State) (h : v ≠ 0) : woWritten (modSetValid p.code) v s = armShadow p s := by
  have hp : modPlane (modSetValid p.code) = some p := by cases p <;> rfl
  have h1 : modSetValid p.code ≠ clkPhaseStep := by cases p <;> decide
  have h2 : modSetValid p.code ≠ timeLatch := by cases p <;> decide
  have h3 : modSetValid p.code ≠ protTestGo := by cases p <;> decide
  have h4 : modSetValid p.code ≠ ybusSurvey := by cases p <;> decide
  have h5 : modSetValid p.code ≠ redCtrl := by cases p <;> decide
  have h6 : modSetValid p.code ≠ fwCtrl := by cases p <;> decide
  simp [woWritten, h, h1, h2, h3, h4, h5, h6, hp]

/-- A MODE word in force, as the plane's modulator takes it. -/
theorem laneWord_mode (p : Plane) (v : Nat) (s : State) :
    laneWord (ctlMode p.code) v s = modeWritten p v (setPar (ctlMode p.code) v s) := by
  have hp : ctlPlane (ctlMode p.code) = some p := by cases p <;> rfl
  simp [laneWord, hp]

/-- BAND asks a RUNNING plane in CARRIER for an entry. -/
theorem laneWord_band {p : Plane} {s : State} (hs : (lane s p).st = .running) (hc : (modr s p).carrier = true) :
    laneWord (ctlMode p.code) 0 s = updMod p (fun m => { m with entryReq := true }) (setPar (ctlMode p.code) 0 s) := by
  rw [laneWord_mode, modeWritten, if_neg (by simp [hs]), if_pos rfl, if_pos (by simpa using hc)]

/-- CARRIER arms the exit of a RUNNING plane in BAND. -/
theorem laneWord_carrier {p : Plane} {s : State} (hs : (lane s p).st = .running) :
    laneWord (ctlMode p.code) 1 s =
      updMod p (fun m => if m.carrier then m else { m with exitCmd := true }) (setPar (ctlMode p.code) 1 s) := by
  rw [laneWord_mode, modeWritten, if_neg (by simp [hs]), if_neg (by decide), if_pos rfl]

/-- PHASE_STEP adds to PHASE_PEND, which keeps 9 bits. -/
theorem par_addSteps (v : Nat) (s : State) : par (addSteps v s) clkPhasePend = toBits 9 (phasePend s + signedOf 8 v) := by
  have hlt : toBits 9 (phasePend s + signedOf 8 v) < 2 ^ 32 := by
    unfold toBits
    omega
  rw [addSteps, par_setPar_same, Nat.mod_eq_of_lt hlt]

/-! ## TIME_LATCH (R269) -/

/-- The bases at the last strobe are those of the time alone. -/
theorem acqBase_congr {s t : State} (h : t.time = s.time) (b : Nat) : acqBase t b 0 = acqBase s b 0 := by
  simp only [acqBase, repAt, masterAt, gridCount, zero_mul, h]

/-- Words written one after the other. -/
def putWords (l : List (Nat × Nat)) (s : State) : State := l.foldl (fun s x => setPar x.1 x.2 s) s

theorem par_putWords_other {l : List (Nat × Nat)} {j : Nat} (s : State) (h : j ∉ l.map (·.1)) : par (putWords l s) j = par s j := by
  induction l generalizing s with
  | nil => rfl
  | cons x t ih =>
    simp only [List.map_cons, List.mem_cons, not_or] at h
    exact (ih (setPar x.1 x.2 s) h.2).trans (par_setPar_other _ _ h.1)

theorem putWords_time (l : List (Nat × Nat)) (s : State) : (putWords l s).time = s.time :=
  foldl_same (·.time) (fun s (x : Nat × Nat) => setPar x.1 x.2 s) (fun _ _ => rfl) l s

theorem putWords_planes (l : List (Nat × Nat)) (s : State) : (putWords l s).planes = s.planes :=
  foldl_same (·.planes) (fun s (x : Nat × Nat) => setPar x.1 x.2 s) (fun _ _ => rfl) l s

/-- Of words with different IDs each is in force. -/
theorem par_putWords {l : List (Nat × Nat)} {j v : Nat} (s : State) (hn : (l.map (·.1)).Nodup) (h : (j, v) ∈ l) :
    par (putWords l s) j = v % 2 ^ 32 := by
  induction l generalizing s with
  | nil => simp at h
  | cons x t ih =>
    simp only [List.map_cons, List.nodup_cons] at hn
    obtain rfl | ht := List.mem_cons.1 h
    · exact (par_putWords_other _ hn.1).trans (par_setPar_same ..)
    · exact ih (setPar x.1 x.2 s) hn.2 ht

/-- The words that TIME_LATCH writes. -/
def latchWords (s : State) : List (Nat × Nat) :=
  let mono := (acqBase s 0 0).floor.toNat % 2 ^ 64
  let net := (acqBase s 1 0).floor.toNat
  let bus := busCount (acqBase s 2 0)
  let grid := (acqBase s 3 0).floor.toNat
  [(timeMonoLo, mono % 2 ^ 32), (timeMonoHi, mono / 2 ^ 32), (timeNetNs, net % 1000000000),
   (timeNetSLo, net / 1000000000 % 2 ^ 32), (timeNetSHi, net / 1000000000 / 2 ^ 32 % 2 ^ 16), (timeBusCntLo, bus % 2 ^ 32),
   (timeBusCntHi, bus / 2 ^ 32), (timeBusSub, busSub (acqBase s 2 0)), (timeGridAngle, grid % 2 ^ 32),
   (timeGridCyc, grid / 2 ^ 32 % 2 ^ 32)]

theorem latchBases_eq (s : State) : latchBases s = putWords (latchWords s) s := rfl

theorem latchWords_ids (s : State) : ((latchWords s).map (·.1)).Nodup := by
  simp only [latchWords, List.map_cons, List.map_nil]
  decide

theorem latchBases_keeps (s : State) : (latchBases s).time = s.time ∧ (latchBases s).planes = s.planes := by
  rw [latchBases_eq]
  exact ⟨putWords_time .., putWords_planes ..⟩

/-- Three of the registers (R269). -/
theorem par_latchBases (s : State) :
    par (latchBases s) timeMonoLo = (acqBase s 0 0).floor.toNat % 2 ^ 64 % 2 ^ 32 ∧
    par (latchBases s) timeNetNs = (acqBase s 1 0).floor.toNat % 1000000000 ∧
    par (latchBases s) timeGridCyc = (acqBase s 3 0).floor.toNat / 2 ^ 32 % 2 ^ 32 := by
  have hword : ∀ {j v : Nat}, (j, v) ∈ latchWords s → par (latchBases s) j = v % 2 ^ 32 := fun h => by
    rw [latchBases_eq, par_putWords s (latchWords_ids s) h]
  refine ⟨(hword (v := (acqBase s 0 0).floor.toNat % 2 ^ 64 % 2 ^ 32) ?_).trans (Nat.mod_mod ..),
    (hword (v := (acqBase s 1 0).floor.toNat % 1000000000) ?_).trans ?_,
    (hword (v := (acqBase s 3 0).floor.toNat / 2 ^ 32 % 2 ^ 32) ?_).trans (Nat.mod_mod ..)⟩
  · simp [latchWords]
  · simp [latchWords]
  · omega
  · simp [latchWords]

/-! ## Q_EN (R290) -/

/-- The queues that are discarded, with the handles of their frames. -/
def goneHandles (n : Nat) (q : Nat → Bool) (s : State) : List Nat :=
  (List.range 8).flatMap fun i => if q i then ((ethOf s n).queues.getD i []).filterMap (·.handle) else []

@[simp] theorem ethOf_cancelAll (n : Nat) (l : List Nat) (c : Nat) (s : State) : ethOf (cancelAll l c s) n = ethOf s n := by
  simp [ethOf]

theorem ethOf_dropQueues (n : Nat) (q : Nat → Bool) (s : State) : ethOf (dropQueues n q s) n =
    { ethOf s n with queues := (List.range 8).map fun i => if q i then [] else (ethOf s n).queues.getD i [] } := by
  rw [dropQueues, ethOf_cancelAll]
  by_cases hn : n = 0 <;> simp [ethOf, updEth, hn]

theorem ethOf_dropQueues_other {n k : Nat} (q : Nat → Bool) (s : State) (h : n = 0 ↔ k ≠ 0) :
    ethOf (dropQueues n q s) k = ethOf s k := by
  rw [dropQueues, ethOf_cancelAll]
  by_cases hn : n = 0 <;> by_cases hk : k = 0 <;> simp_all [ethOf, updEth]

/-- A queue of the port, after the discard. -/
theorem queue_dropQueues {n i : Nat} (q : Nat → Bool) (s : State) (hi : i < 8) :
    (ethOf (dropQueues n q s) n).queues.getD i [] = if q i then [] else (ethOf s n).queues.getD i [] := by
  rw [ethOf_dropQueues]
  simp [hi]

/-- What is not outstanding stays so when a handle completes. -/
theorem findOp_complete_none {x : Nat} (h st c : Nat) (r : List Byte) {s : State} (hx : findOp s x = none) :
    findOp (complete h st c r s) x = none := by
  unfold complete
  split
  · exact hx
  · dsimp only
    split
    · exact hx
    · simp only [findOp, List.find?_eq_none] at hx ⊢
      simpa using fun o ho _ => by simpa using hx o ho

theorem findOp_cancelAll_none {x : Nat} (l : List Nat) (c : Nat) {s : State} (hx : findOp s x = none) :
    findOp (cancelAll l c s) x = none := by
  induction l generalizing s with
  | nil => exact hx
  | cons h t ih => exact ih (findOp_complete_none _ _ _ _ hx)

/-- A handle that completes while Tansy works is outstanding no more, whatever completes with it. -/
theorem findOp_cancelAll {x : Nat} {l : List Nat} (c : Nat) {s : State} (hx : x ∈ l) (ht : tansyUp s = true) :
    findOp (cancelAll l c s) x = none := by
  induction l generalizing s with
  | nil => simp at hx
  | cons h t ih =>
    obtain rfl | hx := List.mem_cons.1 hx
    · exact findOp_cancelAll_none t c (findOp_complete_same _ _ _ _ s ht)
    · exact ih hx (by simpa [tansyUp] using ht)

/-- The frames of the discarded queues with a handle are complete. -/
theorem findOp_dropQueues {n i x : Nat} {q : Nat → Bool} {f : Frame} {s : State} (hi : i < 8) (hq : q i = true)
    (hf : f ∈ (ethOf s n).queues.getD i []) (hx : f.handle = some x) (ht : tansyUp s = true) :
    findOp (dropQueues n q s) x = none := by
  refine findOp_cancelAll _ (List.mem_flatMap.2 ⟨i, List.mem_range.2 hi, ?_⟩) ?_
  · rw [if_pos hq]
    exact List.mem_filterMap.2 ⟨f, hf, hx⟩
  · by_cases hn : n = 0 <;> simpa [tansyUp, updEth, hn] using ht

/-- A command that is served finds Tansy at work. -/
theorem tansyUp_of_serving {c : Chan} {s : State} (h : serving s c = true) : tansyUp s = true := by
  simp only [serving, answering, Bool.and_eq_true, Bool.not_eq_true'] at h
  simp [tansyUp, h]

theorem rwWritten_ethQEn {n : Nat} (hn : n < 2) (old v : Nat) (s : State) :
    rwWritten (netEthQEn n) old v s = dropQueues n (fun q => old.testBit q && !v.testBit q) s := by
  have h : n = 0 ∨ n = 1 := by omega
  obtain rfl | rfl := h <;> rfl

/-! ## REF_SEL, REF_MODE and PLLM_BW (R252, R265) -/

theorem rwWritten_refSel (old v : Nat) (s : State) : rwWritten clkRefSel old v s = refSelWritten s := rfl

theorem rwWritten_refMode (bw : Bool) (old v : Nat) (s : State) :
    rwWritten (if bw then clkPllmBw else clkRefMode) old v s = refModeWritten s := by cases bw <;> rfl

theorem testBit_parBits (s : State) (id lo n i : Nat) : (parBits s id lo n).testBit i = (decide (i < n) && parBit s id (i + lo)) := by
  rw [parBits, bits, Nat.testBit_mod_two_pow, Nat.testBit_div_two_pow, parBit]

theorem testBit_parBits_of_lt {n i : Nat} (h : i < n) (s : State) (id lo : Nat) :
    (parBits s id lo n).testBit i = parBit s id (i + lo) := by simp [testBit_parBits, h]

/-- A field is the number whose bits it has. -/
theorem parBits_eq {s : State} {id lo n v : Nat} (hv : v < 2 ^ n) (h : ∀ i < n, parBit s id (i + lo) = v.testBit i) :
    parBits s id lo n = v := by
  refine Nat.eq_of_testBit_eq fun i => ?_
  rw [testBit_parBits]
  by_cases hi : i < n
  · simp [hi, h i hi]
  · simp [hi, Nat.testBit_lt_two_pow (Nat.lt_of_lt_of_le hv (Nat.pow_le_pow_right (by decide) (Nat.not_lt.1 hi)))]

/-- The state of PLL_M after it is taken; the qualification of the references stays as it was. -/
theorem pllm_setPllm {st : Nat} (ref : Nat) (s : State) (hst : st < 8) : pllm (setPllm st ref s) = st := by
  refine parBits_eq hst fun i hi => ?_
  rw [setPllm, parBit_setParBits_off _ _ _ (by omega), parBit_setParBits_on _ _ _ (by omega) (by omega)]
  simp

theorem parBit_setPllm_high (st ref : Nat) {c : Nat} (s : State) (h : 5 ≤ c) :
    parBit (setPllm st ref s) clkPllmStatus c = parBit s clkPllmStatus c := by
  rw [setPllm, parBit_setParBits_off _ _ _ (by omega), parBit_setParBits_off _ _ _ (by omega)]

theorem parBit_setPllm_other (st ref : Nat) {j : Nat} (c : Nat) (s : State) (h : j ≠ clkPllmStatus) :
    parBit (setPllm st ref s) j c = parBit s j c := by
  rw [setPllm, parBit_setParBits_other _ _ _ _ _ h, parBit_setParBits_other _ _ _ _ _ h]

theorem parBit_count_other {id j : Nat} (c : Nat) (s : State) (h : j ≠ id) : parBit (count id s) j c = parBit s j c := by
  rw [parBit, par_count_other _ h, parBit]

/-- An entry into HOLDOVER raises CLK_HOLDOVER and takes PLL_M's state, and no other word but the counts changes (R251). -/
theorem enterHoldover_view (s : State) : parBit (enterHoldover s) clkEvents 0 = true ∧ pllm (enterHoldover s) = 2 ∧
    (∀ c, 5 ≤ c → parBit (enterHoldover s) clkPllmStatus c = parBit s clkPllmStatus c) := by
  have hstatus : ∀ c, parBit (enterHoldover s) clkPllmStatus c = parBit (setPllm 2 3 s) clkPllmStatus c := fun c => by
    rw [enterHoldover, parBit_raiseFlag_other _ _ _ _ (by decide) (by decide), parBit_count_other _ _ (by decide)]
  refine ⟨parBit_raiseFlag _ _ _ _ (by decide) (by decide), ?_, fun c hc => ?_⟩
  · refine parBits_eq (by decide) fun i hi => ?_
    rw [hstatus, ← testBit_parBits_of_lt hi, ← pllm, pllm_setPllm 3 s (by decide)]
  · rw [hstatus, parBit_setPllm_high _ _ _ hc]

/-- A word outside the clock's status, events and counts. -/
abbrev OffPll (j : Nat) : Prop := j ≠ clkPllmStatus ∧ j ≠ clkEvents ∧ j ≠ clkHoldCnt ∧ j ≠ sysEvtLostCnt

theorem par_setPllm (st ref : Nat) (s : State) {j : Nat} (h : OffPll j) : par (setPllm st ref s) j = par s j := by
  rw [setPllm, par_setParBits_other _ _ _ _ h.1, par_setParBits_other _ _ _ _ h.1]

theorem par_enterHoldover (s : State) {j : Nat} (h : OffPll j) : par (enterHoldover s) j = par s j := by
  obtain ⟨-, hev, hcnt, hlost⟩ := id h
  rw [enterHoldover, par_raiseFlag_other _ _ _ hev hlost, par_count_other _ hcnt, par_setPllm _ _ _ h]

@[simp] theorem enterHoldover_planes (s : State) : (enterHoldover s).planes = s.planes := by simp [enterHoldover, setPllm]
@[simp] theorem enterHoldover_time (s : State) : (enterHoldover s).time = s.time := by simp [enterHoldover, setPllm]
@[simp] theorem setPllm_planes (st ref : Nat) (s : State) : (setPllm st ref s).planes = s.planes := by simp [setPllm]

/-- A write of REF_SEL in LOCKED: HOLDOVER, with the primary reference no longer qualified. -/
theorem refSelWritten_locked {s : State} (h : pllm s = 1) : pllm (refSelWritten s) = 2 ∧ parBit (refSelWritten s) clkEvents 0 = true ∧
    parBit (refSelWritten s) clkPllmStatus 7 = false ∧ par (refSelWritten s) clkRefSel = par s clkRefSel ∧
    (refSelWritten s).planes = s.planes ∧ (refSelWritten s).time = s.time := by
  have he : refSelWritten s = enterHoldover (setParBit clkPllmStatus 7 false s) := by simp [refSelWritten, h]
  obtain ⟨hev, hst, hq⟩ := enterHoldover_view (setParBit clkPllmStatus 7 false s)
  rw [he]
  refine ⟨hst, hev, (hq 7 (by decide)).trans (parBit_setParBit_clear ..), ?_, by simp, by simp⟩
  rw [par_enterHoldover _ (by decide), par_setParBit_other _ _ _ (by decide)]

/-- A write of REF_MODE or PLLM_BW in LOCKED onto a qualified primary: through HOLDOVER to RELOCK. -/
theorem refModeWritten_locked {s : State} (h : pllm s = 1) (hu : parBits s clkPllmStatus 3 2 = par s clkRefSel)
    (hq : parBit s clkPllmStatus 7 = true) : refModeWritten s = relock (parBits s clkPllmStatus 3 2) (enterHoldover s) := by
  simp [refModeWritten, h, hu, hq]

/-! ## The writes -/

/-- A write-only word of class LIVE, written, is answered OK after its effect. -/
theorem writeWords_wo {e : Env} {id : Nat} {v : Word} {s : State} (h : Writes e [(id, v)] s) (hr : RowIs id .live .wo) :
    writeWords e [(id, v)] s = answer 2 0x0101 e stOk 0 [] (woWritten id v.toNat (acceptSeq e s)) := by
  rw [writeWords_one h, applyEntry_wo hr]

/-- A read-write word, written, is in force and answered OK after its effect. -/
theorem writeWords_rw {e : Env} {id : Nat} {v : Word} {c : Commit} {s : State} (h : Writes e [(id, v)] s) (hr : RowIs id c .rw)
    (hb : c ≠ .boundary) (hs : c ≠ .reset) (hm : isMaskPtr id = false) (hg : id ≠ sysSeqGapCnt) :
    writeWords e [(id, v)] s =
      answer 2 0x0101 e stOk 0 [] (rwWritten id (par s id) v.toNat (setPar id v.toNat (acceptSeq e s))) := by
  rw [writeWords_one h, applyEntry_rw hr hb hs hm, par_acceptSeq _ _ hg]

/-- A word just written leaves the other words, but for the count of sequence gaps (R329). -/
theorem par_written {id j v : Nat} (e : Env) (s : State) (h : j ≠ id) (hg : j ≠ sysSeqGapCnt) :
    par (setPar id v (acceptSeq e s)) j = par s j := by rw [par_setPar_other _ _ h, par_acceptSeq _ _ hg]

theorem toNat_ne_zero {v : Word} (h : v ≠ 0) : v.toNat ≠ 0 := fun h0 => h (BitVec.eq_of_toNat_eq h0)

theorem dpPort_acceptSeq (e : Env) (s : State) : dpPort (acceptSeq e s) = dpPort s := by
  unfold dpPort parBits
  rw [par_acceptSeq _ _ (by decide)]

theorem phasePend_acceptSeq (e : Env) (s : State) : phasePend (acceptSeq e s) = phasePend s := by
  unfold phasePend
  rw [par_acceptSeq _ _ (by decide)]

theorem ethOf_written (n id v : Nat) (e : Env) (s : State) : ethOf (setPar id v (acceptSeq e s)) n = ethOf s n := by simp [ethOf]

@[simp] theorem ethOf_answer (n cls op : Nat) (e : Env) (st h : Nat) (pl : List Byte) (s : State) :
    ethOf (answer cls op e st h pl s) n = ethOf s n := by simp [ethOf]

theorem isMaskPtr_ethQEn : ∀ n < 2, isMaskPtr (netEthQEn n) = false := by decide

@[simp] theorem dropQueues_planes (n : Nat) (q : Nat → Bool) (s : State) : (dropQueues n q s).planes = s.planes := by
  by_cases hn : n = 0 <;> simp [dropQueues, updEth, hn]

theorem par_dropQueues (n : Nat) (q : Nat → Bool) (s : State) {j : Nat} (h : j ≠ sysEvtLostCnt) :
    par (dropQueues n q s) j = par s j := by
  rw [dropQueues, par_cancelAll _ _ _ h]
  by_cases hn : n = 0 <;> simp [updEth, hn, par]

/-- What REF_MODE and PLLM_BW leave in LOCKED, onto a qualified primary. -/
theorem refModeWritten_view {s : State} (h : pllm s = 1) (hu : parBits s clkPllmStatus 3 2 = par s clkRefSel)
    (hq : parBit s clkPllmStatus 7 = true) : pllm (refModeWritten s) = 3 ∧ parBit (refModeWritten s) clkEvents 0 = true ∧
    (∀ j, OffPll j → par (refModeWritten s) j = par s j) ∧ (refModeWritten s).planes = s.planes := by
  rw [refModeWritten_locked h hu hq, relock]
  refine ⟨pllm_setPllm _ _ (by decide), ?_, fun j hj => by rw [par_setPllm _ _ _ hj, par_enterHoldover _ hj], by simp⟩
  rw [parBit_setPllm_other _ _ _ _ (by decide)]
  exact (enterHoldover_view s).1

/-- Settles O16: each write is the effect of its one word on the state after acceptance. -/
theorem parameterWritesWithEffects : Obligations.ParameterWritesWithEffects := by
  refine ⟨fun e v s => ⟨fun h => ⟨fun hv => ?go, fun hv => ?noGo⟩, fun p h => ⟨fun hv => ?valid, fun hv => ?noValid⟩, fun p h => ?mode,
    fun p hs => ⟨fun hc => ?band, fun hc => ?carrier⟩, fun h => ?step⟩,
    fun e v s => ⟨fun h hv => ?latch, fun h hv hy => ?survey, fun n hn h => ?qEn⟩,
    fun e v s hl => ⟨fun h => ?refSel, fun bw h hu hq => ?refMode⟩⟩
  case go =>
    have ht := (writeWords_wo h row_testGo).trans (congrArg _ (woWritten_testGo _ (toNat_ne_zero hv)))
    refine ⟨_, congrArg Host.Outcome.next ht, lastKept_answer .., fun q hst hk hb => ?_⟩
    have hi : Idle (lane (acceptSeq e s) q) := by rw [lane_acceptSeq]; exact ⟨hst, hk, hb⟩
    rw [lane_answer, lane_goAll hi, answer_prt]
    refine ⟨rfl, rfl, hi.1, fun hk1 hn hp ht1 => ?_, fun hk2 => goAll_selfCheck hi (by rw [lane_acceptSeq]; exact hk2)⟩
    have hdp := goAll_doublePulse hi (by rw [lane_acceptSeq]; exact hk1) (by rw [dpPort_acceptSeq]; exact hn)
      (by rw [dpPort_acceptSeq]; exact hp) (by rw [par_acceptSeq _ _ (by decide)]; exact ht1)
    rwa [dpPort_acceptSeq, show parBit (acceptSeq e s) protTestDpPort 6 = parBit s protTestDpPort 6 by
      rw [parBit, par_acceptSeq _ _ (by decide), parBit]] at hdp
  case noGo =>
    subst hv
    have ht := (writeWords_wo h row_testGo).trans (congrArg _ (woWritten_zero _ (by decide)))
    exact ⟨_, congrArg Host.Outcome.next ht, by simp, by simp⟩
  case valid =>
    have ht := (writeWords_wo h (row_setValid p (row_of_writes h))).trans (congrArg _ (woWritten_setValid _ (toNat_ne_zero hv)))
    refine ⟨_, congrArg Host.Outcome.next ht, lastKept_answer .., ?_, fun q hq => ?_, ?_⟩
    · simp [armShadow]
    · rw [modr_answer, armShadow, updMod, modr_setMod_other _ _ hq, modr_acceptSeq]
    · simp [armShadow]
  case noValid =>
    subst hv
    have ht := (writeWords_wo h (row_setValid p (row_of_writes h))).trans
      (congrArg _ (woWritten_zero _ (by cases p <;> decide)))
    exact ⟨_, congrArg Host.Outcome.next ht, by simp⟩
  case mode =>
    have ht := (writeWords_one h).trans (congrArg _ (applyEntry_boundary (row_mode p (row_of_writes h)) _))
    refine ⟨_, congrArg Host.Outcome.next ht, lastKept_answer .., by simp, ?_, by simp, by simp⟩
    rw [par_answer]
    exact par_acceptSeq _ _ (by cases p <;> decide)
  case band =>
    rw [laneWord_band hs hc, par_updMod, par_setPar_same]
    exact ⟨by simp, rfl⟩
  case carrier =>
    rw [laneWord_carrier hs, par_updMod, par_setPar_same]
    exact ⟨by simp [hc], rfl⟩
  case step =>
    have hw : woWritten clkPhaseStep v.toNat (acceptSeq e s) = addSteps v.toNat (acceptSeq e s) := if_pos rfl
    have ht := (writeWords_wo h row_phaseStep).trans (congrArg _ hw)
    refine ⟨_, congrArg Host.Outcome.next ht, lastKept_answer .., ?_, by simp [addSteps], by simp [addSteps]⟩
    rw [par_answer, par_addSteps, phasePend_acceptSeq]
  case latch =>
    have ht := (writeWords_wo h row_timeLatch).trans (congrArg _ (woWritten_timeLatch _ (toNat_ne_zero hv)))
    obtain ⟨hmono, hnet, hgrid⟩ := par_latchBases (acceptSeq e s)
    obtain ⟨htime, hplanes⟩ := latchBases_keeps (acceptSeq e s)
    have hb : ∀ b, acqBase (acceptSeq e s) b 0 = acqBase s b 0 := acqBase_congr (by simp)
    rw [hb] at hmono hnet hgrid
    refine ⟨_, congrArg Host.Outcome.next ht, lastKept_answer .., ?_, ?_, ?_, ?_, ?_⟩
    · rw [par_answer, hmono]
    · rw [par_answer, hnet]
    · rw [par_answer, hgrid]
    · rw [answer_time, htime, acceptSeq_time]
    · rw [answer_planes, hplanes, acceptSeq_planes]
  case survey =>
    have ht := (writeWords_wo h row_ybusSurvey).trans (congrArg _ (woWritten_ybusSurvey _ (toNat_ne_zero hv)))
    have hy' : onYbus (acceptSeq e s) = true := by simpa [onYbus] using hy
    obtain ⟨hbit, hplanes, htime, -⟩ := surveyStart_view hy'
    refine ⟨_, congrArg Host.Outcome.next ht, lastKept_answer .., ?_, ?_, ?_⟩
    · rw [parBit_congr (answer_params ..), hbit]
    · rw [answer_planes, hplanes, acceptSeq_planes]
    · rw [answer_time, htime, acceptSeq_time]
  case qEn =>
    have hid : netEthQEn n ≠ sysSeqGapCnt ∧ netEthQEn n ≠ sysEvtLostCnt := by unfold netEthQEn sysSeqGapCnt sysEvtLostCnt; omega
    have ht := (writeWords_rw h (row_ethQEn n hn) (by decide) (by decide) (isMaskPtr_ethQEn n hn) hid.1).trans
      (congrArg _ (rwWritten_ethQEn hn ..))
    have hx : exec (.queueDisable e n v) s = .next (writeWords e [(netEthQEn n, v)] s) :=
      congrArg (fun id => Host.Outcome.next (writeWords e [(id, v)] s)) (if_pos hn)
    refine ⟨_, hx.trans (congrArg Host.Outcome.next ht), lastKept_answer .., ?_, fun q hq => ?_, fun q f x hq hold hnew hf hx => ?_,
      ?_, by simp⟩
    · rw [par_answer, par_dropQueues _ _ _ hid.2, par_setPar_same, Nat.mod_eq_of_lt v.isLt]
    · rw [ethOf_answer, queue_dropQueues _ _ hq, ethOf_written]
    · rw [findOp_answer]
      refine findOp_dropQueues hq (by simp [hold, hnew]) (by rw [ethOf_written]; exact hf) hx ?_
      simpa [tansyUp] using tansyUp_of_serving h.1.1
    · rw [ethOf_answer, ethOf_dropQueues_other _ _ (by omega), ethOf_written]
  case refSel =>
    have ht := (writeWords_rw h row_refSel (by decide) (by decide) (by decide) (by decide)).trans (congrArg _ (rwWritten_refSel ..))
    have hl' : pllm (setPar clkRefSel v.toNat (acceptSeq e s)) = 1 := by
      rw [pllm, parBits, par_written _ _ (by decide) (by decide)]
      exact hl
    obtain ⟨hst, hev, hq, hsel, hplanes, htime⟩ := refSelWritten_locked hl'
    refine ⟨_, congrArg Host.Outcome.next ht, lastKept_answer .., ?_, ?_, ?_, ?_, ?_, ?_⟩
    · rw [par_answer, hsel, par_setPar_same, Nat.mod_eq_of_lt v.isLt]
    · exact (congrArg (bits · 0 3) (par_answer ..)).trans hst
    · rw [parBit_congr (answer_params ..), hev]
    · rw [parBit_congr (answer_params ..), hq]
    · rw [answer_planes, hplanes, setPar_planes, acceptSeq_planes]
    · rw [answer_time, htime, setPar_time, acceptSeq_time]
  case refMode =>
    have ht := (writeWords_rw h (row_refMode bw) (by decide) (by decide) (by cases bw <;> decide) (by cases bw <;> decide)).trans
      (congrArg _ (rwWritten_refMode ..))
    have hid : ∀ j, j ≠ clkPllmBw → j ≠ clkRefMode → j ≠ sysSeqGapCnt →
        par (setPar (if bw then clkPllmBw else clkRefMode) v.toNat (acceptSeq e s)) j = par s j := fun j h1 h2 hg =>
      par_written _ _ (by cases bw <;> assumption) hg
    have hstatus := hid clkPllmStatus (by decide) (by decide) (by decide)
    obtain ⟨hst, hev, hoff, hplanes⟩ := refModeWritten_view (s := setPar (if bw then clkPllmBw else clkRefMode) v.toNat (acceptSeq e s))
      (by rw [pllm, parBits, hstatus]; exact hl)
      (by rw [parBits, hstatus, hid clkRefSel (by decide) (by decide) (by decide)]; exact hu) (by rw [parBit, hstatus]; exact hq)
    refine ⟨_, congrArg Host.Outcome.next ht, lastKept_answer .., ?_, ?_, ?_, ?_⟩
    · rw [par_answer, hoff _ (by cases bw <;> decide), par_setPar_same, Nat.mod_eq_of_lt v.isLt]
    · exact (congrArg (bits · 0 3) (par_answer ..)).trans hst
    · rw [parBit_congr (answer_params ..), hev]
    · rw [answer_planes, hplanes, setPar_planes, acceptSeq_planes]

end Sys2Proof.Machine
end

section
/-! PROOFS. The operations of planes G and B that end by a limit or at a boundary: pre-synchronisation, precharge and discharge
(R215, R216, R233, R234). Settles O26. -/

namespace Sys2Proof.Machine
open Sys2Proof

/-! ## The log of completions (R344) -/

@[simp] theorem pushSpi_host_log (p : Packet) (s : State) : (pushSpi p s).host.log = s.host.log := by unfold pushSpi; split <;> rfl
@[simp] theorem keepChan_host_log (c : Chan) (k : ChanSt) (s : State) : (keepChan c k s).host.log = s.host.log := by cases c <;> rfl
@[simp] theorem sendTo_host_log (c : Chan) (p : Packet) (s : State) : (sendTo c p s).host.log = s.host.log := by
  unfold sendTo
  split
  · rfl
  · cases c <;> simp [noteEvent, updHost]
@[simp] theorem sendDst_host_log (p : Packet) (n : Nat) (s : State) : (sendDst p n s).host.log = s.host.log := by
  unfold sendDst
  split <;> rfl
@[simp] theorem routeAsync_host_log (p : Packet) (s : State) : (routeAsync p s).host.log = s.host.log := by
  unfold routeAsync
  dsimp only
  split <;> simp [noteEvent, updHost]
@[simp] theorem sendAsync_host_log (o : Option Nat) (c : Nat) (b : List Byte) (s : State) :
    (sendAsync o c b s).host.log = s.host.log := by
  unfold sendAsync
  split
  · exact routeAsync_host_log ..
  · repeat' split
    all_goals simp [updHost]
@[simp] theorem raiseFlag_host_log (id b d : Nat) (s : State) : (raiseFlag id b d s).host.log = s.host.log := by
  simp [raiseFlag, flagEvent]

theorem lastStatus_congr {s t : State} (h : t.host.log = s.host.log) : lastStatus t = lastStatus s := by rw [lastStatus, h, lastStatus]

/-- An outstanding handle that completes while Tansy works is the last one logged. -/
theorem lastStatus_complete {h : Nat} {s : State} (st c : Nat) (r : List Byte) (ho : (findOp s h).isSome = true)
    (ht : tansyUp s = true) : lastStatus (complete h st c r s) = some st := by
  obtain ⟨o, ho⟩ := Option.isSome_iff_exists.1 ho
  simp [complete, ho, ht, lastStatus, updHost]

/-! ## The operation in progress of an opcode -/

theorem opsOf_congr {s t : State} (h : t.host = s.host) (op : Nat) : opsOf t op = opsOf s op := by simp only [opsOf, h]
theorem findOp_congr {s t : State} (h : t.host.ops = s.host.ops) (x : Nat) : findOp t x = findOp s x := by simp only [findOp, h]

/-- The handle of an operation that goes on is outstanding. -/
theorem findOp_of_opsOf {op h : Nat} {s : State} (hop : opsOf s op = [h]) : (findOp s h).isSome = true := by
  have hmem : h ∈ opsOf s op := by simp [hop]
  obtain ⟨o, ho, rfl⟩ := List.mem_map.1 hmem
  rw [findOp, List.find?_isSome]
  exact ⟨o, (List.mem_filter.1 ho).1, by simp⟩

@[simp] theorem completeOps_planes (op st c : Nat) (s : State) : (completeOps op st c s).planes = s.planes :=
  foldl_same (·.planes) _ (fun _ _ => complete_planes ..) _ s
@[simp] theorem completeOps_time (op st c : Nat) (s : State) : (completeOps op st c s).time = s.time :=
  foldl_same (·.time) _ (fun _ _ => complete_time ..) _ s
@[simp] theorem completeOps_pins (op st c : Nat) (s : State) : (completeOps op st c s).pins = s.pins :=
  foldl_same (·.pins) _ (fun _ _ => complete_pins ..) _ s
theorem par_completeOps (op st c : Nat) (s : State) {j : Nat} (h : j ≠ sysEvtLostCnt) : par (completeOps op st c s) j = par s j :=
  foldl_same (par · j) _ (fun s x => par_complete x st c [] s h) _ s

/-- The operation in progress completes with the status. -/
theorem completeOps_ends {op h : Nat} {s : State} (st c : Nat) (hop : opsOf s op = [h]) (ht : tansyUp s = true) :
    findOp (completeOps op st c s) h = none ∧ lastStatus (completeOps op st c s) = some st := by
  have he : completeOps op st c s = complete h st c [] s := by simp [completeOps, hop]
  rw [he]
  exact ⟨findOp_complete_same _ _ _ _ _ ht, lastStatus_complete _ _ _ (findOp_of_opsOf hop) ht⟩

/-- A long operation whose checks pass is accepted, and its work runs under the handle allocated for it. -/
theorem serveLong_accepted {op : Nat} {e : Env} {body : Nat → State → State × Ans} {work : State → State} {s : State}
    (hf : Fresh op 1 e s) (hr : Room s) (hb : body (nextHandle s) (acceptSeq e s) = accepted op e work (acceptSeq e s)) :
    serveLong 1 op e body s = answer 1 op e stAccepted (nextHandle s) [] (work (allocHandle op e.chan (acceptSeq e s))) :=
  serve_now (st := stAccepted) hf (fun _ => hr) hb

/-! ## The activity of plane G (R221) -/

/-- A field reads as the value last written to it. -/
theorem parBits_setParBits_same {lo n v : Nat} (id : Nat) (s : State) (hv : v < 2 ^ n) (h : lo + n ≤ 32) :
    parBits (setParBits id lo n v s) id lo n = v :=
  parBits_eq hv fun i hi => by rw [parBit_setParBits_on _ _ _ (by omega) (by omega), Nat.add_sub_cancel]

theorem gAct_setAct {a : Nat} (s : State) (ha : a < 4) : gAct (setAct a s) = a := parBits_setParBits_same _ s ha (by decide)

theorem gAct_congr {s t : State} (h : par t gfmState = par s gfmState) : gAct t = gAct s := by simp only [gAct, parBits, h]

/-- Withdrawing the permit leaves the activity. -/
theorem gAct_permitOff (s : State) : gAct (permitOff s) = gAct s := by
  refine parBits_eq (Nat.mod_lt _ (by decide)) fun i hi => ?_
  have hb : ∀ u : State, parBit (setParBit gfmState 7 false u) gfmState (i + 2) = parBit u gfmState (i + 2) := fun u =>
    parBit_setParBit_off _ _ u (by omega)
  rw [gAct, testBit_parBits_of_lt hi]
  exact (hb _).trans (parBit_setParBit_other _ _ _ _ (by decide))

@[simp] theorem setBrk_host (b : Nat) (on : Bool) (s : State) : (setBrk b on s).host = s.host := by
  unfold setBrk
  dsimp only
  repeat' split
  all_goals simp

/-! ## GFM_SYNC (R215, R216) -/

/-- Plane G back in the activity RUN, before an unused permit is withdrawn. -/
def syncLeft (s : State) : State :=
  updGfm (fun g => { g with syncN := 0, permT := 0, eBack := true, relT := some 0, relW := g.wSet }) (setAct 0 s)

theorem endSync_eq (st c : Nat) (s : State) :
    endSync st c s =
      if gAct s = 3 then
        if gPermit (syncLeft (completeOps 0x0020 st c s)) = true ∧ (!(syncLeft (completeOps 0x0020 st c s)).pins.brkAux) = true then
          permitOff (syncLeft (completeOps 0x0020 st c s))
        else syncLeft (completeOps 0x0020 st c s)
      else completeOps 0x0020 st c s := rfl

/-- What the end of GFM_SYNC leaves of the operations that completed. -/
theorem endSync_frame (st c : Nat) (s : State) :
    (endSync st c s).host = (completeOps 0x0020 st c s).host ∧ (endSync st c s).planes = s.planes ∧
      (endSync st c s).time = s.time := by
  rw [endSync_eq]
  repeat' split
  all_goals simp [permitOff, syncLeft, setAct]

/-- The activity SYNC ends in RUN, and a permit that no closed breaker uses is withdrawn. -/
theorem endSync_leaves {st c : Nat} {s : State} (ha : gAct s = 3) :
    gAct (endSync st c s) = 0 ∧ (s.pins.brkAux = false → gPermit (endSync st c s) = false) := by
  have h0 : gAct (syncLeft (completeOps 0x0020 st c s)) = 0 := gAct_setAct _ (by decide)
  have hp : (syncLeft (completeOps 0x0020 st c s)).pins = s.pins := completeOps_pins ..
  rw [endSync_eq, if_pos ha]
  split
  case isTrue => exact ⟨(gAct_permitOff _).trans h0, fun _ => setBrk_hold_permit _⟩
  case isFalse h => exact ⟨h0, fun hb => by simpa [hp, hb] using h⟩

theorem gfmSyncBody_fits {s : State} (e : Env) (h : Nat) (hs : syncFits s = true) :
    gfmSyncBody e { code := 0 } h s =
      accepted 0x0020 e (fun s => setAct 3 (updGfm (fun g => { g with pStar := 0, syncN := 0, permT := 0, relT := none }) s)) s := by
  simp [gfmSyncBody, hs]

theorem gfmSyncBody_unfit {s : State} (e : Env) (h : Nat) (hs : syncFits s = false) :
    gfmSyncBody e { code := 0 } h s = refuse stWrongState s := by simp [gfmSyncBody, hs]

/-! ## DC_PRECHARGE and DC_DISCHARGE (R233, R234) -/

theorem dcBody_fits {op : Nat} {s : State} (e : Env) (h : Nat) (hs : dcFits (decide (op = 0x0021)) s = true) :
    dcBody op e { code := 3 } h s = accepted op e (fun s => if op = 0x0022 then setPar ctlBAux 2 s else s) s := by
  simp [dcBody, hs]

/-- The end of a discharge clears AUX [1] and completes the operation in progress. -/
theorem endDischarge_ends {h : Nat} {s : State} (st c : Nat) (hop : opsOf s 0x0022 = [h]) (ht : tansyUp s = true) :
    findOp (endDischarge st c s) h = none ∧ lastStatus (endDischarge st c s) = some st ∧
      parBit (endDischarge st c s) ctlBAux 1 = false ∧ (endDischarge st c s).planes = s.planes := by
  have he : endDischarge st c s = completeOps 0x0022 st c (setParBit ctlBAux 1 false s) := by simp [endDischarge, hop]
  obtain ⟨hfind, hlast⟩ := completeOps_ends st c (s := setParBit ctlBAux 1 false s)
    ((opsOf_congr (setParBit_host ..) _).trans hop) (by simpa [tansyUp] using ht)
  rw [he]
  refine ⟨hfind, hlast, ?_, by simp⟩
  rw [parBit, par_completeOps _ _ _ _ (by decide)]
  exact parBit_setParBit_clear ..

theorem campionStop_host (p : Plane) (s : State) : (campionStop p s).host = s.host := by
  unfold campionStop
  split <;> rfl
theorem campionStop_params (p : Plane) (s : State) : (campionStop p s).params = s.params := by
  unfold campionStop
  split <;> rfl

/-- A boundary without a precharge in progress, with V_DC below DIS_V, ends the discharge, before a stop of plane D. -/
theorem bStep_below {s : State} (hpre : opsOf s 0x0021 = []) (hv : vdcNow s < (par s ctlBDisV : Nat)) :
    ∃ f, bStep s = endDischarge stOk cNone (updMsd f s) ∨ bStep s = campionStop .d (endDischarge stOk cNone (updMsd f s)) := by
  refine ⟨fun m => { m with vdc := (vdcNow s :: m.vdc).take (past10 s + 1) }, ?_⟩
  have hpre' : ∀ f, opsOf (updMsd f s) 0x0021 = [] := fun f => (opsOf_congr rfl _).trans hpre
  simp only [bStep, hpre', List.isEmpty_nil, Bool.not_true, Bool.false_and, Bool.false_eq_true, if_false, if_pos hv]
  split
  · exact .inr rfl
  · exact .inl rfl

/-- Settles O26: each command is its work on the state after acceptance, and each limit is the completion of the one operation in
progress, with what its end does to plane G's activity, the flag or AUX [1]. -/
theorem syncPrechargeAndDischarge : Obligations.SyncPrechargeAndDischarge := by
  unfold Obligations.SyncPrechargeAndDischarge
  refine ⟨fun e s hf hr => ⟨fun hs => ?sync, fun hs => ?noSync⟩, fun h s hop ht => ?syncTime, fun s hop => ?syncNone,
    fun e s hr => ⟨fun hf hs => ?pre, fun hf hs => ?dis⟩, fun h s hop ht => ?preTime,
    fun h s hop ht => ⟨?disTime, fun hpre hv => ?boundary⟩, fun s hpre hdis => ?none⟩
  case sync =>
    refine ⟨_, congrArg Host.Outcome.next (serveLong_accepted hf hr (gfmSyncBody_fits e _ hs)), accepted_of_answer hr rfl, ?_, ?_,
      ?_, ?_⟩
    · exact (gAct_congr (par_answer ..)).trans (gAct_setAct _ (by decide))
    all_goals simp [setAct]
  case noSync =>
    exact ⟨_, congrArg Host.Outcome.next (serve_now (st := stWrongState) hf (fun _ => hr) (gfmSyncBody_unfit e _ hs)),
      lastKept_answer .., by simp, by simp⟩
  case syncTime =>
    obtain ⟨hhost, hpl, htime⟩ := endSync_frame stCancelled cTimeout s
    obtain ⟨hfind, hlast⟩ := completeOps_ends stCancelled cTimeout hop ht
    refine ⟨endSync stCancelled cTimeout s, congrArg Host.Outcome.next (if_neg (by simp [hop])), ?_, ?_, endSync_leaves, hpl, htime⟩
    · exact (findOp_congr (congrArg (·.ops) hhost) h).trans hfind
    · exact (lastStatus_congr (congrArg (·.log) hhost)).trans hlast
  case syncNone => exact congrArg Host.Outcome.next (if_pos (by simp [hop]))
  case pre =>
    refine ⟨_, congrArg Host.Outcome.next (serveLong_accepted hf hr (dcBody_fits e _ hs)), accepted_of_answer hr rfl, ?_, by simp,
      by simp⟩
    simp only [par_answer, par_congr (allocHandle_params ..), par_acceptSeq e s (show ctlBAux ≠ sysSeqGapCnt by decide),
      if_neg (show ¬ 0x0021 = 0x0022 by decide)]
  case dis =>
    refine ⟨_, congrArg Host.Outcome.next (serveLong_accepted hf hr (dcBody_fits e _ hs)), accepted_of_answer hr rfl, ?_, by simp,
      by simp⟩
    simp
  case preTime =>
    obtain ⟨hfind, hlast⟩ := completeOps_ends stCancelled cTimeout hop ht
    refine ⟨raiseFlag msdFlags 3 0 (completeOps 0x0021 stCancelled cTimeout s), congrArg Host.Outcome.next (if_neg (by simp [hop])),
      ?_, ?_, parBit_raiseFlag _ _ _ _ (by decide) (by decide), by simp, by simp⟩
    · rw [findOp_congr (raiseFlag_host_ops ..), hfind]
    · rw [lastStatus_congr (raiseFlag_host_log ..), hlast]
  case disTime =>
    obtain ⟨hfind, hlast, haux, hpl⟩ := endDischarge_ends stCancelled cTimeout hop ht
    exact ⟨_, rfl, hfind, hlast, haux, hpl, by simp⟩
  case boundary =>
    obtain ⟨f, hb⟩ := bStep_below hpre hv
    obtain ⟨hfind, hlast, haux, -⟩ := endDischarge_ends stOk cNone (s := updMsd f s) ((opsOf_congr rfl _).trans hop) ht
    obtain hb | hb := hb
    · rw [hb]
      exact ⟨hfind, hlast, haux⟩
    · have hhost := campionStop_host .d (endDischarge stOk cNone (updMsd f s))
      rw [hb]
      exact ⟨(findOp_congr (congrArg (·.ops) hhost) h).trans hfind, (lastStatus_congr (congrArg (·.log) hhost)).trans hlast,
        (parBit_congr (campionStop_params ..) ..).trans haux⟩
  case none => exact ⟨congrArg Host.Outcome.next (if_pos (by simp [hpre])), congrArg Host.Outcome.next (if_pos (by simp [hdis]))⟩

end Sys2Proof.Machine
end

section
/-! PROOFS. What the handling of an outer boundary writes to plane G's reference queue, and what it leaves as it was: the time bases,
the switches of the ports, the sample index and To (R196 to R199, R235). -/

namespace Sys2Proof.Machine
open Sys2Proof

/-! ## Plane G's reference queue (R122, R198) -/

/-- Filling the FIFO moves items forward and loses none. -/
theorem refs_fillFifo (l : Lane) :
    (fillFifo l).fifo ++ (fillFifo l).col01 ++ (fillFifo l).colWait = l.fifo ++ (l.col01 ++ l.colWait) := by
  simp [fillFifo]

/-- A write is the last of its plane's queue. -/
theorem refQueue_writeItem (p : Plane) (w : BitVec 64) (s : State) : refQueue p (writeItem p w s) = refQueue p s ++ [w] := by
  rw [refQueue, writeItem, lane_updLane_same, refs_fillFifo]
  simp [refQueue]

theorem refQueue_writeItem_other {p q : Plane} (w : BitVec 64) (s : State) (h : q ≠ p) :
    refQueue q (writeItem p w s) = refQueue q s := by
  rw [refQueue, writeItem, lane_updLane_other _ _ h]

/-- The MARK item of a group (R124). -/
def markItem (k : Nat) : BitVec 64 := BitVec.ofNat 64 (5 * 2 ^ 60 + k % 2 ^ 48)

theorem groupItems_getLast (g : Group) : (groupItems g).getLast? = some (markItem g.mark) := rfl

theorem markItem_mod (k : Nat) : markItem (k % 2 ^ 48) = markItem k := by rw [markItem, Nat.mod_mod, markItem]

/-! ## What a boundary leaves as it was -/

/-- What no part of a boundary changes: the time bases, the switches, a hitless activation, and that no replay plays. -/
structure Steady (s t : State) : Prop where
  time    : t.time = s.time
  upper   : t.prt.upper = s.prt.upper
  lower   : t.prt.lower = s.prt.lower
  hitless : t.fw.hitless = s.fw.hitless
  idle    : s.replay.active = false → t.replay.active = false

theorem Steady.refl (s : State) : Steady s s := ⟨rfl, rfl, rfl, rfl, id⟩

theorem Steady.trans {s t u : State} (h1 : Steady s t) (h2 : Steady t u) : Steady s u :=
  ⟨h2.time.trans h1.time, h2.upper.trans h1.upper, h2.lower.trans h1.lower, h2.hitless.trans h1.hitless, h2.idle ∘ h1.idle⟩

/-- The words that give a boundary its place: OUTER_PERIODS and the sample index. -/
def indexWords : List Nat := [clkOuterPeriods, clkSampleLo, clkSampleHi]

/-- From `s` to `t` the laws at a boundary have written the items `l` to plane G's queue; the boundary noted last and the words that
give it its place are as they were. -/
structure Wrote (s : State) (l : List (BitVec 64)) (t : State) : Prop extends Steady s t where
  last  : t.gfm.last = s.gfm.last
  index : ∀ i ∈ indexWords, par t i = par s i
  queue : refQueue .g t = refQueue .g s ++ l

theorem Wrote.refl (s : State) : Wrote s [] s := ⟨.refl s, rfl, fun _ _ => rfl, by simp⟩

/-- From `s` to `t` the laws have written items of which the last is the MARK of sample k. -/
def Ends (s : State) (k : Nat) (t : State) : Prop := ∃ l, Wrote s l t ∧ l.getLast? = some (markItem k)

theorem Ends.map {s t u : State} {k : Nat} (h : Ends s k t) (hw : ∀ l, Wrote s l t → Wrote s l u) : Ends s k u := by
  obtain ⟨l, hl, hlast⟩ := h
  exact ⟨l, hw l hl, hlast⟩

theorem Ends.at_ite {s t u : State} {k : Nat} {c : Prop} [Decidable c] (ht : Ends s k t) (hu : Ends s k u) :
    Ends s k (if c then t else u) := by
  split <;> assumption

theorem ne_of_index {i id : Nat} (hi : i ∈ indexWords) (hid : indexWords.contains id = false) : i ≠ id := by
  rintro rfl
  simp [hi] at hid

theorem ne_lost_of_index : ∀ i ∈ indexWords, i ≠ sysEvtLostCnt := by decide

namespace Wrote
variable {s t : State} {l : List (BitVec 64)}

theorem sampleK_eq (h : Wrote s l t) : sampleK t = sampleK s := by
  rw [sampleK, h.index clkSampleLo (by decide), h.index clkSampleHi (by decide), sampleK]

theorem outerN_eq (h : Wrote s l t) : outerN t = outerN s := h.index clkOuterPeriods (by decide)

/-! ### The operations of the state -/

theorem at_ite {u : State} {c : Prop} [Decidable c] (ht : Wrote s l t) (hu : Wrote s l u) : Wrote s l (if c then t else u) := by
  split <;> assumption

theorem at_foldl {α : Type} {f : State → α → State} {as : List α} (hf : ∀ t a, Wrote s l t → Wrote s l (f t a))
    (h : Wrote s l t) : Wrote s l (as.foldl f t) := by
  induction as generalizing t with
  | nil => exact h
  | cons a as ih => exact ih (hf t a h)

/-- A function that changes none of these parts of the state. -/
theorem frame {u : State} (h : Wrote s l t) (time : u.time = t.time) (prt : u.prt = t.prt) (fw : u.fw = t.fw)
    (replay : u.replay = t.replay) (gfm : u.gfm = t.gfm) (planes : u.planes = t.planes)
    (index : ∀ i ∈ indexWords, par u i = par t i) : Wrote s l u where
  time := time.trans h.time
  upper := (congrArg Prt.upper prt).trans h.upper
  lower := (congrArg Prt.lower prt).trans h.lower
  hitless := (congrArg Fw.hitless fw).trans h.hitless
  idle hi := (congrArg Replay.active replay).trans (h.idle hi)
  last := (congrArg Gfm.last gfm).trans h.last
  index i hi := (index i hi).trans (h.index i hi)
  queue := by rw [refQueue, lane_congr planes]; exact h.queue

theorem at_setPar {id v : Nat} (hid : indexWords.contains id = false) (h : Wrote s l t) : Wrote s l (setPar id v t) :=
  h.frame rfl rfl rfl rfl rfl rfl fun _ hi => par_setPar_other _ _ (ne_of_index hi hid)

theorem at_setParBit {id b : Nat} {on : Bool} (hid : indexWords.contains id = false) (h : Wrote s l t) :
    Wrote s l (setParBit id b on t) := .at_setPar hid h

theorem at_setParBits {id lo n v : Nat} (hid : indexWords.contains id = false) (h : Wrote s l t) :
    Wrote s l (setParBits id lo n v t) := .at_setPar hid h

theorem at_raiseFlag {id b d : Nat} (hid : indexWords.contains id = false) (h : Wrote s l t) : Wrote s l (raiseFlag id b d t) :=
  h.frame (by simp) (by simp) (by simp) (by simp) (by simp) (by simp)
    fun i hi => par_raiseFlag_other _ _ _ (ne_of_index hi hid) (ne_lost_of_index i hi)

theorem at_raiseNum {n d : Nat} (h : Wrote s l t) : Wrote s l (raiseNum n d t) :=
  h.frame (by simp) (by simp) (by simp) (by simp) (by simp) (by simp) fun i hi => par_raiseNum _ _ _ (ne_lost_of_index i hi)

theorem at_complete {x st c : Nat} {r : List Byte} (h : Wrote s l t) : Wrote s l (complete x st c r t) :=
  h.frame (by simp) (by simp) (by simp) (by simp) (by simp) (by simp) fun i hi => par_complete _ _ _ _ _ (ne_lost_of_index i hi)

theorem at_updGfm {f : Gfm → Gfm} (hf : (fun g => (f g).last) = Gfm.last) (h : Wrote s l t) : Wrote s l (updGfm f t) :=
  ⟨⟨h.time, h.upper, h.lower, h.hitless, h.idle⟩, (congrFun hf _).trans h.last, h.index, h.queue⟩

theorem at_updMsd {f : Msd → Msd} (h : Wrote s l t) : Wrote s l (updMsd f t) := h.frame rfl rfl rfl rfl rfl rfl fun _ _ => rfl
theorem at_updRed {f : Red → Red} (h : Wrote s l t) : Wrote s l (updRed f t) := h.frame rfl rfl rfl rfl rfl rfl fun _ _ => rfl
theorem at_updAcq {f : Acq → Acq} (h : Wrote s l t) : Wrote s l (updAcq f t) := h.frame rfl rfl rfl rfl rfl rfl fun _ _ => rfl

theorem at_updPrt {f : Prt → Prt} (hu : (f t.prt).upper = t.prt.upper) (hl : (f t.prt).lower = t.prt.lower) (h : Wrote s l t) :
    Wrote s l (updPrt f t) :=
  ⟨⟨h.time, hu.trans h.upper, hl.trans h.lower, h.hitless, h.idle⟩, h.last, h.index, h.queue⟩

theorem at_updLane {p : Plane} {f : Lane → Lane} (hq : refQueue .g (updLane p f t) = refQueue .g t) (h : Wrote s l t) :
    Wrote s l (updLane p f t) :=
  ⟨⟨h.time, h.upper, h.lower, h.hitless, h.idle⟩, h.last, h.index, hq.trans h.queue⟩

theorem at_setBrk {b : Nat} {on : Bool} (h : Wrote s l t) : Wrote s l (setBrk b on t) :=
  .at_ite (.at_updPrt rfl rfl (.at_setParBit rfl h)) (.at_ite (.at_setParBit rfl (.at_setParBit rfl h)) (.at_setParBit rfl h))

theorem at_holdSlot {n : Nat} {up : Bool} (h : Wrote s l t) : Wrote s l (holdSlot n up t) := by
  unfold holdSlot updSlot
  exact h.at_updAcq

/-- The end of a replay leaves no replay running. -/
theorem at_endReplay {st c : Nat} (h : Wrote s l t) : Wrote s l (endReplay st c t) := by
  unfold endReplay
  split
  · exact h
  · have hr : Wrote s l { t with replay := {} } :=
      ⟨⟨h.time, h.upper, h.lower, h.hitless, fun _ => rfl⟩, h.last, h.index, h.queue⟩
    exact .at_complete (.at_raiseFlag rfl (.at_setPar rfl hr.at_holdSlot))

/-! ### Groups of the other planes (R124) -/

theorem at_writeGroup {p : Plane} {g : Group} (hp : .g ≠ p) (h : Wrote s l t) : Wrote s l (writeGroup p g t) :=
  .at_foldl (fun _ _ h => .at_updLane (refQueue_writeItem_other _ _ hp) h) h

/-! ### Stops, permits and operations -/

theorem at_campionStop {p : Plane} (h : Wrote s l t) : Wrote s l (campionStop p t) := .at_ite (.at_updLane (by cases p <;> rfl) h) h

theorem at_permitOff (h : Wrote s l t) : Wrote s l (permitOff t) := h.at_setBrk
theorem at_permitOn (h : Wrote s l t) : Wrote s l (permitOn t) := .at_ite h (.at_setParBit rfl h.at_setBrk)

theorem at_completeOps {op st c : Nat} (h : Wrote s l t) : Wrote s l (completeOps op st c t) :=
  .at_foldl (fun _ _ h => h.at_complete) h

theorem at_syncLeft (h : Wrote s l t) : Wrote s l (syncLeft t) := .at_updGfm rfl (.at_setParBits rfl h)

theorem at_endSync {st c : Nat} (h : Wrote s l t) : Wrote s l (endSync st c t) := by
  rw [endSync_eq]
  exact .at_ite (.at_ite h.at_completeOps.at_syncLeft.at_permitOff h.at_completeOps.at_syncLeft) h.at_completeOps

theorem at_endDischarge {st c : Nat} (h : Wrote s l t) : Wrote s l (endDischarge st c t) :=
  .at_ite h (.at_completeOps (.at_setParBit rfl h))

theorem at_takeFails {n : Nat} (h : Wrote s l t) : Wrote s l (takeFails n t) :=
  .at_ite (.at_raiseFlag rfl (h.at_updRed (f := fun r => { r with role := 1, take := none }))) h

/-! ### Plane G before its groups (R201, R206 to R217) -/

theorem at_gReadback (h : Wrote s l t) : Wrote s l (gReadback t) := by
  unfold gReadback
  extract_lets v i p q tf k g o pe qe u i16 hz s1
  have h1 : Wrote s l s1 :=
    .at_setPar rfl (.at_setPar rfl (.at_setPar rfl (.at_setPar rfl (.at_setPar rfl (.at_updGfm rfl h)))))
  exact .at_ite (.at_setPar rfl (.at_setPar rfl h1)) h1

theorem at_stepEst (h : Wrote s l t) : Wrote s l (stepEst t) := by
  unfold stepEst
  exact .at_updGfm rfl h

theorem at_gMeasure (h : Wrote s l t) : Wrote s l (gMeasure t) :=
  .at_ite (.at_raiseFlag rfl h.at_stepEst.at_gReadback) h.at_stepEst.at_gReadback

theorem at_busDisagree {o : GEst} (h : Wrote s l t) : Wrote s l (busDisagree o t) :=
  .at_ite (.at_raiseFlag rfl (.at_updGfm rfl h)) (.at_updGfm rfl h)

theorem at_auxEdge (h : Wrote s l t) : Wrote s l (auxEdge t) :=
  .at_ite (.at_ite (.at_permitOff (.at_raiseFlag rfl (.at_updGfm rfl h))) (.at_raiseFlag rfl (.at_updGfm rfl h))) (.at_updGfm rfl h)

theorem at_deadPermit {o : GEst} (h : Wrote s l t) : Wrote s l (deadPermit o t) :=
  .at_ite (.at_permitOn (.at_updGfm rfl h)) (.at_updGfm rfl h)

theorem at_syncStep {o : GEst} (h : Wrote s l t) : Wrote s l (syncStep o t) := by
  unfold syncStep
  extract_lets f dth dthp hund lf lv la fits s1 t1 n s2
  have h1 : Wrote s l s1 := .at_setPar rfl h
  have h2 : Wrote s l s2 := .at_updGfm rfl h1
  exact .at_ite h (.at_ite (.at_endSync (.at_updGfm rfl h)) (.at_ite h.at_endSync (.at_ite h.at_endSync (.at_ite
    (.at_ite (.at_permitOff (.at_updGfm rfl h1)) (.at_updGfm rfl h1)) (.at_ite h2.at_permitOn.at_raiseNum h2)))))

theorem at_limitStep (h : Wrote s l t) : Wrote s l (limitStep t) :=
  .at_ite (.at_setParBit rfl (.at_updGfm rfl h)) (.at_ite (.at_setParBit rfl (.at_updGfm rfl h)) (.at_updGfm rfl h))

theorem at_frtExit (h : Wrote s l t) : Wrote s l (frtExit t) := by
  have h1 : Wrote s l (raiseFlag gfmFlags 1 0 t) := .at_raiseFlag rfl h
  unfold frtExit
  split
  · exact h1.at_permitOff
  · exact h1.at_permitOff.at_campionStop
  · exact h1

theorem at_frtStep {o : GEst} (h : Wrote s l t) : Wrote s l (frtStep o t) :=
  .at_ite (.at_updGfm rfl h) (.at_ite (.at_ite (.at_setParBit rfl (.at_updGfm rfl (.at_updGfm rfl h))) (.at_updGfm rfl h))
    (.at_ite (.at_setParBit rfl (.at_updGfm rfl (.at_updGfm rfl h))) (.at_ite (.at_frtExit (.at_updGfm rfl h)) (.at_updGfm rfl h))))

theorem at_injectEnd {written : Bool} (h : Wrote s l t) : Wrote s l (injectEnd written t) := .at_ite h.at_endReplay h

theorem at_gridLoss {o : GEst} {opened : Bool} (h : Wrote s l t) : Wrote s l (gridLoss o opened t) := by
  unfold gridLoss
  extract_lets t1 s1 s2
  have h1 : Wrote s l s1 := .at_updGfm rfl h
  have h2 : Wrote s l s2 := .at_raiseFlag rfl (.at_updGfm rfl h1)
  exact .at_ite (.at_ite (.at_updGfm rfl h2) h2.at_campionStop) h1

theorem at_rampStep (h : Wrote s l t) : Wrote s l (rampStep t) :=
  .at_ite (.at_ite (.at_setParBits rfl (.at_updGfm rfl h)) h)
    (.at_ite (.at_ite (.at_setParBits rfl (.at_updGfm rfl h)) (.at_updGfm rfl h)) h)

theorem at_takeRamp (h : Wrote s l t) : Wrote s l (takeRamp t) := by
  unfold takeRamp
  split
  · exact h
  · split
    · exact .at_ite (.at_updGfm rfl h) h
    · exact .at_ite (.at_ite (.at_setParBits rfl (.at_updGfm rfl (.at_updGfm rfl h))) (.at_updGfm rfl h)) (.at_updGfm rfl h)

theorem at_startBlend {i d : Rat × Rat} (h : Wrote s l t) : Wrote s l (startBlend i d t) :=
  .at_ite (.at_setParBit rfl (.at_updGfm rfl h)) (.at_setParBit rfl h)

theorem at_blended {d : Rat × Rat} (h : Wrote s l t) : Wrote s l (blended d t).2 := by
  unfold blended
  split
  · exact h
  · exact .at_ite (.at_setParBit rfl h) (.at_updGfm rfl h)

/-! ### The groups of plane G (R198, R199) -/

theorem at_writeItem {w : BitVec 64} (h : Wrote s l t) : Wrote s (l ++ [w]) (writeItem .g w t) :=
  ⟨⟨h.time, h.upper, h.lower, h.hitless, h.idle⟩, h.last, h.index, by rw [refQueue_writeItem, h.queue, List.append_assoc]⟩

theorem at_writeItems {ws : List (BitVec 64)} (h : Wrote s l t) :
    Wrote s (l ++ ws) (ws.foldl (fun s w => writeItem .g w s) t) := by
  induction ws generalizing l t with
  | nil => simpa using h
  | cons w ws ih => simpa using ih h.at_writeItem

/-- A group ends with its MARK. -/
theorem at_gGroup {d q vd vq f : Rat} {k : Nat} (h : Wrote s l t) : Ends s k (gGroup d q vd vq f k t) := by
  unfold gGroup
  exact ⟨_, .at_writeItems (.at_updGfm rfl h), by rw [List.getLast?_append, groupItems_getLast, markItem_mod]; rfl⟩

theorem at_formGroup {o : GEst} {th : Rat} {k : Nat} (h : Wrote s l t) : Ends s k (formGroup o th k t) := h.at_blended.at_gGroup

theorem at_followGroup {o : GEst} {w : Rat} {k : Nat} (h : Wrote s l t) : Ends s k (followGroup o w k t) := h.at_blended.at_gGroup

/-- Of two groups the second is the last. -/
theorem at_formGroups {o : GEst} {th : Rat} {j k : Nat} (h : Wrote s l t) :
    Ends s k (formGroup o th k (formGroup o th j t)) := by
  obtain ⟨_, h1, -⟩ := h.at_formGroup
  exact h1.at_formGroup

theorem at_followGroups {o : GEst} {w : Rat} {j k : Nat} (h : Wrote s l t) :
    Ends s k (followGroup o w k (followGroup o w j t)) := by
  obtain ⟨_, h1, -⟩ := h.at_followGroup
  exact h1.at_followGroup

end Wrote

/-- The boundary after the next: the sample whose MARK a boundary writes last (R198). -/
def lastMark (s : State) : Nat := sampleK s + 2 * outerN s

theorem Ends.at_switchAt {s t : State} {j k : Nat} (h : Ends s j t) : Ends s j (switchAt k t) := h.map fun _ h => .at_updGfm rfl h

namespace Wrote
variable {s t : State} {l : List (BitVec 64)}

theorem lastMark_eq (h : Wrote s l t) : lastMark t = lastMark s := by rw [lastMark, h.sampleK_eq, h.outerN_eq, lastMark]

/-! ### The laws of plane G (R198, R202, R212, R217, R218, R377) -/

theorem at_gNone (h : Wrote s l t) : Ends s (lastMark s) (gNone t) := by
  rw [← h.lastMark_eq]
  exact h.at_gGroup

theorem at_toFormLaw {o : GEst} {th f : Rat} (h : Wrote s l t) : Ends s (lastMark s) (toFormLaw o th f t) := by
  rw [← h.lastMark_eq]
  exact .at_switchAt (at_formGroups (.at_startBlend (.at_setParBits rfl (.at_updGfm rfl h))))

theorem at_toFollowLaw {o : GEst} {th f : Rat} (h : Wrote s l t) : Ends s (lastMark s) (toFollowLaw o th f t) := by
  rw [← h.lastMark_eq]
  exact .at_switchAt (at_followGroups (.at_startBlend (.at_setParBits rfl (.at_updGfm rfl h))))

/-- A start on a dead capacitor voltage is a black start (R212). -/
theorem at_startLaw {o : GEst} (h : Wrote s l t) : Ends s (lastMark s) (startLaw o t) := by
  refine .at_ite (at_toFollowLaw (.at_updGfm rfl h)) (.at_ite ?_ (at_toFormLaw (.at_updGfm rfl h)))
  rw [← h.lastMark_eq]
  exact .at_switchAt (at_formGroups (.at_setParBit rfl (.at_setParBits rfl (.at_updGfm rfl (.at_updGfm rfl h)))))

theorem at_takeStart {o : GEst} {r : Restored} (h : Wrote s l t) : Ends s (lastMark s) (takeStart o r t) := by
  rw [← h.lastMark_eq]
  exact .at_switchAt (at_formGroups (.at_setPar rfl (.at_setParBits rfl (.at_updGfm rfl h))))

theorem at_startG {o : GEst} (h : Wrote s l t) : Ends s (lastMark s) (startG o t) := by
  unfold startG
  repeat' split
  · exact h.at_takeStart
  · exact h.at_startLaw
  · exact h.at_startLaw

theorem at_swing {o : GEst} {w : Rat} (h : Wrote s l t) : Wrote s l (swing o w t) := by
  unfold swing
  exact .at_updGfm rfl h

theorem at_formStep {o : GEst} (h : Wrote s l t) : Ends s (lastMark s) (formStep o t) := by
  rw [← h.lastMark_eq]
  exact at_formGroup (.at_updGfm rfl h.at_swing)

theorem at_followStep {o : GEst} (h : Wrote s l t) : Ends s (lastMark s) (followStep o t) := by
  rw [← h.lastMark_eq]
  exact at_followGroup (.at_updGfm rfl h)

theorem at_followRun {o : GEst} {opened : Bool} {req : Option Nat} (h : Wrote s l t) :
    Ends s (lastMark s) (followRun o opened req t) := .at_ite h.at_gridLoss.at_toFormLaw h.at_gridLoss.at_followStep

theorem at_gRun {o : GEst} (h : Wrote s l t) : Ends s (lastMark s) (gRun o t) := by
  unfold gRun
  extract_lets opened s1 req s2 s3
  have h2 : Wrote s l s2 := h.at_auxEdge.at_deadPermit.at_syncStep.at_limitStep.at_frtStep.at_injectEnd
  have h3 : Wrote s l s3 := .at_updGfm rfl h2
  exact .at_ite h.at_startG (.at_ite h3.at_followRun (.at_ite h3.at_toFollowLaw h3.at_takeRamp.at_rampStep.at_formStep))

/-- Whatever plane G does at a boundary, it writes groups of which the last is marked with the boundary after the next. -/
theorem at_gBoundary (h : Wrote s l t) : Ends s (lastMark s) (gBoundary t) :=
  .at_ite h.at_gMeasure.at_busDisagree.at_gRun (at_gNone (.at_auxEdge (.at_updGfm rfl h.at_gMeasure.at_busDisagree)))

/-! ### Planes M, D and B and the account (R222 to R241) -/

theorem at_ite_fst {α : Type} {c : Prop} [Decidable c] {x y : State × α} (hx : Wrote s l x.1) (hy : Wrote s l y.1) :
    Wrote s l (if c then x else y).1 := by
  split <;> assumption

theorem at_ifStep {o : OuterIn} (h : Wrote s l t) : Wrote s l (ifStep o t) :=
  .at_ite (.at_setParBit rfl h.at_updMsd) (.at_ite (.at_setParBit rfl h.at_updMsd) (.at_ite (.at_setParBit rfl h.at_updMsd) h))

theorem at_accountMeasure {o : OuterIn} {w : Rat} (h : Wrote s l t) : Wrote s l (accountMeasure o w t) :=
  .at_setPar rfl (.at_setPar rfl (.at_setPar rfl (.at_setPar rfl h.at_updMsd)))

theorem at_exhaustion {f w : Rat} (h : Wrote s l t) : Wrote s l (exhaustion f w t) := by
  refine .at_ite (.at_setParBits rfl (.at_setParBit rfl h)) ?_
  extract_lets s1 b hys a declare
  have h1 : Wrote s l s1 := .at_setParBit rfl h
  have hd (x : Nat) : Wrote s l (declare x) := .at_raiseFlag rfl (.at_setParBits rfl h1)
  split
  · exact .at_ite (.at_ite (hd 2) (.at_setParBits rfl h1)) h1
  · exact .at_ite (.at_ite (hd 1) (.at_setParBits rfl h1)) h1
  · exact .at_ite (hd 1) (.at_ite (hd 2) h1)

theorem at_noteOwner (h : Wrote s l t) : Wrote s l (noteOwner t) :=
  .at_ite (.at_raiseFlag rfl (.at_setParBit rfl h.at_updMsd)) (.at_setParBit rfl h.at_updMsd)

theorem at_setInertia {f w : Rat} (h : Wrote s l t) : Wrote s l (setInertia f w t) :=
  .at_ite (.at_setPar rfl h) (.at_ite (.at_setPar rfl h) (.at_setPar rfl h))

theorem at_writePSet {p : Rat} (h : Wrote s l t) : Wrote s l (writePSet p t) :=
  .at_ite (.at_setParBit rfl (.at_setPar rfl h)) (.at_ite (.at_setParBit rfl (.at_ite (.at_setPar rfl h) h)) h)

theorem at_dcLow (h : Wrote s l t) : Wrote s l (dcLow t) := by
  unfold dcLow
  extract_lets v n s1 s2
  have h1 : Wrote s l s1 := h.at_updMsd
  have h2 : Wrote s l s2 := .at_raiseFlag rfl h1
  refine .at_ite h.at_updMsd (.at_ite ?_ h1)
  split
  · exact h2.at_setBrk
  · exact h2.at_campionStop
  · exact h2

theorem at_fieldWeaken {v : Rat × Rat} (h : Wrote s l t) : Wrote s l (fieldWeaken v t) := by
  unfold fieldWeaken
  exact h.at_updMsd

theorem at_writeMask {id v : Nat} (h : Wrote s l t) : Wrote s l (writeMask id v t) :=
  h.frame rfl rfl rfl rfl rfl rfl fun _ _ => rfl

theorem at_sixStep {o : OuterIn} {f : Rat} {v : Rat × Rat} (h : Wrote s l t) : Wrote s l (sixStep o f v t).1 := by
  have hn {f : Msd → Msd} {x : Option (Rat × Rat) × Option (Rat × Rat)} : Wrote s l (updMsd f t, x).1 := h.at_updMsd
  exact .at_ite_fst h (.at_ite_fst (.at_ite_fst (.at_writeMask (.at_setParBit rfl h.at_updMsd)) h.at_updMsd.at_writeMask)
    (.at_ite_fst (.at_writeMask (.at_writeMask (.at_setParBit rfl h.at_updMsd))) hn))

theorem at_mGain {f : Rat} (h : Wrote s l t) : Wrote s l (mGain f t) := .at_setPar rfl (.at_setPar rfl h)

theorem at_mGroup {o : OuterIn} {th f w : Rat} (h : Wrote s l t) : Wrote s l (mGroup o th f w t) :=
  .at_ite (.at_writeGroup nofun (.at_setParBit rfl h.at_updMsd))
    (.at_writeGroup nofun (.at_mGain (.at_updMsd (.at_sixStep h.at_fieldWeaken))))

theorem at_dStep {p : Rat} (h : Wrote s l t) : Wrote s l (dStep p t) :=
  .at_ite (.at_writeGroup nofun h.at_updMsd) (.at_writeGroup nofun (.at_setPar rfl (.at_setPar rfl h.at_updMsd)))

theorem at_bStep (h : Wrote s l t) : Wrote s l (bStep t) := by
  unfold bStep
  extract_lets v n old enough s1 s2 s3
  have h1 : Wrote s l s1 := h.at_updMsd
  have h2 : Wrote s l s2 := .at_ite (.at_completeOps (.at_setParBit rfl h1)) h1
  have h3 : Wrote s l s3 := .at_ite h2.at_endDischarge h2
  exact .at_ite h3.at_campionStop h3

theorem at_mBoundary {o : OuterIn} (h : Wrote s l t) : Wrote s l (mBoundary o t) :=
  .at_dcLow (.at_bStep (.at_writePSet (.at_setInertia (.at_mGroup (.at_dStep (.at_updMsd (.at_noteOwner (.at_exhaustion
    (.at_accountMeasure (.at_ifStep (.at_setParBit rfl h)))))))))))

/-! ### The takeover and the snapshot (R370, R375 to R378) -/

theorem at_giveStart {p : Plane} {n : Nat} (hp : p ≠ .m) (h : Wrote s l t) : Wrote s l (giveStart p n t) := by
  refine .at_ite ?_ h.at_takeFails
  rw [doStart, if_neg hp]
  exact .at_updLane (by cases p <;> rfl) h

theorem at_takeStarts (h : Wrote s l t) : Wrote s l (takeStarts t) :=
  .at_ite h (.at_ite (.at_giveStart nofun (.at_setParBit rfl h)) (.at_ite (.at_giveStart nofun (.at_setPar rfl (.at_setPar rfl h)))
    (.at_ite (.at_giveStart nofun h) h)))

theorem at_takeDone (h : Wrote s l t) : Wrote s l (takeDone t) := .at_raiseFlag rfl h.at_updRed

theorem at_takePermit (h : Wrote s l t) : Wrote s l (takePermit t) := by
  unfold takePermit
  split
  · exact .at_ite h.at_updRed (.at_ite (.at_raiseFlag rfl h.at_updRed.at_updRed) (.at_ite (.at_takeDone (.at_updGfm rfl h.at_updRed))
      (.at_ite (.at_takeDone (.at_ite (.at_setPar rfl h.at_updRed.at_permitOn) h.at_updRed)) h.at_updRed)))
  · exact h

theorem at_writeSnapshot (h : Wrote s l t) : Wrote s l (writeSnapshot t) := .at_ite h h.at_updRed

end Wrote

end Sys2Proof.Machine
end

section
/-! PROOFS. The outer boundary as a whole, and the loss of the encoder in use (R196, R223, R235). Settles O27. -/

namespace Sys2Proof.Machine
open Sys2Proof

/-! ## Campion's words (R351) -/

/-- A word that Campion takes can change a word in force, but none of what a boundary keeps. -/
theorem steady_campionWord (id v : Nat) (s : State) : Steady s (campionWord id v s) := by
  have h : Wrote (setPar id v s) [] (setPar id v s) := .refl _
  have hl : Wrote (setPar id v s) [] (lawWritten v (setPar id v s)) := .at_updGfm rfl (.at_ite h.at_endSync h)
  have hw : Wrote (setPar id v s) [] (campionWord id v s) := .at_ite hl (.at_ite h.at_updMsd h)
  exact ⟨hw.time, hw.upper, hw.lower, hw.hitless, hw.idle⟩

theorem steady_foldl {α : Type} {f : State → α → State} (hf : ∀ s a, Steady s (f s a)) (as : List α) (s : State) :
    Steady s (as.foldl f s) := by
  induction as generalizing s with
  | nil => exact .refl s
  | cons a as ih => exact (hf s a).trans (ih _)

/-! ## The boundary (R196, R235) -/

/-- The state in which the laws of a boundary begin: the words that waited are in force and the sample is noted. -/
def boundaryBegun (o : OuterIn) (s : State) : State :=
  updRed (fun r => { r with aon := o.aon })
    (updGfm (fun g => { g with last := some (sampleK s) }) (takeWaiting .campion campionWord s))

theorem steady_boundaryBegun (o : OuterIn) (s : State) : Steady s (boundaryBegun o s) := by
  have hw : Steady { s with wait := s.wait.filter fun w => engineOf w.1 ≠ .campion } (takeWaiting .campion campionWord s) :=
    steady_foldl (fun t (w : Nat × BitVec 32) => steady_campionWord w.1 w.2.toNat t) _ _
  exact ⟨hw.time, hw.upper, hw.lower, hw.hitless, hw.idle⟩

/-- Without a waiting word the laws begin at the sample and with the queue that the boundary found. -/
theorem boundaryBegun_noWords {s : State} (o : OuterIn) (hw : s.wait = []) :
    refQueue .g (boundaryBegun o s) = refQueue .g s ∧ lastMark (boundaryBegun o s) = lastMark s := by
  have ht : takeWaiting .campion campionWord s = { s with wait := [] } := by simp [takeWaiting, hw]
  rw [boundaryBegun, ht]
  exact ⟨rfl, rfl⟩

/-- The state after the laws of a boundary, with the takeover's permit and the snapshot. -/
def lawsDone (o : OuterIn) (s : State) : State := writeSnapshot (takePermit (allLaws o (takeStarts (boundaryBegun o s))))

/-- Outside a hitless activation and a replay a boundary that is due runs every law once. -/
theorem outerBoundary_eq {s : State} (o : OuterIn) (hd : boundaryDue s = true) (hh : s.fw.hitless = none)
    (hr : s.replay.active = false) :
    outerBoundary o s = bumpFree { lawsDone o s with sums := {}, free := (lawsDone o s).free + 31 } := by
  have hs := (steady_boundaryBegun o s).trans (Wrote.refl (boundaryBegun o s)).at_takeStarts.toSteady
  have hl : lawsAt o (takeStarts (boundaryBegun o s)) = allLaws o (takeStarts (boundaryBegun o s)) := by
    rw [lawsAt, hs.hitless, hh]
  simp only [outerBoundary, hd, Bool.not_true, Bool.false_eq_true, if_false]
  rw [← boundaryBegun, hl, hs.idle hr]
  rfl

/-- A boundary's groups end with the MARK of the boundary after the next. -/
theorem outerBoundary_ends {s : State} (o : OuterIn) (hd : boundaryDue s = true) (hh : s.fw.hitless = none)
    (hr : s.replay.active = false) :
    (outerBoundary o s).sums = {} ∧ Ends (boundaryBegun o s) (lastMark (boundaryBegun o s)) (outerBoundary o s) := by
  have he : Ends (boundaryBegun o s) (lastMark (boundaryBegun o s)) (lawsDone o s) :=
    (Wrote.refl (boundaryBegun o s)).at_takeStarts.at_gBoundary.map fun _ h => h.at_mBoundary.at_takePermit.at_writeSnapshot
  rw [outerBoundary_eq o hd hh hr]
  exact ⟨rfl, he.map fun _ h => h.frame rfl rfl rfl rfl rfl rfl fun _ _ => rfl⟩

/-! ## The loss of the encoder in use (R223) -/

theorem encLost_eq {n : Nat} {s : State} (he : encoderOf s = some n) (ha : s.isl.app = true) :
    encLost n s =
      if par s msdEncFallback = 1 ∧ u124 s msdSlFmin ≤ absR (lane s .m).ref.f then
        updMsd (fun m => { m with fallback := true }) (raiseFlag msdFlags 0 n s)
      else campionStop .m (raiseFlag msdFlags 0 n s) := by
  simp [encLost, he, ha]

/-- A plane that runs and does not stop yet begins to ramp down (R90). -/
theorem campionStop_eq {p : Plane} {s : State} (hr : (lane s p).st = .running) (hs : (lane s p).stopping = none) :
    campionStop p s = beginStop p 0 s := by simp [campionStop, hr, hs]

/-- Settles O27: each part of a boundary is followed by what it writes to plane G's queue and by what none of them changes; the loss
of the encoder raises its flag before the fallback or the stop. -/
theorem outerBoundariesAndEncoderLoss : Obligations.OuterBoundariesAndEncoderLoss := by
  unfold Obligations.OuterBoundariesAndEncoderLoss
  refine ⟨fun o s hd hh hr => ?due, fun o s hd => ?notDue, fun n s hn => ⟨fun he ha hfb hf => ?fallback,
    fun he ha hf hst hsp => ?stop, fun he => ?other⟩⟩
  case due =>
    have hs := steady_boundaryBegun o s
    obtain ⟨hsums, l, hw, hlast⟩ := outerBoundary_ends o hd hh hr
    refine ⟨outerBoundary o s, rfl, hsums, hw.last, hw.time.trans hs.time, hw.upper.trans hs.upper, hw.lower.trans hs.lower,
      fun hwait _ => ⟨l, ?_, ?_⟩⟩
    · rw [hw.queue, (boundaryBegun_noWords o hwait).1]
    · rw [hlast, (boundaryBegun_noWords o hwait).2, markItem, lastMark]
  case notDue => exact congrArg Host.Outcome.next (if_pos (by simp [hd]))
  case fallback =>
    refine ⟨_, congrArg Host.Outcome.next ((if_pos hn).trans ((encLost_eq he ha).trans (if_pos ⟨hfb, hf⟩))), ?_, rfl, by simp⟩
    exact parBit_raiseFlag msdFlags 0 n s (by decide) (by decide)
  case stop =>
    have hc := campionStop_eq (p := .m) (s := raiseFlag msdFlags 0 n s) (by simpa using hst) (by simpa using hsp)
    refine ⟨_, congrArg Host.Outcome.next ((if_pos hn).trans ((encLost_eq he ha).trans ((if_neg hf).trans hc))), ?_, ?_,
      fun q hq => ?_⟩
    · exact parBit_raiseFlag msdFlags 0 n s (by decide) (by decide)
    · simp [beginStop]
    · rw [beginStop, lane_updLane_other _ _ hq, lane_raiseFlag]
  case other => exact congrArg Host.Outcome.next ((if_pos hn).trans (if_pos he))

end Sys2Proof.Machine
end

section
/-! PROOFS. PLL_M between its references, the frequency windows, the move to the FBO and back, PLL_P and the steps of the tap selector
(R250 to R264). Settles O51. -/

namespace Sys2Proof.Machine
open Sys2Proof

/-! ## The words of the clocks -/

theorem toBits_lt {n : Nat} (i : Int) (h : n ≤ 32) : toBits n i < 2 ^ 32 := by
  have hpos : (0 : Int) < (2 ^ n : Nat) := Int.natCast_pos.2 (Nat.two_pow_pos n)
  have hlt : toBits n i < 2 ^ n := by
    have := Int.emod_lt_of_pos i hpos
    have := Int.emod_nonneg i hpos.ne'
    unfold toBits
    omega
  exact Nat.lt_of_lt_of_le hlt (Nat.pow_le_pow_right (by decide) h)

/-- A register of n bits reads as the bits last written to it. -/
theorem par_setPar_toBits {n : Nat} (id : Nat) (i : Int) (s : State) (h : n ≤ 32) :
    par (setPar id (toBits n i) s) id = toBits n i := by
  rw [par_setPar_same, Nat.mod_eq_of_lt (toBits_lt i h)]

/-- No entry into SAFE writes a word of the CLK block. -/
theorem offSafe_clk {j : Nat} (p : Plane) (hlo : 0x100 ≤ j) (hhi : j < 0x200) : OffSafe p j := by
  refine ⟨Or.inl (by omega), ?_, ?_, ?_, ?_, ?_, Or.inl ?_⟩
  all_goals simp only [protSafeCause, protSafeCnt, protBrkCtrl, sysEvtLostCnt, gfmState, modPsPer]; omega

theorem par_causeEvery_clk {j : Nat} (c : Nat) (m : Ports) (s : State) (hlo : 0x100 ≤ j) (hhi : j < 0x200) :
    par (causeEvery c m s) j = par s j := par_causeEach_off allPlanes c m s fun p => offSafe_clk p hlo hhi

theorem parBit_of_par {s t : State} {j : Nat} (h : par t j = par s j) (b : Nat) : parBit t j b = parBit s j b := by
  rw [parBit, h, parBit]

theorem parBits_of_par {s t : State} {j : Nat} (h : par t j = par s j) (lo n : Nat) : parBits t j lo n = parBits s j lo n := by
  rw [parBits, h, parBits]

/-- A set bit stays set when a flag is raised. -/
theorem parBit_raiseFlag_keeps {id j c : Nat} (b d : Nat) {s : State} (hl : j ≠ sysEvtLostCnt) (h : parBit s j c = true) :
    parBit (raiseFlag id b d s) j c = true :=
  (parBit_of_par (par_flagEvent id b d _ hl) c).trans (parBit_setParBit_keeps b h)

/-! ## The state of PLL_M and its references -/

theorem pllm_congr {s t : State} (h : par t clkPllmStatus = par s clkPllmStatus) : pllm t = pllm s := parBits_of_par h 0 3

theorem onFbo_congr {s t : State} (h : par t clkPllmStatus = par s clkPllmStatus) : onFbo t = onFbo s := parBit_of_par h 5

/-- A bit of CLK.PLLM_STATUS above the state leaves the state. -/
theorem pllm_setParBit {b : Nat} (on : Bool) (s : State) (h : 3 ≤ b) : pllm (setParBit clkPllmStatus b on s) = pllm s := by
  refine parBits_eq (Nat.mod_lt _ (by decide)) fun i hi => ?_
  rw [parBit_setParBit_off _ _ _ (by omega), ← testBit_parBits_of_lt hi, pllm]

theorem pllm_setState {v : Nat} (s : State) (h : v < 8) : pllm (setParBits clkPllmStatus 0 3 v s) = v :=
  parBits_eq h fun i hi => parBit_setParBits_on _ _ _ (by omega) (by omega)

/-- The reference in use after it is taken. -/
theorem refUse_setPllm (st ref : Nat) (s : State) : parBits (setPllm st ref s) clkPllmStatus 3 2 = ref % 4 := by
  refine parBits_eq (Nat.mod_lt _ (by decide)) fun i hi => ?_
  rw [setPllm, parBit_setParBits_on _ _ _ (by omega) (by omega), Nat.add_sub_cancel,
    Nat.testBit_mod_two_pow (j := 2), decide_eq_true hi, Bool.true_and]

theorem pllm_raiseFlag {id : Nat} (b d : Nat) (s : State) (h : clkPllmStatus ≠ id) : pllm (raiseFlag id b d s) = pllm s :=
  pllm_congr (par_raiseFlag_other b d s h (by decide))

/-! ## What PLL_M's changes keep -/

/-- What a change of PLL_M's state, its references or its flags keeps: all but the low bits of CLK.PLLM_STATUS, the flags, which stay
set, and the counts. -/
structure PllStep (s t : State) : Prop where
  planes : t.planes = s.planes
  prt : t.prt = s.prt
  time : t.time = s.time
  clk : t.clk = s.clk
  isl : t.isl = s.isl
  fbo : onFbo t = onFbo s
  word : ∀ j, OffPll j → par t j = par s j
  flags : ∀ b, parBit s clkEvents b = true → parBit t clkEvents b = true

namespace PllStep

variable {s t u : State}

theorem refl (s : State) : PllStep s s := ⟨rfl, rfl, rfl, rfl, rfl, rfl, fun _ _ => rfl, fun _ h => h⟩

theorem trans (h : PllStep s t) (g : PllStep t u) : PllStep s u :=
  ⟨g.planes.trans h.planes, g.prt.trans h.prt, g.time.trans h.time, g.clk.trans h.clk, g.isl.trans h.isl, g.fbo.trans h.fbo,
    fun j hj => (g.word j hj).trans (h.word j hj), fun b hb => g.flags b (h.flags b hb)⟩

theorem at_ite {c : Prop} [Decidable c] (h : PllStep s t) (g : PllStep s u) : PllStep s (if c then t else u) := by
  split <;> assumption

theorem at_setParBit {b : Nat} {on : Bool} (hb : b ≠ 5) (h : PllStep s t) : PllStep s (setParBit clkPllmStatus b on t) :=
  h.trans ⟨rfl, rfl, rfl, rfl, rfl, parBit_setParBit_off _ _ _ (Ne.symm hb), fun _ hj => par_setParBit_other _ _ _ hj.1,
    fun _ hc => (parBit_setParBit_other _ _ _ _ (by decide)).trans hc⟩

theorem at_setPllm {st ref : Nat} (h : PllStep s t) : PllStep s (setPllm st ref t) :=
  h.trans ⟨rfl, rfl, rfl, rfl, rfl, parBit_setPllm_high _ _ _ (by decide), fun _ hj => par_setPllm _ _ _ hj,
    fun _ hc => (parBit_setPllm_other _ _ _ _ (by decide)).trans hc⟩

theorem at_raiseFlag {b d : Nat} (h : PllStep s t) : PllStep s (raiseFlag clkEvents b d t) :=
  h.trans ⟨raiseFlag_planes .., raiseFlag_prt .., raiseFlag_time .., raiseFlag_clk .., raiseFlag_isl ..,
    parBit_raiseFlag_other _ _ _ _ (by decide) (by decide), fun _ hj => par_raiseFlag_other _ _ _ hj.2.1 hj.2.2.2,
    fun _ hc => parBit_raiseFlag_keeps _ _ (by decide) hc⟩

theorem at_count (h : PllStep s t) : PllStep s (count clkHoldCnt t) :=
  h.trans ⟨rfl, rfl, rfl, rfl, rfl, parBit_count_other _ _ (by decide), fun _ hj => par_count_other _ hj.2.2.1,
    fun _ hc => (parBit_count_other _ _ (by decide)).trans hc⟩

theorem at_enterHoldover (h : PllStep s t) : PllStep s (enterHoldover t) := h.at_setPllm.at_count.at_raiseFlag

theorem at_clkHoldover (h : PllStep s t) : PllStep s (clkHoldover t) :=
  .at_ite (.at_enterHoldover (.at_setParBit (by split <;> decide) h)) h

theorem at_refQualified {alt : Bool} (h : PllStep s t) : PllStep s (refQualified alt t) :=
  have hq : PllStep s (setParBit clkPllmStatus (if alt then 8 else 7) true t) := .at_setParBit (by cases alt <;> decide) h
  .at_ite h (.at_ite hq.at_setPllm hq)

theorem at_disqualify {w : FreqWin} (h : PllStep s t) : PllStep s (disqualify w t) := by
  have hdrop : ∀ (id b : Nat) (v : State), b ≠ 5 → PllStep s v →
      PllStep s (if par v id ≠ 3 ∧ refBeyond v w (par v id) then setParBit clkPllmStatus b false v else v) :=
    fun id b v hb hv => .at_ite (hv.at_setParBit hb) hv
  have hboth := hdrop clkRefAlt 8 _ (by decide) (hdrop clkRefSel 7 t (by decide) h)
  exact .at_ite hboth.at_clkHoldover hboth

end PllStep

/-! ## The references of PLL_M (R251, R252) -/

/-- In LOCKED a lost reference counts on CLK.HOLD_CNT. -/
theorem par_clkHoldover_holdCnt {s : State} (h : pllm s = 1) (hc : par s clkHoldCnt < 65535) :
    par (clkHoldover s) clkHoldCnt = par s clkHoldCnt + 1 := by
  have hold : ∀ b, par (setPllm 2 3 (setParBit clkPllmStatus b false s)) clkHoldCnt = par s clkHoldCnt := fun b => by
    rw [setPllm, par_setParBits_other _ _ _ _ (by decide), par_setParBits_other _ _ _ _ (by decide),
      par_setParBit_other _ _ _ (by decide)]
  rw [clkHoldover, if_pos (Or.inl h), enterHoldover, par_raiseFlag_other _ _ _ (by decide) (by decide),
    par_count _ _ (by rwa [hold]), hold]

/-- In LOCKED a lost reference puts PLL_M into HOLDOVER. -/
theorem clkHoldover_locked {s : State} (h : pllm s = 1) :
    pllm (clkHoldover s) = 2 ∧ parBit (clkHoldover s) clkEvents 0 = true := by
  rw [clkHoldover, if_pos (Or.inl h)]
  obtain ⟨hev, hst, -⟩ := enterHoldover_view
    (setParBit clkPllmStatus (if decide (parBits s clkPllmStatus 3 2 ≠ par s clkRefSel) then 8 else 7) false s)
  exact ⟨hst, hev⟩

theorem refQualified_primary {s : State} (h3 : par s clkRefSel ≠ 3) (hq : mayQualify (par s clkRefSel) s = true) :
    refQualified false s = if pllm s = 2 then relock (par s clkRefSel) (setParBit clkPllmStatus 7 true s)
      else setParBit clkPllmStatus 7 true s := by simp [refQualified, h3, hq]

theorem refQualified_alternate {s : State} (h3 : par s clkRefAlt ≠ 3) (hq : mayQualify (par s clkRefAlt) s = true) :
    refQualified true s = setParBit clkPllmStatus 8 true s := by simp [refQualified, h3, hq]

/-- A primary that qualifies is noted, and in HOLDOVER starts RELOCK. -/
theorem refQualified_primary_view {s : State} (h3 : par s clkRefSel ≠ 3) (hq : mayQualify (par s clkRefSel) s = true) :
    parBit (refQualified false s) clkPllmStatus 7 = true ∧ (pllm s = 2 → pllm (refQualified false s) = 3) ∧
      (pllm s ≠ 2 → pllm (refQualified false s) = pllm s) := by
  have hbit := parBit_setParBit clkPllmStatus 7 s (by decide)
  rw [refQualified_primary h3 hq]
  by_cases h : pllm s = 2
  · rw [if_pos h]
    exact ⟨(parBit_setPllm_high _ _ _ (by decide)).trans hbit, fun _ => pllm_setPllm _ _ (by decide), fun hn => absurd h hn⟩
  · rw [if_neg h]
    exact ⟨hbit, fun hn => absurd hn h, fun _ => pllm_setParBit _ _ (by decide)⟩

theorem clkAltUsed_eq {s : State} (h : pllm s = 2) (h3 : par s clkRefAlt ≠ 3) (hq : parBit s clkPllmStatus 8 = true) :
    clkAltUsed s = raiseFlag clkEvents 1 0 (setPllm 3 (par s clkRefAlt) s) := if_pos ⟨h, h3, hq⟩

/-! ## The frequency windows (R255, R257) -/

/-- A window raises CLK_DISAGREE: it measures the TCXO, more than 150 ppm off. -/
def windowDisagrees (w : FreqWin) (s : State) : Bool := !extSelected s && decide (1500 < absI w.xref)

/-- The state with a window's errors and the increment of the FBO noted. -/
def windowNoted (w : FreqWin) (s : State) : State :=
  let s1 := setPar clkYclkFerr (match w.yclk with | some y => ferrWord y | none => 0x8000)
    (setPar clkXrefFerr (ferrWord w.xref) (setPar clkPllmFerr (ferrWord w.pllm) s))
  { s1 with time := { s1.time with fboInc := w.fbo }, clk := { s1.clk with disagree := windowDisagrees w s } }

/-- The state with a window's flags raised too. -/
def windowFlagged (w : FreqWin) (s : State) : State :=
  let s2 := if windowDisagrees w s then raiseFlag clkEvents 5 0 (windowNoted w s) else windowNoted w s
  if w.clamp then raiseFlag clkEvents 4 0 s2 else s2

/-- The state at a window's end, before a move to the FBO begins: the references that it shows beyond ±200 ppm are dropped (R251). -/
def windowShown (w : FreqWin) (s : State) : State := disqualify w (windowFlagged w s)

theorem freqWindow_eq {w : FreqWin} {s : State} (h : s.isl.prt = true) :
    freqWindow w s = if 5000 < absI w.pllm ∧ !windowDisagrees w s then startFallback (windowShown w s)
      else windowShown w s := by
  simp only [freqWindow, h, Bool.not_true, Bool.false_eq_true, if_false]
  rfl

theorem windowFlagged_step (w : FreqWin) (s : State) : PllStep (windowNoted w s) (windowFlagged w s) :=
  have h : PllStep (windowNoted w s) _ := .at_ite (PllStep.refl (windowNoted w s)).at_raiseFlag (.refl _)
  .at_ite h.at_raiseFlag h

theorem windowShown_step (w : FreqWin) (s : State) : PllStep (windowNoted w s) (windowShown w s) :=
  (windowFlagged_step w s).at_disqualify

theorem ferrWord_lt (x : Int) : ferrWord x < 2 ^ 32 := toBits_lt _ (by decide)

theorem par_windowNoted_other {w : FreqWin} {s : State} {j : Nat} (hy : j ≠ clkYclkFerr) (hx : j ≠ clkXrefFerr)
    (hp : j ≠ clkPllmFerr) : par (windowNoted w s) j = par s j :=
  ((par_setPar_other _ _ hy).trans (par_setPar_other _ _ hx)).trans (par_setPar_other _ _ hp)

/-- A window's errors are in their registers. -/
theorem par_windowNoted (w : FreqWin) (s : State) : par (windowNoted w s) clkPllmFerr = ferrWord w.pllm ∧
    par (windowNoted w s) clkXrefFerr = ferrWord w.xref ∧
    ∀ y, w.yclk = some y → par (windowNoted w s) clkYclkFerr = ferrWord y := by
  have hset : ∀ id x u, par (setPar id (ferrWord x) u) id = ferrWord x := fun id x u =>
    (par_setPar_same ..).trans (Nat.mod_eq_of_lt (ferrWord_lt x))
  refine ⟨?_, ?_, fun y hy => ?_⟩
  · exact ((par_setPar_other _ _ (by decide)).trans (par_setPar_other _ _ (by decide))).trans (hset ..)
  · exact (par_setPar_other _ _ (by decide)).trans (hset ..)
  · rw [windowNoted, hy]
    exact hset ..

/-- A window that disagrees raises its flag, and none of the window's later effects clears it. -/
theorem windowShown_disagrees {w : FreqWin} {s : State} (h : windowDisagrees w s = true) :
    parBit (windowShown w s) clkEvents 5 = true := by
  have hraised : PllStep (raiseFlag clkEvents 5 0 (windowNoted w s)) (windowFlagged w s) := by
    rw [windowFlagged, h]
    exact .at_ite (PllStep.refl _).at_raiseFlag (.refl _)
  exact hraised.at_disqualify.flags 5 (parBit_raiseFlag _ _ _ _ (by decide) (by decide))

/-! ## The move to the FBO and back (R257 to R260) -/

theorem startFallback_eq {s : State} (hf : onFbo s = false) (hr : s.clk.fbReq = false) (hp : s.isl.prt = true) :
    startFallback s = { causeEvery 0x11 0 s with clk := { s.clk with fbReq := true } } := by simp [startFallback, hf, hr, hp]

/-- The move's beginning leaves the words of the CLK block, the time bases and the mark of a disagreement. -/
theorem startFallback_keeps (s : State) : (∀ j, 0x100 ≤ j → j < 0x200 → par (startFallback s) j = par s j) ∧
    (startFallback s).time = s.time ∧ (startFallback s).clk.disagree = s.clk.disagree := by
  unfold startFallback
  split
  · exact ⟨fun _ _ _ => rfl, rfl, rfl⟩
  · exact ⟨fun j hlo hhi => par_causeEvery_clk 0x11 0 s hlo hhi, causeEvery_time .., rfl⟩

/-- What a window shows in the CLK block, the time bases and the mark of a disagreement outlasts the beginning of a move. -/
theorem freqWindow_keeps {w : FreqWin} {s : State} (h : s.isl.prt = true) :
    (∀ j, 0x100 ≤ j → j < 0x200 → par (freqWindow w s) j = par (windowShown w s) j) ∧
      (freqWindow w s).time = (windowShown w s).time ∧ (freqWindow w s).clk.disagree = (windowShown w s).clk.disagree := by
  rw [freqWindow_eq h]
  split
  · exact startFallback_keeps _
  · exact ⟨fun _ _ _ => rfl, rfl, rfl⟩

/-- The move's beginning takes every active plane to SAFE with cause 0x11, and its request is under way. -/
theorem startFallback_safe {p : Plane} {s : State} (hf : onFbo s = false) (hr : s.clk.fbReq = false) (hp : s.isl.prt = true)
    (ha : activeSt (lane s p).st = true) : (lane (startFallback s) p).st = .safe ∧
      par (startFallback s) (protSafeCause p.code) = 0x11 ∧ (startFallback s).clk.fbReq = true := by
  rw [startFallback_eq hf hr hp]
  obtain ⟨hst, hc⟩ := causeEvery_safe (c := 0x11) 0 s (by decide) hp ha
  exact ⟨(congrArg Lane.st (lane_congr rfl p)).trans hst, hc, rfl⟩

@[simp] theorem unalign_clk (s : State) : (unalign s).clk = s.clk :=
  foldl_same (·.clk) _ (fun s p => by split <;> rfl) _ s

/-- The state with the selector on the FBO and no step pending, and ALIGNED cleared. -/
def fboTaken (s : State) : State :=
  unalign (setPar clkPhasePend 0 (setParBit clkPllmStatus 5 true { s with clk := { s.clk with fbReq := false } }))

theorem clkFallback_eq {s : State} (hr : s.clk.fbReq = true) (ha : s.prt.ascStep = 0) :
    clkFallback s = raiseFlag clkEvents 2 0 (count clkFallbackCnt (fboTaken s)) := if_pos (by simp [hr, ha])

/-- The move sets its bit, empties PHASE_PEND, raises its flag and ends its request. -/
theorem clkFallback_view {s : State} (hr : s.clk.fbReq = true) (ha : s.prt.ascStep = 0) : onFbo (clkFallback s) = true ∧
    par (clkFallback s) clkPhasePend = 0 ∧ parBit (clkFallback s) clkEvents 2 = true ∧ (clkFallback s).clk.fbReq = false ∧
    (clkFallback s).planes = s.planes := by
  have hword : ∀ j, j ≠ clkEvents → j ≠ clkFallbackCnt → j ≠ sysEvtLostCnt → par (clkFallback s) j = par (fboTaken s) j :=
    fun j he hc hl => by rw [clkFallback_eq hr ha, par_raiseFlag_other _ _ _ he hl, par_count_other _ hc]
  have htaken : ∀ j, par (fboTaken s) j = par (setPar clkPhasePend 0 (setParBit clkPllmStatus 5 true s)) j :=
    fun j => par_congr (unalign_params _) j
  refine ⟨?_, ?_, ?_, ?_, ?_⟩
  · refine (parBit_of_par (hword _ (by decide) (by decide) (by decide)) 5).trans ?_
    refine (parBit_of_par ((htaken _).trans (par_setPar_other _ _ (by decide))) 5).trans ?_
    exact parBit_setParBit _ _ _ (by decide)
  · rw [hword _ (by decide) (by decide) (by decide), htaken, par_setPar_same, Nat.zero_mod]
  · rw [clkFallback_eq hr ha]
    exact parBit_raiseFlag _ _ _ _ (by decide) (by decide)
  · rw [clkFallback_eq hr ha]
    simp [fboTaken]
  · rw [clkFallback_eq hr ha]
    simp [fboTaken]

theorem clkReturn_eq {s : State} (hf : onFbo s = true) (hl : pllm s = 1)
    (he : absI (signedOf 16 (par s clkPllmFerr)) ≤ 500) :
    clkReturn s = raiseFlag clkEvents 3 0 (setParBit clkPllmStatus 5 false s) := if_pos (by simp [hf, hl, he])

/-! ## PLL_P (R263, R264) and the islands held in reset -/

@[simp] theorem leaveReset_params (s : State) : (leaveReset s).params = s.params := by
  unfold leaveReset
  repeat' split
  all_goals rfl
@[simp] theorem leaveReset_planes (s : State) : (leaveReset s).planes = s.planes := by
  unfold leaveReset
  repeat' split
  all_goals rfl
@[simp] theorem leaveReset_time (s : State) : (leaveReset s).time = s.time := by
  unfold leaveReset
  repeat' split
  all_goals rfl

/-- Islands held in reset leave it, ISL_PRT and ISL_AON at once. -/
theorem leaveReset_released {s : State} (h : s.isl.inReset = true) :
    (leaveReset s).isl.inReset = false ∧ (leaveReset s).isl.prt = true ∧ (leaveReset s).isl.aon = true := by
  rw [leaveReset, if_pos h]
  exact ⟨rfl, rfl, rfl⟩

/-! ## Phase steps (R261, R262) -/

/-- What one step of the tap selector takes from PHASE_PEND. -/
def stepTaken (s : State) : Int := if 0 < phasePend s then 1 else -1

/-- The state with one step of the tap selector in PHASE_PEND and PHASE_ACC. -/
def stepCounted (s : State) : State :=
  setPar clkPhaseAcc (toBits 32 (signedOf 32 (par s clkPhaseAcc) + stepTaken s))
    (setPar clkPhasePend (toBits 9 (phasePend s - stepTaken s)) s)

/-- The marks move by the step. -/
def marksMoved (d : Int) (s : State) : State :=
  allPlanes.foldl (fun s p => updMod p (fun m => { m with mark := m.mark.map (· - d) }) s) s

theorem phaseStepApply_eq {s : State} (hs : pllm s ≠ 0) (hf : onFbo s = false) (hp : phasePend s ≠ 0) :
    phaseStepApply s = marksMoved (stepTaken s) (stepCounted s) := by
  have hd : (if 0 < phasePend s then 1 else if phasePend s < 0 then -1 else 0 : Int) = stepTaken s := by
    unfold stepTaken
    split
    · rfl
    · exact if_pos (by omega)
  simp only [phaseStepApply, hd]
  exact if_neg (by simp [hs, hf])

@[simp] theorem marksMoved_params (d : Int) (s : State) : (marksMoved d s).params = s.params :=
  foldl_same (·.params) _ (fun _ _ => updMod_params ..) _ s
@[simp] theorem marksMoved_planes (d : Int) (s : State) : (marksMoved d s).planes = s.planes :=
  foldl_same (·.planes) _ (fun _ _ => updMod_planes ..) _ s
@[simp] theorem marksMoved_time (d : Int) (s : State) : (marksMoved d s).time = s.time :=
  foldl_same (·.time) _ (fun _ _ => updMod_time ..) _ s

/-- A step shows in both its registers. -/
theorem par_stepCounted (s : State) : par (stepCounted s) clkPhasePend = toBits 9 (phasePend s - stepTaken s) ∧
    par (stepCounted s) clkPhaseAcc = toBits 32 (signedOf 32 (par s clkPhaseAcc) + stepTaken s) :=
  ⟨(par_setPar_other _ _ (by decide)).trans (par_setPar_toBits _ _ _ (by decide)), par_setPar_toBits _ _ _ (by decide)⟩

/-! ## The obligation -/

/-- Settles O51: the changes of PLL_M keep what `PllStep` names, so that a window's errors and flags outlast its later effects, and the
planes' entries into SAFE write no word of the clocks. -/
theorem referencesAndFallback : Obligations.ReferencesAndFallback := by
  unfold Obligations.ReferencesAndFallback
  refine ⟨fun s h => ?holdover, fun s h => ⟨?acquire, ?noAlternate⟩, fun s h3 hq => ?primary, fun s h3 hq => ?alternate,
    fun s h h3 hq => ?altUsed, fun w s hp => ?window, fun p s hp ha hf hr => ⟨fun h => ?holdoverMax, fun w hw hx => ?beyond⟩,
    fun s hr => ⟨fun ha => ?fallback, fun ha => ?waits⟩, fun s hf hl he => ?back, fun s h => ?prtHold, fun s h => ?prtLocked,
    fun s hs hf hp => ?phaseStep⟩
  case holdover =>
    have hk := (PllStep.refl s).at_clkHoldover
    obtain ⟨hst, hev⟩ := clkHoldover_locked h
    exact ⟨clkHoldover s, rfl, hst, hev, par_clkHoldover_holdCnt h, hk.planes, hk.prt, hk.time⟩
  case acquire => exact congrArg Host.Outcome.next (if_neg (by simp [h]))
  case noAlternate => exact congrArg Host.Outcome.next (if_neg (by simp [h]))
  case primary =>
    have hk := (PllStep.refl s).at_refQualified (alt := false)
    obtain ⟨hbit, hrelock, hsame⟩ := refQualified_primary_view h3 hq
    exact ⟨refQualified false s, rfl, hbit, hrelock, hsame, hk.planes, hk.time⟩
  case alternate =>
    refine ⟨_, congrArg Host.Outcome.next (refQualified_alternate h3 hq), parBit_setParBit _ _ _ (by decide), ?_, rfl, rfl⟩
    exact pllm_setParBit _ _ (by decide)
  case altUsed =>
    have hk := (PllStep.refl s).at_setPllm (st := 3) (ref := par s clkRefAlt) |>.at_raiseFlag (b := 1) (d := 0)
    refine ⟨_, congrArg Host.Outcome.next (clkAltUsed_eq h h3 hq), ?_, ?_, ?_, hk.planes, hk.time⟩
    · rw [pllm_raiseFlag _ _ _ (by decide), pllm_setPllm _ _ (by decide)]
    · rw [parBits_of_par (par_raiseFlag_other _ _ _ (by decide) (by decide)), refUse_setPllm]
    · exact parBit_raiseFlag _ _ _ _ (by decide) (by decide)
  case window =>
    have hk := windowShown_step w s
    obtain ⟨hpllm, hxref, hyclk⟩ := par_windowNoted w s
    obtain ⟨hpar, htime, hdis⟩ := freqWindow_keeps (w := w) hp
    have hnoted : ∀ j, 0x100 ≤ j → j < 0x200 → OffPll j → par (freqWindow w s) j = par (windowNoted w s) j :=
      fun j hlo hhi hj => (hpar j hlo hhi).trans (hk.word j hj)
    refine ⟨freqWindow w s, rfl, ?_, ?_, fun y hy => ?_, ?_, fun he hx => ?_, fun h5 => ?_⟩
    · rw [hnoted _ (by decide) (by decide) (by decide), hpllm]
    · rw [hnoted _ (by decide) (by decide) (by decide), hxref]
    · rw [hnoted _ (by decide) (by decide) (by decide), hyclk y hy]
    · rw [htime, hk.time]
      rfl
    · have hd : windowDisagrees w s = true := by simp [windowDisagrees, he, hx]
      refine ⟨(parBit_of_par (hpar _ (by decide) (by decide)) 5).trans (windowShown_disagrees hd), ?_⟩
      rw [hdis, hk.clk]
      exact hd
    · rw [freqWindow_eq hp, if_neg (fun h => absurd h.1 (Int.not_lt.2 h5))]
      exact ⟨hk.planes, hk.prt⟩
  case holdoverMax =>
    exact ⟨startFallback s, congrArg Host.Outcome.next (if_pos h), startFallback_safe hf hr hp ha⟩
  case beyond =>
    have hk := windowShown_step w s
    have hd : windowDisagrees w s = false := by simp [windowDisagrees, hx]
    have hfbo : onFbo (windowNoted w s) = onFbo s := onFbo_congr (par_windowNoted_other (by decide) (by decide) (by decide))
    refine ⟨_, congrArg Host.Outcome.next ((freqWindow_eq hp).trans (if_pos ⟨hw, by simp [hd]⟩)), startFallback_safe ?_ ?_ ?_ ?_⟩
    · rw [hk.fbo, hfbo, hf]
    · rw [hk.clk]
      exact hr
    · rw [hk.isl]
      exact hp
    · rw [lane_congr hk.planes]
      exact ha
  case fallback =>
    obtain ⟨hfbo, hpend, hev, hreq, hpl⟩ := clkFallback_view hr ha
    exact ⟨clkFallback s, rfl, hfbo, hpend, hev, hreq, hpl, clkFallback_prt s⟩
  case waits => exact congrArg Host.Outcome.next (if_neg (by simp [ha]))
  case back =>
    refine ⟨_, congrArg Host.Outcome.next (clkReturn_eq hf hl he), ?_, parBit_raiseFlag _ _ _ _ (by decide) (by decide), by simp,
      by simp⟩
    rw [onFbo, parBit_raiseFlag_other _ _ _ _ (by decide) (by decide), parBit_setParBit_clear]
  case prtHold =>
    refine ⟨_, congrArg Host.Outcome.next (if_pos h), ?_, parBit_raiseFlag _ _ _ _ (by decide) (by decide), by simp, by simp⟩
    exact (par_raiseFlag_other _ _ _ (by decide) (by decide)).trans (par_setPar_same ..)
  case prtLocked =>
    exact ⟨_, congrArg Host.Outcome.next (if_pos h), par_setPar_same .., leaveReset_released, by simp, by simp, by simp⟩
  case phaseStep =>
    obtain ⟨hpend, hacc⟩ := par_stepCounted s
    refine ⟨phaseStepApply s, rfl, ?_, ?_, ?_, phaseStepApply_prt s, ?_⟩
    · rw [phaseStepApply_eq hs hf hp, par_congr (marksMoved_params ..), hpend, stepTaken]
    · rw [phaseStepApply_eq hs hf hp, par_congr (marksMoved_params ..), hacc, stepTaken]
    · rw [phaseStepApply_eq hs hf hp, marksMoved_planes]
      rfl
    · rw [phaseStepApply_eq hs hf hp, marksMoved_time]
      rfl

end Sys2Proof.Machine
end

section
/-! PROOFS. The power-up sequence: the first lock of PLL_M with the boot ROM, the fast-start image, the settings load and TANSY_EXT (R250,
R397, R401, R403, R415, R420). Settles O38. -/

namespace Sys2Proof.Machine
open Sys2Proof

/-! ## The first lock (R250, R420) -/

/-- A powered module out of reset, with no takeover under way, is in no reset to leave. -/
theorem leaveReset_alive {s : State} (hv : alive s = true) (ht : s.red.take = none) : leaveReset s = s := by
  obtain ⟨-, hr⟩ : s.isl.power = true ∧ s.isl.inReset = false := by simpa [alive] using hv
  rw [leaveReset, if_neg (by simp [hr]), ht]

/-- The state in which the boot ROM begins: PLL_M LOCKED, and the islands that it feeds running. -/
def coreStarted (s : State) : State :=
  { setParBits clkPllmStatus 0 3 1 s with isl := { s.isl with ctl := true, sys := true, acq := true } }

theorem pllmLocked_first {s : State} (hp : s.isl.prt = true) (hv : alive s = true) (hl : s.prt.supplyLoss = false)
    (ht : s.red.take = none) (h : pllm s = 0) : pllmLocked s = bootRom (coreStarted s) := by
  have hpow : s.isl.power = true := (by simpa [alive] using hv : s.isl.power = true ∧ s.isl.inReset = false).1
  simp only [pllmLocked, leaveReset_alive hv ht, h, hpow, hp, hl]
  rfl

/-- In RELOCK a lock makes PLL_M LOCKED, whatever islands leave reset with it. -/
theorem pllmLocked_relock {s : State} (h : pllm s = 3) :
    pllmLocked s = setParBits clkPllmStatus 0 3 1 (leaveReset s) :=
  if_pos ((pllm_congr (par_congr (leaveReset_params s) _)).trans h)

theorem coreStarted_params (s : State) : (coreStarted s).params = (setParBits clkPllmStatus 0 3 1 s).params := rfl

theorem pllm_coreStarted (s : State) : pllm (coreStarted s) = 1 :=
  (pllm_congr (par_congr (coreStarted_params s) _)).trans (pllm_setState s (by decide))

theorem par_coreStarted {j : Nat} (s : State) (h : j ≠ clkPllmStatus) : par (coreStarted s) j = par s j :=
  (par_congr (coreStarted_params s) j).trans (par_setParBits_other _ _ _ _ h)

@[simp] theorem coreStarted_planes (s : State) : (coreStarted s).planes = s.planes := rfl
@[simp] theorem coreStarted_fw (s : State) : (coreStarted s).fw = s.fw := rfl

/-! ## The boot ROM (R397, R399) -/

/-- The state with the boot counted. -/
def bootCounted (s : State) : State := setPar fwBootCnt ((par s fwBootCnt + 1) % 2 ^ 32) s

theorem par_bootCounted (s : State) : par (bootCounted s) fwBootCnt = (par s fwBootCnt + 1) % 2 ^ 32 := by
  rw [bootCounted, par_setPar_same, Nat.mod_mod]

theorem par_bootCounted_other {j : Nat} (s : State) (h : j ≠ fwBootCnt) : par (bootCounted s) j = par s j := par_setPar_other _ _ h

@[simp] theorem bootCounted_planes (s : State) : (bootCounted s).planes = s.planes := setPar_planes ..
@[simp] theorem bootCounted_fw (s : State) : (bootCounted s).fw = s.fw := setPar_fw ..

theorem bootRom_recovery {s : State} (h : s.isl.askRecovery = true) : bootRom s = enterRecovery (bootCounted s) := if_pos h

theorem bootRom_select {s : State} (h : s.isl.askRecovery = false) : bootRom s = selectSlot 5 (bootCounted s) := by
  refine if_neg ?_
  simp [h]

/-- A takeover that cannot go on changes no word but its flag's. -/
theorem par_takeFails {j : Nat} (n : Nat) (s : State) (h : j ≠ redEvents) (hl : j ≠ sysEvtLostCnt) :
    par (takeFails n s) j = par s j := by
  unfold takeFails
  split
  · exact par_raiseFlag_other _ _ _ h hl
  · rfl

/-- Recovery shows its stage, and the islands but for its own marks stay as they are. -/
theorem enterRecovery_view (s : State) : par (enterRecovery s) sysBootStage = 15 ∧
    (∀ j, j ≠ sysBootStage → j ≠ redEvents → j ≠ sysEvtLostCnt → par (enterRecovery s) j = par s j) ∧
    (enterRecovery s).isl = { s.isl with recovery := true, askRecovery := false } ∧ (enterRecovery s).planes = s.planes := by
  refine ⟨?_, fun j hj hr hl => ?_, takeFails_isl .., takeFails_planes ..⟩
  · exact (par_takeFails _ _ (by decide) (by decide)).trans (par_setPar_same ..)
  · exact (par_takeFails _ _ hr hl).trans (par_setPar_other _ _ hj)

theorem slotOf_congr {s t : State} (h : t.fw = s.fw) : slotOf t = slotOf s := by
  funext n
  rw [slotOf, slotOf, h]

theorem trialSlot_congr {s t : State} (h : t.fw = s.fw) : trialSlot t = trialSlot s := by
  rw [trialSlot, trialSlot, slotOf_congr h]

theorem goodSlot_congr {s t : State} (h : t.fw = s.fw) : goodSlot t = goodSlot s := by
  rw [goodSlot, goodSlot, slotOf_congr h, h]

theorem keyOf_congr {s t : State} (hf : t.fw = s.fw) (hk : par t fwKeyPolicy = par s fwKeyPolicy) (k : Nat) :
    keyOf t k = keyOf s k := by
  rw [keyOf, keyOf, hf, hk]

/-- Whether a fast-start image verifies depends on the firmware state and FW.KEY_POLICY. -/
theorem fastStartOk_congr {s t : State} (hf : t.fw = s.fw) (hk : par t fwKeyPolicy = par s fwKeyPolicy) (n : Nat) :
    fastStartOk t n = fastStartOk s n := by
  rw [fastStartOk, fastStartOk, manifestOk, manifestOk, keyOf_congr hf hk, slotOf_congr hf, hf]

/-- The state with a slot chosen. -/
def slotChosen (n : Nat) (s : State) : State := setPar sysBootStage 1 (updFw (fun f => { f with chosen := some n }) s)

theorem par_slotChosen_other {j : Nat} (n : Nat) (s : State) (h : j ≠ sysBootStage) : par (slotChosen n s) j = par s j :=
  par_setPar_other _ _ h

@[simp] theorem slotChosen_planes (n : Nat) (s : State) : (slotChosen n s).planes = s.planes := rfl

/-- With no slot on trial, the GOOD slot whose fast-start image verifies is chosen at the first look. -/
theorem selectSlot_good {s : State} {n : Nat} (k : Nat) (ht : trialSlot s = none) (hg : goodSlot s = some n)
    (hf : fastStartOk s n = true) :
    selectSlot (k + 1) s = slotChosen n s := by
  simp only [selectSlot, ht, hg, hf, if_true, slotChosen]

/-! ## The fast-start image and TANSY_EXT (R388, R397) -/

/-- The state with the image of a slot running. -/
def imageStarted (n : Nat) (lockstep : Bool) (s : State) : State :=
  let s1 := updFw (fun f => { f with
    run := some n, last := if (slotOf s n).st = 3 then n else s.fw.last, stopped := f.stopped || !lockstep }) s
  setPar sysBootStage 2 { s1 with isl := { s1.isl with app := lockstep } }

theorem fastStartLoaded_eq {n : Nat} {s : State} (b : Bool) (hc : s.fw.chosen = some n) (hr : s.fw.run = none)
    (hs : s.isl.sys = true) :
    fastStartLoaded b s = if b then imageStarted n b s else takeFails 3 (imageStarted n b s) := by
  simp only [fastStartLoaded, hc, hr, hs]
  rfl

/-- The image runs, and ISL_APP as its lockstep test found it, whatever becomes of a takeover. -/
theorem fastStartLoaded_view {n : Nat} {s : State} (b : Bool) (hc : s.fw.chosen = some n) (hr : s.fw.run = none)
    (hs : s.isl.sys = true) : (fastStartLoaded b s).fw.run = some n ∧ (fastStartLoaded b s).isl.app = b ∧
      par (fastStartLoaded b s) sysBootStage = 2 ∧ (fastStartLoaded b s).planes = s.planes ∧ (fastStartLoaded b s).time = s.time := by
  have hstage : par (imageStarted n b s) sysBootStage = 2 := par_setPar_same ..
  rw [fastStartLoaded_eq b hc hr hs]
  cases b with
  | true => exact ⟨rfl, rfl, hstage, rfl, rfl⟩
  | false =>
    refine ⟨?_, ?_, (par_takeFails _ _ (by decide) (by decide)).trans hstage, takeFails_planes .., takeFails_time ..⟩
    · exact congrArg Fw.run (takeFails_fw ..)
    · exact congrArg Isl.app (takeFails_isl ..)

/-! ## What the settings' coming into force keeps -/

/-- The pair, the record that is loaded with its hash, and the tiles. -/
def recordView (s : State) : Red × Option Nat × List Byte × Tab Tile := (s.red, s.fw.loaded, s.fw.setHash, s.rgt.tiles)

/-- The same, with SYS_UP, the start of MDCLK and the boot stage. -/
def upView (s : State) : (Red × Option Nat × List Byte × Tab Tile) × Bool × Bool × Nat :=
  (recordView s, s.isl.sysUp, s.isl.mdclk, par s sysBootStage)

theorem recordView_congr {s t : State} (hr : t.red = s.red) (hf : t.fw = s.fw) (hg : t.rgt = s.rgt) : recordView t = recordView s := by
  simp only [recordView, hr, hf, hg]

theorem recordView_setBad (n : Nat) (on : Bool) (s : State) : recordView (setBad n on s) = recordView s := rfl

/-- The supplies of the ports and the marks of the islands are no part of it. -/
theorem recordView_supplied (i : Isl) (s : State) : recordView (setPar sysBootStage 3 { takeM5v s with isl := i }) = recordView s := rfl

theorem recordView_takeStored (s : State) : recordView (takeStored s) = recordView s :=
  foldl_same recordView _ (fun _ _ => by rfl) _ s

theorem recordView_markUnwritten (s : State) : recordView (markUnwritten s) = recordView s :=
  foldl_same recordView _ (fun s t => by
    split
    · rfl
    · exact recordView_setBad t true s) _ s

theorem recordView_enterHoldover (s : State) : recordView (enterHoldover s) = recordView s :=
  recordView_congr (by simp [enterHoldover, setPllm]) (by simp [enterHoldover, setPllm]) (by simp [enterHoldover, setPllm])

theorem recordView_takeClock (s : State) : recordView (takeClock s) = recordView s := by
  unfold takeClock
  repeat' split
  · rfl
  · rfl
  · exact recordView_enterHoldover s
  · exact recordView_enterHoldover s

theorem upView_flagEvent (id b d : Nat) (s : State) : upView (flagEvent id b d s) = upView s := by
  simp [upView, recordView, par_flagEvent]

theorem upView_raiseFlag {id : Nat} (b d : Nat) (s : State) (h : sysBootStage ≠ id) : upView (raiseFlag id b d s) = upView s := by
  simp [upView, recordView, par_raiseFlag_other _ _ _ h]

theorem upView_powerUpTests (hw : Nat) (s : State) : upView (powerUpTests hw s) = upView s := by
  unfold powerUpTests
  extract_lets fail s1
  have h1 : upView s1 = upView s := by
    refine (foldl_same upView _ (fun s t => ?_) _ _).trans ?_
    · dsimp only
      split <;> rfl
    · simp [upView, recordView, showTests, par_setPar_other]
  split
  · exact (upView_raiseFlag _ _ _ (by decide)).trans h1
  · exact h1

theorem upView_lateFlags (s : State) : upView (lateFlags s) = upView s := by
  have ha : ∀ id b (s : State), upView (if parBit s id b then flagEvent id b 0 s else s) = upView s := fun id b s => by
    split
    · exact upView_flagEvent ..
    · rfl
  unfold lateFlags
  extract_lets again s1
  have h1 : upView s1 = upView s := by simp only [s1, again, ha]
  rw [← h1]
  repeat' split
  · rfl
  · exact upView_raiseFlag _ _ _ (by decide)
  · rfl

theorem upView_startHealth (s : State) : upView (startHealth s) = upView s := by
  unfold startHealth
  dsimp only
  split <;> rfl

/-- While the module has no role, its window opens with SYS_UP (R366). -/
theorem openRole_none {s : State} (aon : Nat) (h : s.red.role = 0) : (openRole aon s).red.window = true ∧
    (openRole aon s).isl = s.isl ∧ (openRole aon s).fw = s.fw ∧ (openRole aon s).rgt = s.rgt ∧
    ∀ j, par (openRole aon s) j = par s j := by
  rw [openRole, if_neg (by rw [h]; decide)]
  exact ⟨rfl, rfl, rfl, rfl, fun _ => rfl⟩

/-- The settings in force: MDCLK, SYS_UP and the role's window, with the record and the tiles as they were taken. -/
theorem settingsIn_view {s : State} (aon hw : Nat) (h : s.red.role = 0) : (settingsIn aon hw s).isl.sysUp = true ∧
    (settingsIn aon hw s).isl.mdclk = true ∧ par (settingsIn aon hw s) sysBootStage = 3 ∧
    (settingsIn aon hw s).fw.loaded = s.fw.loaded ∧ (settingsIn aon hw s).fw.setHash = s.fw.setHash ∧
    (settingsIn aon hw s).rgt.tiles = s.rgt.tiles ∧ (settingsIn aon hw s).red.window = true := by
  unfold settingsIn
  extract_lets s1 a s2 s3
  generalize hv : startHealth (lateFlags (powerUpTests hw s3)) = v
  have hrec : recordView s3 = recordView s :=
    (recordView_supplied _ _).trans
      ((recordView_takeClock _).trans ((recordView_markUnwritten _).trans (recordView_takeStored s)))
  have hstage : par s3 sysBootStage = 3 := par_setPar_same ..
  have hup : upView v = (recordView s, true, true, 3) := by
    rw [← hv, upView_startHealth, upView_lateFlags, upView_powerUpTests, upView, hrec, hstage]
    rfl
  simp only [upView, recordView, Prod.mk.injEq] at hup
  obtain ⟨⟨hred, hload, hhash, htiles⟩, hsys, hmd, hst⟩ := hup
  obtain ⟨hwin, hisl, hfw, hrgt, hpar⟩ := openRole_none aon (s := v) (by rw [hred, h])
  rw [hisl, hfw, hrgt, hpar]
  exact ⟨hsys, hmd, hst, hload, hhash, htiles, hwin⟩

/-! ## The settings load (R401, R403) -/

/-- A record that is taken is the one loaded, with its tiles; the role stays as it is. -/
theorem takeRec_view (n : Nat) (r : Rec) (s : State) : (takeRec n r s).red = s.red ∧ (takeRec n r s).fw.loaded = some n ∧
    (takeRec n r s).fw.setHash = r.hash ∧ (takeRec n r s).rgt.tiles = r.tiles := by
  refine ⟨?_, rfl, rfl, rfl⟩
  exact foldl_same (·.red) _ (fun s w => by split <;> rfl) r.params s

/-- With an image running, SYS_UP not yet set and no reset begun, nothing holds a settings load back. -/
theorem settingsLoad_begins {s : State} (hr : s.fw.run.isSome = true) (hu : s.isl.sysUp = false) (hs : s.isl.sys = true)
    (hn : s.prt.resetting = none) : (s.fw.run.isNone || s.isl.sysUp || !s.isl.sys || s.prt.resetting.isSome) = false := by
  simp [← Option.not_isSome, hr, hu, hs, hn]

/-- The state without a tile, in which the defaults come into force. -/
def untiled (s : State) : State := { s with rgt := {} }

/-- Without a copy no record is taken, and both flags are raised. -/
theorem settingsLoaded_defaults {a h : Nat} {m : Migr} {s : State} (hr : s.fw.run.isSome = true) (hu : s.isl.sysUp = false)
    (hs : s.isl.sys = true) (hn : s.prt.resetting = none) (h0 : s.fw.copy0 = none) (h1 : s.fw.copy1 = none) :
    settingsLoaded a m h s = raiseFlag fwEvents 5 0 (raiseFlag sysStartEvents 0 0 (settingsIn a h (untiled s))) := by
  have hnew : newestRec s = none := by simp [newestRec, copyOf, h0, h1]
  have hold : tooOld s = none := by simp [tooOld, copyOf, h0, h1]
  simp only [settingsLoaded, settingsLoad_begins hr hu hs hn, hnew, hold, Bool.false_eq_true, if_false]
  rfl

/-- The newest eligible record of the image's schema is taken as it is. -/
theorem settingsLoaded_newest {a h n : Nat} {m : Migr} {r : Rec} {s : State} (hr : s.fw.run.isSome = true) (hu : s.isl.sysUp = false)
    (hs : s.isl.sys = true) (hn : s.prt.resetting = none) (hnew : newestRec s = some (n, r))
    (hsch : r.schema = schemaOf (runManifest s)) : settingsLoaded a m h s = settingsIn a h (takeRec n r s) := by
  simp only [settingsLoaded, settingsLoad_begins hr hu hs hn, hnew, hsch, Nat.lt_irrefl, Bool.false_eq_true, if_false]

/-! ## The obligation -/

/-- Settles O38: the first lock leads to the boot ROM, which chooses the GOOD slot at its first look; the settings that come into force
then keep the record taken, and with no role the window opens. -/
theorem startUp : Obligations.StartUp := by
  unfold Obligations.StartUp
  refine ⟨fun b s => ?powerUp, fun s hp hv hl ht h => ⟨fun hask => ?recovery, fun n hask htr hg hf => ?slot⟩, fun s h => ?relock,
    fun n b s hc hr hs => ?image, fun s hs hu he => ?ext,
    fun a h m s hr hu hs hn hrole => ⟨fun h0 h1 => ?defaults, fun n r hnew hsch => ?newest⟩, fun a h m s hor => ?again⟩
  case powerUp => exact ⟨_, rfl, fun p => by cases p <;> rfl, rfl, rfl, rfl, rfl, rfl, rfl, rfl, rfl⟩
  case recovery =>
    obtain ⟨hstage, hpar, hisl, hpl⟩ := enterRecovery_view (bootCounted (coreStarted s))
    refine ⟨_, congrArg Host.Outcome.next ((pllmLocked_first hp hv hl ht h).trans (bootRom_recovery hask)), ?_, congrArg Isl.ctl hisl,
      congrArg Isl.sys hisl, congrArg Isl.acq hisl, congrArg Isl.recovery hisl, hstage, ?_, by simp [hpl]⟩
    · rw [pllm_congr (hpar _ (by decide) (by decide) (by decide)), pllm_congr (par_bootCounted_other _ (by decide)),
        pllm_coreStarted]
    · rw [hpar _ (by decide) (by decide) (by decide), par_bootCounted, par_coreStarted _ (by decide)]
  case slot =>
    have hfw : (bootCounted (coreStarted s)).fw = s.fw := by simp
    have hok : fastStartOk (bootCounted (coreStarted s)) n = true :=
      (fastStartOk_congr hfw ((par_bootCounted_other _ (by decide)).trans (par_coreStarted _ (by decide))) n).trans hf
    have hsel := selectSlot_good 4 ((trialSlot_congr hfw).trans htr) ((goodSlot_congr hfw).trans hg) hok
    have hboot := (bootRom_select (s := coreStarted s) hask).trans hsel
    refine ⟨_, congrArg Host.Outcome.next ((pllmLocked_first hp hv hl ht h).trans hboot), ?_, rfl, rfl, rfl, rfl,
      par_setPar_same .., ?_, by simp⟩
    · rw [pllm_congr (par_slotChosen_other _ _ (by decide)), pllm_congr (par_bootCounted_other _ (by decide)), pllm_coreStarted]
    · rw [par_slotChosen_other _ _ (by decide), par_bootCounted, par_coreStarted _ (by decide)]
  case relock =>
    refine ⟨_, congrArg Host.Outcome.next (pllmLocked_relock h), pllm_setState _ (by decide), by simp, by simp⟩
  case image => exact ⟨fastStartLoaded b s, rfl, fastStartLoaded_view b hc hr hs⟩
  case ext => exact ⟨_, congrArg Host.Outcome.next (if_pos (by simp [hs, hu, he])), rfl, par_setPar_same .., rfl, rfl⟩
  case defaults =>
    obtain ⟨hup, hmd, hstage, -, -, -, hwin⟩ := settingsIn_view a h (s := untiled s) hrole
    refine ⟨_, congrArg Host.Outcome.next (settingsLoaded_defaults hr hu hs hn h0 h1), by simp [hup], by simp [hmd], ?_, ?_, ?_,
      by simp [hwin]⟩
    · rw [par_raiseFlag_other _ _ _ (by decide) (by decide), par_raiseFlag_other _ _ _ (by decide) (by decide), hstage]
    · exact parBit_raiseFlag _ _ _ _ (by decide) (by decide)
    · rw [parBit_raiseFlag_other _ _ _ _ (by decide) (by decide)]
      exact parBit_raiseFlag _ _ _ _ (by decide) (by decide)
  case newest =>
    obtain ⟨hred, hload, hhash, htiles⟩ := takeRec_view n r s
    obtain ⟨hup, hmd, hstage, hload', hhash', htiles', hwin⟩ := settingsIn_view a h (s := takeRec n r s) (by rw [hred, hrole])
    exact ⟨_, congrArg Host.Outcome.next (settingsLoaded_newest hr hu hs hn hnew hsch), hup, hmd, hstage, hload'.trans hload,
      hhash'.trans hhash, htiles'.trans htiles, hwin⟩
  case again =>
    refine congrArg Host.Outcome.next (if_pos ?_)
    obtain hu | hn := hor
    · simp [hu]
    · simp [hn]

end Sys2Proof.Machine
end

section
/-! PROOFS. The time comparators (R284, R285): arming, disarming and firing, and what a firing leaves of the time bases and of the words
of the TIME block. Settles O17. -/

namespace Sys2Proof.Machine
open Sys2Proof

/-! ## What leaves the time bases and the TIME block alone -/

/-- From `s` to `t` neither the time bases nor a word of the TIME block has changed. -/
structure OffTime (s t : State) : Prop where
  time  : t.time = s.time
  words : ∀ j, j / 256 = 2 → par t j = par s j

namespace OffTime

theorem refl (s : State) : OffTime s s := ⟨rfl, fun _ _ => rfl⟩

theorem trans {s t u : State} (h : OffTime s t) (h' : OffTime t u) : OffTime s u :=
  ⟨h'.time.trans h.time, fun j hj => (h'.words j hj).trans (h.words j hj)⟩

theorem frame {s t : State} (time : t.time = s.time) (params : t.params = s.params) : OffTime s t :=
  ⟨time, fun j _ => par_congr params j⟩

theorem at_setPar {id : Nat} (v : Nat) (s : State) (h : id / 256 ≠ 2) : OffTime s (setPar id v s) :=
  ⟨rfl, fun _ hj => par_setPar_other _ _ fun he => h (he ▸ hj)⟩

theorem at_count {id : Nat} (s : State) (h : id / 256 ≠ 2) : OffTime s (count id s) := at_setPar _ s h

theorem at_countN {id : Nat} (n : Nat) (s : State) (h : id / 256 ≠ 2) : OffTime s (countN id n s) := by
  induction n generalizing s with
  | zero => exact .refl s
  | succ n ih => exact (at_count s h).trans (ih (count id s))

theorem ne_lost {j : Nat} (h : j / 256 = 2) : j ≠ sysEvtLostCnt := by
  rintro rfl
  exact absurd h (by decide)

theorem at_raiseFlag {id : Nat} (b d : Nat) (s : State) (h : id / 256 ≠ 2) : OffTime s (raiseFlag id b d s) :=
  ⟨raiseFlag_time .., fun _ hj => par_raiseFlag_other _ _ _ (fun he => h (he ▸ hj)) (ne_lost hj)⟩

theorem at_complete (x st c : Nat) (r : List Byte) (s : State) : OffTime s (complete x st c r s) :=
  ⟨by simp, fun _ hj => par_complete _ _ _ _ _ (ne_lost hj)⟩

theorem at_ite {s t u : State} {c : Prop} [Decidable c] (ht : OffTime s t) (hu : OffTime s u) : OffTime s (if c then t else u) := by
  split <;> assumption

theorem at_foldl {α : Type} {f : State → α → State} (hf : ∀ s a, OffTime s (f s a)) (l : List α) (s : State) :
    OffTime s (l.foldl f s) := foldl_keeps (P := OffTime s) (fun t a h => h.trans (hf t a)) l (.refl s)

theorem at_foldl_fst {α β : Type} {f : State × β → α → State × β} (hf : ∀ a x, OffTime a.1 (f a x).1) (l : List α)
    (a : State × β) : OffTime a.1 (l.foldl f a).1 := by
  induction l generalizing a with
  | nil => exact .refl a.1
  | cons x l ih => exact (hf a x).trans (ih (f a x))

/-! ### Trigger units (R303, R304) -/

theorem at_updSlot (n : Nat) (f : Slot → Slot) (s : State) : OffTime s (updSlot n f s) := .frame rfl rfl

theorem at_startPost (n mask : Nat) (s : State) : OffTime s (startPost n mask s) := .frame rfl rfl

/-- The units trigger the open record, or are ignored and counted. -/
theorem at_takeTrigger (mask : Nat) (s : State) : OffTime s (takeTrigger mask s) := by
  have hignored := at_countN (id := acqIgnoredCnt) (unitsOf mask).length s (by decide)
  unfold takeTrigger
  refine .at_ite (.refl s) ?_
  cases s.acq.active with
  | none => exact .at_ite hignored (.refl s)
  | some n => exact .at_ite (.at_updSlot ..) (.at_ite hignored (.at_startPost ..))

theorem at_groupFire (u : Nat) (s : State) : OffTime s (groupFire u s).1 := by
  unfold groupFire
  split
  · exact .frame rfl rfl
  · exact .at_raiseFlag _ _ s (by decide)

theorem at_fireOne (a : State × List Nat) (u : Nat) : OffTime a.1 (fireOne a u).1 := by
  unfold fireOne
  extract_lets s1 g
  have hfired : OffTime a.1 s1 := .at_setPar _ _ (by decide)
  have hgroup : OffTime s1 g.1 := at_groupFire u s1
  split
  · dsimp only
    exact hfired.trans hgroup
  · exact hfired

theorem at_fireUnits (us : List Nat) (s : State) : OffTime s (fireUnits us s) := by
  rw [fireUnits_eq]
  exact (at_foldl_fst at_fireOne us (s, [])).trans (.at_takeTrigger ..)

theorem at_fireKind (kind : Nat) (sel : Nat → Bool) (s : State) : OffTime s (fireKind kind sel s) :=
  OffTime.trans (t := updAcq _ s) (.frame rfl rfl) (.at_fireUnits ..)

/-! ### Mask steps and replays (R150, R314) -/

theorem at_maskStep (p : Plane) (x : Nat) (s : State) : OffTime s (maskStep p x s) := by
  have hc := code_lt p
  have hkeep : ∀ y, OffTime s (keepTo p y s) := fun y =>
    ⟨(laneView_eq (laneView_keepTo p y s)).1, fun j _ => par_keepTo p y s j⟩
  have hshow : ∀ t, OffTime t (refreshOut p t) := fun t => ⟨by simp, fun j hj => par_refreshOut p t (Or.inl (by omega))⟩
  exact (hkeep _).trans (.trans (.at_setPar _ _ (by simp only [modMaskPtr]; omega)) (hshow _))

theorem at_maskComparator (tc at' : Nat) (s : State) : OffTime s (maskComparator tc at' s) :=
  .at_ite (.refl s) (.at_foldl (fun _ _ => .at_ite (.at_maskStep ..) (.refl _)) _ s)

theorem at_replayComparator (tc : Nat) (s : State) : OffTime s (replayComparator tc s) := .at_ite (.frame rfl rfl) (.refl s)

end OffTime

/-! ## The firing of a comparator (R285) -/

theorem timeTc_block {tc : Nat} (h : tc < 16) : timeTcCtrl tc / 256 = 2 ∧ timeTcEvtLo tc / 256 = 2 ∧ timeTcEvtHi tc / 256 = 2 ∧
    timeTcStatus tc / 256 = 2 := by
  simp only [timeTcCtrl, timeTcEvtLo, timeTcEvtHi, timeTcStatus]
  omega

/-- The times `t` with the bases and replicas of `s`. -/
def basesOf (s t : Time) : Time := { t with mono := s.mono, net := s.net, bus := s.bus, reps := s.reps }

/-- What happens between strobes leaves the bases where they stand, if it changes no time itself. -/
theorem atTime_time {c : Rat} {f : State → State} {s : State} (h : (f (advanceBases c s)).time = (advanceBases c s).time) :
    (atTime c f s).time = s.time := by
  have hbases : (atTime c f s).time = basesOf s.time (f (advanceBases c s)).time := rfl
  rw [hbases, h]
  rfl

/-- The comparator is disarmed and its flag raised. -/
def tcFired (tc : Nat) (s : State) : State := raiseFlag (timeTcStatus tc) 1 tc (setParBit (timeTcCtrl tc) 2 false s)

/-- What acts on a firing: mask steps, trigger units and replays. -/
def tcActs (tc at' : Nat) (s : State) : State :=
  replayComparator tc (fireKind 6 (fun u => decide (parBits s (acqTuCtrl u) 13 4 = tc)) (maskComparator tc at' s))

theorem fireComparator_eq (tc at' : Nat) (s : State) :
    fireComparator tc at' s = atTime at' (fun s => tcActs tc at' (tcFired tc s)) s := rfl

theorem tcActs_offTime (tc at' : Nat) (s : State) : OffTime s (tcActs tc at' s) :=
  (OffTime.at_maskComparator tc at' s).trans (.trans (.at_fireKind ..) (.at_replayComparator ..))

@[simp] theorem fireComparator_time (tc at' : Nat) (s : State) : (fireComparator tc at' s).time = s.time :=
  atTime_time ((tcActs_offTime ..).time.trans (raiseFlag_time ..))

/-- Of the TIME block a firing writes the flag and the armed bit of its comparator. -/
theorem par_fireComparator (tc at' : Nat) (s : State) {j : Nat} (hj : j / 256 = 2) :
    par (fireComparator tc at' s) j = par (setParBit (timeTcStatus tc) 1 true (setParBit (timeTcCtrl tc) 2 false s)) j :=
  ((tcActs_offTime tc at' (tcFired tc (advanceBases at' s))).words j hj).trans (par_flagEvent _ _ _ _ (OffTime.ne_lost hj))

theorem par_fireComparator_ctrl {tc : Nat} (at' : Nat) (s : State) (h : tc < 16) :
    par (fireComparator tc at' s) (timeTcCtrl tc) = par (setParBit (timeTcCtrl tc) 2 false s) (timeTcCtrl tc) :=
  (par_fireComparator tc at' s (timeTc_block h).1).trans
    (par_setParBit_other _ _ _ (by simp only [timeTcCtrl, timeTcStatus]; omega))

theorem parBit_fireComparator_status {tc : Nat} (at' : Nat) (s : State) (h : tc < 16) :
    parBit (fireComparator tc at' s) (timeTcStatus tc) 1 = true := by
  rw [parBit, par_fireComparator tc at' s (timeTc_block h).2.2.2]
  exact parBit_setParBit _ _ _ (by decide)

/-- LATE_ARM stays set through the firing. -/
theorem parBit_fireComparator_late {tc : Nat} (at' : Nat) {s : State} (h : tc < 16) (hl : parBit s (timeTcStatus tc) 2 = true) :
    parBit (fireComparator tc at' s) (timeTcStatus tc) 2 = true := by
  rw [parBit, par_fireComparator tc at' s (timeTc_block h).2.2.2, ← parBit, parBit_setParBit_off _ _ _ (by decide),
    parBit_setParBit_other _ _ _ _ (by simp only [timeTcCtrl, timeTcStatus]; omega), hl]

/-! ## The words of a comparator (R284, R351) -/

theorem row_timeTc : ∀ tc < 16, RowIs (timeTcCtrl tc) .live .rw ∧ RowIs (timeTcEvtLo tc) .live .rw ∧ RowIs (timeTcEvtHi tc) .live .rw := by
  decide +kernel

theorem isMaskPtr_timeTc : ∀ tc < 16, isMaskPtr (timeTcCtrl tc) = false ∧ isMaskPtr (timeTcEvtLo tc) = false ∧
    isMaskPtr (timeTcEvtHi tc) = false := by decide

/-- Of a comparator's words CTRL alone has an effect of its own. -/
theorem rwWritten_comparators {id : Nat} (old v : Nat) (s : State) (h : 0x0220 ≤ id ∧ id < 0x0260) :
    rwWritten id old v s = if id % 4 = 0 then armComparator ((id - 0x0220) / 4) s else s := by
  have hne : ∀ k, k < 0x0220 ∨ 0x0260 ≤ k → id ≠ k := by omega
  have hmod : modPlane id = none := if_neg (by omega)
  have htest : ¬ (protTestSw0 ≤ id ∧ id ≤ protTestDpT2) := by simp only [protTestSw0]; omega
  simp only [rwWritten, hne protBrkCtrl (by decide), hne protShortLimit (by decide), hne protMAscPref (by decide),
    hne protBChopOn (by decide), hne acqCtrl (by decide), hne clkRefSel (by decide), hne clkRefAlt (by decide),
    hne clkRefMode (by decide), hne clkPllmBw (by decide), hne (netEthQEn 0) (by decide), hne (netEthQEn 1) (by decide), htest, hmod,
    h.1, h.2, if_false, false_and, false_or, true_and]

theorem applyEntry_evtLo {tc : Nat} (v : Word) (s : State) (h : tc < 16) :
    applyEntry s { id := timeTcEvtLo tc, val := v } = setPar (timeTcEvtLo tc) v.toNat s := by
  rw [applyEntry_rw (row_timeTc tc h).2.1 (by decide) (by decide) (isMaskPtr_timeTc tc h).2.1,
    rwWritten_comparators _ _ _ (by simp only [timeTcEvtLo]; omega), if_neg (by simp only [timeTcEvtLo]; omega)]

theorem applyEntry_evtHi {tc : Nat} (v : Word) (s : State) (h : tc < 16) :
    applyEntry s { id := timeTcEvtHi tc, val := v } = setPar (timeTcEvtHi tc) v.toNat s := by
  rw [applyEntry_rw (row_timeTc tc h).2.2 (by decide) (by decide) (isMaskPtr_timeTc tc h).2.2,
    rwWritten_comparators _ _ _ (by simp only [timeTcEvtHi]; omega), if_neg (by simp only [timeTcEvtHi]; omega)]

theorem applyEntry_tcCtrl {tc : Nat} (v : Word) (s : State) (h : tc < 16) :
    applyEntry s { id := timeTcCtrl tc, val := v } = armComparator tc (setPar (timeTcCtrl tc) v.toNat s) := by
  have htc : (timeTcCtrl tc - 0x0220) / 4 = tc := by simp only [timeTcCtrl]; omega
  rw [applyEntry_rw (row_timeTc tc h).1 (by decide) (by decide) (isMaskPtr_timeTc tc h).1,
    rwWritten_comparators _ _ _ (by simp only [timeTcCtrl]; omega), if_pos (by simp only [timeTcCtrl]; omega), htc]

/-- A SET_PARAM whose checks pass is answered OK on the state after its entries have taken effect. -/
theorem writeWords_all {e : Env} {ws : List (Nat × Word)} {s : State} (h : Writes e ws s) (h1 : 1 ≤ ws.length) (h64 : ws.length ≤ 64) :
    writeWords e ws s =
      answer 2 0x0101 e stOk 0 [] (applyAll (ws.map fun w => { id := w.1, val := w.2 }) (acceptSeq e s)) := by
  obtain ⟨hf, hh, ht, hp⟩ := h
  have ht' : txnBusy (acceptSeq e s) = false := by simpa only [txnBusy, acceptSeq_txn] using ht
  have hb : paramBody false e.handle 0 (ws.map fun w => { id := w.1, val := w.2 }) (acceptSeq e s) =
      (applyAll (ws.map fun w => { id := w.1, val := w.2 }) (acceptSeq e s), .now stOk []) := by
    simp [paramBody, hh, directWrite, ht', hp]
  have hs := serve_now (cls := 2) (needs := fun _ => false)
    (body := fun _ => paramBody false e.handle 0 (ws.map fun w => { id := w.1, val := w.2 })) hf (by simp) hb
  rw [if_neg (by decide)] at hs
  simpa [writeWords, setParam, withLength, h1, h64, hh] using hs

/-! ## Arming (R284) -/

/-- The event time and the control word of a comparator are written. -/
def tcWritten (tc b : Nat) (w : BitVec 48) (s : State) : State :=
  setPar (timeTcCtrl tc) (b % 4 + 4) (setPar (timeTcEvtHi tc) (w.toNat / 2 ^ 32) (setPar (timeTcEvtLo tc) (w.toNat % 2 ^ 32) s))

theorem comparatorArm_written {e : Env} {tc b : Nat} {w : BitVec 48} {s : State} (htc : tc < 16)
    (h : Writes e [(timeTcEvtLo tc, w.truncate 32), (timeTcEvtHi tc, (w >>> 32).truncate 32),
      (timeTcCtrl tc, BitVec.ofNat 32 (b % 4 + 4))] s) :
    exec (.comparatorArm e tc b w) s =
      .next (answer 2 0x0101 e stOk 0 [] (armComparator tc (tcWritten tc b w (acceptSeq e s)))) := by
  have hlt := w.isLt
  have hlo : (w.truncate 32).toNat = w.toNat % 2 ^ 32 := BitVec.toNat_setWidth ..
  have hhi : ((w >>> 32).truncate 32).toNat = w.toNat / 2 ^ 32 := by
    rw [BitVec.truncate_eq_setWidth, BitVec.toNat_setWidth, BitVec.toNat_ushiftRight, Nat.shiftRight_eq_div_pow]
    omega
  have hctrl : (BitVec.ofNat 32 (b % 4 + 4)).toNat = b % 4 + 4 := by
    rw [BitVec.toNat_ofNat]
    omega
  have hx : exec (.comparatorArm e tc b w) s = .next (writeWords e [(timeTcEvtLo tc, w.truncate 32),
      (timeTcEvtHi tc, (w >>> 32).truncate 32), (timeTcCtrl tc, BitVec.ofNat 32 (b % 4 + 4))] s) := by
    simp only [exec, execComparatorArm, numbered, htc, if_true]
  rw [hx, writeWords_all h (by simp) (by simp)]
  simp only [applyAll, List.map_cons, List.map_nil, List.foldl_cons, List.foldl_nil, applyEntry_evtLo _ _ htc, applyEntry_evtHi _ _ htc,
    applyEntry_tcCtrl _ _ htc, hlo, hhi, hctrl, tcWritten]

/-- The words written, as they read. -/
theorem par_tcWritten (tc b : Nat) (w : BitVec 48) (s : State) : par (tcWritten tc b w s) (timeTcCtrl tc) = b % 4 + 4 ∧
    tcEvent (tcWritten tc b w s) tc = w.toNat := by
  have hlt := w.isLt
  refine ⟨(par_setPar_same ..).trans (Nat.mod_eq_of_lt (by omega)), ?_⟩
  rw [tcEvent, tcWritten, par_setPar_other _ _ (by simp only [timeTcEvtLo, timeTcCtrl]; omega),
    par_setPar_other _ _ (by simp only [timeTcEvtLo, timeTcEvtHi]; omega), par_setPar_same,
    par_setPar_other _ _ (by simp only [timeTcEvtHi, timeTcCtrl]; omega), par_setPar_same]
  omega

theorem baseField_congr {s t : State} (h : t.time = s.time) (b : Nat) : baseField t b 0 = baseField s b 0 := by
  rw [baseField, acqBase_congr h, baseField]

/-- A comparator just written is due if its base, while ISL_ACQ runs, has reached the event time. -/
theorem tcDue_tcWritten (tc b : Nat) (w : BitVec 48) (s : State) : tcDue (tcWritten tc b w s) tc 0 =
    (s.isl.acq && decide (0 ≤ signedOf 48 (toBits 48 ((baseField s (b % 4) 0 : Int) - w.toNat)))) := by
  obtain ⟨hctrl, hevt⟩ := par_tcWritten tc b w s
  have hbit : parBit (tcWritten tc b w s) (timeTcCtrl tc) 2 = true := by
    have : ∀ k < 4, (k + 4).testBit 2 = true := by decide
    rw [parBit, hctrl, this _ (Nat.mod_lt _ (by decide))]
  have hbase : parBits (tcWritten tc b w s) (timeTcCtrl tc) 0 2 = b % 4 := by
    rw [parBits, hctrl, bits]
    omega
  have hfield : baseField (tcWritten tc b w s) (b % 4) 0 = baseField s (b % 4) 0 :=
    baseField_congr (s := s) (t := tcWritten tc b w s) rfl _
  have hacq : (tcWritten tc b w s).isl = s.isl := rfl
  rw [tcDue, tcDiff, hbit, hbase, hfield, hevt, hacq, Bool.and_true]

/-- Disarming takes the armed bit from the control word. -/
theorem par_disarmed {tc b : Nat} {s : State} (h : par s (timeTcCtrl tc) = b % 4 + 4) :
    par (setParBit (timeTcCtrl tc) 2 false s) (timeTcCtrl tc) = b % 4 := by
  have hset : ∀ k < 4, (if (k + 4).testBit 2 then k + 4 - 2 ^ 2 else k + 4) % 2 ^ 32 = k := by decide
  rw [setParBit, par_setPar_same, h, if_neg Bool.false_ne_true]
  exact hset _ (Nat.mod_lt _ (by decide))

/-! ## The obligation -/

/-- Settles O17: arming is the write of three words, of which the last fires the comparator at once where its event has passed; a
firing changes no time and, of the TIME block, only its own comparator's flag and armed bit. -/
theorem comparators : Obligations.Comparators := by
  unfold Obligations.Comparators
  refine ⟨fun e tc b w s htc h => ⟨fun hd => ?ahead, fun hd hacq => ?late⟩, fun e tc b s htc h => ?disarm,
    fun tc c s htc hd => ?fires, fun tc c s h => ?idle⟩
  case ahead =>
    have hdue : tcDue (tcWritten tc b w (acceptSeq e s)) tc 0 = false := by
      rw [tcDue_tcWritten, baseField_congr (acceptSeq_time e s), decide_eq_false (Int.not_le.2 hd), Bool.and_false]
    obtain ⟨hctrl, hevt⟩ := par_tcWritten tc b w (acceptSeq e s)
    have hx := (comparatorArm_written htc h).trans (by rw [armComparator, if_neg (by simp [hdue])])
    refine ⟨_, hx, lastKept_answer .., (par_answer ..).trans hctrl, ?_, by simp [tcWritten], by simp [tcWritten]⟩
    rw [par_answer, par_answer]
    exact hevt
  case late =>
    have hdue : tcDue (tcWritten tc b w (acceptSeq e s)) tc 0 = true := by
      rw [tcDue_tcWritten, baseField_congr (acceptSeq_time e s), acceptSeq_isl, hacq, decide_eq_true hd, Bool.and_true]
    obtain ⟨hctrl, -⟩ := par_tcWritten tc b w (acceptSeq e s)
    have hx := (comparatorArm_written htc h).trans (by rw [armComparator, if_pos hdue])
    have hlate : parBit (setParBit (timeTcStatus tc) 2 true (tcWritten tc b w (acceptSeq e s))) (timeTcStatus tc) 2 = true :=
      parBit_setParBit _ _ _ (by decide)
    refine ⟨_, hx, lastKept_answer .., ?_, ?_, ?_, by simp [tcWritten]⟩
    · rw [par_answer, par_fireComparator_ctrl _ _ htc]
      exact par_disarmed ((par_setParBit_other _ _ _ (by simp only [timeTcCtrl, timeTcStatus]; omega)).trans hctrl)
    · rw [parBit_congr (answer_params ..)]
      exact parBit_fireComparator_status _ _ htc
    · rw [parBit_congr (answer_params ..)]
      exact parBit_fireComparator_late _ htc hlate
  case disarm =>
    have hval : (BitVec.ofNat 32 (b % 4)).toNat = b % 4 := by
      rw [BitVec.toNat_ofNat]
      omega
    have hbit : ∀ k < 4, (k % 2 ^ 32).testBit 2 = false := by decide
    have hdue : tcDue (setPar (timeTcCtrl tc) (b % 4) (acceptSeq e s)) tc 0 = false := by
      rw [tcDue, parBit, par_setPar_same, hbit _ (Nat.mod_lt _ (by decide)), Bool.and_false, Bool.false_and]
    have hx : exec (.comparatorDisarm e tc b) s =
        .next (answer 2 0x0101 e stOk 0 [] (setPar (timeTcCtrl tc) (b % 4) (acceptSeq e s))) := by
      simp only [exec, execComparatorDisarm, numbered, htc, if_true]
      rw [writeWords_one h, applyEntry_tcCtrl _ _ htc, hval, armComparator, if_neg (by simp [hdue])]
    refine ⟨_, hx, lastKept_answer .., ?_, by simp, by simp⟩
    rw [par_answer, par_setPar_same]
    omega
  case fires =>
    have hx : exec (.tcFire ⟨tc, c⟩) s = .next (fireComparator tc c s) := by
      simp only [exec, execTcFire, htc, if_true, tcFire, hd]
    refine ⟨_, hx, parBit_fireComparator_status c s htc, ?_, fireComparator_time ..⟩
    rw [parBit, par_fireComparator_ctrl _ _ htc]
    exact parBit_setParBit_clear ..
  case idle =>
    refine congrArg Host.Outcome.next ?_
    obtain hbig | hd := h
    · exact if_neg (Nat.not_lt.2 hbig)
    · simp only [tcFire, hd, Bool.false_eq_true, if_false, ite_self]

end Sys2Proof.Machine
end

section
/-! PROOFS. The Ethernet ports: links, forwarded and queued frames, and what a port sends at a frame boundary (R272, R286 to R290). Settles
O54. -/

namespace Sys2Proof.Machine
open Sys2Proof

/-! ## A port -/

@[simp] theorem updEth_params (n : Nat) (f : Eth → Eth) (s : State) : (updEth n f s).params = s.params := by
  unfold updEth
  split <;> rfl
@[simp] theorem updEth_planes (n : Nat) (f : Eth → Eth) (s : State) : (updEth n f s).planes = s.planes := by
  unfold updEth
  split <;> rfl
@[simp] theorem updEth_time (n : Nat) (f : Eth → Eth) (s : State) : (updEth n f s).time = s.time := by
  unfold updEth
  split <;> rfl
@[simp] theorem updEth_wire (n : Nat) (f : Eth → Eth) (s : State) : (updEth n f s).wire = s.wire := by
  unfold updEth
  split <;> rfl

@[simp] theorem ethOf_updEth_same (n : Nat) (f : Eth → Eth) (s : State) : ethOf (updEth n f s) n = f (ethOf s n) := by
  by_cases hn : n = 0 <;> simp [ethOf, updEth, hn]

theorem ethOf_updEth_other {n k : Nat} (f : Eth → Eth) (s : State) (h : n = 0 ↔ k ≠ 0) : ethOf (updEth n f s) k = ethOf s k := by
  by_cases hn : n = 0
  · have hk := h.1 hn
    simp [ethOf, updEth, hn, hk]
  · have hk : k = 0 := Decidable.not_not.1 (mt h.2 hn)
    simp [ethOf, updEth, hn, hk]

@[simp] theorem ethOf_emit (n : Nat) (w : Wire) (s : State) : ethOf (emit w s) n = ethOf s n := rfl

@[simp] theorem ethOf_acceptSeq (n : Nat) (e : Env) (s : State) : ethOf (acceptSeq e s) n = ethOf s n := by simp [ethOf]

/-- The two ports are each other's only other port. -/
theorem otherPort {n : Nat} (h : n < 2) : n = 0 ↔ 1 - n ≠ 0 := by omega

@[simp] theorem dropQueues_time (n : Nat) (q : Nat → Bool) (s : State) : (dropQueues n q s).time = s.time := by simp [dropQueues]

/-- A link that goes down takes every queue of its port with it (R290). -/
def linkLost (n : Nat) (s : State) : State := dropQueues n (fun _ => true) (updEth n (fun e => { e with up := false }) s)

/-- A frame is queued last. -/
theorem queue_queueFrame {n q : Nat} (f : Frame) {s : State} (h : q < (ethOf s n).queues.length) :
    (ethOf (queueFrame n q f s) n).queues.getD q [] = (ethOf s n).queues.getD q [] ++ [f] := by
  rw [queueFrame, ethOf_updEth_same]
  simp [h]

/-! ## FRAME_SEND (R287, R290) -/

/-- A FRAME_SEND whose operands are in range and that asks for no handle. -/
structure PlainFrame (p : FramePay) : Prop where
  resv  : p.resv = 0
  port  : p.port < 2
  base  : p.base < 3
  queue : p.queue < 8
  hp    : p.hp = false

theorem frameSend_enabled {e : Env} {p : FramePay} (h : Nat) {s : State} (hp : PlainFrame p)
    (hq : parBit s (netEthQEn p.port) p.queue = true) : frameSend e p h s =
      (queueFrame p.port p.queue { launch := p.launch, base := p.base, bytes := p.bytes } s, .now stOk []) := by
  obtain ⟨hr, hport, hbase, hqueue, hhp⟩ := hp
  simp [frameSend, hr, hhp, hq, Nat.not_le.2 hport, Nat.not_le.2 hbase, Nat.not_le.2 hqueue, done, say]

theorem frameSend_disabled {e : Env} {p : FramePay} (h : Nat) {s : State} (hp : PlainFrame p)
    (hq : parBit s (netEthQEn p.port) p.queue = false) : frameSend e p h s = (s, .now stWrongState []) := by
  obtain ⟨hr, hport, hbase, hqueue, -⟩ := hp
  simp [frameSend, hr, hq, Nat.not_le.2 hport, Nat.not_le.2 hbase, Nat.not_le.2 hqueue, refuse, say]

/-- A fresh FRAME_SEND without a handle is answered as its body says, on the state after acceptance. -/
theorem exec_frameSend {e : Env} {p : FramePay} {s u : State} {st : Nat} (hf : Fresh 0x0230 1 e s) (h60 : 60 ≤ p.bytes.length)
    (h1416 : p.bytes.length ≤ 1416) (hhp : p.hp = false) (hst : st ≠ stAccepted)
    (hb : frameSend e p (nextHandle s) (acceptSeq e s) = (u, .now st [])) :
    exec (.frameSend e p) s = .next (answer 3 0x0230 e st e.handle [] u) := by
  have hs := serve_now (cls := 3) (needs := fun _ => p.hp) hf (by simp [hhp]) hb
  rw [if_neg hst] at hs
  have hx : exec (.frameSend e p) s = .next (serve 3 0x0230 e 1 (fun _ => p.hp) (frameSend e p) s) :=
    congrArg Host.Outcome.next (if_neg (by simp [h60, h1416]))
  rw [hx, hs]

theorem parBit_qEn_acceptSeq {n : Nat} (hn : n < 2) (e : Env) (s : State) (q : Nat) :
    parBit (acceptSeq e s) (netEthQEn n) q = parBit s (netEthQEn n) q := by
  rw [parBit, par_acceptSeq _ _ (by simp only [netEthQEn, sysSeqGapCnt]; omega), parBit]

/-! ## A frame boundary (R286, R288) -/

/-- A frame of a host without a handle leaves the head of its queue. -/
theorem sendHead_plain {f : Frame} (n q : Nat) (s : State) (hp : f.ptp = none) (hh : f.handle = none) : sendHead n q f s =
    emit (.eth n f.bytes) (updEth n (fun e => { e with queues := e.queues.set q ((e.queues.getD q []).drop 1) }) s) := by
  simp [sendHead, hp, hh]

/-- A frame without a launch time is sent where no launch waits in a higher queue. -/
theorem serveQueue_untimed {n q : Nat} (dt k : Nat) {f : Frame} {l : List Frame} {s : State}
    (hq : (ethOf s n).queues.getD q [] = f :: l) (hb : f.base = 0) :
    serveQueue n dt q none (k + 1) s = (sendHead n q f s, true, none) := by
  unfold serveQueue
  rw [hq]
  simp [hb]

/-- One queue of a port at a frame boundary, unless a frame has been sent. -/
def serveNext (n dt : Nat) (a : State × Bool × Option Nat) (q : Nat) : State × Bool × Option Nat :=
  if a.2.1 then a else serveQueue n dt q a.2.2 (((ethOf a.1 n).queues.getD q []).length + 1) a.1

theorem servePort_up {n : Nat} (dt : Nat) {s : State} (h : (ethOf s n).up = true) :
    servePort n dt s = ([7, 6, 5, 4, 3, 2, 1, 0].foldl (serveNext n dt) (s, false, none)).1 := if_neg (by simp [h])

/-- Once a frame has been sent the other queues wait. -/
theorem foldl_serveNext_sent (n dt : Nat) (l : List Nat) {a : State × Bool × Option Nat} (h : a.2.1 = true) :
    l.foldl (serveNext n dt) a = a := by
  induction l with
  | nil => rfl
  | cons q l ih => rw [List.foldl_cons, serveNext, if_pos h, ih]

/-- An untimed frame at the head of queue 7 is what a port with its link up sends. -/
theorem servePort_untimed {n : Nat} (dt : Nat) {f : Frame} {l : List Frame} {s : State} (h : (ethOf s n).up = true)
    (hq : (ethOf s n).queues.getD 7 [] = f :: l) (hb : f.base = 0) : servePort n dt s = sendHead n 7 f s := by
  have hfirst : serveNext n dt (s, false, none) 7 = (sendHead n 7 f s, true, none) :=
    (if_neg Bool.false_ne_true).trans (serveQueue_untimed dt _ hq hb)
  rw [servePort_up dt h, List.foldl_cons, hfirst, foldl_serveNext_sent n dt _ rfl]

/-! ## The obligation -/

theorem exec_onEth {n : Nat} (hn : n < 2) (f : State → State) (s : State) : onEth n f s = .next (f s) :=
  congrArg Host.Outcome.next (if_pos hn)

/-- Settles O54: each event is a write of one port, which the other port does not see; a frame boundary serves queue 7 first and sends
one frame. -/
theorem ethernetPorts : Obligations.EthernetPorts := by
  unfold Obligations.EthernetPorts
  refine ⟨fun n g s hn => ?linkUp, fun n s hn => ?linkDown, fun n c b s hn hf hlen => ?forward,
    fun e p s hf h60 h1416 hr hport hbase hqueue hhp hlen => ⟨fun hq => ?queued, fun hq => ?refused⟩,
    fun n dt s hn hup => ?down, fun n dt f l s hn hup hlen hq hb hh hp => ?sent⟩
  case linkUp =>
    have hport : ethOf (updEth n (fun e => { e with up := true, gig := g }) s) n = { ethOf s n with up := true, gig := g } :=
      ethOf_updEth_same ..
    exact ⟨_, exec_onEth hn _ s, congrArg Eth.up hport, congrArg Eth.gig hport, (congrArg Eth.queues hport).trans rfl,
      ethOf_updEth_other _ _ (otherPort hn), updEth_params .., updEth_planes ..⟩
  case linkDown =>
    refine ⟨linkLost n s, exec_onEth hn (linkLost n) s, ?_, fun q hq => ?_, ?_, by simp [linkLost], by simp [linkLost]⟩
    · rw [linkLost, ethOf_dropQueues, ethOf_updEth_same]
    · rw [linkLost, queue_dropQueues _ _ hq, if_pos rfl]
    · rw [linkLost, ethOf_dropQueues_other _ _ (otherPort hn), ethOf_updEth_other _ _ (otherPort hn)]
  case forward =>
    have hx : exec (.frameForward n c b) s = .next (queueFrame (1 - n) (c.getD 0 % 8) { bytes := b } s) :=
      (exec_onEth hn _ s).trans (congrArg Host.Outcome.next (if_pos hf))
    exact ⟨_, hx, queue_queueFrame _ (by rw [hlen]; exact Nat.mod_lt _ (by decide)), updEth_params .., updEth_planes ..⟩
  case queued =>
    have hq' := (parBit_qEn_acceptSeq hport e s p.queue).trans hq
    have hx := exec_frameSend hf h60 h1416 hhp (by decide) (frameSend_enabled _ ⟨hr, hport, hbase, hqueue, hhp⟩ hq')
    refine ⟨_, hx, lastKept_answer .., ?_, by simp [queueFrame]⟩
    rw [ethOf_answer, queue_queueFrame _ (by rw [ethOf_acceptSeq, hlen]; exact hqueue), ethOf_acceptSeq]
  case refused =>
    have hq' := (parBit_qEn_acceptSeq hport e s p.queue).trans hq
    have hx := exec_frameSend hf h60 h1416 hhp (by decide) (frameSend_disabled _ ⟨hr, hport, hbase, hqueue, hhp⟩ hq')
    exact ⟨_, hx, lastKept_answer .., by simp, by simp⟩
  case down => exact (exec_onEth hn _ s).trans (congrArg Host.Outcome.next (if_pos (by simp [hup])))
  case sent =>
    have hx : exec (.launch n dt) s = .next (sendHead n 7 f s) :=
      (exec_onEth hn _ s).trans (congrArg Host.Outcome.next (servePort_untimed dt hup hq hb))
    rw [sendHead_plain n 7 s hp hh] at hx
    refine ⟨_, hx, ?_, ?_, ?_, by simp, by simp⟩
    · simp [emit]
    · rw [ethOf_emit, ethOf_updEth_same, hq]
      simp [hlen]
    · rw [ethOf_emit, ethOf_updEth_other _ _ (otherPort hn)]

end Sys2Proof.Machine
end

section
/-! PROOFS. Syncs at the locked servo, STEP_BACK, path delays, HOLDOVER, realigned replicas and the transparent clock (R268, R272 to R279).
Settles O52. -/

namespace Sys2Proof.Machine
open Sys2Proof

/-! ## What the frames of a port leave alone (R278, R288) -/

namespace OffTime

theorem at_updEth (n : Nat) (f : Eth → Eth) (s : State) : OffTime s (updEth n f s) := .frame (by simp) (by simp)

theorem at_emit (w : Wire) (s : State) : OffTime s (emit w s) := .frame rfl rfl

theorem at_sendHead (n q : Nat) (f : Frame) (s : State) : OffTime s (sendHead n q f s) := by
  unfold sendHead
  extract_lets s1
  have hs1 : OffTime s s1 := at_updEth ..
  cases f.ptp with
  | some k => exact hs1.trans (.trans (.at_emit ..) (.at_ite (.at_emit ..) (.refl _)))
  | none =>
    cases f.handle with
    | some h => exact hs1.trans (.trans (.at_emit ..) (.at_complete ..))
    | none => exact hs1.trans (.at_emit ..)

theorem at_discardHead (n q : Nat) (f : Frame) (s : State) : OffTime s (discardHead n q f s) := by
  unfold discardHead
  extract_lets s1
  have hs1 : OffTime s s1 := .trans (.at_updEth ..) (.at_count _ (by simp only [netEthLateCnt]; omega))
  cases f.handle with
  | some h => exact hs1.trans (.at_complete ..)
  | none => exact hs1

theorem at_stepQueue (n q k : Nat) (a : State × Bool) : OffTime a.1 (stepQueue n q k a).1 := by
  induction k generalizing a with
  | zero => exact .refl a.1
  | succ k ih =>
    unfold stepQueue
    split
    case h_1 => exact .refl a.1
    case h_2 f l hq =>
      have hlate := (at_discardHead n q f a.1).trans (ih (discardHead n q f a.1, a.2))
      dsimp only
      split
      · exact .refl a.1
      · split
        · exact hlate
        · split
          · exact .refl a.1
          · exact .at_sendHead ..

theorem at_stepFrames (n : Nat) (s : State) : OffTime s (stepFrames n s) :=
  .at_ite (.refl s) (at_foldl_fst (fun _ _ => at_stepQueue ..) _ (s, false))

end OffTime

/-! ## A step of T_NET (R268, R278) -/

/-- The time bases after a step of T_NET, with its replicas. -/
def netStepped (d : Int) (t : Time) : Time := { stepReps [3, 4] d t with net := t.net + d }

@[simp] theorem groupKh_time (s : State) : (groupKh s).time = s.time := by
  unfold groupKh
  split
  · split <;> rfl
  · rfl

@[simp] theorem groupKh_planes (s : State) : (groupKh s).planes = s.planes := by
  unfold groupKh
  split
  · split <;> rfl
  · rfl

/-- A step before what it meets on its way: the group action and the open record see it. -/
def netMoved (d : Int) (s : State) : State :=
  groupKh (noteDiscontinuity d (count timeStepCnt (groupMoved (updTime (netStepped d) s))))

theorem netMoved_view (d : Int) (s : State) : (netMoved d s).time = netStepped d s.time ∧ (netMoved d s).planes = s.planes := by
  obtain ⟨hpl, ht, -, -⟩ := noteDiscontinuity_view d (count timeStepCnt (groupMoved (updTime (netStepped d) s)))
  refine ⟨?_, ?_⟩
  · rw [netMoved, groupKh_time, ht, count_time]
    rfl
  · rw [netMoved, groupKh_planes, hpl, count_planes]
    rfl

theorem stepNet_back {d : Int} (h : d ≤ 0) (s : State) : stepNet d s = netMoved d s := if_pos h

/-- A comparator on T_NET whose event time a step has passed fires. -/
def netFire (s : State) (tc : Nat) : State :=
  if tcDue s tc 0 && decide (parBits s (timeTcCtrl tc) 0 2 = 1) then fireComparator tc 0 s else s

theorem stepNet_forward {d : Int} (h : ¬ d ≤ 0) (s : State) :
    stepNet d s = stepFrames 1 (stepFrames 0 ((List.range 16).foldl netFire (netMoved d s))) := if_neg h

/-- Whatever a step fires and sends, T_NET and its replicas take it, and no other time changes. -/
theorem stepNet_time (d : Int) (s : State) : (stepNet d s).time = netStepped d s.time := by
  have hmoved := (netMoved_view d s).1
  by_cases h : d ≤ 0
  · rw [stepNet_back h, hmoved]
  · have hfire : ∀ s tc, (netFire s tc).time = s.time := fun s tc => by
      unfold netFire
      split
      · exact fireComparator_time ..
      · rfl
    rw [stepNet_forward h, (OffTime.at_stepFrames ..).time, (OffTime.at_stepFrames ..).time, foldl_same (·.time) netFire hfire, hmoved]

/-! ## The servo (R274, R276) -/

theorem absI_le {x y : Int} : absI x ≤ y ↔ -y ≤ x ∧ x ≤ y := by
  unfold absI
  split <;> omega

theorem parBit_writeRate (slew : Int) (s : State) {j : Nat} (b : Nat) (h : j ≠ timeNetRate) :
    parBit (writeRate slew s) j b = parBit s j b := parBit_setPar_other _ _ _ h

@[simp] theorem writeRate_time (slew : Int) (s : State) : (writeRate slew s).time = s.time := by simp [writeRate]
@[simp] theorem writeRate_planes (slew : Int) (s : State) : (writeRate slew s).planes = s.planes := by simp [writeRate]
@[simp] theorem clearSuspect_time (s : State) : (clearSuspect s).time = { s.time with suspect := false } := rfl
@[simp] theorem clearSuspect_planes (s : State) : (clearSuspect s).planes = s.planes := rfl
@[simp] theorem parBit_clearSuspect (s : State) (j b : Nat) : parBit (clearSuspect s) j b = parBit s j b := rfl

/-- The time is suspect, which a pending group action sees; where it was not, its flag is raised. -/
def suspected (s : State) : State :=
  if s.time.suspect then s else raiseFlag timeEvents 1 0 (groupMoved (updTime (fun t => { t with suspect := true }) s))

theorem suspected_view (s : State) : (suspected s).time = { s.time with suspect := true } ∧ (suspected s).planes = s.planes ∧
    (suspected s).prt = s.prt ∧ (s.time.suspect = false → parBit (suspected s) timeEvents 1 = true) := by
  unfold suspected
  split
  case isTrue h => exact ⟨by rw [← h], rfl, rfl, fun hn => absurd h (by simp [hn])⟩
  case isFalse h =>
    refine ⟨?_, ?_, ?_, fun _ => parBit_raiseFlag _ _ _ _ (by decide) (by decide)⟩
    · rw [raiseFlag_time]
      rfl
    · rw [raiseFlag_planes]
      rfl
    · rw [raiseFlag_prt]
      rfl

theorem treatOffset_slews {off : Int} (slew : Int) {s : State} (h : absI off ≤ par s timeStepLimit) :
    treatOffset off slew s = writeRate slew (clearSuspect s) := if_pos h

/-- T_NET behind by more than STEP_LIMIT steps forward. -/
theorem treatOffset_steps {off : Int} (slew : Int) {s : State} (h : (par s timeStepLimit : Int) < -off) :
    treatOffset off slew s = writeRate 0 (clearSuspect (raiseFlag timeEvents 0 (stepDetail (-off)) (stepNet (-off) s))) := by
  have hfar : ¬ absI off ≤ par s timeStepLimit := fun hx => by
    have := absI_le.1 hx
    omega
  exact (if_neg hfar).trans (if_pos (by omega))

/-- T_NET ahead by more than STEP_LIMIT is suspect and slews at SLEW_MAX. -/
theorem treatOffset_suspects {off : Int} (slew : Int) {s : State} (h : (par s timeStepLimit : Int) < off) :
    treatOffset off slew s = writeRate (-(ppmWord (par s timeSlewMax))) (suspected s) := by
  have hfar : ¬ absI off ≤ par s timeStepLimit := fun hx => by
    have := absI_le.1 hx
    omega
  exact (if_neg hfar).trans (if_neg (by omega))

/-- The locked servo counts good Syncs and stays LOCKED. -/
theorem servoStep_locked (off : Int) {s : State} (h : s.time.servo = 2) :
    ∃ g, servoStep off s = updTime (fun t => { t with good := g }) s := by
  refine ⟨min 16 (if absI off ≤ 200 then s.time.good + 1 else 0), ?_⟩
  simp only [servoStep, updTime, h, if_true]

theorem offset_cases (off : Int) (lim : Nat) : absI off ≤ lim ∨ (lim : Int) < -off ∨ (lim : Int) < off := by
  simp only [absI_le]
  omega

/-- The treatment of an offset leaves the servo's state to the count of good Syncs. -/
theorem treatOffset_servo (off slew : Int) (s : State) : (treatOffset off slew s).time.servo = s.time.servo := by
  obtain h | h | h := offset_cases off (par s timeStepLimit)
  · simp [treatOffset_slews slew h]
  · simp [treatOffset_steps slew h, stepNet_time, netStepped, stepReps]
  · simp [treatOffset_suspects slew h, suspected_view]

/-! ## A Sync of the chosen master (R271, R276) -/

/-- A Sync that the servo, LOCKED to its sender, takes: ISL_SYS runs, the port, the domain and the transport are those in force, and the
port's asymmetry is 0. -/
structure TakesSync (m : PtpSync) (s : State) : Prop where
  port      : m.port < 2
  sys       : s.isl.sys = true
  restart   : s.isl.restart = false
  enabled   : parBit s netPtpEn m.port = true
  domain    : m.domain = par s netPtpDomain
  transport : m.ieee = decide (par s netPtpTransport = 1)
  master    : s.time.master = some m.master
  locked    : s.time.servo = 2
  settled   : s.time.cand = []
  symmetric : par s (netEthAsym m.port) = 0

/-- What a taken Sync leaves in the times before its offset is treated. -/
def syncTimes (m : PtpSync) (t : Time) : Time :=
  { t with alone := false, port := m.port, offset := m.offset, freq := clampI (-(ppmWord 1000)) (ppmWord 1000) m.freq, synced := true }

/-- The Sync is noted: offset, error bound and frequency. -/
def syncNoted (m : PtpSync) (s : State) : State :=
  setPar timeErrEst (m.err % 2 ^ 32)
    (updTime (fun t => { t with freq := clampI (-ppmWord 1000) (ppmWord 1000) m.freq, synced := true })
      (setPar timeOffset (toBits 32 (clampI (-2147483648) 2147483647 m.offset))
        (updTime (fun t => { t with offset := m.offset }) (updTime (fun t => { t with alone := false, port := m.port }) s))))

theorem syncNoted_time (m : PtpSync) (s : State) : (syncNoted m s).time = syncTimes m s.time := by simp [syncNoted, syncTimes]
theorem syncNoted_planes (m : PtpSync) (s : State) : (syncNoted m s).planes = s.planes := by simp [syncNoted]
theorem syncNoted_prt (m : PtpSync) (s : State) : (syncNoted m s).prt = s.prt := by simp [syncNoted]

@[simp] theorem par_updTime (f : Time → Time) (s : State) (j : Nat) : par (updTime f s) j = par s j := rfl

theorem par_syncNoted (m : PtpSync) (s : State) {j : Nat} (h1 : j ≠ timeErrEst) (h2 : j ≠ timeOffset) :
    par (syncNoted m s) j = par s j := by
  rw [syncNoted, par_setPar_other _ _ h1, par_updTime, par_setPar_other _ _ h2, par_updTime, par_updTime]

theorem newMaster_same {port m : Nat} {s : State} (h : s.time.master = some m) : newMaster port m s = s := by
  simp [newMaster, h]

/-- The chosen master's Sync at the locked servo is noted, its offset treated, and counted if it is good. -/
theorem ptpSync_taken {m : PtpSync} {s : State} (h : TakesSync m s) : ∃ g, exec (.ptpSync m) s =
    .next (updTime (fun t => { t with good := g }) (treatOffset m.offset m.slew (syncNoted m s))) := by
  obtain ⟨hport, hsys, hrestart, hen, hdomain, htransport, hmaster, hlocked, hcand, hasym⟩ := h
  have hserved : (!s.isl.sys || s.isl.restart || !parBit s netPtpEn m.port || decide (m.domain ≠ par s netPtpDomain) ||
      m.ieee != decide (par s netPtpTransport = 1)) = false := by simp [hsys, hrestart, hen, hdomain, htransport]
  have hoff : ∀ f, m.offset - signedOf 32 (par (updTime f s) (netEthAsym m.port)) = m.offset := fun f => by
    rw [par_updTime, hasym]
    exact Int.sub_zero _
  have hsync : ptpSync m s = servoStep m.offset (treatOffset m.offset m.slew (syncNoted m s)) := by
    rw [ptpSync, if_neg (by rw [hserved]; decide), newMaster_same hmaster]
    dsimp only
    rw [hoff, if_neg (by simp [pdHolding, updTime, hlocked, hcand]), if_neg (by simp [updTime, hlocked])]
    rfl
  have hservo : (treatOffset m.offset m.slew (syncNoted m s)).time.servo = 2 := by
    rw [treatOffset_servo, syncNoted_time]
    exact hlocked
  obtain ⟨g, hg⟩ := servoStep_locked m.offset hservo
  exact ⟨g, congrArg Host.Outcome.next ((if_pos hport).trans (hsync.trans hg))⟩

/-- A Sync within STEP_LIMIT is slewed. -/
theorem ptpSync_slewed {m : PtpSync} {s : State} (h : TakesSync m s) (hin : absI m.offset ≤ par s timeStepLimit) :
    ∃ t, exec (.ptpSync m) s = .next t ∧ t.time.net = s.time.net ∧ t.time.suspect = false ∧ t.time.servo = 2 ∧
      t.time.offset = m.offset ∧ t.planes = s.planes ∧ t.prt = s.prt := by
  obtain ⟨g, hx⟩ := ptpSync_taken h
  rw [treatOffset_slews m.slew (by rwa [par_syncNoted _ _ (by decide) (by decide)])] at hx
  refine ⟨_, hx, ?_, ?_, ?_, ?_, ?_, ?_⟩
  · simp [syncNoted_time, syncTimes]
  · simp
  · simpa [syncNoted_time, syncTimes] using h.locked
  · simp [syncNoted_time, syncTimes]
  · simp [syncNoted_planes]
  · simp [syncNoted_prt]

/-- One that finds T_NET behind by more steps it forward, whatever the step fires and sends. -/
theorem ptpSync_stepped {m : PtpSync} {s : State} (h : TakesSync m s) (hback : (par s timeStepLimit : Int) < -m.offset) :
    ∃ t, exec (.ptpSync m) s = .next t ∧ t.time.net = s.time.net - m.offset ∧ parBit t timeEvents 0 = true ∧
      t.time.suspect = false ∧ t.time.mono = s.time.mono := by
  obtain ⟨g, hx⟩ := ptpSync_taken h
  rw [treatOffset_steps m.slew (by rwa [par_syncNoted _ _ (by decide) (by decide)])] at hx
  have htime : (stepNet (-m.offset) (syncNoted m s)).time = netStepped (-m.offset) (syncTimes m s.time) := by
    rw [stepNet_time, syncNoted_time]
  refine ⟨_, hx, ?_, ?_, ?_, ?_⟩
  · simp [htime, netStepped, syncTimes, sub_eq_add_neg]
  · rw [parBit_updTime, parBit_writeRate _ _ _ (by decide), parBit_clearSuspect]
    exact parBit_raiseFlag _ _ _ _ (by decide) (by decide)
  · simp
  · simp [htime, netStepped, stepReps, syncTimes]

/-- One that finds T_NET ahead by more makes the time suspect. -/
theorem ptpSync_suspected {m : PtpSync} {s : State} (h : TakesSync m s) (hahead : (par s timeStepLimit : Int) < m.offset) :
    ∃ t, exec (.ptpSync m) s = .next t ∧ t.time.net = s.time.net ∧ t.time.suspect = true ∧
      (s.time.suspect = false → parBit t timeEvents 1 = true) ∧ t.planes = s.planes ∧ t.prt = s.prt := by
  obtain ⟨g, hx⟩ := ptpSync_taken h
  rw [treatOffset_suspects m.slew (by rwa [par_syncNoted _ _ (by decide) (by decide)])] at hx
  obtain ⟨htime, hpl, hprt, hflag⟩ := suspected_view (syncNoted m s)
  refine ⟨_, hx, ?_, ?_, fun hs => ?_, ?_, ?_⟩
  · simp [htime, syncNoted_time, syncTimes]
  · simp [htime]
  · rw [parBit_updTime, parBit_writeRate _ _ _ (by decide)]
    exact hflag (by rw [syncNoted_time]; exact hs)
  · simp [hpl, syncNoted_planes]
  · simp [hprt, syncNoted_prt]

/-! ## STEP_BACK (R277) -/

/-- T_NET is stepped back by the noted offset, and the mark and the offset are cleared. -/
def steppedBack (s : State) : State :=
  raiseFlag timeEvents 2 (stepDetail (-s.time.offset))
    (clearSuspect (updTime (fun t => { t with offset := 0 }) (stepNet (-s.time.offset) s)))

theorem stepBack_locked {s : State} (hl : s.time.servo = 2) (ho : 0 < s.time.offset) : stepBack s = (steppedBack s, .now stOk []) :=
  if_neg (by simp [hl, Int.not_le.2 ho])

theorem steppedBack_view {s : State} (ho : 0 < s.time.offset) : (steppedBack s).time =
      { netStepped (-s.time.offset) s.time with suspect := false, offset := 0 } ∧ (steppedBack s).planes = s.planes ∧
    parBit (steppedBack s) timeEvents 2 = true := by
  refine ⟨?_, ?_, parBit_raiseFlag _ _ _ _ (by decide) (by decide)⟩
  · rw [steppedBack, raiseFlag_time, clearSuspect_time, updTime_time, stepNet_time]
  · rw [steppedBack, raiseFlag_planes, clearSuspect_planes, updTime_planes, stepNet_back (by omega), (netMoved_view _ s).2]

theorem exec_stepBack {e : Env} {s : State} (hf : Fresh 0x0050 1 e s) (hl : s.time.servo = 2) (ho : 0 < s.time.offset) :
    exec (.stepBack e) s = .next (answer 1 0x0050 e stOk e.handle [] (steppedBack (acceptSeq e s))) := by
  have hb := stepBack_locked (s := acceptSeq e s) (by rw [acceptSeq_time, hl]) (by rw [acceptSeq_time]; exact ho)
  have hs := serve_now (cls := 1) (needs := fun _ => false) (body := fun _ => stepBack) hf (by simp) hb
  rw [if_neg (by decide)] at hs
  exact congrArg Host.Outcome.next hs

/-! ## Path delays (R279) -/

/-- The candidate of PD_HOLD is taken, and the servo waits. -/
def pdHeld (n : Nat) (d : Int) (t : Time) : Time := { t with before := t.servo, servo := 4, cand := [d], pdPort := n }

theorem pathDelay_near {n : Nat} {d old : Int} {s : State} (ho : s.time.pd.getD n none = some old) (hh : pdHolding s = false)
    (h : absI (d - old) ≤ par s netPdStep) : pathDelay n d s = acceptDelay n d s := by
  simp only [pathDelay, ho, hh, Bool.false_eq_true, if_false, h, if_true]

theorem pathDelay_far {n : Nat} {d old : Int} {s : State} (ho : s.time.pd.getD n none = some old) (hh : pdHolding s = false)
    (h : (par s netPdStep : Int) < absI (d - old)) :
    pathDelay n d s = writeRate 0 (raiseFlag timeEvents 3 n (updTime (pdHeld n d) s)) := by
  simp only [pathDelay, ho, hh, Bool.false_eq_true, if_false, Int.not_le.2 h]
  rfl

/-- A measurement of the mechanism in force, on a port with PTP. -/
theorem exec_pathDelay {n : Nat} {b : Bool} (d : Int) {s : State} (hn : n < 2) (hsys : s.isl.sys = true) (hr : s.isl.restart = false)
    (hen : parBit s netPtpEn n = true) (hb : b = decide (par s netPtpDelay = 1)) :
    exec (.pathDelayMeasure n ⟨b, d⟩) s = .next (pathDelay n d s) := by
  refine congrArg Host.Outcome.next (if_pos ?_)
  simp [hn, hsys, hr, hen, hb]

theorem par_acceptDelay (n : Nat) (d : Int) (s : State) : par (acceptDelay n d s) (netEthPd n) = toBits 32 d := by
  have hlt : toBits 32 d < 2 ^ 32 := by
    unfold toBits
    omega
  rw [acceptDelay, par_setPar_same, Nat.mod_eq_of_lt hlt]

theorem acceptDelay_time (n : Nat) (d : Int) (s : State) : (acceptDelay n d s).time = { s.time with pd := s.time.pd.set n (some d) } := by
  simp [acceptDelay]

/-! ## Replicas (R268) -/

theorem repSpan_pos (i : Nat) : 0 < repSpan i := by
  unfold repSpan
  split_ifs <;> norm_num

/-- A replica as its realignment leaves it, found d ahead. -/
def realigned (s : State) (i : Nat) (d : Rat) : Rep :=
  { floor := if 0 < d then max (repAt s i 0) (masterAt s i 0 + d) else repAt s i 0, lag := max 0 (-d), age := 0 }

theorem rep_replicaRealign (l : List Rat) (s : State) {i : Nat} (h : i < 9) :
    (replicaRealign l s).time.reps.getD i {} = realigned s i (l.getD i 0) := by
  simp [replicaRealign, realigned, h]

theorem masterAt_replicaRealign (l : List Rat) (s : State) (i : Nat) (c : Rat) : masterAt (replicaRealign l s) i c = masterAt s i c := rfl

/-- What a replica reads after its realignment: the rest of the difference runs out over 256 cycles of its clock. -/
theorem repAt_replicaRealign (l : List Rat) (s : State) {i : Nat} (c : Rat) (h : i < 9) : repAt (replicaRealign l s) i c =
    max (realigned s i (l.getD i 0)).floor
      (masterAt s i c - max 0 (-l.getD i 0) * max 0 (1 - (0 + c * pllNs s) / repSpan i)) := by
  have hpll : pllNs (replicaRealign l s) = pllNs s := rfl
  rw [repAt, rep_replicaRealign l s h, masterAt_replicaRealign, hpll]
  rfl

/-- At once no replica reads less than before, and one found behind starts from where it was found. -/
theorem repAt_realigned_now (l : List Rat) (s : State) {i : Nat} (h : i < 9) :
    repAt (replicaRealign l s) i 0 = max (repAt s i 0) (masterAt s i 0 + l.getD i 0) := by
  rw [repAt_replicaRealign l s 0 h, realigned]
  generalize l.getD i 0 = d
  have hall : max (0 : Rat) (1 - (0 + 0 * pllNs s) / repSpan i) = 1 := by simp
  rw [hall, mul_one]
  by_cases hd : 0 < d
  · have hle : masterAt s i 0 - 0 ≤ max (repAt s i 0) (masterAt s i 0 + d) := le_max_of_le_right (by linarith)
    rw [if_pos hd, max_eq_left (by linarith : -d ≤ 0), max_eq_left hle]
  · rw [if_neg hd, max_eq_right (by linarith : 0 ≤ -d), sub_neg_eq_add]

/-- One found behind has caught up with its master after 256 cycles of its clock. -/
theorem repAt_realigned_caughtUp (l : List Rat) (s : State) {i : Nat} {c : Rat} (h : i < 9) (hd : l.getD i 0 ≤ 0)
    (hc : repSpan i ≤ c * pllNs s) : repAt (replicaRealign l s) i c = max (repAt s i 0) (masterAt s i c) := by
  have hpast : 1 - (0 + c * pllNs s) / repSpan i ≤ 0 := by
    rw [zero_add, sub_nonpos]
    exact (one_le_div (repSpan_pos i)).2 hc
  rw [repAt_replicaRealign l s c h, realigned, if_neg (not_lt.2 hd), max_eq_left hpast, mul_zero, sub_zero]

/-! ## The transparent clock (R272) -/

/-- The sums that wait for another Follow_Up than that of a key at a port. -/
def otherSums (n k : Nat) (s : State) : List (Nat × Nat × Int) :=
  s.time.tcSum.filter fun x => !(decide (x.1 = n) && decide (x.2.1 = k))

/-- The Sync of a two-step pair: it goes on, and its residence time waits for its Follow_Up. -/
def syncForwarded (n k : Nat) (r : Int) (s : State) : State :=
  emit (.ptp (1 - n) 1 0) (updTime (fun t => { t with tcSum := (n, k, r) :: otherSums n k s }) s)

/-- The ports forward PTP messages, end to end. -/
structure Transparent (s : State) : Prop where
  forwards : forwards s = true
  on       : par s netPtpTc ≠ 0
  endToEnd : par s netPtpDelay ≠ 1

theorem ptpForward_syncOne {s : State} (h : Transparent s) (n : Nat) (r : Int) :
    ptpForward n .syncOne r s = emit (.ptp (1 - n) 0 r) s := by
  simp [ptpForward, h.forwards, h.on, h.endToEnd]

theorem ptpForward_syncTwo {s : State} (h : Transparent s) (n k : Nat) (r : Int) :
    ptpForward n (.syncTwo k) r s = syncForwarded n k r s := by
  simp [ptpForward, h.forwards, h.on, h.endToEnd, syncForwarded, otherSums]

/-- A Follow_Up carries the sum of its Sync, whatever its own residence time. -/
theorem ptpForward_followUp {s : State} (h : Transparent s) {n k : Nat} {r : Int} (x : Int) {l : List (Nat × Nat × Int)}
    (hs : s.time.tcSum = (n, k, r) :: l) : ptpForward n (.followUp k) x s =
      emit (.ptp (1 - n) 2 r) (updTime (fun t => { t with tcSum := otherSums n k s }) s) := by
  simp [ptpForward, h.forwards, h.on, hs, otherSums]

theorem Transparent.syncForwarded {s : State} (h : Transparent s) (n k : Nat) (r : Int) : Transparent (syncForwarded n k r s) :=
  ⟨h.forwards, h.on, h.endToEnd⟩

/-! ## The obligation -/

/-- Settles O52: a taken Sync is noted and its offset treated; of T_NET's step only the bases are asked for; a replica is as its
realignment leaves it; and a Follow_Up finds the sum its Sync left. -/
theorem syncsAndPathDelays : Obligations.SyncsAndPathDelays := by
  unfold Obligations.SyncsAndPathDelays
  refine ⟨fun m s hport hsys hr hen hdom htr hm hl hc ha => ?syncs,
    fun n b d old s hn hsys hr hen hb hlen ho hh => ⟨fun hin => ?near, fun hout => ?far⟩,
    fun s => ⟨fun h4 => ?timeout, fun h4 => ?noHold, fun hsys hr => ?holdover⟩, fun l s => ?realign,
    fun n r s hn hf hon he => ⟨?one, fun k x => ?two⟩⟩
  case syncs =>
    have htakes : TakesSync m s := ⟨hport, hsys, hr, hen, hdom, htr, hm, hl, hc, ha⟩
    refine ⟨ptpSync_slewed htakes, ptpSync_stepped htakes, ptpSync_suspected htakes, fun e hf ho => ?_⟩
    obtain ⟨htime, hpl, hflag⟩ := steppedBack_view (s := acceptSeq e s) (by rw [acceptSeq_time]; exact ho)
    refine ⟨_, exec_stepBack hf hl ho, lastKept_answer .., ?_, ?_, ?_, ?_, ?_⟩
    · simp [htime, netStepped, sub_eq_add_neg]
    · simp [htime]
    · simp [htime]
    · rw [parBit_congr (answer_params ..), hflag]
    · simp [hpl]
  case near =>
    have hx := (exec_pathDelay d hn hsys hr hen hb).trans (congrArg Host.Outcome.next (pathDelay_near ho hh hin))
    refine ⟨_, hx, ?_, par_acceptDelay .., ?_, ?_⟩
    · simp [acceptDelay_time, hlen, hn]
    · simp [acceptDelay_time]
    · simp [acceptDelay]
  case far =>
    have hx := (exec_pathDelay d hn hsys hr hen hb).trans (congrArg Host.Outcome.next (pathDelay_far ho hh hout))
    refine ⟨_, hx, ?_, ?_, ?_, ?_⟩
    · simp [pdHeld]
    · simp [pdHeld]
    · rw [parBit_writeRate _ _ _ (by decide)]
      exact parBit_raiseFlag _ _ _ _ (by decide) (by decide)
    · simp
  case timeout => exact ⟨_, congrArg Host.Outcome.next (if_pos h4), rfl, rfl, rfl, rfl⟩
  case noHold => exact congrArg Host.Outcome.next (if_neg h4)
  case holdover =>
    have hx : exec .ptpHoldover s = .next (if s.time.servo = 1 ∨ s.time.servo = 2 then
        writeRate 0 (updTime holdTime (updTime (fun t => { t with alone := true }) s)) else
        updTime (fun t => { t with alone := true }) s) := congrArg Host.Outcome.next (if_neg (by simp [hsys, hr]))
    refine ⟨_, hx, ?_⟩
    split
    · simp [holdTime]
    · simp
  case realign =>
    exact ⟨_, rfl, fun i hi => repAt_realigned_now l s hi, fun i c hi hd hc => repAt_realigned_caughtUp l s hi hd hc, rfl, rfl, rfl, rfl⟩
  case one =>
    have hx := (exec_onEth hn (ptpForward n .syncOne r) s).trans
      (congrArg Host.Outcome.next (ptpForward_syncOne ⟨hf, hon, he⟩ n r))
    exact ⟨_, hx, rfl, rfl, rfl, rfl⟩
  case two =>
    have hc : Transparent s := ⟨hf, hon, he⟩
    have ht := (exec_onEth hn (ptpForward n (.syncTwo k) r) s).trans (congrArg Host.Outcome.next (ptpForward_syncTwo hc n k r))
    have hu := (exec_onEth hn (ptpForward n (.followUp k) x) (syncForwarded n k r s)).trans
      (congrArg Host.Outcome.next (ptpForward_followUp (hc.syncForwarded n k r) x rfl))
    exact ⟨_, _, ht, rfl, hu, rfl, rfl⟩

end Sys2Proof.Machine
end

section
/-! PROOFS. The rules of the record slots (R298 to R306): what a change of a slot, its hold, the opening and the closing of a record
leave as it was, and what a slot then holds; and the commands that work on them. -/

namespace Sys2Proof.Machine
open Sys2Proof

/-! ## One slot -/

@[simp] theorem updSlot_time (n : Nat) (f : Slot → Slot) (s : State) : (updSlot n f s).time = s.time := rfl
@[simp] theorem updSlot_slots_length (n : Nat) (f : Slot → Slot) (s : State) :
    (updSlot n f s).acq.slots.length = s.acq.slots.length := List.length_set

theorem slotAt_congr {s t : State} (h : t.acq.slots = s.acq.slots) (n : Nat) : slotAt t n = slotAt s n := by rw [slotAt, h, slotAt]

theorem slotAt_updSlot_same {n : Nat} (f : Slot → Slot) {s : State} (h : n < s.acq.slots.length) :
    slotAt (updSlot n f s) n = f (slotAt s n) := by
  simp [slotAt, updSlot, h]

theorem slotAt_updSlot_other {n j : Nat} (f : Slot → Slot) (s : State) (h : j ≠ n) : slotAt (updSlot n f s) j = slotAt s j := by
  simp [slotAt, updSlot, List.getElem?_set_ne (Ne.symm h)]

/-! ## Holds (R305) -/

@[simp] theorem holdSlot_planes (n : Nat) (up : Bool) (s : State) : (holdSlot n up s).planes = s.planes := rfl
@[simp] theorem holdSlot_time (n : Nat) (up : Bool) (s : State) : (holdSlot n up s).time = s.time := rfl
@[simp] theorem holdSlot_isl (n : Nat) (up : Bool) (s : State) : (holdSlot n up s).isl = s.isl := rfl
@[simp] theorem holdSlot_host (n : Nat) (up : Bool) (s : State) : (holdSlot n up s).host = s.host := rfl
@[simp] theorem holdSlot_replay (n : Nat) (up : Bool) (s : State) : (holdSlot n up s).replay = s.replay := rfl
@[simp] theorem holdSlot_reads (n : Nat) (up : Bool) (s : State) : (holdSlot n up s).acq.reads = s.acq.reads := rfl
@[simp] theorem holdSlot_arch (n : Nat) (up : Bool) (s : State) : (holdSlot n up s).acq.arch = s.acq.arch := rfl
@[simp] theorem holdSlot_archive (n : Nat) (up : Bool) (s : State) : (holdSlot n up s).acq.archive = s.acq.archive := rfl

theorem held_holdSlot {n : Nat} (up : Bool) {s : State} (h : n < s.acq.slots.length) :
    (slotAt (holdSlot n up s) n).held = if up then (slotAt s n).held + 1 else (slotAt s n).held - 1 := by
  rw [holdSlot, slotAt_updSlot_same _ h]

/-! ## Opening a record (R301) -/

@[simp] theorem fillSlot_time (n : Nat) (s : State) : (fillSlot n s).time = s.time := rfl
@[simp] theorem fillSlot_active (n : Nat) (s : State) : (fillSlot n s).acq.active = some n := rfl
@[simp] theorem fillSlot_slots_length (n : Nat) (s : State) : (fillSlot n s).acq.slots.length = s.acq.slots.length :=
  updSlot_slots_length n (fun _ => openSlot s) s

theorem slotAt_fillSlot_same {n : Nat} {s : State} (h : n < s.acq.slots.length) : slotAt (fillSlot n s) n = openSlot s :=
  slotAt_updSlot_same (fun _ => openSlot s) h

theorem slotAt_fillSlot_other {n j : Nat} (s : State) (h : j ≠ n) : slotAt (fillSlot n s) j = slotAt s j :=
  slotAt_updSlot_other (fun _ => openSlot s) s h

@[simp] theorem nextRecord_time (s : State) : (nextRecord s).time = s.time := by
  unfold nextRecord
  repeat' split
  all_goals simp

@[simp] theorem nextRecord_slots_length (s : State) : (nextRecord s).acq.slots.length = s.acq.slots.length := by
  unfold nextRecord
  repeat' split
  all_goals simp

/-- Of the parameters the next record writes the flag ACQ_FULL alone. -/
theorem par_nextRecord {j : Nat} (s : State) (h : j ≠ acqEvents) (hl : j ≠ sysEvtLostCnt) : par (nextRecord s) j = par s j := by
  unfold nextRecord
  repeat' split
  · exact par_congr rfl j
  · exact par_congr rfl j
  · exact par_raiseFlag_other _ _ _ h hl

/-- The next record clears no flag. -/
theorem parBit_nextRecord_keeps {b : Nat} {s : State} (h : parBit s acqEvents b = true) : parBit (nextRecord s) acqEvents b = true := by
  unfold nextRecord
  repeat' split
  · exact h
  · exact h
  · exact parBit_raiseFlag_keeps 1 0 (by decide) h

/-- Slot 0 is the lowest: the next record fills it where it is FREE. -/
theorem nextRecord_zero {s : State} (h : (slotAt s 0).st = .free) : nextRecord s = fillSlot 0 s := by
  have hfind : (List.range (slotCount s)).find? (fun n => decide ((slotAt s n).st = .free)) = some 0 := by
    obtain ⟨k, hk⟩ := Nat.exists_eq_succ_of_ne_zero (Nat.two_pow_pos (par s acqSlots)).ne'
    rw [slotCount, hk, List.range_succ_eq_map]
    simp [h]
  simp only [nextRecord, hfind]

/-! ## Closing a record (R301, R306) -/

/-- A record as it stands once closed. -/
def closedAs (status : Nat) (r : Slot) : Slot := { r with st := .closed, status := status, left := 0 }

/-- The open record is closed, its number shown and ACQ_CLOSED raised. -/
def recordClosed (status n : Nat) (s : State) : State :=
  raiseFlag acqEvents 0 ((slotAt s n).num % 2 ^ 24 + 2 ^ 24 * n) (setPar acqRecNum (slotAt s n).num
    (updAcq (fun a => { a with active := none }) (updSlot n (closedAs status) s)))

theorem closeRecord_active {n : Nat} (status : Nat) {s : State} (h : s.acq.active = some n) :
    closeRecord status s = recordClosed status n s := by
  simp only [closeRecord, h]
  rfl

section
variable (status n : Nat) (s : State)

@[simp] theorem recordClosed_planes : (recordClosed status n s).planes = s.planes := by simp [recordClosed]
@[simp] theorem recordClosed_prt : (recordClosed status n s).prt = s.prt := by simp [recordClosed]
@[simp] theorem recordClosed_time : (recordClosed status n s).time = s.time := by simp [recordClosed]
@[simp] theorem recordClosed_active : (recordClosed status n s).acq.active = none := by simp [recordClosed]
@[simp] theorem recordClosed_slots_length : (recordClosed status n s).acq.slots.length = s.acq.slots.length := by simp [recordClosed]

theorem par_recordClosed_recNum : par (recordClosed status n s) acqRecNum = (slotAt s n).num % 2 ^ 32 := by
  rw [recordClosed, par_raiseFlag_other _ _ _ (by decide) (by decide), par_setPar_same]

theorem parBit_recordClosed : parBit (recordClosed status n s) acqEvents 0 = true := parBit_raiseFlag _ _ _ _ (by decide) (by decide)

theorem recordClosed_slots : (recordClosed status n s).acq.slots = (updSlot n (closedAs status) s).acq.slots := by simp [recordClosed]

theorem slotAt_recordClosed_same (h : n < s.acq.slots.length) :
    slotAt (recordClosed status n s) n = closedAs status (slotAt s n) :=
  (slotAt_congr (recordClosed_slots status n s) n).trans (slotAt_updSlot_same _ h)

theorem slotAt_recordClosed_other {j : Nat} (h : j ≠ n) : slotAt (recordClosed status n s) j = slotAt s j :=
  (slotAt_congr (recordClosed_slots status n s) j).trans (slotAt_updSlot_other _ s h)

end

/-! ## The service of a command (R328) -/

/-- The state on which the work of an accepted long operation begins. -/
def begun (op : Nat) (e : Env) (s : State) : State := allocHandle op e.chan (acceptSeq e s)

section
variable (op : Nat) (e : Env) (s : State)

@[simp] theorem begun_planes : (begun op e s).planes = s.planes := by simp [begun]
@[simp] theorem begun_time : (begun op e s).time = s.time := by simp [begun]
@[simp] theorem begun_acq : (begun op e s).acq = s.acq := by simp [begun]

theorem par_begun {j : Nat} (h : j ≠ sysSeqGapCnt) : par (begun op e s) j = par s j :=
  (par_congr (allocHandle_params ..) j).trans (par_acceptSeq e s h)

end

/-- A long operation that leaves the host's side to its service is accepted, and its work runs under the handle allocated for it. -/
theorem exec_begun {i : Instr} {cls op : Nat} {e : Env} {body : Nat → State → State × Ans} {work : State → State} {s : State}
    (hx : exec i s = .next (serveLong cls op e body s)) (hf : Fresh op 1 e s) (hr : Room s)
    (hb : body (nextHandle s) (acceptSeq e s) = accepted op e work (acceptSeq e s))
    (hw : (work (begun op e s)).host = (begun op e s).host) :
    exec i s = .next (answer cls op e stAccepted (nextHandle s) [] (work (begun op e s))) ∧
      Accepted cls op e s (answer cls op e stAccepted (nextHandle s) [] (work (begun op e s))) := by
  have hserve := serve_now (cls := cls) (needs := fun _ => true) (st := stAccepted) hf (fun _ => hr) hb
  have hfind := findOp_allocHandle op e.chan (acceptSeq e s) (by simpa [Room] using hr)
  rw [nextHandle_acceptSeq] at hfind
  refine ⟨hx.trans (congrArg Host.Outcome.next hserve), lastKept_answer .., ?_⟩
  rw [findOp_answer, findOp_congr (congrArg HostSt.ops hw)]
  exact hfind

/-- A short command is answered with its status on the state that its work leaves. -/
theorem serveShort_answer {cls op : Nat} {e : Env} {body : State → State × Ans} {s t : State} {st : Nat} (hf : Fresh op 1 e s)
    (hst : st ≠ stAccepted) (hb : body (acceptSeq e s) = (t, say st)) :
    serveShort cls op e body s = answer cls op e st e.handle [] t :=
  (serve_now hf (fun h => absurd h Bool.false_ne_true) hb).trans (by rw [if_neg hst])

theorem slotAt_acceptSeq (e : Env) (s : State) (n : Nat) : slotAt (acceptSeq e s) n = slotAt s n := slotAt_congr (by simp) n

theorem slotCount_acceptSeq (e : Env) (s : State) : slotCount (acceptSeq e s) = slotCount s := by
  rw [slotCount, par_acceptSeq e s (by decide), slotCount]

theorem dataTiles_acceptSeq (e : Env) (s : State) : dataTiles (acceptSeq e s) = dataTiles s := by
  rw [dataTiles, slotCount_acceptSeq, dataTiles]

theorem slotAt_begun (op : Nat) (e : Env) (s : State) (n : Nat) : slotAt (begun op e s) n = slotAt s n := slotAt_congr (by simp) n

end Sys2Proof.Machine
end

section
/-! PROOFS. Trigger units as they fire (R303, R304, R312): what the firing of units writes, and the trigger that the open record takes. -/

namespace Sys2Proof.Machine
open Sys2Proof

/-! ## Masks of units -/

theorem testBit_foldl_or {u : Nat} (l : List Nat) (a : Nat) :
    (l.foldl (fun a u => a ||| 2 ^ u) a).testBit u = (a.testBit u || decide (u ∈ l)) := by
  induction l generalizing a with
  | nil => simp
  | cons x l ih =>
    rw [List.foldl_cons, ih, Nat.testBit_or, Nat.testBit_two_pow, Bool.or_assoc]
    simp [eq_comm (a := x)]

theorem testBit_maskOf {u : Nat} {l : List Nat} (h : u ∈ l) : (maskOf l).testBit u = true := by
  rw [maskOf, testBit_foldl_or, decide_eq_true h, Bool.or_true]

theorem ne_zero_of_testBit {m u : Nat} (h : m.testBit u = true) : m ≠ 0 := by
  rintro rfl
  simp at h

/-! ## What a firing leaves as it was -/

/-- The words outside TU_FIRED, the flags of the ACQ block and the count of lost events. -/
abbrev OffFired (j : Nat) : Prop := j ≠ acqTuFired ∧ j ≠ acqEvents ∧ j ≠ sysEvtLostCnt

theorem offFired_tuCtrl (u : Nat) : OffFired (acqTuCtrl u) := by
  simp only [OffFired, acqTuCtrl, acqTuFired, acqEvents, sysEvtLostCnt]
  omega

/-- From `s` to `t` units have been marked as fired: no record, no replay and no time has changed, and no word but those of a firing. -/
structure UnitsMarked (s t : State) : Prop where
  acq    : t.acq = s.acq
  time   : t.time = s.time
  replay : t.replay = s.replay
  words  : ∀ j, OffFired j → par t j = par s j

namespace UnitsMarked

theorem refl (s : State) : UnitsMarked s s := ⟨rfl, rfl, rfl, fun _ _ => rfl⟩

theorem trans {s t u : State} (h : UnitsMarked s t) (h' : UnitsMarked t u) : UnitsMarked s u :=
  ⟨h'.acq.trans h.acq, h'.time.trans h.time, h'.replay.trans h.replay, fun j hj => (h'.words j hj).trans (h.words j hj)⟩

theorem at_setFired (v : Nat) (s : State) : UnitsMarked s (setPar acqTuFired v s) :=
  ⟨setPar_acq .., setPar_time .., setPar_replay .., fun _ hj => par_setPar_other _ _ hj.1⟩

/-- A GROUP unit drives the chain, or sets YTRG_BUSY (R313). -/
theorem at_groupFire (u : Nat) (s : State) : UnitsMarked s (groupFire u s).1 := by
  unfold groupFire
  split
  · exact ⟨rfl, rfl, rfl, fun _ _ => rfl⟩
  · exact ⟨by simp, by simp, by simp, fun j hj => par_raiseFlag_other _ _ _ hj.2.1 hj.2.2⟩

theorem at_fireOne (a : State × List Nat) (u : Nat) : UnitsMarked a.1 (fireOne a u).1 := by
  unfold fireOne
  extract_lets s1 g
  have hfired : UnitsMarked a.1 s1 := at_setFired (par a.1 acqTuFired ||| 2 ^ u) a.1
  have hgroup : UnitsMarked s1 g.1 := .at_groupFire u s1
  split
  · dsimp only
    exact hfired.trans hgroup
  · exact hfired

theorem at_foldl_fireOne (us : List Nat) (a : State × List Nat) : UnitsMarked a.1 (us.foldl fireOne a).1 := by
  induction us generalizing a with
  | nil => exact .refl a.1
  | cons u us ih => exact (at_fireOne a u).trans (ih _)

theorem group_eq {s t : State} (h : UnitsMarked s t) (u : Nat) : parBit t (acqTuCtrl u) 12 = parBit s (acqTuCtrl u) 12 := by
  rw [parBit, h.words _ (offFired_tuCtrl u), parBit]

theorem sampleK_eq {s t : State} (h : UnitsMarked s t) : sampleK t = sampleK s := by
  rw [sampleK, h.words _ (by decide), h.words _ (by decide), sampleK]

end UnitsMarked

/-! ## The units that have fired -/

/-- Unit u has fired: it is marked, and unless it is a GROUP unit it is among those that trigger this module. -/
def HasFired (u : Nat) (a : State × List Nat) : Prop :=
  parBit a.1 acqTuFired u = true ∧ (parBit a.1 (acqTuCtrl u) 12 = false → u ∈ a.2)

theorem parBit_tuFired_groupFire (u v : Nat) (s : State) : parBit (groupFire u s).1 acqTuFired v = parBit s acqTuFired v := by
  unfold groupFire
  split
  · rfl
  · exact parBit_raiseFlag_other _ _ _ _ (by decide) (by decide)

theorem parBit_tuFired_fireOne {v : Nat} (a : State × List Nat) (u : Nat) (hv : v < 32) :
    parBit (fireOne a u).1 acqTuFired v = (parBit a.1 acqTuFired v || decide (u = v)) := by
  have hset : parBit (setPar acqTuFired (par a.1 acqTuFired ||| 2 ^ u) a.1) acqTuFired v =
      (parBit a.1 acqTuFired v || decide (u = v)) := by
    rw [parBit_setPar_same, Nat.testBit_or, Nat.testBit_two_pow, decide_eq_true hv, Bool.true_and, parBit]
  unfold fireOne
  dsimp only
  split
  · dsimp only
    rw [parBit_tuFired_groupFire, hset]
  · exact hset

theorem mem_fireOne_keeps {v : Nat} {a : State × List Nat} (u : Nat) (h : v ∈ a.2) : v ∈ (fireOne a u).2 := by
  unfold fireOne
  dsimp only
  repeat' split
  · exact List.mem_cons_of_mem _ h
  · exact h
  · exact List.mem_cons_of_mem _ h

theorem mem_fireOne {u : Nat} {a : State × List Nat} (h : parBit a.1 (acqTuCtrl u) 12 = false) : u ∈ (fireOne a u).2 := by
  have hg : parBit (setPar acqTuFired (par a.1 acqTuFired ||| 2 ^ u) a.1) (acqTuCtrl u) 12 = false :=
    ((UnitsMarked.at_setFired _ a.1).group_eq u).trans h
  simp [fireOne, hg]

theorem hasFired_fireOne {u : Nat} (a : State × List Nat) (hu : u < 32) : HasFired u (fireOne a u) :=
  ⟨by simp [parBit_tuFired_fireOne a u hu], fun hg => mem_fireOne (((UnitsMarked.at_fireOne a u).group_eq u).symm.trans hg)⟩

theorem HasFired.at_fireOne {u : Nat} {a : State × List Nat} (h : HasFired u a) (x : Nat) (hu : u < 32) : HasFired u (fireOne a x) :=
  ⟨by simp [parBit_tuFired_fireOne a x hu, h.1],
    fun hg => mem_fireOne_keeps x (h.2 (((UnitsMarked.at_fireOne a x).group_eq u).symm.trans hg))⟩

theorem hasFired_foldl {u : Nat} (hu : u < 32) (us : List Nat) (a : State × List Nat) (h : u ∈ us ∨ HasFired u a) :
    HasFired u (us.foldl fireOne a) := by
  induction us generalizing a with
  | nil => exact h.resolve_left (List.not_mem_nil)
  | cons x us ih =>
    refine ih _ ?_
    obtain h | h := h
    · obtain rfl | h := List.mem_cons.1 h
      · exact .inr (hasFired_fireOne a hu)
      · exact .inl h
    · exact .inr (h.at_fireOne x hu)

/-! ## The trigger of the open record (R301, R303, R304) -/

/-- The open record of slot n, past its holdoff, waits for a trigger. -/
structure AwaitsTrigger (n : Nat) (s : State) : Prop where
  active  : s.acq.active = some n
  slot    : n < s.acq.slots.length
  filling : (slotAt s n).st = .filling
  holdoff : par s acqHoldoff ≤ (slotAt s n).count

theorem AwaitsTrigger.of_acq {n : Nat} {s t : State} (h : AwaitsTrigger n s) (active : t.acq.active = s.acq.active)
    (slots : t.acq.slots = s.acq.slots) (word : par t acqHoldoff = par s acqHoldoff) : AwaitsTrigger n t where
  active := active.trans h.active
  slot := slots ▸ h.slot
  filling := (congrArg Slot.st (slotAt_congr slots n)).trans h.filling
  holdoff := by rw [word, slotAt_congr slots n]; exact h.holdoff

/-- A record that waits takes its trigger at the present sample, with the mask as its cause. -/
theorem slotAt_takeTrigger {n mask : Nat} {s : State} (hm : mask ≠ 0) (h : AwaitsTrigger n s) :
    (slotAt (takeTrigger mask s) n).st = .post ∧ (slotAt (takeTrigger mask s) n).kt = some (sampleK s) ∧
      (slotAt (takeTrigger mask s) n).cause = mask := by
  obtain ⟨hactive, hslot, hst, hh⟩ := h
  have hstart : takeTrigger mask s = startPost n mask s := by
    simp [takeTrigger, hm, hactive, hst, Nat.not_lt.2 hh]
  rw [hstart, startPost, slotAt_updSlot_same]
  · exact ⟨rfl, rfl, rfl⟩
  · exact hslot

theorem par_countN_other {id j : Nat} (n : Nat) (s : State) (h : j ≠ id) : par (countN id n s) j = par s j := by
  induction n generalizing s with
  | zero => rfl
  | succ n ih => exact (ih _).trans (par_count_other s h)

theorem countN_replay (id n : Nat) (s : State) : (countN id n s).replay = s.replay := by
  induction n generalizing s with
  | zero => rfl
  | succ n ih => exact (ih _).trans (count_replay id s)

/-- What a trigger can do: nothing, be counted as ignored, be logged in the record in POST, or start its POST part. -/
theorem takeTrigger_cases (mask : Nat) (s : State) :
    takeTrigger mask s = s ∨ takeTrigger mask s = countN acqIgnoredCnt (unitsOf mask).length s ∨
      (∃ n f, takeTrigger mask s = updSlot n f s) ∨ ∃ n, takeTrigger mask s = startPost n mask s := by
  unfold takeTrigger
  dsimp only
  repeat' split
  · exact .inl rfl
  · exact .inr (.inl rfl)
  · exact .inl rfl
  · exact .inr (.inr (.inl ⟨_, _, rfl⟩))
  · exact .inr (.inl rfl)
  · exact .inr (.inr (.inr ⟨_, rfl⟩))

/-- Of the parameters a trigger writes IGNORED_CNT alone. -/
theorem par_takeTrigger {j : Nat} (mask : Nat) (s : State) (h : j ≠ acqIgnoredCnt) : par (takeTrigger mask s) j = par s j := by
  obtain ht | ht | ⟨n, f, ht⟩ | ⟨n, ht⟩ := takeTrigger_cases mask s <;> rw [ht]
  · exact par_countN_other _ s h
  · rfl
  · rfl

/-! ## Units of a kind fire at their event (R303) -/

/-- The unit is enabled, of the kind, and armed. -/
structure UnitReady (kind u : Nat) (s : State) : Prop where
  unit  : u < 32
  on    : tuOn s u = true
  kind  : tuKind s u = kind
  armed : s.acq.armed.getLsbD u = true

/-- The units of a kind that fire. -/
def readyUnits (kind : Nat) (sel : Nat → Bool) (s : State) : List Nat :=
  (List.range 32).filter fun u => tuOn s u && decide (tuKind s u = kind) && s.acq.armed.getLsbD u && sel u

/-- The units are armed no more until a bundle re-arms them. -/
def disarmUnits (us : List Nat) (s : State) : State :=
  updAcq (fun a => { a with armed := a.armed &&& ~~~(BitVec.ofNat 32 (maskOf us)) }) s

theorem fireKind_eq (kind : Nat) (sel : Nat → Bool) (s : State) :
    fireKind kind sel s = fireUnits (readyUnits kind sel s) (disarmUnits (readyUnits kind sel s) s) := rfl

theorem mem_readyUnits {kind u : Nat} {sel : Nat → Bool} {s : State} (h : UnitReady kind u s) (hs : sel u = true) :
    u ∈ readyUnits kind sel s := by
  simp [readyUnits, h.unit, h.on, h.kind, h.armed, hs]

/-- Every ready unit of the kind is marked, and the record that waits takes the trigger of one that is no GROUP unit. -/
theorem fireKind_fires {kind u : Nat} {sel : Nat → Bool} {s : State} (h : UnitReady kind u s) (hs : sel u = true) :
    parBit (fireKind kind sel s) acqTuFired u = true ∧
      ∀ n, AwaitsTrigger n s → parBit s (acqTuCtrl u) 12 = false → (slotAt (fireKind kind sel s) n).st = .post ∧
        (slotAt (fireKind kind sel s) n).kt = some (sampleK s) ∧ (slotAt (fireKind kind sel s) n).cause.testBit u = true := by
  have hfired := hasFired_foldl h.unit (readyUnits kind sel s) (disarmUnits (readyUnits kind sel s) s, [])
    (.inl (mem_readyUnits h hs))
  have hmarked := UnitsMarked.at_foldl_fireOne (readyUnits kind sel s) (disarmUnits (readyUnits kind sel s) s, [])
  rw [fireKind_eq, fireUnits_eq]
  generalize (readyUnits kind sel s).foldl fireOne (disarmUnits (readyUnits kind sel s) s, []) = r at hfired hmarked
  refine ⟨?_, fun n hn hg => ?_⟩
  · rw [parBit, par_takeTrigger _ _ (by decide)]
    exact hfired.1
  · have hbit : (maskOf r.2).testBit u = true := testBit_maskOf (hfired.2 ((hmarked.group_eq u).trans hg))
    have hdisarmed : AwaitsTrigger n (disarmUnits (readyUnits kind sel s) s) := hn.of_acq rfl rfl rfl
    have hawaits : AwaitsTrigger n r.1 :=
      hdisarmed.of_acq (congrArg Acq.active hmarked.acq) (congrArg Acq.slots hmarked.acq) (hmarked.words _ (by decide))
    obtain ⟨hst, hkt, hcause⟩ := slotAt_takeTrigger (ne_zero_of_testBit hbit) hawaits
    exact ⟨hst, hkt.trans (congrArg some hmarked.sampleK_eq), by rw [hcause, hbit]⟩

@[simp] theorem fireKind_planes (kind : Nat) (sel : Nat → Bool) (s : State) : (fireKind kind sel s).planes = s.planes :=
  fireUnits_planes _ _

/-- A firing leaves the words outside TU_FIRED, the flags and the counts. -/
theorem par_fireKind {j : Nat} (kind : Nat) (sel : Nat → Bool) (s : State) (h : OffFired j) (hi : j ≠ acqIgnoredCnt) :
    par (fireKind kind sel s) j = par s j := by
  rw [fireKind_eq, fireUnits_eq, par_takeTrigger _ _ hi]
  exact (UnitsMarked.at_foldl_fireOne ..).words j h

/-- A trigger can meet the start condition of a replay, and changes nothing else of it (R314). -/
theorem takeTrigger_replay (mask : Nat) (s : State) : ∃ b, (takeTrigger mask s).replay = { s.replay with go := b } := by
  obtain ht | ht | ⟨n, f, ht⟩ | ⟨n, ht⟩ := takeTrigger_cases mask s <;> rw [ht]
  · exact ⟨_, rfl⟩
  · exact ⟨_, countN_replay ..⟩
  · exact ⟨_, rfl⟩
  · exact ⟨_, rfl⟩

theorem fireKind_replay (kind : Nat) (sel : Nat → Bool) (s : State) : ∃ b, (fireKind kind sel s).replay = { s.replay with go := b } := by
  rw [fireKind_eq, fireUnits_eq]
  obtain ⟨b, hb⟩ := takeTrigger_replay (maskOf ((readyUnits kind sel s).foldl fireOne (disarmUnits (readyUnits kind sel s) s, [])).2)
    ((readyUnits kind sel s).foldl fireOne (disarmUnits (readyUnits kind sel s) s, [])).1
  exact ⟨b, hb.trans (by rw [(UnitsMarked.at_foldl_fireOne ..).replay]; rfl)⟩

end Sys2Proof.Machine
end

section
/-! PROOFS. Capture and the records (R301 to R307, R312). Settles O18. -/

namespace Sys2Proof.Machine
open Sys2Proof

/-! ## Capture on and off (R301, R306) -/

theorem row_acqCtrl : RowIs acqCtrl .live .rw := by decide +kernel

theorem rwWritten_acqCtrl (old v : Nat) (s : State) : rwWritten acqCtrl old v s = captureWritten old v s := by
  rw [rwWritten, if_neg (by decide), if_neg (by decide), if_neg (by decide), if_neg (by decide),
    if_neg (fun h => absurd h.1 (by decide)), if_pos rfl]

theorem applyEntry_acqCtrl (v : Word) (s : State) :
    applyEntry s { id := acqCtrl, val := v } = captureWritten (par s acqCtrl) v.toNat (setPar acqCtrl v.toNat s) := by
  rw [applyEntry_rw row_acqCtrl (by decide) (by decide) (by decide), rwWritten_acqCtrl]

/-- ACQ.CTRL has been written. -/
def ctrlWritten (e : Env) (v : Word) (s : State) : State := setPar acqCtrl v.toNat (acceptSeq e s)

section
variable (e : Env) (v : Word) (s : State)

@[simp] theorem ctrlWritten_planes : (ctrlWritten e v s).planes = s.planes := by simp [ctrlWritten]
@[simp] theorem ctrlWritten_time : (ctrlWritten e v s).time = s.time := by simp [ctrlWritten]
@[simp] theorem ctrlWritten_acq : (ctrlWritten e v s).acq = s.acq := by simp [ctrlWritten]
@[simp] theorem ctrlWritten_isl : (ctrlWritten e v s).isl = s.isl := by simp [ctrlWritten]

theorem slotAt_ctrlWritten (n : Nat) : slotAt (ctrlWritten e v s) n = slotAt s n := slotAt_congr (by simp) n

theorem par_ctrlWritten {j : Nat} (h : j ≠ acqCtrl) (hg : j ≠ sysSeqGapCnt) : par (ctrlWritten e v s) j = par s j :=
  (par_setPar_other _ _ h).trans (par_acceptSeq e s hg)

end

/-- A write of ACQ.CTRL acts by the change of its bit 0. -/
theorem writeWords_acqCtrl {e : Env} {v : Word} {s : State} (h : Writes e [(acqCtrl, v)] s) :
    writeWords e [(acqCtrl, v)] s =
      answer 2 0x0101 e stOk 0 [] (captureWritten (par s acqCtrl) v.toNat (ctrlWritten e v s)) := by
  rw [writeWords_one h, applyEntry_acqCtrl, par_acceptSeq e s (by decide), ctrlWritten]

theorem captureWritten_on {old v : Nat} {s : State} (hv : v.testBit 0 = true) (ho : old.testBit 0 = false) (ha : s.isl.acq = true) :
    captureWritten old v s = nextRecord s := by simp [captureWritten, hv, ho, startCapture, ha]

theorem captureWritten_off {old v : Nat} {s : State} (hv : v.testBit 0 = false) (ho : old.testBit 0 = true) :
    captureWritten old v s = closeRecord 2 s := by simp [captureWritten, hv, ho, stopCapture]

theorem exec_captureEnable {e : Env} {v : Word} {s : State} (h : Writes e [(acqCtrl, v ||| 1)] s) (ha : s.isl.acq = true)
    (ho : parBit s acqCtrl 0 = false) (hs : (slotAt s 0).st = .free) : exec (.captureEnable e v) s =
      .next (answer 2 0x0101 e stOk 0 [] (fillSlot 0 (ctrlWritten e (v ||| 1) s))) := by
  have hon : (v ||| 1).toNat.testBit 0 = true := by simp
  refine congrArg Host.Outcome.next ((writeWords_acqCtrl h).trans ?_)
  rw [captureWritten_on hon ho (by simpa using ha), nextRecord_zero (by rw [slotAt_ctrlWritten]; exact hs)]

theorem exec_captureStop {e : Env} {v : Word} {n : Nat} {s : State} (h : Writes e [(acqCtrl, v &&& ~~~1)] s)
    (ho : parBit s acqCtrl 0 = true) (hn : s.acq.active = some n) : exec (.captureStop e v) s =
      .next (answer 2 0x0101 e stOk 0 [] (recordClosed 2 n (ctrlWritten e (v &&& ~~~1) s))) := by
  have hoff : (v &&& ~~~1).toNat.testBit 0 = false := by simp
  refine congrArg Host.Outcome.next ((writeWords_acqCtrl h).trans ?_)
  rw [captureWritten_off hoff ho, closeRecord_active 2 (by simpa using hn)]

/-! ## ACQ_TRIGGER (R303) -/

theorem exec_acqTrigger {e : Env} {s : State} (hf : Fresh 0x0040 1 e s) : exec (.acqTrigger e) s =
    .next (answer 1 0x0040 e stOk e.handle [] (fireKind 4 (fun _ => true) (acceptSeq e s))) :=
  congrArg Host.Outcome.next (serveShort_answer (st := stOk) hf (by decide) rfl)

theorem UnitReady.at_acceptSeq {kind u : Nat} {s : State} (h : UnitReady kind u s) (e : Env) : UnitReady kind u (acceptSeq e s) := by
  have hctrl : par (acceptSeq e s) (acqTuCtrl u) = par s (acqTuCtrl u) :=
    par_acceptSeq e s (by simp only [acqTuCtrl, sysSeqGapCnt]; omega)
  refine ⟨h.unit, ?_, ?_, ?_⟩
  · rw [tuOn, parBit, hctrl]
    exact h.on
  · rw [tuKind, parBits, hctrl]
    exact h.kind
  · rw [acceptSeq_acq]
    exact h.armed

theorem AwaitsTrigger.at_acceptSeq {n : Nat} {s : State} (h : AwaitsTrigger n s) (e : Env) : AwaitsTrigger n (acceptSeq e s) :=
  h.of_acq (by simp) (by simp) (par_acceptSeq e s (by decide))

theorem sampleK_acceptSeq (e : Env) (s : State) : sampleK (acceptSeq e s) = sampleK s := by
  rw [sampleK, par_acceptSeq e s (by decide), par_acceptSeq e s (by decide), sampleK]

theorem fireKind_time (kind : Nat) (sel : Nat → Bool) (s : State) : (fireKind kind sel s).time = s.time :=
  (OffTime.at_fireKind kind sel s).time

/-! ## A group trigger at its application instant (R312) -/

/-- The enabled and armed units of kind YTRG. -/
def ytrgUnits (s : State) : List Nat := (List.range 32).filter fun u => tuOn s u && decide (tuKind s u = 5) && s.acq.armed.getLsbD u

theorem mem_ytrgUnits {u : Nat} {s : State} (h : UnitReady 5 u s) : u ∈ ytrgUnits s := by
  simp [ytrgUnits, h.unit, h.on, h.kind, h.armed]

/-- The waiting group trigger is used up. -/
def triggerUsed (l : List (Rat × Nat)) (s : State) : State := updYbus (fun y => { y with apply := l }) s

/-- The units of kind YTRG are marked and disarmed. -/
def ytrgMarked (l : List (Rat × Nat)) (s : State) : State :=
  setPar acqTuFired (par s acqTuFired ||| maskOf (ytrgUnits s)) (disarmUnits (ytrgUnits s) (triggerUsed l s))

/-- The units' trigger, at the application instant. -/
def ytrgFired (x : Rat × Nat) (l : List (Rat × Nat)) (s : State) : State :=
  atTime ((x.1 - s.time.bus) / busInc (triggerUsed l s)) (takeTrigger (maskOf (ytrgUnits s) ||| x.2)) (ytrgMarked l s)

theorem applyTrigger_eq {x : Rat × Nat} {l : List (Rat × Nat)} {s : State} (h : s.ybus.apply = x :: l) :
    applyTrigger s = if (ytrgUnits s).isEmpty then triggerUsed l s else ytrgFired x l s := by
  simp only [applyTrigger, h]
  rfl

@[simp] theorem ytrgMarked_ybus (l : List (Rat × Nat)) (s : State) : (ytrgMarked l s).ybus.apply = l := by
  simp [ytrgMarked, disarmUnits, triggerUsed]
@[simp] theorem ytrgMarked_planes (l : List (Rat × Nat)) (s : State) : (ytrgMarked l s).planes = s.planes := by
  simp [ytrgMarked, disarmUnits, triggerUsed]
@[simp] theorem ytrgMarked_prt (l : List (Rat × Nat)) (s : State) : (ytrgMarked l s).prt = s.prt := by
  simp [ytrgMarked, disarmUnits, triggerUsed]
@[simp] theorem ytrgMarked_time (l : List (Rat × Nat)) (s : State) : (ytrgMarked l s).time = s.time := by
  simp [ytrgMarked, disarmUnits, triggerUsed]

theorem takeTrigger_ybus (mask : Nat) (s : State) : (takeTrigger mask s).ybus = s.ybus := by
  have hignored : ∀ k u, (countN acqIgnoredCnt k u).ybus = u.ybus := fun k => by
    induction k with
    | zero => exact fun _ => rfl
    | succ k ih => exact fun u => (ih _).trans (count_ybus _ u)
  obtain ht | ht | ⟨n, f, ht⟩ | ⟨n, ht⟩ := takeTrigger_cases mask s <;> rw [ht]
  · exact hignored _ s
  · rfl
  · rfl

section
variable (c : Rat) (mask : Nat) (s : State)

/-- Whatever the units trigger at an instant, no plane, no port and no time moves. -/
theorem atTime_takeTrigger_frame : (atTime c (takeTrigger mask) s).ybus = s.ybus ∧ (atTime c (takeTrigger mask) s).planes = s.planes ∧
    (atTime c (takeTrigger mask) s).prt = s.prt ∧ (atTime c (takeTrigger mask) s).time = s.time :=
  ⟨takeTrigger_ybus mask (advanceBases c s), takeTrigger_planes mask (advanceBases c s), takeTrigger_prt mask (advanceBases c s),
    atTime_time (OffTime.at_takeTrigger mask (advanceBases c s)).time⟩

theorem par_atTime_takeTrigger {j : Nat} (h : j ≠ acqIgnoredCnt) : par (atTime c (takeTrigger mask) s) j = par s j :=
  par_takeTrigger mask (advanceBases c s) h

variable {c mask s} in
/-- A record that waits takes the trigger of the instant. -/
theorem slotAt_atTime_takeTrigger {n : Nat} (hm : mask ≠ 0) (h : AwaitsTrigger n s) :
    (slotAt (atTime c (takeTrigger mask) s) n).st = .post ∧ (slotAt (atTime c (takeTrigger mask) s) n).kt = some (sampleK s) ∧
      (slotAt (atTime c (takeTrigger mask) s) n).cause = mask :=
  slotAt_takeTrigger (s := advanceBases c s) hm (h.of_acq rfl rfl rfl)

end

/-- The trigger is used up; no plane, no port and no time moves. -/
theorem ytrgFired_frame (x : Rat × Nat) (l : List (Rat × Nat)) (s : State) : (ytrgFired x l s).ybus.apply = l ∧
    (ytrgFired x l s).planes = s.planes ∧ (ytrgFired x l s).prt = s.prt ∧ (ytrgFired x l s).time = s.time := by
  obtain ⟨hybus, hplanes, hprt, htime⟩ := atTime_takeTrigger_frame ((x.1 - s.time.bus) / busInc (triggerUsed l s))
    (maskOf (ytrgUnits s) ||| x.2) (ytrgMarked l s)
  rw [ytrgFired, hybus, hplanes, hprt, htime]
  simp

theorem par_ytrgFired (x : Rat × Nat) (l : List (Rat × Nat)) (s : State) :
    par (ytrgFired x l s) acqTuFired = (par s acqTuFired ||| maskOf (ytrgUnits s)) % 2 ^ 32 := by
  rw [ytrgFired, par_atTime_takeTrigger _ _ _ (by decide), ytrgMarked, par_setPar_same]

theorem sampleK_ytrgMarked (l : List (Rat × Nat)) (s : State) : sampleK (ytrgMarked l s) = sampleK s := by
  rw [sampleK, ytrgMarked, par_setPar_other _ _ (by decide), par_setPar_other _ _ (by decide)]
  rfl

/-- The record that waits takes the trigger of every unit of the mask. -/
theorem slotAt_ytrgFired {n u : Nat} {x : Rat × Nat} {l : List (Rat × Nat)} {s : State} (hu : u ∈ ytrgUnits s)
    (hn : AwaitsTrigger n s) : (slotAt (ytrgFired x l s) n).st = .post ∧ (slotAt (ytrgFired x l s) n).kt = some (sampleK s) ∧
      (slotAt (ytrgFired x l s) n).cause.testBit u = true := by
  have hbit : (maskOf (ytrgUnits s) ||| x.2).testBit u = true := by rw [Nat.testBit_or, testBit_maskOf hu, Bool.true_or]
  have hawaits : AwaitsTrigger n (ytrgMarked l s) := hn.of_acq rfl rfl (par_setPar_other _ _ (by decide))
  obtain ⟨hst, hkt, hcause⟩ := slotAt_atTime_takeTrigger (c := (x.1 - s.time.bus) / busInc (triggerUsed l s))
    (ne_zero_of_testBit hbit) hawaits
  rw [ytrgFired, hst, hkt, hcause, sampleK_ytrgMarked]
  exact ⟨rfl, rfl, hbit⟩

/-! ## ACQ_RELEASE (R305) -/

theorem exec_acqRelease {e : Env} {n st : Nat} {s t : State} (hf : Fresh 0x0041 1 e s) (hst : st ≠ stAccepted)
    (hn : n < slotCount s)
    (hb : (if (slotAt s n).st ≠ .closed || (replaying s && decide (s.replay.slot = n)) then refuse stWrongState (acceptSeq e s)
      else done (releaseSlot n) (acceptSeq e s)) = (t, say st)) :
    exec (.acqRelease e { slot := n }) s = .next (answer 1 0x0041 e st e.handle [] t) := by
  refine congrArg Host.Outcome.next (serveShort_answer hf hst ?_)
  dsimp only
  rw [if_neg (by rw [slotCount_acceptSeq]; omega), slotAt_acceptSeq, replaying, acceptSeq_replay]
  exact hb

/-- A slot without a read or an archiving is freed, or filled at once where capture had stopped for want of a slot. -/
theorem releaseSlot_idle {n : Nat} {s : State} (hr : ∀ o ∈ s.acq.reads, o.slot ≠ some n) (ha : ∀ h, s.acq.arch ≠ some (h, n)) :
    releaseSlot n s = if capturing s && s.acq.active.isNone then fillSlot n (updSlot n (fun _ => {}) s)
      else updSlot n (fun _ => {}) s := by
  have hreads : s.acq.reads.filter (fun o => decide (o.slot = some n)) = [] := by simpa using hr
  simp only [releaseSlot, hreads, List.foldl_nil]
  cases harch : s.acq.arch with
  | none => rfl
  | some p =>
    obtain ⟨h, m⟩ := p
    have hm : m ≠ n := fun hm => ha h (hm ▸ harch)
    simp only [if_neg hm]

theorem releaseSlot_fills {n : Nat} {s : State} (hr : ∀ o ∈ s.acq.reads, o.slot ≠ some n) (ha : ∀ h, s.acq.arch ≠ some (h, n))
    (hc : capturing s = true) (hn : s.acq.active = none) : releaseSlot n s = fillSlot n (updSlot n (fun _ => {}) s) := by
  simp [releaseSlot_idle hr ha, hc, hn]

theorem releaseSlot_frees {n : Nat} {s : State} (hr : ∀ o ∈ s.acq.reads, o.slot ≠ some n) (ha : ∀ h, s.acq.arch ≠ some (h, n))
    (hc : capturing s = false ∨ s.acq.active.isSome = true) : releaseSlot n s = updSlot n (fun _ => {}) s := by
  rw [releaseSlot_idle hr ha, if_neg]
  obtain hc | hc := hc
  · simp [hc]
  · simp [Option.isSome_iff_ne_none.1 hc]

theorem releaseSlot_frame {n : Nat} {s : State} (hr : ∀ o ∈ s.acq.reads, o.slot ≠ some n) (ha : ∀ h, s.acq.arch ≠ some (h, n)) :
    (∀ j, j ≠ n → slotAt (releaseSlot n s) j = slotAt s j) ∧ (releaseSlot n s).planes = s.planes ∧
      (releaseSlot n s).time = s.time := by
  rw [releaseSlot_idle hr ha]
  split
  · exact ⟨fun j hj => (slotAt_fillSlot_other _ hj).trans (slotAt_updSlot_other _ s hj), rfl, rfl⟩
  · exact ⟨fun j hj => slotAt_updSlot_other _ s hj, rfl, rfl⟩

theorem capturing_acceptSeq (e : Env) (s : State) : capturing (acceptSeq e s) = capturing s := by
  rw [capturing, parBit, par_acceptSeq e s (by decide)]
  rfl

/-! ## RECORD_CLOSE (R301) and the slow stream (R307) -/

theorem recordClose_due {n : Nat} {s : State} (h : s.acq.active = some n) (hd : closeDue s = true) :
    recordClose s = nextRecord (recordClosed 1 n s) := by rw [recordClose, if_pos hd, closeRecord_active 1 h]

theorem post_of_closeDue {n : Nat} {s : State} (h : s.acq.active = some n) (hd : closeDue s = true) : (slotAt s n).st = .post := by
  simp only [closeDue, h, Bool.and_eq_true, beq_iff_eq] at hd
  exact hd.1

/-- Where slot 0 is FREE the next record fills it, and the closed one keeps its slot. -/
theorem recordClose_zero {n : Nat} {s : State} (h : s.acq.active = some n) (hn : n < s.acq.slots.length) (hd : closeDue s = true)
    (h0 : (slotAt s 0).st = .free) : (recordClose s).acq.active = some 0 ∧ (slotAt (recordClose s) 0).st = .filling ∧
      slotAt (recordClose s) n = closedAs 1 (slotAt s n) := by
  have hne : 0 ≠ n := by
    rintro rfl
    rw [post_of_closeDue h hd] at h0
    exact absurd h0 (by decide)
  have hfree : (slotAt (recordClosed 1 n s) 0).st = .free := by rw [slotAt_recordClosed_other 1 n s hne, h0]
  have hlen : 0 < (recordClosed 1 n s).acq.slots.length := by rw [recordClosed_slots_length]; omega
  rw [recordClose_due h hd, nextRecord_zero hfree, slotAt_fillSlot_same hlen, slotAt_fillSlot_other _ hne.symm,
    slotAt_recordClosed_same 1 n s hn]
  exact ⟨rfl, rfl, rfl⟩

/-- An entry of the slow stream is due (R307). -/
abbrev SlowDue (s : State) : Prop :=
  if s.time.stall then s.acq.slowAt + 20000000 ≤ s.time.mono else par s acqSlowDiv ≤ s.time.cyc - s.acq.slowCyc

/-- The slow stream with one more entry. -/
def slowWritten (s : State) : State :=
  updAcq (fun a => { a with
    slow := (sampleK s, slowEntry s) :: (if a.slowN % 15 = 0 then a.slow.take (4095 * 15) else a.slow),
    slowN := a.slowN + 1, slowCyc := s.time.cyc, slowAt := s.time.mono }) s

theorem slowStream_due {s : State} (ha : s.isl.acq = true) (hc : parBit s acqCtrl 1 = true) (hd : SlowDue s) :
    slowStream s = slowWritten s := by
  have hdue : (if s.time.stall then decide (s.acq.slowAt + 20000000 ≤ s.time.mono)
      else decide (par s acqSlowDiv ≤ s.time.cyc - s.acq.slowCyc)) = true := by
    unfold SlowDue at hd
    split at hd
    · rw [if_pos ‹_›, decide_eq_true hd]
    · rw [if_neg ‹_›, decide_eq_true hd]
  exact if_pos (by rw [ha, hc, hdue]; rfl)

/-! ## The obligation -/

/-- Settles O18: capture opens and closes records by the rules of the slots, and every unit that fires is marked and triggers the
record that waits. -/
theorem captureAndRecords : Obligations.CaptureAndRecords := by
  unfold Obligations.CaptureAndRecords
  refine ⟨fun e v s ha => ⟨fun h ho hs hlen => ?enable, fun h ho n hn hlen => ?stop⟩, fun e u s hf hu hon hk harm => ?trigger,
    fun x l s hx => ?group, fun e n s hf hn hlen => ⟨fun hst hrp hrd har => ?release, fun hst => ?notClosed⟩,
    fun n s hn hlen hd => ?close, fun s hd => ?notDue, fun s ha hc hd => ?slow⟩
  case enable =>
    have hlen0 : 0 < (ctrlWritten e (v ||| 1) s).acq.slots.length := by simp [hlen]
    have hslot : slotAt (fillSlot 0 (ctrlWritten e (v ||| 1) s)) 0 = openSlot (ctrlWritten e (v ||| 1) s) := slotAt_fillSlot_same hlen0
    refine ⟨_, exec_captureEnable h ha ho hs, lastKept_answer .., by simp, ?_, ?_, by simp, by simp⟩
    · rw [slotAt_congr (congrArg Acq.slots (answer_acq ..)), hslot, openSlot]
    · rw [slotAt_congr (congrArg Acq.slots (answer_acq ..)), hslot, openSlot, par_ctrlWritten _ _ _ (by decide) (by decide)]
  case stop =>
    have hslot : slotAt (recordClosed 2 n (ctrlWritten e (v &&& ~~~1) s)) n = closedAs 2 (slotAt s n) := by
      rw [slotAt_recordClosed_same _ _ _ (by simpa using hlen), slotAt_ctrlWritten]
    refine ⟨_, exec_captureStop h ho hn, lastKept_answer .., by simp, ?_, ?_, ?_, by simp⟩
    · rw [slotAt_congr (congrArg Acq.slots (answer_acq ..)), hslot, closedAs]
    · rw [slotAt_congr (congrArg Acq.slots (answer_acq ..)), hslot, closedAs]
    · rw [parBit_congr (answer_params ..)]
      exact parBit_recordClosed ..
  case trigger =>
    have hready : UnitReady 4 u (acceptSeq e s) := UnitReady.at_acceptSeq ⟨hu, hon, hk, harm⟩ e
    obtain ⟨hfired, htrig⟩ := fireKind_fires (sel := fun _ => true) hready rfl
    refine ⟨_, exec_acqTrigger hf, lastKept_answer .., ?_, by simp, by simp, by simp [fireKind_time], fun n hn hlen hst hh hg => ?_⟩
    · rw [par_answer]
      exact hfired
    · have hgroup : parBit (acceptSeq e s) (acqTuCtrl u) 12 = false := by
        rw [parBit, par_acceptSeq e s (by simp only [acqTuCtrl, sysSeqGapCnt]; omega)]
        exact hg
      rw [slotAt_congr (congrArg Acq.slots (answer_acq ..)), ← sampleK_acceptSeq e s]
      exact htrig n (AwaitsTrigger.at_acceptSeq ⟨hn, hlen, hst, hh⟩ e) hgroup
  case group =>
    have hx' : exec .groupTriggerApply s = .next _ := congrArg Host.Outcome.next (applyTrigger_eq hx)
    by_cases hus : (ytrgUnits s).isEmpty
    · rw [if_pos hus] at hx'
      refine ⟨_, hx', rfl, rfl, rfl, rfl, fun u hu hon hk harm => ?_⟩
      have hmem := mem_ytrgUnits ⟨hu, hon, hk, harm⟩
      rw [List.isEmpty_iff.1 hus] at hmem
      exact absurd hmem List.not_mem_nil
    · rw [if_neg hus] at hx'
      obtain ⟨happly, hplanes, hprt, htime⟩ := ytrgFired_frame x l s
      refine ⟨_, hx', happly, hplanes, hprt, htime, fun u hu hon hk harm => ?_⟩
      have hmem := mem_ytrgUnits ⟨hu, hon, hk, harm⟩
      refine ⟨?_, fun n hn hlen hst hh => slotAt_ytrgFired hmem ⟨hn, hlen, hst, hh⟩⟩
      rw [par_ytrgFired, Nat.testBit_mod_two_pow, Nat.testBit_or, testBit_maskOf hmem, Bool.or_true, decide_eq_true hu]
      rfl
  case release =>
    have hrd' : ∀ o ∈ (acceptSeq e s).acq.reads, o.slot ≠ some n := by simpa using hrd
    have har' : ∀ h, (acceptSeq e s).acq.arch ≠ some (h, n) := by simpa using har
    have hlen' : n < (acceptSeq e s).acq.slots.length := by simpa using hlen
    have hbusy : ((slotAt s n).st ≠ .closed || (replaying s && decide (s.replay.slot = n))) = false := by
      obtain hrp | hrp := hrp <;> simp [hst, hrp]
    obtain ⟨hothers, hplanes, htime⟩ := releaseSlot_frame hrd' har'
    refine ⟨_, exec_acqRelease (st := stOk) hf (by decide) hn (if_neg (by rw [hbusy]; decide)), lastKept_answer .., fun hc hn => ?_,
      fun hc => ?_, fun j hj => ?_, ?_, ?_⟩
    · rw [slotAt_congr (congrArg Acq.slots (answer_acq ..)), answer_acq,
        releaseSlot_fills hrd' har' ((capturing_acceptSeq e s).trans hc) (by simpa using hn),
        slotAt_fillSlot_same (by rw [updSlot_slots_length]; exact hlen')]
      exact ⟨rfl, rfl⟩
    · rw [slotAt_congr (congrArg Acq.slots (answer_acq ..)), releaseSlot_frees hrd' har' (by simpa [capturing_acceptSeq] using hc),
        slotAt_updSlot_same _ hlen']
    · rw [slotAt_congr (congrArg Acq.slots (answer_acq ..)), hothers j hj, slotAt_acceptSeq]
    · rw [answer_planes, hplanes, acceptSeq_planes]
    · rw [answer_time, htime, acceptSeq_time]
  case notClosed =>
    exact ⟨_, exec_acqRelease (st := stWrongState) hf (by decide) hn (if_pos (by simp [hst])), lastKept_answer .., by simp⟩
  case close =>
    refine ⟨_, congrArg Host.Outcome.next (recordClose_due hn hd), ?_, parBit_nextRecord_keeps (parBit_recordClosed ..), by simp, by simp,
      by simp, by simp, fun h0 => ?_⟩
    · rw [par_nextRecord _ (by decide) (by decide), par_recordClosed_recNum]
    · obtain ⟨hactive, hzero, hclosed⟩ := recordClose_zero hn hlen hd h0
      rw [recordClose_due hn hd] at hactive hzero hclosed
      exact ⟨hactive, hzero, by rw [hclosed, closedAs], by rw [hclosed, closedAs]⟩
  case notDue => exact congrArg Host.Outcome.next (if_neg (by simp [hd]))
  case slow => exact ⟨_, congrArg Host.Outcome.next (slowStream_due ha hc hd), rfl, rfl, rfl, rfl, rfl, rfl⟩

end Sys2Proof.Machine
end

section
/-! PROOFS. Replays (R314 to R317): how one is armed, plays its first sample and ends. Settles O19. -/

namespace Sys2Proof.Machine
open Sys2Proof

/-! ## REPLAY_START (R314) -/

section
variable (h : Nat) (s : State)

@[simp] theorem armReplay_planes : (armReplay h s).planes = s.planes := by simp [armReplay]
@[simp] theorem armReplay_time : (armReplay h s).time = s.time := by simp [armReplay]
@[simp] theorem armReplay_host : (armReplay h s).host = s.host := by simp [armReplay]

theorem armReplay_armed : (armReplay h s).replay.handle = some h ∧ (armReplay h s).replay.slot = par s acqRpSrc ∧
    (armReplay h s).replay.active = false ∧ (armReplay h s).replay.go = decide (parBits s acqRpTrig 0 2 = 0) := by
  simp [armReplay]

theorem par_armReplay : par (armReplay h s) acqRpStatus = 1 := par_setPar_same ..

end

theorem exec_replayStart {e : Env} {s : State} (hf : Fresh 0x0042 1 e s) (hr : Room s) (hst : replayStatus (acceptSeq e s) = stOk) :
    exec (.replayStart e) s = .next (answer 1 0x0042 e stAccepted (nextHandle s) [] (armReplay (nextHandle s) (begun 0x0042 e s))) ∧
      Accepted 1 0x0042 e s (answer 1 0x0042 e stAccepted (nextHandle s) [] (armReplay (nextHandle s) (begun 0x0042 e s))) :=
  exec_begun (work := armReplay (nextHandle s)) rfl hf hr (if_pos hst) (armReplay_host ..)

/-! ## The first sample (R314) -/

/-- The replay has become active and ACQ.RP_STATUS shows it. -/
def replayRuns (s : State) : State := setPar acqRpStatus 2 { s with replay := { s.replay with active := true } }

theorem replayStrobe_starts {s : State} (hr : replaying s = true) (ha : s.isl.acq = true) (hp : s.replay.played = false)
    (hn : s.replay.active = false) (hb : s.replay.bad = none) (hg : s.replay.go = true) :
    replayStrobe s = fireKind 7 (fun _ => true) (playSample (replayRuns s)) := by
  simp [replayStrobe, hr, ha, hp, hn, hb, hg, replayRuns]

theorem playSample_active (s : State) : (playSample s).replay.active = s.replay.active := rfl
theorem playSample_pos (s : State) : (playSample s).replay.pos = s.replay.pos + 1 := rfl
theorem playSample_params (s : State) : (playSample s).params = s.params := rfl

theorem playSample_replayRuns (s : State) : (playSample (replayRuns s)).replay.active = true ∧
    (playSample (replayRuns s)).replay.pos = s.replay.pos + 1 ∧ par (playSample (replayRuns s)) acqRpStatus = 2 := by
  refine ⟨?_, ?_, ?_⟩
  · rw [playSample_active, replayRuns, setPar_replay]
  · rw [playSample_pos, replayRuns, setPar_replay]
  · rw [par_congr (playSample_params _), replayRuns, par_setPar_same, Nat.mod_eq_of_lt (by decide)]

/-! ## The end of a replay (R317) -/

/-- The slot is held no more, no replay is armed, and the plane is on live samples. -/
def replayOff (s : State) : State :=
  raiseFlag acqEvents 5 0 (setPar acqRpStatus 0 (holdSlot s.replay.slot false { s with replay := {} }))

theorem endReplay_eq {h : Nat} (st c : Nat) {s : State} (hh : s.replay.handle = some h) :
    endReplay st c s = complete h st c [] (replayOff s) := by
  simp only [endReplay, hh, replayOff]

/-- With its end a replay is off, its handle complete and RP_END raised; no plane and no time has changed. -/
structure ReplayEnded (h : Nat) (s t : State) : Prop where
  replay : t.replay = {}
  op     : findOp t h = none
  status : par t acqRpStatus = 0
  flag   : parBit t acqEvents 5 = true
  planes : t.planes = s.planes
  time   : t.time = s.time

theorem replayEnded_endReplay {h : Nat} (st c : Nat) {s : State} (hh : s.replay.handle = some h) (ht : tansyUp s = true) :
    ReplayEnded h s (endReplay st c s) := by
  rw [endReplay_eq st c hh]
  refine ⟨?_, findOp_complete_same _ _ _ _ _ (by simpa [replayOff, tansyUp] using ht), ?_, ?_, ?_, ?_⟩
  · simp [replayOff]
  · rw [par_complete _ _ _ _ _ (by decide), replayOff, par_raiseFlag_other _ _ _ (by decide) (by decide), par_setPar_same,
      Nat.zero_mod]
  · rw [parBit, par_complete _ _ _ _ _ (by decide)]
    exact parBit_raiseFlag _ _ _ _ (by decide) (by decide)
  · simp [replayOff]
  · simp [replayOff]

theorem replaying_of_handle {h : Nat} {s : State} (hh : s.replay.handle = some h) : replaying s = true := by simp [replaying, hh]

theorem replaying_acceptSeq (e : Env) (s : State) : replaying (acceptSeq e s) = replaying s := by simp [replaying]

theorem exec_replayStop {e : Env} {st : Nat} {s t : State} (hf : Fresh 0x0043 1 e s) (hst : st ≠ stAccepted)
    (hb : (if replaying s then done (endReplay stCancelled cHost) (acceptSeq e s) else refuse stWrongState (acceptSeq e s)) =
      (t, say st)) : exec (.replayStop e) s = .next (answer 1 0x0043 e st e.handle [] t) :=
  congrArg Host.Outcome.next (serveShort_answer hf hst (by rw [replaying_acceptSeq]; exact hb))

/-- A bad tile of a replay that is not through marks how far its samples can be played. -/
theorem replayTileBad_marks {n i : Nat} {s : State} (hr : replaying s = true) (hi : beforeTile s n = some i)
    (hp : s.replay.played = false) : replayTileBad n s = raiseFlag acqEvents 4 s.replay.slot
      { s with replay := { s.replay with bad := some (min i (s.replay.bad.getD i)) } } := by
  simp [replayTileBad, hi, hr, hp]

/-- Without a replay none of the events that end one has an effect. -/
theorem replayEnds_none {s : State} (h : s.replay = {}) (r : RpEnd) : replayEnds r s = s := by
  have hr : replaying s = false := by simp [replaying, h]
  cases r with
  | last => simp [replayEnds, h]
  | tileBad n =>
    simp only [replayEnds, replayTileBad]
    split
    · simp [hr]
    · rfl
  | tmax => simp [replayEnds, h]

/-! ## The obligation -/

/-- Settles O19: the rows that end a replay share one end, and the first sample is played by the strobe that finds the condition met. -/
theorem replaysStartAndEnd : Obligations.ReplaysStartAndEnd := by
  unfold Obligations.ReplaysStartAndEnd
  refine ⟨fun e s hf hr hst => ?start, fun s hr ha hp hn hb hg => ?strobe, fun e s hf => ⟨fun h hh => ?stops, fun hr => ?noReplay⟩,
    fun h s hh ht => ⟨fun hp => ?last, fun ha hs => ?tmax, fun n i hi hp => ?tileBad⟩,
    fun s h r => congrArg Host.Outcome.next (replayEnds_none h r)⟩
  case start =>
    obtain ⟨hx, hacc⟩ := exec_replayStart hf hr hst
    obtain ⟨hhandle, hslot, hactive, hgo⟩ := armReplay_armed (nextHandle s) (begun 0x0042 e s)
    have htrig : parBits (begun 0x0042 e s) acqRpTrig 0 2 = parBits s acqRpTrig 0 2 := by
      rw [parBits, par_begun _ _ _ (by decide), parBits]
    rw [par_begun _ _ _ (by decide)] at hslot
    rw [htrig] at hgo
    refine ⟨_, hx, hacc, ?_, ?_, ?_, ?_, (par_answer ..).trans (par_armReplay ..), by simp, by simp⟩
    · rw [answer_replay, hhandle]
    · rw [answer_replay, hslot]
    · rw [answer_replay, hactive]
    · rw [answer_replay, hgo]
  case strobe =>
    obtain ⟨hactive, hpos, hstatus⟩ := playSample_replayRuns s
    obtain ⟨b, hb'⟩ := fireKind_replay 7 (fun _ => true) (playSample (replayRuns s))
    rw [replayStrobe_starts hr ha hp hn hb hg, hb', par_fireKind _ _ _ (by decide) (by decide)]
    exact ⟨hactive, hpos, hstatus⟩
  case stops =>
    have hup : tansyUp (acceptSeq e s) = true := by simpa [tansyUp] using tansyUp_of_serving hf.1
    have hend := replayEnded_endReplay stCancelled cHost (s := acceptSeq e s) (by simpa using hh) hup
    refine ⟨_, exec_replayStop (st := stOk) hf (by decide) (if_pos (replaying_of_handle hh)), lastKept_answer .., ?_, ?_, ?_, ?_, ?_, ?_⟩
    · rw [answer_replay, hend.replay]
    · rw [findOp_answer, hend.op]
    · rw [par_answer, hend.status]
    · rw [parBit_congr (answer_params ..), hend.flag]
    · rw [answer_planes, hend.planes, acceptSeq_planes]
    · rw [answer_time, hend.time, acceptSeq_time]
  case noReplay =>
    exact ⟨_, exec_replayStop (st := stWrongState) hf (by decide) (if_neg (by simp [hr])), lastKept_answer .., by simp, by simp⟩
  case last =>
    have hend := replayEnded_endReplay stOk cNone hh ht
    exact ⟨_, congrArg Host.Outcome.next (if_pos hp), hend.replay, hend.op, hend.status, hend.planes⟩
  case tmax =>
    have hend := replayEnded_endReplay stCancelled cTimeout hh ht
    exact ⟨_, congrArg Host.Outcome.next (if_pos (by simp [ha, hs])), hend.replay, hend.op, hend.status, hend.planes⟩
  case tileBad =>
    exact ⟨_, congrArg Host.Outcome.next (replayTileBad_marks (replaying_of_handle hh) hi hp), raiseFlag_replay ..,
      parBit_raiseFlag _ _ _ _ (by decide) (by decide), raiseFlag_planes ..⟩

end Sys2Proof.Machine
end

section
/-! PROOFS. The transfers of records (R305, R308, R314, R339, R387): reading, archiving and loading, and the bulk rows that carry them.
Settles O20. -/

namespace Sys2Proof.Machine
open Sys2Proof

/-! ## ACQ_READ, ACQ_ARCHIVE and REPLAY_LOAD are accepted (R305, R308, R314) -/

/-- A read of the capture area's slot begins: the slot is held, and its tiles wait. -/
def readBegun (h n : Nat) (tiles : List (Nat × List Byte)) (s : State) : State :=
  updAcq (fun a => { a with reads := a.reads ++ [{ handle := h, slot := some n, tiles := tiles }] }) (holdSlot n true s)

/-- An archiving begins: the slot is held. -/
def archiveBegun (h n : Nat) (s : State) : State := holdSlot n true (updAcq (fun a => { a with arch := some (h, n) }) s)

/-- A load begins: the slot is LOADING. -/
def loadBegun (h n tiles : Nat) (s : State) : State :=
  updAcq (fun a => { a with load := some { handle := h, slot := n, total := tiles } })
    (updSlot n (fun _ => { st := .loading, loaded := true }) s)

theorem held_readBegun {n : Nat} (h : Nat) (tiles : List (Nat × List Byte)) {s : State} (hn : n < s.acq.slots.length) :
    (slotAt (readBegun h n tiles s) n).held = (slotAt s n).held + 1 := held_holdSlot true hn

theorem held_archiveBegun {n : Nat} (h : Nat) {s : State} (hn : n < s.acq.slots.length) :
    (slotAt (archiveBegun h n s) n).held = (slotAt s n).held + 1 :=
  held_holdSlot true (s := updAcq (fun a => { a with arch := some (h, n) }) s) hn

theorem slotAt_loadBegun {n : Nat} (h tiles : Nat) {s : State} (hn : n < s.acq.slots.length) :
    slotAt (loadBegun h n tiles s) n = { st := .loading, loaded := true } :=
  slotAt_updSlot_same (fun _ => { st := .loading, loaded := true }) hn

/-- A CLOSED slot gives its tiles. -/
theorem readTiles_closed {n : Nat} {s : State} (hn : n < slotCount s) (hst : (slotAt s n).st = .closed) :
    ∃ tiles, readTiles { src := 0, slot := n } s = (stOk, tiles) := by
  simp [readTiles, hst, Nat.not_le.2 hn]

theorem exec_acqRead {e : Env} {n : Nat} {s : State} (hf : Fresh 0x0210 1 e s) (hr : Room s) (ha : s.isl.acq = true)
    (hn : n < slotCount s) (hst : (slotAt s n).st = .closed) : ∃ tiles t,
      t = answer 3 0x0210 e stAccepted (nextHandle s) [] (readBegun (nextHandle s) n tiles (begun 0x0210 e s)) ∧
        exec (.acqRead e { src := 0, slot := n }) s = .next t ∧ Accepted 3 0x0210 e s t := by
  obtain ⟨tiles, htiles⟩ := readTiles_closed (s := acceptSeq e s) (by rw [slotCount_acceptSeq]; exact hn)
    (by rw [slotAt_acceptSeq]; exact hst)
  exact ⟨tiles, _, rfl, exec_begun (work := readBegun (nextHandle s) n tiles) rfl hf hr (by simp [ha, htiles]; rfl) rfl⟩

theorem exec_acqArchive {e : Env} {n : Nat} {s : State} (hf : Fresh 0x0211 1 e s) (hr : Room s) (hn : n < slotCount s)
    (hst : (slotAt s n).st = .closed) (har : s.acq.arch = none) : ∃ t,
      t = answer 3 0x0211 e stAccepted (nextHandle s) [] (archiveBegun (nextHandle s) n (begun 0x0211 e s)) ∧
        exec (.acqArchive e { slot := n }) s = .next t ∧ Accepted 3 0x0211 e s t := by
  refine ⟨_, rfl, exec_begun (work := archiveBegun (nextHandle s) n) rfl hf hr ?_ rfl⟩
  dsimp only
  rw [slotCount_acceptSeq, slotAt_acceptSeq, acceptSeq_acq, if_neg (by omega), if_neg (by simp [hst]), if_neg (by simp [har])]
  rfl

theorem exec_replayLoad {e : Env} {n tiles : Nat} {s : State} (hf : Fresh 0x0212 1 e s) (hr : Room s) (hn : n < slotCount s)
    (hst : (slotAt s n).st = .free) (hl : s.acq.load = none) (h1 : 1 ≤ tiles) (ht : tiles ≤ dataTiles s + 1) : ∃ t,
      t = answer 3 0x0212 e stAccepted (nextHandle s) [] (loadBegun (nextHandle s) n tiles (begun 0x0212 e s)) ∧
        exec (.replayLoad e { slot := n } tiles) s = .next t ∧ Accepted 3 0x0212 e s t := by
  refine ⟨_, rfl, exec_begun (work := loadBegun (nextHandle s) n tiles) rfl hf hr ?_ rfl⟩
  dsimp only
  rw [slotCount_acceptSeq, slotAt_acceptSeq, acceptSeq_acq, dataTiles_acceptSeq, if_neg (by omega), if_neg (by simp [hst]),
    if_neg (by simp [hl]), if_neg (by omega)]
  rfl

/-! ## ARCHIVE_COMPLETE (R387) -/

/-- The archive has the record, its tiles cut to its size, and the slot is returned. -/
def archiveStored (n : Nat) (s : State) : State :=
  let l := archCut (slotAt s n) (slotTiles s n)
  let s1 := holdSlot n false (updAcq (fun a => { a with
    arch := none, archive := archMake l.length a.archive ++ [((slotAt s n).num, l)] }) s)
  setPar fwArchFree (3584 - archUsed s1.acq.archive) s1

theorem archiveComplete_eq {h n : Nat} {s : State} (ha : s.acq.arch = some (h, n)) :
    ∃ st c r, archiveComplete s = complete h st c r (archiveStored n s) := by
  simp only [archiveComplete, ha]
  split
  · exact ⟨_, _, _, rfl⟩
  · exact ⟨_, _, _, rfl⟩

section
variable (n : Nat) (s : State)

@[simp] theorem archiveStored_planes : (archiveStored n s).planes = s.planes := by simp [archiveStored]
@[simp] theorem archiveStored_time : (archiveStored n s).time = s.time := by simp [archiveStored]
@[simp] theorem archiveStored_isl : (archiveStored n s).isl = s.isl := by simp [archiveStored]
@[simp] theorem archiveStored_arch : (archiveStored n s).acq.arch = none := by simp [archiveStored]

theorem archiveStored_archive : (archiveStored n s).acq.archive.getLast? =
    some ((slotAt s n).num, archCut (slotAt s n) (slotTiles s n)) := by simp [archiveStored]

theorem held_archiveStored (h : n < s.acq.slots.length) : (slotAt (archiveStored n s) n).held = (slotAt s n).held - 1 := by
  simp only [archiveStored]
  rw [slotAt_congr (congrArg Acq.slots (setPar_acq ..)), held_holdSlot false (by simpa using h), if_neg Bool.false_ne_true]
  rfl

end

/-! ## REPLAY_DATA (R314, R339) -/

theorem exec_replayData {e : Env} {p : DataPay} {st : Nat} {s t : State} (hf : Fresh 0x0213 1 e s) (hd : dataLen p.data = true)
    (hst : st ≠ stAccepted) (hb : replayData e p (acceptSeq e s) = (t, say st)) :
    exec (.replayData e p) s = .next (answer 3 0x0213 e st e.handle [] t) := by
  refine congrArg Host.Outcome.next ?_
  simp only [withLength, hd, Bool.not_true, Bool.false_and, Bool.false_eq_true, if_false]
  exact serveShort_answer hf hst hb

/-- A fragment that passes the checks of R339 and leaves its tile incomplete is kept. -/
theorem replayData_kept {e : Env} {p : DataPay} {o : LoadOp} {f : Frag} {fs : List Frag} {s : State} (hl : s.acq.load = some o)
    (hh : o.handle = e.handle) (h6 : p.pre.b6 = 0) (hg : p.pre.grp = 0) (hu : p.pre.unit < o.total)
    (hp : p.pre.offset + p.data.length ≤ 4096) (hw : (tabGet (fun _ => []) (slotAt s o.slot).raw p.pre.unit).length = 0)
    (ha : addFrag p.pre.unit 0 0 p.pre.offset p.data o.frags = some (f, fs)) (hf : fragWhole 4096 f = none) :
    replayData e p s = (updAcq (fun a => { a with load := some { o with frags := fs } }) s, say stOk) := by
  have hchecks : ¬ (p.pre.b6 ≠ 0 ∨ p.pre.grp ≠ 0 ∨ o.total ≤ p.pre.unit ∨ 4096 < p.pre.offset + p.data.length) := by omega
  simp only [replayData, hl, ha, hf]
  rw [if_neg (by simp [hh]), if_neg hchecks, if_neg (by simp [hw])]

theorem replayData_noLoad (e : Env) (p : DataPay) {s : State} (hl : s.acq.load = none) : replayData e p s = (s, say stNoHandle) := by
  simp [replayData, hl]

/-! ## BULK_DATA (R308, R339, R344) -/

theorem bulkData_idle (b : Bool) {s : State} (h : s.acq.reads = []) : bulkData b s = s := by simp [bulkData, h]

theorem bulkData_noRoom (b : Bool) {o : ReadOp} {l : List ReadOp} {s : State} (h : s.acq.reads = o :: l)
    (hr : bulkRoom s o.handle = false) : bulkData b s = s := by simp [bulkData, h, hr]

/-- A read has left the list, and its slot is returned. -/
def readLeft (o : ReadOp) (s : State) : State :=
  let s1 := updAcq (fun a => { a with reads := a.reads.filter (·.handle ≠ o.handle) }) s
  match o.slot with
  | some n => holdSlot n false s1
  | none => s1

theorem endRead_eq (o : ReadOp) (st c : Nat) (s : State) : endRead o st c s = complete o.handle st c (le 4 o.bad) (readLeft o s) := rfl

theorem readLeft_frame (o : ReadOp) (s : State) :
    (readLeft o s).planes = s.planes ∧ (readLeft o s).time = s.time ∧ (readLeft o s).isl = s.isl ∧
      (readLeft o s).acq.reads = s.acq.reads.filter (·.handle ≠ o.handle) := by
  unfold readLeft
  cases o.slot <;> exact ⟨rfl, rfl, rfl, rfl⟩

theorem bulkData_through {o : ReadOp} {l : List ReadOp} {s : State} (b : Bool) (h : s.acq.reads = o :: l)
    (hr : bulkRoom s o.handle = true) (ht : o.tiles = []) :
    bulkData b s = complete o.handle stOk cNone (le 4 o.bad) (readLeft o s) := by
  simp [bulkData, h, hr, ht, endRead_eq]

/-- The read with the next packet of its tile taken. -/
def readOn (o : ReadOp) : ReadOp := { o with off := o.off + 1424, isBad := o.isBad && decide (o.off ≠ 0) }

/-- The packet of a read goes to the channel of its handle, if that is outstanding. -/
def readSent (o : ReadOp) (p : Packet) (s : State) : State :=
  match findOp s o.handle with
  | some x => sendTo x.chan p s
  | none => s

theorem readSent_frame (o : ReadOp) (p : Packet) (s : State) :
    (readSent o p s).planes = s.planes ∧ (readSent o p s).time = s.time ∧ (readSent o p s).acq = s.acq := by
  unfold readSent
  split
  · exact ⟨sendTo_planes .., sendTo_time .., sendTo_acq ..⟩
  · exact ⟨rfl, rfl, rfl⟩

/-- The next 1,424 bytes of a tile. -/
def readPacket (o : ReadOp) (u : Nat) (b : List Byte) (s : State) : Packet :=
  eventPacket s 3 0x0004 o.handle 0 0
    (le 4 u ++ le 2 o.off ++ le 1 (if (readOn o).isBad then 1 else 0) ++ [0] ++ (b.drop o.off).take 1424)

/-- While more of the tile is left, a packet takes 1,424 bytes of it. -/
theorem bulkData_on {o : ReadOp} {l : List ReadOp} {u : Nat} {b : List Byte} {r : List (Nat × List Byte)} {s : State}
    (h : s.acq.reads = o :: l) (hr : bulkRoom s o.handle = true) (ht : o.tiles = (u, b) :: r) (hb : o.off + 1424 < b.length) :
    bulkData false s = updAcq (fun a => { a with reads := a.reads.map fun x => if x.handle = o.handle then readOn o else x })
      (readSent o (readPacket o u b s) s) := by
  have hlen : ((b.drop o.off).take 1424).length = 1424 := by simp only [List.length_take, List.length_drop]; omega
  have hends : decide (b.length ≤ o.off + 1424) = false := decide_eq_false (by omega)
  have hbad : (if o.off = 0 then false else o.isBad) = (o.isBad && decide (o.off ≠ 0)) := by
    by_cases h0 : o.off = 0 <;> simp [h0]
  cases hop : findOp s o.handle <;>
    simp only [bulkData, h, hr, ht, hlen, hends, hbad, hop, readOn, readSent, readPacket, Bool.not_true, Bool.false_eq_true, and_false,
      if_false, Bool.false_and, Bool.not_false, Bool.and_true]

/-! ## The obligation -/

/-- Settles O20: a long transfer holds its slot from acceptance to its end, and a bulk row carries the next part of the first read. -/
theorem recordTransfers : Obligations.RecordTransfers := by
  unfold Obligations.RecordTransfers
  refine ⟨fun e n s hf hr ha hn hlen hst => ?read, fun e n s hf hr hn hlen hst har => ?archive, fun h n s har hlen ht => ?archived,
    fun e n tiles s hf hr hn hlen hst hl h1 ht => ?load,
    fun e p o f fs s hf hd hl hh h6 hg hu hp hw ha hfr => ?fragment, fun e p s hf hd hl => ?noLoad,
    fun o l s h hr => ⟨fun ht hup => ?through, fun u b r ht hb => ?on⟩,
    fun b s h => congrArg Host.Outcome.next (bulkData_idle b h),
    fun b o l s h hr => congrArg Host.Outcome.next (bulkData_noRoom b h hr)⟩
  case read =>
    obtain ⟨tiles, t, rfl, hx, hacc⟩ := exec_acqRead hf hr ha hn hst
    refine ⟨_, hx, hacc, ?_, by simp [readBegun], by simp [readBegun], by simp [readBegun]⟩
    rw [slotAt_congr (congrArg Acq.slots (answer_acq ..)), held_readBegun _ _ (by simpa using hlen), slotAt_begun]
  case archive =>
    obtain ⟨t, rfl, hx, hacc⟩ := exec_acqArchive hf hr hn hst har
    refine ⟨_, hx, hacc, by simp [archiveBegun], ?_, by simp [archiveBegun], by simp [archiveBegun]⟩
    rw [slotAt_congr (congrArg Acq.slots (answer_acq ..)), held_archiveBegun _ (by simpa using hlen), slotAt_begun]
  case archived =>
    obtain ⟨st, c, r, hx⟩ := archiveComplete_eq har
    refine ⟨_, congrArg Host.Outcome.next hx, by simp, findOp_complete_same _ _ _ _ _ (by simpa [tansyUp] using ht), ?_, ?_, by simp,
      by simp⟩
    · rw [slotAt_congr (congrArg Acq.slots (complete_acq ..)), held_archiveStored n s hlen]
    · rw [complete_acq, archiveStored_archive]
  case load =>
    obtain ⟨t, rfl, hx, hacc⟩ := exec_replayLoad hf hr hn hst hl h1 ht
    refine ⟨_, hx, hacc, ?_, by simp [loadBegun], by simp [loadBegun], by simp [loadBegun]⟩
    rw [slotAt_congr (congrArg Acq.slots (answer_acq ..)), slotAt_loadBegun _ _ (by simpa using hlen)]
  case fragment =>
    have hkept := replayData_kept (s := acceptSeq e s) (by simpa using hl) hh h6 hg hu hp (by rw [slotAt_acceptSeq]; exact hw) ha hfr
    exact ⟨_, exec_replayData hf hd (by decide) hkept, lastKept_answer .., by simp, by simp, by simp⟩
  case noLoad =>
    exact ⟨_, exec_replayData hf hd (by decide) (replayData_noLoad e p (by simpa using hl)), lastKept_answer .., by simp⟩
  case through =>
    obtain ⟨hplanes, htime, hisl, hreads⟩ := readLeft_frame o s
    refine ⟨_, congrArg Host.Outcome.next (bulkData_through false h hr ht), findOp_complete_same _ _ _ _ _ ?_, ?_, ?_, ?_⟩
    · rw [tansyUp, hisl]
      exact hup
    · rw [complete_acq, hreads, h]
      simp
    · rw [complete_planes, hplanes]
    · rw [complete_time, htime]
  case on =>
    obtain ⟨hplanes, htime, hacq⟩ := readSent_frame o (readPacket o u b s) s
    refine ⟨_, congrArg Host.Outcome.next (bulkData_on h hr ht hb), ?_, hplanes, htime⟩
    rw [updAcq_acq, hacq, h]
    simp [readOn]

end Sys2Proof.Machine
end

section
/-! PROOFS. URGENT PULSE_BLOCK turns its plane off (R173, R175, R179, R184, R331). Settles O12. -/

namespace Sys2Proof.Machine
open Sys2Proof

/-! ## An URGENT command that names one plane (R331, R332) -/

theorem poweredSt_of_active {x : PState} (h : activeSt x = true) : poweredSt x = true := by cases x <;> simp_all [activeSt, poweredSt]

theorem uMask_one (p : Plane) : uMask { b0 := 2 ^ p.code } = 2 ^ p.code := by cases p <;> rfl

/-- A mask with the bit of one plane targets that plane alone. -/
theorem targets_one {p : Plane} {s : State} (ha : activeSt (lane s p).st = true) : targets (2 ^ p.code) s = [p] := by
  have hbit : ∀ q : Plane, (2 ^ p.code).testBit q.code = decide (q = p) := by intro q; cases p <;> cases q <;> decide
  have hq : ∀ q : Plane, ((2 ^ p.code).testBit q.code && poweredSt (lane s q).st) = decide (q = p) := by
    intro q
    by_cases h : q = p
    · subst h; simp [poweredSt_of_active ha]
    · simp [hbit, h]
  simp only [targets, hq]
  cases p <;> decide

/-- What the decoder takes from an URGENT command that names one plane. -/
theorem uFits_one {op : Nat} {e : Env} {g : Nat} {s : State} (p : Plane) (hl : urgentListed s e.chan = true) (hf : e.flags = 0)
    (hg : op ≠ opUTrip → g = 0) (hg' : op = opUTrip → g = par s redGroupId ∧ g ≠ 0) :
    uFits op e { b0 := 2 ^ p.code, group := g } s = true := by
  have hm : uPayOk op { b0 := 2 ^ p.code, group := g } = true := by
    have hb : 2 ^ p.code % 16 ≠ 0 ∧ 2 ^ p.code < 16 := by cases p <;> decide
    simp only [uPayOk, uMask, hb, ne_eq, not_false_eq_true, decide_true, Bool.and_self, Bool.true_and, Bool.or_eq_true,
      decide_eq_true_eq]
    tauto
  have ht : (op ≠ opUTrip ∨ par s redGroupId ≠ 0) := by
    by_cases h : op = opUTrip
    · obtain ⟨h1, h2⟩ := hg' h
      exact .inr (h1 ▸ h2)
    · exact .inl h
  have hfor : foreign op { b0 := 2 ^ p.code, group := g } s = false := by
    simp only [foreign, Bool.and_eq_false_iff, decide_eq_false_iff_not, ne_eq, not_not]
    by_cases h : op = opUTrip
    · exact .inr (hg' h).1
    · exact .inl h
  have hu : uFlagsOk op e = true := by simp [uFlagsOk, hf]
  simpa [uFits, hm, hu, hfor, hl] using ht

/-- An URGENT command that fits acts through its decoder and is answered. -/
theorem urgent_fits {op : Nat} {e : Env} {u : UPay} {s : State} (hp : s.isl.prt = true) (hs : s.isl.sys = true)
    (hu : uFits op e u s = true) : urgent op e u s = urgentReply op e true (uMask u) (urgentTake op e u s) := by
  have hd : uDecodes s e.chan = true := by cases h : e.chan <;> simp [uDecodes, hp, hs]
  simp [urgent, hd, hu]

/-! ## The switches of a plane that enters SAFE with PULSE_BLOCK -/

/-- A forced PULSE_BLOCK is plane M's sub-state (R182). -/
theorem chooseSub_forced {p : Plane} {s : State} (h : p = .m → s.prt.forcedBlock.getLsbD 1 = true) : (chooseSub p s).1 = .pulseBlock := by
  by_cases hp : p = .m
  · simp [chooseSub, chooseM, hp, h hp]
  · simp [chooseSub, hp]

theorem forceBlock_one {p : Plane} {s : State} (ha : activeSt (lane s p).st = true) : forceBlock [p] s =
    updPrt (fun r => { r with forcedBlock := r.forcedBlock ||| (1#4 <<< p.code), forcedAsc := r.forcedAsc && decide (p ≠ .m) }) s := by
  simp [forceBlock, poweredSt_of_active ha]

/-- Sorrel's override with ENABLE 0 withdraws a port's ENABLE (R22). -/
theorem enableIn_overridden {s : State} {n : Nat} (ho : s.prt.ovr.getLsbD n = true) (he : s.prt.enable.getLsbD n = false) :
    (enableIn s).getLsbD n = false := by
  unfold enableIn
  split
  · simp
  · simp [ho, he]

/-- The pattern of PULSE_BLOCK overrides every port of the plane with ENABLE 0, but for chopping in progress on plane B (R184). -/
theorem safePattern_overrides {p : Plane} {n : Nat} (old : PState) {s : State} (hn : (planeMask p).getLsbD n = true)
    (hb : p = .b → s.prt.chopOn = false) : (safePattern p old .pulseBlock s).prt.ovr.getLsbD n = true ∧
      (safePattern p old .pulseBlock s).prt.enable.getLsbD n = false := by
  cases p
  case b => simp [safePattern, override, hb rfl, hn]
  case m => simp [safePattern, enterSub, override, hn]
  all_goals simp [safePattern, override, hn]

/-- No switch of the plane stays on but those whose turn-off waits. -/
theorem settle_off {p : Plane} {s : State} (b : Bool) (m : Ports) (h : ∀ n, (planeMask p).getLsbD n = true → (enableIn s).getLsbD n = false) :
    (settle b m s).prt.upper &&& planeMask p &&& ~~~((settle b m s).prt.deferUp ||| (staggered s).1) = 0 ∧
    (settle b m s).prt.lower &&& planeMask p &&& ~~~((settle b m s).prt.deferLo ||| (staggered s).2) = 0 := by
  constructor
  · apply ports_diff_zero
    intro n hn
    simp only [BitVec.getLsbD_and, BitVec.getLsbD_or, Bool.and_eq_true, Bool.or_eq_true] at hn ⊢
    obtain hw | hd | ⟨hg, -, -⟩ := settle_upper hn.1
    · simp [wantUpper, h n hn.2] at hw
    · exact .inl hd
    · exact .inr hg
  · apply ports_diff_zero
    intro n hn
    simp only [BitVec.getLsbD_and, BitVec.getLsbD_or, Bool.and_eq_true, Bool.or_eq_true] at hn ⊢
    obtain hw | hd | ⟨hg, -, -⟩ := settle_lower hn.1
    · simp [wantLower, h n hn.2] at hw
    · exact .inl hd
    · exact .inr hg

/-- A plane that enters SAFE with PULSE_BLOCK keeps no switch on but those whose turn-off waits. -/
theorem enterSafe_off {p : Plane} {s : State} (c : Nat) (m : Ports) (hsub : (chooseSub p s).1 = .pulseBlock)
    (hb : p = .b → s.prt.chopOn = false) :
    (enterSafe p c m s).prt.upper &&& planeMask p &&&
      ~~~((enterSafe p c m s).prt.deferUp ||| (staggered (enterSafe p c m s)).1) = 0 ∧
    (enterSafe p c m s).prt.lower &&& planeMask p &&&
      ~~~((enterSafe p c m s).prt.deferLo ||| (staggered (enterSafe p c m s)).2) = 0 := by
  unfold enterSafe
  extract_lets old ch s1 s2 s3 s4
  have hb3 : p = .b → s3.prt.chopOn = false := by simpa [s3, s2, s1] using hb
  have hen : ∀ n, (planeMask p).getLsbD n = true → (enableIn s4).getLsbD n = false := fun n hn => by
    obtain ⟨ho, he⟩ := safePattern_overrides old (s := s3) hn hb3
    apply enableIn_overridden
    · simpa [s4, ch, hsub] using ho
    · simpa [s4, ch, hsub] using he
  have hg : staggered (dropMc (quitLane p (settle true m s4))) = staggered s4 := staggered_congr (by simp)
  rw [hg]
  simpa using settle_off true m hen

/-- Settles O12: the command forces PULSE_BLOCK and takes the plane to SAFE with it. -/
theorem pulseBlockTurnsThePlaneOff : Obligations.PulseBlockTurnsThePlaneOff := by
  intro e p s hp hs ha hl hf hb
  refine ⟨_, rfl, ?_⟩
  have hu : uFits opUBlock e { b0 := 2 ^ p.code } s = true := uFits_one p hl hf (fun _ => rfl) (by simp)
  set f := forceBlock [p] s with hfdef
  have hprt : (urgent opUBlock e { b0 := 2 ^ p.code } s).prt = (enterSafe p 0x0F 0 f).prt := by
    rw [urgent_fits hp hs hu]
    have hact : activeSt (lane f p).st = true := by simpa [hfdef, forceBlock_one ha] using ha
    have hrun : f.isl.prt = true := by simpa [hfdef, forceBlock_one ha] using hp
    have hA : uAct opUBlock (2 ^ p.code) s = enterSafe p 0x0F 0 f := by
      simp only [uAct, targets_one ha, ← hfdef]
      exact causeAt_active 0x0F 0 hrun hact
    simp [urgentTake, uMask_one, hA]
  have hsub : (chooseSub p f).1 = .pulseBlock := chooseSub_forced fun h => by
    subst h
    simp [hfdef, forceBlock_one ha, Plane.code]
  have hoff := enterSafe_off (s := f) 0x0F 0 hsub (by simpa [hfdef, forceBlock_one ha] using hb)
  have hst : staggered (urgent opUBlock e { b0 := 2 ^ p.code } s) = staggered (enterSafe p 0x0F 0 f) := staggered_congr (by rw [hprt])
  rw [hprt, hst]
  exact hoff

end Sys2Proof.Machine
end

section
/-! PROOFS. The prefixes of command sources (R333). Settles O53. -/

namespace Sys2Proof.Machine
open Sys2Proof

/-- Two numbers have the same quotient by 2 ^ k exactly when their bits from k on are the same. -/
theorem div_two_pow_eq_iff (a b k : Nat) : a / 2 ^ k = b / 2 ^ k ↔ ∀ i, k ≤ i → a.testBit i = b.testBit i := by
  constructor
  · intro h i hi
    have hbit := congrArg (Nat.testBit · (i - k)) h
    simpa only [Nat.testBit_div_two_pow, Nat.sub_add_cancel hi] using hbit
  · intro h
    apply Nat.eq_of_testBit_eq
    intro i
    simpa only [Nat.testBit_div_two_pow] using h (i + k) (Nat.le_add_left k i)

/-- Settles O53: the comparison of the model divides by 2 ^ (32 − LEN), which keeps the first LEN bits. -/
theorem sourcesMatchByPrefix : Obligations.SourcesMatchByPrefix := by
  intro ip addr len hip haddr _
  have hhigh : ∀ i, 32 ≤ i → ip.testBit i = addr.testBit i := fun i hi => by
    rw [Nat.testBit_lt_two_pow (hip.trans_le (Nat.pow_le_pow_right (by decide) hi)),
      Nat.testBit_lt_two_pow (haddr.trans_le (Nat.pow_le_pow_right (by decide) hi))]
  simp only [srcMatches, Bool.and_eq_true, decide_eq_true_eq, div_two_pow_eq_iff]
  refine and_congr_right fun _ => ⟨fun h i _ hi => h i hi, fun h i hi => ?_⟩
  by_cases h32 : i < 32
  · exact h i h32 hi
  · exact hhigh i (Nat.le_of_not_lt h32)

end Sys2Proof.Machine
end

section
/-! PROOFS. The service of a command by its SEQ and trailer (R327, R329). Settles O6. -/

namespace Sys2Proof.Machine
open Sys2Proof

section
variable {cls op flags : Nat} {e : Env} {needs : State → Bool} {body : Nat → State → State × Ans} {s : State}

/-- A command that passes checks 2 and 6 is served by its SEQ. -/
theorem serve_passes (h1 : serving s e.chan = true) (h2 : srcListed s e.chan = true) (h3 : e.flags &&& flags = e.flags) :
    serve cls op e flags needs body s = serveSeq cls op e needs body s := by simp [serve, h1, h2, h3]

theorem serveSeq_repeated {r : Packet} (h : repeated (chanSt s e.chan) e = some r) :
    serveSeq cls op e needs body s = sendReply e.chan r (touchChan e.chan s) := by simp [serveSeq, h]

theorem serveSeq_stale (h : repeated (chanSt s e.chan) e = none) (hs : (chanSt s e.chan).started = true)
    (hd : seqDiff (chanSt s e.chan) e ≤ 0) : serveSeq cls op e needs body s = count sysStaleCnt (touchChan e.chan s) := by
  simp [serveSeq, h, hs, hd]

end

/-! ## Acceptance (R329) -/

/-- The channel of an accepted command is started, with its SEQ as the last. -/
theorem chanSt_acceptSeq (e : Env) (s : State) :
    chanSt (acceptSeq e s) e.chan = { chanSt s e.chan with started := true, last := e.seq } := by
  unfold acceptSeq
  cases hc : e.chan with
  | spi =>
    rw [chanSt_updHost_other]
    · exact chanSt_setChan_same ..
    · rfl
    · rfl
  | udp ip port => exact chanSt_setChan_same ..

/-- SYS.SEQ_GAP_CNT counts the command that leaves a gap. -/
theorem par_acceptSeq_gap (e : Env) {s : State} (h : par s sysSeqGapCnt < 65535) : par (acceptSeq e s) sysSeqGapCnt =
    par s sysSeqGapCnt + if (chanSt s e.chan).started = true ∧ 1 < seqDiff (chanSt s e.chan) e then 1 else 0 := by
  have hset : ∀ u : State, par (setChan e.chan { chanSt s e.chan with started := true, last := e.seq } u) sysSeqGapCnt =
      par u sysSeqGapCnt := fun u => by cases e.chan <;> rfl
  have hpar : par (acceptSeq e s) sysSeqGapCnt = par (if (chanSt s e.chan).started = true ∧ 1 < seqDiff (chanSt s e.chan) e then
      count sysSeqGapCnt s else s) sysSeqGapCnt := by
    rw [← hset, acceptSeq]
    cases e.chan <;> rfl
  rw [hpar]
  split
  · exact par_count _ s h
  · rfl

/-! ## URGENT commands (R329) -/

/-- What an URGENT command does to the lanes and the gate blocks is its decoder's work alone. -/
theorem urgentReply_planes (op : Nat) (e : Env) (done : Bool) (mask : Nat) (s : State) :
    (urgentReply op e done mask s).planes = s.planes := by
  unfold urgentReply
  split
  · rfl
  · simp only [turnAway, sendReply_planes]
    split
    · unfold urgentEvent
      dsimp only
      split <;> simp
    · rfl

/-- The SEQ of an URGENT command changes nothing of its work at the lanes and the gate blocks. -/
theorem urgent_seq (op q : Nat) (e : Env) (u : UPay) (s : State) :
    (urgent op e u s).planes = (urgent op { e with seq := q } u s).planes ∧
      (urgent op e u s).prt = (urgent op { e with seq := q } u s).prt := by
  unfold urgent
  split
  · exact ⟨rfl, rfl⟩
  · split
    · rename_i hfit
      rw [if_pos (show uFits op { e with seq := q } u s = true from hfit)]
      simp only [urgentReply_planes, urgentReply_prt]
      exact ⟨rfl, rfl⟩
    · rename_i hfit
      rw [if_neg (show ¬ uFits op { e with seq := q } u s = true from hfit)]
      simp only [urgentReply_planes, urgentReply_prt, and_self]

/-- Settles O6: a command that passes the checks before it is served by its SEQ and trailer as R329 gives. -/
theorem commandsFollowTheirSequence : Obligations.CommandsFollowTheirSequence := by
  intro cls op e flags needs body s h1 h2 h3
  refine ⟨fun r hr => ?_, fun hr hs hd => ?_, fun hr hd => ⟨?_, ?_, par_acceptSeq_gap e, fun hrun hn u st pl hb => ?_⟩,
    fun u q => ?_⟩
  · rw [serve_passes h1 h2 h3, serveSeq_repeated hr]
  · rw [serve_passes h1 h2 h3, serveSeq_stale hr hs hd]
  · rw [chanSt_acceptSeq]
  · rw [chanSt_acceptSeq]
  · exact serve_now ⟨h1, h2, h3, hr, hd, hrun⟩ (fun h => by simp [hn] at h) hb
  · obtain ⟨hplanes, hprt⟩ := urgent_seq opUStop q e u s
    exact ⟨_, _, rfl, rfl, hplanes, hprt⟩

end Sys2Proof.Machine
end

section
/-! PROOFS. What the URGENT commands do at one plane, and those that do not fit (R179, R331, R332, R334). Settles O11. -/

namespace Sys2Proof.Machine
open Sys2Proof

/-! ## Tansy's part (R332, R342) -/

theorem noteUrgent_irq (c : Chan) (s : State) : (noteUrgent c s).host.irq = s.host.irq ||| 2 := rfl

theorem urgentEvent_irq (op mask : Nat) (e : Env) (s : State) : (urgentEvent op mask e s).host.irq = s.host.irq := by
  unfold urgentEvent
  dsimp only
  split <;> simp

theorem par_urgentEvent (op mask : Nat) (e : Env) (s : State) {j : Nat} (h : j ≠ sysEvtLostCnt) :
    par (urgentEvent op mask e s) j = par s j := by
  unfold urgentEvent
  dsimp only
  split
  · rfl
  · exact par_routeAsync _ _ h

theorem urgentEvent_isl (op mask : Nat) (e : Env) (s : State) : (urgentEvent op mask e s).isl = s.isl := by
  unfold urgentEvent
  dsimp only
  split <;> simp

theorem urgentReply_irq (op : Nat) (e : Env) (done : Bool) (mask : Nat) (s : State) :
    (urgentReply op e done mask s).host.irq = s.host.irq := by
  unfold urgentReply
  split
  · rfl
  · simp only [turnAway, sendReply_host_irq]
    split
    · exact urgentEvent_irq ..
    · rfl

theorem par_urgentReply (op : Nat) (e : Env) (done : Bool) (mask : Nat) (s : State) {j : Nat} (h : j ≠ sysEvtLostCnt) :
    par (urgentReply op e done mask s) j = par s j := by
  unfold urgentReply
  split
  · rfl
  · refine (par_congr (sendReply_params ..) j).trans ?_
    split
    · exact par_urgentEvent op mask e s h
    · rfl

theorem urgentReply_refused_mods (op : Nat) (e : Env) (mask : Nat) (s : State) :
    (urgentReply op e false mask s).mods = s.mods := by
  unfold urgentReply
  split
  · rfl
  · simp [turnAway]

/-- While Tansy serves the HOST port, an action taken is answered OK there. -/
theorem urgentReply_ok {op : Nat} {e : Env} {mask : Nat} {s : State} (hc : e.chan = .spi) (hv : serving s .spi = true)
    (hr : s.isl.recovery = false) : replyPacket 0 op e stOk e.handle [] ∈ (urgentReply op e true mask s).host.out := by
  obtain ⟨ha, hres⟩ : answering s .spi = true ∧ s.isl.restart = false := by simpa [serving] using hv
  simp [urgentReply, hc, ha, hr, turnAway, sendReply, urgentEvent_isl, hres]

/-! ## The decoder's part (R331) -/

theorem propagate_eq (mask group : Nat) (s : State) : ∃ w, propagate mask group s = { s with wire := w } := by
  unfold propagate
  dsimp only
  repeat' split
  all_goals exact ⟨_, rfl⟩

theorem urgentTake_eq (op : Nat) (e : Env) (u : UPay) (s : State) :
    ∃ w, urgentTake op e u s = { noteUrgent e.chan (uAct op (uMask u) s) with wire := w } := by
  unfold urgentTake
  dsimp only
  split
  · exact propagate_eq ..
  · exact ⟨_, rfl⟩

/-- What an URGENT command that takes plane p to SAFE leaves: the plane's state with its cause, and the other lanes. -/
structure Taken (op : Nat) (e : Env) (p : Plane) (cause : Nat) (s t : State) : Prop where
  st : (lane t p).st = .safe
  cause : par t (protSafeCause p.code) = cause
  others : OtherLanes p s t
  irq : t.host.irq &&& 6 = 6
  reply : e.chan = .spi → serving s .spi = true → s.isl.recovery = false → replyPacket 0 op e stOk e.handle [] ∈ t.host.out

/-- SAFE_ENTRY and URGENT_DONE of HWIN_IRQ stand after an entry into SAFE by an URGENT command (R326). -/
theorem irq_taken (x : BitVec 6) : (x ||| 4 ||| 2) &&& 6 = 6 := by
  revert x
  decide

/-- An action that is the entry of one plane into SAFE, from a state f where ISL_PRT has noted what the command forces. -/
theorem urgent_taken {op cause : Nat} {e : Env} {u : UPay} {p : Plane} {g : Prt → Prt} {s : State} (hp : s.isl.prt = true)
    (hs : s.isl.sys = true) (hu : uFits op e u s = true) (ha : activeSt (lane s p).st = true) (hc : cause < 2 ^ 32)
    (hA : uAct op (uMask u) s = causeEach [p] cause 0 (updPrt g s)) :
    Taken op e p cause s (urgent op e u s) ∧ (urgent op e u s).prt = (enterSafe p cause 0 (updPrt g s)).prt ∧
      (lane (urgent op e u s) p).sub = (chooseSub p (updPrt g s)).1 := by
  have hcause : uAct op (uMask u) s = enterSafe p cause 0 (updPrt g s) := hA.trans (causeAt_active cause 0 hp ha)
  obtain ⟨w, hw⟩ := urgentTake_eq op e u s
  rw [hcause] at hw
  have hpl : (urgent op e u s).planes = (enterSafe p cause 0 (updPrt g s)).planes := by
    rw [urgent_fits hp hs hu, urgentReply_planes, hw]
    rfl
  have hlane : ∀ q, lane (urgent op e u s) q = lane (enterSafe p cause 0 (updPrt g s)) q := lane_congr hpl
  have hne : protSafeCause p.code ≠ sysEvtLostCnt := by
    have := code_lt p
    unfold protSafeCause sysEvtLostCnt
    omega
  refine ⟨⟨?_, ?_, fun q hq => ?_, ?_, fun hch hv hr => ?_⟩, ?_, ?_⟩
  · rw [hlane, enterSafe_st]
  · rw [urgent_fits hp hs hu, par_urgentReply _ _ _ _ _ hne, hw]
    exact par_enterSafe_cause p cause 0 _ hc
  · rw [hlane, lane_enterSafe_other _ _ _ hq]
    rfl
  · rw [urgent_fits hp hs hu, urgentReply_irq, hw]
    simp only [noteUrgent_irq, enterSafe_irq]
    exact irq_taken _
  · have hisl : (urgentTake op e u s).isl = s.isl := by
      rw [hw]
      simp [noteUrgent]
    rw [urgent_fits hp hs hu]
    refine urgentReply_ok hch ?_ (by rw [hisl]; exact hr)
    simpa only [serving, answering, hisl] using hv
  · rw [urgent_fits hp hs hu, urgentReply_prt, hw]
    simp
  · rw [hlane, enterSafe_sub]

/-! ## The four commands (R331) -/

theorem taken_stop {e : Env} {p : Plane} {s : State} (hp : s.isl.prt = true) (hs : s.isl.sys = true)
    (ha : activeSt (lane s p).st = true) (hl : urgentListed s e.chan = true) (hf : e.flags = 0) :
    Taken opUStop e p 0x0E s (urgent opUStop e { b0 := 2 ^ p.code } s) := by
  have hA : uAct opUStop (uMask { b0 := 2 ^ p.code }) s = causeEach [p] 0x0E 0 (updPrt id s) := by
    simp only [uMask_one, uAct, targets_one ha]
    rfl
  exact (urgent_taken hp hs (uFits_one p hl hf (fun _ => rfl) (by simp)) ha (by decide) hA).1

theorem taken_pulseBlock {e : Env} {p : Plane} {s : State} (hp : s.isl.prt = true) (hs : s.isl.sys = true)
    (ha : activeSt (lane s p).st = true) (hl : urgentListed s e.chan = true) (hf : e.flags = 0) :
    Taken opUBlock e p 0x0F s (urgent opUBlock e { b0 := 2 ^ p.code } s) ∧
      (lane (urgent opUBlock e { b0 := 2 ^ p.code } s) p).sub = .pulseBlock ∧
      (urgent opUBlock e { b0 := 2 ^ p.code } s).prt.forcedBlock.getLsbD p.code = true := by
  have hA : uAct opUBlock (uMask { b0 := 2 ^ p.code }) s = causeEach [p] 0x0F 0 (updPrt (fun r =>
      { r with forcedBlock := r.forcedBlock ||| (1#4 <<< p.code), forcedAsc := r.forcedAsc && decide (p ≠ .m) }) s) := by
    simp only [uMask_one, uAct, targets_one ha, forceBlock_one ha]
  obtain ⟨ht, hprt, hsub⟩ := urgent_taken hp hs (uFits_one p hl hf (fun _ => rfl) (by simp)) ha (by decide) hA
  refine ⟨ht, ?_, ?_⟩
  · rw [hsub]
    exact chooseSub_forced fun h => by subst h; simp [Plane.code]
  · have := code_lt p
    rw [hprt, enterSafe_prt_forcedBlock]
    simp [this]

theorem taken_asc {e : Env} {p : Plane} {s : State} (hp : s.isl.prt = true) (hs : s.isl.sys = true)
    (ha : activeSt (lane s p).st = true) (hl : urgentListed s e.chan = true) (hf : e.flags = 0) :
    Taken opUAsc e p 0x10 s (urgent opUAsc e { b0 := 2 ^ p.code } s) ∧
      (p = .m → s.prt.forcedBlock.getLsbD 1 = false → (urgent opUAsc e { b0 := 2 ^ p.code } s).prt.forcedAsc = true) := by
  have hu := uFits_one (op := opUAsc) (g := 0) p hl hf (fun _ => rfl) (by simp)
  by_cases hm : p = .m ∧ s.prt.forcedBlock.getLsbD 1 = false
  · have hA : uAct opUAsc (uMask { b0 := 2 ^ p.code }) s = causeEach [p] 0x10 0 (updPrt (fun r => { r with forcedAsc := true }) s) := by
      obtain ⟨rfl, hb⟩ := hm
      have hforce : forceAsc s = updPrt (fun r => { r with forcedAsc := true }) s :=
        if_pos ⟨poweredSt_of_active ha, by simpa using hb⟩
      simp only [uMask_one, uAct, targets_one ha, hforce]
      rfl
    obtain ⟨ht, hprt, -⟩ := urgent_taken hp hs hu ha (by decide) hA
    refine ⟨ht, fun _ _ => ?_⟩
    rw [hprt, enterSafe_prt_forcedAsc]
    rfl
  · have hA : uAct opUAsc (uMask { b0 := 2 ^ p.code }) s = causeEach [p] 0x10 0 (updPrt id s) := by
      simp only [uMask_one, uAct, targets_one ha]
      by_cases hpm : p = .m
      · have hforce : forceAsc s = s := if_neg fun h => hm ⟨hpm, by simpa using h.2⟩
        simp only [hforce, ite_self]
        rfl
      · rw [if_neg (by simpa using Ne.symm hpm)]
        rfl
    exact ⟨(urgent_taken hp hs hu ha (by decide) hA).1, fun h1 h2 => absurd ⟨h1, h2⟩ hm⟩

theorem taken_tripGroup {e : Env} {p : Plane} {g : Nat} {s : State} (hp : s.isl.prt = true) (hs : s.isl.sys = true)
    (ha : activeSt (lane s p).st = true) (hl : urgentListed s e.chan = true) (hf : e.flags = 0) (hg : g = par s redGroupId)
    (h0 : g ≠ 0) : Taken opUTrip e p 0x0E s (urgent opUTrip e { b0 := 2 ^ p.code, group := g } s) := by
  have hA : uAct opUTrip (uMask { b0 := 2 ^ p.code, group := g }) s = causeEach [p] 0x0E 0 (updPrt id s) := by
    have hmask : uMask { b0 := 2 ^ p.code, group := g } = 2 ^ p.code := uMask_one p
    simp only [hmask, uAct, targets_one ha]
    rfl
  exact (urgent_taken hp hs (uFits_one p hl hf (fun h => absurd rfl h) fun _ => ⟨hg, h0⟩) ha (by decide) hA).1

/-! ## Commands that do not fit (R332, R334) -/

/-- A command that does not fit is counted, one of another group as such too, and answered. -/
theorem urgent_misfit {op : Nat} {e : Env} {u : UPay} {s : State} (hp : s.isl.prt = true) (hs : s.isl.sys = true)
    (hu : uFits op e u s = false) : urgent op e u s = urgentReply op e false 0
      (if foreign op u s then count sysTripForeignCnt (count sysCrcErrCnt s) else count sysCrcErrCnt s) := by
  have hd : uDecodes s e.chan = true := by cases h : e.chan <;> simp [uDecodes, hp, hs]
  simp [urgent, hd, hu]

theorem urgent_misfit_frame {op : Nat} {e : Env} {u : UPay} {s : State} (hp : s.isl.prt = true) (hs : s.isl.sys = true)
    (hu : uFits op e u s = false) : (urgent op e u s).planes = s.planes ∧ (urgent op e u s).prt = s.prt ∧
      (urgent op e u s).mods = s.mods := by
  rw [urgent_misfit hp hs hu, urgentReply_planes, urgentReply_prt, urgentReply_refused_mods]
  split <;> exact ⟨rfl, rfl, rfl⟩

/-- An empty mask fits no command. -/
theorem uFits_empty (op : Nat) (e : Env) (s : State) : uFits op e { b0 := 0 } s = false := by
  have h : uPayOk op { b0 := 0 } = false := by simp [uPayOk, uMask]
  simp [uFits, h]

theorem urgent_empty {op : Nat} {e : Env} {s : State} (hp : s.isl.prt = true) (hs : s.isl.sys = true)
    (h : par s sysCrcErrCnt < 65535) : par (urgent op e { b0 := 0 } s) sysCrcErrCnt = par s sysCrcErrCnt + 1 := by
  rw [urgent_misfit hp hs (uFits_empty op e s), par_urgentReply _ _ _ _ _ (by decide)]
  split
  · rw [par_count_other _ (by decide), par_count _ _ h]
  · exact par_count _ _ h

theorem urgent_foreign {e : Env} {u : UPay} {s : State} (hp : s.isl.prt = true) (hs : s.isl.sys = true)
    (hu : foreign opUTrip u s = true) (h : par s sysTripForeignCnt < 65535) :
    par (urgent opUTrip e u s) sysTripForeignCnt = par s sysTripForeignCnt + 1 := by
  have hfit : uFits opUTrip e u s = false := by simp [uFits, hu]
  have hc : par (count sysCrcErrCnt s) sysTripForeignCnt = par s sysTripForeignCnt := par_count_other _ (by decide)
  rw [urgent_misfit hp hs hfit, par_urgentReply _ _ _ _ _ (by decide), if_pos hu, par_count _ _ (by omega), hc]

/-- Settles O11: a command that fits is one entry of its plane into SAFE, and one that does not fit is counted. -/
theorem urgentCommands : Obligations.UrgentCommands := by
  refine ⟨fun e p s hp hs ha hl hf => ⟨?_, ?_, ?_, fun g hg h0 => ?_⟩, fun e s hp hs => ⟨fun h c hc => ?_, fun u hu h => ?_⟩⟩
  · have ht := taken_stop hp hs ha hl hf
    exact ⟨_, rfl, ht.st, ht.cause, ht.others, ht.irq, ht.reply⟩
  · obtain ⟨ht, hsub, hblk⟩ := taken_pulseBlock hp hs ha hl hf
    exact ⟨_, rfl, ht.st, hsub, ht.cause, hblk, ht.others, ht.reply⟩
  · obtain ⟨ht, hasc⟩ := taken_asc hp hs ha hl hf
    exact ⟨_, rfl, ht.st, ht.cause, hasc, ht.others, ht.reply⟩
  · have ht := taken_tripGroup hp hs ha hl hf hg h0
    exact ⟨_, rfl, ht.st, ht.cause, ht.others, ht.reply⟩
  · obtain ⟨op, hop⟩ : ∃ op, exec c s = .next (urgent op e { b0 := 0 } s) := by
      simp only [List.mem_cons, List.not_mem_nil, or_false] at hc
      rcases hc with rfl | rfl | rfl | rfl
      exacts [⟨_, rfl⟩, ⟨_, rfl⟩, ⟨_, rfl⟩, ⟨_, rfl⟩]
    exact ⟨_, hop, urgent_empty hp hs h, urgent_misfit_frame hp hs (uFits_empty op e s)⟩
  · have hfor : foreign opUTrip u s = true := by simpa [foreign] using hu
    obtain ⟨hpl, hprt, -⟩ := urgent_misfit_frame (e := e) hp hs (show uFits opUTrip e u s = false by simp [uFits, hfor])
    exact ⟨_, rfl, urgent_foreign hp hs hfor h, hpl, hprt⟩

end Sys2Proof.Machine
end

section
/-! PROOFS. SET_PARAM outside a transaction (R341, R350, R351). Settles O13. -/

namespace Sys2Proof.Machine
open Sys2Proof

section
variable {e : Env} {es : List PEntry} {s : State}

/-- The class and the opcode of the two forms of SET_PARAM. -/
def setParamForm (ctl : Bool) : Nat × Nat × Form := if ctl then (1, 0x0030, .control) else (2, 0x0101, .config)

/-- Outside a transaction a SET_PARAM is answered as `directWrite` says. -/
theorem setParam_direct {ctl : Bool} {st : Nat} {pl : List Byte} {t : State} (hf : Fresh (setParamForm ctl).2.1 1 e s)
    (hh : e.handle = 0) (hl : 1 ≤ es.length ∧ es.length ≤ 64) (hb : directWrite ctl es (acceptSeq e s) = (t, .now st pl)) :
    setParam ctl e es 0 s =
      answer (setParamForm ctl).1 (setParamForm ctl).2.1 e st (if st = stAccepted then nextHandle s else 0) pl t := by
  have hbody : paramBody ctl e.handle 0 es (acceptSeq e s) = (t, .now st pl) := by simp [paramBody, hh, hb]
  have hs := serve_now (cls := (setParamForm ctl).1) (needs := fun _ => false) (body := fun _ => paramBody ctl e.handle 0 es) hf
    (fun h => absurd h Bool.false_ne_true) hbody
  rw [hh] at hs
  rw [← hs]
  cases ctl <;> simp [setParam, withLength, hl, hh, setParamForm]

/-- When both passes hold, every entry has taken effect. -/
theorem setParam_applies {ctl : Bool} (hf : Fresh (setParamForm ctl).2.1 1 e s) (hh : e.handle = 0) (ht : txnBusy s = false)
    (hl : 1 ≤ es.length ∧ es.length ≤ 64) (hp : paramFailure (setParamForm ctl).2.2 es (acceptSeq e s) = none) :
    setParam ctl e es 0 s =
      answer (setParamForm ctl).1 (setParamForm ctl).2.1 e stOk 0 [] (applyAll es (acceptSeq e s)) := by
  have ht' : txnBusy (acceptSeq e s) = false := by simpa only [txnBusy, acceptSeq_txn] using ht
  refine setParam_direct (st := stOk) hf hh hl ?_
  cases ctl <;> simp_all [directWrite, setParamForm]

/-- When a pass fails, nothing is written and the entry is named. -/
theorem setParam_names {ctl : Bool} {i st : Nat} {x : PEntry} (hf : Fresh (setParamForm ctl).2.1 1 e s) (hh : e.handle = 0)
    (ht : txnBusy s = false) (hl : 1 ≤ es.length ∧ es.length ≤ 64)
    (hp : paramFailure (setParamForm ctl).2.2 es (acceptSeq e s) = some (i, x, st)) :
    setParam ctl e es 0 s = answer (setParamForm ctl).1 (setParamForm ctl).2.1 e st (if st = stAccepted then nextHandle s else 0)
      (le 2 i ++ le 2 x.id) (acceptSeq e s) := by
  have ht' : txnBusy (acceptSeq e s) = false := by simpa only [txnBusy, acceptSeq_txn] using ht
  refine setParam_direct hf hh hl ?_
  cases ctl <;> simp_all [directWrite, setParamForm, failEntry]

end

/-- An entry takes effect by the class of its row (R351). -/
theorem applyEntry_class {x : PEntry} {d : PDef} (s : State) (h : paramRow x.id = some d) :
    (d.commit = .boundary → applyEntry s x = { s with wait := s.wait ++ [(x.id, x.val)] }) ∧
    (d.commit = .reset → applyEntry s x = storeWord x.id x.val.toNat s) ∧
    (d.commit ≠ .boundary → d.commit ≠ .reset → applyEntry s x = liveWrite x.id x.val.toNat s) := by
  refine ⟨fun hc => ?_, fun hc => ?_, fun hb hr => ?_⟩
  · simp [applyEntry, h, hc, waitWord]
  · simp [applyEntry, h, hc]
  · cases hc : d.commit <;> simp_all [applyEntry]

/-- Settles O13: outside a transaction the command is its two passes, and then either every entry or none. -/
theorem setParamChecksThenWrites : Obligations.SetParamChecksThenWrites := by
  refine ⟨fun e es s hh h1 h64 ht => ⟨fun hf => ⟨fun hp => ?_, fun i x st hp => ?_⟩, fun hf hp => ?_⟩, fun x d l s hd => ?_⟩
  · exact ⟨_, congrArg Host.Outcome.next (setParam_applies (ctl := false) hf hh ht ⟨h1, h64⟩ hp), lastKept_answer .., by simp,
      by simp, by simp, by simp, by simp⟩
  · exact ⟨_, congrArg Host.Outcome.next (setParam_names (ctl := false) hf hh ht ⟨h1, h64⟩ hp), lastKept_answer .., by simp,
      by simp, by simp⟩
  · exact ⟨_, congrArg Host.Outcome.next (setParam_applies (ctl := true) hf hh ht ⟨h1, h64⟩ hp), lastKept_answer .., by simp,
      by simp, by simp, by simp⟩
  · exact ⟨rfl, applyEntry_class s hd⟩

end Sys2Proof.Machine
end

section
/-! PROOFS. GET_PARAM (R349, R363). Settles O15. -/

namespace Sys2Proof.Machine
open Sys2Proof

/-- The parameter is a counter that READ_CLEAR clears. -/
def isW1cCnt (j : Nat) : Bool := match paramRow j with | some d => decide (d.acc = .w1cCnt) | none => false

/-- READ_CLEAR of one ID. -/
def readClearOne (s : State) (id : Nat) : State :=
  match paramRow id with
  | some d => if d.acc = .w1cCnt then clearCounter id s else s
  | none => s

theorem readClear_cons (id : Nat) (l : List Nat) (s : State) : readClear (id :: l) s = readClear l (readClearOne s id) := rfl

/-- Outside the gate ports clearing a counter writes its word alone. -/
theorem readClearOne_eq {id : Nat} (h : id < 0x0F00 ∨ 0x1140 ≤ id) (s : State) :
    readClearOne s id = if isW1cCnt id then setPar id 0 s else s := by
  have hoff : ¬ (0x0F00 ≤ id ∧ id < 0x1140 ∧ id % 16 = 0x0D) := by omega
  unfold readClearOne isW1cCnt
  split <;> simp [clearCounter, hoff]

/-- READ_CLEAR clears the counters it names and nothing else. -/
theorem readClear_frame {ids : List Nat} (h : ∀ i ∈ ids, i < 0x0F00 ∨ 0x1140 ≤ i) (s : State) :
    (∀ j, par (readClear ids s) j = if ids.contains j && isW1cCnt j then 0 else par s j) ∧
      (readClear ids s).planes = s.planes ∧ (readClear ids s).prt = s.prt := by
  induction ids generalizing s with
  | nil => exact ⟨fun j => rfl, rfl, rfl⟩
  | cons id l ih =>
    obtain ⟨hpar, hpl, hprt⟩ := ih (fun i hi => h i (List.mem_cons_of_mem _ hi)) (readClearOne s id)
    have hone := readClearOne_eq (h id List.mem_cons_self) s
    have hframe : (readClearOne s id).planes = s.planes ∧ (readClearOne s id).prt = s.prt := by
      rw [hone]
      split <;> exact ⟨rfl, rfl⟩
    refine ⟨fun j => ?_, hpl.trans hframe.1, hprt.trans hframe.2⟩
    have hj : par (readClearOne s id) j = if j = id ∧ isW1cCnt j = true then 0 else par s j := by
      rw [hone]
      by_cases hji : j = id
      · subst hji
        by_cases hc : isW1cCnt j = true <;> simp [hc, par_setPar_same]
      · by_cases hc : isW1cCnt id = true <;> simp [hc, hji, par_setPar_other _ _ hji]
    rw [readClear_cons, hpar, hj]
    cases isW1cCnt j
    · simp
    · by_cases hji : j = id
      · simp [hji]
      · simp [hji]

section
variable {e : Env} {ids : List Nat} {s : State}

theorem getParam_answer {st : Nat} {pl : List Byte} {t : State} (hf : Fresh 0x0100 9 e s) (hl : 1 ≤ ids.length ∧ ids.length ≤ 64)
    (hst : st ≠ stAccepted) (hb : getBody (e.flags.testBit 3) ids (acceptSeq e s) = (t, .now st pl)) :
    exec (.getParam e ids) s = .next (answer 2 0x0100 e st e.handle pl t) := by
  have hs := serve_now (cls := 2) (needs := fun _ => false) (body := fun _ => getBody (e.flags.testBit 3) ids) hf
    (fun h => absurd h Bool.false_ne_true) hb
  rw [if_neg hst] at hs
  refine congrArg Host.Outcome.next (Eq.trans ?_ hs)
  simp [getParam, withLength, hl]

/-- GET_PARAM of defined IDs answers their values. -/
theorem getParam_values (hf : Fresh 0x0100 9 e s) (hr : s.isl.recovery = false) (hl : 1 ≤ ids.length ∧ ids.length ≤ 64)
    (hu : firstUndefined 0 ids = none) : exec (.getParam e ids) s = .next (answer 2 0x0100 e stOk e.handle
      (le 2 ids.length ++ le 2 0 ++ ids.flatMap (getEntry (acceptSeq e s)))
      (if e.flags.testBit 3 then readClear ids (acceptSeq e s) else acceptSeq e s)) :=
  getParam_answer hf hl (by decide) (by simp [getBody, hr, hu])

/-- GET_PARAM of an undefined ID names it. -/
theorem getParam_undefined {i id : Nat} (hf : Fresh 0x0100 9 e s) (hr : s.isl.recovery = false)
    (hl : 1 ≤ ids.length ∧ ids.length ≤ 64) (hu : firstUndefined 0 ids = some (i, id)) :
    exec (.getParam e ids) s = .next (answer 2 0x0100 e stBadParam e.handle (le 2 i ++ le 2 id) (acceptSeq e s)) :=
  getParam_answer hf hl (by decide) (by simp [getBody, hr, hu])

end

/-- Settles O15: the reply is made before READ_CLEAR writes, which writes 0 to the counters that are named. -/
theorem getParamReads : Obligations.GetParamReads := by
  refine ⟨fun e ids s hf hr h1 h64 => ⟨fun hu h3 => ?_, fun i id hu => ?_⟩, fun e ids s hf hr h1 h64 hu h3 ho => ?_⟩
  · have hx := getParam_values hf hr ⟨h1, h64⟩ hu
    rw [if_neg (by simp [h3])] at hx
    exact ⟨_, hx, lastKept_answer .., by simp, by simp, by simp, by simp⟩
  · exact ⟨_, getParam_undefined hf hr ⟨h1, h64⟩ hu, lastKept_answer .., by simp, by simp⟩
  · have hx := getParam_values hf hr ⟨h1, h64⟩ hu
    rw [if_pos h3] at hx
    obtain ⟨hpar, hpl, hprt⟩ := readClear_frame ho (acceptSeq e s)
    exact ⟨_, hx, lastKept_answer .., fun j => (par_answer ..).trans (hpar j), by simp [hpl], by simp [hprt]⟩

end Sys2Proof.Machine
end

section
/-! PROOFS. HANDLE_QUERY (R347). Settles O21. -/

namespace Sys2Proof.Machine
open Sys2Proof

@[simp] theorem setChan_host_log (c : Chan) (k : ChanSt) (s : State) : (setChan c k s).host.log = s.host.log := by cases c <;> rfl

@[simp] theorem acceptSeq_host_log (e : Env) (s : State) : (acceptSeq e s).host.log = s.host.log := by
  have hs1 : ∀ b : Prop, [Decidable b] → (if b then count sysSeqGapCnt s else s).host.log = s.host.log := fun b _ => by
    split <;> rfl
  unfold acceptSeq
  dsimp only
  split <;> simp [hs1]

@[simp] theorem sendReply_host_log (c : Chan) (p : Packet) (s : State) : (sendReply c p s).host.log = s.host.log := by
  unfold sendReply
  split
  · rfl
  · cases c <;> rfl

@[simp] theorem answer_host_log (cls op : Nat) (e : Env) (st h : Nat) (pl : List Byte) (s : State) :
    (answer cls op e st h pl s).host.log = s.host.log := by simp [answer, keepReply]

theorem lastStatus_answer (cls op : Nat) (e : Env) (st h : Nat) (pl : List Byte) (s : State) :
    lastStatus (answer cls op e st h pl s) = lastStatus s := lastStatus_congr (answer_host_log ..)

theorem isQueued_acceptSeq (e : Env) (s : State) (h : Nat) : isQueued (acceptSeq e s) h = isQueued s h := by simp [isQueued]

/-- A fresh CONTROL command whose operation answers at once is answered on the state the operation leaves. -/
theorem serveShort_now {cls op : Nat} {e : Env} {body : State → State × Ans} {s t : State} {st : Nat} {pl : List Byte}
    (hf : Fresh op 1 e s) (hst : st ≠ stAccepted) (hb : body (acceptSeq e s) = (t, .now st pl)) :
    serveShort cls op e body s = answer cls op e st e.handle pl t :=
  (serve_now hf (fun h => absurd h Bool.false_ne_true) hb).trans (by rw [if_neg hst])

/-- HANDLE_QUERY answers and changes no handle and no lane. -/
theorem handleQuery_answered {e : Env} {h st : Nat} {pl : List Byte} {s : State} (hf : Fresh 0x0060 1 e s) (hst : st ≠ stAccepted)
    (hb : handleQuery h (acceptSeq e s) = (acceptSeq e s, .now st pl)) :
    ∃ t, exec (.handleQuery e h) s = .next t ∧ Answered 1 0x0060 e st e.handle pl t ∧ t.host.ops = s.host.ops ∧
      t.planes = s.planes :=
  ⟨_, congrArg Host.Outcome.next (serveShort_now hf hst hb), lastKept_answer .., by simp, by simp⟩

/-- Settles O21: the answer is the handle's place among the outstanding handles or in the completion log. -/
theorem handleQueryAnswers : Obligations.HandleQueryAnswers := by
  refine fun e h s hf => ⟨fun o ho => ?_, fun ho d hd => ?_, fun ho hd => ?_⟩
  · exact handleQuery_answered hf (by decide) (by simp [handleQuery, ho, isQueued_acceptSeq])
  · exact handleQuery_answered hf (by decide) (by simp [handleQuery, ho, hd])
  · exact handleQuery_answered hf (by decide) (by simp [handleQuery, ho, hd])

end Sys2Proof.Machine
end

section
/-! PROOFS. HANDLE_CANCEL and EVENTS_LOST (R344, R348, R361). Settles O22. -/

namespace Sys2Proof.Machine
open Sys2Proof

theorem tansyUp_acceptSeq {op fl : Nat} {e : Env} {s : State} (hf : Fresh op fl e s) : tansyUp (acceptSeq e s) = true := by
  obtain ⟨hv, -⟩ := hf
  simpa [tansyUp] using tansyUp_of_serving hv

theorem handle_of_findOp {s : State} {h : Nat} {o : Op} (ho : findOp s h = some o) : o.handle = h := by
  simpa using List.find?_some ho

/-! ## SELF_TEST (R361, R423) -/

@[simp] theorem ftInject_isl (s : State) : (ftInject s).isl = s.isl :=
  foldl_same (·.isl) _ (fun s x => by split <;> simp) _ s
@[simp] theorem ftInject_planes (s : State) : (ftInject s).planes = s.planes :=
  foldl_same (·.planes) _ (fun s x => by split <;> simp) _ s
@[simp] theorem ftInject_host_ops (s : State) : (ftInject s).host.ops = s.host.ops :=
  foldl_same (·.host.ops) _ (fun s x => by split <;> simp) _ s

/-- The end of a self-test: no test is under way, and its handle is completed. -/
theorem endSelfTest_ends {h m st : Nat} (c pass fail : Nat) {s : State} (hs : s.isl.selfTest = some (h, m))
    (ho : (findOp s h).isSome = true) (ht : tansyUp s = true) :
    (endSelfTest st c pass fail s).isl.selfTest = none ∧ findOp (endSelfTest st c pass fail s) h = none ∧
      lastStatus (endSelfTest st c pass fail s) = some st ∧ (endSelfTest st c pass fail s).planes = s.planes := by
  simp only [endSelfTest, hs]
  set s1 := if (pass + fail).testBit 6 = true then ftInject s else s with hs1
  have h1 : s1.isl = s.isl ∧ s1.planes = s.planes ∧ s1.host.ops = s.host.ops := by
    rw [hs1]
    split <;> simp
  obtain ⟨hisl, hpl, hops⟩ := h1
  set s2 := showTests pass fail { s1 with isl := { s1.isl with selfTest := none } }
  have ht2 : tansyUp s2 = true := by
    show (s1.isl.sys && !s1.isl.restart) = true
    rw [hisl]
    exact ht
  have ho2 : (findOp s2 h).isSome = true := by rwa [findOp_congr (show s2.host.ops = s.host.ops from hops)]
  refine ⟨by simp [s2, showTests], findOp_complete_same _ _ _ _ _ ht2, lastStatus_complete _ _ _ ho2 ht2, ?_⟩
  rw [complete_planes]
  exact hpl

theorem cancelSelfTest_ends {h m : Nat} (c : Nat) {s : State} (hs : s.isl.selfTest = some (h, m)) (ho : (findOp s h).isSome = true)
    (ht : tansyUp s = true) :
    (cancelSelfTest c s).isl.selfTest = none ∧ findOp (cancelSelfTest c s) h = none ∧
      lastStatus (cancelSelfTest c s) = some stCancelled ∧ (cancelSelfTest c s).planes = s.planes := by
  simp only [cancelSelfTest, hs]
  exact endSelfTest_ends _ _ _ hs ho ht

/-! ## PLANE_ARM (R361) -/

/-- Nothing of the plane goes by the handle. -/
structure NotOf (h : Nat) (l : Lane) : Prop where
  arming : l.arming ≠ some h
  queued : ∀ x ∈ l.queued, x.1 ≠ h
  clearing : ∀ x ∈ l.clearPend, x.2 ≠ h

theorem cancelPlane_notOf {h : Nat} {p : Plane} {s : State} (c : Nat) (hn : NotOf h (lane s p)) : cancelPlane h c p s = s := by
  have hq : ((lane s p).queued.any fun q => decide (q.1 = h)) = false := by simpa using fun a b hx => hn.queued (a, b) hx
  have hc : ((lane s p).clearPend.any fun q => q.1.isNone && decide (q.2 = h)) = false := by
    simpa using fun a b hx _ => hn.clearing (a, b) hx
  simp [cancelPlane, hq, hc, hn.arming]

/-- The arming of a plane with nothing queued ends with its supplies off. -/
theorem cancelPlane_arming {h : Nat} {p : Plane} {s : State} (c : Nat) (ha : (lane s p).arming = some h) (hq : (lane s p).queued = [])
    (hc : (lane s p).clearPend = []) : cancelPlane h c p s =
      complete h stCancelled c [] (settle false 0 (suppliesOff p (updLane p (fun l => { l with arming := none }) s))) := by
  simp only [cancelPlane, hq, hc, ha, List.any_nil, Bool.false_eq_true, if_false, if_true]
  refine drainQueue_empty ?_
  have hlane : lane (complete h stCancelled c [] (settle false 0 (suppliesOff p (updLane p (fun l => { l with arming := none }) s)))) p
      = { lane s p with arming := none } := by
    rw [lane_congr (s := updLane p (fun l => { l with arming := none }) s) (by simp) p, lane_updLane_same]
  rw [hlane]
  exact hq

/-- What the cancellation of an arming leaves. -/
structure ArmCancelled (h : Nat) (p : Plane) (s t : State) : Prop where
  arming : (lane t p).arming = none
  handle : findOp t h = none
  status : lastStatus t = some stCancelled
  supplies : t.prt.supOn = s.prt.supOn &&& ~~~planeMask p
  others : OtherLanes p s t

theorem cancelPlane_cancels {h : Nat} {p : Plane} {s : State} (c : Nat) (ha : (lane s p).arming = some h)
    (hq : (lane s p).queued = []) (hc : (lane s p).clearPend = []) (ho : (findOp s h).isSome = true) (ht : tansyUp s = true) :
    ArmCancelled h p s (cancelPlane h c p s) := by
  rw [cancelPlane_arming c ha hq hc]
  set u := settle false 0 (suppliesOff p (updLane p (fun l => { l with arming := none }) s)) with hu
  have hpl : u.planes = (updLane p (fun l => { l with arming := none }) s).planes := by simp [hu]
  have htu : tansyUp u = true := by simpa [hu, tansyUp] using ht
  have hou : (findOp u h).isSome = true := by rwa [findOp_congr (show u.host.ops = s.host.ops by simp [hu])]
  refine ⟨?_, findOp_complete_same _ _ _ _ _ htu, lastStatus_complete _ _ _ hou htu, ?_, fun q hq => ?_⟩
  · rw [lane_congr (complete_planes ..), lane_congr hpl, lane_updLane_same]
  · rw [complete_prt]
    simp [hu, suppliesOff]
  · rw [lane_congr (complete_planes ..), lane_congr hpl, lane_updLane_other _ _ hq]

/-- Over the four planes only the plane that arms under the handle is touched. -/
theorem eachPlane_cancels {h : Nat} {p : Plane} {s : State} (c : Nat) (ha : (lane s p).arming = some h)
    (hq : (lane s p).queued = []) (hc : (lane s p).clearPend = []) (hn : ∀ q, q ≠ p → NotOf h (lane s q))
    (ho : (findOp s h).isSome = true) (ht : tansyUp s = true) : ArmCancelled h p s (eachPlane (cancelPlane h c) s) := by
  refine eachPlane_own (Q := fun t => t = s) (V := ArmCancelled h p s) (p := p) ?_ ?_ ?_ rfl
  · rintro q t hqp rfl
    exact cancelPlane_notOf c (hn q hqp)
  · rintro t rfl
    exact cancelPlane_cancels c ha hq hc ho ht
  · intro q t hqp hv
    rw [cancelPlane_notOf c (by rw [hv.others q hqp]; exact hn q hqp)]
    exact hv

/-! ## HANDLE_CANCEL (R348) -/

theorem cancelable_of_noStop {o : Op} {s : State} (h1 : o.opcode ≠ 0x0122) (h2 : o.opcode ≠ 0x0131) (h3 : o.opcode ≠ 0x0140)
    (hs : ∀ p, (lane s p).stopping ≠ some o.handle) : cancelable o s = true := by
  simp [cancelable, h1, h2, h3, hs, List.any_eq_false]

theorem not_cancelable {o : Op} {s : State}
    (h : o.opcode = 0x0122 ∨ (o.opcode = opStop ∧ ∃ p, (lane s p).stopping = some o.handle)) : cancelable o s = false := by
  rcases h with h | ⟨h, p, hp⟩
  · simp [cancelable, h]
  · simp only [cancelable, h]
    have hany : (allPlanes.any fun p => (lane s p).stopping == some o.handle) = true :=
      List.any_eq_true.2 ⟨p, by cases p <;> decide, by simp [hp]⟩
    simp [hany]

theorem handleCancel_done {e : Env} {h : Nat} {o : Op} {s : State} (hf : Fresh 0x0061 1 e s) (ho : findOp s h = some o)
    (hc : cancelable o (acceptSeq e s) = true) :
    exec (.handleCancel e h) s = .next (answer 1 0x0061 e stOk e.handle [] (cancelOp o cHost (acceptSeq e s))) :=
  congrArg Host.Outcome.next (serveShort_now hf (by decide) (by simp [handleCancel, ho, hc]))

theorem handleCancel_refused {e : Env} {h st : Nat} {s : State} (hf : Fresh 0x0061 1 e s) (hst : st ≠ stAccepted)
    (hb : handleCancel h (acceptSeq e s) = refuse st (acceptSeq e s)) :
    ∃ t, exec (.handleCancel e h) s = .next t ∧ Answered 1 0x0061 e st e.handle [] t ∧ t.host.ops = s.host.ops ∧
      t.planes = s.planes ∧ t.prt = s.prt :=
  ⟨_, congrArg Host.Outcome.next (serveShort_now hf hst hb), lastKept_answer .., by simp, by simp, by simp⟩

/-! ## EVENTS_LOST (R344) -/

theorem length_le (n w : Nat) : (le n w).length = n := by
  induction n generalizing w with
  | zero => rfl
  | succ n ih => simp [le, ih]

/-- The report of the discarded events is the last packet of the queue. -/
theorem eventsLost_reports {s : State} (hs : s.isl.sys = true) (hl : 0 < s.host.lost) (hr : s.host.out.length < 64) :
    eventsLost s = updHost (fun h => { h with
      lost := 0, out := h.out ++ [{ eventPacket s 1 0x00F0 0 0 0 (le 4 s.host.lost) with seq := h.spi.evSeq }],
      spi := { h.spi with evSeq := (h.spi.evSeq + 1) % 65536 } }) s := by
  have hne : s.host.lost ≠ 0 := by omega
  have hr' : (updHost (fun h => { h with lost := 0 }) s).host.out.length < 64 := hr
  simp only [eventsLost, hs, hne, hr, ne_eq, not_false_eq_true, and_self, if_true, pushSpi, if_pos hr']
  rfl

/-- Settles O22: a handle that can be cancelled goes with its operation, any other stays, and discarded events are reported once. -/
theorem cancelsAndLostEvents : Obligations.CancelsAndLostEvents := by
  refine ⟨fun e h o s hf ho => ?_, fun e h s hf ho => ?_, fun s hs hl hr => ?_, fun s hl => ?_⟩
  · have ht := tansyUp_acceptSeq hf
    have hh := handle_of_findOp ho
    have hsome : (findOp (acceptSeq e s) h).isSome = true := by simp [ho]
    refine ⟨fun m hop htest hstop => ?_, fun p hop ha hq hc hstop hn => ?_, fun hop => ?_⟩
    · have hc : cancelable o (acceptSeq e s) = true :=
        cancelable_of_noStop (by simp [hop]) (by simp [hop]) (by simp [hop]) (by simpa [hh] using hstop)
      obtain ⟨h1, h2, h3, h4⟩ := cancelSelfTest_ends (h := h) (m := m) cHost (s := acceptSeq e s) (by simpa using htest) hsome ht
      have hx : cancelOp o cHost (acceptSeq e s) = cancelSelfTest cHost (acceptSeq e s) := by simp [cancelOp, hop, opTestExit]
      refine ⟨_, handleCancel_done hf ho hc, lastKept_answer .., ?_⟩
      rw [hx]
      refine ⟨by simpa using h1, by simpa using h2, (lastStatus_answer ..).trans h3, by simpa using h4⟩
    · have hcan : cancelable o (acceptSeq e s) = true :=
        cancelable_of_noStop (by simp [hop]) (by simp [hop]) (by simp [hop]) (by simpa [hh] using hstop)
      have hx : cancelOp o cHost (acceptSeq e s) = eachPlane (cancelPlane h cHost) (acceptSeq e s) := by
        simp [cancelOp, hop, hh, opArm, opTestExit]
      have hcan' := eachPlane_cancels (h := h) (p := p) (s := acceptSeq e s) cHost (by simpa using ha) (by simpa using hq)
        (by simpa using hc) (fun q hqp => by
          obtain ⟨h1, h2, h3⟩ := hn q hqp
          exact ⟨by simpa using h1, by simpa using h2, by simpa using h3⟩) hsome ht
      refine ⟨_, handleCancel_done hf ho hcan, lastKept_answer .., ?_⟩
      rw [hx]
      refine ⟨by simpa using hcan'.arming, by simpa using hcan'.handle, (lastStatus_answer ..).trans hcan'.status,
        by simpa using hcan'.supplies, fun q hqp => ?_⟩
      simpa using hcan'.others q hqp
    · have hc : cancelable o (acceptSeq e s) = false := not_cancelable (by simpa [hh] using hop)
      exact handleCancel_refused hf (by decide) (by simp [handleCancel, ho, hc])
  · refine handleCancel_refused hf (by split <;> decide) ?_
    simp only [handleCancel, findOp_acceptSeq, ho, acceptSeq_host_log]
    split <;> rfl
  · refine ⟨_, rfl, ?_⟩
    rw [eventsLost_reports hs hl hr]
    simp [updHost, eventPacket, length_le]
  · simp [exec, execEventsLost, eventsLost, hl]

end Sys2Proof.Machine
end

section
/-! PROOFS. Transactions: how one opens and ends (R353), is prepared and committed (R355, R356, R358, R359). Settles O23 and O24. -/

namespace Sys2Proof.Machine
open Sys2Proof

/-! ## The end of a transaction (R353) -/

/-- What the end of a transaction leaves: no transaction, its handle completed, and the table with the pointers as they were. -/
structure TxnEnded (x : Txn) (st : Nat) (s t : State) : Prop where
  txn : t.txn = none
  handle : findOp t x.handle = none
  status : lastStatus t = some st
  tiles : t.rgt.tiles = s.rgt.tiles
  ptr : t.rgt.ptr = s.rgt.ptr
  planes : t.planes = s.planes
  wait : t.wait = s.wait

theorem endTxn_ends {x : Txn} {st : Nat} {s : State} (c : Nat) (r : List Byte) (hx : s.txn = some x)
    (ho : (findOp s x.handle).isSome = true) (ht : tansyUp s = true) : TxnEnded x st s (endTxn st c r s) := by
  have he : endTxn st c r s = complete x.handle st c r { freeSpares x s with txn := none } := by simp [endTxn, hx]
  rw [he]
  exact ⟨by simp, findOp_complete_same _ _ _ _ _ ht, lastStatus_complete _ _ _ ho ht, by simp [freeSpares], by simp [freeSpares],
    by simp [freeSpares], by simp [freeSpares]⟩

/-- The reply to the command that ends a transaction leaves that end as it is. -/
theorem TxnEnded.at_answer {x : Txn} {st : Nat} {s t : State} (h : TxnEnded x st s t) (cls op : Nat) (e : Env) (a k : Nat)
    (pl : List Byte) : TxnEnded x st s (answer cls op e a k pl t) :=
  ⟨by simpa using h.txn, by simpa using h.handle, (lastStatus_answer ..).trans h.status, by simpa using h.tiles,
    by simpa using h.ptr, by simpa using h.planes, by simpa using h.wait⟩

/-- A command on the transaction that its handle names, in a state its row permits. -/
theorem onTxn_named {e : Env} {ok : TxnState → Bool} {f : Txn → State → State × Ans} {x : Txn} {s : State} (hx : s.txn = some x)
    (hh : x.handle = e.handle) (hok : ok x.st = true) : onTxn e ok f s = f x s := by simp [onTxn, hx, hh, hok]

/-! ## TXN_OPEN, TXN_ABORT and TXN_TIMEOUT (R353) -/

/-- The operation of TXN_OPEN. -/
def openTxn (e : Env) (h : Nat) (s : State) : State × Ans :=
  if s.txn.isSome then refuse stBusy s
  else accepted opTxn e (fun s => { s with txn := some { handle := h, seqT := e.flags.testBit 1 } }) s

theorem exec_txnOpen (e : Env) (s : State) :
    exec (.txnOpen e) s = .next (serve 2 opTxn e 3 (fun _ => true) (openTxn e) s) := rfl

theorem switchDue_acceptSeq (x : Txn) (e : Env) (s : State) : switchDue x (acceptSeq e s) = switchDue x s := by
  rw [switchDue, sampleK_acceptSeq, switchDue]

/-- Before k_c an abort ends the transaction with CANCELLED. -/
theorem abortTxn_before {x : Txn} {s : State} (hx : s.txn = some x)
    (h : x.st ≠ .committing ∨ (x.grp = 0 ∧ x.ctlDone = false ∧ switchDue x s = false)) :
    abortTxn s = endTxn stCancelled cHost [] s := by
  simp only [abortTxn, hx]
  split
  · rfl
  · rename_i hst
    obtain ⟨hg, hd, hs⟩ := h.resolve_left hst
    simp [hg, hd, hs]

/-- Settles O23: what ends is the transaction with its handle; what it staged goes with it. -/
theorem transactionsOpenAndEnd : Obligations.TransactionsOpenAndEnd := by
  refine ⟨fun e s hf hr => ⟨fun hx => ?_, fun x hx => ?_⟩, fun e x o s hf hx hh ho hst => ?_, fun x s hx =>
    ⟨fun o hst ht ho => ?_, fun hst => ?_⟩⟩
  · have hb : openTxn e (nextHandle s) (acceptSeq e s) = ({ allocHandle opTxn e.chan (acceptSeq e s) with
        txn := some { handle := nextHandle s, seqT := e.flags.testBit 1 } }, say stAccepted) := by simp [openTxn, hx, accepted]
    have hfind := findOp_allocHandle opTxn e.chan (acceptSeq e s) (by simpa [Room] using hr)
    rw [nextHandle_acceptSeq] at hfind
    exact ⟨_, (exec_txnOpen e s).trans (congrArg Host.Outcome.next (serve_now (st := stAccepted) hf (fun _ => hr) hb)),
      ⟨lastKept_answer .., (findOp_answer ..).trans hfind⟩, by simp, by simp, by simp, by simp⟩
  · have hb : openTxn e (nextHandle s) (acceptSeq e s) = refuse stBusy (acceptSeq e s) := by simp [openTxn, hx]
    exact ⟨_, (exec_txnOpen e s).trans (congrArg Host.Outcome.next (serve_now (st := stBusy) hf (fun _ => hr) hb)),
      lastKept_answer .., by simp⟩
  · have ha := abortTxn_before (s := acceptSeq e s) (by simpa using hx) (by simpa [switchDue_acceptSeq] using hst)
    have he := endTxn_ends (x := x) (st := stCancelled) (s := acceptSeq e s) cHost [] (by simpa using hx) (by simp [ho])
      (tansyUp_acceptSeq hf)
    rw [← ha] at he
    have he' := he.at_answer 2 0x0113 e stOk e.handle []
    exact ⟨_, congrArg Host.Outcome.next (serveShort_now hf (by decide) (onTxn_named (by simpa using hx) hh rfl)),
      lastKept_answer .., he'.txn, he'.handle, he'.status, by simpa using he'.tiles, by simpa using he'.ptr,
      by simpa using he'.planes, by simpa using he'.wait⟩
  · have he := endTxn_ends (st := stCancelled) cTimeout [] hx (by simp [ho]) ht
    exact ⟨endTxn stCancelled cTimeout [] s, by simp [exec, execTxnTimeout, txnTimeout, hx, hst], he.txn, he.handle, he.status,
      he.ptr, he.planes, he.wait⟩
  · simp [exec, execTxnTimeout, txnTimeout, hx, hst]

/-! ## PREPARED and TXN_COMMIT (R355, R356, R358) -/

theorem preparedEvent_frame (x : Txn) (id i st : Nat) (s : State) : (preparedEvent x id i st s).txn = s.txn ∧
    (preparedEvent x id i st s).rgt = s.rgt ∧ (preparedEvent x id i st s).planes = s.planes ∧
    (preparedEvent x id i st s).isl = s.isl ∧ (preparedEvent x id i st s).host.ops = s.host.ops := by
  unfold preparedEvent
  split <;> simp

/-- The copies of a group go to the lowest spares; the tiles in force stay where the pointers say. -/
theorem copyGroup_frame {x : Txn} {s : State} (g : Nat) (hx : s.txn = some x) :
    (copyGroup g s).txn = some { x with copies := ((x.tiles.filter fun i => decide (i.1 = g)).map fun i => i.2.1).zip s.rgt.spares } ∧
      (copyGroup g s).rgt.ptr = s.rgt.ptr ∧ (copyGroup g s).planes = s.planes := by
  have hptr : ∀ (l : List ((Nat × Nat × List Byte) × Nat)) (u : State),
      (l.foldl (fun s x => putTile x.2 (imageTile x.1.2.2) s) u).rgt.ptr = u.rgt.ptr :=
    foldl_same (·.rgt.ptr) _ (fun u y => rfl)
  have hpl : ∀ (l : List ((Nat × Nat × List Byte) × Nat)) (u : State),
      (l.foldl (fun s x => putTile x.2 (imageTile x.1.2.2) s) u).planes = u.planes :=
    foldl_same (·.planes) _ (fun u y => rfl)
  simp only [copyGroup, hx]
  exact ⟨rfl, hptr _ _, hpl _ _⟩

/-- A failed check ends the transaction with its status. -/
theorem prepared_fails {x : Txn} {f : Nat × Nat} {s : State} (hx : s.txn = some x) (hst : x.st = .preparing)
    (hb : prepareBad x s = some f) (ho : (findOp s x.handle).isSome = true) (ht : tansyUp s = true) :
    TxnEnded x f.2 s (prepared s) := by
  simp only [prepared, hx, hst, ne_eq, not_true_eq_false, if_false, hb]
  set u := preparedEvent x f.1 (if f.1 = 0 then 0 else islandNo (islandOf f.1)) f.2 s with hu
  obtain ⟨htxn, hrgt, hpl, hisl, hops⟩ := preparedEvent_frame x f.1 (if f.1 = 0 then 0 else islandNo (islandOf f.1)) f.2 s
  rw [← hu] at htxn hrgt hpl hisl hops
  have hw : u.wait = s.wait := by
    rw [hu]
    unfold preparedEvent
    split <;> simp
  have he := endTxn_ends (x := x) (st := f.2) (s := u) cNone [] (htxn.trans hx) (by rwa [findOp_congr hops])
    (by simpa [tansyUp, hisl] using ht)
  exact ⟨he.txn, he.handle, he.status, he.tiles.trans (congrArg Rgt.tiles hrgt), he.ptr.trans (congrArg Rgt.ptr hrgt),
    he.planes.trans hpl, he.wait.trans hw⟩

/-- The operation of TXN_COMMIT. -/
def commitTxn (k : Nat) (x : Txn) (s : State) : State × Ans :=
  let c := if k = 0 then boundaryAhead s else k
  if commitStatus x c s ≠ stOk then refuse (commitStatus x c s) s
  else ({ s with txn := some { x with st := .committing, kc := c, due := c } }, .now stOk (le 8 c))

theorem exec_txnCommit (e : Env) (k : Nat) (s : State) :
    exec (.txnCommit e k) s = .next (serveShort 2 0x0112 e (onTxn e (· == .prepared) (commitTxn k)) s) := rfl

/-- Settles O24: each command is its operation on the transaction it names, and PREPARED its checks with the copies of group 0. -/
theorem transactionsPrepareAndCommit : Obligations.TransactionsPrepareAndCommit := by
  refine ⟨fun e x s hf hx hh hst hg => ?_, fun x s hx hst => ⟨fun hb => ?_, fun f hb ht o ho => ?_⟩,
    fun e x k c s hf hx hh hst hc hk => ?_⟩
  · refine ⟨_, congrArg Host.Outcome.next (serveShort_now (st := stOk) (pl := [])
      (t := { acceptSeq e s with txn := some { x with st := .preparing } }) hf (by decide)
      ((onTxn_named (by simpa using hx) hh (by simp [hst])).trans (if_pos hg))), lastKept_answer .., by simp, by simp, by simp⟩
  · have hp : prepared s = preparedEvent x 0 0xFF stOk (copyGroup 0 { s with txn := some { x with st := .prepared } }) := by
      simp [prepared, hx, hst, hb]
    obtain ⟨hc1, hc2, hc3⟩ := copyGroup_frame (x := { x with st := .prepared }) (s := { s with txn := some { x with st := .prepared } })
      0 rfl
    obtain ⟨ht1, ht2, ht3, -, -⟩ := preparedEvent_frame x 0 0xFF stOk (copyGroup 0 { s with txn := some { x with st := .prepared } })
    refine ⟨_, _, congrArg Host.Outcome.next hp, ht1.trans hc1, rfl, rfl, rfl, rfl, ?_, ht3.trans hc3⟩
    rw [ht2, hc2]
  · have he := prepared_fails hx hst hb (by simp [ho]) ht
    exact ⟨_, rfl, he.txn, he.handle, he.status, he.ptr, he.planes⟩
  · have hb : commitTxn k x (acceptSeq e s) =
        ({ acceptSeq e s with txn := some { x with st := .committing, kc := c, due := c } }, .now stOk (le 8 c)) := by
      simp [commitTxn, ← hc, hk]
    exact ⟨_, (exec_txnCommit e k s).trans (congrArg Host.Outcome.next (serveShort_now hf (by decide)
      ((onTxn_named (by simpa using hx) hh (by simp [hst])).trans hb))), lastKept_answer .., by simp, by simp, by simp⟩

end Sys2Proof.Machine
end

section
/-! The refutation of O25. -/

namespace Sys2Proof.Machine
open Sys2Proof

theorem exec_txnSwitch_first {x : Txn} {s : State} (hx : s.txn = some x) (h0 : x.grp = 0) :
    exec .txnSwitch s = .next (txnSwitch s) := by simp [exec, execTxnSwitch, hx, h0]

/-- A transaction at its k_c with one staged word: GO_COLD (R367). -/
def coldTxn : Txn := { handle := 263, st := .committing, entries := [{ id := redCtrl, val := 1 }] }

/-- The transaction is COMMITTING under its handle, ISL_CTL runs and Tansy works. -/
def goesCold : State :=
  { isl := { ctl := true, sys := true, sysUp := true }, txn := some coldTxn,
    host := { ops := [{ handle := 263, opcode := opTxn, chan := .spi }] } }

theorem goesCold_due : switchDue coldTxn goesCold = true ∧ missing coldTxn goesCold = [] ∧ lastGroup coldTxn ≤ coldTxn.grp ∧
    tansyUp goesCold = true ∧ (findOp goesCold 263).isSome = true := by decide +kernel

/-- The switch powers ISL_SYS down with its handles, so that no completion is logged. -/
theorem lastStatus_goesCold : lastStatus (txnSwitch goesCold) = none := by decide +kernel

/-- Refutes O25: a staged GO_COLD takes effect at the switch and powers down the islands with the outstanding handles (R367), so that
the transaction does not complete with OK after its last group, as the statement has it for every staged word. -/
theorem not_transactionsSwitch : ¬ Obligations.TransactionsSwitch := by
  unfold Obligations.TransactionsSwitch
  rintro ⟨hswitch, -⟩
  obtain ⟨hdue, hmiss, hlg, hup, hop⟩ := goesCold_due
  obtain ⟨o, ho⟩ := Option.isSome_iff_exists.1 hop
  obtain ⟨hat, -, -⟩ := hswitch coldTxn goesCold rfl rfl
  obtain ⟨t, ht, -, -, -, -, -, -, hend, -⟩ := hat hdue rfl hmiss rfl
  rw [if_pos (show coldTxn.grp = 0 from rfl), exec_txnSwitch_first (show goesCold.txn = some coldTxn from rfl) rfl] at ht
  have he : txnSwitch goesCold = t := Host.Outcome.next.inj ht
  obtain ⟨-, -, hlast⟩ := hend o hlg hup ho
  rw [← he, lastStatus_goesCold] at hlast
  exact absurd hlast (by decide)

end Sys2Proof.Machine
end

section
/-! PROOFS. The four frames of the HOST port (R324, R325, R344). Settles O29. -/

namespace Sys2Proof.Machine
open Sys2Proof

/-! ## PACKET_WRITE (R324) -/

/-- Every host command answers a next state. -/
theorem hostCommand_next (op : Nat) (e : Env) (pl : List Byte) (s : State) : ∃ t, hostCommand op e pl s = .next t := by
  unfold hostCommand
  split
  case h_31 =>
    split
    · exact ⟨_, rfl⟩
    · exact ⟨_, rfl⟩
  all_goals exact ⟨_, rfl⟩

/-- The state that a PACKET_WRITE frame has begun on: IN_READY as it stood, and HWIN_STATUS on MISO. -/
def frameBegun (ready : Bool) (b : List Byte) (s : State) : State :=
  miso (b.map fun _ => 0) (updHost (fun h => { h with inReady := ready }) s)

theorem packetWrite_eq (ready : Bool) (b : List Byte) {s : State} (hp : s.isl.prt = true) : packetWrite ready b s =
    if ready then (if isCommand b then takePacket b (frameBegun ready b s) else frameBegun ready b s)
    else updHost (fun h => { h with irq := h.irq ||| 0x20 })
      (if isCommand b then decoderAlone b (frameBegun ready b s) else frameBegun ready b s) := by
  simp [packetWrite, hp, frameBegun]

/-- A packet whose head checks hold and that is not URGENT is served as its command. -/
theorem takePacket_served {b : List Byte} {s : State} (hh : headStatus b = stOk) (hc : fieldAt b 3 1 % 4 ≠ 0) :
    .next (takePacket b s) = hostCommand (fieldAt b 4 2) (envOf b) (payloadOf b) s := by
  obtain ⟨t, ht⟩ := hostCommand_next (fieldAt b 4 2) (envOf b) (payloadOf b) s
  simp [takePacket, hh, hc, ht]

section
variable {b : List Byte} {s : State} {p : Plane}

/-- An URGENT STOP of one plane that the decoder of ISL_PRT takes. -/
structure StopPacket (b : List Byte) (p : Plane) : Prop where
  head : headStatus b = stOk
  cls : fieldAt b 3 1 % 4 = 0
  resv : kindResv b = 0
  op : fieldAt b 4 2 = opUStop
  flags : fieldAt b 14 1 = 0
  pay : urgentPay (payloadOf b) = { b0 := 2 ^ p.code }

theorem StopPacket.taken (h : StopPacket b p) : takePacket b s = urgent opUStop (envOf b) { b0 := 2 ^ p.code } s := by
  simp [takePacket, h.head, h.cls, h.resv, h.op, h.pay]

theorem StopPacket.decoded (h : StopPacket b p) : decoderAlone b s = urgentTake opUStop (envOf b) { b0 := 2 ^ p.code } s := by
  have hu : uFits opUStop (envOf b) { b0 := 2 ^ p.code } s = true := uFits_one p rfl h.flags (fun _ => rfl) (by simp)
  simp [decoderAlone, h.head, h.cls, h.resv, h.op, h.pay, hu]

/-- The decoder's work alone takes the plane to SAFE with the cause of STOP. -/
theorem urgentTake_stop (e : Env) (hp : s.isl.prt = true) (ha : activeSt (lane s p).st = true) :
    (lane (urgentTake opUStop e { b0 := 2 ^ p.code } s) p).st = .safe ∧
      par (urgentTake opUStop e { b0 := 2 ^ p.code } s) (protSafeCause p.code) = 0x0E ∧
      OtherLanes p s (urgentTake opUStop e { b0 := 2 ^ p.code } s) := by
  obtain ⟨w, hw⟩ := urgentTake_eq opUStop e { b0 := 2 ^ p.code } s
  have hA : uAct opUStop (uMask { b0 := 2 ^ p.code }) s = enterSafe p 0x0E 0 s := by
    simp only [uMask_one, uAct, targets_one ha]
    exact causeAt_active 0x0E 0 hp ha
  rw [hw, hA]
  exact ⟨enterSafe_st p 0x0E 0 s, par_enterSafe_cause p 0x0E 0 s (by decide), fun q hq => lane_enterSafe_other 0x0E 0 s hq⟩

/-- Whether or not IN_READY is 1, the packet takes its plane to SAFE. -/
theorem StopPacket.stops (h : StopPacket b p) (r : Bool) (hc : isCommand b = true) (hp : s.isl.prt = true) (hs : s.isl.sys = true)
    (ha : activeSt (lane s p).st = true) : (lane (packetWrite r b s) p).st = .safe ∧
      par (packetWrite r b s) (protSafeCause p.code) = 0x0E ∧ OtherLanes p s (packetWrite r b s) := by
  rw [packetWrite_eq r b hp, hc]
  cases r
  case true =>
    have ht := taken_stop (e := envOf b) (p := p) (s := frameBegun true b s) hp hs ha rfl h.flags
    simp only [if_true, h.taken]
    exact ⟨ht.st, ht.cause, ht.others⟩
  case false =>
    simp only [Bool.false_eq_true, if_false, if_true, h.decoded]
    exact urgentTake_stop (s := frameBegun false b s) (envOf b) hp ha

end

/-! ## PACKET_READ (R324, R344) -/

theorem packetRead_head {p : Packet} {l : List Packet} {s : State} (n : Nat) (hp : s.isl.prt = true) (ho : s.host.out = p :: l) :
    packetRead n s = if (packetBytes p).length ≤ n then updHost (fun h => { h with out := l }) (miso (padTo n (packetBytes p)) s)
      else miso (padTo n (packetBytes p)) s := by simp [packetRead, hp, ho]

/-! ## The window (R325) -/

theorem windowRead_assigned {a v : Nat} {s : State} (hp : s.isl.prt = true) (hv : hwinRead s a = some v) :
    windowRead a s = miso (le 4 v ++ le 4 (crc32c (le 1 a ++ le 4 v))) s := by simp [windowRead, hp, hv]

theorem windowRead_unassigned {a : Nat} {s : State} (hp : s.isl.prt = true) (hv : hwinRead s a = none) :
    windowRead a s = winErr (miso (le 4 0 ++ le 4 (crc32c (le 1 a ++ le 4 0))) s) := by simp [windowRead, hp, hv]

theorem windowWrite_badCrc {a v c : Nat} {s : State} (hp : s.isl.prt = true) (hc : crc32c ([0xC3] ++ le 1 a ++ le 4 v) ≠ c) :
    windowWrite a v c s = winErr (miso (List.replicate 6 0) s) := by
  unfold windowWrite
  rw [if_neg (by simp [hp]), if_neg hc]

theorem windowWrite_irqEn {v c : Nat} {s : State} (hp : s.isl.prt = true) (hc : crc32c ([0xC3] ++ le 1 3 ++ le 4 v) = c) :
    windowWrite 3 v c s = updHost (fun h => { h with irqEn := BitVec.ofNat 6 v }) (miso (List.replicate 6 0) s) := by
  unfold windowWrite
  rw [if_neg (by simp [hp]), if_pos hc]
  rfl

/-- A frame to a powered module whose ISL_PRT is stopped has no effect. -/
theorem frames_stopped {s : State} (hp : s.isl.prt = false) (ha : alive s = true) (r : Bool) (b : List Byte) (a v c : Nat) :
    packetWrite r b s = s ∧ packetRead a s = s ∧ windowRead a s = s ∧ windowWrite a v c s = s := by
  simp [packetWrite, packetRead, windowRead, windowWrite, misoOnes, hp, ha]

/-- Settles O29: each frame of SPI by what its type gives. -/
theorem spiFrames : Obligations.SpiFrames := by
  refine ⟨fun b s hp hc hh => ⟨fun hcls => ?_, fun p r hcls hk hop hfl hpay hs ha => ?_⟩, fun b s hp hc => ⟨?_, ?_⟩,
    fun p l n s hp ho => ?_, fun a s hp => ?_, fun a v c s hp => ⟨fun hc => ?_, fun hc => ?_⟩, fun a v c r b s hp ha => ?_⟩
  · rw [← takePacket_served hh hcls]
    refine congrArg Host.Outcome.next ((packetWrite_eq true b hp).trans ?_)
    rw [if_pos rfl, if_pos hc]
    rfl
  · exact ⟨_, rfl, StopPacket.stops ⟨hh, hcls, hk, hop, hfl, hpay⟩ r hc hp hs ha⟩
  · refine ⟨_, rfl, ?_⟩
    rw [packetWrite_eq false b hp, hc]
    exact ⟨rfl, rfl, rfl⟩
  · refine ⟨_, rfl, ?_⟩
    rw [packetWrite_eq true b hp, hc]
    exact ⟨rfl, rfl, rfl⟩
  · refine ⟨_, rfl, ?_⟩
    rw [packetRead_head n hp ho]
    split
    · exact ⟨rfl, rfl, rfl, rfl⟩
    · exact ⟨rfl, ho, rfl, rfl⟩
  · refine ⟨_, rfl, ?_⟩
    cases hv : hwinRead s a with
    | some v =>
      rw [windowRead_assigned hp hv]
      exact ⟨rfl, rfl, fun w hw => Option.some.inj hw ▸ ⟨rfl, rfl⟩, fun hn => absurd hn (by simp)⟩
    | none =>
      rw [windowRead_unassigned hp hv]
      exact ⟨rfl, rfl, fun w hw => absurd hw (by simp), fun _ => rfl⟩
  · refine ⟨_, rfl, ?_⟩
    rw [windowWrite_badCrc hp hc]
    exact ⟨rfl, rfl, rfl, rfl, rfl⟩
  · refine ⟨_, rfl, ?_⟩
    rw [windowWrite_irqEn hp hc]
    exact ⟨rfl, rfl, rfl, rfl⟩
  · obtain ⟨h1, h2, h3, h4⟩ := frames_stopped hp ha r b a v c
    exact ⟨congrArg _ h1, congrArg _ h2, congrArg _ h3, congrArg _ h4⟩

end Sys2Proof.Machine
end

section
/-! PROOFS. What leaves SAFE_ENTRY of HWIN_IRQ and the states of the planes as they were: one frame lemma for each function of the
model that neither enters a plane state nor resets the module (R326). -/

namespace Sys2Proof.Machine
open Sys2Proof

/-- SAFE_ENTRY of HWIN_IRQ, and the states of the four planes. -/
def safeView (s : State) : Bool × PState × PState × PState × PState :=
  (s.host.irq.getLsbD 2, s.planes.g.st, s.planes.m.st, s.planes.d.st, s.planes.b.st)

theorem safeView_congr {s t : State} (h1 : t.host.irq = s.host.irq) (h2 : t.planes = s.planes) : safeView t = safeView s := by
  simp only [safeView, h1, h2]

/-- The view is the bit and the state of each plane. -/
theorem safeView_eq_iff {s t : State} : safeView t = safeView s ↔
    t.host.irq.getLsbD 2 = s.host.irq.getLsbD 2 ∧ ∀ p, (lane t p).st = (lane s p).st := by
  simp only [safeView, Prod.mk.injEq]
  constructor
  · rintro ⟨h, hg, hm, hd, hb⟩
    exact ⟨h, fun p => by cases p <;> assumption⟩
  · rintro ⟨h, hp⟩
    exact ⟨h, hp .g, hp .m, hp .d, hp .b⟩

@[simp] theorem safeView_ite {c : Prop} [Decidable c] (a b : State) :
    safeView (if c then a else b) = if c then safeView a else safeView b := by split <;> rfl

@[simp] theorem safeView_ite_fst {α : Type} {c : Prop} [Decidable c] (a b : State × α) :
    safeView (if c then a else b).1 = if c then safeView a.1 else safeView b.1 := by split <;> rfl

@[simp] theorem safeView_foldl {α : Type} {f : State → α → State} (h : ∀ s x, safeView (f s x) = safeView s) (l : List α) (s : State) :
    safeView (l.foldl f s) = safeView s := foldl_same safeView f h l s

theorem safeView_foldl_fst {α β : Type} {f : State × β → α → State × β} (h : ∀ a x, safeView (f a x).1 = safeView a.1) (l : List α)
    (a : State × β) : safeView (l.foldl f a).1 = safeView a.1 := by
  induction l generalizing a with
  | nil => rfl
  | cons x t ih => exact (ih _).trans (h a x)

/-! ## The operations of the state -/

/-- The view reads nothing but the planes and the host: a write of the other parts leaves it. -/
@[simp] theorem safeView_mk (s : State) (pending pins params wait stored mods meas meter rgt prt isl txn time clk eth0 eth1 replay acq
    ybus cols sums gfm msd red fw wire free) :
    safeView ⟨pending, pins, params, wait, stored, s.planes, mods, meas, meter, rgt, prt, isl, s.host, txn, time, clk,
      eth0, eth1, replay, acq, ybus, cols, sums, gfm, msd, red, fw, wire, free⟩ = safeView s := rfl

@[simp] theorem safeView_updHost {f : HostSt → HostSt} {s : State} (hf : (f s.host).irq.getLsbD 2 = s.host.irq.getLsbD 2) :
    safeView (updHost f s) = safeView s := by simp only [safeView, updHost_host, updHost_planes, hf]

@[simp] theorem safeView_setLane {p : Plane} {l : Lane} {s : State} (hl : l.st = (lane s p).st) :
    safeView (setLane p l s) = safeView s :=
  safeView_eq_iff.2 ⟨rfl, fun q => by
    by_cases hq : q = p
    · subst hq
      rw [lane_setLane_same, hl]
    · rw [lane_setLane_other _ _ hq]⟩

@[simp] theorem safeView_updLane {p : Plane} {f : Lane → Lane} {s : State} (hf : (f (lane s p)).st = (lane s p).st) :
    safeView (updLane p f s) = safeView s := safeView_setLane hf

@[simp] theorem safeView_colPut (c : ℕ) (s : State) : safeView (colPut c s) = safeView s := safeView_congr (by simp) (by simp)
@[simp] theorem safeView_noteEvent (code : ℕ) (s : State) : safeView (noteEvent code s) = safeView s := by simp [noteEvent]
@[simp] theorem safeView_setPar (id v : ℕ) (s : State) : safeView (setPar id v s) = safeView s := rfl
@[simp] theorem safeView_count (id : ℕ) (s : State) : safeView (count id s) = safeView s := by simp [count]
@[simp] theorem safeView_pushSpi (p : Packet) (s : State) : safeView (pushSpi p s) = safeView s := by simp [pushSpi]
@[simp] theorem safeView_emit (w : Wire) (s : State) : safeView (emit w s) = safeView s := rfl
@[simp] theorem safeView_sendDst (p : Packet) (n : ℕ) (s : State) : safeView (sendDst p n s) = safeView s := by simp [sendDst]
@[simp] theorem safeView_routeAsync (p : Packet) (s : State) : safeView (routeAsync p s) = safeView s := by simp [routeAsync]

@[simp] theorem safeView_urgentEvent (op mask : ℕ) (e : Env) (s : State) :
    safeView (urgentEvent op mask e s) = safeView s := by simp [urgentEvent]

@[simp] theorem safeView_sendReply (c : Chan) (p : Packet) (s : State) :
    safeView (sendReply c p s) = safeView s := safeView_congr (by simp) (by simp)

@[simp] theorem safeView_turnAway (cls op : ℕ) (e : Env) (st : ℕ) (s : State) :
    safeView (turnAway cls op e st s) = safeView s := by simp [turnAway]

@[simp] theorem safeView_urgentReply (op : ℕ) (e : Env) (done : Bool) (mask : ℕ) (s : State) :
    safeView (urgentReply op e done mask s) = safeView s := by simp [urgentReply]

@[simp] theorem safeView_noteUrgent (c : Chan) (s : State) : safeView (noteUrgent c s) = safeView s := by simp [noteUrgent]

@[simp] theorem safeView_sendAsync (col : Option ℕ) (code : ℕ) (body : List Byte) (s : State) :
    safeView (sendAsync col code body s) = safeView s := safeView_congr (by simp) (by simp)

@[simp] theorem safeView_flagEvent (id bit detail : ℕ) (s : State) :
    safeView (flagEvent id bit detail s) = safeView s := by simp [flagEvent]

@[simp] theorem safeView_raiseNum (num detail : ℕ) (s : State) :
    safeView (raiseNum num detail s) = safeView s := by simp [raiseNum]

@[simp] theorem safeView_updPrt (f : Prt → Prt) (s : State) : safeView (updPrt f s) = safeView s := rfl

@[simp] theorem safeView_noteFallback (fb : Bool) (s : State) :
    safeView (noteFallback fb s) = safeView s := by simp [noteFallback]

@[simp] theorem safeView_setMod (p : Plane) (m : Mod) (s : State) : safeView (setMod p m s) = safeView s := rfl
@[simp] theorem safeView_updMod (p : Plane) (f : Mod → Mod) (s : State) : safeView (updMod p f s) = safeView s := by simp [updMod]

@[simp] theorem safeView_showShadow (p : Plane) (w : PeriodSet) (s : State) : safeView (showShadow p w s) = safeView s := by
  unfold showShadow
  split
  · rfl
  · exact (safeView_foldl (fun _ _ => safeView_setPar ..) _ _).trans (safeView_setPar ..)

@[simp] theorem safeView_initMod (p : Plane) (s : State) : safeView (initMod p s) = safeView s := by simp [initMod]

@[simp] theorem safeView_override (m pulse en : Ports) (s : State) :
    safeView (override m pulse en s) = safeView s := by simp [override]

@[simp] theorem safeView_ascApply (sub : SafeSub) (k : ℕ) (s : State) :
    safeView (ascApply sub k s) = safeView s := safeView_congr (by simp) (by simp)

@[simp] theorem safeView_setParBit (id b : ℕ) (on : Bool) (s : State) :
    safeView (setParBit id b on s) = safeView s := by simp [setParBit]

@[simp] theorem safeView_sendTo (c : Chan) (p : Packet) (s : State) :
    safeView (sendTo c p s) = safeView s := safeView_congr (by simp) (by simp)

@[simp] theorem safeView_complete (h status cause : ℕ) (results : List Byte) (s : State) :
    safeView (complete h status cause results s) = safeView s := safeView_congr (by simp) (by simp)

@[simp] theorem safeView_cancelAll (hs : List ℕ) (cause : ℕ) (s : State) :
    safeView (cancelAll hs cause s) = safeView s := by simp [cancelAll]

@[simp] theorem safeView_setBrk (b : ℕ) (on : Bool) (s : State) : safeView (setBrk b on s) = safeView s := by simp [setBrk]

@[simp] theorem safeView_setParBits (id lo n v : ℕ) (s : State) :
    safeView (setParBits id lo n v s) = safeView s := by simp [setParBits]

@[simp] theorem safeView_leaveLaw (withdraw : Bool) (s : State) :
    safeView (leaveLaw withdraw s) = safeView s := by simp [leaveLaw]

@[simp] theorem safeView_stickPorts (b : ℕ) (m : Ports) (s : State) :
    safeView (stickPorts b m s) = safeView s := by simp [stickPorts]

@[simp] theorem safeView_settle (bySorrel : Bool) (soft : Ports) (s : State) :
    safeView (settle bySorrel soft s) = safeView s := by simp [settle]

theorem rechoose_irq (s : State) : (rechoose s).host.irq = s.host.irq := by
  unfold rechoose
  dsimp only
  split
  · split <;> simp [noteFallback_irq]
  · rfl

@[simp] theorem safeView_rechoose (s : State) : safeView (rechoose s) = safeView s :=
  safeView_eq_iff.2 ⟨by rw [rechoose_irq], rechoose_st s⟩

@[simp] theorem safeView_forceBlock (ps : List Plane) (s : State) :
    safeView (forceBlock ps s) = safeView s := by simp [forceBlock]

@[simp] theorem safeView_forceAsc (s : State) : safeView (forceAsc s) = safeView s := by simp [forceAsc]

@[simp] theorem safeView_propagate (mask group : ℕ) (s : State) :
    safeView (propagate mask group s) = safeView s := by simp [propagate]

@[simp] theorem safeView_setChan (c : Chan) (k : ChanSt) (s : State) :
    safeView (setChan c k s) = safeView s := safeView_congr (by simp) (by simp)

@[simp] theorem safeView_touchChan (c : Chan) (s : State) :
    safeView (touchChan c s) = safeView s := safeView_congr (by simp) (by simp)

@[simp] theorem safeView_acceptSeq (e : Env) (s : State) : safeView (acceptSeq e s) = safeView s := by
  unfold acceptSeq
  split <;> simp

@[simp] theorem safeView_keepReply (e : Env) (p : Packet) (s : State) :
    safeView (keepReply e p s) = safeView s := by simp [keepReply]

@[simp] theorem safeView_answer (cls op : ℕ) (e : Env) (st handle : ℕ) (payload : List Byte) (s : State) :
    safeView (answer cls op e st handle payload s) = safeView s := by simp [answer]

theorem serveSeq_view {P : State → Prop} (hv : ∀ s t, safeView t = safeView s → P s → P t) {cls op : Nat} {e : Env}
    {needs : State → Bool} {body : Nat → State → State × Ans} (hb : ∀ n s, P s → P (body n s).1) {s : State} (h : P s) :
    P (serveSeq cls op e needs body s) := by
  have ha : P (acceptSeq e s) := hv _ _ (safeView_acceptSeq ..) h
  unfold serveSeq
  dsimp only
  have hr : P (if runStatus op (acceptSeq e s) = stOk then body (nextHandle (acceptSeq e s)) (acceptSeq e s)
      else (acceptSeq e s, say (runStatus op (acceptSeq e s)))).1 := by
    split
    · exact hb _ _ ha
    · exact ha
  split
  · exact hv _ _ (by simp) h
  · split
    · exact hv _ _ (by simp) h
    · split
      · exact hv _ _ (by simp) ha
      · split
        · exact hv _ _ (by simp) hr
        · exact hr

theorem serve_view {P : State → Prop} (hv : ∀ s t, safeView t = safeView s → P s → P t) {cls op flags : Nat} {e : Env}
    {needs : State → Bool} {body : Nat → State → State × Ans} (hb : ∀ n s, P s → P (body n s).1) {s : State} (h : P s) :
    P (serve cls op e flags needs body s) := by
  unfold serve
  repeat' split
  case isFalse.isFalse.isFalse => exact serveSeq_view hv hb h
  all_goals exact hv _ _ (by simp) h

@[simp] theorem safeView_serve {cls op flags : Nat} {e : Env} {needs : State → Bool} {body : Nat → State → State × Ans}
    (hb : ∀ n s, safeView (body n s).1 = safeView s) (s : State) : safeView (serve cls op e flags needs body s) = safeView s :=
  serve_view (P := (safeView · = safeView s)) (fun _ _ ht h => ht.trans h) (fun n t h => (hb n t).trans h) rfl

@[simp] theorem safeView_allocHandle (opcode : ℕ) (c : Chan) (s : State) : safeView (allocHandle opcode c s) = safeView s := by
  unfold allocHandle
  split <;> simp

@[simp] theorem safeView_accepted {op : Nat} {e : Env} {work : State → State} (hw : ∀ s, safeView (work s) = safeView s)
    (s : State) : safeView (accepted op e work s).1 = safeView s := (hw _).trans (safeView_allocHandle ..)

@[simp] theorem safeView_rebinLane (hys : Bool) (p : Plane) (v iSq f : ℚ) (s : State) :
    safeView (rebinLane hys p v iSq f s) = safeView s := by simp [rebinLane]

@[simp] theorem safeView_startCounter (p : Plane) (s : State) : safeView (startCounter p s) = safeView s := by simp [startCounter]
@[simp] theorem safeView_suppliesOn (p : Plane) (s : State) : safeView (suppliesOn p s) = safeView s := by simp [suppliesOn]

@[simp] theorem safeView_sixTable (s : State) : safeView (sixTable s) = safeView s := by
  unfold sixTable
  extract_lets put lo src s1
  have h1 : safeView s1 = safeView s := safeView_setParBit ..
  split
  · exact (safeView_foldl (f := put) (fun _ _ => rfl) _ _).trans h1
  · exact h1

@[simp] theorem safeView_doStart (p : Plane) (s : State) : safeView (doStart p s) = safeView s := by simp [doStart]

@[simp] theorem safeView_beginStop (p : Plane) (h : ℕ) (s : State) :
    safeView (beginStop p h s) = safeView s := by simp [beginStop]

@[simp] theorem safeView_suppliesOff (p : Plane) (s : State) : safeView (suppliesOff p s) = safeView s := by simp [suppliesOff]
@[simp] theorem safeView_updAcq (f : Acq → Acq) (s : State) : safeView (updAcq f s) = safeView s := rfl

@[simp] theorem safeView_updSlot (n : ℕ) (f : Slot → Slot) (s : State) :
    safeView (updSlot n f s) = safeView s := by simp [updSlot]

@[simp] theorem safeView_holdSlot (n : ℕ) (up : Bool) (s : State) : safeView (holdSlot n up s) = safeView s := by simp [holdSlot]

@[simp] theorem safeView_raiseFlag (id bit detail : ℕ) (s : State) :
    safeView (raiseFlag id bit detail s) = safeView s := by simp [raiseFlag]

@[simp] theorem safeView_endReplay (st cause : ℕ) (s : State) : safeView (endReplay st cause s) = safeView s := by
  unfold endReplay
  split <;> simp

@[simp] theorem safeView_driveTest (p : Plane) (s : State) : safeView (driveTest p s) = safeView s := by simp [driveTest]
@[simp] theorem safeView_writePermit (m : Ports) (s : State) : safeView (writePermit m s) = safeView s := by simp [writePermit]
@[simp] theorem safeView_releaseOvr (p : Plane) (s : State) : safeView (releaseOvr p s) = safeView s := by simp [releaseOvr]
@[simp] theorem safeView_setMport (n : ℕ) (m : MPort) (s : State) : safeView (setMport n m s) = safeView s := rfl

@[simp] theorem safeView_updMport (n : ℕ) (f : MPort → MPort) (s : State) :
    safeView (updMport n f s) = safeView s := by simp [updMport]

@[simp] theorem safeView_startSkew (f : ℕ → Bool) (s : State) : safeView (startSkew f s) = safeView s := by simp [startSkew]
@[simp] theorem safeView_takeFails (step : ℕ) (s : State) : safeView (takeFails step s) = safeView s := by simp [takeFails]
@[simp] theorem safeView_stopLimit (p : Plane) (s : State) : safeView (stopLimit p s) = safeView s := by simp [stopLimit]

theorem withLength_view {P : State → Prop} (hv : ∀ s t, safeView t = safeView s → P s → P t) {ok : Bool} {cls op : Nat} {e : Env}
    {f : State → State} (hf : ∀ s, P s → P (f s)) {s : State} (h : P s) : P (withLength ok cls op e f s) := by
  unfold withLength
  split
  · exact hv _ _ (by simp) h
  · exact hf s h

@[simp] theorem safeView_withLength {ok : Bool} {cls op : Nat} {e : Env} {f : State → State}
    (hf : ∀ s, safeView (f s) = safeView s) (s : State) : safeView (withLength ok cls op e f s) = safeView s :=
  withLength_view (P := (safeView · = safeView s)) (fun _ _ ht h => ht.trans h) (fun t h => (hf t).trans h) rfl

@[simp] theorem safeView_serveShort {cls op : Nat} {e : Env} {body : State → State × Ans}
    (hb : ∀ s, safeView (body s).1 = safeView s) (s : State) : safeView (serveShort cls op e body s) = safeView s :=
  safeView_serve (fun _ => hb) s

@[simp] theorem safeView_waitWord (id v : ℕ) (s : State) : safeView (waitWord id v s) = safeView s := rfl
@[simp] theorem safeView_storeWord (id v : ℕ) (s : State) : safeView (storeWord id v s) = safeView s := rfl
@[simp] theorem safeView_clearCounter (id : ℕ) (s : State) : safeView (clearCounter id s) = safeView s := by simp [clearCounter]
@[simp] theorem safeView_clearBits (id v : ℕ) (s : State) : safeView (clearBits id v s) = safeView s := by simp [clearBits]
@[simp] theorem safeView_addSteps (v : ℕ) (s : State) : safeView (addSteps v s) = safeView s := by simp [addSteps]
@[simp] theorem safeView_latchBases (s : State) : safeView (latchBases s) = safeView s := by simp [latchBases]

@[simp] theorem safeView_eachPlane {f : Plane → State → State} (hf : ∀ p s, safeView (f p s) = safeView s) (s : State) :
    safeView (eachPlane f s) = safeView s := safeView_foldl (fun s p => hf p s) _ s

@[simp] theorem safeView_goPlane (p : Plane) (s : State) : safeView (goPlane p s) = safeView s := by simp [goPlane]
@[simp] theorem safeView_surveyStart (s : State) : safeView (surveyStart s) = safeView s := by simp [surveyStart]
@[simp] theorem safeView_updRed (f : Red → Red) (s : State) : safeView (updRed f s) = safeView s := rfl
@[simp] theorem safeView_requestFail (c : ℕ) (s : State) : safeView (requestFail c s) = safeView s := by simp [requestFail]

@[simp] theorem safeView_restoreSetpoints (b : List Byte) (s : State) :
    safeView (restoreSetpoints b s) = safeView s := by simp [restoreSetpoints]

@[simp] theorem safeView_updFw (f : Fw → Fw) (s : State) : safeView (updFw f s) = safeView s := rfl
@[simp] theorem safeView_commitStaged (s : State) : safeView (commitStaged s) = safeView s := by simp [commitStaged]

@[simp] theorem safeView_updSlotFw (n : ℕ) (f : FwSlot → FwSlot) (s : State) :
    safeView (updSlotFw n f s) = safeView s := by simp [updSlotFw]

@[simp] theorem safeView_confirm (s : State) : safeView (confirm s) = safeView s := by
  unfold confirm
  split <;> simp

@[simp] theorem safeView_armShadow (p : Plane) (s : State) : safeView (armShadow p s) = safeView s := by simp [armShadow]
@[simp] theorem safeView_testWritten (s : State) : safeView (testWritten s) = safeView s := by simp [testWritten]
@[simp] theorem safeView_limitWritten (v : ℕ) (s : State) : safeView (limitWritten v s) = safeView s := by simp [limitWritten]
@[simp] theorem safeView_chopStop (s : State) : safeView (chopStop s) = safeView s := by simp [chopStop]
@[simp] theorem safeView_fillSlot (n : ℕ) (s : State) : safeView (fillSlot n s) = safeView s := by simp [fillSlot]

@[simp] theorem safeView_nextRecord (s : State) : safeView (nextRecord s) = safeView s := by
  unfold nextRecord
  (repeat' split) <;> simp

@[simp] theorem safeView_startCapture (s : State) : safeView (startCapture s) = safeView s := by simp [startCapture]

@[simp] theorem safeView_closeRecord (status : ℕ) (s : State) : safeView (closeRecord status s) = safeView s := by
  unfold closeRecord
  split <;> simp

@[simp] theorem safeView_stopCapture (s : State) : safeView (stopCapture s) = safeView s := by simp [stopCapture]

@[simp] theorem safeView_captureWritten (old v : ℕ) (s : State) :
    safeView (captureWritten old v s) = safeView s := by simp [captureWritten]

@[simp] theorem safeView_setPllm (st ref : ℕ) (s : State) : safeView (setPllm st ref s) = safeView s := by simp [setPllm]
@[simp] theorem safeView_enterHoldover (s : State) : safeView (enterHoldover s) = safeView s := by simp [enterHoldover]
@[simp] theorem safeView_refSelWritten (s : State) : safeView (refSelWritten s) = safeView s := by simp [refSelWritten]

@[simp] theorem safeView_refAltWritten (old v : ℕ) (s : State) :
    safeView (refAltWritten old v s) = safeView s := by simp [refAltWritten]

@[simp] theorem safeView_relock (ref : ℕ) (s : State) : safeView (relock ref s) = safeView s := by simp [relock]
@[simp] theorem safeView_refModeWritten (s : State) : safeView (refModeWritten s) = safeView s := by simp [refModeWritten]
@[simp] theorem safeView_updEth (n : ℕ) (f : Eth → Eth) (s : State) : safeView (updEth n f s) = safeView s := by simp [updEth]

@[simp] theorem safeView_dropQueues (n : ℕ) (q : ℕ → Bool) (s : State) :
    safeView (dropQueues n q s) = safeView s := by simp [dropQueues]

@[simp] theorem safeView_advanceBases (c : ℚ) (s : State) : safeView (advanceBases c s) = safeView s := rfl

@[simp] theorem safeView_atTime {f : State → State} (hf : ∀ s, safeView (f s) = safeView s) (c : Rat) (s : State) :
    safeView (atTime c f s) = safeView s := (hf (advanceBases c s)).trans (safeView_advanceBases c s)

@[simp] theorem safeView_replayComparator (tc : ℕ) (s : State) :
    safeView (replayComparator tc s) = safeView s := by simp [replayComparator]

@[simp] theorem safeView_groupFire (u : ℕ) (s : State) : safeView (groupFire u s).1 = safeView s := by simp [groupFire]

@[simp] theorem safeView_countN (id k : ℕ) (s : State) : safeView (countN id k s) = safeView s := by
  induction k generalizing s with
  | zero => rfl
  | succ k ih => exact (ih _).trans (safeView_count ..)

@[simp] theorem safeView_startPost (n mask : ℕ) (s : State) : safeView (startPost n mask s) = safeView s := rfl

@[simp] theorem safeView_takeTrigger (mask : ℕ) (s : State) : safeView (takeTrigger mask s) = safeView s := by
  unfold takeTrigger
  dsimp only
  (repeat' split) <;> simp

@[simp] theorem safeView_fireUnits (us : List ℕ) (s : State) : safeView (fireUnits us s) = safeView s := by
  unfold fireUnits
  dsimp only
  rw [safeView_takeTrigger]
  refine safeView_foldl_fst (fun a u => ?_) _ _
  split <;> simp

@[simp] theorem safeView_fireKind (kind : ℕ) (sel : ℕ → Bool) (s : State) :
    safeView (fireKind kind sel s) = safeView s := by simp [fireKind]

@[simp] theorem safeView_keepUntil (p : Plane) (x : ℤ) (s : State) :
    safeView (keepUntil p x s) = safeView s := by simp [keepUntil]

@[simp] theorem safeView_keepTo (p : Plane) (x : ℕ) (s : State) : safeView (keepTo p x s) = safeView s := by simp [keepTo]
@[simp] theorem safeView_drivePlane (p : Plane) (s : State) : safeView (drivePlane p s) = safeView s := by simp [drivePlane]
@[simp] theorem safeView_refreshOut (p : Plane) (s : State) : safeView (refreshOut p s) = safeView s := by simp [refreshOut]
@[simp] theorem safeView_maskStep (p : Plane) (x : ℕ) (s : State) : safeView (maskStep p x s) = safeView s := by simp [maskStep]

@[simp] theorem safeView_maskComparator (tc x : ℕ) (s : State) :
    safeView (maskComparator tc x s) = safeView s := by simp [maskComparator]

@[simp] theorem safeView_fireComparator (tc x : ℕ) (s : State) :
    safeView (fireComparator tc x s) = safeView s := by simp [fireComparator]

@[simp] theorem safeView_armComparator (tc : ℕ) (s : State) :
    safeView (armComparator tc s) = safeView s := by simp [armComparator]

@[simp] theorem safeView_shadowWord (p : Plane) (off v : ℕ) (s : State) :
    safeView (shadowWord p off v s) = safeView s := by simp [shadowWord]

@[simp] theorem safeView_modWritten (p : Plane) (id v : ℕ) (s : State) :
    safeView (modWritten p id v s) = safeView s := by simp [modWritten]

@[simp] theorem safeView_rwWritten (id old v : ℕ) (s : State) : safeView (rwWritten id old v s) = safeView s := by
  unfold rwWritten
  cases modPlane id <;> simp

@[simp] theorem safeView_stageWrite (ctl : Bool) (h : ℕ) (es : List PEntry) (s : State) :
    safeView (stageWrite ctl h es s).1 = safeView s := by
  unfold stageWrite
  dsimp only
  (repeat' split) <;> simp

@[simp] theorem safeView_endSequence (fail : List ℕ) (p : Plane) (s : State) :
    safeView (endSequence fail p s) = safeView s := by simp [endSequence]

@[simp] theorem safeView_testSequenceEnd (fail : List ℕ) (s : State) :
    safeView (testSequenceEnd fail s) = safeView s := by simp [testSequenceEnd]

@[simp] theorem safeView_serveLong {cls op : Nat} {e : Env} {body : Nat → State → State × Ans}
    (hb : ∀ n s, safeView (body n s).1 = safeView s) (s : State) : safeView (serveLong cls op e body s) = safeView s :=
  safeView_serve hb s

@[simp] theorem safeView_setAct (a : ℕ) (s : State) : safeView (setAct a s) = safeView s := by simp [setAct]
@[simp] theorem safeView_updGfm (f : Gfm → Gfm) (s : State) : safeView (updGfm f s) = safeView s := rfl

@[simp] theorem safeView_gfmSyncBody (e : Env) (p : PPay) (k : ℕ) (s : State) :
    safeView (gfmSyncBody e p k s).1 = safeView s := by simp [gfmSyncBody]

@[simp] theorem safeView_permitOff (s : State) : safeView (permitOff s) = safeView s := by simp [permitOff]
@[simp] theorem safeView_endSync (st cause : ℕ) (s : State) : safeView (endSync st cause s) = safeView s := by simp [endSync]

@[simp] theorem safeView_dcBody (op : ℕ) (e : Env) (p : PPay) (k : ℕ) (s : State) :
    safeView (dcBody op e p k s).1 = safeView s := by simp [dcBody]

@[simp] theorem safeView_completeOps (op st cause : ℕ) (s : State) :
    safeView (completeOps op st cause s) = safeView s := by simp [completeOps]

@[simp] theorem safeView_endDischarge (st cause : ℕ) (s : State) :
    safeView (endDischarge st cause s) = safeView s := by simp [endDischarge]

@[simp] theorem safeView_readClear (ids : List ℕ) (s : State) : safeView (readClear ids s) = safeView s :=
  safeView_foldl (fun s id => by (repeat' split) <;> simp) _ _

@[simp] theorem safeView_getBody (clear : Bool) (ids : List ℕ) (s : State) : safeView (getBody clear ids s).1 = safeView s := by
  unfold getBody
  dsimp only
  (repeat' split) <;> simp

@[simp] theorem safeView_getParam (e : Env) (ids : List ℕ) (s : State) :
    safeView (getParam e ids s) = safeView s := by simp [getParam]

@[simp] theorem safeView_endRead (o : ReadOp) (st cause : ℕ) (s : State) : safeView (endRead o st cause s) = safeView s := by
  unfold endRead
  split <;> simp

@[simp] theorem safeView_releaseSlot (n : ℕ) (s : State) : safeView (releaseSlot n s) = safeView s := by
  unfold releaseSlot
  dsimp only
  (repeat' split) <;> simp

@[simp] theorem safeView_armReplay (h : ℕ) (s : State) : safeView (armReplay h s) = safeView s := by simp [armReplay]
@[simp] theorem safeView_updTime (f : Time → Time) (s : State) : safeView (updTime f s) = safeView s := rfl
@[simp] theorem safeView_clearSuspect (s : State) : safeView (clearSuspect s) = safeView s := by simp [clearSuspect]

@[simp] theorem safeView_groupKh (s : State) : safeView (groupKh s) = safeView s := by
  unfold groupKh
  split <;> simp

@[simp] theorem safeView_noteDiscontinuity (step : ℤ) (s : State) : safeView (noteDiscontinuity step s) = safeView s := by
  unfold noteDiscontinuity
  split <;> simp

@[simp] theorem safeView_groupMoved (s : State) : safeView (groupMoved s) = safeView s := rfl

@[simp] theorem safeView_discardHead (n q : ℕ) (f : Frame) (s : State) : safeView (discardHead n q f s) = safeView s := by
  unfold discardHead
  split <;> simp

@[simp] theorem safeView_sendHead (n q : ℕ) (f : Frame) (s : State) : safeView (sendHead n q f s) = safeView s := by
  unfold sendHead
  cases f.ptp with
  | some k => dsimp only; split <;> simp
  | none => cases f.handle <;> simp

@[simp] theorem safeView_stepQueue (n q k : ℕ) (a : State × Bool) : safeView (stepQueue n q k a).1 = safeView a.1 := by
  induction k generalizing a with
  | zero => rfl
  | succ k ih =>
    unfold stepQueue
    dsimp only
    (repeat' split) <;> simp [ih]

@[simp] theorem safeView_stepFrames (n : ℕ) (s : State) : safeView (stepFrames n s) = safeView s := by
  unfold stepFrames
  split
  · rfl
  · exact safeView_foldl_fst (fun _ _ => safeView_stepQueue ..) _ _

@[simp] theorem safeView_stepNet (d : ℤ) (s : State) : safeView (stepNet d s) = safeView s := by simp [stepNet]
@[simp] theorem safeView_stepBack (s : State) : safeView (stepBack s).1 = safeView s := by simp [stepBack]

@[simp] theorem safeView_handleQuery (h : ℕ) (s : State) : safeView (handleQuery h s).1 = safeView s := by
  unfold handleQuery
  (repeat' split) <;> simp

@[simp] theorem safeView_updRgt (f : Rgt → Rgt) (s : State) : safeView (updRgt f s) = safeView s := rfl
@[simp] theorem safeView_freeSpares (t : Txn) (s : State) : safeView (freeSpares t s) = safeView s := by simp [freeSpares]

@[simp] theorem safeView_endTxn (st cause : ℕ) (results : List Byte) (s : State) :
    safeView (endTxn st cause results s) = safeView s := by
  unfold endTxn
  split <;> simp

@[simp] theorem safeView_abortTxn (s : State) : safeView (abortTxn s) = safeView s := by
  unfold abortTxn
  split <;> simp

@[simp] theorem safeView_bumpFree (s : State) : safeView (bumpFree s) = safeView s := rfl
@[simp] theorem safeView_ftInject (s : State) : safeView (ftInject s) = safeView s := by simp [ftInject]

@[simp] theorem safeView_showTests (pass fail : ℕ) (s : State) :
    safeView (showTests pass fail s) = safeView s := by simp [showTests]

@[simp] theorem safeView_endSelfTest (st cause pass fail : ℕ) (s : State) :
    safeView (endSelfTest st cause pass fail s) = safeView s := by
  unfold endSelfTest
  split <;> simp

@[simp] theorem safeView_cancelSelfTest (cause : ℕ) (s : State) : safeView (cancelSelfTest cause s) = safeView s := by
  unfold cancelSelfTest
  split <;> simp

@[simp] theorem safeView_dropSave (cause : ℕ) (s : State) : safeView (dropSave cause s) = safeView s := by
  unfold dropSave
  split <;> simp

@[simp] theorem safeView_endUpdate (st cause : ℕ) (s : State) : safeView (endUpdate st cause s) = safeView s := by
  unfold endUpdate
  split <;> simp

@[simp] theorem safeView_setCopy (n : ℕ) (r : Option Rec) (s : State) : safeView (setCopy n r s) = safeView s := by simp [setCopy]

@[simp] theorem safeView_dropStaged (h : Hitless) (s : State) : safeView (dropStaged h s) = safeView s := by
  unfold dropStaged
  split <;> simp

@[simp] theorem safeView_endAct (h st : ℕ) (s : State) : safeView (endAct h st s) = safeView s := by
  unfold endAct
  split <;> simp

@[simp] theorem safeView_endActivation (st cause : ℕ) (s : State) : safeView (endActivation st cause s) = safeView s := by
  unfold endActivation
  split <;> simp

@[simp] theorem safeView_cancelGroup (cause : ℕ) (s : State) : safeView (cancelGroup cause s) = safeView s := by
  unfold cancelGroup
  split <;> simp

@[simp] theorem safeView_cancelArchive (cause : ℕ) (s : State) : safeView (cancelArchive cause s) = safeView s := by
  unfold cancelArchive
  split <;> simp

@[simp] theorem safeView_endLoad (o : LoadOp) (st cause : ℕ) (slot : Slot) (s : State) :
    safeView (endLoad o st cause slot s) = safeView s := by simp [endLoad]

@[simp] theorem safeView_cancelFrame (h cause : ℕ) (s : State) :
    safeView (cancelFrame h cause s) = safeView s := by simp [cancelFrame]

@[simp] theorem safeView_onTxn {e : Env} {ok : TxnState → Bool} {f : Txn → State → State × Ans}
    (hf : ∀ x s, safeView (f x s).1 = safeView s) (s : State) : safeView (onTxn e ok f s).1 = safeView s := by
  unfold onTxn
  (repeat' split) <;> simp [hf]

@[simp] theorem safeView_preparedEvent (t : Txn) (id isl st : ℕ) (s : State) :
    safeView (preparedEvent t id isl st s) = safeView s := by
  unfold preparedEvent
  split <;> simp

@[simp] theorem safeView_putTile (p : ℕ) (t : Tile) (s : State) : safeView (putTile p t s) = safeView s := by simp [putTile]

@[simp] theorem safeView_copyGroup (g : ℕ) (s : State) : safeView (copyGroup g s) = safeView s := by
  unfold copyGroup
  split <;> simp

@[simp] theorem safeView_prepared (s : State) : safeView (prepared s) = safeView s := by
  unfold prepared
  (repeat' split) <;> simp

@[simp] theorem safeView_txnTimeout (s : State) : safeView (txnTimeout s) = safeView s := by
  unfold txnTimeout
  split <;> simp

@[simp] theorem safeView_progress (h v : ℕ) (s : State) :
    safeView (progress h v s) = safeView s := safeView_congr (by simp) (by simp)

@[simp] theorem safeView_afterSwitch (t : Txn) (gone : List ℕ) (s : State) :
    safeView (afterSwitch t gone s) = safeView s := by simp [afterSwitch]

@[simp] theorem safeView_dropExit (p : Plane) (s : State) : safeView (dropExit p s) = safeView s := by simp [dropExit]

@[simp] theorem safeView_modeWritten (p : Plane) (v : ℕ) (s : State) :
    safeView (modeWritten p v s) = safeView s := by simp [modeWritten]

@[simp] theorem safeView_phaseWritten (p : Plane) (old v : ℕ) (s : State) :
    safeView (phaseWritten p old v s) = safeView s := by simp [phaseWritten]

@[simp] theorem safeView_laneWord (id v : ℕ) (s : State) : safeView (laneWord id v s) = safeView s := by
  unfold laneWord
  split <;> simp

@[simp] theorem safeView_lawWritten (v : ℕ) (s : State) : safeView (lawWritten v s) = safeView s := by simp [lawWritten]
@[simp] theorem safeView_updMsd (f : Msd → Msd) (s : State) : safeView (updMsd f s) = safeView s := rfl
@[simp] theorem safeView_campionWord (id v : ℕ) (s : State) : safeView (campionWord id v s) = safeView s := by simp [campionWord]

@[simp] theorem safeView_boundaryWord (id v : ℕ) (s : State) : safeView (boundaryWord id v s) = safeView s := by
  unfold boundaryWord
  split <;> simp

@[simp] theorem safeView_setBad (t : ℕ) (on : Bool) (s : State) : safeView (setBad t on s) = safeView s := by simp [setBad]
@[simp] theorem safeView_evict (t : ℕ) (s : State) : safeView (evict t s) = safeView s := by simp [evict]
@[simp] theorem safeView_swapTiles (t : Txn) (s : State) : safeView (swapTiles t s) = safeView s := by simp [swapTiles]

@[simp] theorem safeView_selfTest (mask : ℕ) (e : Env) (h : ℕ) (s : State) : safeView (selfTest mask e h s).1 = safeView s := by
  unfold selfTest
  split
  · rfl
  · split
    · rfl
    · split
      · rfl
      · exact safeView_accepted (fun _ => rfl) s

@[simp] theorem safeView_saveBegin (h : ℕ) (s : State) : safeView (saveBegin h s) = safeView s := by simp [saveBegin]

@[simp] theorem safeView_beginUpdate (h len kind : ℕ) (s : State) :
    safeView (beginUpdate h len kind s) = safeView s := by simp [beginUpdate]

@[simp] theorem safeView_fwUpdate (e : Env) (len kind resv : ℕ) (base : List Byte) (h : ℕ) (s : State) :
    safeView (fwUpdate e len kind resv base h s).1 = safeView s := by simp [fwUpdate]

@[simp] theorem safeView_takeOwnerKey (b : List Byte) (s : State) :
    safeView (takeOwnerKey b s) = safeView s := by simp [takeOwnerKey]

@[simp] theorem safeView_takeRevoke (b : List Byte) (s : State) : safeView (takeRevoke b s) = safeView s := by simp [takeRevoke]

@[simp] theorem safeView_slotWrite (off : ℕ) (bs : List Byte) (s : State) :
    safeView (slotWrite off bs s) = safeView s := by simp [slotWrite]

@[simp] theorem safeView_finishImage (s : State) : safeView (finishImage s) = safeView s := by simp [finishImage]

@[simp] theorem safeView_deltaRecords (k : ℕ) (bs : List Byte) (s : State) : safeView (deltaRecords k bs s).1 = safeView s := by
  induction k generalizing bs s with
  | zero => rfl
  | succ k ih =>
    unfold deltaRecords
    dsimp only
    (repeat' split) <;> simp [ih]

@[simp] theorem safeView_deltaBlock (u : Upd) (bs : List Byte) (last : Bool) (s : State) :
    safeView (deltaBlock u bs last s) = safeView s := by
  unfold deltaBlock
  dsimp only
  (repeat' split) <;> simp

@[simp] theorem safeView_takeBlock (u : Upd) (bs : List Byte) (s : State) :
    safeView (takeBlock u bs s) = safeView s := by simp [takeBlock]

@[simp] theorem safeView_drainBlocks (k : ℕ) (s : State) : safeView (drainBlocks k s) = safeView s := by
  induction k generalizing s with
  | zero => rfl
  | succ k ih =>
    unfold drainBlocks
    (repeat' split) <;> simp [ih]

@[simp] theorem safeView_fwData (e : Env) (p : DataPay) (s : State) : safeView (fwData e p s).1 = safeView s := by
  unfold fwData
  dsimp only
  (repeat' split) <;> simp

@[simp] theorem safeView_beginHitless (h kh : ℕ) (s : State) :
    safeView (beginHitless h kh s) = safeView s := by simp [beginHitless]

@[simp] theorem safeView_fwActivateHitless (e : Env) (resv kh h : ℕ) (s : State) :
    safeView (fwActivateHitless e resv kh h s).1 = safeView s := by simp [fwActivateHitless]

@[simp] theorem safeView_stageMigrated (ws : List (ℕ × Word)) (ts : List (ℕ × List Byte)) (s : State) :
    safeView (stageMigrated ws ts s) = safeView s := by
  unfold stageMigrated
  split <;> simp

@[simp] theorem safeView_hitlessReady (mig : Migr) (s : State) : safeView (hitlessReady mig s) = safeView s := by
  unfold hitlessReady
  dsimp only
  (repeat' split) <;> simp

@[simp] theorem safeView_hitlessSwap (w : SwapWrite) (s : State) : safeView (hitlessSwap w s) = safeView s := by
  unfold hitlessSwap
  split <;> simp

@[simp] theorem safeView_endBeforeRestart (s : State) : safeView (endBeforeRestart s) = safeView s := by
  unfold endBeforeRestart
  dsimp only
  (repeat' split) <;> simp

@[simp] theorem safeView_tansyRestart (s : State) : safeView (tansyRestart s) = safeView s := by
  unfold tansyRestart
  split <;> simp

@[simp] theorem safeView_flushLate (keep : ℕ → Bool) (s : State) : safeView (flushLate keep s) = safeView s := by
  refine (safeView_foldl (fun s x => ?_) _ _).trans (safeView_updHost rfl)
  (repeat' split) <;> simp

@[simp] theorem safeView_flushHeld (s : State) : safeView (flushHeld s) = safeView s := by simp [flushHeld]

@[simp] theorem safeView_takeMigrated (h : Hitless) (s : State) : safeView (takeMigrated h s) = safeView s := by
  unfold takeMigrated
  split <;> simp

@[simp] theorem safeView_stopHealth (s : State) : safeView (stopHealth s) = safeView s := rfl

@[simp] theorem safeView_dropSwap (s : State) : safeView (dropSwap s) = safeView s := by
  unfold dropSwap
  split <;> simp

@[simp] theorem safeView_dropAcq (s : State) : safeView (dropAcq s) = safeView s := by
  unfold dropAcq
  dsimp only
  (repeat' split) <;> simp

@[simp] theorem safeView_stopSequence (s : State) : safeView (stopSequence s) = safeView s := by
  unfold stopSequence
  split <;> simp

@[simp] theorem safeView_attest (nonce : List Byte) (s : State) : safeView (attest nonce s).1 = safeView s := by simp [attest]
@[simp] theorem safeView_drawNonce (s : State) : safeView (drawNonce s) = safeView s := by simp [drawNonce]

@[simp] theorem safeView_debugUnlock (t : List Byte) (s : State) :
    safeView (debugUnlock t s).1 = safeView s := by simp [debugUnlock]

@[simp] theorem safeView_beginAction (p : List Byte) (h : ℕ) (s : State) :
    safeView (beginAction p h s) = safeView s := by simp [beginAction]

@[simp] theorem safeView_noteAgree (a : GAct) (s : State) : safeView (noteAgree a s) = safeView s := by simp [noteAgree]
@[simp] theorem safeView_showVerdict (v st : ℕ) (s : State) : safeView (showVerdict v st s) = safeView s := by simp [showVerdict]

@[simp] theorem safeView_deferAction (a : GAct) (pos row : ℕ) (more : List (ℕ × ℕ)) (s : State) :
    safeView (deferAction a pos row more s) = safeView s := by simp [deferAction]

@[simp] theorem safeView_groupDecide (s : State) : safeView (groupDecide s) = safeView s := by
  unfold groupDecide
  dsimp only
  (repeat' split) <;> simp

@[simp] theorem safeView_failAction (a : GAct) (st : ℕ) (s : State) :
    safeView (failAction a st s) = safeView s := by simp [failAction]

@[simp] theorem safeView_groupConfirm (s : State) : safeView (groupConfirm s) = safeView s := by
  unfold groupConfirm
  dsimp only
  (repeat' split) <;> simp

@[simp] theorem safeView_applied (a : GAct) (s : State) : safeView (applied a s) = safeView s := by simp [applied]

@[simp] theorem safeView_writeTile (t : ℕ) (img : List Byte) (s : State) :
    safeView (writeTile t img s) = safeView s := by simp [writeTile]

@[simp] theorem safeView_takeTile (h : ℕ) (p : Pre) (img : List Byte) (s : State) :
    safeView (takeTile h p img s).1 = safeView s := by
  unfold takeTile
  dsimp only
  (repeat' split) <;> simp

@[simp] theorem safeView_dropFrag (f : Frag) (s : State) : safeView (dropFrag f s) = safeView s := by simp [dropFrag]

@[simp] theorem safeView_rgtWrite (e : Env) (p : DataPay) (s : State) : safeView (rgtWrite e p s).1 = safeView s := by
  unfold rgtWrite
  dsimp only
  (repeat' split) <;> simp

@[simp] theorem safeView_rgtRead (p : Pre) (s : State) : safeView (rgtRead p s).1 = safeView s := by simp [rgtRead]

@[simp] theorem safeView_replayData (e : Env) (p : DataPay) (s : State) : safeView (replayData e p s).1 = safeView s := by
  unfold replayData
  dsimp only
  (repeat' split) <;> simp

@[simp] theorem safeView_queueFrame (n q : ℕ) (f : Frame) (s : State) :
    safeView (queueFrame n q f s) = safeView s := by simp [queueFrame]

@[simp] theorem safeView_frameSend (e : Env) (p : FramePay) (h : ℕ) (s : State) :
    safeView (frameSend e p h s).1 = safeView s := by simp [frameSend]

@[simp] theorem safeView_misoOnes (n : ℕ) (s : State) : safeView (misoOnes n s) = safeView s := by simp [misoOnes]
@[simp] theorem safeView_miso (bs : List Byte) (s : State) : safeView (miso bs s) = safeView s := by simp [miso]

@[simp] theorem safeView_spiRefuse (b : List Byte) (st : ℕ) (s : State) :
    safeView (spiRefuse b st s) = safeView s := by simp [spiRefuse]

@[simp] theorem safeView_packetRead (n : ℕ) (s : State) : safeView (packetRead n s) = safeView s := by
  unfold packetRead
  dsimp only
  (repeat' split) <;> simp

@[simp] theorem safeView_winErr (s : State) : safeView (winErr s) = safeView s := by simp [winErr]
@[simp] theorem safeView_windowRead (addr : ℕ) (s : State) : safeView (windowRead addr s) = safeView s := by simp [windowRead]
@[simp] theorem safeView_phaseStepApply (s : State) : safeView (phaseStepApply s) = safeView s := by simp [phaseStepApply]
@[simp] theorem safeView_confirmTime (s : State) : safeView (confirmTime s) = safeView s := by simp [confirmTime]
@[simp] theorem safeView_enablesOff (s : State) : safeView (enablesOff s) = safeView s := by simp [enablesOff]
@[simp] theorem safeView_haltRise (s : State) : safeView (haltRise s) = safeView s := by simp [haltRise]
@[simp] theorem safeView_stoHigh (s : State) : safeView (stoHigh s) = safeView s := by simp [stoHigh]
@[simp] theorem safeView_holdReset (s : State) : safeView (holdReset s) = safeView s := rfl
@[simp] theorem safeView_supplyLow (v : ℕ) (s : State) : safeView (supplyLow v s) = safeView s := by simp [supplyLow]
@[simp] theorem safeView_presence (on : Bool) (s : State) : safeView (presence on s) = safeView s := rfl
@[simp] theorem safeView_powerFailRecord (s : State) : safeView (powerFailRecord s) = safeView s := by simp [powerFailRecord]
@[simp] theorem safeView_corePowerDown (s : State) : safeView (corePowerDown s) = safeView s := by simp [corePowerDown]
@[simp] theorem safeView_mcRelayDrop (s : State) : safeView (mcRelayDrop s) = safeView s := by simp [mcRelayDrop]

@[simp] theorem safeView_leaveReset (s : State) : safeView (leaveReset s) = safeView s := by
  unfold leaveReset
  dsimp only
  (repeat' split) <;> simp

@[simp] theorem safeView_enterRecovery (s : State) : safeView (enterRecovery s) = safeView s := by simp [enterRecovery]

@[simp] theorem safeView_selectSlot (k : ℕ) (s : State) : safeView (selectSlot k s) = safeView s := by
  induction k generalizing s with
  | zero => exact safeView_enterRecovery s
  | succ k ih =>
    unfold selectSlot
    dsimp only
    (repeat' split) <;> simp [ih]

@[simp] theorem safeView_bootRom (s : State) : safeView (bootRom s) = safeView s := by
  unfold bootRom
  dsimp only
  (repeat' split) <;> simp

@[simp] theorem safeView_pllmLocked (s : State) : safeView (pllmLocked s) = safeView s := by
  unfold pllmLocked
  dsimp only
  (repeat' split) <;> simp [↓safeView_mk, ↓safeView_bootRom]

@[simp] theorem safeView_fastStartLoaded (lockstep : Bool) (s : State) : safeView (fastStartLoaded lockstep s) = safeView s := by
  unfold fastStartLoaded
  split <;> simp

@[simp] theorem safeView_takeRec (n : ℕ) (r : Rec) (s : State) : safeView (takeRec n r s) = safeView s := by
  unfold takeRec
  exact safeView_foldl (fun _ _ => by simp) _ _

@[simp] theorem safeView_takeClock (s : State) : safeView (takeClock s) = safeView s := by simp [takeClock]
@[simp] theorem safeView_markUnwritten (s : State) : safeView (markUnwritten s) = safeView s := by simp [markUnwritten]

@[simp] theorem safeView_takeStored (s : State) : safeView (takeStored s) = safeView s :=
  safeView_foldl (fun _ _ => safeView_setPar ..) _ _

@[simp] theorem safeView_takeM5v (s : State) : safeView (takeM5v s) = safeView s := by simp [takeM5v]
@[simp] theorem safeView_startHealth (s : State) : safeView (startHealth s) = safeView s := by simp [startHealth]

@[simp] theorem safeView_lateFlags (s : State) : safeView (lateFlags s) = safeView s := by
  have ha : ∀ id b (s : State), safeView (if parBit s id b then flagEvent id b 0 s else s) = safeView s := fun id b s => by
    split <;> simp
  unfold lateFlags
  extract_lets again s1
  have h1 : safeView s1 = safeView s := by simp only [s1, again, ha]
  rw [← h1]
  (repeat' split) <;> simp

@[simp] theorem safeView_powerUpTests (hw : ℕ) (s : State) : safeView (powerUpTests hw s) = safeView s := by simp [powerUpTests]
@[simp] theorem safeView_tansyExtRunning (s : State) : safeView (tansyExtRunning s) = safeView s := by simp [tansyExtRunning]
@[simp] theorem safeView_noteReset (n : ℕ) (s : State) : safeView (noteReset n s) = safeView s := rfl

@[simp] theorem safeView_txnAtReset (s : State) : safeView (txnAtReset s) = safeView s := by
  unfold txnAtReset
  split <;> simp

@[simp] theorem safeView_loseEntries (lost : List (ℕ × Bool)) (s : State) :
    safeView (loseEntries lost s) = safeView s := by simp [loseEntries]

@[simp] theorem safeView_colClear (cs : List ℕ) (s : State) : safeView (colClear cs s) = safeView s := rfl

@[simp] theorem safeView_restartAcq (s : State) : safeView (restartAcq s) = safeView s := by
  unfold restartAcq
  dsimp only
  rw [safeView_startHealth, safeView_updTime, safeView_colClear]
  exact safeView_foldl (fun _ _ => safeView_setParBit ..) _ _

@[simp] theorem safeView_restartAon (s : State) : safeView (restartAon s) = safeView s := by simp [restartAon]

@[simp] theorem safeView_keepAliveLoss (m : Ports) (s : State) :
    safeView (keepAliveLoss m s) = safeView s := by simp [keepAliveLoss]

@[simp] theorem safeView_setMon (n : ℕ) (m : Mon) (on : Bool) (s : State) :
    safeView (setMon n m on s) = safeView s := by simp [setMon]

@[simp] theorem safeView_uvloRelease (n : ℕ) (m : Mon) (s : State) :
    safeView (uvloRelease n m s) = safeView s := by simp [uvloRelease]

@[simp] theorem safeView_latchFault (hard : Bool) (n : ℕ) (up : Bool) (s : State) :
    safeView (latchFault hard n up s) = safeView s := by simp [latchFault]

@[simp] theorem safeView_shortStagger (s : State) : safeView (shortStagger s) = safeView s := by
  unfold shortStagger
  split <;> simp

@[simp] theorem safeView_deferredTurnOff (n : ℕ) (s : State) :
    safeView (deferredTurnOff n s) = safeView s := by simp [deferredTurnOff]

@[simp] theorem safeView_gatePwrHigh (n mw : ℕ) (s : State) : safeView (gatePwrHigh n mw s) = safeView s := by simp [gatePwrHigh]
@[simp] theorem safeView_mpSupply (n : ℕ) (s : State) : safeView (mpSupply n s) = safeView s := by simp [mpSupply]
@[simp] theorem safeView_splitCheck (s : State) : safeView (splitCheck s) = safeView s := by simp [splitCheck]
@[simp] theorem safeView_brkMismatch (mc : Bool) (s : State) : safeView (brkMismatch mc s) = safeView s := by simp [brkMismatch]
@[simp] theorem safeView_brkDelay (s : State) : safeView (brkDelay s) = safeView s := by simp [brkDelay]
@[simp] theorem safeView_chopEval (s : State) : safeView (chopEval s) = safeView s := by simp [chopEval]
@[simp] theorem safeView_makeCut (p : Plane) (m : Ports) (s : State) : safeView (makeCut p m s) = safeView s := by simp [makeCut]
@[simp] theorem safeView_ftEval (p : Plane) (f : ℕ) (s : State) : safeView (ftEval p f s) = safeView s := by simp [ftEval]
@[simp] theorem safeView_writeCuts (s : State) : safeView (writeCuts s) = safeView s := by simp [writeCuts]
@[simp] theorem safeView_bumpManch (s : State) : safeView (bumpManch s) = safeView s := by simp [bumpManch]

@[simp] theorem safeView_tripMeas (bs edges : List ℕ) (s : State) :
    safeView (tripMeas bs edges s) = safeView s := by simp [tripMeas]

@[simp] theorem safeView_ageTest (d : ℕ) (p : Plane) (s : State) : safeView (ageTest d p s) = safeView s := by simp [ageTest]
@[simp] theorem safeView_agePorts (s : State) : safeView (agePorts s) = safeView s := by simp [agePorts]
@[simp] theorem safeView_ascNext (s : State) : safeView (ascNext s) = safeView s := by simp [ascNext]
@[simp] theorem safeView_forcedAscEnd (s : State) : safeView (forcedAscEnd s) = safeView s := by simp [forcedAscEnd]

@[simp] theorem safeView_cutArrival (p : Plane) (x : ℕ) (s : State) :
    safeView (cutArrival p x s) = safeView s := by simp [cutArrival]

@[simp] theorem safeView_cutAck (p : Plane) (s : State) : safeView (cutAck p s) = safeView s := by simp [cutAck]
@[simp] theorem safeView_driveMarks (n : ℕ) (s : State) : safeView (driveMarks n s) = safeView s := by simp [driveMarks]

@[simp] theorem safeView_dueComparators (n : ℕ) (s : State) :
    safeView (dueComparators n s) = safeView s := by simp [dueComparators]

@[simp] theorem safeView_ptpTick (s : State) : safeView (ptpTick s) = safeView s := by
  unfold ptpTick
  extract_lets s1 w
  have h1 : safeView s1 = safeView s := by
    unfold s1
    split
    · rfl
    · exact safeView_foldl (fun s n => safeView_foldl (fun _ _ => safeView_queueFrame ..) _ s) _ _
  split
  · rfl
  · split
    · exact h1
    · refine (safeView_foldl (fun s n => ?_) _ _).trans h1
      split <;> simp

@[simp] theorem safeView_advanceTime (s : State) : safeView (advanceTime s) = safeView s := by simp [advanceTime]
@[simp] theorem safeView_nextIndex (s : State) : safeView (nextIndex s) = safeView s := rfl

@[simp] theorem safeView_shiftMark (n : ℕ) (p : Plane) (s : State) :
    safeView (shiftMark n p s) = safeView s := by simp [shiftMark]

@[simp] theorem safeView_maskApply (p : Plane) (s : State) : safeView (maskApply p s) = safeView s := by
  unfold maskApply
  split <;> simp

@[simp] theorem safeView_takeWaiting {eng : Engine} {f : Nat → Nat → State → State}
    (hf : ∀ i v s, safeView (f i v s) = safeView s) (s : State) : safeView (takeWaiting eng f s) = safeView s := by
  unfold takeWaiting
  exact safeView_foldl (fun _ _ => hf ..) _ _

@[simp] theorem safeView_shiftPlane (n : ℕ) (p : Plane) (s : State) :
    safeView (shiftPlane n p s) = safeView s := by simp [shiftPlane]

@[simp] theorem safeView_endPeriod (p : Plane) (x : ℤ) (s : State) :
    safeView (endPeriod p x s) = safeView s := by simp [endPeriod]

@[simp] theorem safeView_clearCas (p : Plane) (s : State) : safeView (clearCas p s) = safeView s := by simp [clearCas]

@[simp] theorem safeView_takeContext (p : Plane) (d : Dec) (s : State) :
    safeView (takeContext p d s) = safeView s := by simp [takeContext]

@[simp] theorem safeView_enterBand (n : ℕ) (p : Plane) (d : Dec) (s : State) :
    safeView (enterBand n p d s) = safeView s := by simp [enterBand]

@[simp] theorem safeView_writeSet (p : Plane) (set : PeriodSet) (s : State) :
    safeView (writeSet p set s) = safeView s := by simp [writeSet]

@[simp] theorem safeView_showCarrier (p : Plane) (cyc : ℤ) (s : State) :
    safeView (showCarrier p cyc s) = safeView s := by simp [showCarrier]

@[simp] theorem safeView_startSupport (p : Plane) (s : State) : safeView (startSupport p s) = safeView s := by simp [startSupport]
@[simp] theorem safeView_releaseChop (p : Plane) (s : State) : safeView (releaseChop p s) = safeView s := by simp [releaseChop]

@[simp] theorem safeView_countSwitching (p : Plane) (old : Pat) (s : State) :
    safeView (countSwitching p old s) = safeView s := by simp [countSwitching]

@[simp] theorem safeView_feedEvent (p : Plane) (s : State) : safeView (feedEvent p s) = safeView s := by
  unfold feedEvent
  split <;> simp

@[simp] theorem safeView_exitAtValley (p : Plane) (s : State) : safeView (exitAtValley p s) = safeView s := by simp [exitAtValley]
@[simp] theorem safeView_rampCount (p : Plane) (s : State) : safeView (rampCount p s) = safeView s := by simp [rampCount]

@[simp] theorem safeView_modSticky (p : Plane) (bit : ℕ) (cnt : Option ℕ) (s : State) :
    safeView (modSticky p bit cnt s) = safeView s := by
  unfold modSticky
  split <;> simp

@[simp] theorem safeView_reload (p : Plane) (was : Pat) (w : RaceWrite) (s : State) :
    safeView (reload p was w s) = safeView s := by simp [reload]

@[simp] theorem safeView_takeCas (p : Plane) (bs : List ℕ) (k : ℕ) (s : State) :
    safeView (takeCas p bs k s) = safeView s := by simp [takeCas]

@[simp] theorem safeView_loseAlign (p : Plane) (s : State) : safeView (loseAlign p s) = safeView s := by simp [loseAlign]

@[simp] theorem safeView_alignMark (p : Plane) (valley mark : ℤ) (s : State) :
    safeView (alignMark p valley mark s) = safeView s := by simp [alignMark]

@[simp] theorem safeView_alignValley (p : Plane) (valley : ℤ) (s : State) : safeView (alignValley p valley s) = safeView s := by
  unfold alignValley
  dsimp only
  (repeat' split) <;> simp

@[simp] theorem safeView_turnEvent (p : Plane) (bs : List ℕ) (cas : Bool) (w : RaceWrite) (s : State) :
    safeView (turnEvent p bs cas w s) = safeView s := by simp [turnEvent]

@[simp] theorem safeView_atStrobe (p : Plane) (x : ℤ) (s : State) : safeView (atStrobe p x s) = safeView s := by
  unfold atStrobe
  split <;> simp

@[simp] theorem safeView_catchUp (p : Plane) (bs : List ℕ) (x : ℤ) (k : ℕ) (s : State) :
    safeView (catchUp p bs x k s) = safeView s := by
  induction k generalizing s with
  | zero => rfl
  | succ k ih =>
    unfold catchUp
    dsimp only
    (repeat' split) <;> simp [ih]

@[simp] theorem safeView_beforeStrobe (n : ℕ) (bs : List ℕ) (s : State) :
    safeView (beforeStrobe n bs s) = safeView s := by simp [beforeStrobe]

@[simp] theorem safeView_newRatio (s : State) : safeView (newRatio s) = safeView s := by simp [newRatio]
@[simp] theorem safeView_recCount (div : ℕ) (s : State) : safeView (recCount div s) = safeView s := rfl

@[simp] theorem safeView_strobeMeas (len div : ℕ) (bs : List ℕ) (s : State) :
    safeView (strobeMeas len div bs s) = safeView s := by simp [strobeMeas]

@[simp] theorem safeView_playSample (s : State) : safeView (playSample s) = safeView s := rfl
@[simp] theorem safeView_replayStrobe (s : State) : safeView (replayStrobe s) = safeView s := by simp [replayStrobe]
@[simp] theorem safeView_restartStrobe (s : State) : safeView (restartStrobe s) = safeView s := by simp [restartStrobe]
@[simp] theorem safeView_startMdclk (s : State) : safeView (startMdclk s) = safeView s := by simp [startMdclk]

@[simp] theorem safeView_takeSamples (n : ℕ) (bs : List ℕ) (s : State) :
    safeView (takeSamples n bs s) = safeView s := by simp [takeSamples]

@[simp] theorem safeView_ascWanted (s : State) : safeView (ascWanted s) = safeView s := by simp [ascWanted]

@[simp] theorem safeView_noteRecon (s : State) : safeView (noteRecon s) = safeView s := by
  unfold noteRecon
  dsimp only
  (repeat' split) <;> simp

@[simp] theorem safeView_dropLegs (s : State) : safeView (dropLegs s) = safeView s := by simp [dropLegs]

@[simp] theorem safeView_switchKind (s : State) : safeView (switchKind s) = safeView s := by
  unfold switchKind
  split <;> simp

@[simp] theorem safeView_decideCarrier (p : Plane) (s : State) :
    safeView (decideCarrier p s) = safeView s := by simp [decideCarrier]

@[simp] theorem safeView_exitStep (p : Plane) (s : State) : safeView (exitStep p s) = safeView s := by simp [exitStep]
@[simp] theorem safeView_seedExit (p : Plane) (d : Dec) (s : State) : safeView (seedExit p d s) = safeView s := by simp [seedExit]
@[simp] theorem safeView_decideBand (p : Plane) (s : State) : safeView (decideBand p s) = safeView s := by simp [decideBand]
@[simp] theorem safeView_decideIdle (p : Plane) (s : State) : safeView (decideIdle p s) = safeView s := by simp [decideIdle]
@[simp] theorem safeView_keepWeights (s : State) : safeView (keepWeights s) = safeView s := by simp [keepWeights]

@[simp] theorem safeView_takeEntry (p : Plane) (e : Entry) (sre : Bool) (s : State) :
    safeView (takeEntry p e sre s) = safeView s := by simp [takeEntry]

@[simp] theorem safeView_tileFails (t : ℕ) (s : State) : safeView (tileFails t s) = safeView s := by simp [tileFails]
@[simp] theorem safeView_regionLookup (p : Plane) (s : State) : safeView (regionLookup p s) = safeView s := by simp [regionLookup]
@[simp] theorem safeView_laneRegion (p : Plane) (s : State) : safeView (laneRegion p s) = safeView s := by simp [laneRegion]
@[simp] theorem safeView_measureLane (p : Plane) (s : State) : safeView (measureLane p s) = safeView s := by simp [measureLane]
@[simp] theorem safeView_maskSector (p : Plane) (s : State) : safeView (maskSector p s) = safeView s := by simp [maskSector]
@[simp] theorem safeView_injectCheck (s : State) : safeView (injectCheck s) = safeView s := by simp [injectCheck]
@[simp] theorem safeView_meterCycle (s : State) : safeView (meterCycle s) = safeView s := by simp [meterCycle]
@[simp] theorem safeView_advanceGrid (s : State) : safeView (advanceGrid s) = safeView s := by simp [advanceGrid]

@[simp] theorem safeView_scrub (s : State) : safeView (scrub s) = safeView s := by
  unfold scrub
  split <;> simp

@[simp] theorem safeView_addSums (s : State) : safeView (addSums s) = safeView s := rfl
@[simp] theorem safeView_latch (p : Plane) (s : State) : safeView (latch p s) = safeView s := by simp [latch]
@[simp] theorem safeView_recordClose (s : State) : safeView (recordClose s) = safeView s := by simp [recordClose]

@[simp] theorem safeView_storeBundle (b : Bundle) (s : State) : safeView (storeBundle b s) = safeView s := by
  unfold storeBundle
  split <;> simp

@[simp] theorem safeView_evalUnits (s : State) : safeView (evalUnits s) = safeView s := by simp [evalUnits]
@[simp] theorem safeView_captureBundle (s : State) : safeView (captureBundle s) = safeView s := by simp [captureBundle]

@[simp] theorem safeView_commitThread (p : Plane) (s : State) : safeView (commitThread p s) = safeView s := by
  unfold commitThread
  dsimp only
  (repeat' split) <;> simp

@[simp] theorem safeView_adaptEnd (p : Plane) (s : State) : safeView (adaptEnd p s) = safeView s := by simp [adaptEnd]

@[simp] theorem safeView_carrierReload (p : Plane) (bs : List ℕ) (w : RaceWrite) (s : State) :
    safeView (carrierReload p bs w s) = safeView s := by simp [carrierReload]

@[simp] theorem safeView_publish (p : Plane) (user : Option RefSet) (s : State) : safeView (publish p user s) = safeView s := by
  unfold publish
  split <;> simp

theorem fillFifo_st (l : Lane) : (fillFifo l).st = l.st := rfl

theorem takeItem_st (w : BitVec 64) (l : Lane) : (takeItem w l).st = l.st := by
  unfold takeItem
  dsimp only
  split <;> rfl

@[simp] theorem safeView_teaselRead (p : Plane) (s : State) : safeView (teaselRead p s) = safeView s := by
  unfold teaselRead
  split
  · rfl
  · split
    · exact safeView_updLane rfl
    · split
      · exact (safeView_updLane (takeItem_st ..)).trans (safeView_updLane rfl)
      · exact (safeView_raiseNum ..).trans (safeView_updLane rfl)

@[simp] theorem safeView_writeItem (p : Plane) (w : BitVec 64) (s : State) : safeView (writeItem p w s) = safeView s :=
  safeView_updLane (fillFifo_st _)

@[simp] theorem safeView_giveStart (p : Plane) (step : ℕ) (s : State) :
    safeView (giveStart p step s) = safeView s := by simp [giveStart]

@[simp] theorem safeView_takeStarts (s : State) : safeView (takeStarts s) = safeView s := by simp [takeStarts]
@[simp] theorem safeView_writeSnapshot (s : State) : safeView (writeSnapshot s) = safeView s := by simp [writeSnapshot]
@[simp] theorem safeView_takeDone (s : State) : safeView (takeDone s) = safeView s := by simp [takeDone]
@[simp] theorem safeView_permitOn (s : State) : safeView (permitOn s) = safeView s := by simp [permitOn]

@[simp] theorem safeView_takePermit (s : State) : safeView (takePermit s) = safeView s := by
  unfold takePermit
  split <;> simp

@[simp] theorem safeView_ifStep (o : OuterIn) (s : State) : safeView (ifStep o s) = safeView s := by simp [ifStep]
@[simp] theorem safeView_noteOwner (s : State) : safeView (noteOwner s) = safeView s := by simp [noteOwner]

@[simp] theorem safeView_exhaustion (f w : ℚ) (s : State) : safeView (exhaustion f w s) = safeView s := by
  unfold exhaustion
  dsimp only
  (repeat' split) <;> simp

@[simp] theorem safeView_accountMeasure (o : OuterIn) (w : ℚ) (s : State) :
    safeView (accountMeasure o w s) = safeView s := by simp [accountMeasure]

@[simp] theorem safeView_writeGroup (p : Plane) (g : Group) (s : State) :
    safeView (writeGroup p g s) = safeView s := by simp [writeGroup]

@[simp] theorem safeView_dStep (pv : ℚ) (s : State) : safeView (dStep pv s) = safeView s := by simp [dStep]
@[simp] theorem safeView_writePSet (prec : ℚ) (s : State) : safeView (writePSet prec s) = safeView s := by simp [writePSet]
@[simp] theorem safeView_setInertia (f w : ℚ) (s : State) : safeView (setInertia f w s) = safeView s := by simp [setInertia]
@[simp] theorem safeView_fieldWeaken (v : ℚ × ℚ) (s : State) : safeView (fieldWeaken v s) = safeView s := by simp [fieldWeaken]
@[simp] theorem safeView_writeMask (id v : ℕ) (s : State) : safeView (writeMask id v s) = safeView s := rfl

@[simp] theorem safeView_sixStep (o : OuterIn) (f : ℚ) (v : ℚ × ℚ) (s : State) :
    safeView (sixStep o f v s).1 = safeView s := by simp [sixStep]

@[simp] theorem safeView_mGain (f : ℚ) (s : State) : safeView (mGain f s) = safeView s := by simp [mGain]

@[simp] theorem safeView_mGroup (o : OuterIn) (th f w : ℚ) (s : State) :
    safeView (mGroup o th f w s) = safeView s := by simp [mGroup]

@[simp] theorem safeView_campionStop (p : Plane) (s : State) : safeView (campionStop p s) = safeView s := by simp [campionStop]

@[simp] theorem safeView_dcLow (s : State) : safeView (dcLow s) = safeView s := by
  unfold dcLow
  split <;> simp

@[simp] theorem safeView_bStep (s : State) : safeView (bStep s) = safeView s := by simp [bStep]
@[simp] theorem safeView_mBoundary (o : OuterIn) (s : State) : safeView (mBoundary o s) = safeView s := by simp [mBoundary]
@[simp] theorem safeView_gReadback (s : State) : safeView (gReadback s) = safeView s := by simp [gReadback]
@[simp] theorem safeView_stepEst (s : State) : safeView (stepEst s) = safeView s := by simp [stepEst]
@[simp] theorem safeView_gMeasure (s : State) : safeView (gMeasure s) = safeView s := by simp [gMeasure]
@[simp] theorem safeView_busDisagree (o : GEst) (s : State) : safeView (busDisagree o s) = safeView s := by simp [busDisagree]
@[simp] theorem safeView_switchAt (kind : ℕ) (s : State) : safeView (switchAt kind s) = safeView s := by simp [switchAt]

@[simp] theorem safeView_gGroup (d q vd vq f : ℚ) (k : ℕ) (s : State) :
    safeView (gGroup d q vd vq f k s) = safeView s := by simp [gGroup]

@[simp] theorem safeView_blended (dem : ℚ × ℚ) (s : State) : safeView (blended dem s).2 = safeView s := by
  unfold blended
  split <;> simp

@[simp] theorem safeView_formGroup (o : GEst) (frame : ℚ) (k : ℕ) (s : State) :
    safeView (formGroup o frame k s) = safeView s := by
  simp [formGroup]

@[simp] theorem safeView_takeStart (o : GEst) (r : Restored) (s : State) :
    safeView (takeStart o r s) = safeView s := by simp [takeStart]

@[simp] theorem safeView_startBlend (init dem : ℚ × ℚ) (s : State) :
    safeView (startBlend init dem s) = safeView s := by simp [startBlend]

@[simp] theorem safeView_followGroup (o : GEst) (wset : ℚ) (k : ℕ) (s : State) :
    safeView (followGroup o wset k s) = safeView s := by
  simp [followGroup]

@[simp] theorem safeView_toFollowLaw (o : GEst) (th f : ℚ) (s : State) :
    safeView (toFollowLaw o th f s) = safeView s := by simp [toFollowLaw]

@[simp] theorem safeView_toFormLaw (o : GEst) (th f : ℚ) (s : State) :
    safeView (toFormLaw o th f s) = safeView s := by simp [toFormLaw]

@[simp] theorem safeView_startLaw (o : GEst) (s : State) : safeView (startLaw o s) = safeView s := by simp [startLaw]

@[simp] theorem safeView_startG (o : GEst) (s : State) : safeView (startG o s) = safeView s := by
  unfold startG
  (repeat' split) <;> simp

@[simp] theorem safeView_auxEdge (s : State) : safeView (auxEdge s) = safeView s := by simp [auxEdge]

@[simp] theorem safeView_injectEnd (written : Bool) (s : State) :
    safeView (injectEnd written s) = safeView s := by simp [injectEnd]

@[simp] theorem safeView_frtExit (s : State) : safeView (frtExit s) = safeView s := by
  unfold frtExit
  split <;> simp

@[simp] theorem safeView_frtStep (o : GEst) (s : State) : safeView (frtStep o s) = safeView s := by simp [frtStep]
@[simp] theorem safeView_limitStep (s : State) : safeView (limitStep s) = safeView s := by simp [limitStep]
@[simp] theorem safeView_syncStep (o : GEst) (s : State) : safeView (syncStep o s) = safeView s := by simp [syncStep]
@[simp] theorem safeView_deadPermit (o : GEst) (s : State) : safeView (deadPermit o s) = safeView s := by simp [deadPermit]

@[simp] theorem safeView_gridLoss (o : GEst) (opened : Bool) (s : State) :
    safeView (gridLoss o opened s) = safeView s := by simp [gridLoss]

@[simp] theorem safeView_followStep (o : GEst) (s : State) : safeView (followStep o s) = safeView s := by simp [followStep]

@[simp] theorem safeView_followRun (o : GEst) (opened : Bool) (req : Option ℕ) (s : State) :
    safeView (followRun o opened req s) = safeView s := by simp [followRun]

@[simp] theorem safeView_swing (o : GEst) (wset : ℚ) (s : State) : safeView (swing o wset s) = safeView s := by simp [swing]
@[simp] theorem safeView_formStep (o : GEst) (s : State) : safeView (formStep o s) = safeView s := by simp [formStep]
@[simp] theorem safeView_rampStep (s : State) : safeView (rampStep s) = safeView s := by simp [rampStep]

@[simp] theorem safeView_takeRamp (s : State) : safeView (takeRamp s) = safeView s := by
  unfold takeRamp
  dsimp only
  (repeat' split) <;> simp

@[simp] theorem safeView_gRun (o : GEst) (s : State) : safeView (gRun o s) = safeView s := by simp [gRun]
@[simp] theorem safeView_gNone (s : State) : safeView (gNone s) = safeView s := by simp [gNone]
@[simp] theorem safeView_endLaw (s : State) : safeView (endLaw s) = safeView s := by simp [endLaw]
@[simp] theorem safeView_gBoundary (s : State) : safeView (gBoundary s) = safeView s := by simp [gBoundary]
@[simp] theorem safeView_allLaws (o : OuterIn) (s : State) : safeView (allLaws o s) = safeView s := by simp [allLaws]
@[simp] theorem safeView_withIndex (k : ℕ) (s : State) : safeView (withIndex k s) = safeView s := by simp [withIndex]

@[simp] theorem safeView_twoBoundaries (o : OuterIn) (s : State) :
    safeView (twoBoundaries o s) = safeView s := by simp [twoBoundaries]

@[simp] theorem safeView_lawsAt (o : OuterIn) (s : State) : safeView (lawsAt o s) = safeView s := by
  unfold lawsAt
  split <;> simp

@[simp] theorem safeView_keepRefs (p : Plane) (src s : State) : safeView (keepRefs p src s) = safeView s := by simp [keepRefs]

@[simp] theorem safeView_dryRun (p : Plane) (o : OuterIn) (s real : State) : safeView (dryRun p o s real) = safeView real := by
  unfold dryRun
  (repeat' split) <;> simp

@[simp] theorem safeView_outerBoundary (o : OuterIn) (s : State) : safeView (outerBoundary o s) = safeView s := by
  unfold outerBoundary
  dsimp only
  (repeat' split) <;> simp

@[simp] theorem safeView_encLost (n : ℕ) (s : State) : safeView (encLost n s) = safeView s := by simp [encLost]

@[simp] theorem safeView_encoderIndex (enc x : ℕ) (s : State) :
    safeView (encoderIndex enc x s) = safeView s := by simp [encoderIndex]

@[simp] theorem safeView_withdrawLeg (n : ℕ) (s : State) : safeView (withdrawLeg n s) = safeView s := by simp [withdrawLeg]

@[simp] theorem safeView_ctlLoss (n : ℕ) (x : ℤ) (k : Loss) (s : State) :
    safeView (ctlLoss n x k s) = safeView s := by simp [ctlLoss]

@[simp] theorem safeView_clkFault (n : ℕ) (x : ℤ) (faulty : Bool) (s : State) :
    safeView (clkFault n x faulty s) = safeView s := by simp [clkFault]

@[simp] theorem safeView_streamValid (n : ℕ) (inPrt : Bool) (s : State) :
    safeView (streamValid n inPrt s) = safeView s := by simp [streamValid]

@[simp] theorem safeView_skewAuto (n : ℕ) (up : Bool) (s : State) : safeView (skewAuto n up s) = safeView s := by
  unfold skewAuto
  dsimp only
  (repeat' split) <;> simp

@[simp] theorem safeView_meterOutput (bs : List ℕ) (s : State) : safeView (meterOutput bs s) = safeView s :=
  safeView_foldl (f := fun s (x : Nat × MPort × Rat) => setMport x.1 x.2.1 s) (fun _ _ => rfl) _ s

@[simp] theorem safeView_clkHoldover (s : State) : safeView (clkHoldover s) = safeView s := by simp [clkHoldover]

@[simp] theorem safeView_refQualified (alt : Bool) (s : State) :
    safeView (refQualified alt s) = safeView s := by simp [refQualified]

@[simp] theorem safeView_clkAltUsed (s : State) : safeView (clkAltUsed s) = safeView s := by simp [clkAltUsed]
@[simp] theorem safeView_disqualify (w : FreqWin) (s : State) : safeView (disqualify w s) = safeView s := by simp [disqualify]
@[simp] theorem safeView_unalign (s : State) : safeView (unalign s) = safeView s := by simp [unalign]
@[simp] theorem safeView_clkFallback (s : State) : safeView (clkFallback s) = safeView s := by simp [clkFallback]
@[simp] theorem safeView_clkReturn (s : State) : safeView (clkReturn s) = safeView s := by simp [clkReturn]

@[simp] theorem safeView_newMaster (port m : ℕ) (s : State) : safeView (newMaster port m s) = safeView s := by
  unfold newMaster
  split <;> simp

@[simp] theorem safeView_writeRate (slew : ℤ) (s : State) : safeView (writeRate slew s) = safeView s := by simp [writeRate]
@[simp] theorem safeView_servoStep (off : ℤ) (s : State) : safeView (servoStep off s) = safeView s := by simp [servoStep]

@[simp] theorem safeView_treatOffset (off slew : ℤ) (s : State) :
    safeView (treatOffset off slew s) = safeView s := by simp [treatOffset]

@[simp] theorem safeView_ptpSync (m : PtpSync) (s : State) : safeView (ptpSync m s) = safeView s := by simp [ptpSync]

@[simp] theorem safeView_acceptDelay (port : ℕ) (d : ℤ) (s : State) :
    safeView (acceptDelay port d s) = safeView s := by simp [acceptDelay]

@[simp] theorem safeView_pathDelay (port : ℕ) (d : ℤ) (s : State) : safeView (pathDelay port d s) = safeView s := by
  unfold pathDelay
  split <;> simp

@[simp] theorem safeView_ptpHoldover (s : State) : safeView (ptpHoldover s) = safeView s := by simp [ptpHoldover]

@[simp] theorem safeView_ptpForward (n : ℕ) (m : PtpMsg) (res : ℤ) (s : State) :
    safeView (ptpForward n m res s) = safeView s := by
  unfold ptpForward
  dsimp only
  (repeat' split) <;> simp

@[simp] theorem safeView_replicaRealign (found : List ℚ) (s : State) : safeView (replicaRealign found s) = safeView s := rfl
@[simp] theorem safeView_tcFire (tc x : ℕ) (s : State) : safeView (tcFire tc x s) = safeView s := by simp [tcFire]

@[simp] theorem safeView_serveQueue (n dt q : ℕ) (guard : Option ℕ) (k : ℕ) (s : State) :
    safeView (serveQueue n dt q guard k s).1 = safeView s := by
  induction k generalizing s with
  | zero => rfl
  | succ k ih =>
    unfold serveQueue
    dsimp only
    (repeat' split) <;> simp [ih]

@[simp] theorem safeView_servePort (n dt : ℕ) (s : State) : safeView (servePort n dt s) = safeView s := by
  unfold servePort
  split
  · rfl
  · refine safeView_foldl_fst (fun a q => ?_) _ _
    split <;> simp

@[simp] theorem safeView_slowStream (s : State) : safeView (slowStream s) = safeView s := by simp [slowStream]

@[simp] theorem safeView_replayTileBad (tile : ℕ) (s : State) : safeView (replayTileBad tile s) = safeView s := by
  unfold replayTileBad
  split <;> simp

@[simp] theorem safeView_replayEnds (r : RpEnd) (s : State) : safeView (replayEnds r s) = safeView s := by
  unfold replayEnds
  split <;> simp

@[simp] theorem safeView_disqualifyYclk (s : State) : safeView (disqualifyYclk s) = safeView s := by simp [disqualifyYclk]
@[simp] theorem safeView_becomeHead (s : State) : safeView (becomeHead s) = safeView s := by simp [becomeHead]
@[simp] theorem safeView_updYbus (f : Ybus → Ybus) (s : State) : safeView (updYbus f s) = safeView s := rfl
@[simp] theorem safeView_yclkBack (s : State) : safeView (yclkBack s) = safeView s := by simp [yclkBack]
@[simp] theorem safeView_setBus (t : ℚ) (s : State) : safeView (setBus t s) = safeView s := by simp [setBus]

@[simp] theorem safeView_surveyDone (v : Survey) (s : State) : safeView (surveyDone v s) = safeView s := by
  unfold surveyDone
  split
  · rfl
  · extract_lets n l own ok s1 s2 s3
    have h1 : safeView s1 = safeView s := (safeView_setParBit ..).trans ((safeView_setParBit ..).trans
      ((safeView_setParBits ..).trans (safeView_setParBits ..)))
    have h2 : safeView s2 = safeView s1 := (safeView_setPar ..).trans ((safeView_setPar ..).trans (safeView_updYbus ..))
    have h3 : safeView s3 = safeView s := (safeView_raiseFlag ..).trans (h2.trans h1)
    rw [← h3]
    split
    · exact (safeView_emit ..).trans (safeView_updTime ..)
    · exact safeView_setBus ..

@[simp] theorem safeView_crossCheck (s : State) : safeView (crossCheck s) = safeView s := by simp [crossCheck]

@[simp] theorem safeView_pairCheck (pos : ℕ) (s : State) : safeView (pairCheck pos s) = safeView s := by
  unfold pairCheck
  dsimp only
  (repeat' split) <;> simp

@[simp] theorem safeView_alignmentMark (x : ℚ) (s : State) : safeView (alignmentMark x s) = safeView s := by simp [alignmentMark]

@[simp] theorem safeView_ilvAtMark (s : State) : safeView (ilvAtMark s) = safeView s := by
  unfold ilvAtMark
  split
  · split
    · rw [safeView_complete, safeView_updRed, safeView_showVerdict]
      exact safeView_foldl (fun _ _ => safeView_setPar ..) _ _
    · rfl
  · rfl

@[simp] theorem safeView_carrierMark (x : ℤ) (s : State) : safeView (carrierMark x s) = safeView s := by simp [carrierMark]

@[simp] theorem safeView_groupTrigger (tr : ℚ) (width : ℕ) (s : State) :
    safeView (groupTrigger tr width s) = safeView s := by simp [groupTrigger]

@[simp] theorem safeView_applyTrigger (s : State) : safeView (applyTrigger s) = safeView s := by
  unfold applyTrigger
  split <;> simp

@[simp] theorem safeView_bulkData (bad : Bool) (s : State) : safeView (bulkData bad s) = safeView s := by
  unfold bulkData
  dsimp only
  (repeat' split) <;> simp

@[simp] theorem safeView_eventsLost (s : State) : safeView (eventsLost s) = safeView s := by simp [eventsLost]

@[simp] theorem safeView_bothLinks (kind : ℕ) (b : List Byte) (s : State) :
    safeView (bothLinks kind b s) = safeView s := by simp [bothLinks]

@[simp] theorem safeView_sendFragment (da : ℕ) (s : State) : safeView (sendFragment da s) = safeView s := by
  unfold sendFragment
  split <;> simp

@[simp] theorem safeView_failFrame (c : ℕ) (s : State) : safeView (failFrame c s) = safeView s := by simp [failFrame]

@[simp] theorem safeView_sendHb (s : State) : safeView (sendHb s) = safeView s := by
  unfold sendHb
  split <;> simp

@[simp] theorem safeView_calibrate (tick : Bool) (n aon : ℕ) (s : State) : safeView (calibrate tick n aon s) = safeView s := by
  unfold calibrate
  split <;> simp

@[simp] theorem safeView_heartbeatSend (da aon edge : ℕ) (s : State) : safeView (heartbeatSend da aon edge s) = safeView s := by
  unfold heartbeatSend
  dsimp only
  (repeat' split) <;> simp

@[simp] theorem safeView_updPath (link : ℕ) (f : Path → Path) (s : State) :
    safeView (updPath link f s) = safeView s := by simp [updPath]

@[simp] theorem safeView_countMisses (link n : ℕ) (s : State) :
    safeView (countMisses link n s) = safeView s := by simp [countMisses]

@[simp] theorem safeView_takeHb (h : Hb) (s : State) : safeView (takeHb h s) = safeView s := by simp [takeHb]
@[simp] theorem safeView_pathGood (link : ℕ) (s : State) : safeView (pathGood link s) = safeView s := by simp [pathGood]

@[simp] theorem safeView_heartbeatReceive (link missed aon : ℕ) (b : List Byte) (s : State) :
    safeView (heartbeatReceive link missed aon b s) = safeView s := by simp [heartbeatReceive]

@[simp] theorem safeView_keepSnap (b : List Byte) (s : State) : safeView (keepSnap b s) = safeView s := by simp [keepSnap]

@[simp] theorem safeView_snapFragment (aon : ℕ) (b : List Byte) (s : State) :
    safeView (snapFragment aon b s) = safeView s := by simp [snapFragment]

@[simp] theorem safeView_pathDown (link missed : ℕ) (s : State) :
    safeView (pathDown link missed s) = safeView s := by simp [pathDown]

@[simp] theorem safeView_sendFail (s : State) : safeView (sendFail s) = safeView s := by
  unfold sendFail
  dsimp only
  (repeat' split) <;> simp

@[simp] theorem safeView_setRole (r : ℕ) (s : State) : safeView (setRole r s) = safeView s := by simp [setRole]

@[simp] theorem safeView_roleWindow (s : State) : safeView (roleWindow s) = safeView s := by
  unfold roleWindow
  dsimp only
  (repeat' split) <;> simp

@[simp] theorem safeView_descriptorSend (s : State) : safeView (descriptorSend s) = safeView s := by simp [descriptorSend]

@[simp] theorem safeView_descriptorReceive (src : ℕ) (b : List Byte) (s : State) :
    safeView (descriptorReceive src b s) = safeView s := by simp [descriptorReceive]

@[simp] theorem safeView_memberLost (pos : ℕ) (s : State) : safeView (memberLost pos s) = safeView s := by simp [memberLost]
@[simp] theorem safeView_debugHalt (s : State) : safeView (debugHalt s) = safeView s := by simp [debugHalt]
@[simp] theorem safeView_debugResume (s : State) : safeView (debugResume s) = safeView s := by simp [debugResume]

@[simp] theorem safeView_jtag (i : JtagIns) (s : State) : safeView (jtag i s) = safeView s := by
  unfold jtag
  dsimp only
  (repeat' split) <;> simp

@[simp] theorem safeView_frameForward (n : ℕ) (pcp : Option ℕ) (bytes : List Byte) (s : State) :
    safeView (frameForward n pcp bytes s) = safeView s := by simp [frameForward]

@[simp] theorem safeView_loseHead (s : State) : safeView (loseHead s) = safeView s := by simp [loseHead]
@[simp] theorem safeView_yclkLost (s : State) : safeView (yclkLost s) = safeView s := by simp [yclkLost]

@[simp] theorem safeView_archiveComplete (s : State) : safeView (archiveComplete s) = safeView s := by
  unfold archiveComplete
  split <;> simp

@[simp] theorem safeView_settingsSaved (s : State) : safeView (settingsSaved s) = safeView s := by
  unfold settingsSaved
  split <;> simp

@[simp] theorem safeView_selfTestComplete (hw : ℕ) (s : State) : safeView (selfTestComplete hw s) = safeView s := by
  unfold selfTestComplete
  split <;> simp

end Sys2Proof.Machine
end

section
/-! PROOFS. SAFE_ENTRY, bit 2 of HWIN_IRQ, is set at every entry of a plane into SAFE (R326). A plane enters SAFE in `enterSafe` alone,
which sets the bit; the other functions that write a plane's state write another one, and none clears the bit but a write of HWIN_IRQ and
a reset, which enter no plane into SAFE. So one property passes through every function of the model: the bit is set, or a plane that is
in SAFE was there before. Settles O5. -/

namespace Sys2Proof.Machine
open Sys2Proof

variable {Q : Plane → Prop}

/-- SAFE_ENTRY is set, or every plane in SAFE is one of `Q`: those that were in SAFE before. -/
def Marked (Q : Plane → Prop) (s : State) : Prop :=
  s.host.irq.getLsbD 2 = true ∨ ∀ p, (lane s p).st = .safe → Q p

/-- What a command gives is marked. -/
def Gives (Q : Plane → Prop) (o : Host.Outcome State Fault Refusal) : Prop := ∀ t, o = .next t → Marked Q t

theorem Gives.next {t : State} (ht : Marked Q t) : Gives Q (.next t) := by
  rintro _ ⟨⟩
  exact ht

theorem Marked.frame {s t : State} (hv : safeView t = safeView s) (hs : Marked Q s) : Marked Q t := by
  obtain ⟨hirq, hst⟩ := safeView_eq_iff.1 hv
  simp only [Marked, hirq, hst]
  exact hs

theorem Marked.at_ite {c : Prop} [Decidable c] {s t : State} (hs : Marked Q s) (ht : Marked Q t) :
    Marked Q (if c then s else t) := by
  split <;> assumption

theorem Marked.at_foldl {α : Type} {f : State → α → State} {l : List α} {s : State} (hf : ∀ s x, Marked Q s → Marked Q (f s x))
    (hs : Marked Q s) :
    Marked Q (l.foldl f s) := by
  induction l generalizing s with
  | nil => exact hs
  | cons x t ih => exact ih (hf s x hs)

theorem Marked.at_serve {cls op flags : Nat} {e : Env} {needs : State → Bool} {body : Nat → State → State × Ans} {s : State}
    (hb : ∀ n s, Marked Q s → Marked Q (body n s).1) (hs : Marked Q s) :
    Marked Q (serve cls op e flags needs body s) :=
  serve_view (fun _ _ => .frame) hb hs

theorem Marked.at_serveShort {cls op : Nat} {e : Env} {body : State → State × Ans} {s : State}
    (hb : ∀ s, Marked Q s → Marked Q (body s).1) (hs : Marked Q s) :
    Marked Q (serveShort cls op e body s) :=
  .at_serve (fun _ => hb) hs

theorem Marked.at_serveLong {cls op : Nat} {e : Env} {body : Nat → State → State × Ans} {s : State}
    (hb : ∀ n s, Marked Q s → Marked Q (body n s).1) (hs : Marked Q s) :
    Marked Q (serveLong cls op e body s) :=
  .at_serve hb hs

theorem Marked.at_withLength {ok : Bool} {cls op : Nat} {e : Env} {f : State → State} {s : State}
    (hf : ∀ s, Marked Q s → Marked Q (f s)) (hs : Marked Q s) :
    Marked Q (withLength ok cls op e f s) :=
  withLength_view (fun _ _ => .frame) hf hs

theorem Marked.at_accepted {op : Nat} {e : Env} {work : State → State} {s : State} (hw : ∀ s, Marked Q s → Marked Q (work s))
    (hs : Marked Q s) :
    Marked Q (accepted op e work s).1 :=
  hw _ (.frame (by simp) hs)

theorem Marked.at_done {f : State → State} {s : State} (hf : ∀ s, Marked Q s → Marked Q (f s)) (hs : Marked Q s) :
    Marked Q (done f s).1 :=
  hf s hs

theorem Marked.at_eachPlane {f : Plane → State → State} {s : State} (hf : ∀ p s, Marked Q s → Marked Q (f p s)) (hs : Marked Q s) :
    Marked Q (eachPlane f s) :=
  .at_foldl (fun s p => hf p s) hs

theorem Marked.at_eachFt {f : Plane → Nat → State → State} {s : State} (hf : ∀ p i s, Marked Q s → Marked Q (f p i s))
    (hs : Marked Q s) :
    Marked Q (eachFt f s) :=
  .at_foldl (fun _ p => .at_foldl (fun s i => hf p i s)) hs

theorem Marked.at_ite_fst {α : Type} {c : Prop} [Decidable c] {x y : State × α} (hx : Marked Q x.1) (hy : Marked Q y.1) :
    Marked Q (if c then x else y).1 := by
  split <;> assumption

theorem Marked.at_takeWaiting {eng : Engine} {f : Nat → Nat → State → State} {s : State}
    (hf : ∀ i v s, Marked Q s → Marked Q (f i v s)) (hs : Marked Q s) :
    Marked Q (takeWaiting eng f s) :=
  .at_foldl (fun s _ => hf _ _ s) hs

/-! ## The gate blocks -/

theorem Marked.at_enterSafe {p : Plane} {code : Nat} {soft : Ports} {s : State} : Marked Q (enterSafe p code soft s) :=
  .inl (by simp [enterSafe_irq])

theorem Marked.at_enterState {p : Plane} {st : PState} {sub : SafeSub} {s : State} (hst : st ≠ .safe) (hs : Marked Q s) :
    Marked Q (enterState p st sub s) := by
  refine hs.imp (fun h => by rwa [enterState_host_irq]) fun h q hq => ?_
  by_cases hqp : q = p
  · subst hqp
    rw [lane_enterState_same] at hq
    exact absurd hq hst
  · rw [lane_enterState_other _ _ _ hqp] at hq
    exact h q hq

theorem Marked.at_causeAt {p : Plane} {code : Nat} {soft : Ports} {s : State} (hs : Marked Q s) :
    Marked Q (causeAt p code soft s) := by
  unfold causeAt
  split
  · exact hs
  · split
    · exact .at_enterSafe
    · exact .at_enterSafe
    · exact .at_enterSafe
    · exact .at_ite (.frame (safeView_rechoose ..) hs) hs
    · exact hs

theorem Marked.at_causeEach {ps : List Plane} {code : Nat} {soft : Ports} {s : State} (hs : Marked Q s) :
    Marked Q (causeEach ps code soft s) :=
  .at_foldl (fun _ _ h => .at_causeAt h) hs

theorem Marked.at_causeEvery {code : Nat} {soft : Ports} {s : State} (hs : Marked Q s) : Marked Q (causeEvery code soft s) :=
  .at_causeEach hs

/-! ## Protection -/

theorem Marked.at_haltFall {s : State} (hs : Marked Q s) : Marked Q (haltFall s) := .at_causeEvery (.frame (safeView_settle ..) hs)

theorem Marked.at_stoLow {second : Bool} {s : State} (hs : Marked Q s) : Marked Q (stoLow second s) :=
  .at_causeEvery (.frame (safeView_forceBlock ..) (.frame (safeView_settle ..) hs))

theorem Marked.at_uvloDeclare {n : Nat} {m : Mon} {s : State} (hs : Marked Q s) : Marked Q (uvloDeclare n m s) :=
  .at_ite (.frame (safeView_rechoose ..) (.at_causeAt (.frame (safeView_settle ..) (.frame (safeView_setMon ..) hs)))) hs

theorem Marked.at_shortDesat {l : List (Nat × Bool)} {s : State} (hs : Marked Q s) : Marked Q (shortDesat l s) :=
  .at_foldl (fun _ _ h => .at_causeAt h) (.frame (safeView_settle ..)
    (.at_foldl (fun _ _ h => .frame (safeView_latchFault ..) h) (.at_ite hs
    (.frame (safeView_updPrt ..) hs))))

theorem Marked.at_shortHard {n : Nat} {up : Bool} {s : State} (hs : Marked Q s) : Marked Q (shortHard n up s) :=
  .at_ite (.at_causeAt (.frame (safeView_settle ..) (.frame (safeView_latchFault ..) (.frame (safeView_updPrt ..) hs)))) hs

theorem Marked.at_gateBudget {p pin : Nat} {s : State} (hs : Marked Q s) : Marked Q (gateBudget p pin s) :=
  .at_ite hs (.at_ite (.at_causeEach (.frame (by simp) hs)) hs)

theorem Marked.at_tBaseUpdate {t : Int} {s : State} (hs : Marked Q s) : Marked Q (tBaseUpdate t s) :=
  .at_ite hs (.at_ite (.at_causeEvery (.at_ite (.frame (safeView_raiseNum ..) (.frame (safeView_updPrt ..) hs)) (.at_ite
    (.frame (safeView_updPrt ..) hs) hs))) (.at_ite (.frame (safeView_raiseNum ..) (.frame (safeView_updPrt ..) hs)) (.at_ite
      (.frame (safeView_updPrt ..) hs) hs)))

theorem Marked.at_boundaryCount {p : Plane} {s : State} (hs : Marked Q s) : Marked Q (boundaryCount p s) :=
  .at_ite (.at_causeAt (.frame (safeView_setPar ..) (.at_ite (.frame (safeView_count ..) (.frame (safeView_updPrt ..) hs))
    (.frame (safeView_updPrt ..) hs)))) (.frame (safeView_setPar ..) (.at_ite (.frame (safeView_count ..)
      (.frame (safeView_updPrt ..) hs))
      (.frame (safeView_updPrt ..) hs)))

/-! ## Measurement -/

theorem Marked.at_lossAction {code : Nat} {s : State} (hs : Marked Q s) : Marked Q (lossAction code s) :=
  .at_ite hs (.at_ite (.frame (safeView_withdrawLeg ..) hs) (.at_ite hs (.at_ite (.at_causeEvery
    (.frame (safeView_chopStop ..) hs)) (.at_causeEach hs))))

theorem Marked.at_prtLoss {n : Nat} {k : Loss} {s : State} (hs : Marked Q s) : Marked Q (prtLoss n k s) :=
  .at_lossAction (.frame (by simp) hs)

theorem Marked.at_declareLoss {n : Nat} {at' : Int} {inPrt : Bool} {k : Loss} {s : State} (hs : Marked Q s) :
    Marked Q (declareLoss n at' inPrt k s) :=
  .at_ite hs (.at_ite (.at_prtLoss hs) (.frame (by simp) hs))

/-! ## The Region Gain Table -/

theorem Marked.at_sreCheck {s : State} (hs : Marked Q s) : Marked Q (sreCheck s) :=
  .at_foldl (fun _ _ h => .at_ite (.at_causeAt (.frame (by simp) h)) h) hs

/-! ## Clocks -/

theorem Marked.at_startFallback {s : State} (hs : Marked Q s) : Marked Q (startFallback s) := .at_ite hs (.at_causeEvery hs)

theorem Marked.at_freqWindow {w : FreqWin} {s : State} (hs : Marked Q s) : Marked Q (freqWindow w s) :=
  .at_ite hs (.at_ite (.at_startFallback (.frame (by simp) hs)) (.frame (by simp) hs))

/-! ## Lanes -/

theorem Marked.at_requestSafe {p : Plane} {s : State} (hs : Marked Q s) : Marked Q (requestSafe p s) :=
  .at_ite hs (.frame (safeView_updLane rfl) (.at_causeAt hs))

theorem Marked.at_feExpire {p : Plane} {leg : Nat} {s : State} (hs : Marked Q s) : Marked Q (feExpire p leg s) := by
  unfold feExpire
  split
  · exact .frame (by simp) hs
  · exact .at_ite (.frame (by simp) hs) (.at_requestSafe (.frame (by simp) hs))
  · exact .at_requestSafe (.frame (by simp) hs)

theorem Marked.at_supervise {p : Plane} {m : Meas} {s : State} (hs : Marked Q s) : Marked Q (supervise p m s) :=
  .at_ite (.at_foldl (fun _ _ h => .at_ite (.at_feExpire (.frame (safeView_updLane rfl) h)) (.frame (safeView_updLane rfl) h)) hs)
    (.frame (safeView_updLane rfl) hs)

/-! ## Trip measurement -/

theorem Marked.at_ftCause {soft : Ports} {x : Plane × Nat} {s : State} (hs : Marked Q s) : Marked Q (ftCause soft s x) := by
  unfold ftCause
  split
  · exact .at_causeAt hs
  · exact .at_causeEvery hs
  · exact hs

theorem Marked.at_ftActs {s : State} (hs : Marked Q s) : Marked Q (ftActs s) :=
  .at_foldl (fun _ _ h => .at_ftCause h) (.frame (safeView_settle ..) (.at_foldl (fun _ _ h => .frame (safeView_makeCut ..) h) hs))

theorem Marked.at_staticCheck {s : State} (hs : Marked Q s) : Marked Q (staticCheck s) := by
  unfold staticCheck
  split
  · exact hs
  · exact .at_ite (.at_causeEach hs) hs

theorem Marked.at_tripOutput {bs edges : List Nat} {s : State} (hs : Marked Q s) : Marked Q (tripOutput bs edges s) :=
  .at_ite (.frame (safeView_chopEval ..) (.at_staticCheck (.at_ftActs
    (.at_eachFt (fun _ _ _ h => .frame (safeView_ftEval ..) h) (.frame (safeView_writeCuts ..) (.frame
    (safeView_tripMeas ..) (.frame (safeView_agePorts ..) hs))))))) hs

/-! ## Planes -/

/-- A lane that is written in a state other than SAFE marks nothing. -/
theorem Marked.at_updLane {p : Plane} {f : Lane → Lane} {s : State} (hf : (f (lane s p)).st ≠ .safe) (hs : Marked Q s) :
    Marked Q (updLane p f s) := by
  refine hs.imp id fun h q hq => ?_
  by_cases hqp : q = p
  · subst hqp
    rw [updLane, lane_setLane_same] at hq
    exact absurd hq hf
  · rw [updLane, lane_setLane_other _ _ hqp] at hq
    exact h q hq

theorem Marked.at_doEnable {p : Plane} {s : State} (hs : Marked Q s) : Marked Q (doEnable p s) :=
  .at_enterState (by decide) (.frame (safeView_startCounter ..) (.frame (safeView_initMod ..) (.frame (safeView_rebinLane ..)
    (.at_updLane nofun hs))))

theorem Marked.at_doDisable {p : Plane} {s : State} (hs : Marked Q s) : Marked Q (doDisable p s) :=
  .at_ite (.frame (safeView_endReplay ..) (.at_enterState (by decide) hs)) (.at_enterState (by decide) hs)

theorem Marked.at_enterReady {p : Plane} {s : State} (hs : Marked Q s) : Marked Q (enterReady p s) :=
  .at_ite (.at_ite (.at_causeAt (.frame (safeView_updLane rfl) (.frame (safeView_settle ..) (.at_enterState (by decide)
    (.frame (safeView_initMod ..)
    (.frame (safeView_releaseOvr ..) hs)))))) (.frame (safeView_updLane rfl) (.frame (safeView_settle ..)
      (.at_enterState (by decide) (.frame (safeView_initMod ..)
      (.frame (safeView_releaseOvr ..) hs)))))) (.at_causeAt (.frame (safeView_forceBlock ..) (.at_ite (.at_causeAt
        (.frame (safeView_updLane rfl) (.frame (safeView_settle ..) (.at_enterState (by decide) (.frame (safeView_initMod ..)
          (.frame (safeView_releaseOvr ..) hs)))))) (.frame (safeView_updLane rfl) (.frame (safeView_settle ..)
            (.at_enterState (by decide) (.frame (safeView_initMod ..) (.frame (safeView_releaseOvr ..) hs))))))))

theorem Marked.at_doDisarm {p : Plane} {s : State} (hs : Marked Q s) : Marked Q (doDisarm p s) :=
  .frame (safeView_settle ..) (.at_enterState (by decide) (.frame (safeView_updLane rfl) (.frame (safeView_suppliesOff ..)
    (.frame (safeView_override ..) (.frame (safeView_updPrt ..) hs)))))

theorem Marked.at_doTestEnter {p : Plane} {s : State} (hs : Marked Q s) : Marked Q (doTestEnter p s) :=
  .frame (safeView_driveTest ..) (.at_enterState (by decide) (.frame (safeView_updPrt ..) (.frame (safeView_updLane rfl) hs)))

theorem Marked.at_doTestExit {p : Plane} {s : State} (hs : Marked Q s) : Marked Q (doTestExit p s) :=
  .at_enterReady (.frame (safeView_updLane rfl) hs)

theorem Marked.at_doClear {p : Plane} {s : State} (hs : Marked Q s) :
    Marked Q (doClear p s) := .at_enterReady (.frame (safeView_updPrt ..) hs)

theorem Marked.at_planeWork {op : Nat} {p : Plane} {h : Nat} {s : State} (hs : Marked Q s) : Marked Q (planeWork op p h s).1 := by
  unfold planeWork
  extract_lets short need
  have hshort : ∀ st {f : State → State}, Marked Q (f s) → Marked Q (short st f).1 := fun st f hf => .at_ite_fst hf hs
  exact .at_ite_fst (hshort _ (.at_doEnable hs)) <|
    .at_ite_fst (.at_ite_fst (.frame (safeView_updLane rfl) (.frame (safeView_suppliesOn ..) hs)) hs) <|
    .at_ite_fst (hshort _ (.frame (safeView_doStart ..) hs)) <| .at_ite_fst (.at_ite_fst (.frame (safeView_beginStop ..) hs) hs) <|
    .at_ite_fst (hshort _ (.at_doDisarm hs)) <| .at_ite_fst (hshort _ (.at_doDisable hs)) <|
    .at_ite_fst hs <| .at_ite_fst (hshort _ (.at_doTestEnter hs)) (hshort _ (.at_doTestExit hs))

theorem Marked.at_runQueue {p : Plane} {k : Nat} {s : State} (hs : Marked Q s) : Marked Q (runQueue p k s) := by
  induction k generalizing s with
  | zero => exact hs
  | succ k ih =>
    have hw : ∀ h op t, Marked Q (planeWork op p h (updLane p (fun l => { l with queued := t }) s)).1 :=
      fun h op t => .at_planeWork (.frame (safeView_updLane rfl) hs)
    unfold runQueue
    dsimp only
    split
    · exact hs
    · split
      · exact hs
      · exact .at_ite (.at_ite (.frame (safeView_updLane rfl) (hw ..)) (hw ..)) (ih (.frame (safeView_complete ..) (hw ..)))

theorem Marked.at_drainQueue {p : Plane} {s : State} (hs : Marked Q s) : Marked Q (drainQueue p s) := .at_ite (.at_runQueue hs) hs

theorem Marked.at_planeBody {op : Nat} {e : Env} {pay : PPay} {h : Nat} {s : State} (hs : Marked Q s) :
    Marked Q (planeBody op e pay h s).1 := by
  unfold planeBody
  split
  · exact hs
  · split
    · exact hs
    · dsimp only
      repeat' split
      · exact hs
      · exact .at_accepted (fun _ h => .frame (safeView_updLane rfl) h) hs
      · exact .frame (safeView_updLane rfl) (.at_planeWork hs)
      · exact .at_accepted (fun _ _ => .at_planeWork (.frame (safeView_allocHandle ..) hs)) hs
      · exact .at_planeWork hs

theorem Marked.at_planeCommand {op : Nat} {e : Env} {pay : PPay} {s : State} (hs : Marked Q s) :
    Marked Q (planeCommand op e pay s) :=
  .at_serve (fun _ _ h => .at_planeBody h) hs

theorem Marked.at_armReady {p : Plane} {s : State} (hs : Marked Q s) : Marked Q (armReady p s) := by
  unfold armReady
  split
  · exact .at_ite (.at_drainQueue (.frame (safeView_complete ..) (.frame (safeView_startSkew ..)
      (.at_enterReady (.frame (safeView_updLane rfl) hs))))) hs
  · exact hs

theorem Marked.at_armTimeout {p : Plane} {s : State} (hs : Marked Q s) : Marked Q (armTimeout p s) := by
  unfold armTimeout
  split
  · have h1 : Marked Q (suppliesOff p (updLane p (fun l => { l with arming := none }) s)) :=
      .frame (safeView_suppliesOff ..) (.frame (safeView_updLane rfl) hs)
    exact .at_ite (.at_ite
      (.frame (safeView_takeFails ..) (.at_drainQueue (.frame (safeView_complete ..) (.frame (safeView_settle ..) h1))))
      (.at_drainQueue (.frame (safeView_complete ..) (.frame (safeView_settle ..) h1)))) hs
  · exact hs

theorem Marked.at_finishStop {p : Plane} {s : State} (hs : Marked Q s) : Marked Q (finishStop p s) := by
  unfold finishStop
  extract_lets l s1 s2 s3 s4
  have h2 : Marked Q s2 := .at_enterReady (.frame (safeView_updLane rfl) hs)
  have h3 : Marked Q s3 := .at_ite (.frame (safeView_leaveLaw ..) (.frame (safeView_cancelAll ..) h2)) h2
  have h4 : Marked Q s4 := .frame (by unfold s4; split <;> simp) h3
  exact .frame (safeView_cancelAll ..) h4

theorem Marked.at_strobeClear {p : Plane} {s : State} (hs : Marked Q s) : Marked Q (strobeClear p s) := by
  unfold strobeClear
  split
  · exact hs
  · have h1 : Marked Q (updLane p (fun l => { l with clearPend := [] }) s) := .frame (safeView_updLane rfl) hs
    exact .at_drainQueue (.at_foldl (fun _ _ h => by split <;> exact .frame (by simp) h) (.at_ite (.at_doClear h1) h1))

/-! ## The strobe -/

theorem Marked.at_applyDec {n : Nat} {p : Plane} {s : State} (hs : Marked Q s) : Marked Q (applyDec n p s) := by
  unfold applyDec
  extract_lets l m s0
  have h0 : Marked Q s0 := .frame (by simp [s0]) hs
  have hend : Marked Q (endPeriod p n s0) := .frame (safeView_endPeriod ..) h0
  refine .at_ite hend ?_
  split
  · exact .at_ite h0 hend
  · refine .at_ite (.at_finishStop (.at_ite h0 hend)) (.at_ite (.frame (safeView_enterBand ..) h0) (.at_ite ?_ ?_))
    · split <;> exact .frame (by simp) h0
    · split <;> exact .frame (by simp) h0

theorem Marked.at_strobeStop {p : Plane} {s : State} (hs : Marked Q s) : Marked Q (strobeStop p s) := .at_ite (.at_finishStop hs) hs

theorem Marked.at_strobeStart {p : Plane} {s : State} (hs : Marked Q s) : Marked Q (strobeStart p s) :=
  .at_ite (.frame (safeView_showCarrier ..) (.frame (safeView_releaseChop ..) (.frame (safeView_clearCas ..)
    (.frame (safeView_updMod ..) (.frame (safeView_updLane rfl) (.frame (safeView_setPar ..)
      (.at_enterState (by decide) (.frame (safeView_startSupport ..) hs)))))))) hs

theorem Marked.at_decideRunning {p : Plane} {s : State} (hs : Marked Q s) : Marked Q (decideRunning p s) := by
  unfold decideRunning
  extract_lets m s1 s2 q
  have h1 : Marked Q s1 := .at_supervise hs
  have h2 : Marked Q s2 := .at_ite (.frame (safeView_updLane rfl) h1)
    (.at_ite (.frame (safeView_decideCarrier ..) h1) (.frame (safeView_decideBand ..) h1))
  exact .at_ite h1 (.frame (safeView_updLane rfl) h2)

theorem Marked.at_decideLane {p : Plane} {s : State} (hs : Marked Q s) : Marked Q (decideLane p s) := by
  unfold decideLane
  extract_lets s0 st
  have h0 : Marked Q s0 := .frame (safeView_updLane rfl) hs
  exact .at_ite (.at_ite (.at_requestSafe (.frame (safeView_updLane rfl) h0))
    (.at_ite (.at_decideRunning h0) (.frame (safeView_decideIdle ..) h0))) h0

theorem Marked.at_applyStrobe {n : Nat} {s : State} (hs : Marked Q s) : Marked Q (applyStrobe n s) := by
  unfold applyStrobe
  exact .at_eachPlane (fun _ _ h => .at_strobeStart h) <|
    .at_eachPlane (fun _ _ h => .at_strobeClear h) <|
    .at_eachPlane (fun _ _ h => .frame (by simp) h) <|
    .at_eachPlane (fun _ _ h => .at_ite (.frame (safeView_showCarrier ..) h) (.frame (safeView_refreshOut ..) h)) <|
    .at_eachPlane (fun _ _ h => .at_strobeStop h) <|
    .at_eachPlane (fun _ _ h => .frame (by simp) h) <|
    .at_eachPlane (fun _ _ h => .at_applyDec h) <|
    .at_eachPlane (fun _ _ h => .frame (by simp) h) <|
    .at_takeWaiting (fun _ _ _ h => .frame (by simp) h) hs

theorem Marked.at_computeLanes {s : State} (hs : Marked Q s) : Marked Q (computeLanes s) :=
  .at_eachPlane (fun _ _ h => .frame (by simp) h) (.frame (safeView_injectCheck ..) (.at_eachPlane (fun _ _ h => .at_decideLane h)
    (.frame (safeView_keepWeights ..) (.at_eachPlane (fun _ _ h => .frame (by simp) h) (.frame (safeView_ascWanted ..)
      (.frame (by simp) hs))))))

theorem Marked.at_controlStrobe {switch : State → State} {bs : List Nat} {s0 : State} (hw : ∀ s, Marked Q s → Marked Q (switch s))
    (hs : Marked Q s0) :
    Marked Q (controlStrobe switch bs s0) := by
  unfold controlStrobe
  extract_lets n s s1 a s2 s3 s4 s5
  have h : Marked Q s := .frame (safeView_driveMarks ..) (.frame (safeView_dueComparators ..) hs)
  have h1 : Marked Q s1 := .frame (safeView_ptpTick ..) (.frame (safeView_nextIndex ..) (.frame (safeView_advanceTime ..) h))
  have h2 : Marked Q s2 := .at_applyStrobe (hw _ (.frame (safeView_beforeStrobe ..) h1))
  have h3 : Marked Q s3 := .frame (safeView_takeSamples ..) (.at_eachPlane (fun _ _ h => .frame (safeView_updLane rfl) h) h2)
  have h4 : Marked Q s4 := .at_computeLanes h3
  have h5 : Marked Q s5 := .at_eachPlane (fun _ _ h => .at_ite (.frame (safeView_takeCas ..) h) h) h4
  exact .at_ite (.at_ite (.frame (safeView_ptpTick ..) (.frame (safeView_advanceTime ..) h)) hs)
    (.at_ite (.at_eachPlane (fun _ _ h => .frame (safeView_shiftMark ..) h) h1) (.frame (by simp) h5))

/-! ## The commit point -/

theorem Marked.at_overrun {p : Plane} {s : State} (hs : Marked Q s) : Marked Q (overrun p s) := by
  unfold overrun
  extract_lets s1
  have h1 : Marked Q s1 := .frame (safeView_count ..) (.frame (safeView_updLane rfl) hs)
  exact .at_ite (.at_requestSafe h1) h1

theorem Marked.at_commitLane {late : List Plane} {p : Plane} {s : State} (hs : Marked Q s) : Marked Q (commitLane late p s) :=
  .at_ite (.frame (safeView_updLane rfl) hs) (.at_ite (.at_overrun hs) (.frame (safeView_latch ..) hs))

theorem Marked.at_commitPoint {late : List Plane} {s : State} (hs : Marked Q s) : Marked Q (commitPoint late s) :=
  .at_ite hs (.frame (safeView_captureBundle ..) (.at_takeWaiting (fun _ _ _ h => h)
    (.at_eachPlane (fun _ _ h => .frame (by simp) h)
    (.at_eachPlane (fun _ _ h => .at_commitLane h) hs))))

/-! ## The pair -/

theorem Marked.at_giveArm {p : Plane} {s : State} (hs : Marked Q s) : Marked Q (giveArm p s).1 := by
  unfold giveArm
  extract_lets s1
  have h1 : Marked Q s1 := .at_ite (.at_doEnable hs) hs
  repeat' split
  · exact h1
  · exact .frame (safeView_updLane rfl) (.frame (safeView_suppliesOn ..) h1)
  · exact h1

theorem Marked.at_givePlanes {c : Nat} {s : State} (hs : Marked Q s) : Marked Q (givePlanes c s) := by
  unfold givePlanes
  split
  · exact hs
  · extract_lets s1 b d g
    have h1 : Marked Q s1 := .frame (by unfold s1; split <;> simp) hs
    have hg : Marked Q g.1 := .at_giveArm (.at_giveArm (.at_giveArm h1))
    exact .at_ite hg (.frame (safeView_takeFails ..) hg)

theorem Marked.at_beginTake {c : Nat} {s : State} (hs : Marked Q s) : Marked Q (beginTake c s) :=
  .at_ite (.frame (by simp) hs) (.at_ite hs (.at_givePlanes hs))

theorem Marked.at_takeover {c : Nat} {s : State} (hs : Marked Q s) : Marked Q (takeover c s) := .at_ite (.at_beginTake hs) hs

theorem Marked.at_powerDownCold {s : State} : Marked Q (powerDownCold s) :=
  .inr fun p h => absurd h (by cases p <;> nofun)

theorem Marked.at_redCtrlWritten {v c : Nat} {s : State} (hs : Marked Q s) : Marked Q (redCtrlWritten v c s) :=
  .at_ite (.at_beginTake (.frame (by simp) hs)) (.at_ite .at_powerDownCold (.frame (by simp) hs))

/-! ## Parameter writes -/

theorem Marked.at_woWritten {id v : Nat} {s : State} (hs : Marked Q s) : Marked Q (woWritten id v s) :=
  .at_ite (.frame (by simp) hs) (.at_ite hs (.at_ite (.frame (by simp) hs) (.at_ite (.at_eachPlane (fun _ _ h =>
    .frame (safeView_goPlane ..) h) hs) (.at_ite (.frame (by simp) hs) (.at_ite (.at_redCtrlWritten hs) (.at_ite
      (.frame (by simp) hs)
      (by split; exacts [(.frame (by simp) hs), hs])))))))

theorem Marked.at_liveWrite {id v : Nat} {s : State} (hs : Marked Q s) : Marked Q (liveWrite id v s) := by
  unfold liveWrite
  split
  · exact hs
  · split
    · exact hs
    · exact .at_ite (.frame (safeView_clearCounter ..) hs) hs
    · exact .frame (safeView_clearBits ..) hs
    · exact .at_woWritten hs
    · exact .at_ite (.frame (by simp) hs) (.frame (safeView_rwWritten ..) hs)

theorem Marked.at_applyEntry {e : PEntry} {s : State} (hs : Marked Q s) : Marked Q (applyEntry s e) := by
  unfold applyEntry
  split
  · exact hs
  · split
    · exact .frame (by simp) hs
    · exact .frame (by simp) hs
    · exact .at_liveWrite hs

theorem Marked.at_switchEntry {e : PEntry} {s : State} (hs : Marked Q s) : Marked Q (switchEntry s e) := by
  unfold switchEntry
  split
  · exact hs
  · split
    · exact .frame (safeView_boundaryWord ..) hs
    · exact .frame (by simp) hs
    · exact .at_liveWrite hs

/-! ## SET_PARAM -/

theorem Marked.at_applyAll {es : List PEntry} {s : State} (hs : Marked Q s) : Marked Q (applyAll es s) :=
  .at_foldl (fun _ _ h => .at_applyEntry h) hs

theorem Marked.at_directWrite {ctl : Bool} {es : List PEntry} {s : State} (hs : Marked Q s) :
    Marked Q (directWrite ctl es s).1 := by
  unfold directWrite
  split
  · exact .frame (by simp) hs
  · split
    · exact hs
    · exact .at_done (fun _ h => .at_applyAll h) hs

theorem Marked.at_paramBody {ctl : Bool} {h resv : Nat} {es : List PEntry} {s : State} (hs : Marked Q s) :
    Marked Q (paramBody ctl h resv es s).1 := by
  unfold paramBody
  split
  · exact .frame (by simp) hs
  · split
    · exact .at_directWrite hs
    · exact .frame (by simp) hs

theorem Marked.at_setParam {ctl : Bool} {e : Env} {es : List PEntry} {resv : Nat} {s : State} (hs : Marked Q s) :
    Marked Q (setParam ctl e es resv s) :=
  .at_withLength (fun _ h => .at_serveShort (fun _ h2 => .at_paramBody h2) h) hs

theorem Marked.at_writeWords {e : Env} {ws : List (Nat × Word)} {s : State} (hs : Marked Q s) : Marked Q (writeWords e ws s) :=
  .at_setParam hs

/-! ## Transactions -/

theorem Marked.at_switchCtl {t : Txn} {s : State} (hs : Marked Q s) : Marked Q (switchCtl t s) :=
  .frame (safeView_swapTiles ..) (.at_foldl (fun _ _ h => .at_switchEntry h) hs)

theorem Marked.at_ctlSwitch {s : State} (hs : Marked Q s) : Marked Q (ctlSwitch s) := by
  unfold ctlSwitch
  split
  · exact .at_ite (.at_switchCtl hs) hs
  · exact hs

theorem Marked.at_switchGroup {t : Txn} {s : State} (hs : Marked Q s) : Marked Q (switchGroup t s) :=
  .at_ite (.at_switchCtl (.at_foldl (fun _ _ h => .at_switchEntry h) hs)) (.at_foldl (fun _ _ h => .at_switchEntry h) hs)

theorem Marked.at_txnSwitch {s : State} (hs : Marked Q s) : Marked Q (txnSwitch s) := by
  unfold txnSwitch
  split
  · exact hs
  · exact .at_ite hs (.frame (safeView_afterSwitch ..) (.at_switchGroup hs))

theorem Marked.at_txnGroupSwitch {ok : Bool} {s : State} (hs : Marked Q s) : Marked Q (txnGroupSwitch ok s) := by
  unfold txnGroupSwitch
  split
  · exact hs
  · exact .at_ite hs (.at_ite (.frame (by simp) hs) (.at_txnSwitch hs))

/-! ## Resets -/

theorem Marked.at_beginReset {kind : Nat} {s : State} (hs : Marked Q s) : Marked Q (beginReset kind s) :=
  .at_ite hs (.frame (safeView_updPrt ..) (.frame (safeView_closeRecord ..) (.at_causeEvery hs)))

theorem Marked.at_systemReset {kind : Nat} {keep : Bool} {s : State} : Marked Q (systemReset kind keep s) :=
  .inr fun p h => absurd h (by cases p <;> nofun)

theorem Marked.at_resetPin {s : State} (hs : Marked Q s) : Marked Q (resetPin s) :=
  .at_ite (.frame (safeView_requestFail ..) (.at_beginReset hs)) hs

theorem Marked.at_resetEntry {s : State} (hs : Marked Q s) : Marked Q (resetEntry s) := by
  unfold resetEntry
  split
  · exact .at_ite .at_systemReset (.frame (safeView_holdReset ..) .at_systemReset)
  · exact hs

theorem Marked.at_resetCommand {sel resv : Nat} {s : State} (hs : Marked Q s) : Marked Q (resetCommand sel resv s).1 := by
  unfold resetCommand
  split
  · exact .frame (by simp) hs
  · split
    · exact .at_done (fun _ h => .at_beginReset h) hs
    · exact .frame (by simp) hs

theorem Marked.at_supervisorReset {s : State} (hs : Marked Q s) : Marked Q (supervisorReset s) := .at_ite (.at_beginReset hs) hs

theorem Marked.at_powerLost {s : State} : Marked Q (powerLost s) :=
  .inr fun p h => absurd h (by cases p <;> nofun)

theorem Marked.at_supplyLoss {s : State} (hs : Marked Q s) : Marked Q (supplyLoss s) :=
  .at_ite .at_powerLost (.at_ite hs (.frame (safeView_presence ..) (.frame (safeView_requestFail ..)
    (.frame (safeView_setBrk ..) (.at_causeEvery
    (.frame (safeView_raiseNum ..) (.frame (safeView_updPrt ..) hs)))))))

/-! ## Firmware activation -/

theorem Marked.at_fwActivate {e : Env} {resv kh h : Nat} {s : State} (hs : Marked Q s) : Marked Q (fwActivate e resv kh h s).1 := by
  unfold fwActivate
  dsimp only
  repeat' split
  case isFalse.isFalse.isFalse => exact .at_beginReset (.frame (by simp) hs)
  all_goals exact hs

theorem Marked.at_drainAll {s : State} (hs : Marked Q s) : Marked Q (drainAll s) := .at_foldl (fun _ _ h => .at_drainQueue h) hs

theorem Marked.at_tansyRestartDone {s : State} (hs : Marked Q s) : Marked Q (tansyRestartDone s) := by
  unfold tansyRestartDone
  split
  · exact hs
  · exact .at_ite hs (.frame (safeView_endActivation ..) (.frame (safeView_raiseFlag ..) (.frame (safeView_takeMigrated ..)
    (.frame (safeView_updFw
      ..) (.at_drainAll (.frame (by simp) hs))))))

/-! ## Handles -/

theorem Marked.at_cancelPlane {h cause : Nat} {p : Plane} {s : State} (hs : Marked Q s) : Marked Q (cancelPlane h cause p s) := by
  have hl : ∀ {f : Lane → Lane}, (f (lane s p)).st = (lane s p).st → Marked Q (updLane p f s) :=
    fun hf => .frame (safeView_updLane hf) hs
  exact .at_ite (.frame (safeView_complete ..) (hl rfl))
    (.at_ite (.at_drainQueue (.frame (safeView_complete ..) (hl rfl)))
      (.at_ite (.at_drainQueue (.frame (safeView_complete ..) (.frame (safeView_settle ..)
        (.frame (safeView_suppliesOff ..) (hl rfl))))) hs))

theorem Marked.at_cancelOp {o : Op} {cause : Nat} {s : State} (hs : Marked Q s) : Marked Q (cancelOp o cause s) := by
  unfold cancelOp
  dsimp only
  repeat' split
  · exact .at_eachPlane (fun _ _ h => .at_cancelPlane h) hs
  · exact .frame (safeView_endSync ..) hs
  all_goals exact .frame (by simp) hs

theorem Marked.at_handleCancel {h : Nat} {s : State} (hs : Marked Q s) : Marked Q (handleCancel h s).1 := by
  unfold handleCancel
  split
  · split
    · exact .at_done (fun _ h => .at_cancelOp h) hs
    · exact .frame (by simp) hs
  · split <;> exact (.frame (by simp) hs)

/-! ## Groups -/

theorem Marked.at_groupApply {s : State} (hs : Marked Q s) : Marked Q (groupApply s) := by
  unfold groupApply
  split
  · exact hs
  · exact .at_ite hs (by split; exacts [(.at_ite (.frame (by simp) hs) (by split; exacts [(.frame (by simp) hs), (.frame
      (safeView_applied ..) (.at_applyAll hs))])), (.frame (by simp) hs), (.at_ite hs (.at_ite (.at_beginReset
        (.frame (by simp) hs))
        (.frame (by simp) hs)))])

/-! ## Islands -/

theorem Marked.at_islandDown {i : Island} {s : State} (hs : Marked Q s) : Marked Q (islandDown i s) := by
  unfold islandDown
  split
  · exact .at_causeEvery (.frame (by simp) hs)
  · exact .at_causeEach (.frame (by simp) hs)
  · exact .frame (by simp) hs
  · exact .frame (by simp) hs
  · exact hs
  · exact .frame (safeView_settle ..) (.frame (safeView_updPrt ..) (.frame (safeView_setBrk ..) (.frame (by simp) hs)))

theorem Marked.at_islandStopped {i : Island} {s : State} (hs : Marked Q s) : Marked Q (islandStopped i s) :=
  .at_ite (.at_ite (.at_islandDown hs) (.frame (safeView_stopSequence ..) (.at_islandDown hs))) hs

theorem Marked.at_restartMax {s : State} (hs : Marked Q s) : Marked Q (restartMax s) := .at_ite (.at_islandStopped hs) hs

theorem Marked.at_endOutstanding {s : State} (hs : Marked Q s) : Marked Q (endOutstanding s) :=
  .at_foldl (fun _ _ h => .at_ite h (.frame (safeView_complete ..) (.at_cancelOp h))) (.frame (by simp) hs)

theorem Marked.at_restartSys {lost : List (Nat × Bool)} {s : State} (hs : Marked Q s) : Marked Q (restartSys lost s) := by
  unfold restartSys
  refine .frame (safeView_startHealth ..) (.frame (safeView_flushHeld ..) (.at_endOutstanding (.frame ?_ hs)))
  rw [safeView_flushLate, safeView_loseEntries, safeView_dropSwap, safeView_colClear, safeView_updTime]
  exact (safeView_mk ..).trans (safeView_updHost (by simp))

theorem Marked.at_islandReset {i : Island} {lost : List (Nat × Bool)} {s : State} (hs : Marked Q s) :
    Marked Q (islandReset i lost s) :=
  .at_ite hs (by split; exacts [(.at_restartSys (.frame (by simp) hs)), (.frame (by simp) hs), (.frame (by simp) hs), (.frame
    (by simp) hs)])

/-! ## The boot -/

theorem Marked.at_migrationFails {schema id status : Nat} {s : State} (hs : Marked Q s) :
    Marked Q (migrationFails schema id status s) :=
  .at_beginReset (by split; exacts [(.frame (by simp) hs), hs])

theorem Marked.at_openRole {aon : Nat} {s : State} (hs : Marked Q s) : Marked Q (openRole aon s) := .at_ite (.at_givePlanes hs) hs

theorem Marked.at_settingsIn {aon hw : Nat} {s : State} (hs : Marked Q s) : Marked Q (settingsIn aon hw s) := by
  unfold settingsIn
  extract_lets s1 a b s2
  have h1 : Marked Q s1 := .frame (by simp [s1]) hs
  have h2 : Marked Q a := .frame (safeView_takeM5v ..) h1
  have h3 : Marked Q s2 := .frame (by simp [s2]) h2
  exact .at_openRole (.frame (by simp) h3)

theorem Marked.at_settingsLoaded {aon : Nat} {mig : Migr} {hw : Nat} {s : State} (hs : Marked Q s) :
    Marked Q (settingsLoaded aon mig hw s) := by
  unfold settingsLoaded
  dsimp only
  repeat' split
  · exact hs
  · exact .at_migrationFails hs
  · exact .at_settingsIn (.frame (by simp) hs)
  · exact .at_migrationFails hs
  · exact .at_settingsIn (.frame (by simp) hs)
  · exact .at_migrationFails hs
  · exact .frame (safeView_raiseFlag ..) (.frame (safeView_raiseFlag ..) (.at_settingsIn hs))

/-! ## URGENT commands -/

theorem Marked.at_uAct {op mask : Nat} {s : State} (hs : Marked Q s) : Marked Q (uAct op mask s) := by
  unfold uAct
  split
  · exact .at_causeEach (.frame (safeView_forceBlock ..) hs)
  · exact .at_causeEach (.at_ite (.frame (safeView_forceAsc ..) hs) hs)
  · exact .at_causeEach hs

theorem Marked.at_urgentTake {op : Nat} {e : Env} {u : UPay} {s : State} (hs : Marked Q s) : Marked Q (urgentTake op e u s) :=
  .at_ite (.frame (safeView_propagate ..) (.frame (safeView_noteUrgent ..) (.at_uAct hs))) (.frame (safeView_noteUrgent ..)
    (.at_uAct hs))

theorem Marked.at_urgent {op : Nat} {e : Env} {u : UPay} {s : State} (hs : Marked Q s) : Marked Q (urgent op e u s) :=
  .at_ite (.frame (by simp) hs) (.at_ite (.frame (safeView_urgentReply ..) (.at_urgentTake hs)) (.frame (by simp) hs))

/-! ## The HOST port -/

theorem Marked.at_decoderAlone {b : List Byte} {s : State} (hs : Marked Q s) : Marked Q (decoderAlone b s) :=
  .at_ite hs (.at_ite (.at_urgentTake hs) hs)

theorem Marked.at_txnOpen {e : Env} {s : State} (hs : Marked Q s) : Gives Q (execTxnOpen e s) :=
  .next (.at_serve (fun _ _ h => .at_ite_fst h (.at_accepted (fun _ h => .frame rfl h) h)) hs)

theorem Marked.at_hostCommand {op : Nat} {e : Env} {pl : List Byte} {s : State} (hs : Marked Q s) :
    Gives Q (hostCommand op e pl s) := by
  unfold hostCommand
  split
  case h_1 | h_2 | h_3 | h_4 | h_5 | h_6 | h_7 | h_8 | h_9 => exact .next (.at_planeCommand hs)
  case h_13 | h_22 => exact .next (.at_setParam hs)
  case h_18 => exact .next (.at_serveShort (fun _ h => .frame (safeView_stepBack ..) h) hs)
  case h_20 => exact .next (.at_serveShort (fun _ h => .at_handleCancel h) hs)
  case h_21 => exact .next (.frame (safeView_getParam ..) hs)
  case h_23 => exact .at_txnOpen hs
  case h_28 => exact .next (.at_serveShort (fun _ h => .at_resetCommand h) hs)
  case h_31 =>
    split
    · exact .next (.frame (safeView_serveLong (fun _ _ => safeView_fwActivateHitless ..) s) hs)
    · exact .next (.at_serveLong (fun _ _ h => .at_fwActivate h) hs)
  case h_32 => exact .next (.at_withLength (fun _ h => .at_serveShort (fun _ h => .frame (safeView_attest ..) h) h) hs)
  case h_34 => exact .next (.at_withLength (fun _ h => .frame (by simp) h) hs)
  all_goals exact .next (.frame (by simp) hs)

theorem Marked.at_takePacket {b : List Byte} {s : State} (hs : Marked Q s) : Marked Q (takePacket b s) := by
  unfold takePacket
  extract_lets st op s1 u
  refine .at_ite (.frame (safeView_spiRefuse ..) (.at_ite (.frame (safeView_count ..) hs) hs)) (.at_ite (.at_urgent hs) ?_)
  split
  · exact Marked.at_hostCommand hs _ ‹_›
  · exact hs

theorem Marked.at_packetWrite {ready : Bool} {b : List Byte} {s0 : State} (hs : Marked Q s0) :
    Marked Q (packetWrite ready b s0) := by
  unfold packetWrite
  extract_lets s c
  have h : Marked Q s := .frame (by simp [s]) hs
  exact .at_ite (.frame (by simp) hs) (.at_ite (.at_ite (.at_takePacket h) h)
    (.frame (safeView_updHost (by simp)) (.at_ite (.at_decoderAlone h) h)))

/-! ## A step -/

/-- A window write enters no plane into SAFE; it may clear SAFE_ENTRY. -/
theorem windowWrite_planes (addr v crc : Nat) (s : State) : (windowWrite addr v crc s).planes = s.planes := by
  unfold windowWrite hwinWrite
  dsimp only
  split
  · unfold misoOnes
    split <;> rfl
  · (repeat' split) <;> simp [winErr, miso]

/-- A plane that a command brings into SAFE sets SAFE_ENTRY. -/
theorem exec_marked (c : Instr) (s : State) : Gives (fun p => (lane s p).st = .safe) (exec c s) := by
  have hs : Marked (fun p => (lane s p).st = .safe) s := .inr fun _ h => h
  cases c
  case stop | pulseBlock | asc | tripGroup => exact .next (.at_urgent hs)
  case planeEnable | planeArm | planeStart | planeStop | planeDisarm | planeDisable | clearSafe | testEnter | testExit =>
    exact .next (.at_planeCommand hs)
  case planeArmReady => exact .next (.at_armReady hs)
  case planeArmTimeout => exact .next (.at_armTimeout hs)
  case testGo | modeWrite | setValid | timeLatch | comparatorArm | comparatorDisarm | phaseStep | refSelWrite
      | refModeWrite | ybusSurvey | goCold | take | release | confirm | captureEnable | captureStop | queueDisable =>
    exact .next (.at_writeWords hs)
  case testSequenceEnd => exact .next (.frame (safeView_testSequenceEnd ..) hs)
  case syncTimeout => exact .next (.at_ite hs (.frame (safeView_endSync ..) hs))
  case setParamControl | setParam => exact .next (.at_setParam hs)
  case getParam => exact .next (.frame (safeView_getParam ..) hs)
  case stepBack => exact .next (.at_serveShort (fun _ h => .frame (safeView_stepBack ..) h) hs)
  case handleCancel => exact .next (.at_serveShort (fun _ h => .at_handleCancel h) hs)
  case txnOpen => exact .at_txnOpen hs
  case windowWrite => exact .next (.inr fun p h => by rwa [lane_congr (windowWrite_planes ..) p] at h)
  case txnSwitch =>
    refine .next ?_
    split
    · exact .at_ite (.at_txnSwitch hs) hs
    · exact hs
  case txnGroupSwitch => exact .next (.at_txnGroupSwitch hs)
  case reset => exact .next (.at_serveShort (fun _ h => .at_resetCommand h) hs)
  case fwActivate => exact .next (.at_serveLong (fun _ _ h => .at_fwActivate h) hs)
  case fwActivateHitless => exact .next (.frame (safeView_serveLong (fun _ _ => safeView_fwActivateHitless ..) s) hs)
  case tansyRestartDone => exact .next (.at_tansyRestartDone hs)
  case restartMax => exact .next (.at_restartMax hs)
  case attest => exact .next (.at_withLength (fun _ h => .at_serveShort (fun _ h => .frame (safeView_attest ..) h) h) hs)
  case groupAction => exact .next (.at_withLength (fun _ h => .frame (by simp) h) hs)
  case groupApply => exact .next (.at_groupApply hs)
  case packetWrite => exact .next (.at_packetWrite hs)
  case haltNFall => exact .next (.at_haltFall hs)
  case haltNRise => exact .next (.frame (safeView_haltRise ..) hs)
  case stoLow => exact .next (.at_stoLow hs)
  case stoHigh => exact .next (.frame (safeView_stoHigh ..) hs)
  case resetNLow => exact .next (.at_resetPin hs)
  case externalResetEntry => exact .next (.at_resetEntry hs)
  case supplyLow => exact .next (.frame (safeView_supplyLow ..) hs)
  case supplyLoss => exact .next (.at_supplyLoss hs)
  case corePowerDown => exact .next (.frame (safeView_corePowerDown ..) hs)
  case mcRelayDrop => exact .next (.frame (safeView_mcRelayDrop ..) hs)
  case powerUp => exact .next .at_systemReset
  case settingsLoaded => exact .next (.at_settingsLoaded hs)
  case islandStopped => exact .next (.at_islandStopped hs)
  case supervisorReset => exact .next (.at_supervisorReset hs)
  case islandReset => exact .next (.at_islandReset hs)
  case keepAliveLoss => exact .next (.frame (safeView_keepAliveLoss ..) hs)
  case uvloDeclare => exact .next (.at_ite (.at_uvloDeclare hs) hs)
  case uvloRelease => exact .next (.at_ite (.frame (safeView_uvloRelease ..) hs) hs)
  case shortDesat => exact .next (.at_shortDesat hs)
  case shortHard => exact .next (.at_ite (.at_shortHard hs) hs)
  case shortStagger => exact .next (.frame (safeView_shortStagger ..) hs)
  case deferredTurnOff => exact .next (.at_ite (.frame (safeView_deferredTurnOff ..) hs) hs)
  case gateBudget => exact .next (.at_gateBudget hs)
  case tBaseUpdate => exact .next (.at_tBaseUpdate hs)
  case mpSupply => exact .next (.at_ite (.frame (safeView_mpSupply ..) hs) hs)
  case brkMismatch => exact .next (.frame (safeView_brkMismatch ..) hs)
  case brkDelay => exact .next (.frame (safeView_brkDelay ..) hs)
  case tripOutput => exact .next (.at_tripOutput hs)
  case ascStep => exact .next (.frame (safeView_ascNext ..) hs)
  case forcedAscEnd => exact .next (.frame (safeView_forcedAscEnd ..) hs)
  case cutArrival => exact .next (.frame (safeView_cutArrival ..) hs)
  case cutAck => exact .next (.frame (safeView_cutAck ..) hs)
  case boundaryCount => exact .next (.at_boundaryCount hs)
  case controlStrobe => exact .next (.at_controlStrobe (fun _ h => .at_ctlSwitch h) hs)
  case commitPoint => exact .next (.at_commitPoint hs)
  case sreCheck => exact .next (.at_sreCheck hs)
  case carrierReload => exact .next (.frame (safeView_carrierReload ..) hs)
  case feedGapStep => exact .next (.at_ite (.frame (safeView_feedEvent ..) hs) hs)
  case outerBoundary => exact .next (.frame (safeView_outerBoundary ..) hs)
  case encoderIndex => exact .next (.at_ite (.frame (safeView_encoderIndex ..) hs) hs)
  case stuck => exact .next (.at_ite (.at_ite hs (.at_declareLoss hs)) hs)
  case manchesterLockLost | manchErr | frozen => exact .next (.at_ite (.at_ite (.at_declareLoss hs) hs) hs)
  case freqWindow => exact .next (.at_freqWindow hs)
  case holdoverMax => exact .next (.at_ite (.at_startFallback hs) hs)
  case ptpSync => exact .next (.at_ite (.frame (safeView_ptpSync ..) hs) hs)
  case tcFire => exact .next (.at_ite (.frame (safeView_tcFire ..) hs) hs)
  case takeover => exact .next (.at_takeover hs)
  case debugResume => exact .next (.frame (safeView_debugResume ..) hs)
  all_goals exact .next (.frame (by simp) hs)

/-! ## HWIN_IRQ and the line -/

/-- OUT_READY stands in bit 0 of HWIN_IRQ as it is read; every other bit is the stored one. -/
theorem hwinIrq_testBit (s : State) {i : Nat} (hi : i ≠ 0) : (hwinIrq s).testBit i = s.host.irq.getLsbD i := by
  obtain ⟨j, rfl⟩ := Nat.exists_eq_succ_of_ne_zero hi
  have h2 : hwinIrq s / 2 = s.host.irq.toNat / 2 := by
    simp only [hwinIrq, withBits, bits]
    omega
  rw [Nat.succ_eq_add_one, Nat.testBit_succ, h2, ← Nat.testBit_succ, BitVec.testBit_toNat]

theorem irqLow_iff (s : State) :
    irqLow s = true ↔ ∃ i, i < 6 ∧ (hwinIrq s).testBit i = true ∧ s.host.irqEn.getLsbD i = true := by
  rw [irqLow, decide_eq_true_iff]
  constructor
  · intro h
    obtain ⟨i, hi⟩ := Nat.exists_testBit_of_ne_zero h
    obtain ⟨hb, he⟩ : (hwinIrq s).testBit i = true ∧ s.host.irqEn.getLsbD i = true := by
      simpa [← BitVec.testBit_toNat] using (Nat.testBit_and ..).symm.trans hi
    exact ⟨i, BitVec.lt_of_getLsbD he, hb, he⟩
  · rintro ⟨i, -, hb, he⟩ h
    have hi := Nat.testBit_and (hwinIrq s) s.host.irqEn.toNat i
    rw [show hwinIrq s &&& s.host.irqEn.toNat = 0 from h, hb, BitVec.testBit_toNat, he] at hi
    simp at hi

theorem islandStopped_sys {s : State} (h : s.isl.sys = true) : (islandStopped .sys s).host.irq.getLsbD 3 = true := by
  simp [islandStopped, islandDown, islandRuns, h]

/-- Settles O5: SYS_DOWN is set by the stop itself, and SAFE_ENTRY by the one function that enters SAFE, which every command that
brings a plane there has run. -/
theorem interruptLineAndItsBits : Obligations.InterruptLineAndItsBits := by
  refine ⟨irqLow_iff, fun s h => ⟨_, rfl, ?_⟩, fun c p s t ht hs hp => ?_⟩
  · rw [hwinIrq_testBit _ (by decide)]
    exact islandStopped_sys h
  · rw [hwinIrq_testBit _ (by decide)]
    exact (exec_marked c s t ht).resolve_right fun h => hs (h p hp)

end Sys2Proof.Machine
end

section
/-! PROOFS. The functions that leave the parameter store alone, in the order of the model's files. -/

namespace Sys2Proof.Machine
open Sys2Proof

@[simp] theorem foldl_params {α : Type} {f : State → α → State} (h : ∀ s x, (f s x).params = s.params) (l : List α)
    (s : State) : (l.foldl f s).params = s.params := foldl_same (·.params) f h l s

@[simp] theorem ite_params {c : Prop} [Decidable c] (a b : State) :
    (if c then a else b).params = if c then a.params else b.params := by split <;> rfl

@[simp] theorem ite_fst_params {α : Type} {c : Prop} [Decidable c] (a b : State × α) :
    (if c then a else b).1.params = if c then a.1.params else b.1.params := by split <;> rfl

@[simp] theorem refuse_params (st : Nat) (s : State) : (refuse st s).1.params = s.params := rfl

@[simp] theorem done_params {f : State → State} (hf : ∀ s, (f s).params = s.params) (s : State) :
    (done f s).1.params = s.params :=
  hf s

@[simp] theorem accepted_params {op : Nat} {e : Env} {work : State → State} (hw : ∀ s, (work s).params = s.params) (s : State) :
    (accepted op e work s).1.params = s.params := by simp [accepted, hw]

/-! ## Ops -/

@[simp] theorem colClear_params (cs : List Nat) (s : State) : (colClear cs s).params = s.params := by simp [colClear]
@[simp] theorem sendDst_params (p : Packet) (n : Nat) (s : State) : (sendDst p n s).params = s.params := by simp [sendDst]

/-! ## Sorrel -/

@[simp] theorem writePermit_params (m : Ports) (s : State) : (writePermit m s).params = s.params := by simp [writePermit]
@[simp] theorem forceBlock_params (ps : List Plane) (s : State) : (forceBlock ps s).params = s.params := by simp [forceBlock]
@[simp] theorem forceAsc_params (s : State) : (forceAsc s).params = s.params := by simp [forceAsc]

/-! ## Protect -/

@[simp] theorem setMon_params (n : Nat) (m : Mon) (on : Bool) (s : State) : (setMon n m on s).params = s.params := by
  simp [setMon]

/-! ## Measure -/

@[simp] theorem recCount_params (div : Nat) (s : State) : (recCount div s).params = s.params := by simp [recCount]
@[simp] theorem startSkew_params (f : Nat → Bool) (s : State) : (startSkew f s).params = s.params := by simp [startSkew]
@[simp] theorem startMdclk_params (s : State) : (startMdclk s).params = s.params := by simp [startMdclk]
@[simp] theorem takeM5v_params (s : State) : (takeM5v s).params = s.params := by simp [takeM5v]

@[simp] theorem streamValid_params (n : Nat) (inPrt : Bool) (s : State) : (streamValid n inPrt s).params = s.params := by
  simp [streamValid]

/-! ## Rgt -/

@[simp] theorem setBad_params (t : Nat) (on : Bool) (s : State) : (setBad t on s).params = s.params := by simp [setBad]
@[simp] theorem evict_params (t : Nat) (s : State) : (evict t s).params = s.params := rfl

@[simp] theorem rebinLane_params (hys : Bool) (p : Plane) (v iSq f : Rat) (s : State) :
    (rebinLane hys p v iSq f s).params = s.params := by
  simp [rebinLane]

/-! ## Modulator -/

@[simp] theorem keepUntil_params (p : Plane) (x : Int) (s : State) : (keepUntil p x s).params = s.params := by simp [keepUntil]
@[simp] theorem endPeriod_params (p : Plane) (x : Int) (s : State) : (endPeriod p x s).params = s.params := by simp [endPeriod]
@[simp] theorem rampCount_params (p : Plane) (s : State) : (rampCount p s).params = s.params := by simp [rampCount]
@[simp] theorem keepTo_params (p : Plane) (x : Nat) (s : State) : (keepTo p x s).params = s.params := by simp [keepTo]

/-! ## Clock -/

@[simp] theorem replicaRealign_params (found : List Rat) (s : State) : (replicaRealign found s).params = s.params := by
  simp [replicaRealign]

@[simp] theorem advanceBases_params (c : Rat) (s : State) : (advanceBases c s).params = s.params := by simp [advanceBases]
@[simp] theorem advanceTime_params (s : State) : (advanceTime s).params = s.params := by simp [advanceTime]

/-! ## Carrier -/

@[simp] theorem carrierMark_params (at' : Int) (s : State) : (carrierMark at' s).params = s.params := by
  unfold carrierMark
  split <;> rfl

@[simp] theorem maskSector_params (p : Plane) (s : State) : (maskSector p s).params = s.params := by simp [maskSector]
@[simp] theorem debugHalt_params (s : State) : (debugHalt s).params = s.params := by simp [debugHalt]

/-! ## Service -/

@[simp] theorem turnAway_params (cls op : Nat) (e : Env) (st : Nat) (s : State) : (turnAway cls op e st s).params = s.params := by
  simp [turnAway]

/-! ## Acquire -/

@[simp] theorem updSlot_params (n : Nat) (f : Slot → Slot) (s : State) : (updSlot n f s).params = s.params := by simp [updSlot]
@[simp] theorem fillSlot_params (n : Nat) (s : State) : (fillSlot n s).params = s.params := by simp [fillSlot]

@[simp] theorem storeBundle_params (b : Bundle) (s : State) : (storeBundle b s).params = s.params := by
  unfold storeBundle
  split <;> simp

@[simp] theorem startPost_params (n mask : Nat) (s : State) : (startPost n mask s).params = s.params := by simp [startPost]

@[simp] theorem noteDiscontinuity_params (step : Int) (s : State) : (noteDiscontinuity step s).params = s.params := by
  unfold noteDiscontinuity
  split <;> simp

@[simp] theorem slowStream_params (s : State) : (slowStream s).params = s.params := by simp [slowStream]

/-! ## Replay -/

@[simp] theorem holdSlot_params (n : Nat) (up : Bool) (s : State) : (holdSlot n up s).params = s.params := by simp [holdSlot]

@[simp] theorem replayComparator_params (tc : Nat) (s : State) : (replayComparator tc s).params = s.params := by
  simp [replayComparator]

/-! ## Net -/

@[simp] theorem driveMarks_params (n : Nat) (s : State) : (driveMarks n s).params = s.params := by simp [driveMarks]

@[simp] theorem queueFrame_params (n q : Nat) (f : Frame) (s : State) : (queueFrame n q f s).params = s.params := by
  simp [queueFrame]

@[simp] theorem frameForward_params (n : Nat) (pcp : Option Nat) (bytes : List Byte) (s : State) :
    (frameForward n pcp bytes s).params = s.params := by
  simp [frameForward]

@[simp] theorem ptpForward_params (n : Nat) (m : PtpMsg) (res : Int) (s : State) : (ptpForward n m res s).params = s.params := by
  unfold ptpForward
  (repeat' split) <;> simp

@[simp] theorem ptpTick_params (s : State) : (ptpTick s).params = s.params := by
  unfold ptpTick
  extract_lets s1 w
  have h1 : s1.params = s.params := by simp [s1]
  split
  · rfl
  · split
    · exact h1
    · exact (foldl_params (fun s n => by split <;> rfl) _ _).trans h1

@[simp] theorem groupMoved_params (s : State) : (groupMoved s).params = s.params := by simp [groupMoved]
@[simp] theorem groupKh_params (s : State) : (groupKh s).params = s.params := by
  unfold groupKh
  split <;> simp
@[simp] theorem clearSuspect_params (s : State) : (clearSuspect s).params = s.params := by simp [clearSuspect]
@[simp] theorem servoStep_params (off : Int) (s : State) : (servoStep off s).params = s.params := by simp [servoStep]

@[simp] theorem frameSend_params (e : Env) (p : FramePay) (h : Nat) (s : State) : (frameSend e p h s).1.params = s.params := by
  simp [frameSend]

/-! ## Teasel -/

@[simp] theorem writeItem_params (p : Plane) (w : BitVec 64) (s : State) : (writeItem p w s).params = s.params := by
  simp [writeItem]

@[simp] theorem writeGroup_params (p : Plane) (g : Group) (s : State) : (writeGroup p g s).params = s.params := by
  simp [writeGroup]

@[simp] theorem publish_params (p : Plane) (user : Option RefSet) (s : State) : (publish p user s).params = s.params := by
  unfold publish
  split <;> simp

/-! ## Trip -/

@[simp] theorem makeCut_params (p : Plane) (m : Ports) (s : State) : (makeCut p m s).params = s.params := by simp [makeCut]
@[simp] theorem writeCuts_params (s : State) : (writeCuts s).params = s.params := by simp [writeCuts]

@[simp] theorem tripMeas_params (bs edges : List Nat) (s : State) : (tripMeas bs edges s).params = s.params := by
  rw [tripMeas, bumpManch_params]
  refine foldl_params (fun s n => ?_) _ _
  split
  · rfl
  · exact updMport_params ..

/-! ## Planes -/

@[simp] theorem startCounter_params (p : Plane) (s : State) : (startCounter p s).params = s.params := by simp [startCounter]
@[simp] theorem beginStop_params (p : Plane) (h : Nat) (s : State) : (beginStop p h s).params = s.params := by simp [beginStop]
@[simp] theorem stopLimit_params (p : Plane) (s : State) : (stopLimit p s).params = s.params := by simp [stopLimit]

/-! ## Strobe -/

@[simp] theorem dropExit_params (p : Plane) (s : State) : (dropExit p s).params = s.params := by simp [dropExit]

@[simp] theorem modeWritten_params (p : Plane) (v : Nat) (s : State) : (modeWritten p v s).params = s.params := by
  simp [modeWritten]

@[simp] theorem phaseWritten_params (p : Plane) (old v : Nat) (s : State) : (phaseWritten p old v s).params = s.params := by
  simp [phaseWritten]

@[simp] theorem writeSet_params (p : Plane) (set : PeriodSet) (s : State) : (writeSet p set s).params = s.params := by
  simp [writeSet]

@[simp] theorem takeContext_params (p : Plane) (d : Dec) (s : State) : (takeContext p d s).params = s.params := by
  simp [takeContext]

@[simp] theorem shiftMark_params (n : Nat) (p : Plane) (s : State) : (shiftMark n p s).params = s.params := by simp [shiftMark]

@[simp] theorem shiftPlane_params (n : Nat) (p : Plane) (s : State) : (shiftPlane n p s).params = s.params := by
  simp [shiftPlane]

@[simp] theorem countSwitching_params (p : Plane) (old : Pat) (s : State) : (countSwitching p old s).params = s.params := by
  simp [countSwitching]

@[simp] theorem startSupport_params (p : Plane) (s : State) : (startSupport p s).params = s.params := by simp [startSupport]
@[simp] theorem restartStrobe_params (s : State) : (restartStrobe s).params = s.params := by simp [restartStrobe]
@[simp] theorem keepWeights_params (s : State) : (keepWeights s).params = s.params := by simp [keepWeights]
@[simp] theorem decideCarrier_params (p : Plane) (s : State) : (decideCarrier p s).params = s.params := by simp [decideCarrier]
@[simp] theorem exitStep_params (p : Plane) (s : State) : (exitStep p s).params = s.params := by simp [exitStep]
@[simp] theorem seedExit_params (p : Plane) (d : Dec) (s : State) : (seedExit p d s).params = s.params := by simp [seedExit]
@[simp] theorem decideBand_params (p : Plane) (s : State) : (decideBand p s).params = s.params := by simp [decideBand]
@[simp] theorem decideIdle_params (p : Plane) (s : State) : (decideIdle p s).params = s.params := by simp [decideIdle]
@[simp] theorem addSums_params (s : State) : (addSums s).params = s.params := by simp [addSums]

/-! ## Yarrow -/

@[simp] theorem presence_params (on : Bool) (s : State) : (presence on s).params = s.params := by simp [presence]

/-! ## Gfm -/

@[simp] theorem stepEst_params (s : State) : (stepEst s).params = s.params := by simp [stepEst]

@[simp] theorem gGroup_params (d q vd vq f : Rat) (k : Nat) (s : State) : (gGroup d q vd vq f k s).params = s.params := by
  simp only [gGroup, writeGroup_params, updGfm_params]

@[simp] theorem gNone_params (s : State) : (gNone s).params = s.params := gGroup_params ..
@[simp] theorem swing_params (o : GEst) (wset : Rat) (s : State) : (swing o wset s).params = s.params := by simp [swing]
@[simp] theorem switchAt_params (kind : Nat) (s : State) : (switchAt kind s).params = s.params := by simp [switchAt]
@[simp] theorem endLaw_params (s : State) : (endLaw s).params = s.params := by simp [endLaw]

/-! ## Msd -/

@[simp] theorem fieldWeaken_params (v : Rat × Rat) (s : State) : (fieldWeaken v s).params = s.params := by simp [fieldWeaken]
@[simp] theorem writeMask_params (id v : Nat) (s : State) : (writeMask id v s).params = s.params := by simp [writeMask]

/-! ## Image -/

@[simp] theorem updSlotFw_params (n : Nat) (f : FwSlot → FwSlot) (s : State) : (updSlotFw n f s).params = s.params := by
  simp [updSlotFw]

@[simp] theorem setCopy_params (n : Nat) (r : Option Rec) (s : State) : (setCopy n r s).params = s.params := by simp [setCopy]

@[simp] theorem dropStaged_params (h : Hitless) (s : State) : (dropStaged h s).params = s.params := by
  unfold dropStaged
  split <;> simp

@[simp] theorem endAct_params (h st : Nat) (s : State) : (endAct h st s).params = s.params := by
  unfold endAct
  split <;> simp

/-! ## Pair -/

@[simp] theorem setRole_params (r : Nat) (s : State) : (setRole r s).params = s.params := by simp [setRole]

@[simp] theorem updPath_params (link : Nat) (f : Path → Path) (s : State) : (updPath link f s).params = s.params := by
  simp [updPath]

@[simp] theorem writeSnapshot_params (s : State) : (writeSnapshot s).params = s.params := by simp [writeSnapshot]

@[simp] theorem bothLinks_params (kind : Nat) (b : List Byte) (s : State) : (bothLinks kind b s).params = s.params := by
  simp [bothLinks]

@[simp] theorem failFrame_params (c : Nat) (s : State) : (failFrame c s).params = s.params := by simp [failFrame]
@[simp] theorem sendHb_params (s : State) : (sendHb s).params = s.params := by
  unfold sendHb
  split <;> simp

@[simp] theorem sendFragment_params (da : Nat) (s : State) : (sendFragment da s).params = s.params := by
  unfold sendFragment
  split <;> simp

/-! ## Campion -/

@[simp] theorem keepRefs_params (p : Plane) (src s : State) : (keepRefs p src s).params = s.params := by simp [keepRefs]

/-! ## Settings -/

@[simp] theorem commitStaged_params (s : State) : (commitStaged s).params = s.params := by simp [commitStaged]
@[simp] theorem confirm_params (s : State) : (confirm s).params = s.params := by
  unfold confirm
  split <;> simp
@[simp] theorem confirmTime_params (s : State) : (confirmTime s).params = s.params := by simp [confirmTime]
@[simp] theorem saveBegin_params (h : Nat) (s : State) : (saveBegin h s).params = s.params := by simp [saveBegin]

/-! ## Write -/

@[simp] theorem armShadow_params (p : Plane) (s : State) : (armShadow p s).params = s.params := by simp [armShadow]

@[simp] theorem shadowWord_params (p : Plane) (off v : Nat) (s : State) : (shadowWord p off v s).params = s.params := by
  simp [shadowWord]

@[simp] theorem waitWord_params (id v : Nat) (s : State) : (waitWord id v s).params = s.params := by simp [waitWord]
@[simp] theorem storeWord_params (id v : Nat) (s : State) : (storeWord id v s).params = s.params := by simp [storeWord]

/-! ## SetParam -/

@[simp] theorem stageWrite_params (ctl : Bool) (h : Nat) (es : List PEntry) (s : State) :
    (stageWrite ctl h es s).1.params = s.params := by
  unfold stageWrite
  (repeat' split) <;> simp

/-! ## Txn -/

@[simp] theorem putTile_params (p : Nat) (t : Tile) (s : State) : (putTile p t s).params = s.params := by simp [putTile]

@[simp] theorem writeTile_params (t : Nat) (img : List Byte) (s : State) : (writeTile t img s).params = s.params := by
  simp [writeTile]

@[simp] theorem takeTile_params (h : Nat) (p : Pre) (img : List Byte) (s : State) : (takeTile h p img s).1.params = s.params := by
  unfold takeTile
  (repeat' split) <;> simp

@[simp] theorem dropFrag_params (f : Frag) (s : State) : (dropFrag f s).params = s.params := by simp [dropFrag]

@[simp] theorem rgtWrite_params (e : Env) (p : DataPay) (s : State) : (rgtWrite e p s).1.params = s.params := by
  unfold rgtWrite
  (repeat' split) <;> simp

@[simp] theorem rgtRead_params (p : Pre) (s : State) : (rgtRead p s).1.params = s.params := by simp [rgtRead]
@[simp] theorem freeSpares_params (t : Txn) (s : State) : (freeSpares t s).params = s.params := by simp [freeSpares]

@[simp] theorem copyGroup_params (g : Nat) (s : State) : (copyGroup g s).params = s.params := by
  unfold copyGroup
  split <;> simp

@[simp] theorem swapTiles_params (t : Txn) (s : State) : (swapTiles t s).params = s.params := by simp [swapTiles]

/-! ## Reset -/

@[simp] theorem holdReset_params (s : State) : (holdReset s).params = s.params := by simp [holdReset]
@[simp] theorem powerFailRecord_params (s : State) : (powerFailRecord s).params = s.params := by simp [powerFailRecord]
@[simp] theorem corePowerDown_params (s : State) : (corePowerDown s).params = s.params := by simp [corePowerDown]

@[simp] theorem jtag_params (i : JtagIns) (s : State) : (jtag i s).params = s.params := by
  unfold jtag
  (repeat' split) <;> simp

/-! ## Firmware -/

@[simp] theorem beginUpdate_params (h len kind : Nat) (s : State) : (beginUpdate h len kind s).params = s.params := by
  simp [beginUpdate]

@[simp] theorem fwUpdate_params (e : Env) (len kind resv : Nat) (base : List Byte) (h : Nat) (s : State) :
    (fwUpdate e len kind resv base h s).1.params = s.params := by
  simp [fwUpdate]

@[simp] theorem slotWrite_params (off : Nat) (bs : List Byte) (s : State) : (slotWrite off bs s).params = s.params := by
  simp [slotWrite]

@[simp] theorem deltaRecords_params (n : Nat) (b : List Byte) (s : State) : (deltaRecords n b s).1.params = s.params := by
  induction n generalizing b s with
  | zero => rfl
  | succ n ih =>
    unfold deltaRecords
    (repeat' split) <;> simp [ih]

@[simp] theorem beginHitless_params (h kh : Nat) (s : State) : (beginHitless h kh s).params = s.params := by simp [beginHitless]

@[simp] theorem fwActivateHitless_params (e : Env) (resv kh h : Nat) (s : State) :
    (fwActivateHitless e resv kh h s).1.params = s.params := by
  simp [fwActivateHitless]

@[simp] theorem stageMigrated_params (ws : List (Nat × Word)) (ts : List (Nat × List Byte)) (s : State) :
    (stageMigrated ws ts s).params = s.params := by
  unfold stageMigrated
  split <;> simp

@[simp] theorem hitlessSwap_params (w : SwapWrite) (s : State) : (hitlessSwap w s).params = s.params := by
  unfold hitlessSwap
  split <;> simp

@[simp] theorem drawNonce_params (s : State) : (drawNonce s).params = s.params := by simp [drawNonce]
@[simp] theorem attest_params (nonce : List Byte) (s : State) : (attest nonce s).1.params = s.params := by simp [attest]

/-! ## Handles -/

@[simp] theorem selfTest_params (mask : Nat) (e : Env) (h : Nat) (s : State) : (selfTest mask e h s).1.params = s.params := by
  simp [selfTest]

@[simp] theorem handleQuery_params (h : Nat) (s : State) : (handleQuery h s).1.params = s.params := by
  unfold handleQuery
  (repeat' split) <;> simp

/-! ## Group -/

@[simp] theorem descriptorSend_params (s : State) : (descriptorSend s).params = s.params := by simp [descriptorSend]
@[simp] theorem showVerdict_params (v st : Nat) (s : State) : (showVerdict v st s).params = s.params := by simp [showVerdict]

@[simp] theorem beginAction_params (p : List Byte) (h : Nat) (s : State) : (beginAction p h s).params = s.params := by
  simp [beginAction]

/-! ## Islands -/

@[simp] theorem stopHealth_params (s : State) : (stopHealth s).params = s.params := by simp [stopHealth]

@[simp] theorem loseEntries_params (lost : List (Nat × Bool)) (s : State) : (loseEntries lost s).params = s.params := by
  simp [loseEntries]

@[simp] theorem restartAon_params (s : State) : (restartAon s).params = s.params := by simp [restartAon]

/-! ## Boot -/

@[simp] theorem markUnwritten_params (s : State) : (markUnwritten s).params = s.params :=
  foldl_params (fun s n => by split <;> simp) _ _

/-! ## Urgent -/

@[simp] theorem noteUrgent_params (c : Chan) (s : State) : (noteUrgent c s).params = s.params := by simp [noteUrgent]

@[simp] theorem propagate_params (mask group : Nat) (s : State) : (propagate mask group s).params = s.params := by
  simp [propagate]

/-! ## Host -/

@[simp] theorem misoOnes_params (n : Nat) (s : State) : (misoOnes n s).params = s.params := by simp [misoOnes]
@[simp] theorem miso_params (bs : List Byte) (s : State) : (miso bs s).params = s.params := by simp [miso]

@[simp] theorem spiRefuse_params (b : List Byte) (st : Nat) (s : State) : (spiRefuse b st s).params = s.params := by
  simp [spiRefuse]

@[simp] theorem packetRead_params (n : Nat) (s : State) : (packetRead n s).params = s.params := by
  unfold packetRead
  (repeat' split) <;> simp

@[simp] theorem winErr_params (s : State) : (winErr s).params = s.params := by simp [winErr]
@[simp] theorem windowRead_params (addr : Nat) (s : State) : (windowRead addr s).params = s.params := by simp [windowRead]

@[simp] theorem windowWrite_params (addr v crc : Nat) (s : State) : (windowWrite addr v crc s).params = s.params := by
  unfold windowWrite hwinWrite
  dsimp only
  (repeat' split) <;> simp

end Sys2Proof.Machine
end

section
/-! PROOFS. The canonical form of the parameter store. `setPar` writes the store with `tabSet`, which keeps the form, and no other
function writes it; so one lemma for each function of the model that calls `setPar`, directly or through another, says that the form
passes through it. Settles O4. -/

namespace Sys2Proof.Machine
open Sys2Proof

/-- The parameter store is in its canonical form. -/
def Canonical (s : State) : Prop := ParamsOk s

namespace Canonical

variable {α β : Type} {s t : State}

theorem same (h : t.params = s.params) (hs : Canonical s) : Canonical t := by
  rwa [Canonical, ParamsOk, h]

/-- A state with another state's parameter store. -/
theorem at_mk {pending pins wait stored planes mods meas meter rgt prt isl host txn time clk eth0 eth1 replay acq ybus cols sums gfm
    msd red fw wire free} (hs : Canonical s) :
    Canonical ⟨pending, pins, s.params, wait, stored, planes, mods, meas, meter, rgt, prt, isl, host, txn, time, clk, eth0, eth1,
      replay, acq, ybus, cols, sums, gfm, msd, red, fw, wire, free⟩ := hs

theorem at_ite {c : Prop} [Decidable c] (hs : Canonical s) (ht : Canonical t) : Canonical (if c then s else t) := by
  split <;> assumption

theorem at_ite_fst {c : Prop} [Decidable c] {x y : State × α} (hx : Canonical x.1) (hy : Canonical y.1) :
    Canonical (if c then x else y).1 := by
  split <;> assumption

theorem at_foldl {f : State → α → State} {l : List α} (hf : ∀ t x, Canonical t → Canonical (f t x)) (hs : Canonical s) :
    Canonical (l.foldl f s) := by
  induction l generalizing s with
  | nil => exact hs
  | cons x l ih => exact ih (hf s x hs)

theorem at_foldl_fst {f : State × β → α → State × β} {l : List α} {a : State × β}
    (hf : ∀ a x, Canonical a.1 → Canonical (f a x).1) (ha : Canonical a.1) : Canonical (l.foldl f a).1 := by
  induction l generalizing a with
  | nil => exact ha
  | cons x l ih => exact ih (hf a x ha)

/-! ## Ops -/

theorem at_setPar {id v : Nat} (hs : Canonical s) : Canonical (setPar id v s) := tabSet_wf _ _ _ _ hs

theorem at_setParBit {id b : Nat} {on : Bool} (hs : Canonical s) : Canonical (setParBit id b on s) := .at_setPar hs

theorem at_setParBits {id lo n v : Nat} (hs : Canonical s) : Canonical (setParBits id lo n v s) := .at_setPar hs

theorem at_count {id : Nat} (hs : Canonical s) : Canonical (count id s) := .at_setPar hs

theorem at_countN {id n : Nat} (hs : Canonical s) : Canonical (countN id n s) := by
  induction n generalizing s with
  | zero => exact hs
  | succ n ih => exact ih (.at_count hs)

theorem at_pushSpi {p : Packet} (hs : Canonical s) : Canonical (pushSpi p s) :=
  .at_ite (.same (updHost_params ..) hs) <| .same (updHost_params ..) <| .at_count hs

theorem at_sendTo {c : Chan} {p : Packet} {s0 : State} (hs : Canonical s0) : Canonical (sendTo c p s0) := by
  unfold sendTo
  extract_lets s k
  have hs : Canonical s := .same (noteEvent_params ..) hs
  exact .at_ite hs <| by split; exacts [.at_pushSpi hs, .same (emit_params ..) <| .same (keepChan_params ..) hs]

theorem at_routeAsync {p : Packet} {s0 : State} (hs : Canonical s0) : Canonical (routeAsync p s0) := by
  unfold routeAsync
  extract_lets s s1
  have hs : Canonical s := .same (noteEvent_params ..) hs
  exact .same (sendDst_params ..) <|
    .same (sendDst_params ..) <| .same (sendDst_params ..) <| .same (sendDst_params ..) <| .at_ite (.at_pushSpi hs) hs

theorem at_sendAsync {col : Option Nat} {code : Nat} {body : List Byte} (hs : Canonical s) :
    Canonical (sendAsync col code body s) := by
  unfold sendAsync
  exact .at_ite (.at_routeAsync hs) <|
    .at_ite (.same (updHost_params ..) hs) <| by split; exacts [.same (colPut_params ..) hs, hs]

theorem at_flagEvent {id bit detail : Nat} (hs : Canonical s) : Canonical (flagEvent id bit detail s) := .at_sendAsync hs

theorem at_raiseFlag {id bit detail : Nat} (hs : Canonical s) : Canonical (raiseFlag id bit detail s) :=
  .at_flagEvent <| .at_setParBit hs

theorem at_raiseNum {num detail : Nat} (hs : Canonical s) : Canonical (raiseNum num detail s) := .at_flagEvent hs

theorem at_takeFails {step : Nat} (hs : Canonical s) : Canonical (takeFails step s) := .at_ite (.at_raiseFlag <| .at_mk hs) hs

theorem at_setBrk {b : Nat} {on : Bool} (hs : Canonical s) : Canonical (setBrk b on s) := by
  unfold setBrk
  extract_lets s1
  have hs1 : Canonical s1 := .at_setParBit hs
  exact .at_ite (.same (updPrt_params ..) hs1) <| .at_ite (.at_setParBit hs1) hs1

theorem at_leaveLaw {withdraw : Bool} (hs : Canonical s) : Canonical (leaveLaw withdraw s) :=
  .at_setParBits <| .at_ite (.at_setBrk hs) hs

theorem at_enterState {p : Plane} {st : PState} {sub : SafeSub} (hs : Canonical s) : Canonical (enterState p st sub s) := by
  unfold enterState
  extract_lets l l' s1
  have hs1 : Canonical s1 := .same (setLane_params ..) hs
  exact .at_ite hs1 <| .at_sendAsync hs1

theorem at_complete {h status cause : Nat} {results : List Byte} (hs : Canonical s) :
    Canonical (complete h status cause results s) := by
  unfold complete
  split
  · exact hs
  · exact .at_ite (.same (updHost_params ..) hs) <| .at_sendTo <| .same (updHost_params ..) hs

theorem at_progress {h v : Nat} (hs : Canonical s) : Canonical (progress h v s) := by
  unfold progress
  split
  · exact hs
  · exact .at_sendTo hs

theorem at_flushLate {keep : Nat → Bool} (hs : Canonical s) : Canonical (flushLate keep s) := by
  unfold flushLate
  exact .at_foldl (fun _ _ hs => by split; exacts [.at_ite (.at_complete hs) hs, hs]) <| .same (updHost_params ..) hs

/-! ## Sorrel -/

theorem at_stickPorts {b : Nat} {m : Ports} (hs : Canonical s) : Canonical (stickPorts b m s) :=
  .at_foldl (fun _ _ hs => .at_ite (.at_setParBit hs) hs) hs

theorem at_settle {bySorrel : Bool} {soft : Ports} (hs : Canonical s) : Canonical (settle bySorrel soft s) :=
  .at_stickPorts <| .same (updPrt_params ..) hs

theorem at_chopStop (hs : Canonical s) : Canonical (chopStop s) := by
  unfold chopStop
  extract_lets s1 s2
  have hs1 : Canonical s1 := .same (updPrt_params ..) hs
  have hs2 : Canonical s2 := .same (override_params ..) hs1
  exact .at_ite (.at_settle <| .at_ite (.same (updPrt_params ..) hs2) hs2) hs1

theorem at_dropMc (hs : Canonical s) : Canonical (dropMc s) := .at_ite (.at_setParBit hs) hs

theorem at_noteFallback {fb : Bool} (hs : Canonical s) : Canonical (noteFallback fb s) :=
  .at_ite (.at_raiseNum <| .same (updPrt_params ..) hs) hs

theorem at_rechoose (hs : Canonical s) : Canonical (rechoose s) := by
  unfold rechoose
  extract_lets c s1 s2
  have hs1 : Canonical s1 := .at_noteFallback hs
  exact .at_ite (.at_dropMc <| .at_ite hs1 <| .at_settle <| .same (enterSub_params ..) <| .at_enterState hs1) hs

theorem at_cancelAll {l : List Nat} {cause : Nat} (hs : Canonical s) : Canonical (cancelAll l cause s) :=
  .at_foldl (fun _ _ hs => .at_complete hs) hs

theorem at_showShadow {p : Plane} {w : PeriodSet} (hs : Canonical s) : Canonical (showShadow p w s) :=
  .at_ite hs <| .at_foldl (fun _ _ hs => .at_setPar hs) <| .at_setPar hs

theorem at_initMod {p : Plane} (hs : Canonical s) : Canonical (initMod p s) :=
  .at_ite (.same (updMod_params ..) hs) <| .same (updPrt_params ..) <| .same (updMod_params ..) <| .at_showShadow hs

theorem at_quitLane {p : Plane} (hs : Canonical s) : Canonical (quitLane p s) := by
  unfold quitLane
  extract_lets l s1 s2 s3
  have hs2 : Canonical s2 := .at_cancelAll <| .at_cancelAll hs
  exact .same (updLane_params ..) <| .at_ite (.at_cancelAll hs2) <| .at_ite (.at_leaveLaw <| .at_cancelAll hs2) hs2

theorem at_enterSafe {p : Plane} {code : Nat} {soft : Ports} (hs : Canonical s) : Canonical (enterSafe p code soft s) :=
  .at_dropMc <|
  .at_quitLane <|
  .at_settle <|
  .at_initMod <|
  .same (safePattern_params ..) <| .at_enterState <| .at_noteFallback <| .same (updHost_params ..) <| .at_count <| .at_setPar hs

theorem at_causeAt {p : Plane} {code : Nat} {soft : Ports} (hs : Canonical s) : Canonical (causeAt p code soft s) := by
  unfold causeAt
  exact .at_ite hs <| by split; exacts [.at_enterSafe hs, .at_enterSafe hs, .at_enterSafe hs, .at_ite (.at_rechoose hs) hs, hs]

theorem at_causeEach {ps : List Plane} {code : Nat} {soft : Ports} (hs : Canonical s) : Canonical (causeEach ps code soft s) :=
  .at_foldl (fun _ _ hs => .at_causeAt hs) hs

theorem at_causeEvery {code : Nat} {soft : Ports} (hs : Canonical s) : Canonical (causeEvery code soft s) := .at_causeEach hs

/-! ## Protect -/

theorem at_enablesOff (hs : Canonical s) : Canonical (enablesOff s) := .at_settle <| .same (updPrt_params ..) hs

theorem at_haltFall (hs : Canonical s) : Canonical (haltFall s) := .at_causeEvery <| .at_settle <| .at_mk hs
theorem at_haltRise (hs : Canonical s) : Canonical (haltRise s) := .at_ite (.at_enablesOff <| .at_mk hs) hs

theorem at_stoLow {second : Bool} (hs : Canonical s) : Canonical (stoLow second s) :=
  .at_causeEvery <| .same (forceBlock_params ..) <| .at_settle <| .at_mk hs

theorem at_stoHigh (hs : Canonical s) : Canonical (stoHigh s) := .at_ite hs <| .at_enablesOff <| .at_mk hs

theorem at_keepAliveLoss {m : Ports} (hs : Canonical s) : Canonical (keepAliveLoss m s) :=
  .at_settle <| .same (updPrt_params ..) hs

theorem at_uvloDeclare {n : Nat} {m : Mon} (hs : Canonical s) : Canonical (uvloDeclare n m s) :=
  .at_ite (.at_rechoose <| .at_causeAt <| .at_settle <| .same (setMon_params ..) hs) hs

theorem at_uvloRelease {n : Nat} {m : Mon} (hs : Canonical s) : Canonical (uvloRelease n m s) :=
  .at_ite (.at_rechoose <| .at_settle <| .same (setMon_params ..) hs) hs

theorem at_latchFault {hard : Bool} {n : Nat} {up : Bool} (hs : Canonical s) : Canonical (latchFault hard n up s) := by
  unfold latchFault
  extract_lets s1 s2 s3
  have hs2 : Canonical s2 := .at_count <| .at_setParBit <| .same (updPrt_params ..) hs
  exact .at_raiseFlag <| .at_ite (.same (updPrt_params ..) hs2) hs2

theorem at_shortDesat {l : List (Nat × Bool)} (hs : Canonical s) : Canonical (shortDesat l s) :=
  .at_foldl (fun _ _ hs => .at_causeAt hs) <|
  .at_settle <| .at_foldl (fun _ _ hs => .at_latchFault hs) <| .at_ite hs <| .same (updPrt_params ..) hs

theorem at_shortHard {n : Nat} {up : Bool} (hs : Canonical s) : Canonical (shortHard n up s) :=
  .at_ite (.at_causeAt <| .at_settle <| .at_latchFault <| .same (updPrt_params ..) hs) hs

theorem at_shortStagger (hs : Canonical s) : Canonical (shortStagger s) := by
  unfold shortStagger
  split
  · exact hs
  · exact .at_settle <| .same (updPrt_params ..) hs

theorem at_deferredTurnOff {n : Nat} (hs : Canonical s) : Canonical (deferredTurnOff n s) :=
  .at_ite hs <| .at_settle <| .same (updPrt_params ..) hs

theorem at_gatePwrHigh {n mw : Nat} (hs : Canonical s) : Canonical (gatePwrHigh n mw s) := by
  unfold gatePwrHigh
  extract_lets s1
  have hs1 : Canonical s1 := .at_setPar hs
  exact .at_ite (.at_raiseFlag hs1) hs1

theorem at_gateBudget {p pin : Nat} (hs : Canonical s) : Canonical (gateBudget p pin s) := by
  unfold gateBudget
  extract_lets s1
  have hs1 : Canonical s1 := .at_setPar <| .at_setPar hs
  exact .at_ite hs <| .at_ite (.at_causeEach <| .at_raiseNum hs1) hs1

theorem at_tBaseUpdate {t : Int} (hs : Canonical s) : Canonical (tBaseUpdate t s) := by
  unfold tBaseUpdate
  extract_lets s1 s2
  have hs1 : Canonical s1 := .at_setPar hs
  have hs2 : Canonical s2 :=
    .at_ite (.at_raiseNum <| .same (updPrt_params ..) hs1) <| .at_ite (.same (updPrt_params ..) hs1) hs1
  exact .at_ite hs <| .at_ite (.at_causeEvery hs2) hs2

theorem at_mpSupply {n : Nat} (hs : Canonical s) : Canonical (mpSupply n s) :=
  .at_ite (.at_raiseNum <| .same (updPrt_params ..) hs) hs

theorem at_splitCheck (hs : Canonical s) : Canonical (splitCheck s) := .at_ite (.at_raiseFlag <| .at_mk hs) hs

theorem at_brkMismatch {mc : Bool} (hs : Canonical s) : Canonical (brkMismatch mc s) :=
  .at_ite (.at_ite (.at_raiseFlag <| .same (updPrt_params ..) hs) hs) <|
  .at_ite (.at_raiseFlag <| .same (updPrt_params ..) hs) hs

theorem at_ascNext (hs : Canonical s) : Canonical (ascNext s) := .at_ite (.at_settle <| .same (ascApply_params ..) hs) hs

theorem at_forcedAscEnd (hs : Canonical s) : Canonical (forcedAscEnd s) :=
  .at_ite (.at_rechoose <| .same (updPrt_params ..) hs) hs

theorem at_drivePlane {p : Plane} (hs : Canonical s) : Canonical (drivePlane p s) := .at_settle <| .same (updPrt_params ..) hs

theorem at_refreshOut {p : Plane} (hs : Canonical s) : Canonical (refreshOut p s) :=
  .at_drivePlane <| .same (updMod_params ..) hs

theorem at_cutAck {p : Plane} (hs : Canonical s) : Canonical (cutAck p s) :=
  .at_settle <| .same (writePermit_params ..) <| .same (updPrt_params ..) hs

theorem at_boundaryCount {p : Plane} (hs : Canonical s) : Canonical (boundaryCount p s) := by
  unfold boundaryCount
  extract_lets run s1 s2
  have hs1 : Canonical s1 := .same (updPrt_params ..) hs
  have hs2 : Canonical s2 := .at_ite (.at_count hs1) hs1
  exact .at_ite (.at_causeAt <| .at_setPar hs2) <| .at_setPar hs2

/-! ## Measure -/

theorem at_strobeMeas {len div : Nat} {bs : List Nat} (hs : Canonical s) : Canonical (strobeMeas len div bs s) := by
  unfold strobeMeas
  exact .at_ite hs <|
    .same (bumpManch_params ..) <|
    .same (recCount_params ..) <|
    .at_foldl (fun _ _ hs => by
      extract_lets s1
      have hs1 : Canonical s1 := .same (updMport_params ..) hs
      exact .at_ite hs <| .at_ite (.at_setParBit hs1) hs1) hs

theorem at_ctlLoss {n : Nat} {at' : Int} {k : Loss} (hs : Canonical s) : Canonical (ctlLoss n at' k s) :=
  .at_setParBit <| .at_setParBit <| .same (updMport_params ..) hs

theorem at_withdrawLeg {n : Nat} (hs : Canonical s) : Canonical (withdrawLeg n s) := .at_settle <| .same (updPrt_params ..) hs

theorem at_lossAction {code : Nat} (hs : Canonical s) : Canonical (lossAction code s) :=
  .at_ite hs <| .at_ite (.at_withdrawLeg hs) <| .at_ite hs <| .at_ite (.at_causeEvery <| .at_chopStop hs) <| .at_causeEach hs

theorem at_prtLoss {n : Nat} {k : Loss} (hs : Canonical s) : Canonical (prtLoss n k s) :=
  .at_lossAction <| .at_raiseFlag <| .at_setParBit <| .at_setParBit <| .same (updMport_params ..) hs

theorem at_declareLoss {n : Nat} {at' : Int} {inPrt : Bool} {k : Loss} (hs : Canonical s) :
    Canonical (declareLoss n at' inPrt k s) :=
  .at_ite hs <| .at_ite (.at_prtLoss hs) <| .at_ctlLoss hs

theorem at_clkFault {n : Nat} {at' : Int} {faulty : Bool} (hs : Canonical s) : Canonical (clkFault n at' faulty s) := by
  unfold clkFault
  extract_lets s1
  have hs1 : Canonical s1 := .same (updMport_params ..) hs
  exact .at_ite hs <| .at_ite (.at_ctlLoss hs1) hs1

theorem at_skewAuto {n : Nat} {up : Bool} (hs : Canonical s) : Canonical (skewAuto n up s) := by
  unfold skewAuto
  extract_lets p s1
  have hs1 : Canonical s1 := .same (updMport_params ..) hs
  exact .at_ite hs <| by split; exacts [hs1, .at_setPar hs1, .at_setParBit <| .same (updMport_params ..) hs1]

theorem at_meterOutput {bs : List Nat} (hs : Canonical s) : Canonical (meterOutput bs s) :=
  .at_setPar <| .at_mk <| .at_foldl (fun _ _ hs => .same (setMport_params ..) hs) hs

theorem at_meterCycle (hs : Canonical s) : Canonical (meterCycle s) := .at_mk <| .at_ite (.at_raiseNum hs) hs

/-! ## Rgt -/

theorem at_tileFails {t : Nat} (hs : Canonical s) : Canonical (tileFails t s) :=
  .at_raiseNum <| .same (evict_params ..) <| .same (setBad_params ..) hs

theorem at_takeEntry {p : Plane} {e : Entry} {sre : Bool} (hs : Canonical s) : Canonical (takeEntry p e sre s) := by
  unfold takeEntry
  extract_lets l s1
  have hs1 : Canonical s1 := .at_setPar <| .same (updLane_params ..) hs
  exact .at_ite (.at_count hs1) hs1

theorem at_regionLookup {p : Plane} (hs : Canonical s) : Canonical (regionLookup p s) :=
  .at_ite (.at_takeEntry hs) <| .at_ite (.at_takeEntry <| .same (updLane_params ..) hs) <| .at_takeEntry <| .at_tileFails hs

theorem at_scrub (hs : Canonical s) : Canonical (scrub s) := by
  unfold scrub
  split
  · exact .same (updRgt_params ..) hs
  · extract_lets s1
    have hs1 : Canonical s1 := .same (updRgt_params ..) hs
    exact .at_ite hs1 <| .at_tileFails hs1

theorem at_sreCheck (hs : Canonical s) : Canonical (sreCheck s) :=
  .at_foldl (fun _ _ hs => .at_ite (.at_causeAt <| .at_raiseNum hs) hs) hs

/-! ## Modulator -/

theorem at_modSticky {p : Plane} {bit : Nat} {cnt : Option Nat} (hs : Canonical s) : Canonical (modSticky p bit cnt s) := by
  unfold modSticky
  extract_lets s1
  have hs1 : Canonical s1 := .at_raiseFlag hs
  split
  · exact .at_count hs1
  · exact hs1

theorem at_reload {p : Plane} {was : Pat} {w : RaceWrite} (hs : Canonical s) : Canonical (reload p was w s) := by
  unfold reload
  extract_lets m late s1
  have hs1 : Canonical s1 := .same (updMod_params ..) hs
  exact .at_ite (.at_ite (.at_modSticky hs1) hs1) <| .at_ite (.at_modSticky hs) <| .at_ite (.at_modSticky hs) hs

theorem at_showCarrier {p : Plane} {cyc : Int} (hs : Canonical s) : Canonical (showCarrier p cyc s) :=
  .at_ite (.at_refreshOut <| .same (updMod_params ..) hs) hs

theorem at_takeCas {p : Plane} {bs : List Nat} {k : Nat} (hs : Canonical s) : Canonical (takeCas p bs k s) := by
  unfold takeCas
  extract_lets osr ns s1
  have hs1 : Canonical s1 := .at_foldl (fun _ _ hs => .same (updMport_params ..) hs) hs
  exact .at_ite hs <| .at_ite (.at_count hs1) <| .same (updLane_params ..) hs1

theorem at_exitAtValley {p : Plane} (hs : Canonical s) : Canonical (exitAtValley p s) :=
  .at_ite (.at_count <| .same (updMod_params ..) hs) hs

theorem at_cutArrival {p : Plane} {at' : Nat} (hs : Canonical s) : Canonical (cutArrival p at' s) :=
  .at_ite hs <| .at_refreshOut <| .same (updMod_params ..) <| .same (updPrt_params ..) <| .same (keepTo_params ..) hs

/-! ## Clock -/

theorem at_setPllm {st ref : Nat} (hs : Canonical s) : Canonical (setPllm st ref s) := .at_setParBits <| .at_setParBits hs

theorem at_enterHoldover (hs : Canonical s) : Canonical (enterHoldover s) := .at_raiseFlag <| .at_count <| .at_setPllm hs

theorem at_relock {ref : Nat} (hs : Canonical s) : Canonical (relock ref s) := .at_setPllm hs

theorem at_clkHoldover (hs : Canonical s) : Canonical (clkHoldover s) := .at_ite (.at_enterHoldover <| .at_setParBit hs) hs

theorem at_refQualified {alt : Bool} (hs : Canonical s) : Canonical (refQualified alt s) := by
  unfold refQualified
  extract_lets ref s1
  have hs1 : Canonical s1 := .at_setParBit hs
  exact .at_ite hs <| .at_ite (.at_relock hs1) hs1

theorem at_clkAltUsed (hs : Canonical s) : Canonical (clkAltUsed s) := .at_ite (.at_raiseFlag <| .at_relock hs) hs

theorem at_refSelWritten (hs : Canonical s) : Canonical (refSelWritten s) := by
  unfold refSelWritten
  extract_lets s1
  have hs1 : Canonical s1 := .at_setParBit hs
  exact .at_ite (.at_enterHoldover hs1) <| .at_ite (.at_setPllm hs1) hs1

theorem at_refAltWritten {old v : Nat} (hs : Canonical s) : Canonical (refAltWritten old v s) := .at_ite hs <| .at_setParBit hs

theorem at_refModeWritten (hs : Canonical s) : Canonical (refModeWritten s) := by
  unfold refModeWritten
  extract_lets use s1
  have hs1 : Canonical s1 := .at_enterHoldover hs
  exact .at_ite (.at_ite (.at_relock hs1) hs1) hs

theorem at_startFallback (hs : Canonical s) : Canonical (startFallback s) := .at_ite hs <| .at_mk <| .at_causeEvery hs

theorem at_clkFallback (hs : Canonical s) : Canonical (clkFallback s) :=
  .at_ite (.at_raiseFlag <| .at_count <| .same (unalign_params ..) <| .at_setPar <| .at_setParBit <| .at_mk hs) hs

theorem at_clkReturn (hs : Canonical s) : Canonical (clkReturn s) := .at_ite (.at_raiseFlag <| .at_setParBit hs) hs

theorem at_disqualify {w : FreqWin} (hs : Canonical s) : Canonical (disqualify w s) := by
  unfold disqualify
  extract_lets drop use s1
  have hs1 : Canonical s1 := .at_ite (.at_setParBit <| .at_ite (.at_setParBit hs) hs) <| .at_ite (.at_setParBit hs) hs
  exact .at_ite (.at_clkHoldover hs1) hs1

theorem at_freqWindow {w : FreqWin} (hs : Canonical s) : Canonical (freqWindow w s) := by
  unfold freqWindow
  extract_lets _ _ _ _ s2 s3 s4
  have hs2 : Canonical s2 := by
    unfold s2
    exact .at_mk <| .at_setPar <| .at_setPar <| .at_setPar hs
  have hs3 : Canonical s3 := .at_ite (.at_raiseFlag hs2) hs2
  have hs4 : Canonical s4 := .at_disqualify <| .at_ite (.at_raiseFlag hs3) hs3
  exact .at_ite hs <| .at_ite (.at_startFallback hs4) hs4

theorem at_phaseStepApply (hs : Canonical s) : Canonical (phaseStepApply s) :=
  .at_ite hs <| .at_foldl (fun _ _ hs => .same (updMod_params ..) hs) <| .at_setPar <| .at_setPar hs

theorem at_nextIndex (hs : Canonical s) : Canonical (nextIndex s) := .at_setPar <| .at_setPar <| .at_mk hs

theorem at_advanceGrid (hs : Canonical s) : Canonical (advanceGrid s) := by
  unfold advanceGrid
  extract_lets _ _ _ _ s1
  have hs1 : Canonical s1 := by
    unfold s1
    exact .at_mk hs
  exact .at_ite (.at_mk hs) <| .at_ite (.at_meterCycle hs1) hs1

/-! ## Carrier -/

theorem at_loseAlign {p : Plane} (hs : Canonical s) : Canonical (loseAlign p s) :=
  .at_ite (.at_modSticky <| .same (updMod_params ..) hs) hs

theorem at_alignMark {p : Plane} {valley mark : Int} (hs : Canonical s) : Canonical (alignMark p valley mark s) := by
  unfold alignMark
  extract_lets e lim lead whole s1 s2 missed
  have hs1 : Canonical s1 := .at_setPar <| .same (updMod_params ..) hs
  have hs2 : Canonical s2 := .at_ite (.at_setPar hs1) hs1
  exact .at_ite (.at_loseAlign hs2) <| .at_ite (.same (updMod_params ..) hs2) hs2

theorem at_alignValley {p : Plane} {valley : Int} (hs : Canonical s) : Canonical (alignValley p valley s) := by
  unfold alignValley
  extract_lets m lim a
  exact .at_ite (by split; exacts [.at_alignMark hs, hs]) <| .same (updMod_params ..) hs

theorem at_turnEvent {p : Plane} {bs : List Nat} {cas : Bool} {w : RaceWrite} (hs : Canonical s) :
    Canonical (turnEvent p bs cas w s) := by
  unfold turnEvent
  extract_lets t was s1 valley s2 s3 s4 s5
  have hs2 : Canonical s2 := .same (updMod_params ..) <| .same (keepUntil_params ..) hs
  have hs3 : Canonical s3 := .at_ite (.same (endPeriod_params ..) hs2) hs2
  have hs4 : Canonical s4 := .at_ite (.at_exitAtValley hs3) <| .at_ite (.same (rampCount_params ..) <| .at_reload hs3) hs3
  have hs5 : Canonical s5 := .at_ite (.at_takeCas hs4) hs4
  exact .at_showCarrier <| .at_ite (.at_alignValley hs5) hs5

theorem at_feedEvent {p : Plane} (hs : Canonical s) : Canonical (feedEvent p s) := by
  unfold feedEvent
  split
  · exact hs
  · exact .at_showCarrier <| .same (updMod_params ..) <| .same (keepUntil_params ..) hs

theorem at_carrierReload {p : Plane} {bs : List Nat} {w : RaceWrite} (hs : Canonical s) : Canonical (carrierReload p bs w s) :=
  .at_ite (.at_turnEvent hs) hs

theorem at_catchUp {p : Plane} {bs : List Nat} {x : Int} {n : Nat} (hs : Canonical s) : Canonical (catchUp p bs x n s) := by
  induction n generalizing s with
  | zero => exact hs
  | succ n ih =>
    unfold catchUp
    extract_lets m due
    clear_value due
    split
    · exact .at_ite (ih (.at_feedEvent hs)) hs
    · exact .at_ite (ih (.at_turnEvent hs)) hs

theorem at_atStrobe {p : Plane} {x : Int} (hs : Canonical s) : Canonical (atStrobe p x s) := by
  unfold atStrobe
  extract_lets s1
  have hs1 : Canonical s1 := by
    unfold s1
    split
    · exact .at_ite (.at_feedEvent hs) hs
    · exact hs
  exact .at_ite (.at_turnEvent hs1) hs1

theorem at_maskStep {p : Plane} {x : Nat} (hs : Canonical s) : Canonical (maskStep p x s) :=
  .at_refreshOut <| .at_setPar <| .same (keepTo_params ..) hs

theorem at_encoderIndex {enc at' : Nat} (hs : Canonical s) : Canonical (encoderIndex enc at' s) :=
  .at_ite hs <| .at_foldl (fun _ _ hs => .at_ite (.at_maskStep hs) hs) hs

theorem at_maskComparator {tc at' : Nat} (hs : Canonical s) : Canonical (maskComparator tc at' s) :=
  .at_ite hs <| .at_foldl (fun _ _ hs => .at_ite (.at_maskStep hs) hs) hs

theorem at_maskApply {p : Plane} (hs : Canonical s) : Canonical (maskApply p s) := by
  unfold maskApply
  split
  · exact .at_setPar hs
  · exact hs

theorem at_debugResume (hs : Canonical s) : Canonical (debugResume s) :=
  .at_ite (.at_foldl (fun _ _ hs => .at_ite (.at_initMod hs) hs) <| .same (unalign_params ..) <| .at_mk hs) hs

/-! ## Lane -/

theorem at_dropLegs (hs : Canonical s) : Canonical (dropLegs s) :=
  .at_ite (.at_foldl (fun _ _ hs => .at_ite (.at_raiseNum <| .same (updLane_params ..) hs) hs) hs) hs

theorem at_noteRecon (hs : Canonical s) : Canonical (noteRecon s) := by
  unfold noteRecon
  extract_lets r s1
  clear_value r
  have hs1 : Canonical s1 := .same (updLane_params ..) hs
  exact .at_ite hs <| by split; exacts [.at_raiseNum hs1, hs1]

theorem at_laneRegion {p : Plane} (hs : Canonical s) : Canonical (laneRegion p s) :=
  .at_ite hs <| .at_regionLookup <| .same (rebinLane_params ..) hs

theorem at_requestSafe {p : Plane} (hs : Canonical s) : Canonical (requestSafe p s) :=
  .at_ite hs <| .same (updLane_params ..) <| .at_causeAt hs

theorem at_feExpire {p : Plane} {leg : Nat} (hs : Canonical s) : Canonical (feExpire p leg s) := by
  unfold feExpire
  extract_lets s1
  have hs1 : Canonical s1 := .at_raiseNum <| .at_count <| .same (updLane_params ..) hs
  split
  · exact hs1
  · exact .at_ite (.same (updMod_params ..) hs1) <| .at_requestSafe hs1
  · exact .at_requestSafe hs1

theorem at_supervise {p : Plane} {m : Meas} (hs : Canonical s) : Canonical (supervise p m s) := by
  unfold supervise
  exact .at_ite
    (.at_foldl (fun _ _ hs => by
      extract_lets r s1
      have hs1 : Canonical s1 := .same (updLane_params ..) hs
      exact .at_ite (.at_feExpire hs1) hs1) hs) <|
    .same (updLane_params ..) hs

/-! ## Service -/

theorem at_acceptSeq {e : Env} (hs : Canonical s) : Canonical (acceptSeq e s) := by
  unfold acceptSeq
  extract_lets k s1 s2
  have hs2 : Canonical s2 := .same (setChan_params ..) <| .at_ite (.at_count hs) hs
  split
  · exact .same (updHost_params ..) hs2
  · exact hs2

theorem at_serveSeq {cls op : Nat} {e : Env} {needs : State → Bool} {body : Nat → State → State × Ans}
    (hb : ∀ n t, Canonical t → Canonical (body n t).1) (hs : Canonical s) : Canonical (serveSeq cls op e needs body s) := by
  unfold serveSeq
  extract_lets k s1 h r
  have hs1 : Canonical s1 := .at_acceptSeq hs
  have hr : Canonical r.1 := .at_ite_fst (hb _ _ hs1) hs1
  split
  · exact .same (sendReply_params ..) <| .same (touchChan_params ..) hs
  · refine .at_ite (.at_count <| .same (touchChan_params ..) hs) (.at_ite (.same (answer_params ..) hs1) ?_)
    split
    · exact .same (answer_params ..) hr
    · exact hr

theorem at_serve {cls op flags : Nat} {e : Env} {needs : State → Bool} {body : Nat → State → State × Ans}
    (hb : ∀ n t, Canonical t → Canonical (body n t).1) (hs : Canonical s) : Canonical (serve cls op e flags needs body s) :=
  .at_ite hs <| .at_ite (.at_count hs) <|
    .at_ite (.same (turnAway_params ..) <| .same (touchChan_params ..) hs) <| .at_serveSeq hb hs

theorem at_withLength {ok : Bool} {cls op : Nat} {e : Env} {f : State → State} (hf : ∀ t, Canonical t → Canonical (f t))
    (hs : Canonical s) : Canonical (withLength ok cls op e f s) :=
  .at_ite (.same (turnAway_params ..) <| .same (touchChan_params ..) hs) (hf s hs)

theorem at_serveShort {cls op : Nat} {e : Env} {body : State → State × Ans} (hb : ∀ t, Canonical t → Canonical (body t).1)
    (hs : Canonical s) : Canonical (serveShort cls op e body s) := .at_serve (fun _ => hb) hs

theorem at_serveLong {cls op : Nat} {e : Env} {body : Nat → State → State × Ans}
    (hb : ∀ n t, Canonical t → Canonical (body n t).1) (hs : Canonical s) :
    Canonical (serveLong cls op e body s) :=
  .at_serve hb hs

/-! ## Acquire -/

theorem at_nextRecord (hs : Canonical s) : Canonical (nextRecord s) := by
  unfold nextRecord
  split
  · exact .same (fillSlot_params ..) hs
  · split
    · exact .same (fillSlot_params ..) hs
    · exact .at_raiseFlag <| .same (updAcq_params ..) hs

theorem at_closeRecord {status : Nat} (hs : Canonical s) : Canonical (closeRecord status s) := by
  unfold closeRecord
  split
  · exact hs
  · exact .at_raiseFlag <| .at_setPar <| .same (updAcq_params ..) <| .same (updSlot_params ..) hs

theorem at_recordClose (hs : Canonical s) : Canonical (recordClose s) := .at_ite (.at_nextRecord <| .at_closeRecord hs) hs

theorem at_startCapture (hs : Canonical s) : Canonical (startCapture s) := .at_ite (.at_nextRecord hs) hs
theorem at_stopCapture (hs : Canonical s) : Canonical (stopCapture s) := .at_closeRecord hs

theorem at_takeTrigger {mask : Nat} (hs : Canonical s) : Canonical (takeTrigger mask s) := by
  unfold takeTrigger
  extract_lets ignored
  exact .at_ite hs <| by
      split
      · exact .at_ite (.at_countN hs) hs
      · exact .at_ite (.same (updSlot_params ..) hs) <| .at_ite (.at_countN hs) <| .same (startPost_params ..) hs

theorem at_groupFire {u : Nat} (hs : Canonical s) : Canonical (groupFire u s).1 :=
  .at_ite_fst (.same (emit_params ..) <| .at_mk hs) <| .at_raiseFlag hs

theorem at_fireUnits {us : List Nat} (hs : Canonical s) : Canonical (fireUnits us s) := by
  unfold fireUnits
  refine .at_takeTrigger (.at_foldl_fst (fun a u ha => ?_) hs)
  extract_lets s1 g
  have hs1 : Canonical s1 := .at_setPar ha
  have hg : Canonical g.1 := .at_groupFire hs1
  clear_value g
  split
  · exact hg
  · exact hs1

theorem at_fireKind {kind : Nat} {sel : Nat → Bool} (hs : Canonical s) : Canonical (fireKind kind sel s) :=
  .at_fireUnits <| .same (updAcq_params ..) hs

theorem at_evalUnits (hs : Canonical s) : Canonical (evalUnits s) := .at_fireUnits <| .same (updAcq_params ..) hs

theorem at_captureBundle (hs : Canonical s) : Canonical (captureBundle s) := by
  unfold captureBundle
  extract_lets s0 ws s1 b s2
  have hs1 : Canonical s1 := .same (updAcq_params ..) <| .at_recordClose hs
  exact .at_ite hs <| .at_evalUnits <| .at_ite (.same (storeBundle_params ..) hs1) hs1

/-! ## Replay -/

theorem at_endReplay {st cause : Nat} (hs : Canonical s) : Canonical (endReplay st cause s) := by
  unfold endReplay
  extract_lets s1
  split
  · exact hs
  · exact .at_complete <| .at_raiseFlag <| .at_setPar <| .same (holdSlot_params ..) <| .at_mk hs

theorem at_armReplay {h : Nat} (hs : Canonical s) : Canonical (armReplay h s) :=
  .at_setPar <| .same (holdSlot_params ..) <| .at_mk hs

theorem at_replayTileBad {tile : Nat} (hs : Canonical s) : Canonical (replayTileBad tile s) := by
  unfold replayTileBad
  split
  · exact .at_ite (.at_raiseFlag <| .at_mk hs) hs
  · exact hs

theorem at_replayEnds {r : RpEnd} (hs : Canonical s) : Canonical (replayEnds r s) := by
  unfold replayEnds
  split
  · exact .at_ite (.at_endReplay hs) hs
  · exact .at_replayTileBad hs
  · exact .at_ite (.at_endReplay hs) hs

theorem at_replayStrobe (hs : Canonical s) : Canonical (replayStrobe s) :=
  .at_ite hs <|
  .at_ite (.at_endReplay hs) <|
  .at_ite (.at_endReplay hs) <|
  .at_ite (.at_endReplay hs) <|
  .at_ite (.at_ite (.at_mk hs) <| .same (playSample_params ..) hs) <|
  .at_ite (.at_fireKind <| .same (playSample_params ..) <| .at_setPar <| .at_mk hs) hs

theorem at_injectCheck (hs : Canonical s) : Canonical (injectCheck s) :=
  .at_ite (.at_ite (.at_endReplay hs) <| .at_ite (.at_endReplay hs) hs) hs

theorem at_endRead {o : ReadOp} {st cause : Nat} (hs : Canonical s) : Canonical (endRead o st cause s) := by
  unfold endRead
  extract_lets s1 s2
  have hs1 : Canonical s1 := .same (updAcq_params ..) hs
  have hs2 : Canonical s2 := by
    unfold s2
    split
    · exact .same (holdSlot_params ..) hs1
    · exact hs1
  exact .at_complete hs2

theorem at_bulkData {bad : Bool} (hs : Canonical s) : Canonical (bulkData bad s) := by
  unfold bulkData
  split
  · exact hs
  · extract_lets isBad
    exact .at_ite hs <| by
        split
        · exact .at_endRead hs
        · extract_lets s1 part ends o1 last body pkt s2
          have hs1 : Canonical s1 := .at_ite (.at_raiseFlag hs) hs
          have hs2 : Canonical s2 := by
            unfold s2
            split
            · exact .at_sendTo hs1
            · exact hs1
          exact .at_ite (.at_endRead hs2) <| .same (updAcq_params ..) hs2

theorem at_releaseSlot {n : Nat} (hs : Canonical s) : Canonical (releaseSlot n s) := by
  unfold releaseSlot
  extract_lets s1 s2 full s3
  have hs1 : Canonical s1 := .at_foldl (fun _ _ hs => .at_endRead hs) hs
  have hs2 : Canonical s2 := by
    unfold s2
    split
    · exact .at_ite (.at_complete <| .same (holdSlot_params ..) <| .same (updAcq_params ..) hs1) hs1
    · exact hs1
  have hs3 : Canonical s3 := .same (updSlot_params ..) hs2
  exact .at_ite (.same (fillSlot_params ..) hs3) hs3

theorem at_archiveComplete (hs : Canonical s) : Canonical (archiveComplete s) := by
  unfold archiveComplete
  split
  · exact hs
  · extract_lets r all l s1 s2
    have hs2 : Canonical s2 := .at_setPar <| .same (holdSlot_params ..) <| .same (updAcq_params ..) hs
    exact .at_ite (.at_complete hs2) <| .at_complete hs2

theorem at_endLoad {o : LoadOp} {st cause : Nat} {slot : Slot} (hs : Canonical s) : Canonical (endLoad o st cause slot s) :=
  .at_complete <| .same (updSlot_params ..) <| .same (updAcq_params ..) hs

theorem at_replayData {e : Env} {p : DataPay} (hs : Canonical s) :
    Canonical (replayData e p s).1 := by
  unfold replayData
  split
  · exact hs
  · exact .at_ite_fst hs <|
      .at_ite_fst hs <|
      .at_ite_fst hs <| by
        split
        · exact hs
        · split
          · exact .same (updAcq_params ..) hs
          · exact .at_ite_fst (.at_endLoad hs) <|
              .at_ite_fst (.at_endLoad hs) <| .same (updSlot_params ..) <| .same (updAcq_params ..) hs

/-! ## Net -/

theorem at_latchBases (hs : Canonical s) : Canonical (latchBases s) := .at_foldl (fun _ _ hs => .at_setPar hs) hs

theorem at_atTime {c : Rat} {f : State → State} (hf : ∀ t, Canonical t → Canonical (f t)) (hs : Canonical s) :
    Canonical (atTime c f s) := .same rfl <| hf _ <| .same (advanceBases_params ..) hs

theorem at_fireComparator {tc at' : Nat} (hs : Canonical s) : Canonical (fireComparator tc at' s) :=
  .at_atTime
  (fun _ hs => .same (replayComparator_params ..) <| .at_fireKind <| .at_maskComparator <| .at_raiseFlag <| .at_setParBit hs)
  hs

theorem at_armComparator {tc : Nat} (hs : Canonical s) : Canonical (armComparator tc s) :=
  .at_ite (.at_fireComparator <| .at_setParBit hs) hs

theorem at_tcFire {tc at' : Nat} (hs : Canonical s) : Canonical (tcFire tc at' s) := .at_ite (.at_fireComparator hs) hs

theorem at_dueComparators {n : Nat} (hs : Canonical s) : Canonical (dueComparators n s) :=
  .at_foldl (fun _ _ hs => .at_ite (.at_fireComparator hs) hs) hs

theorem at_dropQueues {n : Nat} {q : Nat → Bool} (hs : Canonical s) : Canonical (dropQueues n q s) :=
  .at_cancelAll <| .same (updEth_params ..) hs

theorem at_sendHead {n q : Nat} {f : Frame} (hs : Canonical s) : Canonical (sendHead n q f s) := by
  unfold sendHead
  extract_lets s1
  have hs1 : Canonical s1 := .same (updEth_params ..) hs
  split
  · exact .at_ite (.same rfl hs1) (.same rfl hs1)
  · cases f.handle with
    | none => exact .same rfl hs1
    | some h => exact .at_complete (.same rfl hs1)

theorem at_discardHead {n q : Nat} {f : Frame} (hs : Canonical s) : Canonical (discardHead n q f s) := by
  unfold discardHead
  extract_lets s1
  have hs1 : Canonical s1 := .at_count <| .same (updEth_params ..) hs
  split
  · exact .at_complete hs1
  · exact hs1

theorem at_serveQueue {n dt q k : Nat} {guard : Option Nat} (hs : Canonical s) :
    Canonical (serveQueue n dt q guard k s).1 := by
  induction k generalizing s with
  | zero => exact hs
  | succ k ih =>
    unfold serveQueue
    split
    · exact hs
    · exact .at_ite_fst (.at_ite_fst hs (.at_sendHead hs)) (.at_ite_fst hs (ih (.at_discardHead hs)))

theorem at_servePort {n dt : Nat} (hs : Canonical s) : Canonical (servePort n dt s) :=
  .at_ite hs <| .at_foldl_fst (fun _ _ hs => .at_ite_fst hs <| .at_serveQueue hs) hs

theorem at_stepQueue {n q k : Nat} {a : State × Bool} (ha : Canonical a.1) : Canonical (stepQueue n q k a).1 := by
  induction k generalizing a with
  | zero => exact ha
  | succ k ih =>
    unfold stepQueue
    split
    · exact ha
    · exact .at_ite_fst ha <| .at_ite_fst (ih (.at_discardHead ha)) <| .at_ite_fst ha <| .at_sendHead ha

theorem at_stepFrames {n : Nat} (hs : Canonical s) : Canonical (stepFrames n s) :=
  .at_ite hs (.at_foldl_fst (fun _ _ => .at_stepQueue) hs)

theorem at_writeRate {slew : Int} (hs : Canonical s) : Canonical (writeRate slew s) := .at_setPar hs

theorem at_stepNet {d : Int} (hs : Canonical s) : Canonical (stepNet d s) := by
  unfold stepNet
  extract_lets s1
  have hs1 : Canonical s1 :=
    .same (groupKh_params ..) <|
    .same (noteDiscontinuity_params ..) <| .at_count <| .same (groupMoved_params ..) <| .same (updTime_params ..) hs
  exact .at_ite hs1 <| .at_stepFrames <| .at_stepFrames <| .at_foldl (fun _ _ hs => .at_ite (.at_fireComparator hs) hs) hs1

theorem at_treatOffset {off slew : Int} (hs : Canonical s) : Canonical (treatOffset off slew s) :=
  .at_ite (.at_writeRate <| .same (clearSuspect_params ..) hs) <|
  .at_ite (.at_writeRate <| .same (clearSuspect_params ..) <| .at_raiseFlag <| .at_stepNet hs) <|
  .at_writeRate <| .at_ite hs <| .at_raiseFlag <| .same (groupMoved_params ..) <| .same (updTime_params ..) hs

theorem at_newMaster {port m : Nat} (hs : Canonical s) : Canonical (newMaster port m s) := by
  unfold newMaster
  extract_lets s1
  have hs1 : Canonical s1 := .at_raiseFlag <| .same (updTime_params ..) hs
  split
  · exact .same (updTime_params ..) hs
  · exact .at_ite hs <| .at_ite (.same (updTime_params ..) hs1) hs1

theorem at_ptpSync {m : PtpSync} {s0 : State} (hs : Canonical s0) : Canonical (ptpSync m s0) := by
  unfold ptpSync
  extract_lets s off s1 lim s2
  have hs1 : Canonical s1 := .at_setPar <| .same (updTime_params ..) <| .same (updTime_params ..) <| .at_newMaster hs
  have hs2 : Canonical s2 := .at_setPar <| .same (updTime_params ..) hs1
  exact .at_ite hs <|
    .at_ite hs1 <|
    .at_ite (.at_flagEvent <| .at_writeRate <| .same (updTime_params ..) <| .at_stepNet hs2) <|
    .same (servoStep_params ..) <| .at_treatOffset hs2

theorem at_ptpHoldover (hs : Canonical s) : Canonical (ptpHoldover s) := by
  unfold ptpHoldover
  extract_lets s1
  have hs1 : Canonical s1 := .same (updTime_params ..) hs
  exact .at_ite hs <| .at_ite (.at_writeRate <| .same (updTime_params ..) hs1) hs1

theorem at_acceptDelay {port : Nat} {d : Int} (hs : Canonical s) : Canonical (acceptDelay port d s) :=
  .at_setPar <| .same (updTime_params ..) hs

theorem at_pathDelay {port : Nat} {d : Int} (hs : Canonical s) : Canonical (pathDelay port d s) := by
  unfold pathDelay
  extract_lets step back c
  split
  · exact .at_acceptDelay hs
  · exact .at_ite
      (.at_ite hs <|
        .at_ite (.same (updTime_params ..) hs) <|
        .at_ite (.at_ite (.same (updTime_params ..) <| .at_raiseFlag <| .at_acceptDelay hs) <| .same (updTime_params ..) hs) <|
        .same (updTime_params ..) hs) <|
      .at_ite (.at_acceptDelay hs) <| .at_writeRate <| .at_raiseFlag <| .same (updTime_params ..) hs

theorem at_stepBack (hs : Canonical s) : Canonical (stepBack s).1 :=
  .at_ite_fst hs <| .at_raiseFlag <| .same (clearSuspect_params ..) <| .same (updTime_params ..) <| .at_stepNet hs

/-! ## Teasel -/

theorem at_teaselRead {p : Plane} (hs : Canonical s) : Canonical (teaselRead p s) := by
  unfold teaselRead
  exact .at_ite hs <| by
      split
      · exact .same (updLane_params ..) hs
      · extract_lets s1
        have hs1 : Canonical s1 := .same (updLane_params ..) hs
        exact .at_ite (.same (updLane_params ..) hs1) <| .at_raiseNum hs1

theorem at_commitThread {p : Plane} (hs : Canonical s) : Canonical (commitThread p s) := by
  unfold commitThread
  extract_lets l s1
  have hs1 : Canonical s1 := .same (updLane_params ..) hs
  split
  · exact .same (updLane_params ..) hs
  · exact .at_ite hs1 <| .at_ite (.at_count hs1) <| .at_count hs1

/-! ## Trip -/

theorem at_ftEval {p : Plane} {f : Nat} (hs : Canonical s) : Canonical (ftEval p f s) := by
  unfold ftEval
  extract_lets i now was s1
  have hs1 : Canonical s1 := .same (updPrt_params ..) hs
  exact .at_ite (.at_raiseNum <| .at_count hs1) hs1

theorem at_ftInject (hs : Canonical s) : Canonical (ftInject s) :=
  .at_foldl (fun _ _ hs => .at_ite (.at_raiseNum <| .at_count hs) hs) hs

theorem at_ftCause {soft : Ports} {x : Plane × Nat} (hs : Canonical s) : Canonical (ftCause soft s x) := by
  unfold ftCause
  split
  · exact .at_causeAt hs
  · exact .at_causeEvery hs
  · exact hs

theorem at_ftActs (hs : Canonical s) : Canonical (ftActs s) :=
  .at_foldl (fun _ _ hs => .at_ftCause hs) <| .at_settle <| .at_foldl (fun _ _ hs => .same (makeCut_params ..) hs) hs

theorem at_eachFt {f : Plane → Nat → State → State} (hf : ∀ p i t, Canonical t → Canonical (f p i t)) (hs : Canonical s) :
    Canonical (eachFt f s) := .at_foldl (fun _ p => .at_foldl fun s i => hf p i s) hs

theorem at_chopEval (hs : Canonical s) : Canonical (chopEval s) :=
  .at_ite (.at_settle <| .same (override_params ..) <| .same (updPrt_params ..) hs) <| .at_ite (.at_chopStop hs) hs

theorem at_staticCheck (hs : Canonical s) : Canonical (staticCheck s) := by
  unfold staticCheck
  split
  · exact hs
  · exact .at_ite (.at_causeEach hs) hs

theorem at_driveTest {p : Plane} (hs : Canonical s) : Canonical (driveTest p s) := .at_settle <| .same (override_params ..) hs

theorem at_ageTest {d : Nat} {p : Plane} (hs : Canonical s) : Canonical (ageTest d p s) :=
  .at_ite (.at_driveTest <| .same (updLane_params ..) hs) hs

theorem at_agePorts (hs : Canonical s) : Canonical (agePorts s) :=
  .at_foldl (fun _ _ hs => .at_ageTest hs) <| .at_settle <| .same (updPrt_params ..) hs

theorem at_tripOutput {bs edges : List Nat} (hs : Canonical s) : Canonical (tripOutput bs edges s) :=
  .at_ite
  (.at_chopEval <|
    .at_staticCheck <|
    .at_ftActs <|
    .at_eachFt (fun _ _ _ hs => .at_ftEval hs) <| .same (writeCuts_params ..) <| .same (tripMeas_params ..) <| .at_agePorts hs)
  hs

/-! ## Planes -/

theorem at_goPlane {p : Plane} (hs : Canonical s) : Canonical (goPlane p s) :=
  .at_ite hs <| .at_driveTest <| .same (updLane_params ..) hs

theorem at_endSequence {fail : List Nat} {p : Plane} (hs : Canonical s) : Canonical (endSequence fail p s) := by
  unfold endSequence
  extract_lets l s1 s2
  have hs1 : Canonical s1 := .at_driveTest <| .same (updLane_params ..) hs
  exact .at_ite hs <| .at_raiseNum <| .at_ite (.at_foldl (fun _ _ hs => .at_ite (.at_setParBit hs) hs) hs1) hs1

theorem at_testSequenceEnd {fail : List Nat} (hs : Canonical s) : Canonical (testSequenceEnd fail s) :=
  .at_foldl (fun _ _ hs => .at_endSequence hs) hs

theorem at_sixTable (hs : Canonical s) : Canonical (sixTable s) := by
  unfold sixTable
  extract_lets put lo _ s1
  have hs1 : Canonical s1 := by
    unfold s1
    exact .at_setParBit <| .at_mk hs
  exact .at_ite (.at_foldl (fun _ _ hs => hs) hs1) hs1

theorem at_doStart {p : Plane} (hs : Canonical s) : Canonical (doStart p s) := by
  unfold doStart
  extract_lets s1
  have hs1 : Canonical s1 := .same (updLane_params ..) hs
  exact .at_ite (.at_sixTable hs1) hs1

theorem at_doEnable {p : Plane} (hs : Canonical s) : Canonical (doEnable p s) :=
  .at_enterState <| .same (startCounter_params ..) <| .at_initMod <| .same (rebinLane_params ..) <| .same (updLane_params ..) hs

theorem at_doDisable {p : Plane} (hs : Canonical s) : Canonical (doDisable p s) := by
  unfold doDisable
  extract_lets s1
  have hs1 : Canonical s1 := .at_enterState hs
  exact .at_ite (.at_endReplay hs1) hs1

theorem at_enterReady {p : Plane} (hs : Canonical s) : Canonical (enterReady p s) := by
  unfold enterReady
  extract_lets s1 s2 s3
  have hs2 : Canonical s2 :=
    .same (updLane_params ..) <| .at_settle <| .at_enterState <| .at_initMod <| .same (releaseOvr_params ..) hs
  have hs3 : Canonical s3 := .at_ite (.at_causeAt hs2) hs2
  exact .at_ite hs3 <| .at_causeAt <| .same (forceBlock_params ..) hs3

theorem at_doDisarm {p : Plane} (hs : Canonical s) : Canonical (doDisarm p s) :=
  .at_settle <|
  .at_enterState <|
  .same (updLane_params ..) <| .same (suppliesOff_params ..) <| .same (override_params ..) <| .same (updPrt_params ..) hs

theorem at_doTestEnter {p : Plane} (hs : Canonical s) : Canonical (doTestEnter p s) :=
  .at_driveTest <| .at_enterState <| .same (updPrt_params ..) <| .same (updLane_params ..) hs

theorem at_doTestExit {p : Plane} (hs : Canonical s) : Canonical (doTestExit p s) :=
  .at_enterReady <| .same (updLane_params ..) hs

theorem at_doClear {p : Plane} (hs : Canonical s) : Canonical (doClear p s) := .at_enterReady <| .same (updPrt_params ..) hs

theorem at_planeWork {op : Nat} {p : Plane} {h : Nat} (hs : Canonical s) :
    Canonical (planeWork op p h s).1 :=
  .at_ite_fst (.at_ite_fst (.at_doEnable hs) hs) <|
  .at_ite_fst (.at_ite_fst (.same (updLane_params ..) <| .same (suppliesOn_params ..) hs) hs) <|
  .at_ite_fst (.at_ite_fst (.at_doStart hs) hs) <|
  .at_ite_fst (.at_ite_fst (.same (beginStop_params ..) hs) hs) <|
  .at_ite_fst (.at_ite_fst (.at_doDisarm hs) hs) <|
  .at_ite_fst (.at_ite_fst (.at_doDisable hs) hs) <|
  .at_ite_fst hs <| .at_ite_fst (.at_ite_fst (.at_doTestEnter hs) hs) <| .at_ite_fst (.at_doTestExit hs) hs

theorem at_runQueue {p : Plane} {n : Nat} (hs : Canonical s) : Canonical (runQueue p n s) := by
  induction n generalizing s with
  | zero => exact hs
  | succ n ih =>
    have hw {op h : Nat} {t : List (Nat × Nat)} :
        Canonical (planeWork op p h (updLane p (fun l => { l with queued := t }) s)).1 :=
      .at_planeWork <| .same (updLane_params ..) hs
    unfold runQueue
    dsimp only
    refine .at_ite hs ?_
    split
    · exact hs
    · exact .at_ite (.at_ite (.same (updLane_params ..) hw) hw) (ih (.at_complete hw))

theorem at_drainQueue {p : Plane} (hs : Canonical s) : Canonical (drainQueue p s) := .at_ite (.at_runQueue hs) hs

theorem at_planeBody {op : Nat} {e : Env} {pay : PPay} {h : Nat} (hs : Canonical s) :
    Canonical (planeBody op e pay h s).1 := by
  unfold planeBody
  exact .at_ite_fst hs <| by
      split
      · exact hs
      · extract_lets l r
        have hr : Canonical r.1 := .at_planeWork hs
        exact .at_ite_fst (.at_ite_fst hs <| .same (updLane_params ..) <| .same (allocHandle_params ..) hs) <|
          .at_ite_fst (.same (updLane_params ..) hr) <| .at_ite_fst (.at_planeWork <| .same (allocHandle_params ..) hs) hr

theorem at_planeCommand {op : Nat} {e : Env} {pay : PPay} (hs : Canonical s) : Canonical (planeCommand op e pay s) :=
  .at_serve (fun _ _ hs => .at_planeBody hs) hs

theorem at_armReady {p : Plane} (hs : Canonical s) : Canonical (armReady p s) := by
  unfold armReady
  split
  · exact .at_ite
      (.at_drainQueue <| .at_complete <| .same (startSkew_params ..) <| .at_enterReady <| .same (updLane_params ..) hs)
      hs
  · exact hs

theorem at_armTimeout {p : Plane} (hs : Canonical s) : Canonical (armTimeout p s) := by
  unfold armTimeout
  split
  · extract_lets s1
    have hs1 : Canonical s1 :=
      .at_drainQueue <| .at_complete <| .at_settle <| .same (suppliesOff_params ..) <| .same (updLane_params ..) hs
    exact .at_ite (.at_ite (.at_takeFails hs1) hs1) hs
  · exact hs

theorem at_finishStop {p : Plane} (hs : Canonical s) : Canonical (finishStop p s) := by
  unfold finishStop
  extract_lets l s1 s2 s3 s4
  have hs2 : Canonical s2 := .at_enterReady <| .same (updLane_params ..) hs
  have hs3 : Canonical s3 := .at_ite (.at_leaveLaw <| .at_cancelAll hs2) hs2
  have hs4 : Canonical s4 := by
    unfold s4
    split
    · exact .at_complete hs3
    · exact hs3
  exact .at_cancelAll hs4

theorem at_strobeClear {p : Plane} (hs : Canonical s) : Canonical (strobeClear p s) := by
  unfold strobeClear
  extract_lets ok s1 s2 st
  have hs1 : Canonical s1 := .same (updLane_params ..) hs
  split
  · exact hs
  · exact .at_drainQueue <|
      .at_foldl (fun _ _ hs => by split; exacts [.same (answer_params ..) hs, .at_complete hs]) <| .at_ite (.at_doClear hs1) hs1

/-! ## Strobe -/

theorem at_laneWord {id v : Nat} (hs : Canonical s) : Canonical (laneWord id v s) := by
  unfold laneWord
  extract_lets s1
  have hs1 : Canonical s1 := .at_setPar hs
  split
  · exact .at_ite (.same (modeWritten_params ..) hs1) hs1
  · exact .at_ite (.same (phaseWritten_params ..) hs1) hs1
  · exact hs1

theorem at_takeWaiting {eng : Engine} {f : Nat → Nat → State → State} (hf : ∀ i v t, Canonical t → Canonical (f i v t))
    (hs : Canonical s) : Canonical (takeWaiting eng f s) := .at_foldl (fun s _ => hf _ _ s) <| .same rfl hs

theorem at_enterBand {n : Nat} {p : Plane} {d : Dec} (hs : Canonical s) : Canonical (enterBand n p d s) :=
  .same (takeContext_params ..) <|
  .same (updLane_params ..) <|
  .at_count <| .same (updMod_params ..) <| .same (clearCas_params ..) <| .same (endPeriod_params ..) hs

theorem at_applyDec {n : Nat} {p : Plane} (hs : Canonical s) : Canonical (applyDec n p s) := by
  unfold applyDec
  extract_lets l m s0
  have hs0 : Canonical s0 := .same (updMod_params ..) <| .same (updLane_params ..) hs
  exact .at_ite (.same (endPeriod_params ..) hs0) <| by
      split
      · exact .at_ite hs0 <| .same (endPeriod_params ..) hs0
      · extract_lets s1
        have hs1 : Canonical s1 := .same (takeContext_params ..) <| .same (updMod_params ..) <| .same (endPeriod_params ..) hs0
        exact .at_ite (.at_finishStop <| .at_ite hs0 <| .same (endPeriod_params ..) hs0) <|
          .at_ite (.at_enterBand hs0) <|
          .at_ite (by split; exacts [.same (updLane_params ..) <| .same (writeSet_params ..) hs0, hs0]) <| by
            split
            · exact .same (writeSet_params ..) <| .same (updMod_params ..) hs1
            · exact hs1

theorem at_strobeStop {p : Plane} (hs : Canonical s) : Canonical (strobeStop p s) := .at_ite (.at_finishStop hs) hs

theorem at_releaseChop {p : Plane} (hs : Canonical s) : Canonical (releaseChop p s) :=
  .at_ite (.at_settle <| .same (updPrt_params ..) hs) hs

theorem at_strobeStart {p : Plane} (hs : Canonical s) : Canonical (strobeStart p s) :=
  .at_ite
  (.at_showCarrier <|
    .at_releaseChop <|
    .same (clearCas_params ..) <|
    .same (updMod_params ..) <| .same (updLane_params ..) <| .at_setPar <| .at_enterState <| .same (startSupport_params ..) hs)
  hs

theorem at_newRatio (hs : Canonical s) : Canonical (newRatio s) := .at_ite hs <| .at_setPar <| .at_setPar hs

theorem at_takeSamples {n : Nat} {bs : List Nat} (hs : Canonical s) : Canonical (takeSamples n bs s) := by
  unfold takeSamples
  extract_lets s1
  have hs1 : Canonical s1 := .at_newRatio <| .at_strobeMeas <| .at_replayStrobe <| .same (restartStrobe_params ..) hs
  exact .same (startMdclk_params ..) <| .at_ite (.same (startSkew_params ..) hs1) hs1

theorem at_measureLane {p : Plane} (hs : Canonical s) : Canonical (measureLane p s) :=
  .at_ite hs <| .same (updLane_params ..) <| .at_laneRegion hs

theorem at_decideRunning {p : Plane} (hs : Canonical s) : Canonical (decideRunning p s) := by
  unfold decideRunning
  extract_lets m s1 s2 q
  have hs1 : Canonical s1 := .at_supervise hs
  exact .at_ite hs1 <|
    .same (updLane_params ..) <|
    .at_ite (.same (updLane_params ..) hs1) <| .at_ite (.same (decideCarrier_params ..) hs1) <| .same (decideBand_params ..) hs1

theorem at_decideLane {p : Plane} (hs : Canonical s) : Canonical (decideLane p s) := by
  unfold decideLane
  extract_lets s0 st
  have hs0 : Canonical s0 := .same (updLane_params ..) hs
  exact .at_ite
    (.at_ite (.at_requestSafe <| .same (updLane_params ..) hs0) <|
      .at_ite (.at_decideRunning hs0) <| .same (decideIdle_params ..) hs0)
    hs0

theorem at_ascWanted (hs : Canonical s) : Canonical (ascWanted s) := by
  unfold ascWanted
  extract_lets l above below on s1
  have hs1 : Canonical s1 := .same (updLane_params ..) hs
  exact .at_ite hs1 <| .at_rechoose <| .same (updPrt_params ..) hs1

theorem at_eachPlane {f : Plane → State → State} (hf : ∀ p t, Canonical t → Canonical (f p t)) (hs : Canonical s) :
    Canonical (eachPlane f s) := .at_foldl (fun s p => hf p s) hs

theorem at_beforeStrobe {n : Nat} {bs : List Nat} (hs : Canonical s) : Canonical (beforeStrobe n bs s) :=
  .at_eachPlane (fun _ _ hs => .same (keepUntil_params ..) <| .at_ite (.at_showCarrier <| .at_atStrobe <| .at_catchUp hs) hs) hs

theorem at_applyStrobe {n : Nat} (hs : Canonical s) : Canonical (applyStrobe n s) :=
  .at_eachPlane (fun _ _ hs => .at_strobeStart hs) <|
  .at_eachPlane (fun _ _ hs => .at_strobeClear hs) <|
  .at_eachPlane (fun _ _ hs => .same (countSwitching_params ..) hs) <|
  .at_eachPlane (fun _ _ hs => .at_ite (.at_showCarrier hs) <| .at_refreshOut hs) <|
  .at_eachPlane (fun _ _ hs => .at_strobeStop hs) <|
  .at_eachPlane (fun _ _ hs => .same (shiftPlane_params ..) hs) <|
  .at_eachPlane (fun _ _ hs => .at_applyDec hs) <|
  .at_eachPlane (fun _ _ hs => .at_maskApply hs) <| .at_takeWaiting (fun _ _ _ hs => .at_laneWord hs) hs

theorem at_switchKind (hs : Canonical s) : Canonical (switchKind s) := by
  unfold switchKind
  split
  · extract_lets _ s1
    have hs1 : Canonical s1 := by
      unfold s1
      exact .at_setPar <| .at_mk hs
    exact .at_ite hs <| .at_ite (.same (updLane_params ..) hs1) hs1
  · exact hs

theorem at_computeLanes (hs : Canonical s) : Canonical (computeLanes s) :=
  .at_eachPlane (fun _ _ hs => .same (maskSector_params ..) hs) <|
  .at_injectCheck <|
  .at_eachPlane (fun _ _ hs => .at_decideLane hs) <|
  .same (keepWeights_params ..) <|
  .at_eachPlane (fun _ _ hs => .at_measureLane hs) <| .at_ascWanted <| .at_noteRecon <| .at_dropLegs <| .at_switchKind hs

theorem at_controlStrobe {switch : State → State} {bs : List Nat} {s0 : State} (hw : ∀ t, Canonical t → Canonical (switch t))
    (hs : Canonical s0) : Canonical (controlStrobe switch bs s0) := by
  unfold controlStrobe
  extract_lets n s s1 a s2 s3 s4 s5
  have h : Canonical s := .same (driveMarks_params ..) (.at_dueComparators hs)
  have h1 : Canonical s1 := .same (ptpTick_params ..) <| .at_nextIndex <| .same (advanceTime_params ..) h
  have h2 : Canonical s2 := .at_applyStrobe (hw _ (.at_beforeStrobe h1))
  have h3 : Canonical s3 := .at_takeSamples (.at_eachPlane (fun _ _ hs => .same (updLane_params ..) hs) h2)
  have h5 : Canonical s5 := .at_eachPlane (fun _ _ hs => .at_ite (.at_takeCas hs) hs) (.at_computeLanes h3)
  exact .at_ite (.at_ite (.same (ptpTick_params ..) <| .same (advanceTime_params ..) h) hs) <|
    .at_ite (.at_eachPlane (fun _ _ hs => .same (shiftMark_params ..) hs) (.same rfl h1)) <|
    .at_advanceGrid <| .at_scrub <| .same (addSums_params ..) h5

theorem at_adaptEnd {p : Plane} (hs : Canonical s) : Canonical (adaptEnd p s) :=
  .at_ite (.at_setPar <| .same (updLane_params ..) hs) hs

/-! ## Commit -/

theorem at_overrun {p : Plane} (hs : Canonical s) : Canonical (overrun p s) := by
  unfold overrun
  extract_lets s1
  have hs1 : Canonical s1 := .at_count <| .same (updLane_params ..) hs
  exact .at_ite (.at_requestSafe hs1) hs1

theorem at_latch {p : Plane} (hs : Canonical s) : Canonical (latch p s) := by
  unfold latch
  extract_lets s1
  have hs1 : Canonical s1 := .same (updLane_params ..) hs
  exact .at_ite (.at_count hs1) hs1

theorem at_commitLane {late : List Plane} {p : Plane} (hs : Canonical s) : Canonical (commitLane late p s) :=
  .at_ite (.same (updLane_params ..) hs) <| .at_ite (.at_overrun hs) <| .at_latch hs

theorem at_commitPoint {late : List Plane} (hs : Canonical s) : Canonical (commitPoint late s) :=
  .at_ite hs <|
  .at_captureBundle <|
  .at_takeWaiting (fun _ _ _ hs => .at_setPar hs) <|
  .at_eachPlane (fun _ _ hs => .at_commitThread hs) <| .at_eachPlane (fun _ _ hs => .at_commitLane hs) hs

/-! ## Yarrow -/

theorem at_disqualifyYclk (hs : Canonical s) : Canonical (disqualifyYclk s) := by
  unfold disqualifyYclk
  extract_lets s1 s2
  have hs1 : Canonical s1 := .at_ite (.at_setParBit hs) hs
  have hs2 : Canonical s2 := .at_ite (.at_setParBit hs1) hs1
  exact .at_ite (.at_clkHoldover hs2) hs2

theorem at_becomeHead (hs : Canonical s) : Canonical (becomeHead s) :=
  .at_ite hs <| .at_raiseFlag <| .at_disqualifyYclk <| .at_setParBits hs

theorem at_loseHead (hs : Canonical s) : Canonical (loseHead s) := .at_ite hs <| .at_raiseFlag <| .at_setParBit hs

theorem at_yclkLost (hs : Canonical s) : Canonical (yclkLost s) :=
  .at_ite hs <| .at_mk <| .same (updYbus_params ..) <| .at_setParBit hs

theorem at_yclkBack (hs : Canonical s) : Canonical (yclkBack s) := by
  unfold yclkBack
  extract_lets s1
  have hs1 : Canonical s1 := .at_setParBit hs
  exact .at_ite (.same (emit_params ..) <| .same (updYbus_params ..) hs1) hs1

theorem at_surveyStart (hs : Canonical s) : Canonical (surveyStart s) := .at_ite (.at_setParBit hs) hs

theorem at_setBus {t : Rat} (hs : Canonical s) : Canonical (setBus t s) := by
  unfold setBus
  extract_lets d s1
  have hs1 : Canonical s1 := .same (updTime_params ..) hs
  exact .at_ite (.at_raiseFlag <| .same (noteDiscontinuity_params ..) hs1) hs1

theorem at_surveyDone {v : Survey} (hs : Canonical s) : Canonical (surveyDone v s) := by
  unfold surveyDone
  extract_lets n l own ok s1 s2 s3
  have hs3 : Canonical s3 :=
    .at_raiseFlag <|
    .at_setPar <|
    .at_setPar <| .same (updYbus_params ..) <| .at_setParBit <| .at_setParBit <| .at_setParBits <| .at_setParBits hs
  exact .at_ite hs <| .at_ite (.same (emit_params ..) <| .same (updTime_params ..) hs3) <| .at_setBus hs3

theorem at_crossCheck (hs : Canonical s) : Canonical (crossCheck s) := by
  unfold crossCheck
  extract_lets all s1
  have hs1 : Canonical s1 := .at_setPar hs
  exact .at_ite hs <|
    .at_ite hs1 <| .at_ite (.at_ite hs1 <| .at_raiseFlag <| .same (updTime_params ..) hs1) <| .same (updTime_params ..) hs1

theorem at_pairCheck {pos : Nat} (hs : Canonical s) : Canonical (pairCheck pos s) := by
  unfold pairCheck
  extract_lets all
  split
  · exact hs
  · exact .at_foldl (fun _ _ hs => .at_raiseFlag hs) hs

theorem at_alignmentMark {at' : Rat} (hs : Canonical s) : Canonical (alignmentMark at' s) :=
  .at_ite hs <| .at_crossCheck <| .at_pairCheck <| .same (updTime_params ..) hs

theorem at_groupTrigger {tr : Rat} {width : Nat} (hs : Canonical s) : Canonical (groupTrigger tr width s) := by
  unfold groupTrigger
  extract_lets s1 o ta s2
  have hs1 : Canonical s1 := .same (updYbus_params ..) hs
  have hs2 : Canonical s2 := .same (updYbus_params ..) hs1
  exact .at_ite hs <| .at_ite (.at_raiseFlag hs1) <| .at_ite hs1 <| .at_ite (.at_raiseFlag hs2) hs2

theorem at_applyTrigger (hs : Canonical s) : Canonical (applyTrigger s) := by
  unfold applyTrigger
  extract_lets us
  split
  · exact hs
  · extract_lets s1
    have hs1 : Canonical s1 := .same (updYbus_params ..) hs
    exact .at_ite hs1 <| .at_atTime (fun _ hs => .at_takeTrigger hs) <| .at_setPar <| .same (updAcq_params ..) hs1

/-! ## Gfm -/

theorem at_setAct {a : Nat} (hs : Canonical s) : Canonical (setAct a s) := .at_setParBits hs

theorem at_permitOn (hs : Canonical s) : Canonical (permitOn s) := .at_ite hs <| .at_setParBit <| .at_setBrk hs

theorem at_permitOff (hs : Canonical s) : Canonical (permitOff s) := .at_setBrk hs

theorem at_gReadback (hs : Canonical s) : Canonical (gReadback s) := by
  unfold gReadback
  extract_lets v i p q tf k g o pe qe u i16 hz s1
  have hs1 : Canonical s1 := .at_setPar <| .at_setPar <| .at_setPar <| .at_setPar <| .at_setPar <| .same (updGfm_params ..) hs
  exact .at_ite (.at_setPar <| .at_setPar hs1) hs1

theorem at_gMeasure (hs : Canonical s) : Canonical (gMeasure s) := by
  unfold gMeasure
  extract_lets s1
  have hs1 : Canonical s1 := .at_gReadback <| .same (stepEst_params ..) hs
  exact .at_ite (.at_raiseFlag hs1) hs1

theorem at_busDisagree {o : GEst} (hs : Canonical s) : Canonical (busDisagree o s) := by
  unfold busDisagree
  extract_lets bad t on s1
  have hs1 : Canonical s1 := .same (updGfm_params ..) hs
  exact .at_ite (.at_raiseFlag hs1) hs1

theorem at_blended {dem : Rat × Rat} (hs : Canonical s) : Canonical (blended dem s).2 := by
  unfold blended
  split
  · exact hs
  · exact .at_ite (.at_setParBit hs) (.same (updGfm_params ..) hs)

theorem at_formGroup {o : GEst} {frame : Rat} {k : Nat} (hs : Canonical s) : Canonical (formGroup o frame k s) :=
  .same (gGroup_params ..) <| .at_blended hs

theorem at_followGroup {o : GEst} {wset : Rat} {k : Nat} (hs : Canonical s) : Canonical (followGroup o wset k s) :=
  .same (gGroup_params ..) <| .at_blended hs

theorem at_startBlend {init dem : Rat × Rat} (hs : Canonical s) : Canonical (startBlend init dem s) :=
  .at_ite (.at_setParBit <| .same (updGfm_params ..) hs) <| .at_setParBit hs

theorem at_toFormLaw {o : GEst} {th f : Rat} (hs : Canonical s) : Canonical (toFormLaw o th f s) :=
  .same (switchAt_params ..) <|
  .at_formGroup <| .at_formGroup <| .at_startBlend <| .at_setParBits <| .same (updGfm_params ..) hs

theorem at_toFollowLaw {o : GEst} {th f : Rat} (hs : Canonical s) : Canonical (toFollowLaw o th f s) :=
  .same (switchAt_params ..) <|
  .at_followGroup <| .at_followGroup <| .at_startBlend <| .at_setParBits <| .same (updGfm_params ..) hs

theorem at_startLaw {o : GEst} (hs : Canonical s) : Canonical (startLaw o s) := by
  unfold startLaw
  extract_lets s0 k imm s1 th
  have hs0 : Canonical s0 := .same (updGfm_params ..) hs
  exact .at_ite (.at_toFollowLaw hs0) <|
    .at_ite
    (.same (switchAt_params ..) <|
      .at_formGroup <| .at_formGroup <| .at_setParBit <| .at_setParBits <| .same (updGfm_params ..) hs0) <|
    .at_toFormLaw hs0

theorem at_takeStart {o : GEst} {r : Restored} (hs : Canonical s) : Canonical (takeStart o r s) :=
  .same (switchAt_params ..) <| .at_formGroup <| .at_formGroup <| .at_setPar <| .at_setParBits <| .same (updGfm_params ..) hs

theorem at_startG {o : GEst} (hs : Canonical s) : Canonical (startG o s) := by
  unfold startG
  split
  · split
    · exact .at_takeStart hs
    · exact .at_startLaw hs
  · exact .at_startLaw hs

theorem at_takeRamp (hs : Canonical s) : Canonical (takeRamp s) := by
  unfold takeRamp
  split
  · exact hs
  · extract_lets s1
    have hs1 : Canonical s1 := .same (updGfm_params ..) hs
    split
    · exact .at_ite (.same (updGfm_params ..) hs) hs
    · exact .at_ite (.at_ite (.at_setAct <| .same (updGfm_params ..) hs1) hs1) <| .same (updGfm_params ..) hs

theorem at_limitStep (hs : Canonical s) : Canonical (limitStep s) := by
  unfold limitStep
  extract_lets n off s1
  have hs1 : Canonical s1 := .same (updGfm_params ..) hs
  exact .at_ite (.at_setParBit hs1) <| .at_ite (.at_setParBit hs1) hs1

theorem at_frtExit (hs : Canonical s) : Canonical (frtExit s) := by
  unfold frtExit
  extract_lets s1
  have hs1 : Canonical s1 := .at_raiseFlag hs
  split
  · exact .at_permitOff hs1
  · exact .same (campionStop_params ..) <| .at_permitOff hs1
  · exact hs1

theorem at_frtStep {o : GEst} (hs : Canonical s) : Canonical (frtStep o s) := by
  unfold frtStep
  extract_lets v1 to' n s1 t up h u b s1 late
  have hs1 : Canonical s1 := .same (updGfm_params ..) hs
  have hs1 : Canonical s1 := .same (updGfm_params ..) hs
  exact .at_ite (.same (updGfm_params ..) hs) <|
    .at_ite (.at_ite (.at_setParBit <| .same (updGfm_params ..) hs1) hs1) <|
    .at_ite (.at_setParBit <| .same (updGfm_params ..) hs1) <| .at_ite (.at_frtExit hs1) hs1

theorem at_endSync {st cause : Nat} (hs : Canonical s) : Canonical (endSync st cause s) := by
  unfold endSync
  extract_lets s1 s2
  have hs1 : Canonical s1 := .at_foldl (fun _ _ hs => .at_complete hs) hs
  have hs2 : Canonical s2 := .same (updGfm_params ..) <| .at_setAct hs1
  exact .at_ite (.at_ite (.at_permitOff hs2) hs2) hs1

theorem at_deadPermit {o : GEst} (hs : Canonical s) : Canonical (deadPermit o s) := by
  unfold deadPermit
  extract_lets ok t s1
  have hs1 : Canonical s1 := .same (updGfm_params ..) hs
  exact .at_ite (.at_permitOn hs1) hs1

theorem at_auxEdge (hs : Canonical s) : Canonical (auxEdge s) := by
  unfold auxEdge
  extract_lets s1 s2
  have hs1 : Canonical s1 := .same (updGfm_params ..) hs
  have hs2 : Canonical s2 := .at_raiseFlag hs1
  exact .at_ite (.at_ite (.at_permitOff hs2) hs2) hs1

theorem at_syncStep {o : GEst} (hs : Canonical s) : Canonical (syncStep o s) := by
  unfold syncStep
  extract_lets f dth dthp hund lf lv la fits s1 t n s2
  have hs1 : Canonical s1 := .at_setPar hs
  have hs2 : Canonical s2 := .same (updGfm_params ..) hs1
  exact .at_ite hs <|
    .at_ite (.at_endSync <| .same (updGfm_params ..) hs) <|
    .at_ite (.at_endSync hs) <|
    .at_ite (.at_endSync hs) <|
    .at_ite (.at_ite (.at_permitOff <| .same (updGfm_params ..) hs1) <| .same (updGfm_params ..) hs1) <|
    .at_ite (.at_raiseNum <| .at_permitOn hs2) hs2

theorem at_gridLoss {o : GEst} {opened : Bool} (hs : Canonical s) : Canonical (gridLoss o opened s) := by
  unfold gridLoss
  extract_lets t s1 s2
  have hs1 : Canonical s1 := .same (updGfm_params ..) hs
  have hs2 : Canonical s2 := .at_raiseFlag <| .same (updGfm_params ..) hs1
  exact .at_ite (.at_ite (.same (updGfm_params ..) hs2) <| .same (campionStop_params ..) hs2) hs1

theorem at_rampStep (hs : Canonical s) : Canonical (rampStep s) := by
  unfold rampStep
  extract_lets t s1
  have hs1 : Canonical s1 := .same (updGfm_params ..) hs
  exact .at_ite (.at_ite (.at_setAct <| .same (updGfm_params ..) hs) hs) <| .at_ite (.at_ite (.at_setAct hs1) hs1) hs

theorem at_formStep {o : GEst} (hs : Canonical s) : Canonical (formStep o s) :=
  .at_formGroup <| .same (updGfm_params ..) <| .same (swing_params ..) hs

theorem at_followStep {o : GEst} (hs : Canonical s) : Canonical (followStep o s) :=
  .at_followGroup <| .same (updGfm_params ..) hs

theorem at_injectEnd {written : Bool} (hs : Canonical s) : Canonical (injectEnd written s) := .at_ite (.at_endReplay hs) hs

theorem at_followRun {o : GEst} {opened : Bool} {req : Option Nat} (hs : Canonical s) :
    Canonical (followRun o opened req s) := by
  unfold followRun
  extract_lets due s1
  have hs1 : Canonical s1 := .at_gridLoss hs
  exact .at_ite (.at_toFormLaw hs1) <| .at_followStep hs1

theorem at_gRun {o : GEst} (hs : Canonical s) : Canonical (gRun o s) := by
  unfold gRun
  extract_lets opened s1 req s2 s3
  have hs3 : Canonical s3 :=
    .same (updGfm_params ..) <|
    .at_injectEnd <| .at_frtStep <| .at_limitStep <| .at_syncStep <| .at_deadPermit <| .at_auxEdge hs
  exact .at_ite (.at_startG hs) <|
    .at_ite (.at_followRun hs3) <| .at_ite (.at_toFollowLaw hs3) <| .at_formStep <| .at_rampStep <| .at_takeRamp hs3

theorem at_gBoundary (hs : Canonical s) : Canonical (gBoundary s) := by
  unfold gBoundary
  extract_lets s1 o s2
  have hs2 : Canonical s2 := .at_busDisagree <| .at_gMeasure hs
  exact .at_ite (.at_gRun hs2) <| .same (gNone_params ..) <| .at_auxEdge <| .same (endLaw_params ..) hs2

theorem at_gfmSyncBody {e : Env} {p : PPay} {_h : Nat} (hs : Canonical s) :
    Canonical (gfmSyncBody e p _h s).1 :=
  .at_ite_fst hs <| .at_ite_fst (.at_setAct <| .same (updGfm_params ..) <| .same (allocHandle_params ..) hs) hs

theorem at_lawWritten {v : Nat} (hs : Canonical s) : Canonical (lawWritten v s) :=
  .same (updGfm_params ..) <| .at_ite (.at_endSync hs) hs

/-! ## Msd -/

theorem at_ifStep {o : OuterIn} (hs : Canonical s) : Canonical (ifStep o s) :=
  .at_ite (.at_setParBit <| .same (updMsd_params ..) hs) <|
  .at_ite (.at_setParBit <| .same (updMsd_params ..) hs) <| .at_ite (.at_setParBit <| .same (updMsd_params ..) hs) hs

theorem at_encLost {n : Nat} (hs : Canonical s) : Canonical (encLost n s) := by
  unfold encLost
  extract_lets s1
  have hs1 : Canonical s1 := .at_raiseFlag hs
  exact .at_ite hs <| .at_ite hs1 <| .at_ite (.same (updMsd_params ..) hs1) <| .same (campionStop_params ..) hs1

theorem at_accountMeasure {o : OuterIn} {w : Rat} (hs : Canonical s) : Canonical (accountMeasure o w s) :=
  .at_setPar <| .at_setPar <| .at_setPar <| .at_setPar <| .same (updMsd_params ..) hs

theorem at_exhaustion {f w : Rat} (hs : Canonical s) : Canonical (exhaustion f w s) := by
  unfold exhaustion
  extract_lets s1 b h a declare
  have hs1 : Canonical s1 := .at_setParBit hs
  exact .at_ite (.at_setParBits <| .at_setParBit hs) <| by
      split
      · exact .at_ite (.at_ite (.at_raiseFlag <| .at_setParBits hs1) <| .at_setParBits hs1) hs1
      · exact .at_ite (.at_ite (.at_raiseFlag <| .at_setParBits hs1) <| .at_setParBits hs1) hs1
      · exact .at_ite (.at_raiseFlag <| .at_setParBits hs1) <| .at_ite (.at_raiseFlag <| .at_setParBits hs1) hs1

theorem at_noteOwner (hs : Canonical s) : Canonical (noteOwner s) := by
  unfold noteOwner
  extract_lets o none' s1
  have hs1 : Canonical s1 := .at_setParBit <| .same (updMsd_params ..) hs
  exact .at_ite (.at_raiseFlag hs1) hs1

theorem at_setInertia {f w : Rat} (hs : Canonical s) : Canonical (setInertia f w s) :=
  .at_ite (.at_setPar hs) <| .at_ite (.at_setPar hs) <| .at_setPar hs

theorem at_writePSet {prec : Rat} (hs : Canonical s) : Canonical (writePSet prec s) :=
  .at_ite (.at_setParBit <| .at_setPar hs) <| .at_ite (.at_setParBit <| .at_ite (.at_setPar hs) hs) hs

theorem at_dcLow (hs : Canonical s) : Canonical (dcLow s) := by
  unfold dcLow
  extract_lets v n s1 s2
  have hs1 : Canonical s1 := .same (updMsd_params ..) hs
  have hs2 : Canonical s2 := .at_raiseFlag hs1
  exact .at_ite (.same (updMsd_params ..) hs) <|
    .at_ite (by split; exacts [.at_setBrk hs2, .same (campionStop_params ..) hs2, hs2]) hs1

theorem at_sixStep {o : OuterIn} {f : Rat} {v : Rat × Rat} (hs : Canonical s) :
    Canonical (sixStep o f v s).1 :=
  .at_ite_fst hs <|
  .at_ite_fst
  (.at_ite_fst (.same (writeMask_params ..) <| .at_setParBit <| .same (updMsd_params ..) hs) <|
    .same (writeMask_params ..) <| .same (updMsd_params ..) hs) <|
  .at_ite_fst (.same (writeMask_params ..) <| .same (writeMask_params ..) <| .at_setParBit <| .same (updMsd_params ..) hs) <|
  .same (updMsd_params ..) hs

theorem at_mGain {f : Rat} (hs : Canonical s) : Canonical (mGain f s) := .at_setPar <| .at_setPar hs

theorem at_mGroup {o : OuterIn} {th f w : Rat} (hs : Canonical s) : Canonical (mGroup o th f w s) :=
  .at_ite (.same (writeGroup_params ..) <| .at_setParBit <| .same (updMsd_params ..) hs) <|
  .same (writeGroup_params ..) <| .at_mGain <| .same (updMsd_params ..) <| .at_sixStep <| .same (fieldWeaken_params ..) hs

theorem at_dStep {pv : Rat} (hs : Canonical s) : Canonical (dStep pv s) :=
  .at_ite (.same (writeGroup_params ..) <| .same (updMsd_params ..) hs) <|
  .same (writeGroup_params ..) <| .at_setPar <| .at_setPar <| .same (updMsd_params ..) hs

theorem at_dcBody {op : Nat} {e : Env} {p : PPay} {_h : Nat} (hs : Canonical s) :
    Canonical (dcBody op e p _h s).1 :=
  .at_ite_fst hs <|
  .at_ite_fst (.at_ite (.at_setPar <| .same (allocHandle_params ..) hs) <| .same (allocHandle_params ..) hs) hs

theorem at_completeOps {op st cause : Nat} (hs : Canonical s) : Canonical (completeOps op st cause s) :=
  .at_foldl (fun _ _ hs => .at_complete hs) hs

theorem at_endDischarge {st cause : Nat} (hs : Canonical s) : Canonical (endDischarge st cause s) :=
  .at_ite hs <| .at_completeOps <| .at_setParBit hs

theorem at_bStep (hs : Canonical s) : Canonical (bStep s) := by
  unfold bStep
  extract_lets v n old enough s1 s2 s3
  have hs1 : Canonical s1 := .same (updMsd_params ..) hs
  have hs2 : Canonical s2 := .at_ite (.at_completeOps <| .at_setParBit hs1) hs1
  have hs3 : Canonical s3 := .at_ite (.at_endDischarge hs2) hs2
  exact .at_ite (.same (campionStop_params ..) hs3) hs3

theorem at_mBoundary {o : OuterIn} (hs : Canonical s) : Canonical (mBoundary o s) :=
  .at_dcLow <|
  .at_bStep <|
  .at_writePSet <|
  .at_setInertia <|
  .at_mGroup <|
  .at_dStep <|
  .same (updMsd_params ..) <| .at_noteOwner <| .at_exhaustion <| .at_accountMeasure <| .at_ifStep <| .at_setParBit hs

/-! ## Image -/

theorem at_endActivation {st cause : Nat} (hs : Canonical s) : Canonical (endActivation st cause s) := by
  unfold endActivation
  split
  · exact hs
  · extract_lets s0 s1 group
    have hs0 : Canonical s0 := .at_ite hs <| .same (dropStaged_params ..) hs
    exact .at_complete <| .same (endAct_params ..) <| .same (updFw_params ..) <| .at_ite (.same (updSlotFw_params ..) hs0) hs0

/-! ## Pair -/

theorem at_sendFail (hs : Canonical s) : Canonical (sendFail s) := by
  unfold sendFail
  extract_lets c
  clear_value c
  split
  · exact .at_ite (.at_raiseFlag <| .same (failFrame_params ..) <| .same (updRed_params ..) hs) hs
  · exact hs

theorem at_calibrate {tick : Bool} {n aon : Nat} (hs : Canonical s) : Canonical (calibrate tick n aon s) := by
  unfold calibrate
  extract_lets fresh
  have hfresh : Canonical fresh := .same (updRed_params ..) hs
  split
  · exact .at_ite (.at_ite (.at_setPar <| .same (updRed_params ..) hs) <| .same (updRed_params ..) hs) hfresh
  · exact hfresh

theorem at_heartbeatSend {da aon edge : Nat} {s0 : State} (hs : Canonical s0) : Canonical (heartbeatSend da aon edge s0) := by
  unfold heartbeatSend
  extract_lets s
  have hs : Canonical s := .same (updRed_params ..) hs
  exact .at_ite hs <| .same (sendFragment_params ..) <| .same (sendHb_params ..) <| .at_ite (.at_calibrate hs) hs

theorem at_countMisses {link n : Nat} (hs : Canonical s) : Canonical (countMisses link n s) := by
  unfold countMisses
  extract_lets s1
  have hs1 : Canonical s1 := .at_countN <| .same (updPath_params ..) hs
  exact .at_ite hs <| .at_ite (.at_splitCheck <| .at_raiseFlag <| .same (updPath_params ..) hs1) hs1

theorem at_pathGood {link : Nat} (hs : Canonical s) : Canonical (pathGood link s) := by
  unfold pathGood
  extract_lets s1
  have hs1 : Canonical s1 := .same (updPath_params ..) hs
  exact .at_ite (.at_raiseFlag <| .same (updRed_params ..) <| .same (updPath_params ..) hs1) hs1

theorem at_takeHb {h : Hb} (hs : Canonical s) : Canonical (takeHb h s) := by
  unfold takeHb
  extract_lets old own activeNow was agreed s1 s2
  have hs1 : Canonical s1 := .same (updRed_params ..) hs
  have hs2 : Canonical s2 := .at_ite (.at_raiseFlag hs1) hs1
  exact .at_ite (.at_raiseFlag hs2) hs2

theorem at_heartbeatReceive {link missed aon : Nat} {b : List Byte} (hs : Canonical s) :
    Canonical (heartbeatReceive link missed aon b s) := by
  unfold heartbeatReceive
  extract_lets s1 h n
  have hs1 : Canonical s1 := .at_countMisses hs
  exact .at_ite hs <|
    .at_ite (.at_takeHb <| .at_pathGood <| .at_ite hs1 <| .at_calibrate hs1) <|
    .at_ite (.same (updRed_params ..) <| .at_pathGood hs1) <| .at_ite (.at_countMisses hs1) hs1

theorem at_pathDown {link missed : Nat} (hs : Canonical s) : Canonical (pathDown link missed s) :=
  .at_ite (.at_countMisses hs) hs

theorem at_keepSnap {b : List Byte} (hs : Canonical s) : Canonical (keepSnap b s) :=
  .at_ite hs <| .at_ite (.same (updRed_params ..) hs) <| .at_raiseFlag <| .at_count hs

theorem at_snapFragment {aon : Nat} {b : List Byte} (hs : Canonical s) : Canonical (snapFragment aon b s) := by
  unfold snapFragment
  extract_lets i seq old new l s1
  have hs1 : Canonical s1 := .same (updRed_params ..) hs
  exact .at_ite hs <| .at_ite (.at_keepSnap <| .same (updRed_params ..) hs1) <| .same (updRed_params ..) hs1

theorem at_roleWindow (hs : Canonical s) : Canonical (roleWindow s) := by
  unfold roleWindow
  extract_lets s1
  have hs1 : Canonical s1 := .same (updRed_params ..) hs
  exact .at_ite hs <| by
      split
      · exact .at_ite (.at_raiseFlag <| .same (setRole_params ..) hs1) <|
          .at_ite (.same (setRole_params ..) hs1) <| .at_raiseFlag <| .same (setRole_params ..) hs1
      · exact .at_splitCheck <| .same (setRole_params ..) hs1
      · exact .same (setRole_params ..) hs1

theorem at_giveArm {p : Plane} (hs : Canonical s) : Canonical (giveArm p s).1 := by
  unfold giveArm
  extract_lets s1
  have hs1 : Canonical s1 := .at_ite (.at_doEnable hs) hs
  exact .at_ite_fst hs1 <| .at_ite_fst (.same (updLane_params ..) <| .same (suppliesOn_params ..) hs1) hs1

theorem at_restoreSetpoints {b : List Byte} (hs : Canonical s) : Canonical (restoreSetpoints b s) :=
  .at_setPar <| .at_setPar <| .at_setPar <| .at_setPar hs

theorem at_givePlanes {c : Nat} (hs : Canonical s) : Canonical (givePlanes c s) := by
  unfold givePlanes
  split
  · exact hs
  · extract_lets s1 b d g
    have hs1 : Canonical s1 := by
      unfold s1
      split
      · exact .at_restoreSetpoints <| .same (updRed_params ..) hs
      · exact .at_raiseFlag <| .same (updRed_params ..) hs
    have hg : Canonical g.1 := .at_giveArm <| .at_giveArm <| .at_giveArm hs1
    exact .at_ite hg <| .at_takeFails hg

theorem at_beginTake {c : Nat} (hs : Canonical s) : Canonical (beginTake c s) := by
  unfold beginTake
  extract_lets bad cold s1
  have hs1 : Canonical s1 := .same (updRed_params ..) hs
  exact .at_ite (.at_raiseFlag <| .same (updRed_params ..) hs) <| .at_ite (.at_mk hs1) <| .at_givePlanes hs1

theorem at_takeover {c : Nat} (hs : Canonical s) : Canonical (takeover c s) := .at_ite (.at_beginTake hs) hs

theorem at_giveStart {p : Plane} {step : Nat} (hs : Canonical s) : Canonical (giveStart p step s) :=
  .at_ite (.at_doStart hs) <| .at_takeFails hs

theorem at_takeStarts (hs : Canonical s) : Canonical (takeStarts s) :=
  .at_ite hs <|
  .at_ite (.at_giveStart <| .at_setParBit hs) <|
  .at_ite (.at_giveStart <| .at_setPar <| .at_setPar hs) <| .at_ite (.at_giveStart hs) hs

theorem at_takeDone (hs : Canonical s) : Canonical (takeDone s) := .at_raiseFlag <| .same (updRed_params ..) hs

theorem at_takePermit (hs : Canonical s) : Canonical (takePermit s) := by
  unfold takePermit
  extract_lets back f
  split
  · extract_lets low s1 us
    have hs1 : Canonical s1 := .same (updRed_params ..) hs
    exact .at_ite hs1 <|
      .at_ite (.at_raiseFlag <| .same (updRed_params ..) hs1) <|
      .at_ite (.at_takeDone <| .same (updGfm_params ..) hs1) <|
      .at_ite (.at_takeDone <| .at_ite (.at_setPar <| .at_permitOn hs1) hs1) hs1
  · exact hs

theorem at_powerDownCold (hs : Canonical s) : Canonical (powerDownCold s) := tabOk_filter _ _ _ _ hs

theorem at_redCtrlWritten {v c : Nat} (hs : Canonical s) : Canonical (redCtrlWritten v c s) := by
  unfold redCtrlWritten
  extract_lets s1
  have hs1 : Canonical s1 := .at_ite (.same (requestFail_params ..) hs) hs
  exact .at_ite (.at_beginTake hs1) <| .at_ite (.at_powerDownCold hs1) hs1

/-! ## Campion -/

theorem at_campionWord {id v : Nat} (hs : Canonical s) : Canonical (campionWord id v s) := by
  unfold campionWord
  extract_lets s1
  have hs1 : Canonical s1 := .at_setPar hs
  exact .at_ite (.at_lawWritten hs1) <| .at_ite (.same (updMsd_params ..) hs1) hs1

theorem at_allLaws {o : OuterIn} (hs : Canonical s) : Canonical (allLaws o s) := .at_mBoundary <| .at_gBoundary hs

theorem at_dryRun {p : Plane} {o : OuterIn} {s : State} {real : State} (hs : Canonical real) :
    Canonical (dryRun p o s real) := by
  unfold dryRun
  extract_lets r __src __src
  exact .at_ite (.same (keepRefs_params ..) hs) <| by
      split
      · exact .at_setPar <| .at_mk <| .same (keepRefs_params ..) hs
      · exact .at_mk <| .same (keepRefs_params ..) hs

theorem at_withIndex {k : Nat} (hs : Canonical s) : Canonical (withIndex k s) := .at_setPar <| .at_setPar hs

theorem at_twoBoundaries {o : OuterIn} (hs : Canonical s) : Canonical (twoBoundaries o s) :=
  .at_allLaws <| .at_withIndex <| .at_allLaws <| .at_withIndex hs

theorem at_lawsAt {o : OuterIn} (hs : Canonical s) : Canonical (lawsAt o s) := by
  unfold lawsAt
  split
  · exact .at_allLaws hs
  · extract_lets s1 s2 s3
    have hs2 : Canonical s2 := by
      unfold s2
      exact .same (updGfm_params ..) <| .at_ite (.at_mk hs) hs
    have hs3 : Canonical s3 := .same (updFw_params ..) <| .at_ite (.at_twoBoundaries hs2) <| .at_allLaws hs2
    exact .at_ite (.at_allLaws hs) <| .at_ite (.same (updFw_params ..) hs) <| .at_ite (.at_endActivation hs3) hs3

theorem at_outerBoundary {o : OuterIn} (hs : Canonical s) : Canonical (outerBoundary o s) := by
  unfold outerBoundary
  extract_lets s0 s1 real s2
  have hreal : Canonical real :=
    .same (writeSnapshot_params ..) <|
    .at_takePermit <|
    .at_lawsAt <|
    .at_takeStarts <|
    .same (updRed_params ..) <| .same (updGfm_params ..) <| .at_takeWaiting (fun _ _ _ hs => .at_campionWord hs) hs
  have hs2 : Canonical s2 := by
    unfold s2
    split
    · exact .at_dryRun hreal
    · exact hreal
  exact .at_ite hs <| .same (bumpFree_params ..) <| .at_mk hs2

/-! ## Check -/

theorem at_withWords {es : List PEntry} (hs : Canonical s) : Canonical (withWords es s) := by
  unfold withWords
  extract_lets s1
  exact .at_foldl (fun _ _ hs => by split; exacts [.at_ite (.at_setPar hs) hs, hs]) <|
    .at_foldl (fun _ _ hs => .at_setPar hs) hs

/-! ## Settings -/

theorem at_settingsSaved (hs : Canonical s) : Canonical (settingsSaved s) := by
  unfold settingsSaved
  split
  · exact .at_complete <| .same (setCopy_params ..) <| .same (updFw_params ..) hs
  · exact hs

/-! ## Write -/

theorem at_clearCounter {id : Nat} (hs : Canonical s) : Canonical (clearCounter id s) := by
  unfold clearCounter
  extract_lets s1
  have hs1 : Canonical s1 := .at_setPar hs
  exact .at_ite (.at_rechoose <| .same (updPrt_params ..) hs1) hs1

theorem at_clearBits {id v : Nat} (hs : Canonical s) : Canonical (clearBits id v s) := by
  unfold clearBits
  extract_lets s1 n
  have hs1 : Canonical s1 := .at_setPar hs
  exact .at_ite (.at_rechoose <| .at_settle <| .same (updPrt_params ..) hs1) hs1

theorem at_addSteps {v : Nat} (hs : Canonical s) : Canonical (addSteps v s) := .at_setPar hs

theorem at_woWritten {id v : Nat} (hs : Canonical s) : Canonical (woWritten id v s) := by
  unfold woWritten
  exact .at_ite (.at_addSteps hs) <|
    .at_ite hs <|
    .at_ite (.at_latchBases hs) <|
    .at_ite (.at_eachPlane (fun _ _ hs => .at_goPlane hs) hs) <|
    .at_ite (.at_surveyStart hs) <|
    .at_ite (.at_redCtrlWritten hs) <|
    .at_ite (.same (confirm_params ..) hs) <| by split; exacts [.at_ite (.same (armShadow_params ..) hs) hs, hs]

theorem at_modWritten {p : Plane} {id v : Nat} (hs : Canonical s) : Canonical (modWritten p id v s) :=
  .at_ite (.same (shadowWord_params ..) hs) <| .at_ite (.at_refreshOut <| .same (keepTo_params ..) hs) hs

theorem at_captureWritten {old v : Nat} (hs : Canonical s) : Canonical (captureWritten old v s) :=
  .at_ite (.at_startCapture hs) <| .at_ite (.at_stopCapture hs) hs

theorem at_testWritten (hs : Canonical s) : Canonical (testWritten s) :=
  .at_eachPlane (fun _ _ hs => .at_ite (.at_driveTest hs) hs) hs

theorem at_limitWritten {v : Nat} (hs : Canonical s) : Canonical (limitWritten v s) :=
  .at_rechoose <| .at_settle <| .same (updPrt_params ..) hs

theorem at_rwWritten {id old v : Nat} (hs : Canonical s) : Canonical (rwWritten id old v s) := by
  unfold rwWritten
  exact .at_ite (.at_setBrk <| .at_setBrk hs) <|
    .at_ite (.at_testWritten hs) <|
    .at_ite (.at_limitWritten hs) <|
    .at_ite (.at_rechoose hs) <|
    .at_ite (.at_chopStop hs) <|
    .at_ite (.at_captureWritten hs) <|
    .at_ite (.at_refSelWritten hs) <|
    .at_ite (.at_refAltWritten hs) <|
    .at_ite (.at_refModeWritten hs) <|
    .at_ite (.at_dropQueues hs) <|
    .at_ite (.at_dropQueues hs) <| .at_ite (.at_armComparator hs) <| by split; exacts [.at_modWritten hs, hs]

theorem at_liveWrite {id v : Nat} (hs : Canonical s) : Canonical (liveWrite id v s) := by
  unfold liveWrite
  split
  · exact hs
  · split
    · exact hs
    · exact .at_ite (.at_clearCounter hs) hs
    · exact .at_clearBits hs
    · exact .at_woWritten hs
    · exact .at_ite (.same (waitWord_params ..) hs) <| .at_rwWritten <| .at_setPar hs

theorem at_boundaryWord {id v : Nat} (hs : Canonical s) : Canonical (boundaryWord id v s) := by
  unfold boundaryWord
  split
  · exact .at_laneWord hs
  · exact .at_campionWord hs
  · exact .at_setPar hs

theorem at_applyEntry {e : PEntry} (hs : Canonical s) : Canonical (applyEntry s e) := by
  unfold applyEntry
  split
  · exact hs
  · split
    · exact .same (waitWord_params ..) hs
    · exact .same (storeWord_params ..) hs
    · exact .at_liveWrite hs

theorem at_switchEntry {e : PEntry} (hs : Canonical s) : Canonical (switchEntry s e) := by
  unfold switchEntry
  split
  · exact hs
  · split
    · exact .at_boundaryWord hs
    · exact .same (storeWord_params ..) hs
    · exact .at_liveWrite hs

/-! ## SetParam -/

theorem at_applyAll {es : List PEntry} (hs : Canonical s) : Canonical (applyAll es s) :=
  .at_foldl (fun _ _ hs => .at_applyEntry hs) hs

theorem at_directWrite {ctl : Bool} {es : List PEntry} (hs : Canonical s) :
    Canonical (directWrite ctl es s).1 := by
  unfold directWrite
  exact .at_ite_fst hs <| by split; exacts [hs, .at_applyAll hs]

theorem at_paramBody {ctl : Bool} {h resv : Nat} {es : List PEntry} (hs : Canonical s) :
    Canonical (paramBody ctl h resv es s).1 :=
  .at_ite_fst hs <| .at_ite_fst (.at_directWrite hs) <| .same (stageWrite_params ..) hs

theorem at_setParam {ctl : Bool} {e : Env} {es : List PEntry} {resv : Nat} (hs : Canonical s) :
    Canonical (setParam ctl e es resv s) :=
  .at_withLength (fun _ hs => .at_serveShort (fun _ hs => .at_paramBody hs) hs) hs

theorem at_readClear {ids : List Nat} (hs : Canonical s) : Canonical (readClear ids s) := by
  unfold readClear
  exact .at_foldl (fun _ _ hs => by split; exacts [.at_ite (.at_clearCounter hs) hs, hs]) hs

theorem at_getBody {clear : Bool} {ids : List Nat} (hs : Canonical s) : Canonical (getBody clear ids s).1 := by
  unfold getBody
  extract_lets body
  exact .at_ite_fst hs <| by split; exacts [hs, .at_ite (.at_readClear hs) hs]

theorem at_getParam {e : Env} {ids : List Nat} (hs : Canonical s) : Canonical (getParam e ids s) :=
  .at_withLength (fun _ hs => .at_serve (fun _ _ hs => .at_getBody hs) hs) hs

theorem at_writeWords {e : Env} {ws : List (Nat × Word)} (hs : Canonical s) : Canonical (writeWords e ws s) := .at_setParam hs

/-! ## Txn -/

theorem at_endTxn {st cause : Nat} {results : List Byte} (hs : Canonical s) : Canonical (endTxn st cause results s) := by
  unfold endTxn
  split
  · exact hs
  · exact .at_complete <| .at_mk <| .same (freeSpares_params ..) hs

theorem at_onTxn {e : Env} {ok : TxnState → Bool} {f : Txn → State → State × Ans}
    (hf : ∀ x t, Canonical t → Canonical (f x t).1) (hs : Canonical s) : Canonical (onTxn e ok f s).1 := by
  unfold onTxn
  split
  · exact hs
  · exact .at_ite_fst hs <| .at_ite_fst (hf _ _ hs) hs

theorem at_preparedEvent {t : Txn} {id isl st : Nat} (hs : Canonical s) : Canonical (preparedEvent t id isl st s) := by
  unfold preparedEvent
  split
  · exact .at_sendTo hs
  · exact hs

theorem at_prepared (hs : Canonical s) : Canonical (prepared s) := by
  unfold prepared
  split
  · exact hs
  · exact .at_ite hs <| by
        split
        · exact .at_endTxn <| .at_preparedEvent hs
        · exact .at_preparedEvent <| .same (copyGroup_params ..) <| .at_mk hs

theorem at_abortTxn (hs : Canonical s) : Canonical (abortTxn s) := by
  unfold abortTxn
  split
  · exact hs
  · exact .at_ite (.at_endTxn hs) <| .at_ite (.at_endTxn hs) <| .at_ite (.at_mk hs) <| .at_endTxn hs

theorem at_txnTimeout (hs : Canonical s) : Canonical (txnTimeout s) := by
  unfold txnTimeout
  split
  · exact .at_ite hs <| .at_endTxn hs
  · exact hs

theorem at_switchCtl {t : Txn} (hs : Canonical s) : Canonical (switchCtl t s) :=
  .at_mk <| .same (swapTiles_params ..) <| .at_foldl (fun _ _ hs => .at_switchEntry hs) hs

theorem at_ctlSwitch (hs : Canonical s) : Canonical (ctlSwitch s) := by
  unfold ctlSwitch
  split
  · exact .at_ite (.at_switchCtl hs) hs
  · exact hs

theorem at_switchGroup {t : Txn} (hs : Canonical s) : Canonical (switchGroup t s) := by
  unfold switchGroup
  extract_lets s1
  have hs1 : Canonical s1 := .at_foldl (fun _ _ hs => .at_switchEntry hs) hs
  exact .at_ite (.at_switchCtl hs1) hs1

theorem at_afterSwitch {t : Txn} {gone : List Nat} (hs : Canonical s) : Canonical (afterSwitch t gone s) := by
  unfold afterSwitch
  extract_lets s1
  have hs1 : Canonical s1 := .at_ite (.at_progress hs) hs
  exact .at_ite (.at_endTxn hs1) <|
    .at_ite (.at_endTxn hs1) <| .at_ite (.at_endTxn hs1) <| .same (copyGroup_params ..) <| .at_mk hs1

theorem at_txnSwitch (hs : Canonical s) : Canonical (txnSwitch s) := by
  unfold txnSwitch
  split
  · exact hs
  · exact .at_ite hs <| .at_afterSwitch <| .at_switchGroup hs

theorem at_txnGroupSwitch {ok : Bool} (hs : Canonical s) : Canonical (txnGroupSwitch ok s) := by
  unfold txnGroupSwitch
  split
  · exact hs
  · exact .at_ite hs <| .at_ite (.at_endTxn hs) <| .at_txnSwitch hs

/-! ## Reset -/

theorem at_beginReset {kind : Nat} (hs : Canonical s) : Canonical (beginReset kind s) :=
  .at_ite hs <| .same (updPrt_params ..) <| .at_closeRecord <| .at_causeEvery hs

theorem at_systemReset {kind : Nat} {keep : Bool} : Canonical (systemReset kind keep s) := by
  have h0 : Canonical { params := [] } := rfl
  have h2 : Canonical (setPar fwBootCnt (par s fwBootCnt) (setPar sysResetCause (0xF0 + kind)
      (count sysResetCnt (setPar sysResetCnt (par s sysResetCnt) { params := [] })))) :=
    .at_setPar <| .at_setPar <| .at_count <| .at_setPar h0
  have h3 := Canonical.at_ite (c := kind = 3) (.at_setParBit (id := sysStartEvents) (b := 2) (on := true) h2) h2
  exact Canonical.at_ite (c := keep = true) (.at_setPar h3) h3

theorem at_resetPin (hs : Canonical s) : Canonical (resetPin s) := by
  unfold resetPin
  extract_lets _ s1
  have hs1 : Canonical s1 := by
    unfold s1
    exact .at_mk hs
  exact .at_ite (.same (requestFail_params ..) <| .at_beginReset hs1) hs1

theorem at_resetEntry (hs : Canonical s) : Canonical (resetEntry s) := by
  unfold resetEntry
  split
  · exact .at_ite .at_systemReset <| .same (holdReset_params ..) .at_systemReset
  · exact hs

theorem at_resetCommand {sel resv : Nat} (hs : Canonical s) : Canonical (resetCommand sel resv s).1 :=
  .at_ite_fst hs <| .at_ite_fst (.at_beginReset <| .at_mk hs) hs

theorem at_supervisorReset (hs : Canonical s) : Canonical (supervisorReset s) := .at_ite (.at_beginReset hs) hs

theorem at_supplyLow {v : Nat} (hs : Canonical s) : Canonical (supplyLow v s) := by
  unfold supplyLow
  extract_lets s1
  have hs1 : Canonical s1 := .at_setPar hs
  exact .at_ite hs <| .at_ite (.same (updPrt_params ..) hs1) <| .at_ite (.at_raiseNum <| .same (updPrt_params ..) hs1) hs1

theorem at_powerLost (hs : Canonical s) : Canonical (powerLost s) := tabOk_filter _ _ _ _ hs
theorem at_idle (hs : Canonical s) : Canonical (idle s) := .at_ite (.at_powerLost hs) hs

theorem at_supplyLoss (hs : Canonical s) : Canonical (supplyLoss s) :=
  .at_ite (.at_powerLost hs) <|
  .at_ite hs <|
  .same (presence_params ..) <|
  .at_mk <| .same (requestFail_params ..) <| .at_setBrk <| .at_causeEvery <| .at_raiseNum <| .same (updPrt_params ..) hs

theorem at_mcRelayDrop (hs : Canonical s) : Canonical (mcRelayDrop s) := .at_ite (.at_setBrk <| .same (updPrt_params ..) hs) hs

theorem at_brkDelay (hs : Canonical s) : Canonical (brkDelay s) := .at_ite (.same (requestFail_params ..) <| .at_setBrk hs) hs

/-! ## Firmware -/

theorem at_endUpdate {st cause : Nat} (hs : Canonical s) : Canonical (endUpdate st cause s) := by
  unfold endUpdate
  split
  · exact hs
  · exact .at_complete <|
      .same (updFw_params ..) <| .at_ite (.at_ite (.same (updSlotFw_params ..) hs) <| .same (updSlotFw_params ..) hs) hs

theorem at_finishImage (hs : Canonical s) : Canonical (finishImage s) := .at_endUpdate hs

theorem at_deltaBlock {u : Upd} {bs : List Byte} {last : Bool} (hs : Canonical s) : Canonical (deltaBlock u bs last s) := by
  unfold deltaBlock
  extract_lets b r
  have hr : Canonical r.1 := .same (deltaRecords_params ..) hs
  split
  · exact .at_finishImage hr
  · exact .at_endUpdate hr
  · exact .at_ite (.at_endUpdate hr) <| .same (updFw_params ..) hr

theorem at_takeOwnerKey {b : List Byte} (hs : Canonical s) : Canonical (takeOwnerKey b s) :=
  .at_ite (.at_endUpdate hs) <| .at_ite (.at_endUpdate <| .same (updFw_params ..) hs) <| .at_endUpdate hs

theorem at_takeRevoke {b : List Byte} (hs : Canonical s) : Canonical (takeRevoke b s) :=
  .at_ite (.at_endUpdate hs) <| .at_ite (.at_endUpdate <| .same (updFw_params ..) hs) <| .at_endUpdate hs

theorem at_takeBlock {u : Upd} {bs : List Byte} (hs : Canonical s) : Canonical (takeBlock u bs s) := by
  unfold takeBlock
  extract_lets n last s1 s2 s2
  have hs1 : Canonical s1 := .same (updFw_params ..) hs
  have hs2 : Canonical s2 := .same (slotWrite_params ..) hs1
  have hs2 : Canonical s2 := .same (slotWrite_params ..) hs1
  exact .at_ite (.at_takeOwnerKey hs1) <|
    .at_ite (.at_takeRevoke hs1) <|
    .at_ite (.at_ite (.at_ite (.at_ite (.at_finishImage hs2) <| .at_endUpdate hs2) hs2) <| .at_endUpdate hs1) <|
    .at_ite (.at_deltaBlock hs1) <| .at_ite (.at_finishImage hs2) hs2

theorem at_drainBlocks {k : Nat} (hs : Canonical s) : Canonical (drainBlocks k s) := by
  induction k generalizing s with
  | zero => exact hs
  | succ k ih =>
    unfold drainBlocks
    split
    · exact hs
    · split
      · exact hs
      · exact ih (.at_takeBlock hs)

theorem at_fwData {e : Env} {p : DataPay} (hs : Canonical s) :
    Canonical (fwData e p s).1 := by
  unfold fwData
  extract_lets n
  split
  · exact hs
  · exact .at_ite_fst hs <|
      .at_ite_fst hs <|
      .at_ite_fst hs <| by
        split
        · exact hs
        · extract_lets v
          split
          · exact .same (updFw_params ..) hs
          · exact .at_ite_fst (.at_drainBlocks <| .at_takeBlock hs) <| .at_ite_fst hs <| .same (updFw_params ..) hs

theorem at_fwActivate {e : Env} {resv kh h : Nat} (hs : Canonical s) :
    Canonical (fwActivate e resv kh h s).1 :=
  .at_ite_fst hs <|
  .at_ite_fst hs <|
  .at_ite_fst hs <| .at_beginReset <| .at_complete <| .same (answer_params ..) <| .same (allocHandle_params ..) hs

theorem at_hitlessReady {mig : Migr} (hs : Canonical s) : Canonical (hitlessReady mig s) := by
  unfold hitlessReady
  split
  · exact hs
  · exact .at_ite hs <|
      .at_ite (.at_endActivation hs) <| by
        split
        · exact .at_endActivation hs
        · extract_lets s1
          exact .at_ite (.at_endActivation hs) <| by
              split
              · exact .at_endActivation hs
              · exact .same (updFw_params ..) <| .same (stageMigrated_params ..) hs

theorem at_endBeforeRestart (hs : Canonical s) : Canonical (endBeforeRestart s) := by
  unfold endBeforeRestart
  extract_lets s1 s2 s3 drop s4
  have hs1 : Canonical s1 := .at_foldl (fun _ _ hs => .at_endRead hs) hs
  have hs2 : Canonical s2 := by
    unfold s2
    split
    · exact .at_complete <| .same (holdSlot_params ..) <| .same (updAcq_params ..) hs1
    · exact hs1
  have hs3 : Canonical s3 := by
    unfold s3
    split
    · exact .at_endLoad hs2
    · exact hs2
  have hs4 : Canonical s4 := .at_cancelAll <| .same (updEth_params ..) <| .at_cancelAll <| .same (updEth_params ..) hs3
  split
  · exact .at_ite (.at_endTxn hs4) hs4
  · exact hs4

theorem at_tansyRestart (hs : Canonical s) : Canonical (tansyRestart s) := by
  unfold tansyRestart
  extract_lets s1
  split
  · exact hs
  · exact .at_ite hs <| .at_mk <| .same (updFw_params ..) <| .at_endBeforeRestart hs

theorem at_flushHeld (hs : Canonical s) : Canonical (flushHeld s) :=
  .at_foldl (fun _ _ hs => .at_routeAsync hs) <|
  .at_foldl (fun _ _ hs => .same (sendReply_params ..) hs) <| .same (updHost_params ..) hs

theorem at_drainAll (hs : Canonical s) : Canonical (drainAll s) := .at_foldl (fun _ _ hs => .at_drainQueue hs) hs

theorem at_takeMigrated {h : Hitless} (hs : Canonical s) : Canonical (takeMigrated h s) := by
  unfold takeMigrated
  split
  · exact .same (updFw_params ..) <|
      .at_foldl (fun _ _ hs => .at_ite hs <| .same (evict_params ..) <| .same (putTile_params ..) hs) <|
      .at_foldl (fun _ _ hs => .at_ite hs <| .at_setPar hs) hs
  · exact hs

theorem at_tansyRestartDone (hs : Canonical s) : Canonical (tansyRestartDone s) := by
  unfold tansyRestartDone
  extract_lets new s1 i
  split
  · exact hs
  · exact .at_ite hs <|
      .at_endActivation <|
      .at_raiseFlag <|
      .at_takeMigrated <| .same (updFw_params ..) <| .at_drainAll <| .at_flushLate <| .at_flushHeld <| .at_mk hs

theorem at_debugUnlock {t : List Byte} (hs : Canonical s) : Canonical (debugUnlock t s).1 :=
  .at_ite_fst hs <|
  .at_ite_fst hs <|
  .at_ite_fst (.same (drawNonce_params ..) <| .same (updFw_params ..) hs) <| .at_raiseFlag <| .same (drawNonce_params ..) hs

/-! ## Handles -/

theorem at_showTests {pass fail : Nat} (hs : Canonical s) : Canonical (showTests pass fail s) := .at_setPar hs

theorem at_endSelfTest {st cause pass fail : Nat} (hs : Canonical s) : Canonical (endSelfTest st cause pass fail s) := by
  unfold endSelfTest
  extract_lets s1
  split
  · exact hs
  · exact .at_complete <| .at_showTests <| .at_mk <| .at_ite (.at_ftInject hs) hs

theorem at_selfTestComplete {hw : Nat} (hs : Canonical s) : Canonical (selfTestComplete hw s) := by
  unfold selfTestComplete
  split
  · exact hs
  · exact .at_endSelfTest hs

theorem at_cancelSelfTest {cause : Nat} (hs : Canonical s) : Canonical (cancelSelfTest cause s) := by
  unfold cancelSelfTest
  split
  · exact hs
  · exact .same (bumpFree_params ..) <| .same (bumpFree_params ..) <| .at_endSelfTest hs

theorem at_cancelPlane {h cause : Nat} {p : Plane} (hs : Canonical s) : Canonical (cancelPlane h cause p s) :=
  .at_ite (.at_complete <| .same (updLane_params ..) hs) <|
  .at_ite (.at_drainQueue <| .at_complete <| .same (updLane_params ..) hs) <|
  .at_ite (.at_drainQueue <| .at_complete <| .at_settle <| .same (suppliesOff_params ..) <| .same (updLane_params ..) hs) hs

theorem at_cancelFrame {h cause : Nat} (hs : Canonical s) : Canonical (cancelFrame h cause s) :=
  .at_complete <| .same (updEth_params ..) <| .same (updEth_params ..) hs

theorem at_cancelGroup {cause : Nat} (hs : Canonical s) : Canonical (cancelGroup cause s) := by
  unfold cancelGroup
  split
  · exact hs
  · exact .at_complete <| .same (updRed_params ..) hs

theorem at_cancelArchive {cause : Nat} (hs : Canonical s) : Canonical (cancelArchive cause s) := by
  unfold cancelArchive
  split
  · exact .at_complete <| .same (holdSlot_params ..) <| .same (updAcq_params ..) hs
  · exact hs

theorem at_dropSave {cause : Nat} (hs : Canonical s) : Canonical (dropSave cause s) := by
  unfold dropSave
  split
  · exact .at_complete <| .same (updFw_params ..) hs
  · exact hs

theorem at_cancelOp {o : Op} {cause : Nat} (hs : Canonical s) : Canonical (cancelOp o cause s) := by
  unfold cancelOp
  extract_lets h
  exact .at_ite (.at_eachPlane (fun _ _ hs => .at_cancelPlane hs) hs) <| by
      split
      · exact .at_endSync hs
      · exact .at_completeOps hs
      · exact .at_endDischarge hs
      · exact .at_endReplay hs
      · exact .at_ite (.at_abortTxn hs) <| .at_endTxn hs
      · exact .at_cancelSelfTest hs
      · exact .at_dropSave hs
      · exact .at_endUpdate hs
      · exact .at_endActivation hs
      · exact .at_ite (.at_endActivation hs) <| .at_cancelGroup hs
      · split
        · exact .at_endRead hs
        · exact hs
      · exact .at_cancelArchive hs
      · split
        · exact .at_endLoad hs
        · exact hs
      · exact .at_cancelFrame hs

theorem at_handleCancel {h : Nat} (hs : Canonical s) : Canonical (handleCancel h s).1 := by
  unfold handleCancel
  split
  · exact .at_ite_fst (.at_cancelOp hs) hs
  · exact .at_ite_fst hs hs

/-! ## Group -/

theorem at_descriptorReceive {src : Nat} {b : List Byte} (hs : Canonical s) : Canonical (descriptorReceive src b s) := by
  unfold descriptorReceive
  extract_lets d same clash s1 fresh s2
  have hs1 : Canonical s1 := .same (updRed_params ..) hs
  have hs2 : Canonical s2 := .at_setPar <| .at_ite (.at_crossCheck <| .at_pairCheck hs1) hs1
  exact .at_ite hs <| .at_ite (.at_raiseFlag hs) <| .at_ite (.at_raiseFlag hs2) hs2

theorem at_memberLost {pos : Nat} (hs : Canonical s) : Canonical (memberLost pos s) :=
  .at_ite (.at_raiseFlag <| .at_setPar <| .same (updRed_params ..) hs) hs

theorem at_deferAction {a : GAct} {pos row : Nat} {more : List (Nat × Nat)} (hs : Canonical s) :
    Canonical (deferAction a pos row more s) :=
  .at_complete <| .at_foldl (fun _ _ hs => .at_raiseFlag hs) <| .same (updRed_params ..) <| .same (showVerdict_params ..) hs

theorem at_noteAgree {a : GAct} (hs : Canonical s) : Canonical (noteAgree a s) := .at_setPar hs

theorem at_groupDecide (hs : Canonical s) : Canonical (groupDecide s) := by
  unfold groupDecide
  split
  · exact hs
  · extract_lets s1
    have hs1 : Canonical s1 := .at_noteAgree hs
    exact .at_ite hs <| by
        split
        · exact .at_ite (.same (updRed_params ..) <| .same (showVerdict_params ..) hs1) <| .at_deferAction hs1
        · exact .at_deferAction hs1

theorem at_failAction {a : GAct} {st : Nat} (hs : Canonical s) : Canonical (failAction a st s) :=
  .at_complete <| .same (updRed_params ..) <| .same (showVerdict_params ..) hs

theorem at_groupConfirm (hs : Canonical s) : Canonical (groupConfirm s) := by
  unfold groupConfirm
  extract_lets st
  split
  · exact hs
  · extract_lets bad s1
    have hs1 : Canonical s1 := .same (updRed_params ..) hs
    exact .at_ite hs <|
      .at_ite (.at_deferAction hs) <| by
        split
        · exact .at_deferAction hs
        · exact .at_ite (.at_ite (.same (beginHitless_params ..) hs1) <| .at_failAction hs) hs1

theorem at_applied {a : GAct} (hs : Canonical s) : Canonical (applied a s) :=
  .at_complete <| .same (updRed_params ..) <| .same (showVerdict_params ..) hs

theorem at_groupApply (hs : Canonical s) : Canonical (groupApply s) := by
  unfold groupApply
  extract_lets st
  split
  · exact hs
  · extract_lets es st
    exact .at_ite hs <| by
        split
        · exact .at_ite (.at_failAction hs) <| by split; exacts [.at_failAction hs, .at_applied <| .at_applyAll hs]
        · exact .at_ite (.same (updRed_params ..) hs) <| .at_failAction hs
        · exact .at_ite hs <| .at_ite (.at_beginReset <| .at_applied hs) <| .at_failAction hs

theorem at_ilvAtMark (hs : Canonical s) : Canonical (ilvAtMark s) := by
  unfold ilvAtMark
  split
  · exact .at_ite
      (.at_complete <| .same (updRed_params ..) <| .same (showVerdict_params ..) <| .at_foldl (fun _ _ hs => .at_setPar hs) hs)
      hs
  · exact hs

/-! ## Islands -/

theorem at_stopSequence (hs : Canonical s) : Canonical (stopSequence s) := by
  unfold stopSequence
  split
  · exact .at_ite (.at_endTxn hs) hs
  · exact hs

theorem at_dropAcq (hs : Canonical s) : Canonical (dropAcq s) := by
  unfold dropAcq
  extract_lets s1 s2 s3 s4
  have hs1 : Canonical s1 := by
    unfold s1
    split
    · exact .same (updAcq_params ..) <| .same (updSlot_params ..) hs
    · exact hs
  have hs3 : Canonical s3 := .at_foldl (fun _ _ hs => .at_endRead hs) <| .at_endReplay hs1
  have hs4 : Canonical s4 := by
    unfold s4
    split
    · exact .at_endLoad hs3
    · exact hs3
  exact .at_cancelArchive hs4

theorem at_dropSwap (hs : Canonical s) : Canonical (dropSwap s) := by
  unfold dropSwap
  split
  · exact .at_ite (.at_endActivation hs) hs
  · exact hs

theorem at_islandDown {i : Island} (hs : Canonical s) : Canonical (islandDown i s) := by
  unfold islandDown
  extract_lets s1
  split
  · exact .at_causeEvery <| .same (stopHealth_params ..) <| .at_mk hs
  · exact .at_causeEach <| .at_dropSwap <| .same (stopHealth_params ..) <| .at_mk hs
  · exact .same (updHost_params ..) <| .same (stopHealth_params ..) <| .at_mk hs
  · exact .at_dropAcq <| .at_mk hs
  · exact .at_mk hs
  · exact .at_settle <| .same (updPrt_params ..) <| .at_setBrk <| .same (stopHealth_params ..) <| .at_mk hs

theorem at_islandStopped {i : Island} (hs : Canonical s) : Canonical (islandStopped i s) := by
  unfold islandStopped
  extract_lets s1
  have hs1 : Canonical s1 := .at_islandDown <| .same (updFw_params ..) hs
  exact .at_ite (.at_ite hs1 <| .at_stopSequence hs1) hs

theorem at_restartMax (hs : Canonical s) : Canonical (restartMax s) := .at_ite (.at_islandStopped hs) hs

theorem at_txnAtReset (hs : Canonical s) : Canonical (txnAtReset s) := by
  unfold txnAtReset
  split
  · exact hs
  · exact .at_ite (.at_stopSequence hs) <| .at_ite hs <| .at_endTxn hs

theorem at_endOutstanding (hs : Canonical s) : Canonical (endOutstanding s) :=
  .at_foldl (fun _ _ hs => .at_ite hs <| .at_complete <| .at_cancelOp hs) <| .at_txnAtReset hs

theorem at_restartSys {lost : List (Nat × Bool)} (hs : Canonical s) : Canonical (restartSys lost s) :=
  .same (startHealth_params ..) <|
  .at_flushHeld <|
  .at_endOutstanding <|
  .at_flushLate <|
  .same (loseEntries_params ..) <|
  .at_dropSwap <| .same (colClear_params ..) <| .same (updTime_params ..) <| .at_mk <| .same (updHost_params ..) hs

theorem at_restartAcq (hs : Canonical s) : Canonical (restartAcq s) :=
  .same (startHealth_params ..) <|
  .same (updTime_params ..) <| .same (colClear_params ..) <| .at_foldl (fun _ _ hs => .at_setParBit hs) <| .at_mk hs

theorem at_noteReset {n : Nat} (hs : Canonical s) : Canonical (noteReset n s) := .at_count <| .at_setParBits <| .at_mk hs

theorem at_islandReset {i : Island} {lost : List (Nat × Bool)} (hs : Canonical s) : Canonical (islandReset i lost s) := by
  unfold islandReset
  extract_lets s1
  have hs1 : Canonical s1 := .at_noteReset hs
  exact .at_ite hs <| by split; exacts [.at_restartSys hs1, .at_restartAcq hs1, .same (restartAon_params ..) hs1, hs1]

/-! ## Boot -/

theorem at_enterRecovery (hs : Canonical s) : Canonical (enterRecovery s) := .at_takeFails <| .at_setPar <| .at_mk hs

theorem at_selectSlot {k : Nat} (hs : Canonical s) : Canonical (selectSlot k s) := by
  induction k generalizing s with
  | zero => exact .at_enterRecovery hs
  | succ k ih =>
    unfold selectSlot
    extract_lets take
    have htake : ∀ n t, Canonical t → Canonical (take n t) := fun n t ht =>
      .at_ite (.at_setPar <| .same (updFw_params ..) ht) (ih <| .at_setParBit <| .same (updSlotFw_params ..) ht)
    split
    · exact .at_ite (htake _ _ <| .same (updSlotFw_params ..) hs)
        (ih <| .at_setParBit <| .at_setParBit <| .same (updSlotFw_params ..) hs)
    · split
      · exact htake _ _ hs
      · exact .at_enterRecovery hs

theorem at_bootRom (hs : Canonical s) : Canonical (bootRom s) := by
  unfold bootRom
  extract_lets s1
  have hs1 : Canonical s1 := .at_setPar hs
  exact .at_ite (.at_enterRecovery hs1) <| .at_selectSlot hs1

theorem at_pllmLocked {s0 : State} (hs : Canonical s0) : Canonical (pllmLocked s0) := by
  unfold pllmLocked
  extract_lets s s1
  have hs : Canonical s := .same (leaveReset_params ..) hs
  have hs1 : Canonical s1 := .at_setParBits hs
  exact .at_ite (.at_setParBits hs) <| .at_ite (.at_ite (.at_bootRom <| .at_mk hs1) hs1) hs

theorem at_fastStartLoaded {lockstep : Bool} (hs : Canonical s) : Canonical (fastStartLoaded lockstep s) := by
  unfold fastStartLoaded
  split
  · exact hs
  · extract_lets _ _ _ s2
    have hs2 : Canonical s2 := by
      unfold s2
      exact .at_setPar <| .at_mk <| .same (updFw_params ..) hs
    exact .at_ite hs <| .at_ite hs2 <| .at_takeFails hs2

theorem at_takeRec {n : Nat} {r : Rec} (hs : Canonical s) : Canonical (takeRec n r s) :=
  .same (updFw_params ..) <| .at_mk <| .at_foldl (fun _ _ hs => .at_ite (.at_setPar hs) hs) hs

theorem at_migrationFails {schema id status : Nat} (hs : Canonical s) : Canonical (migrationFails schema id status s) := by
  unfold migrationFails
  extract_lets w s1 s2
  have hs1 : Canonical s1 := .same (updFw_params ..) hs
  have hs2 : Canonical s2 := by
    unfold s2
    split
    · exact .same (updSlotFw_params ..) hs1
    · exact hs1
  exact .at_beginReset hs2

theorem at_takeStored (hs : Canonical s) : Canonical (takeStored s) := .at_foldl (fun _ _ hs => .at_setPar hs) hs

theorem at_takeClock (hs : Canonical s) : Canonical (takeClock s) :=
  .at_ite hs <| .at_ite hs <| .at_ite (.at_relock <| .at_enterHoldover hs) <| .at_enterHoldover hs

theorem at_powerUpTests {hw : Nat} (hs : Canonical s) : Canonical (powerUpTests hw s) := by
  unfold powerUpTests
  extract_lets fail s1
  have hs1 : Canonical s1 := .at_foldl (fun _ _ hs => .at_ite (.same (setBad_params ..) hs) hs) <| .at_showTests hs
  exact .at_ite (.at_raiseFlag hs1) hs1

theorem at_lateFlags (hs : Canonical s) : Canonical (lateFlags s) := by
  unfold lateFlags
  extract_lets again s1
  have hs1 : Canonical s1 :=
    .at_ite (.at_flagEvent <| .at_ite (.at_flagEvent <| .at_ite (.at_flagEvent hs) hs) <| .at_ite (.at_flagEvent hs) hs) <|
    .at_ite (.at_flagEvent <| .at_ite (.at_flagEvent hs) hs) <| .at_ite (.at_flagEvent hs) hs
  split
  · exact .at_ite hs1 <| .at_raiseFlag <| .same (updFw_params ..) hs1
  · exact hs1

theorem at_openRole {aon : Nat} (hs : Canonical s) : Canonical (openRole aon s) :=
  .at_ite (.at_givePlanes <| .same (updRed_params ..) hs) <| .same (updRed_params ..) hs

theorem at_settingsIn {aon hw : Nat} (hs : Canonical s) : Canonical (settingsIn aon hw s) :=
  .at_openRole <|
  .same (startHealth_params ..) <|
  .at_lateFlags <|
  .at_powerUpTests <|
  .at_setPar <| .at_mk <| .same (takeM5v_params ..) <| .at_takeClock <| .same (markUnwritten_params ..) <| .at_takeStored hs

theorem at_settingsLoaded {aon : Nat} {mig : Migr} {hw : Nat} (hs : Canonical s) : Canonical (settingsLoaded aon mig hw s) := by
  unfold settingsLoaded
  extract_lets s1
  exact .at_ite hs <| by
      split
      · exact .at_ite
          (by
              split
              · extract_lets x
                split
                · exact .at_migrationFails hs
                · exact .at_settingsIn <|
                    .at_takeRec <| .same (bumpFree_params ..) <| .same (bumpFree_params ..) <| .same (setCopy_params ..) hs
              · exact .at_migrationFails hs) <|
          .at_settingsIn <| .at_takeRec hs
      · split
        · exact .at_migrationFails hs
        · exact .at_raiseFlag <| .at_raiseFlag <| .at_settingsIn <| .at_mk hs

theorem at_tansyExtRunning (hs : Canonical s) : Canonical (tansyExtRunning s) := .at_ite (.at_setPar <| .at_mk hs) hs

/-! ## Urgent -/

theorem at_uAct {op mask : Nat} (hs : Canonical s) : Canonical (uAct op mask s) := by
  unfold uAct
  extract_lets ps
  split
  · exact .at_causeEach <| .same (forceBlock_params ..) hs
  · exact .at_causeEach <| .at_ite (.same (forceAsc_params ..) hs) hs
  · exact .at_causeEach hs

theorem at_urgentEvent {op mask : Nat} {e : Env} (hs : Canonical s) : Canonical (urgentEvent op mask e s) :=
  .at_ite (.same (updHost_params ..) hs) <| .at_routeAsync hs

theorem at_urgentReply {op : Nat} {e : Env} {done : Bool} {mask : Nat} (hs : Canonical s) :
    Canonical (urgentReply op e done mask s) :=
  .at_ite hs <| .same (turnAway_params ..) <| .at_ite (.at_urgentEvent hs) hs

theorem at_urgentTake {op : Nat} {e : Env} {u : UPay} (hs : Canonical s) : Canonical (urgentTake op e u s) := by
  unfold urgentTake
  extract_lets s1
  have hs1 : Canonical s1 := .same (noteUrgent_params ..) <| .at_uAct hs
  exact .at_ite (.same (propagate_params ..) hs1) hs1

theorem at_urgent {op : Nat} {e : Env} {u : UPay} (hs : Canonical s) : Canonical (urgent op e u s) := by
  unfold urgent
  extract_lets s1
  have hs1 : Canonical s1 := .at_count hs
  exact .at_ite (.at_ite (.same (colPut_params ..) hs) hs) <|
    .at_ite (.at_urgentReply <| .at_urgentTake hs) <| .at_urgentReply <| .at_ite (.at_count hs1) hs1

/-! ## Host -/

theorem at_decoderAlone {b : List Byte} (hs : Canonical s) : Canonical (decoderAlone b s) :=
  .at_ite hs <| .at_ite (.at_urgentTake hs) <| .at_count hs

theorem at_eventsLost (hs : Canonical s) : Canonical (eventsLost s) := .at_ite (.at_pushSpi <| .same (updHost_params ..) hs) hs

end Canonical

/-! ## Commands and steps -/

/-- Every next state of an outcome keeps its parameter store canonical. -/
def CanonicalNext (o : Host.Outcome State Fault Refusal) : Prop := ∀ t, o = .next t → Canonical t

theorem CanonicalNext.next {t : State} (ht : Canonical t) : CanonicalNext (.next t) := by
  rintro _ ⟨⟩
  exact ht

/-- Every command but a packet write. -/
theorem exec_canonical_of_ne {c : Instr} {s : State} (hs : Canonical s) (hc : ∀ r b, c ≠ .packetWrite r b) :
    CanonicalNext (exec c s) := by
  cases c
  case packetWrite r b => exact absurd rfl (hc r b)
  case haltNFall => exact .next (.at_haltFall hs)
  case haltNRise => exact .next (.at_haltRise hs)
  case stoLow => exact .next (.at_stoLow hs)
  case stoHigh => exact .next (.at_stoHigh hs)
  case keepAliveLoss => exact .next (.at_keepAliveLoss hs)
  case uvloDeclare => exact .next (.at_ite (.at_uvloDeclare hs) hs)
  case uvloRelease => exact .next (.at_ite (.at_uvloRelease hs) hs)
  case shortDesat => exact .next (.at_shortDesat hs)
  case shortHard => exact .next (.at_ite (.at_shortHard hs) hs)
  case shortStagger => exact .next (.at_shortStagger hs)
  case deferredTurnOff => exact .next (.at_ite (.at_deferredTurnOff hs) hs)
  case gatePwrHigh => exact .next (.at_ite (.at_gatePwrHigh hs) hs)
  case gateBudget => exact .next (.at_gateBudget hs)
  case tBaseUpdate => exact .next (.at_tBaseUpdate hs)
  case mpSupply => exact .next (.at_ite (.at_mpSupply hs) hs)
  case busPresentChange => exact .next (.at_splitCheck <| .at_mk hs)
  case brkAuxChange | mcAuxChange => exact .next (.at_mk hs)
  case brkMismatch => exact .next (.at_brkMismatch hs)
  case ascStep => exact .next (.at_ascNext hs)
  case forcedAscEnd => exact .next (.at_forcedAscEnd hs)
  case cutAck => exact .next (.at_cutAck hs)
  case boundaryCount => exact .next (.at_boundaryCount hs)
  case stuck => exact .next (.at_ite (.at_ite hs <| .at_declareLoss hs) hs)
  case clkFault => exact .next (.at_ite (.at_clkFault hs) hs)
  case manchesterLockLost | manchErr | frozen => exact .next (.at_ite (.at_ite (.at_declareLoss hs) hs) hs)
  case streamValid => exact .next (.at_ite (.same (streamValid_params ..) hs) hs)
  case skewAuto => exact .next (.at_ite (.at_skewAuto hs) hs)
  case meterOutput => exact .next (.at_ite (.same (bumpManch_params ..) <| .at_meterOutput hs) hs)
  case sreCheck => exact .next (.at_sreCheck hs)
  case cutArrival => exact .next (.at_cutArrival hs)
  case clkHoldover => exact .next (.at_clkHoldover hs)
  case refQualified => exact .next (.at_refQualified hs)
  case clkAltUsed => exact .next (.at_clkAltUsed hs)
  case holdoverMax => exact .next (.at_ite (.at_startFallback hs) hs)
  case clkFallback => exact .next (.at_clkFallback hs)
  case clkReturn => exact .next (.at_clkReturn hs)
  case freqWindow => exact .next (.at_freqWindow hs)
  case clkPrtHold => exact .next (.at_ite (.at_raiseFlag <| .at_setPar hs) hs)
  case pllPLocked => exact .next (.at_ite (.at_setPar <| .same (leaveReset_params ..) hs) hs)
  case phaseStepApply => exact .next (.at_phaseStepApply hs)
  case replicaRealign => exact .next (.same (replicaRealign_params ..) hs)
  case carrierReload => exact .next (.at_carrierReload hs)
  case feedGapStep => exact .next (.at_ite (.at_feedEvent hs) hs)
  case encoderIndex => exact .next (.at_ite (.at_encoderIndex hs) hs)
  case debugHalt => exact .next (.same (debugHalt_params ..) hs)
  case debugResume => exact .next (.at_debugResume hs)
  case recordClose => exact .next (.at_recordClose hs)
  case slowStreamEntry => exact .next (.same (slowStream_params ..) hs)
  case acqTrigger => exact .next (.at_serveShort (fun _ hs => .at_fireKind hs) hs)
  case replayStart =>
    exact .next (.at_serveLong (fun _ _ hs => .at_ite_fst (.at_armReplay <| .same (allocHandle_params ..) hs) hs) hs)
  case replayStop => exact .next (.at_serveShort (fun _ hs => .at_ite_fst (.at_endReplay hs) hs) hs)
  case replayEnd => exact .next (.at_replayEnds hs)
  case acqRead =>
    exact .next (.at_serveLong
    (fun _ _ hs =>
      .at_ite_fst hs <|
        .at_ite_fst hs <|
        .same (updAcq_params ..) <|
        .at_ite (.same (holdSlot_params ..) <| .same (allocHandle_params ..) hs) <| .same (allocHandle_params ..) hs)
    hs)
  case bulkData => exact .next (.at_bulkData hs)
  case acqRelease => exact .next (.at_serveShort (fun _ hs => .at_ite_fst hs <| .at_ite_fst hs <| .at_releaseSlot hs) hs)
  case acqArchive =>
    exact .next (.at_serveLong
    (fun _ _ hs =>
      .at_ite_fst hs <|
        .at_ite_fst hs <|
        .at_ite_fst hs <| .same (holdSlot_params ..) <| .same (updAcq_params ..) <| .same (allocHandle_params ..) hs)
    hs)
  case archiveComplete => exact .next (.at_archiveComplete hs)
  case replayLoad =>
    exact .next (.at_serveLong
    (fun _ _ hs =>
      .at_ite_fst hs <|
        .at_ite_fst hs <|
        .at_ite_fst hs <|
        .at_ite_fst hs <| .same (updAcq_params ..) <| .same (updSlot_params ..) <| .same (allocHandle_params ..) hs)
    hs)
  case replayData => exact .next (.at_withLength (fun _ hs => .at_serveShort (fun _ hs => .at_replayData hs) hs) hs)
  case tcFire => exact .next (.at_ite (.at_tcFire hs) hs)
  case linkUp => exact .next (.at_ite (.same (updEth_params ..) hs) hs)
  case linkDown => exact .next (.at_ite (.at_dropQueues <| .same (updEth_params ..) hs) hs)
  case frameForward => exact .next (.at_ite (.same (frameForward_params ..) hs) hs)
  case launch => exact .next (.at_ite (.at_servePort hs) hs)
  case ptpForward => exact .next (.at_ite (.same (ptpForward_params ..) hs) hs)
  case ptpSync => exact .next (.at_ite (.at_ptpSync hs) hs)
  case ptpHoldover => exact .next (.at_ptpHoldover hs)
  case pathDelayMeasure => exact .next (.at_ite (.at_pathDelay hs) hs)
  case pdHoldTimeout => exact .next (.at_ite (.same (updTime_params ..) hs) hs)
  case stepBack => exact .next (.at_serveShort (fun _ hs => .at_stepBack hs) hs)
  case frameSend => exact .next (.at_withLength (fun _ hs => .at_serve (fun _ _ hs => .same (frameSend_params ..) hs) hs) hs)
  case refItemWrite => exact .next (.at_ite (.same (writeItem_params ..) hs) hs)
  case teaselRead => exact .next (.at_ite (.at_teaselRead hs) hs)
  case publish => exact .next (.at_ite (.same (publish_params ..) hs) hs)
  case tripOutput => exact .next (.at_tripOutput hs)
  case testSequenceEnd => exact .next (.at_testSequenceEnd hs)
  case planeEnable | planeArm | planeStart | planeStop | planeDisarm | planeDisable | clearSafe | testEnter | testExit =>
    exact .next (.at_planeCommand hs)
  case planeArmReady => exact .next (.at_armReady hs)
  case planeArmTimeout => exact .next (.at_armTimeout hs)
  case stopLimit => exact .next (.same (stopLimit_params ..) hs)
  case adaptWindowEnd => exact .next (.at_adaptEnd hs)
  case commitPoint => exact .next (.at_commitPoint hs)
  case yarrowHead => exact .next (.at_becomeHead hs)
  case headChange => exact .next (.at_loseHead hs)
  case presenceChange => exact .next (.same (presence_params ..) hs)
  case yclkLost => exact .next (.at_yclkLost hs)
  case yclkRequestPulse => exact .next (.at_yclkBack hs)
  case surveyStart => exact .next (.at_surveyStart hs)
  case surveyDone => exact .next (.at_surveyDone hs)
  case alignmentMark => exact .next (.at_alignmentMark hs)
  case groupTrigger => exact .next (.at_groupTrigger hs)
  case groupTriggerApply => exact .next (.at_applyTrigger hs)
  case gfmSync => exact .next (.at_serveLong (fun _ _ hs => .at_gfmSyncBody hs) hs)
  case syncTimeout => exact .next (.at_ite hs <| .at_endSync hs)
  case encLost => exact .next (.at_ite (.at_encLost hs) hs)
  case dcPrecharge | dcDischarge => exact .next (.at_serveLong (fun _ _ hs => .at_dcBody hs) hs)
  case preFail => exact .next (.at_ite hs <| .at_raiseFlag <| .at_completeOps hs)
  case disTime => exact .next (.at_endDischarge hs)
  case fail => exact .next (.at_sendFail hs)
  case heartbeatSend => exact .next (.at_heartbeatSend hs)
  case heartbeatReceive => exact .next (.at_ite (.at_heartbeatReceive hs) hs)
  case pathDown => exact .next (.at_ite (.at_pathDown hs) hs)
  case snapFragment => exact .next (.at_ite (.at_snapFragment hs) hs)
  case roleWindow => exact .next (.at_roleWindow hs)
  case takeFail => exact .next (.at_takeFails hs)
  case takeover => exact .next (.at_takeover hs)
  case outerBoundary => exact .next (.at_outerBoundary hs)
  case confirmTime => exact .next (.same (confirmTime_params ..) hs)
  case saveSettings =>
    exact .next (.at_serveLong (fun _ _ hs => .at_ite_fst hs <| .same (saveBegin_params ..) <| .same (allocHandle_params ..) hs) hs)
  case settingsSaved => exact .next (.at_settingsSaved hs)
  case setParam | setParamControl => exact .next (.at_setParam hs)
  case getParam => exact .next (.at_getParam hs)
  case testGo | modeWrite | setValid | timeLatch | comparatorArm | comparatorDisarm | phaseStep | refSelWrite
      | refModeWrite | ybusSurvey | goCold | take | release | confirm | captureEnable | captureStop | queueDisable =>
    exact .next (.at_writeWords hs)
  case rgtWrite => exact .next (.at_withLength (fun _ hs => .at_serveShort (fun _ hs => .same (rgtWrite_params ..) hs) hs) hs)
  case rgtRead => exact .next (.at_serveShort (fun _ hs => .same (rgtRead_params ..) hs) hs)
  case txnOpen => exact .next (.at_serve (fun _ _ hs => .at_ite_fst hs <| .at_mk <| .same (allocHandle_params ..) hs) hs)
  case txnPrepare => exact .next (.at_serveShort (fun _ hs => .at_onTxn (fun _ _ hs => .at_ite_fst (.at_mk hs) hs) hs) hs)
  case prepared => exact .next (.at_prepared hs)
  case txnCommit => exact .next (.at_serveShort (fun _ hs => .at_onTxn (fun _ _ hs => .at_ite_fst hs <| .at_mk hs) hs) hs)
  case txnAbort => exact .next (.at_serveShort (fun _ hs => .at_onTxn (fun _ _ hs => .at_abortTxn hs) hs) hs)
  case txnTimeout => exact .next (.at_txnTimeout hs)
  case controlStrobe => exact .next (.at_controlStrobe (fun _ hs => .at_ctlSwitch hs) hs)
  case txnSwitch => exact .next (by split; exacts [.at_ite (.at_txnSwitch hs) hs, hs])
  case txnGroupSwitch => exact .next (.at_txnGroupSwitch hs)
  case resetNLow => exact .next (.at_resetPin hs)
  case externalResetEntry => exact .next (.at_resetEntry hs)
  case powerUp => exact .next (.at_systemReset)
  case reset => exact .next (.at_serveShort (fun _ hs => .at_resetCommand hs) hs)
  case supervisorReset => exact .next (.at_supervisorReset hs)
  case supplyLow => exact .next (.at_supplyLow hs)
  case supplyLoss => exact .next (.at_supplyLoss hs)
  case powerFailRecord => exact .next (.same (powerFailRecord_params ..) hs)
  case corePowerDown => exact .next (.same (corePowerDown_params ..) hs)
  case mcRelayDrop => exact .next (.at_mcRelayDrop hs)
  case brkDelay => exact .next (.at_brkDelay hs)
  case jtagInstruction => exact .next (.same (jtag_params ..) hs)
  case fwUpdate => exact .next (.at_withLength (fun _ hs => .at_serveLong (fun _ _ hs => .same (fwUpdate_params ..) hs) hs) hs)
  case fwData => exact .next (.at_withLength (fun _ hs => .at_serveShort (fun _ hs => .at_fwData hs) hs) hs)
  case fwActivate => exact .next (.at_serveLong (fun _ _ hs => .at_fwActivate hs) hs)
  case fwActivateHitless => exact .next (.at_serveLong (fun _ _ hs => .same (fwActivateHitless_params ..) hs) hs)
  case hitlessReady => exact .next (.at_hitlessReady hs)
  case hitlessSwap => exact .next (.same (hitlessSwap_params ..) hs)
  case tansyRestart => exact .next (.at_tansyRestart hs)
  case tansyRestartDone => exact .next (.at_tansyRestartDone hs)
  case debugUnlock => exact .next (.at_withLength (fun _ hs => .at_serveShort (fun _ hs => .at_debugUnlock hs) hs) hs)
  case attest => exact .next (.at_withLength (fun _ hs => .at_serveShort (fun _ hs => .same (attest_params ..) hs) hs) hs)
  case selfTest => exact .next (.at_serveLong (fun _ _ hs => .same (selfTest_params ..) hs) hs)
  case selfTestComplete => exact .next (.at_selfTestComplete hs)
  case handleQuery => exact .next (.at_serveShort (fun _ hs => .same (handleQuery_params ..) hs) hs)
  case handleCancel => exact .next (.at_serveShort (fun _ hs => .at_handleCancel hs) hs)
  case descriptorSend => exact .next (.same (descriptorSend_params ..) hs)
  case descriptorReceive => exact .next (.at_descriptorReceive hs)
  case grpMemberLost => exact .next (.at_memberLost hs)
  case groupAction =>
    exact .next (.at_withLength
    (fun _ hs =>
      .at_serveLong (fun _ _ hs => .at_ite_fst (.same (beginAction_params ..) <| .same (allocHandle_params ..) hs) hs) hs)
    hs)
  case groupDecide => exact .next (.at_groupDecide hs)
  case groupConfirm => exact .next (.at_groupConfirm hs)
  case carrierMark => exact .next (.at_ilvAtMark <| .same (carrierMark_params ..) hs)
  case groupApply => exact .next (.at_groupApply hs)
  case islandStopped => exact .next (.at_islandStopped hs)
  case restartMax => exact .next (.at_restartMax hs)
  case islandReset => exact .next (.at_islandReset hs)
  case pllmLocked => exact .next (.at_pllmLocked hs)
  case fastStartLoaded => exact .next (.at_fastStartLoaded hs)
  case settingsLoaded => exact .next (.at_settingsLoaded hs)
  case tansyExtRunning => exact .next (.at_tansyExtRunning hs)
  case stop | pulseBlock | asc | tripGroup => exact .next (.at_urgent hs)
  case packetRead => exact .next (.same (packetRead_params ..) hs)
  case windowRead => exact .next (.same (windowRead_params ..) hs)
  case windowWrite => exact .next (.same (windowWrite_params ..) hs)
  case eventsLost => exact .next (.at_eventsLost hs)

/-- A packet's payload stands for a command of the table that is no packet write. -/
theorem hostCommand_eq_exec (op : Nat) (e : Env) (pl : List Byte) (s : State) :
    ∃ c : Instr, (∀ r b, c ≠ .packetWrite r b) ∧ hostCommand op e pl s = exec c s := by
  unfold hostCommand
  split
  case h_1 => exact ⟨.planeEnable e (planePay pl), nofun, rfl⟩
  case h_2 => exact ⟨.planeArm e (planePay pl), nofun, rfl⟩
  case h_3 => exact ⟨.planeStart e (planePay pl), nofun, rfl⟩
  case h_4 => exact ⟨.planeStop e (planePay pl), nofun, rfl⟩
  case h_5 => exact ⟨.planeDisarm e (planePay pl), nofun, rfl⟩
  case h_6 => exact ⟨.planeDisable e (planePay pl), nofun, rfl⟩
  case h_7 => exact ⟨.clearSafe e (planePay pl), nofun, rfl⟩
  case h_8 => exact ⟨.testEnter e (planePay pl), nofun, rfl⟩
  case h_9 => exact ⟨.testExit e (planePay pl), nofun, rfl⟩
  case h_10 => exact ⟨.gfmSync e (planePay pl), nofun, rfl⟩
  case h_11 => exact ⟨.dcPrecharge e (planePay pl), nofun, rfl⟩
  case h_12 => exact ⟨.dcDischarge e (planePay pl), nofun, rfl⟩
  case h_13 => exact ⟨.setParamControl e (entriesPay pl) (fieldAt pl 2 2), nofun, rfl⟩
  case h_14 => exact ⟨.acqTrigger e, nofun, rfl⟩
  case h_15 => exact ⟨.acqRelease e (slotPay pl), nofun, rfl⟩
  case h_16 => exact ⟨.replayStart e, nofun, rfl⟩
  case h_17 => exact ⟨.replayStop e, nofun, rfl⟩
  case h_18 => exact ⟨.stepBack e, nofun, rfl⟩
  case h_19 => exact ⟨.handleQuery e (fieldAt pl 0 4), nofun, rfl⟩
  case h_20 => exact ⟨.handleCancel e (fieldAt pl 0 4), nofun, rfl⟩
  case h_21 => exact ⟨.getParam e ((List.range (fieldAt pl 0 2)).map fun i => fieldAt pl (2 + 2 * i) 2), nofun, rfl⟩
  case h_22 => exact ⟨.setParam e (entriesPay pl) (fieldAt pl 2 2), nofun, rfl⟩
  case h_23 => exact ⟨.txnOpen e, nofun, rfl⟩
  case h_24 => exact ⟨.txnPrepare e, nofun, rfl⟩
  case h_25 => exact ⟨.txnCommit e (fieldAt pl 0 8), nofun, rfl⟩
  case h_26 => exact ⟨.txnAbort e, nofun, rfl⟩
  case h_27 => exact ⟨.selfTest e (fieldAt pl 0 4), nofun, rfl⟩
  case h_28 => exact ⟨.reset e (fieldAt pl 0 1) (fieldAt pl 1 3), nofun, rfl⟩
  case h_29 => exact ⟨.saveSettings e, nofun, rfl⟩
  case h_30 => exact ⟨.fwUpdate e (fieldAt pl 0 4) (fieldAt pl 4 1) (fieldAt pl 5 3) (pl.drop 8), nofun, rfl⟩
  case h_31 =>
    split
    · exact ⟨.fwActivateHitless e (fieldAt pl 1 7) (fieldAt pl 8 8), nofun, rfl⟩
    · exact ⟨.fwActivate e (fieldAt pl 0 1 + fieldAt pl 1 7) (fieldAt pl 8 8), nofun, rfl⟩
  case h_32 => exact ⟨.attest e pl, nofun, rfl⟩
  case h_33 => exact ⟨.debugUnlock e pl, nofun, rfl⟩
  case h_34 => exact ⟨.groupAction e pl, nofun, rfl⟩
  case h_35 => exact ⟨.rgtWrite e (dataPay pl), nofun, rfl⟩
  case h_36 => exact ⟨.rgtRead e (prePay pl), nofun, rfl⟩
  case h_37 => exact ⟨.acqRead e (readPay pl), nofun, rfl⟩
  case h_38 => exact ⟨.acqArchive e (slotPay pl), nofun, rfl⟩
  case h_39 => exact ⟨.replayLoad e (slotPay pl) (fieldAt pl 4 4), nofun, rfl⟩
  case h_40 => exact ⟨.replayData e (dataPay pl), nofun, rfl⟩
  case h_41 => exact ⟨.fwData e (dataPay pl), nofun, rfl⟩
  case h_42 => exact ⟨.frameSend e (framePay pl), nofun, rfl⟩

namespace Canonical

variable {s : State}

theorem at_takePacket {b : List Byte} (hs : Canonical s) : Canonical (takePacket b s) := by
  unfold takePacket
  extract_lets st op s1 u
  refine .at_ite (.same (spiRefuse_params ..) <| .at_ite (.at_count hs) hs) (.at_ite (.at_urgent hs) ?_)
  split
  · obtain ⟨c, hne, he⟩ := hostCommand_eq_exec op (envOf b) (payloadOf b) s
    exact exec_canonical_of_ne hs hne _ (he ▸ ‹_›)
  · exact hs

theorem at_packetWrite {ready : Bool} {b : List Byte} (hs : Canonical s) : Canonical (packetWrite ready b s) := by
  unfold packetWrite
  extract_lets s1 c
  have h1 : Canonical s1 := .same (miso_params ..) <| .same (updHost_params ..) hs
  exact .at_ite (.same (misoOnes_params ..) hs) <|
    .at_ite (.at_ite (.at_takePacket h1) h1) <| .same (updHost_params ..) <| .at_ite (.at_decoderAlone h1) h1

end Canonical

theorem exec_canonical {s : State} (c : Instr) (hs : Canonical s) : CanonicalNext (exec c s) := by
  by_cases h : ∃ r b, c = .packetWrite r b
  · obtain ⟨r, b, rfl⟩ := h
    exact .next (.at_packetWrite hs)
  · exact exec_canonical_of_ne hs fun r b hc => h ⟨r, b, hc⟩

theorem step_canonical {s : State} (hs : Canonical s) : CanonicalNext (step s) := by
  unfold step
  split
  · exact .next (.at_idle hs)
  · exact exec_canonical _ (.at_mk hs)

/-- Settles O4: every function that writes the parameter store writes it with `set`, which keeps the form, and the commands of
the table are made of those functions and of functions that leave the store alone. -/
theorem everyStepKeepsParamsCanonical : Obligations.EveryStepKeepsParamsCanonical := by
  unfold Obligations.EveryStepKeepsParamsCanonical
  exact fun s t hs => step_canonical hs t

end Sys2Proof.Machine
end

section
/-! PROOFS. What one step is, and two frames that a takeover's and a breaker's row do not keep. Settles O1; refutes O59 and O60. -/

namespace Sys2Proof.Machine
open Sys2Proof

/-- Settles O1: the two branches of `step`, and of `idle` in the second. -/
theorem stepRunsTheFrontCommand : Obligations.StepRunsTheFrontCommand := by
  refine ⟨fun c l s hq => ?_, fun s hq hup => ?_, fun s hq hup hgone => ?_⟩
  · simp only [step, hq]
  · simp [step, hq, idle, hup]
  · exact ⟨powerLost s, by simp [step, hq, idle, hup, hgone], rfl, rfl, rfl, rfl⟩

/-- An ACTIVE module with plane G in SAFE and the breaker to be opened by BRK_DELAY (PROT.BRK_CTRL bit 0). -/
def breakerWaits : State := { params := [(protBrkCtrl, 1)], planes := { g := { st := .safe } }, red := { role := 1 } }

/-- BRK_DELAY asks an ACTIVE module for FAIL with cause 0x03 (R188, R373). -/
theorem exec_brkDelay_breakerWaits : ∃ t, exec .brkDelay breakerWaits = .next t ∧ t.red.failReq = some 3 := ⟨_, rfl, rfl⟩

/-- Refutes O59: BRK_DELAY writes the FAIL request of the pair, which its group does not name. -/
theorem not_frameOfServiceRows : ¬ Obligations.FrameOfServiceRows := by
  unfold Obligations.FrameOfServiceRows
  intro h
  obtain ⟨t, ht, hreq⟩ := exec_brkDelay_breakerWaits
  have hframe := h .brkDelay breakerWaits t ht
  dsimp only at hframe
  have hred : t.red = breakerWaits.red := by rw [hframe]
  rw [hred] at hreq
  contradiction

/-- A module in TAKING_OVER that arms plane G for the takeover, under no handle of the host. -/
def armsForTakeover : State := { planes := { g := { arming := some 0 } }, isl := { sys := true }, red := { role := 4 } }

/-- The arming that runs out ends the takeover with TAKE_FAIL, and the module is ACTIVE (R375). -/
theorem exec_planeArmTimeout_armsForTakeover :
    ∃ t, exec (.planeArmTimeout .g) armsForTakeover = .next t ∧ t.red.role = 1 := ⟨_, rfl, by decide +kernel⟩

/-- Refutes O60: where the arming that runs out is a takeover's, the role changes, which the group of PLANE_ARM's end does not
name. -/
theorem not_frameOfPlantRows : ¬ Obligations.FrameOfPlantRows := by
  unfold Obligations.FrameOfPlantRows
  intro h
  obtain ⟨t, ht, hrole⟩ := exec_planeArmTimeout_armsForTakeover
  obtain ⟨-, hframe⟩ := h (.planeArmTimeout .g) armsForTakeover t ht
  dsimp only at hframe
  have hred : t.red = armsForTakeover.red := by rw [hframe]
  rw [hred] at hrole
  contradiction

end Sys2Proof.Machine
end

section
/-! PROOFS. Writes of RED.CTRL and FW.CTRL, and the confirmation of a TRIAL slot (R367, R373, R374, R375, R390, R398). Settles O31
and O32. -/

namespace Sys2Proof.Machine
open Sys2Proof

/-! ## Confirmation (R390, R398) -/

theorem slotOf_commitStaged (n : Nat) (s : State) : slotOf (commitStaged s) n = slotOf s n := rfl

theorem slotOf_updSlotFw_same (n : Nat) (f : FwSlot → FwSlot) (s : State) : slotOf (updSlotFw n f s) n = f (slotOf s n) := by
  by_cases hn : n = 0 <;> simp [slotOf, updSlotFw, hn]

/-- A running slot in TRIAL. -/
abbrev Trial (n : Nat) (s : State) : Prop := s.fw.run = some n ∧ (slotOf s n).st = 2

/-- The confirmation of a TRIAL slot, in the firmware store alone. -/
theorem confirm_trial {n : Nat} {s : State} (h : Trial n s) : (slotOf (confirm s) n).st = 3 ∧
    (confirm s).fw.secVer = max s.fw.secVer (fieldAt (manifest (slotOf s n)) 8 4) := by
  obtain ⟨hr, ht⟩ := h
  simp only [confirm, hr, ht, if_true]
  refine ⟨?_, by by_cases hn : n = 0 <;> simp [commitStaged, updSlotFw, hn]⟩
  rw [slotOf_commitStaged]
  exact congrArg FwSlot.st (slotOf_updSlotFw_same n (fun x => { x with st := 3 }) s)

@[simp] theorem confirm_planes (s : State) : (confirm s).planes = s.planes := by
  unfold confirm
  (repeat' split) <;> rfl

theorem confirmTime_on {s : State} (h : par s fwConfirmTime ≠ 0) (hs : s.fw.stopped = false) : confirmTime s = confirm s := by
  simp [confirmTime, h, hs]

theorem confirmTime_off {s : State} (hs : s.fw.stopped = true) : confirmTime s = s := by simp [confirmTime, hs]

/-! ## The write-only words of the pair and of the firmware -/

theorem row_redCtrl : RowIs redCtrl .live .wo := by decide +kernel
theorem row_fwCtrl : RowIs fwCtrl .live .wo := by decide +kernel

theorem woWritten_redCtrl {v : Nat} (s : State) (h : v ≠ 0) : woWritten redCtrl v s = redCtrlWritten v s.red.aon s := by
  rw [woWritten, if_neg (by decide), if_neg h, if_neg (by decide), if_neg (by decide), if_neg (by decide), if_pos rfl]

theorem woWritten_fwCtrl {v : Nat} (s : State) (h : v ≠ 0) : woWritten fwCtrl v s = confirm s := by
  rw [woWritten, if_neg (by decide), if_neg h, if_neg (by decide), if_neg (by decide), if_neg (by decide), if_neg (by decide),
    if_pos rfl]

/-- CONFIRM, written, confirms the running slot on the state after acceptance. -/
theorem exec_confirm {e : Env} {s : State} (h : Writes e [(fwCtrl, 1)] s) :
    exec (.confirm e) s = .next (answer 2 0x0101 e stOk 0 [] (confirm (acceptSeq e s))) :=
  congrArg Host.Outcome.next ((writeWords_wo h row_fwCtrl).trans (by rw [woWritten_fwCtrl _ (by decide)]))

/-- RED.CTRL, written, has its effect on the state after acceptance. -/
theorem writeWords_redCtrl {e : Env} {v : Word} {s : State} (h : Writes e [(redCtrl, v)] s) (hv : v ≠ 0) :
    writeWords e [(redCtrl, v)] s = answer 2 0x0101 e stOk 0 [] (redCtrlWritten v.toNat s.red.aon (acceptSeq e s)) := by
  rw [writeWords_wo h row_redCtrl, woWritten_redCtrl _ (toNat_ne_zero hv), acceptSeq_red]

theorem trial_acceptSeq {n : Nat} {s : State} (e : Env) (h : Trial n s) : Trial n (acceptSeq e s) := by
  simpa only [Trial, acceptSeq_fw, slotOf_congr (acceptSeq_fw e s)] using h

/-- Settles O32: CONFIRM and CONFIRM_TIME are `confirm`; the last conjunct of the manifest's check fails. -/
theorem confirmRaisesTheSecurityVersion : Obligations.ConfirmRaisesTheSecurityVersion := by
  refine ⟨fun n s hr _ ht => ⟨fun e hw => ?_, fun hc hs => ?_⟩, fun m s hv => ?_⟩
  · have hconf := confirm_trial (trial_acceptSeq e ⟨hr, ht⟩)
    refine ⟨_, exec_confirm hw, ?_⟩
    simpa only [slotOf_congr (answer_fw ..), answer_fw, acceptSeq_fw, slotOf_congr (acceptSeq_fw e s)] using hconf
  · exact ⟨_, rfl, by rw [confirmTime_on hc hs]; exact confirm_trial ⟨hr, ht⟩⟩
  · simp [manifestOk, Nat.not_le.2 hv]

/-! ## RED.CTRL (R367, R373 to R375) -/

theorem need_eq_ok {b : Bool} {st : Nat} (hst : st ≠ stOk) : need b st = stOk ↔ b = true := by
  cases b <;> simp [need, hst]

/-- The first status that fails is OK where none fails. -/
theorem firstFail_eq_ok {l : List Nat} : firstFail l = stOk ↔ ∀ x ∈ l, x = stOk := by
  unfold firstFail
  cases h : l.find? fun st => decide (st ≠ stOk) with
  | none => simpa using h
  | some x =>
    obtain ⟨hx, hm⟩ : x ≠ stOk ∧ x ∈ l := ⟨by simpa using List.find?_some h, List.mem_of_find?_eq_some h⟩
    simpa [hx] using ⟨x, hm, hx⟩

/-- A word that is written passes the rules of the state it meets. -/
theorem stateLaw_of_writes {e : Env} {id : Nat} {v : Word} {s : State} (h : Writes e [(id, v)] s) :
    stateLaw (acceptSeq e s) id v.toNat = true := by
  obtain ⟨-, -, -, hp⟩ := h
  have hentry : entryStatus .config (acceptSeq e s) { id := id, val := v } = stOk := by
    by_contra hbad
    simp [paramFailure, firstBad, hbad] at hp
  have hstate : stateStatus (acceptSeq e s) id v.toNat = stOk := firstFail_eq_ok.1 hentry _ (by simp)
  have hlaw := firstFail_eq_ok.1 hstate _ (List.mem_cons_self ..)
  rw [need_eq_ok (by decide), Bool.and_eq_true] at hlaw
  exact hlaw.1

theorem stateLaw_redCtrl (s : State) (v : Nat) : stateLaw s redCtrl v = redCtrlFits s v := rfl

/-- TAKE is written by a module in WARM (R374). -/
theorem role_of_take {e : Env} {s : State} (h : Writes e [(redCtrl, 2)] s) : s.red.role = 2 := by
  have hlaw := stateLaw_of_writes h
  rw [stateLaw_redCtrl] at hlaw
  simp [redCtrlFits, Nat.testBit] at hlaw
  exact hlaw.1

/-- The role and the takeover are as they were. -/
theorem giveArm_red (p : Plane) (s : State) : (giveArm p s).1.red = s.red := by
  have h1 : (doEnable p s).red = s.red := by simp [doEnable, rebinLane, startCounter]
  unfold giveArm
  extract_lets s1
  have hs1 : s1.red = s.red := by
    unfold s1
    split
    · exact h1
    · rfl
  split
  · exact hs1
  · split <;> simp [hs1]

/-- A step of a takeover that fails leaves the module ACTIVE, with TAKE_FAIL raised (R375). -/
theorem takeFails_taking {s : State} (k : Nat) (h : s.red.role = 4) :
    (takeFails k s).red.role = 1 ∧ (takeFails k s).red.take = none ∧ parBit (takeFails k s) redEvents 4 = true := by
  rw [takeFails, if_pos h, raiseFlag_red]
  exact ⟨rfl, rfl, parBit_raiseFlag _ _ _ _ (by decide) (by decide)⟩

/-- The planes are given, or the takeover ends with TAKE_FAIL. -/
def Given (s : State) : Prop :=
  s.red.role = 4 ∧ (∀ k, s.red.take = some k → k.given = true) ∨
    s.red.role = 1 ∧ s.red.take = none ∧ parBit s redEvents 4 = true

theorem givePlanes_given {x : Take} {s : State} (c : Nat) (hr : s.red.role = 4) (ht : s.red.take = some x) :
    Given (givePlanes c s) := by
  unfold givePlanes
  split
  case h_1 hn => simp [ht] at hn
  case h_2 =>
    extract_lets s1 b d g
    have hs1 : s1.red.role = 4 ∧ ∀ k, s1.red.take = some k → k.given = true := by
      unfold s1
      split <;> simp [restoreSetpoints, hr]
    have hg : g.1.red = s1.red := by rw [giveArm_red, giveArm_red, giveArm_red]
    split
    · exact .inl (by rw [hg]; exact hs1)
    · exact .inr (takeFails_taking 4 (by rw [hg]; exact hs1.1))

/-- A takeover from WARM gives the planes at once (R374). -/
theorem beginTake_given {s : State} (c : Nat) (hr : s.red.role = 2) (hp : par s redHashPolicy ≠ 1) : Given (beginTake c s) := by
  have hwarm : beginTake c s = givePlanes c (updRed (fun r => { r with
      role := 4, failSeen := false, split := false, coldHash := none
      take := some { cold := false, dark := false, c0 := c } }) s) := by
    simp [beginTake, hp, hr]
  rw [hwarm]
  exact givePlanes_given c rfl rfl

theorem given_answer {cls op st h : Nat} {e : Env} {pl : List Byte} {s : State} (hs : Given s) :
    Given (answer cls op e st h pl s) := by
  simpa only [Given, answer_red, parBit_congr (answer_params ..)] using hs

theorem redCtrlWritten_goCold (c : Nat) (s : State) : redCtrlWritten 1 c s = powerDownCold s := rfl
theorem redCtrlWritten_take (c : Nat) (s : State) : redCtrlWritten 2 c s = beginTake c s := rfl
theorem redCtrlWritten_release (c : Nat) (s : State) : redCtrlWritten 4 c s = requestFail 4 s := rfl

/-- Settles O31: the two writes and CONFIRM_TIME are the effect of their one word, on the state after acceptance. -/
theorem redundancyAndConfirmWrites : Obligations.RedundancyAndConfirmWrites := by
  refine ⟨fun e s => ⟨fun hw => ?cold, fun hw hp => ?take, fun hw hr hf => ?release⟩,
    fun n s hr _ ht => ⟨fun e hw => ?confirm, fun hc hs => ?time⟩, fun s hs => congrArg Host.Outcome.next (confirmTime_off hs)⟩
  case cold =>
    refine ⟨_, congrArg Host.Outcome.next (writeWords_redCtrl hw (by decide)), ?_⟩
    rw [show (1 : Word).toNat = 1 from rfl, redCtrlWritten_goCold]
    refine ⟨by simp [powerDownCold], by simp [powerDownCold], by simp [powerDownCold], by simp [powerDownCold],
      by simp [powerDownCold], by simp [powerDownCold], by simp [powerDownCold], by simp [powerDownCold], fun p => ?_,
      by simp [powerDownCold], by simp [powerDownCold]⟩
    rw [lane_congr (answer_planes ..)]
    cases p <;> rfl
  case take =>
    refine ⟨_, congrArg Host.Outcome.next (writeWords_redCtrl hw (by decide)), lastKept_answer .., given_answer ?_⟩
    rw [show (2 : Word).toNat = 2 from rfl, redCtrlWritten_take]
    exact beginTake_given _ (by simpa using role_of_take hw) (by rwa [par_acceptSeq _ _ (by decide)])
  case release =>
    refine ⟨_, congrArg Host.Outcome.next (writeWords_redCtrl hw (by decide)), lastKept_answer .., ?_⟩
    rw [show (4 : Word).toNat = 4 from rfl, redCtrlWritten_release]
    simp [requestFail, hr, hf, updRed]
  case confirm =>
    obtain ⟨hst, hv⟩ := confirm_trial (trial_acceptSeq e ⟨hr, ht⟩)
    refine ⟨_, exec_confirm hw, lastKept_answer .., by rwa [slotOf_congr (answer_fw ..)], ?_, by simp⟩
    rw [answer_fw, hv, acceptSeq_fw]
    exact le_max_left ..
  case time =>
    obtain ⟨hst, hv⟩ := confirm_trial ⟨hr, ht⟩
    exact ⟨_, congrArg Host.Outcome.next (confirmTime_on hc hs), hst, hv ▸ le_max_left .., by simp, by simp⟩

end Sys2Proof.Machine
end

section
/-! PROOFS. Heartbeats and paths (R368, R369, R372). Settles O33. -/

namespace Sys2Proof.Machine
open Sys2Proof

/-! ## The link's functions leave the planes alone -/

@[simp] theorem ite_planes {c : Prop} [Decidable c] (a b : State) :
    (if c then a else b).planes = if c then a.planes else b.planes := by split <;> rfl

section
variable (s : State)

@[simp] theorem bothLinks_planes (kind : Nat) (b : List Byte) : (bothLinks kind b s).planes = s.planes := rfl

@[simp] theorem sendHb_planes : (sendHb s).planes = s.planes := by unfold sendHb; split <;> rfl

@[simp] theorem sendFragment_planes (da : Nat) : (sendFragment da s).planes = s.planes := by unfold sendFragment; split <;> rfl

@[simp] theorem calibrate_planes (tick : Bool) (n aon : Nat) : (calibrate tick n aon s).planes = s.planes := by
  unfold calibrate
  split <;> simp

@[simp] theorem updPath_planes (n : Nat) (f : Path → Path) : (updPath n f s).planes = s.planes := rfl

@[simp] theorem pathGood_planes (n : Nat) : (pathGood n s).planes = s.planes := by simp [pathGood]

@[simp] theorem takeHb_planes (h : Hb) : (takeHb h s).planes = s.planes := by simp [takeHb]

end

/-! ## Sending (R368, R369) -/

@[simp] theorem bothLinks_wire (kind : Nat) (b : List Byte) (s : State) : (bothLinks kind b s).wire =
    s.wire ++ [.vorula 0 kind (frameOf kind b), .vorula 1 kind (frameOf kind b)] := by simp [bothLinks]

@[simp] theorem bothLinks_red (kind : Nat) (b : List Byte) (s : State) : (bothLinks kind b s).red = s.red := rfl

/-- A calibration writes its own fields and RED.AON_RATE. -/
theorem calibrate_view (tick : Bool) (n aon : Nat) (s : State) :
    (∃ c k, (calibrate tick n aon s).red = { s.red with cal := c, calibrated := k }) ∧
      (calibrate tick n aon s).wire = s.wire ∧ (calibrate tick n aon s).isl = s.isl ∧ (calibrate tick n aon s).pins = s.pins ∧
      ∀ j, j ≠ redAonRate → par (calibrate tick n aon s) j = par s j := by
  unfold calibrate
  dsimp only
  split
  · split
    · split
      · exact ⟨⟨_, _, rfl⟩, setPar_wire .., setPar_isl .., setPar_pins .., fun j hj => par_setPar_other _ _ hj⟩
      · exact ⟨⟨_, _, rfl⟩, rfl, rfl, rfl, fun _ _ => rfl⟩
    · exact ⟨⟨_, _, rfl⟩, rfl, rfl, rfl, fun _ _ => rfl⟩
  · exact ⟨⟨_, _, rfl⟩, rfl, rfl, rfl, fun _ _ => rfl⟩

/-- The state in which a slot's frames are made: the slot's count of CLK_AON, and a calibration while ISL_PRT runs. -/
def slotBegun (aon edge : Nat) (s : State) : State :=
  let s1 := updRed (fun x => { x with aon := aon }) s
  if s1.isl.prt then calibrate true 1 edge s1 else s1

theorem heartbeatSend_eq (da aon edge : Nat) {s : State} (h : s.isl.aon = true) :
    heartbeatSend da aon edge s = sendFragment da (sendHb (slotBegun aon edge s)) := by
  simp [heartbeatSend, betony, h, slotBegun]

theorem slotBegun_view (aon edge : Nat) (s : State) :
    (∃ c k, (slotBegun aon edge s).red = { s.red with aon := aon, cal := c, calibrated := k }) ∧
      (slotBegun aon edge s).wire = s.wire ∧ (slotBegun aon edge s).isl = s.isl ∧ (slotBegun aon edge s).pins = s.pins ∧
      ∀ j, j ≠ redAonRate → par (slotBegun aon edge s) j = par s j := by
  unfold slotBegun
  dsimp only
  split
  · exact calibrate_view ..
  · exact ⟨⟨_, _, rfl⟩, rfl, rfl, rfl, fun _ _ => rfl⟩

@[simp] theorem slotBegun_planes (aon edge : Nat) (s : State) : (slotBegun aon edge s).planes = s.planes := by
  unfold slotBegun
  dsimp only
  split <;> simp

@[simp] theorem slotBegun_prt (aon edge : Nat) (s : State) : (slotBegun aon edge s).prt = s.prt := by
  unfold slotBegun
  dsimp only
  split <;> simp

/-- RED.AON_RATE is no hashed parameter (R380). -/
theorem redAonRate_not_hashed : ∀ id ∈ hashedIds, id ≠ redAonRate := by decide

theorem cfgHash_congr {s t : State} (h : ∀ id ∈ hashedIds, par t id = par s id) : cfgHash t = cfgHash s := by
  unfold cfgHash
  rw [List.flatMap_congr fun id hid => by rw [h id hid]]

theorem ownHash_slotBegun (aon edge : Nat) (s : State) : ownHash (slotBegun aon edge s) = ownHash s := by
  obtain ⟨⟨c, k, hred⟩, -, -, -, hpar⟩ := slotBegun_view aon edge s
  rw [ownHash, hred, cfgHash_congr fun id hid => hpar id (redAonRate_not_hashed id hid), ownHash]

theorem healthWord_slotBegun (aon edge : Nat) (s : State) : healthWord (slotBegun aon edge s) = healthWord s := by
  obtain ⟨-, -, hisl, hpins, hpar⟩ := slotBegun_view aon edge s
  simp only [healthWord, gLaw, parBits, hisl, hpins, lane_congr (slotBegun_planes aon edge s),
    hpar _ (show protBrkCtrl ≠ _ by decide), hpar _ (show gfmState ≠ _ by decide)]
  rfl

/-- The HB of a module, as it is now. -/
def hbBody (s : State) : List Byte :=
  le 1 s.red.role ++ le 2 s.red.hbSeq ++ le 2 (healthWord s) ++ le 4 s.red.sent ++ (le 16 (ownHash s)).take 4

theorem sendHb_none {s : State} (h : s.red.failing = none) :
    sendHb s = bothLinks 1 (hbBody s) (updRed (fun x => { x with hbSeq := (x.hbSeq + 1) % 65536 }) s) := by
  simp [sendHb, h, hbBody]

theorem sendHb_some {c : Nat} {s : State} (h : s.red.failing = some c) : sendHb s = bothLinks 3 (le 1 c ++ le 2 s.red.hbSeq) s := by
  simp [sendHb, h, failFrame]

theorem hbBody_slotBegun (aon edge : Nat) (s : State) : hbBody (slotBegun aon edge s) = hbBody s := by
  obtain ⟨⟨c, k, hred⟩, -⟩ := slotBegun_view aon edge s
  simp only [hbBody, healthWord_slotBegun, ownHash_slotBegun, hred]

/-- At most one fragment on both links follows. -/
theorem sendFragment_wire (da : Nat) (s : State) : ∃ l, (sendFragment da s).wire = s.wire ++ l := by
  unfold sendFragment
  split
  · exact ⟨[], by simp⟩
  · exact ⟨_, by simp; rfl⟩

theorem sendFragment_none (da : Nat) {s : State} (h : s.red.outSnap = none) : sendFragment da s = s := by simp [sendFragment, h]

/-- A snapshot under way gives one fragment, and there are more (R370). -/
theorem sendFragment_next (da : Nat) {i : Nat} {b : List Byte} {s : State} (h : s.red.outSnap = some (i, b)) (hi : i < 7) :
    (sendFragment da s).red.outSnap = some (i + 1, b) ∧ (sendFragment da s).wire.length = s.wire.length + 2 := by
  simp [sendFragment, h, hi]

theorem sendFragment_hbSeq (da : Nat) (s : State) : (sendFragment da s).red.hbSeq = s.red.hbSeq := by
  unfold sendFragment
  split <;> rfl

/-! ## Receiving (R368, R372) -/

theorem pathOf_congr {s t : State} (h : t.red = s.red) (n : Nat) : pathOf t n = pathOf s n := by simp only [pathOf, h]

theorem pathOf_updPath (n : Nat) (f : Path → Path) (s : State) : pathOf (updPath n f s) n = f (pathOf s n) := by
  by_cases hn : n = 0 <;> simp [pathOf, updPath, hn]

theorem onLink_lt {n : Nat} (h : n < 2) (f : State → State) (s : State) : onLink n f s = .next (f s) := by simp [onLink, h]

@[simp] theorem countMisses_zero (n : Nat) (s : State) : countMisses n 0 s = s := rfl

@[simp] theorem countN_red (id n : Nat) (s : State) : (countN id n s).red = s.red := by
  induction n generalizing s with
  | zero => rfl
  | succ n ih => exact (ih _).trans (count_red id s)

@[simp] theorem splitCheck_planes (s : State) : (splitCheck s).planes = s.planes := by simp [splitCheck]

/-- The check for SPLIT leaves the paths and what is raised. -/
theorem splitCheck_pair (s : State) : (∀ n, pathOf (splitCheck s) n = pathOf s n) ∧
    ∀ c, parBit s redEvents c = true → parBit (splitCheck s) redEvents c = true := by
  unfold splitCheck
  dsimp only
  split
  · exact ⟨fun n => by rw [pathOf_congr (raiseFlag_red ..)]; rfl, fun c hc => parBit_raiseFlag_keeps 2 0 (by decide) hc⟩
  · exact ⟨fun _ => rfl, fun _ hc => hc⟩

/-- The fourth valid frame in a row brings a path up (R372). -/
theorem pathGood_up {n : Nat} {s : State} (hu : (pathOf s n).up = false) (hg : (pathOf s n).good = 3) :
    (pathOf (pathGood n s) n).up = true ∧ parBit (pathGood n s) redEvents 1 = true := by
  unfold pathGood
  extract_lets s1
  have hs1 : pathOf s1 n = { pathOf s n with miss := 0, good := 4 } := by simp [s1, pathOf_updPath, hg]
  rw [if_pos (by simp [hs1, hu])]
  refine ⟨?_, parBit_raiseFlag _ _ _ _ (by decide) (by decide)⟩
  rw [pathOf_congr (raiseFlag_red ..)]
  exact congrArg Path.up (pathOf_updPath n (fun p => { p with up := true }) s1)

/-- What an HB says is kept as the partner's word, and the paths are as they were. -/
theorem takeHb_view (h : Hb) (s : State) : (takeHb h s).red.partner = some h ∧ (∀ n, pathOf (takeHb h s) n = pathOf s n) ∧
    ∀ c, parBit s redEvents c = true → parBit (takeHb h s) redEvents c = true := by
  unfold takeHb
  extract_lets old own activeNow was agreed s1 s2
  have h1 : s1.red.partner = some h ∧ (∀ n, pathOf s1 n = pathOf s n) ∧
      ∀ c, parBit s redEvents c = true → parBit s1 redEvents c = true := ⟨rfl, fun _ => rfl, fun _ hc => hc⟩
  have hraise : ∀ (b : Nat) (u : State), (u.red.partner = some h ∧ (∀ n, pathOf u n = pathOf s n) ∧
      ∀ c, parBit s redEvents c = true → parBit u redEvents c = true) →
      ((raiseFlag redEvents b 0 u).red.partner = some h ∧ (∀ n, pathOf (raiseFlag redEvents b 0 u) n = pathOf s n) ∧
        ∀ c, parBit s redEvents c = true → parBit (raiseFlag redEvents b 0 u) redEvents c = true) := by
    rintro b u ⟨hp, hpath, hbit⟩
    exact ⟨by rwa [raiseFlag_red], fun n => (pathOf_congr (raiseFlag_red ..) n).trans (hpath n),
      fun c hc => parBit_raiseFlag_keeps b 0 (by decide) (hbit c hc)⟩
  have h2 : s2.red.partner = some h ∧ (∀ n, pathOf s2 n = pathOf s n) ∧
      ∀ c, parBit s redEvents c = true → parBit s2 redEvents c = true := by
    unfold s2
    split
    · exact hraise 7 s1 h1
    · exact h1
  split
  · exact hraise 8 s2 h2
  · exact h2

/-- What a received HB says. -/
def hbOf (b : List Byte) : Hb :=
  { role := fieldAt b 1 1, seq := fieldAt b 2 2, health := fieldAt b 4 2, snap := fieldAt b 6 4, hash := fieldAt b 10 4 }

/-- An HB whose CRC holds is taken after its frame has counted for the path (R368). -/
theorem heartbeatReceive_hb {n a : Nat} {b : List Byte} {s : State} (ha : s.isl.aon = true) (hf : frameIs 1 14 b = true) :
    ∃ k, heartbeatReceive n 0 a b s = takeHb (hbOf b) (pathGood n (if s.isl.prt then s else calibrate false k a s)) := by
  unfold heartbeatReceive
  rw [if_neg (by simp [betony, ha]), if_pos hf]
  exact ⟨_, rfl⟩

/-- A frame has one type. -/
theorem frameIs_kind {k n : Nat} {b : List Byte} (h : frameIs k n b = true) : fieldAt b 0 1 = k := by
  simp only [frameIs, Bool.and_eq_true, decide_eq_true_eq] at h
  exact h.1.1

theorem heartbeatReceive_fail {n a : Nat} {b : List Byte} {s : State} (ha : s.isl.aon = true) (hf : frameIs 3 4 b = true) :
    heartbeatReceive n 0 a b s = updRed (fun r => { r with failSeen := true, winHb := r.winHb || r.window }) (pathGood n s) := by
  have hn : frameIs 1 14 b ≠ true := fun h => absurd ((frameIs_kind hf).symm.trans (frameIs_kind h)) (by decide)
  unfold heartbeatReceive
  rw [if_neg (by simp [betony, ha]), if_neg hn, if_pos hf]
  rfl

/-- A calibration or none: the paths are as they were. -/
theorem pathOf_calibrated (n k a : Nat) (s : State) :
    pathOf (if s.isl.prt then s else calibrate false k a s) n = pathOf s n := by
  split
  · rfl
  · obtain ⟨⟨c, x, hred⟩, -⟩ := calibrate_view false k a s
    simp only [pathOf, hred]

/-- The eighth missed window in a row takes a path down (R372). -/
theorem countMisses_down {n m : Nat} {s : State} (hu : (pathOf s n).up = true) (hm : m ≠ 0) (h8 : 8 ≤ (pathOf s n).miss + m) :
    (pathOf (countMisses n m s) n).up = false ∧ parBit (countMisses n m s) redEvents 0 = true := by
  unfold countMisses
  rw [if_neg hm]
  extract_lets s1
  have hs1 : pathOf s1 n = { pathOf s n with miss := (pathOf s n).miss + m, good := 0 } :=
    (pathOf_congr (countN_red ..) n).trans (pathOf_updPath ..)
  rw [if_pos (by simp [hs1, hu, h8])]
  obtain ⟨hpath, hbit⟩ := splitCheck_pair (raiseFlag redEvents 0 n (updPath n (fun p => { p with up := false }) s1))
  refine ⟨?_, hbit 0 (parBit_raiseFlag _ _ _ _ (by decide) (by decide))⟩
  rw [hpath, pathOf_congr (raiseFlag_red ..)]
  exact congrArg Path.up (pathOf_updPath n (fun p => { p with up := false }) s1)

@[simp] theorem countMisses_planes (n m : Nat) (s : State) : (countMisses n m s).planes = s.planes := by
  simp [countMisses]

/-- Settles O33: a slot's frames are made in `slotBegun`, which leaves what an HB says; a received frame counts for its path
first. -/
theorem heartbeatsAndPaths : Obligations.HeartbeatsAndPaths := by
  refine ⟨fun d a c0 s ha => ⟨fun hf => ?hb, fun c hf => ?fail⟩, fun n a b s hn ha => ⟨fun hb => ?recv, fun hb => ?seen⟩,
    fun n m s hn ha hu h8 hm => ?down, fun d a c0 n m b s hn ha => ?off⟩
  case hb =>
    obtain ⟨⟨c, k, hred⟩, hwire, -⟩ := slotBegun_view a c0 s
    have hsend := sendHb_none (s := slotBegun a c0 s) (by rw [hred]; exact hf)
    have hhbWire : (sendHb (slotBegun a c0 s)).wire =
        s.wire ++ [.vorula 0 1 (frameOf 1 (hbBody s)), .vorula 1 1 (frameOf 1 (hbBody s))] := by
      rw [hsend, bothLinks_wire, hbBody_slotBegun, updRed_wire, hwire]
    have hsnap : (sendHb (slotBegun a c0 s)).red.outSnap = s.red.outSnap := by rw [hsend, bothLinks_red, updRed_red, hred]
    obtain ⟨l, hl⟩ := sendFragment_wire d (sendHb (slotBegun a c0 s))
    refine ⟨_, _, congrArg Host.Outcome.next (heartbeatSend_eq d a c0 ha), rfl, ?_, ?_, fun ho => ?_, fun i b ho hi => ?_,
      by simp, by simp⟩
    · rw [sendFragment_hbSeq, hsend, bothLinks_red, updRed_red, hred]
    · rw [hl, hhbWire]
      simp [hbBody]
    · rw [sendFragment_none d (hsnap.trans ho), hhbWire]
      simp
    · obtain ⟨hnext, hnextWire⟩ := sendFragment_next d (hsnap.trans ho) hi
      exact ⟨hnext, by rw [hnextWire, hhbWire]; simp⟩
  case fail =>
    obtain ⟨⟨c', k, hred⟩, hwire, -⟩ := slotBegun_view a c0 s
    have hsend := sendHb_some (s := slotBegun a c0 s) (c := c) (by rw [hred]; exact hf)
    obtain ⟨l, hl⟩ := sendFragment_wire d (sendHb (slotBegun a c0 s))
    refine ⟨_, _, congrArg Host.Outcome.next (heartbeatSend_eq d a c0 ha), rfl, ?_, by simp, by simp⟩
    rw [hl, hsend, bothLinks_wire, hwire, hred]
    simp
  case recv =>
    obtain ⟨k, hk⟩ := heartbeatReceive_hb (n := n) (a := a) ha hb
    obtain ⟨hpartner, hpath, hbit⟩ := takeHb_view (hbOf b) (pathGood n (if s.isl.prt then s else calibrate false k a s))
    refine ⟨_, (onLink_lt hn ..).trans (congrArg Host.Outcome.next hk), ⟨_, hpartner, rfl, rfl, rfl, rfl, rfl⟩, fun hu hg => ?_,
      by simp, by simp⟩
    obtain ⟨hup, hev⟩ := pathGood_up (s := if s.isl.prt then s else calibrate false k a s) (n := n)
      (by rwa [pathOf_calibrated]) (by rwa [pathOf_calibrated])
    exact ⟨by rwa [hpath], hbit 1 hev⟩
  case seen =>
    exact ⟨_, (onLink_lt hn ..).trans (congrArg Host.Outcome.next (heartbeatReceive_fail ha hb)), rfl, by simp⟩
  case down =>
    obtain ⟨hdown, hev⟩ := countMisses_down hu hm h8
    exact ⟨_, (onLink_lt hn ..).trans (congrArg Host.Outcome.next (if_pos ha)), hdown, hev, by simp, by simp⟩
  case off =>
    refine ⟨?_, (onLink_lt hn ..).trans ?_, (onLink_lt hn ..).trans ?_⟩
    · exact congrArg Host.Outcome.next (by simp [heartbeatSend, betony, ha])
    · exact congrArg Host.Outcome.next (by simp [heartbeatReceive, betony, ha])
    · exact congrArg Host.Outcome.next (by simp [pathDown, betony, ha])

end Sys2Proof.Machine
end

section
/-! PROOFS. Snapshot fragments, FAIL, the role window and the begin and end of a takeover (R366, R370, R373 to R375). Settles O34. -/

namespace Sys2Proof.Machine
open Sys2Proof

/-! ## Snapshots (R370) -/

/-- The fragments that are kept of a sequence. -/
def fragsOf (q : Nat) (s : State) : List (Nat × List Byte) :=
  match s.red.inSnap with | some (r, l) => if r = q then l else [] | none => []

/-- The snapshot that the fragments make. -/
def joined (l : List (Nat × List Byte)) : List Byte :=
  (List.range 8).flatMap fun j => match l.find? fun x => x.1 = j with | some x => x.2 | none => []

/-- Every fragment is there. -/
def whole (l : List (Nat × List Byte)) : Bool := (List.range 8).all fun j => l.any fun x => x.1 = j

/-- A new fragment joins those of its sequence, with the times of fragment 7. -/
theorem snapFragment_new {a : Nat} {b : List Byte} {s : State} (ha : s.isl.aon = true) (hf : frameIs 2 522 b = true)
    (hi : fieldAt b 1 1 < 8) (hnew : ∀ x ∈ fragsOf (fieldAt b 2 4) s, x.1 ≠ fieldAt b 1 1) :
    ∃ time, snapFragment a b s =
      if whole ((fieldAt b 1 1, (b.drop 10).take 512) :: fragsOf (fieldAt b 2 4) s) then
        keepSnap (joined ((fieldAt b 1 1, (b.drop 10).take 512) :: fragsOf (fieldAt b 2 4) s))
          (updRed (fun r => { r with inTime := time, inSnap := none }) s)
      else updRed (fun r => { r with
        inTime := time, inSnap := some (fieldAt b 2 4, (fieldAt b 1 1, (b.drop 10).take 512) :: fragsOf (fieldAt b 2 4) s) }) s := by
  have hany : (!(fragsOf (fieldAt b 2 4) s).any fun x => decide (x.1 = fieldAt b 1 1)) = true := by simpa using hnew
  refine ⟨if fieldAt b 1 1 = 7 then (fieldAt b 6 4, a) else s.red.inTime, ?_⟩
  unfold snapFragment
  extract_lets i seq old new l s1
  have hl : l = (fieldAt b 1 1, (b.drop 10).take 512) :: fragsOf (fieldAt b 2 4) s := if_pos hany
  have hs1 : s1 = updRed (fun r => { r with inTime := if fieldAt b 1 1 = 7 then (fieldAt b 6 4, a) else s.red.inTime }) s := by
    have hn : new = true := hany
    unfold s1
    simp only [hn, true_and]
    rfl
  rw [if_neg (by simp [betony, ha, hf, i, hi]), hl, hs1]
  rfl

/-- A whole snapshot of a sequence not yet kept is one of the last two, or SNAP_BAD is raised. -/
theorem keepSnap_new {w : List Byte} {s : State} (h : ∀ x ∈ s.red.snaps, fieldAt x.bytes 4 4 ≠ fieldAt w 4 4) :
    (keepSnap w s).red.inSnap = s.red.inSnap ∧
    if crc32c (w.take 4092) = fieldAt w 4092 4 then ∃ x, x.bytes = w ∧ (keepSnap w s).red.snaps = (x :: s.red.snaps).take 2
    else (keepSnap w s).red.snaps = s.red.snaps ∧ parBit (keepSnap w s) redEvents 9 = true := by
  have hany : ¬(s.red.snaps.any (fun x => fieldAt x.bytes 4 4 = fieldAt w 4 4)) = true := by simpa using h
  unfold keepSnap
  rw [if_neg hany]
  split
  · exact ⟨rfl, _, rfl, rfl⟩
  · exact ⟨by simp, by simp, parBit_raiseFlag _ _ _ _ (by decide) (by decide)⟩

@[simp] theorem keepSnap_planes (w : List Byte) (s : State) : (keepSnap w s).planes = s.planes := by simp [keepSnap]

/-! ## FAIL and the role window (R366, R373) -/

@[simp] theorem failFrame_red (c : Nat) (s : State) : (failFrame c s).red = s.red := rfl
@[simp] theorem failFrame_planes (c : Nat) (s : State) : (failFrame c s).planes = s.planes := rfl

theorem sendFail_request {c : Nat} {s : State} (hc : s.red.failReq = some c) (hr : s.red.role = 1) (ha : s.isl.aon = true) :
    sendFail s = raiseFlag redEvents 6 c
      (failFrame c (updRed (fun r => { r with role := 5, failReq := none, failing := some c }) s)) := by
  simp [sendFail, hc, hr, betony, ha]

theorem sendFail_other {s : State} (hr : s.red.role ≠ 1) : sendFail s = s := by
  unfold sendFail
  dsimp only
  split
  · rw [if_neg (by simp [hr])]
  · rfl

@[simp] theorem setRole_planes (r : Nat) (s : State) : (setRole r s).planes = s.planes := rfl

/-- The check for SPLIT leaves the role and the window. -/
theorem splitCheck_role (s : State) : (splitCheck s).red.role = s.red.role ∧ (splitCheck s).red.window = s.red.window := by
  unfold splitCheck
  dsimp only
  split <;> simp

/-- The window is over. -/
def windowShut (s : State) : State := updRed (fun r => { r with window := false }) s

theorem roleWindow_active {s : State} (hw : s.red.window = true) (ha : s.isl.aon = true) (hr : par s redRole = 1) :
    (roleWindow s).red.role = (if s.red.winAct then 2 else 1) ∧ (roleWindow s).red.window = false ∧
      (roleWindow s).planes = s.planes := by
  simp only [roleWindow, hw, betony, ha, hr, Bool.not_true, Bool.or_self, Bool.false_eq_true, if_false]
  split
  · simp [setRole]
  · split <;> simp [setRole]

theorem roleWindow_standby {s : State} (hw : s.red.window = true) (ha : s.isl.aon = true) (hr : par s redRole = 2) :
    roleWindow s = splitCheck (setRole 2 (windowShut s)) := by
  simp [roleWindow, hw, betony, ha, hr, windowShut]

theorem roleWindow_none {s : State} (hw : s.red.window = true) (ha : s.isl.aon = true) (hr : par s redRole = 0) :
    roleWindow s = setRole 0 (windowShut s) := by
  simp [roleWindow, hw, betony, ha, hr, windowShut]

/-! ## Takeovers (R374, R375) -/

theorem takeover_cold {a : Nat} {s : State} (ha : s.isl.aon = true) (hr : s.red.role = 3) (hs : par s redRole = 2)
    (hf : s.red.failSeen = true) (hp : par s redHashPolicy ≠ 1) :
    (takeover a s).red.role = 4 ∧ (takeover a s).isl.power = true ∧
      (takeover a s).red.take = some { cold := true, dark := true, c0 := a } ∧ (takeover a s).params = s.params ∧
      (takeover a s).planes = s.planes := by
  simp [takeover, betony, ha, hr, hs, hf, beginTake, hp]

theorem takeover_active {a : Nat} {s : State} (hr : s.red.role = 1) : takeover a s = s := by simp [takeover, hr]

theorem takeFails_other {k : Nat} {s : State} (hr : s.red.role ≠ 4) : takeFails k s = s := by simp [takeFails, hr]

/-- Settles O34: the fragments first, then FAIL, the window and the takeover, each by what its function does in its case. -/
theorem failRolesAndTakeovers : Obligations.FailRolesAndTakeovers := by
  refine ⟨?snap, fun c s hc hr ha => ?fail, fun s hr => congrArg Host.Outcome.next (sendFail_other hr),
    fun s hw ha => ⟨fun hr => ?active, fun hr => ?standby, fun hr => ?norole⟩, fun s hw => ?shut,
    fun a s ha hr hs hf hp => ⟨_, rfl, takeover_cold ha hr hs hf hp⟩,
    fun k s hr => ?takefail, fun a k s hr => ⟨congrArg Host.Outcome.next (takeover_active hr),
      congrArg Host.Outcome.next (takeFails_other (by simp [hr]))⟩⟩
  case snap =>
    rintro n i q d a x _ s hn ha rfl hf hi
    refine ⟨fun ho => ?_, fun l hl hnew hall w hw hseq => ?_⟩
    · have hfrags : fragsOf (fieldAt (snapFrame i q d x) 2 4) s = [] := by simp [fragsOf, ho]
      obtain ⟨time, ht⟩ := snapFragment_new (a := a) ha hf hi (by simp [hfrags])
      rw [hfrags, if_neg (by simp [whole, List.range_succ]; omega)] at ht
      exact ⟨_, (onLink_lt hn ..).trans (congrArg Host.Outcome.next ht), rfl, rfl, rfl, rfl, rfl⟩
    · have hfrags : fragsOf (fieldAt (snapFrame i q d x) 2 4) s = l := by simp [fragsOf, hl]
      obtain ⟨time, ht⟩ := snapFragment_new (a := a) ha hf hi (by rwa [hfrags])
      have hwhole : whole ((fieldAt (snapFrame i q d x) 1 1, ((snapFrame i q d x).drop 10).take 512) :: l) = true := by
        simp only [whole, List.all_eq_true, List.any_eq_true, decide_eq_true_eq]
        intro j hj
        obtain hj | ⟨y, hy, hj⟩ := hall j (List.mem_range.1 hj)
        · exact ⟨_, List.mem_cons_self .., hj.symm⟩
        · exact ⟨y, List.mem_cons_of_mem _ hy, hj⟩
      have hjoined : joined ((fieldAt (snapFrame i q d x) 1 1, ((snapFrame i q d x).drop 10).take 512) :: l) = w := hw.symm
      rw [hfrags, if_pos hwhole, hjoined] at ht
      obtain ⟨hin, hkeep⟩ := keepSnap_new (w := w) (s := updRed (fun r => { r with inTime := time, inSnap := none }) s) hseq
      exact ⟨_, (onLink_lt hn ..).trans (congrArg Host.Outcome.next ht), hin, hkeep, by simp, by simp⟩
  case fail =>
    refine ⟨_, congrArg Host.Outcome.next (sendFail_request hc hr ha), ?_⟩
    simp [parBit_raiseFlag]
  case active => exact ⟨_, rfl, roleWindow_active hw ha hr⟩
  case standby =>
    obtain ⟨hrole, hwin⟩ := splitCheck_role (setRole 2 (windowShut s))
    exact ⟨_, congrArg Host.Outcome.next (roleWindow_standby hw ha hr), hrole, hwin, by simp [windowShut]⟩
  case norole => exact ⟨_, congrArg Host.Outcome.next (roleWindow_none hw ha hr), rfl, rfl, rfl, rfl⟩
  case shut => exact congrArg Host.Outcome.next (by simp [roleWindow, hw])
  case takefail =>
    obtain ⟨hrole, htake, hev⟩ := takeFails_taking k hr
    exact ⟨_, rfl, hrole, htake, hev, by simp, by simp⟩

end Sys2Proof.Machine
end

section
/-! PROOFS. SELF_TEST, SAVE_SETTINGS, FW_UPDATE, FW_DATA and FW_ACTIVATE in RESET mode (R394 to R396, R401, R404, R424). Settles
O57. -/

namespace Sys2Proof.Machine
open Sys2Proof

theorem withLength_ok {ok : Bool} (h : ok = true) (cls op : Nat) (e : Env) (f : State → State) (s : State) :
    withLength ok cls op e f s = f s := by simp [withLength, h]

@[simp] theorem begun_fw (op : Nat) (e : Env) (s : State) : (begun op e s).fw = s.fw := by simp [begun]
@[simp] theorem begun_params (op : Nat) (e : Env) (s : State) : (begun op e s).params = (acceptSeq e s).params := by simp [begun]
@[simp] theorem begun_isl (op : Nat) (e : Env) (s : State) : (begun op e s).isl = s.isl := by simp [begun]
@[simp] theorem begun_prt (op : Nat) (e : Env) (s : State) : (begun op e s).prt = s.prt := by simp [begun]
@[simp] theorem begun_red (op : Nat) (e : Env) (s : State) : (begun op e s).red = s.red := by simp [begun]

/-! ## SELF_TEST (R424) -/

theorem allStopped_congr {s t : State} (h : t.planes = s.planes) : allStopped t = allStopped s := by
  simp only [allStopped, lane_congr h]

theorem selfTest_accepted {e : Env} {m : Nat} {s : State} (hf : Fresh 0x0120 1 e s) (hr : Room s) (h1 : 1 ≤ m) (h256 : m < 256)
    (hs : allStopped s = true) (hn : s.isl.selfTest = none) : ∃ t, exec (.selfTest e m) s = .next t ∧ Accepted 2 0x0120 e s t ∧
      t.isl.selfTest = some (nextHandle s, m) ∧ t.planes = s.planes ∧ t.params = (acceptSeq e s).params := by
  have hrange : ¬(m = 0 ∨ 256 ≤ m) := by omega
  have hb : selfTest m e (nextHandle s) (acceptSeq e s) = accepted 0x0120 e
      (fun s1 => { s1 with isl := { s1.isl with selfTest := some (nextHandle s, m) } }) (acceptSeq e s) := by
    simp [selfTest, hrange, allStopped_congr (acceptSeq_planes e s), hs, hn]
  obtain ⟨hx, hacc⟩ := exec_begun (i := .selfTest e m) rfl hf hr hb rfl
  exact ⟨_, hx, hacc, by simp, by simp, by simp⟩

theorem selfTest_powered {e : Env} {m : Nat} {s : State} (hf : Fresh 0x0120 1 e s) (hr : Room s) (h1 : 1 ≤ m) (h256 : m < 256)
    (hs : allStopped s = false) : ∃ t, exec (.selfTest e m) s = .next t ∧ Answered 2 0x0120 e stWrongState e.handle [] t ∧
      t.isl = s.isl ∧ t.planes = s.planes := by
  have hrange : ¬(m = 0 ∨ 256 ≤ m) := by omega
  have hb : selfTest m e (nextHandle s) (acceptSeq e s) = refuse stWrongState (acceptSeq e s) := by
    simp [selfTest, hrange, allStopped_congr (acceptSeq_planes e s), hs]
  have hx := serve_now (cls := 2) (needs := fun _ => true) hf (fun _ => hr) hb
  exact ⟨_, congrArg Host.Outcome.next hx, lastKept_answer .., by simp, by simp⟩

/-- The end of the tests writes the two masks. -/
theorem par_selfTestComplete {x h m : Nat} {s : State} (hs : s.isl.selfTest = some (h, m)) (hm : m < 256) :
    par (selfTestComplete x s) sysSelftest = (m - Nat.land (failMask x s) m) + 65536 * Nat.land (failMask x s) m := by
  have hle : Nat.land (failMask x s) m ≤ m := Nat.and_le_right
  simp only [selfTestComplete, endSelfTest, hs]
  rw [par_complete _ _ _ _ _ (by decide), showTests, par_setPar_same]
  generalize Nat.land (failMask x s) m = fail at hle
  rw [Nat.mod_eq_of_lt (show m - fail < 65536 by omega), Nat.mod_eq_of_lt (show fail < 65536 by omega), Nat.mod_eq_of_lt (by omega)]

theorem selfTestComplete_ends {x h m : Nat} {s : State} (hs : s.isl.selfTest = some (h, m)) (ht : tansyUp s = true) :
    (selfTestComplete x s).isl.selfTest = none ∧ findOp (selfTestComplete x s) h = none ∧
      (selfTestComplete x s).planes = s.planes := by
  simp only [selfTestComplete, endSelfTest, hs]
  generalize Nat.land (failMask x s) m = fail
  set s1 := if (m - fail + fail).testBit 6 = true then ftInject s else s with hs1
  obtain ⟨hisl, hpl⟩ : s1.isl = s.isl ∧ s1.planes = s.planes := by
    rw [hs1]
    split <;> simp
  refine ⟨by simp [showTests], findOp_complete_same _ _ _ _ _ ?_, ?_⟩
  · show (s1.isl.sys && !s1.isl.restart) = true
    rwa [hisl]
  · rw [complete_planes]
    exact hpl

/-! ## SAVE_SETTINGS (R401) -/

theorem runTrial_congr {s t : State} (h : t.fw = s.fw) : runTrial t = runTrial s := by simp only [runTrial, slotOf_congr h, h]

theorem copyOf_setCopy (n : Nat) (r : Option Rec) (s : State) : copyOf (setCopy n r s) n = r := by
  by_cases hn : n = 0 <;> simp [copyOf, setCopy, hn]

theorem saveSettings_accepted {e : Env} {s : State} (hf : Fresh 0x0122 1 e s) (hr : Room s) (hh : s.fw.hitless = none)
    (hs : s.fw.saving = none) : ∃ t n r, exec (.saveSettings e) s = .next t ∧ Accepted 2 0x0122 e s t ∧
      t.fw.saving = some (nextHandle s, n, r) ∧ r.staged = runTrial s ∧ t.planes = s.planes ∧
      t.params = (acceptSeq e s).params := by
  obtain ⟨hx, hacc⟩ := exec_begun (i := .saveSettings e) (work := saveBegin (nextHandle s)) rfl hf hr
    (by simp only [acceptSeq_fw, hh, hs, Option.isSome_none, Bool.or_self, Bool.false_eq_true, if_false])
    (by simp [saveBegin, setCopy])
  refine ⟨_, _, _, hx, hacc, by rw [answer_fw]; rfl, ?_, by simp [saveBegin, setCopy], by simp [saveBegin, setCopy]⟩
  exact runTrial_congr (begun_fw ..)

theorem settingsSaved_ends {h n : Nat} {r : Rec} {s : State} (hs : s.fw.saving = some (h, n, r)) (ht : tansyUp s = true) :
    (settingsSaved s).fw.saving = none ∧ copyOf (settingsSaved s) n = some r ∧ findOp (settingsSaved s) h = none ∧
      (settingsSaved s).planes = s.planes := by
  have he : settingsSaved s = complete h stOk cNone [] (setCopy n (some r) (updFw (fun f => { f with saving := none }) s)) := by
    simp [settingsSaved, hs]
  rw [he]
  refine ⟨?_, ?_, findOp_complete_same _ _ _ _ _ ht, by simp [setCopy]⟩
  · rw [complete_fw, setCopy, updFw_fw]
    split <;> rfl
  · exact (congrArg (fun w : Fw => if n = 0 then w.copy0 else w.copy1) (complete_fw ..)).trans (copyOf_setCopy ..)

theorem settingsSaved_none {s : State} (hs : s.fw.saving = none) : settingsSaved s = s := by simp [settingsSaved, hs]

/-! ## FW_UPDATE and FW_DATA (R394 to R396) -/

theorem otherSlot_congr {s t : State} (h : t.fw = s.fw) : otherSlot t = otherSlot s := by simp only [otherSlot, h]

theorem fwUpdate_accepted {e : Env} {len kind : Nat} {b : List Byte} {s : State} (hf : Fresh 0x0130 1 e s) (hr : Room s)
    (hl : b.length = 64) (hst : updateStatus len kind 0 b (acceptSeq e s) = stOk) :
    ∃ t, exec (.fwUpdate e len kind 0 b) s = .next t ∧ Accepted 2 0x0130 e s t ∧
      t.fw.upd = some { handle := nextHandle s, len := len, kind := kind } ∧
      (kind < 2 → slotOf t (otherSlot s) = {}) ∧ t.planes = s.planes ∧ t.params = (acceptSeq e s).params := by
  have hb : fwUpdate e len kind 0 b (nextHandle s) (acceptSeq e s) =
      accepted 0x0130 e (beginUpdate (nextHandle s) len kind) (acceptSeq e s) := by simp [fwUpdate, hst]
  have hother : otherSlot (begun 0x0130 e s) = otherSlot s := otherSlot_congr (begun_fw ..)
  have hw : (beginUpdate (nextHandle s) len kind (begun 0x0130 e s)).host = (begun 0x0130 e s).host := by
    unfold beginUpdate
    split <;> rfl
  obtain ⟨hx, hacc⟩ := exec_begun (i := .fwUpdate e len kind 0 b)
    (congrArg Host.Outcome.next (withLength_ok (by simp [hl]) ..)) hf hr hb hw
  refine ⟨_, hx, hacc, by rw [answer_fw]; rfl, fun hk => ?_, ?_, ?_⟩
  · rw [slotOf_congr (answer_fw ..), beginUpdate, if_pos hk, hother]
    exact slotOf_updSlotFw_same (otherSlot s) (fun _ => {}) _
  · unfold beginUpdate
    split <;> simp [updSlotFw]
  · unfold beginUpdate
    split <;> simp [updSlotFw]

theorem exec_fwData {e : Env} {p : DataPay} {st : Nat} {s t : State} (hf : Fresh 0x0220 1 e s) (hl : dataLen p.data = true)
    (hst : st ≠ stAccepted) (hb : fwData e p (acceptSeq e s) = (t, say st)) :
    exec (.fwData e p) s = .next (answer 3 0x0220 e st e.handle [] t) :=
  congrArg Host.Outcome.next ((withLength_ok hl ..).trans (serveShort_answer hf hst hb))

/-- A fragment that leaves its block incomplete is kept with the others. -/
theorem fwData_kept {e : Env} {p : DataPay} {u : Upd} {f : Frag} {fs : List Frag} {s : State} (hu : s.fw.upd = some u)
    (hh : u.handle = e.handle) (h6 : p.pre.b6 = 0) (hg : p.pre.grp = 0) (hc : p.pre.unit < blockCount u) (hn : u.next ≤ p.pre.unit)
    (ha : ∀ x ∈ u.ahead, x.1 ≠ p.pre.unit) (hl : p.pre.offset + p.data.length ≤ blockLen u p.pre.unit)
    (hadd : addFrag p.pre.unit 0 0 p.pre.offset p.data u.frags = some (f, fs)) (hw : fragWhole (blockLen u p.pre.unit) f = none) :
    fwData e p s = done (updFw fun w => { w with upd := some { u with frags := fs } }) s := by
  have hahead : (u.ahead.any fun b => decide (b.1 = p.pre.unit)) = false := by simpa using ha
  simp [fwData, hu, hh, h6, hg, Nat.not_le.2 hc, Nat.not_lt.2 hn, Nat.not_lt.2 hl, hahead, hadd, hw]

/-! ## FW_ACTIVATE in RESET mode (R404) -/

/-- What answers a command keeps its reply last, whatever events follow. -/
theorem lastKept_congr {s t : State} {c : Chan} (h : (chanSt t c).replies = (chanSt s c).replies) : lastKept t c = lastKept s c := by
  rw [lastKept, h, lastKept]

/-- The kept replies of a channel. -/
abbrev replies (c : Chan) (s : State) : List (Nat × Nat × Packet) := (chanSt s c).replies

theorem replies_congr (c : Chan) {s t : State} (h : t.host = s.host) : replies c t = replies c s := by
  cases c <;> simp only [replies, chanSt, h]

theorem replies_noteEvent (c : Chan) (n : Nat) (s : State) : replies c (noteEvent n s) = replies c s := by
  cases c <;> rfl

theorem replies_pushSpi (c : Chan) (p : Packet) (s : State) : replies c (pushSpi p s) = replies c s := by
  unfold pushSpi
  split <;> cases c <;> rfl

theorem replies_sendDst (c : Chan) (p : Packet) (n : Nat) (s : State) : replies c (sendDst p n s) = replies c s := by
  unfold sendDst
  split <;> cases c <;> rfl

theorem replies_routeAsync (c : Chan) (p : Packet) (s : State) : replies c (routeAsync p s) = replies c s := by
  unfold routeAsync
  dsimp only
  rw [replies_sendDst, replies_sendDst, replies_sendDst, replies_sendDst]
  split
  · rw [replies_pushSpi, replies_noteEvent]
  · exact replies_noteEvent ..

theorem replies_sendAsync (c : Chan) (o : Option Nat) (n : Nat) (b : List Byte) (s : State) :
    replies c (sendAsync o n b s) = replies c s := by
  unfold sendAsync
  split
  · exact replies_routeAsync ..
  · split
    · cases c <;> rfl
    · split
      · unfold colPut
        (repeat' split) <;> cases c <;> rfl
      · rfl

theorem replies_raiseFlag (c : Chan) (id b d : Nat) (s : State) : replies c (raiseFlag id b d s) = replies c s :=
  (replies_sendAsync ..).trans (by cases c <;> rfl)

/-- An entry of a UDP source. -/
def isUdp (ip port : Nat) (x : Nat × Nat × ChanSt) : Bool := decide (x.1 = ip) && decide (x.2.1 = port)

theorem isUdp_iff {ip port : Nat} {x : Nat × Nat × ChanSt} : isUdp ip port x = true ↔ x.1 = ip ∧ x.2.1 = port := by simp [isUdp]

/-- The entry of a UDP source with another state for it. -/
def rekeyed (ip port : Nat) (k : ChanSt) (x : Nat × Nat × ChanSt) : Nat × Nat × ChanSt :=
  if isUdp ip port x then (ip, port, k) else x

theorem isUdp_rekeyed (ip port ip' port' : Nat) (k : ChanSt) : isUdp ip port ∘ rekeyed ip' port' k = isUdp ip port := by
  funext x
  simp only [Function.comp_apply, rekeyed]
  split
  case isTrue hx =>
    obtain ⟨h1, h2⟩ := isUdp_iff.1 hx
    simp [isUdp, h1, h2]
  case isFalse => rfl

theorem chanSt_udp (ip port : Nat) (s : State) :
    chanSt s (.udp ip port) = ((s.host.udps.find? (isUdp ip port)).map fun x => x.2.2).getD {} := by
  show (match s.host.udps.find? (isUdp ip port) with | some x => x.2.2 | none => {}) = _
  cases s.host.udps.find? (isUdp ip port) <;> rfl

/-- An event on a channel changes its event sequence alone. -/
theorem replies_keepChan (c d : Chan) (k : Nat) (s : State) :
    replies c (keepChan d { chanSt s d with evSeq := k } s) = replies c s := by
  cases d with
  | spi => cases c <;> rfl
  | udp ip' port' =>
    cases c with
    | spi => rfl
    | udp ip port =>
      generalize hk : ({ chanSt s (.udp ip' port') with evSeq := k } : ChanSt) = k'
      have hu : (keepChan (.udp ip' port') k' s).host.udps = s.host.udps.map (rekeyed ip' port' k') := rfl
      rw [replies, replies, chanSt_udp, chanSt_udp, hu, List.find?_map, isUdp_rekeyed]
      cases hx : s.host.udps.find? (isUdp ip port) with
      | none => rfl
      | some x =>
        obtain ⟨h1, h2⟩ := isUdp_iff.1 (List.find?_some hx)
        simp only [Option.map_some, Option.getD_some, rekeyed]
        split
        case isTrue hd =>
          obtain ⟨h3, h4⟩ := isUdp_iff.1 hd
          subst h1 h2 h3 h4
          rw [← hk, chanSt_udp, hx]
          rfl
        case isFalse => rfl

theorem replies_sendTo (c d : Chan) (p : Packet) (s : State) : replies c (sendTo d p s) = replies c s := by
  unfold sendTo
  split
  · rfl
  · cases d with
    | spi => exact (replies_pushSpi ..).trans (replies_noteEvent ..)
    | udp ip port =>
      dsimp only
      exact Eq.trans (by cases c <;> rfl) ((replies_keepChan ..).trans (replies_noteEvent ..))

theorem replies_complete (c : Chan) (h st ca : Nat) (r : List Byte) (s : State) : replies c (complete h st ca r s) = replies c s := by
  unfold complete
  split
  · rfl
  · split
    · cases c <;> rfl
    · exact (replies_sendTo ..).trans (congrArg ChanSt.replies (chanSt_updHost_other _ _ _ rfl rfl))

theorem replies_closeRecord (c : Chan) (n : Nat) (s : State) : replies c (closeRecord n s) = replies c s := by
  unfold closeRecord
  split
  · rfl
  · exact (replies_raiseFlag ..).trans (replies_congr c (by simp [updSlot]))

theorem closeRecord_ops (n : Nat) (s : State) : (closeRecord n s).host.ops = s.host.ops := by
  unfold closeRecord
  split
  · rfl
  · simp [updSlot]

/-- A cause does not touch a plane that is OFF or STOPPED. -/
theorem causeAt_stopped {p : Plane} (c : Nat) (m : Ports) {s : State} (h : poweredSt (lane s p).st = false) : causeAt p c m s = s := by
  unfold causeAt
  split
  · rfl
  · split <;> simp_all [poweredSt]

theorem causeEvery_stopped (c : Nat) (m : Ports) {s : State} (h : allStopped s = true) : causeEvery c m s = s := by
  have hp : ∀ p, poweredSt (lane s p).st = false := fun p => by
    have := List.all_eq_true.1 h p (by cases p <;> decide)
    simpa using this
  have hone : ∀ p, causeAt p c m s = s := fun p => causeAt_stopped c m (hp p)
  simp [causeEvery, causeEach, allPlanes, hone]

/-- The checks of FW_ACTIVATE in RESET mode want every plane OFF or STOPPED. -/
theorem allStopped_of_activateStatus {k : Nat} {s : State} (h : activateStatus false k s = stOk) : allStopped s = true := by
  have hneed := firstFail_eq_ok.1 h (need (allStopped s) stWrongState) (by simp)
  exact (need_eq_ok (by decide)).1 hneed

theorem fwActivate_resets {e : Env} {k : Nat} {s : State} (hf : Fresh 0x0131 1 e s) (hr : Room s) (hg : groupActivates s = false)
    (hreset : s.prt.resetting = none) (hst : activateStatus false k (acceptSeq e s) = stOk) :
    ∃ t, exec (.fwActivate e 0 k) s = .next t ∧ Answered 2 0x0131 e stAccepted (nextHandle s) [] t ∧ t.prt.resetting = some 2 ∧
      findOp t (nextHandle s) = none := by
  have hgroup : groupActivates (acceptSeq e s) = false := by simpa [groupActivates] using hg
  set u := complete (nextHandle s) stOk cNone [] (answer 2 0x0131 e stAccepted (nextHandle s) [] (begun 0x0131 e s)) with hu
  have hb : fwActivate e 0 k (nextHandle s) (acceptSeq e s) = (beginReset 2 u, .later) := by
    simp [fwActivate, hgroup, hst, hu, begun]
  have hx := serve_later (cls := 2) (needs := fun _ => true) hf (fun _ => hr) hb
  have hstop : allStopped u = true := by
    rw [allStopped_congr (t := u) (s := acceptSeq e s) (by simp [hu])]
    exact allStopped_of_activateStatus hst
  have hreset' : u.prt.resetting = none := by simpa [hu] using hreset
  have hdone : beginReset 2 u = updPrt (fun r => { r with resetting := some 2 }) (closeRecord 2 u) := by
    rw [beginReset_eq hreset', causeEvery_stopped _ _ hstop]
  have hlast : lastKept u e.chan = some (e.seq, e.crc, replyPacket 2 0x0131 e stAccepted (nextHandle s) []) :=
    (lastKept_congr (replies_complete ..)).trans (lastKept_answer ..)
  have hop : findOp u (nextHandle s) = none :=
    findOp_complete_same _ _ _ _ _ (by simpa [tansyUp] using tansyUp_acceptSeq hf)
  refine ⟨_, congrArg Host.Outcome.next hx, ?_, ?_, ?_⟩
  · rw [Answered, hdone, lastKept_congr (replies_congr _ (updPrt_host ..)), lastKept_congr (replies_closeRecord ..)]
    exact hlast
  · rw [hdone, updPrt_prt]
  · rwa [hdone, findOp_congr (s := u) (by rw [updPrt_host, closeRecord_ops])]

/-- Settles O57: each command by the equation of its function where its checks pass or fail, each end by that of its own. -/
theorem selfTestsSettingsAndUpdates : Obligations.SelfTestsSettingsAndUpdates := by
  refine ⟨fun e m s hf hr h1 h256 => ⟨selfTest_accepted hf hr h1 h256, selfTest_powered hf hr h1 h256⟩,
    fun x h m s hs hm ht => ?test, fun e s hf hr hh hs => saveSettings_accepted hf hr hh hs,
    fun h n r s hs ht => ⟨_, rfl, settingsSaved_ends hs ht⟩, fun s hs => congrArg Host.Outcome.next (settingsSaved_none hs),
    fun e len kind b s hf hr hl hst => fwUpdate_accepted hf hr hl hst,
    fun e p s hf hl => ⟨fun u f fs hu hh h6 hg hc hn ha hlen hadd hw => ?kept, fun hu => ?noUpdate⟩,
    fun e k s hf hr hg hreset hst => ?activate⟩
  case test =>
    obtain ⟨hend, hop, hpl⟩ := selfTestComplete_ends (x := x) hs ht
    exact ⟨_, rfl, hend, hop, par_selfTestComplete hs hm, hpl⟩
  case kept =>
    have hb := fwData_kept (s := acceptSeq e s) (by simpa using hu) hh h6 hg hc hn ha hlen hadd hw
    exact ⟨_, exec_fwData hf hl (by decide) hb, lastKept_answer .., by simp, by simp, by simp, by simp⟩
  case noUpdate =>
    have hb : fwData e p (acceptSeq e s) = refuse stNoHandle (acceptSeq e s) := by simp [fwData, hu]
    exact ⟨_, exec_fwData hf hl (by decide) hb, lastKept_answer .., by simp⟩
  case activate => exact fwActivate_resets hf hr hg hreset hst

end Sys2Proof.Machine
end

section
/-! PROOFS. A hitless activation, ATTEST and DEBUG_UNLOCK (R393, R404 to R408, R412). Settles O58. -/

namespace Sys2Proof.Machine
open Sys2Proof

/-! ## The load and the swap (R404 to R406) -/

theorem fwActivateHitless_accepted {e : Env} {k : Nat} {s : State} (hf : Fresh 0x0131 1 e s) (hr : Room s)
    (hg : groupActivates s = false) (hst : activateStatus true k (acceptSeq e s) = stOk) :
    ∃ t, exec (.fwActivateHitless e 0 k) s = .next t ∧ Accepted 2 0x0131 e s t ∧
      t.fw.hitless = some { handle := nextHandle s, ask := k } ∧ t.planes = s.planes ∧ t.isl = s.isl := by
  have hgroup : groupActivates (acceptSeq e s) = false := by simpa [groupActivates] using hg
  have hb : fwActivateHitless e 0 k (nextHandle s) (acceptSeq e s) =
      accepted 0x0131 e (beginHitless (nextHandle s) k) (acceptSeq e s) := by simp [fwActivateHitless, hgroup, hst]
  obtain ⟨hx, hacc⟩ := exec_begun (i := .fwActivateHitless e 0 k) rfl hf hr hb rfl
  exact ⟨_, hx, hacc, by simp [beginHitless], by simp [beginHitless], by simp [beginHitless]⟩

/-- A migration changes the firmware store and the counter of free values, and leaves the activation but its staged copy. -/
theorem stageMigrated_view (l : List (Nat × Word)) (x : List (Nat × List Byte)) {h : Hitless} {s : State} (hh : s.fw.hitless = some h) :
    (∃ r, (stageMigrated l x s).fw.hitless = some { h with staged := r }) ∧ (stageMigrated l x s).planes = s.planes ∧
      (stageMigrated l x s).params = s.params := by
  unfold stageMigrated
  rw [hh]
  dsimp only
  split
  · exact ⟨⟨_, hh⟩, rfl, rfl⟩
  · exact ⟨⟨_, rfl⟩, rfl, rfl⟩

theorem hitlessReady_waits {h : Hitless} {l : List (Nat × Word)} {x : List (Nat × List Byte)} {s : State} (hh : s.fw.hitless = some h)
    (h1 : h.stage = 1) (ha : h.ask = 0) (hc : compsOk (slotOf s (otherSlot s)) = true) (hl : convertFails l s = none) :
    ∃ t g, exec (.hitlessReady (.words l x)) s = .next t ∧ t.fw.hitless = some g ∧ g.stage = 3 ∧ g.handle = h.handle ∧
      g.kh = boundaryAfter 5000000 s ∧ t.planes = s.planes ∧ t.params = s.params := by
  obtain ⟨⟨r, hr⟩, hpl, hpar⟩ := stageMigrated_view l x hh
  have he : hitlessReady (.words l x) s =
      updFw (fun f => { f with hitless := f.hitless.map fun h => { h with stage := 3, kh := boundaryAfter 5000000 s } })
        (stageMigrated l x s) := by
    simp [hitlessReady, hh, h1, hc, hl, fixKh, ha]
  exact ⟨_, { h with staged := r, stage := 3, kh := boundaryAfter 5000000 s }, congrArg Host.Outcome.next he,
    by simp only [updFw_fw, hr, Option.map_some], rfl, rfl, rfl, hpl, hpar⟩

theorem updSlotFw_run (n : Nat) (f : FwSlot → FwSlot) (s : State) : (updSlotFw n f s).fw.run = s.fw.run := by
  rw [updSlotFw, updFw_fw]
  split <;> rfl

theorem setCopy_run (n : Nat) (r : Option Rec) (s : State) : (setCopy n r s).fw.run = s.fw.run := by
  rw [setCopy, updFw_fw]
  split <;> rfl

theorem dropStaged_view (h : Hitless) (s : State) : (dropStaged h s).fw.run = s.fw.run ∧ (dropStaged h s).planes = s.planes ∧
    (dropStaged h s).isl = s.isl := by
  unfold dropStaged
  split
  · exact ⟨setCopy_run .., rfl, rfl⟩
  · exact ⟨rfl, rfl, rfl⟩

theorem endAct_view (h st : Nat) (s : State) : (endAct h st s).fw = s.fw ∧ (endAct h st s).planes = s.planes ∧
    (endAct h st s).isl = s.isl := by
  unfold endAct
  split
  · split <;> exact ⟨rfl, rfl, rfl⟩
  · exact ⟨rfl, rfl, rfl⟩

/-- The end of an activation: none is under way, its handle is completed, and the image in force is as it was. -/
theorem endActivation_ends {h : Hitless} (st c : Nat) {s : State} (hh : s.fw.hitless = some h) (ht : tansyUp s = true) :
    (endActivation st c s).fw.hitless = none ∧ findOp (endActivation st c s) h.handle = none ∧
      (endActivation st c s).fw.run = s.fw.run ∧ (endActivation st c s).planes = s.planes ∧
      (endActivation st c s).isl = s.isl := by
  simp only [endActivation, hh]
  set s0 := if st = stOk then s else dropStaged h s with hs0
  have h0 : s0.fw.run = s.fw.run ∧ s0.planes = s.planes ∧ s0.isl = s.isl := by
    rw [hs0]
    split
    · exact ⟨rfl, rfl, rfl⟩
    · exact dropStaged_view h s
  set s1 := if h.back then updSlotFw (otherSlot s) (fun x => { x with st := 1, tries := 0 }) s0 else s0 with hs1
  have h1 : s1.fw.run = s.fw.run ∧ s1.planes = s.planes ∧ s1.isl = s.isl := by
    rw [hs1]
    split
    · exact ⟨(updSlotFw_run ..).trans h0.1, h0.2⟩
    · exact h0
  obtain ⟨hrun, hpl, hisl⟩ := h1
  obtain ⟨hfw, hplA, hislA⟩ := endAct_view h.handle st (updFw (fun f => { f with hitless := none }) s1)
  refine ⟨by rw [complete_fw, hfw]; rfl, findOp_complete_same _ _ _ _ _ ?_, by rw [complete_fw, hfw]; exact hrun,
    by rw [complete_planes, hplA]; exact hpl, by rw [complete_isl, hislA]; exact hisl⟩
  rw [tansyUp, hislA]
  exact (congrArg (fun i : Isl => i.sys && !i.restart) hisl).trans ht

theorem hitlessReady_fails {h : Hitless} {i w : Nat} {s : State} (hh : s.fw.hitless = some h) (h1 : h.stage = 1) :
    ∃ st, hitlessReady (.fails i w) s = endActivation st cNone s := by
  by_cases hc : compsOk (slotOf s (otherSlot s)) = true
  · exact ⟨stMigFailed, by simp [hitlessReady, hh, h1, hc]⟩
  · exact ⟨stAuthFail, by simp [hitlessReady, hh, h1, hc]⟩

/-- The activation once the images have changed over, with the new Campion writing at the first boundary. -/
def swapped (h : Hitless) (s : State) : Hitless :=
  { h with stage := 4, skip := 0, two := false, back := false, oldGfm := some s.gfm, oldMsd := some s.msd }

theorem hitlessSwap_first {h : Hitless} {s : State} (hh : s.fw.hitless = some h) (h3 : h.stage = 3) (hk : 0 ≤ markDiff (sampleK s) h.kh) :
    ∃ t g, exec (.hitlessSwap .first) s = .next t ∧ t.fw.hitless = some g ∧ g.stage = 4 ∧ g.skip = 0 ∧
      (slotOf t (otherSlot s)).st = 2 ∧ (slotOf t (otherSlot s)).tries = 1 ∧ t.planes = s.planes ∧ t.params = s.params := by
  have hdue : ¬(h.stage ≠ 3 ∨ markDiff (sampleK s) h.kh < 0) := by simp [h3, hk]
  have he : hitlessSwap .first s = updSlotFw (otherSlot s) (fun x => { x with st := 2, tries := 1 })
      (updFw (fun f => { f with hitless := some (swapped h s) }) s) := by
    simp only [hitlessSwap, hh, if_neg hdue]
    rfl
  refine ⟨_, swapped h s, congrArg Host.Outcome.next he, ?_, rfl, rfl, ?_, ?_, rfl, rfl⟩
  · rw [updSlotFw, updFw_fw, updFw_fw]
    split <;> rfl
  · rw [slotOf_updSlotFw_same]
  · rw [slotOf_updSlotFw_same]

theorem hitless_none {s : State} (hn : s.fw.hitless = none) : hitlessReady (.words [] []) s = s ∧ hitlessSwap .first s = s ∧
    tansyRestart s = s ∧ tansyRestartDone s = s := by
  simp [hitlessReady, hitlessSwap, tansyRestart, tansyRestartDone, hn]

/-! ## The restart of Tansy (R405, R408) -/

/-- What an operation leaves of the planes, the islands and the firmware. -/
def core (s : State) : Planes × Isl × Fw := (s.planes, s.isl, s.fw)

theorem core_congr {s t : State} (h1 : t.planes = s.planes) (h2 : t.isl = s.isl) (h3 : t.fw = s.fw) : core t = core s := by
  simp only [core, h1, h2, h3]

@[simp] theorem core_complete (h st c : Nat) (r : List Byte) (s : State) : core (complete h st c r s) = core s :=
  core_congr (by simp) (by simp) (by simp)

@[simp] theorem core_holdSlot (n : Nat) (up : Bool) (s : State) : core (holdSlot n up s) = core s :=
  core_congr (by simp [holdSlot, updSlot]) (by simp [holdSlot, updSlot]) (by simp [holdSlot, updSlot])

@[simp] theorem core_endRead (o : ReadOp) (st c : Nat) (s : State) : core (endRead o st c s) = core s := by
  unfold endRead
  rw [core_complete]
  split
  · rw [core_holdSlot]
    rfl
  · rfl

@[simp] theorem core_endLoad (o : LoadOp) (st c : Nat) (x : Slot) (s : State) : core (endLoad o st c x s) = core s := by
  rw [endLoad, core_complete]
  rfl

@[simp] theorem core_cancelAll (l : List Nat) (c : Nat) (s : State) : core (cancelAll l c s) = core s :=
  core_congr (by simp) (by simp) (by simp)

@[simp] theorem core_endTxn (st c : Nat) (r : List Byte) (s : State) : core (endTxn st c r s) = core s := by
  unfold endTxn
  split
  · rfl
  · rw [core_complete]
    rfl

@[simp] theorem core_endBeforeRestart (s : State) : core (endBeforeRestart s) = core s := by
  unfold endBeforeRestart
  extract_lets s1 s2 s3 drop s4
  have h1 : core s1 = core s := foldl_same core _ (fun s o => core_endRead ..) _ _
  have h2 : core s2 = core s := by
    unfold s2
    split
    · rw [core_complete, core_holdSlot]
      exact h1
    · exact h1
  have h3 : core s3 = core s := by
    unfold s3
    split
    · rw [core_endLoad, h2]
    · exact h2
  have hdrop : ∀ n u, core (drop n u) = core u := fun n u => (core_cancelAll ..).trans (by by_cases hn : n = 0 <;> simp [core, updEth, hn])
  have h4 : core s4 = core s := by rw [show s4 = drop 1 (drop 0 s3) from rfl, hdrop, hdrop, h3]
  split
  · split
    · rw [core_endTxn, h4]
    · exact h4
  · exact h4

theorem tansyRestart_begins {h : Hitless} {s : State} (hh : s.fw.hitless = some h) (h4 : h.stage = 4) (hw : h.wrote = true)
    (hb : h.back = false) : (tansyRestart s).isl.restart = true ∧ (tansyRestart s).fw.hitless = some { h with stage := 5 } ∧
      (tansyRestart s).planes = s.planes ∧ (tansyRestart s).prt = s.prt := by
  have hpl : (endBeforeRestart s).planes = s.planes := congrArg Prod.fst (core_endBeforeRestart s)
  simp [tansyRestart, hh, h4, hw, hb, hpl]

/-! ### The end of the restart -/

/-- What the commands of the planes leave of the islands and the firmware. -/
def islFw (s : State) : Isl × Fw := (s.isl, s.fw)

theorem islFw_congr {s t : State} (h1 : t.isl = s.isl) (h2 : t.fw = s.fw) : islFw t = islFw s := by simp only [islFw, h1, h2]

theorem islFw_endReplay (st c : Nat) (s : State) : islFw (endReplay st c s) = islFw s := by
  unfold endReplay
  split
  · rfl
  · exact (islFw_congr (by rw [complete_isl, raiseFlag_isl, setPar_isl]) (by rw [complete_fw, raiseFlag_fw, setPar_fw])).trans
      (congrArg Prod.snd (core_holdSlot s.replay.slot false { s with replay := {} }))

theorem islFw_forceBlock (l : List Plane) (s : State) : islFw (forceBlock l s) = islFw s :=
  foldl_same islFw _ (fun s p => by split <;> exact islFw_congr (by simp) (by simp)) l s

theorem islFw_enterReady (p : Plane) (s : State) : islFw (enterReady p s) = islFw s := by
  unfold enterReady
  extract_lets s1 s2 s3
  have h2 : islFw s2 = islFw s := islFw_congr (by simp [s2, s1]) (by simp [s2, s1])
  have h3 : islFw s3 = islFw s := by
    unfold s3
    split
    · exact (islFw_congr (causeAt_isl ..) (causeAt_fw ..)).trans h2
    · exact h2
  split
  · exact h3
  · exact (islFw_congr (causeAt_isl ..) (causeAt_fw ..)).trans ((islFw_forceBlock ..).trans h3)

@[simp] theorem islFw_doEnable (p : Plane) (s : State) : islFw (doEnable p s) = islFw s :=
  islFw_congr (by simp [doEnable, startCounter, rebinLane]) (by simp [doEnable, startCounter, rebinLane])

@[simp] theorem islFw_doDisable (p : Plane) (s : State) : islFw (doDisable p s) = islFw s := by
  have hstate : islFw (enterState p .off .pulseBlock s) = islFw s := islFw_congr (by simp) (by simp)
  unfold doDisable
  dsimp only
  split
  · exact (islFw_endReplay ..).trans hstate
  · exact hstate

theorem islFw_sixTable (s : State) : islFw (sixTable s) = islFw s := by
  unfold sixTable
  extract_lets put lo src s1
  have h1 : islFw s1 = islFw s := islFw_congr (setParBit_isl ..) (setParBit_fw ..)
  split
  · exact (foldl_same islFw put (fun s x => rfl) _ s1).trans h1
  · exact h1

@[simp] theorem islFw_doStart (p : Plane) (s : State) : islFw (doStart p s) = islFw s := by
  unfold doStart
  dsimp only
  split
  · exact islFw_sixTable ..
  · rfl

@[simp] theorem islFw_doDisarm (p : Plane) (s : State) : islFw (doDisarm p s) = islFw s :=
  islFw_congr (by simp [doDisarm]) (by simp [doDisarm])

@[simp] theorem islFw_doTestEnter (p : Plane) (s : State) : islFw (doTestEnter p s) = islFw s :=
  islFw_congr (by simp [doTestEnter, driveTest]) (by simp [doTestEnter, driveTest])

@[simp] theorem islFw_doTestExit (p : Plane) (s : State) : islFw (doTestExit p s) = islFw s :=
  islFw_enterReady ..

theorem islFw_planeWork (op : Nat) (p : Plane) (h : Nat) (s : State) : islFw (planeWork op p h s).1 = islFw s := by
  unfold planeWork
  extract_lets short need
  have hshort : ∀ st (f : State → State), islFw (f s) = islFw s → islFw (short st f).1 = islFw s := fun st f hf => by
    unfold short
    split
    · exact hf
    · rfl
  split
  · exact hshort _ _ (islFw_doEnable ..)
  · split
    · split <;> rfl
    · split
      · exact hshort _ _ (islFw_doStart ..)
      · split
        · split <;> rfl
        · split
          · exact hshort _ _ (islFw_doDisarm ..)
          · split
            · exact hshort _ _ (islFw_doDisable ..)
            · split
              · rfl
              · split
                · exact hshort _ _ (islFw_doTestEnter ..)
                · exact hshort _ _ (islFw_doTestExit ..)

theorem islFw_runQueue (p : Plane) (n : Nat) (s : State) : islFw (runQueue p n s) = islFw s := by
  induction n generalizing s with
  | zero => rfl
  | succ n ih =>
    unfold runQueue
    extract_lets l
    split
    · rfl
    · split
      · rfl
      · extract_lets r
        have hr : islFw r.1 = islFw s := islFw_planeWork ..
        split
        · split
          · exact hr
          · exact hr
        · rw [ih]
          exact (islFw_congr (by simp) (by simp)).trans hr

theorem islFw_drainAll (s : State) : islFw (drainAll s) = islFw s :=
  foldl_same islFw _ (fun s p => by
    unfold drainQueue
    split
    · exact islFw_runQueue ..
    · rfl) _ s

/-- With no command queued at any plane the queues leave everything as it is. -/
theorem drainAll_empty {s : State} (h : ∀ p, (lane s p).queued = []) : drainAll s = s := by
  have hone : ∀ p, drainQueue p s = s := fun p => drainQueue_empty (h p)
  simp [drainAll, hone]

theorem core_flushHeld (s : State) : core (flushHeld s) = core s :=
  (foldl_same core _ (fun _ _ => core_congr (by simp) (by simp) (by simp)) _ _).trans
    (foldl_same core _ (fun _ _ => core_congr (by simp) (by simp) (by simp)) _ _)

theorem core_flushLate (keep : Nat → Bool) (s : State) : core (flushLate keep s) = core s :=
  foldl_same core _ (fun s x => by
    split
    · split
      · exact core_complete ..
      · rfl
    · rfl) _ _

/-- The migrated set leaves the islands and, of the firmware, the activation and the image that runs. -/
theorem takeMigrated_view (h : Hitless) (s : State) : (takeMigrated h s).isl = s.isl ∧
    (takeMigrated h s).fw.hitless = s.fw.hitless ∧ (takeMigrated h s).fw.run = s.fw.run := by
  unfold takeMigrated
  split
  case h_1 n r _ =>
    extract_lets s1
    have h1 : islFw s1 = islFw s := foldl_same islFw _ (fun s w => by split <;> rfl) _ s
    have h2 := foldl_same islFw
      (fun (s : State) (x : Nat × Tile) => if tileAt s (physTile s x.1) = x.2 then s else evict x.1 (putTile (physTile s x.1) x.2 s))
      (fun s x => by split <;> rfl) r.tiles s1
    obtain ⟨hisl, hfw⟩ := Prod.mk.inj (h2.trans h1)
    have hhit := congrArg Fw.hitless hfw
    have hrun := congrArg Fw.run hfw
    exact ⟨hisl, hhit, hrun⟩
  case h_2 => exact ⟨rfl, rfl, rfl⟩

theorem takeMigrated_none {h : Hitless} {s : State} (hs : h.staged = none) : takeMigrated h s = s := by simp [takeMigrated, hs]

theorem par_endActivation (st c : Nat) (s : State) {j : Nat} (h : j ≠ sysEvtLostCnt) : par (endActivation st c s) j = par s j := by
  unfold endActivation
  split
  · rfl
  · rw [par_complete _ _ _ _ _ h]
    exact par_congr (by simp) j

theorem tansyRestartDone_ends {h : Hitless} {s : State} (hh : s.fw.hitless = some h) (h5 : h.stage = 5)
    (hr : s.isl.restart = true) (hsys : s.isl.sys = true) : (tansyRestartDone s).isl.restart = false ∧
      (tansyRestartDone s).fw.hitless = none ∧ (tansyRestartDone s).fw.run = some (otherSlot s) ∧
      parBit (tansyRestartDone s) fwEvents 3 = true ∧ findOp (tansyRestartDone s) h.handle = none ∧
      (h.staged = none → (∀ p, (lane s p).queued = []) → (tansyRestartDone s).planes = s.planes) := by
  simp only [tansyRestartDone, hh, h5, hr, ne_eq, not_true_eq_false, decide_false, Bool.not_true, Bool.or_self, Bool.false_eq_true,
    if_false]
  set u := flushLate (fun _ => true) (flushHeld { s with isl := { s.isl with restart := false } }) with hu
  have hcore : core u = core { s with isl := { s.isl with restart := false } } := (core_flushLate ..).trans (core_flushHeld _)
  obtain ⟨hupl, hucore⟩ := Prod.mk.inj hcore
  obtain ⟨hisl, hfw⟩ := Prod.mk.inj ((islFw_drainAll u).trans hucore)
  set v := updFw (fun f => { f with
    run := some (otherSlot s), chosen := some (otherSlot s),
    stopped := !(s.isl.ctl && s.isl.app && s.isl.acq && s.isl.aon) }) (drainAll u) with hv
  obtain ⟨htisl, hthit, htrun⟩ := takeMigrated_view h v
  have hwhit : (raiseFlag fwEvents 3 0 (takeMigrated h v)).fw.hitless = some h := by
    rw [raiseFlag_fw, hthit]
    exact (congrArg Fw.hitless hfw).trans hh
  have hwisl : (raiseFlag fwEvents 3 0 (takeMigrated h v)).isl = { s.isl with restart := false } := by
    rw [raiseFlag_isl, htisl]
    exact hisl
  have htansy : tansyUp (raiseFlag fwEvents 3 0 (takeMigrated h v)) = true := by rw [tansyUp, hwisl, hsys]; rfl
  obtain ⟨hnone, hop, hrun, hpl, hislEnd⟩ := endActivation_ends stOk cNone hwhit htansy
  refine ⟨congrArg Isl.restart (hislEnd.trans hwisl), hnone, ?_, ?_, hop, fun hst hq => ?_⟩
  · rw [hrun, raiseFlag_fw, htrun, hv, updFw_fw]
  · rw [parBit, par_endActivation _ _ _ (by decide)]
    exact parBit_raiseFlag _ _ _ _ (by decide) (by decide)
  · have hqueue : ∀ p, (lane u p).queued = [] := fun p => by rw [lane_congr hupl]; exact hq p
    rw [hpl, raiseFlag_planes, takeMigrated_none hst, hv, updFw_planes, drainAll_empty hqueue]
    exact hupl

/-- A restart that outlasts FW.RESTART_MAX counts ISL_SYS as stopped (R408). -/
theorem restartMax_stops {s : State} (hr : s.isl.restart = true) (hs : s.isl.sys = true) : (restartMax s).isl.sys = false ∧
    (restartMax s).isl.restart = false ∧ (restartMax s).host.irq = s.host.irq ||| 8 ∧ (restartMax s).planes = s.planes := by
  simp [restartMax, hr, islandStopped, islandRuns, hs, islandDown, stopHealth]

theorem restartMax_none {s : State} (hr : s.isl.restart = false) : restartMax s = s := by simp [restartMax, hr]

/-! ## ATTEST and DEBUG_UNLOCK (R393, R412) -/

theorem attest_answered {e : Env} {b : List Byte} {s : State} (hf : Fresh 0x0132 1 e s) (hl : b.length = 32) :
    exec (.attest e b) s = .next (answer 2 0x0132 e stOk e.handle
      (statement b (acceptSeq e s) ++ Config.ed25519Sign (statement b (acceptSeq e s))) (acceptSeq e s)) :=
  congrArg Host.Outcome.next ((withLength_ok (by simp [hl]) ..).trans (serveShort_now hf (by decide) rfl))

theorem tokenOk_acceptSeq (b : List Byte) (e : Env) (s : State) : tokenOk b (acceptSeq e s) = tokenOk b s := by
  simp only [tokenOk, keyOf, acceptSeq_fw, par_acceptSeq e s (show fwKeyPolicy ≠ sysSeqGapCnt by decide)]

theorem exec_debugUnlock {e : Env} {b : List Byte} {st : Nat} {s t : State} (hf : Fresh 0x0133 1 e s) (hl : b.length = 104)
    (hst : st ≠ stAccepted) (hb : debugUnlock b (acceptSeq e s) = (t, say st)) :
    exec (.debugUnlock e b) s = .next (answer 2 0x0133 e st e.handle [] t) :=
  congrArg Host.Outcome.next ((withLength_ok (by simp [hl]) ..).trans (serveShort_answer hf hst hb))

/-- Settles O58: the activation's steps in their order, each by what its function does in the stage that it wants. -/
theorem hitlessActivationAndUnlock : Obligations.HitlessActivationAndUnlock := by
  refine ⟨fun e k s hf hr hg hst => fwActivateHitless_accepted hf hr hg hst,
    fun h l x s hh h1 ha hc hl => hitlessReady_waits hh h1 ha hc hl, fun h i w s hh h1 ht => ?fails,
    fun h s hh h3 hk => hitlessSwap_first hh h3 hk, fun h s hh h4 hw hb => ⟨_, rfl, tansyRestart_begins hh h4 hw hb⟩,
    fun s hn => ?none, fun h s hh h5 hr hsys _ => ⟨_, rfl, tansyRestartDone_ends hh h5 hr hsys⟩,
    fun s hr hs => ⟨_, rfl, restartMax_stops hr hs⟩, fun s hr => congrArg Host.Outcome.next (restartMax_none hr),
    fun e b s hf hl => ⟨_, attest_answered hf hl, lastKept_answer .., by simp, by simp, by simp⟩,
    fun e b s hf hl h3 h36 hstop => ⟨fun htok => ?unlock, fun htok => ?refused⟩⟩
  case fails =>
    obtain ⟨st, he⟩ := hitlessReady_fails (i := i) (w := w) hh h1
    exact ⟨_, congrArg Host.Outcome.next he, endActivation_ends st cNone hh ht⟩
  case none =>
    obtain ⟨hready, hswap, hrestart, hdone⟩ := hitless_none hn
    exact ⟨congrArg Host.Outcome.next hready, congrArg Host.Outcome.next hswap, congrArg Host.Outcome.next hrestart,
      congrArg Host.Outcome.next hdone⟩
  case unlock =>
    have hb : debugUnlock b (acceptSeq e s) = (drawNonce (updFw (fun f => { f with life := 2 }) (acceptSeq e s)), say stOk) := by
      simp [debugUnlock, h3, h36, allStopped_congr (acceptSeq_planes e s), hstop, tokenOk_acceptSeq, htok]
    refine ⟨_, exec_debugUnlock hf hl (by decide) hb, lastKept_answer .., ?_, ?_, ?_⟩ <;> simp [drawNonce]
  case refused =>
    have hb : debugUnlock b (acceptSeq e s) = (raiseFlag fwEvents 4 0 (drawNonce (acceptSeq e s)), say stAuthFail) := by
      simp [debugUnlock, h3, h36, allStopped_congr (acceptSeq_planes e s), hstop, tokenOk_acceptSeq, htok]
    refine ⟨_, exec_debugUnlock hf hl (by decide) hb, lastKept_answer .., by simp [drawNonce], ?_, by simp [drawNonce]⟩
    rw [parBit_congr (answer_params ..)]
    exact parBit_raiseFlag _ _ _ _ (by decide) (by decide)

end Sys2Proof.Machine
end

section
/-! PROOFS. A MODE action may, as the model writes parameters, end a handle itself: a word of NET.ETH0_Q_EN discards a queue, and the
handles of its frames complete with CANCELLED (R290). Refutes O28. -/

namespace Sys2Proof.Machine
open Sys2Proof

/-- A MODE action of one word: 0 for NET.ETH0_Q_EN. -/
def disableQueues : GAct :=
  { handle := 5, id := 1, kind := 1, payload := List.replicate 24 0 ++ le 2 (netEthQEn 0) ++ [0, 0] ++ le 4 0,
    decided := true, begun := true }

/-- A member at t_apply of that action, with queue 0 of port 0 enabled and in it a frame that goes by the action's handle. -/
def sharedHandle : State :=
  { params := [(netEthQEn 0, 1), (redGroupId, 1)], isl := { sys := true, ext := true }, red := { act := some disableQueues },
    eth0 := { queues := [[{ handle := some 5 }]] }, host := { ops := [{ handle := 5, opcode := 0x0140, chan := .spi }] } }

theorem sharedHandle_passes : paramFailure .config (modeEntries disableQueues.payload) sharedHandle = none := by decide +kernel

/-- The word discards the queue, which cancels the handle before the action completes it. -/
theorem groupApply_sharedHandle_lastStatus : lastStatus (groupApply sharedHandle) = some stCancelled := by decide +kernel

/-- Refutes O28, in its clause on t_apply: the last completion of the action's handle is not OK but CANCELLED, where the action's own
word has ended the handle. -/
theorem not_groupActionsAndDescriptors : ¬ Obligations.GroupActionsAndDescriptors := by
  unfold Obligations.GroupActionsAndDescriptors
  rintro ⟨-, -, -, happly, -⟩
  obtain ⟨hmode, -⟩ := happly disableQueues sharedHandle rfl rfl (by decide +kernel) rfl
  obtain ⟨t, ht, -, -, -, hlast, -⟩ := hmode rfl sharedHandle_passes
  obtain rfl : groupApply sharedHandle = t := Host.Outcome.next.inj ht
  have hok : lastStatus (groupApply sharedHandle) = some stOk := hlast { handle := 5, opcode := 0x0140, chan := .spi } rfl
  rw [groupApply_sharedHandle_lastStatus] at hok
  exact absurd hok (by decide)

end Sys2Proof.Machine
end
